-- ==== Sys2Proof/Word.lean ====
section
/-! DEFINITION. The words of the register space (R6: registers are 32 bits wide) and the byte of a frame. -/
namespace Sys2Proof

/-- A register or a bus dword (00_scope, "Register access codes"). -/
abbrev Word := BitVec 32

/-- One byte of a frame or of a message. -/
abbrev Byte := BitVec 8

end Sys2Proof
end

