-- ==== Sys2Proof/Types.lean ====
section
/-! DEFINITION. The names and records that the commands carry: pages, carriers, frames, cells, messages. -/
namespace Sys2Proof

/-- A register page of the directory (R34). -/
inductive Page where
  | dev | ses | log | cad
  | tim | vsq | tsn
  | fpw | ftl | frl | fbr
  | qsc | sch
  | bsc | stp | fct
  | msc | mch (c : Fin 17)
  | hsc (d : Fin 2) | hlg (d : Fin 2) (g : Fin 4)
  | csc (k : Fin 16) | txo (k : Fin 16) | rxe (k : Fin 16) | lfe (k : Fin 16) | fcr (k : Fin 16)
  deriving DecidableEq, Repr

/-- The two orderable parts (R2). -/
inductive Part where
  | ec | el
  deriving DecidableEq, Repr

/-- The SNAP pairs of the register space (R6, R8), by the chapter that owns them. -/
inductive SnapPair where
  | nonce | serial | time | errAddr
  | stateTime (k : Fin 16) | fcTx (k : Fin 16) | fcRx (k : Fin 16)
  deriving DecidableEq, Repr

/-- A PCI Express configuration request (R28, R29, R498): a read of a dword, a write of the MSI-X
control bits, or a write of one of the six dwords of the base address registers. -/
inductive CfgReq where
  | read (off : Nat)
  | msixControl (enable functionMask : Bool)
  | bar (i : Fin 6) (v : Word)
  deriving DecidableEq, Repr

/-- The two management interfaces (R46, R48). -/
inductive Iface where
  | host | rail
  deriving DecidableEq, Repr

/-- The two sides of the isolation barrier. -/
inductive Side where
  | hub | field
  deriving DecidableEq, Repr

/-- The two feeds (R350). -/
inductive Feed where
  | a | b
  deriving DecidableEq, Repr

/-- Why a receiver enters HOLDOVER (R115). -/
inductive HoldoverCause where
  | signal | pilots | localSwitch
  deriving DecidableEq, Repr

/-- The RXE registers whose range rule is R119. -/
inductive RxReg where
  | rxCtrl | cdCfg | rxPower
  deriving DecidableEq, Repr

/-- What one inner codeword's decoding shows (R151, R152, R155). -/
structure CwResult where
  /-- iterations used -/
  iters : Nat
  /-- the syndrome was zero at the last iteration -/
  clean : Bool
  /-- corrected bits of the inner code -/
  corr : Nat
  /-- unsatisfied checks of the hard decisions, of 2,880 -/
  unsat : Nat
  /-- more than half of the soft values were zero -/
  mostlyZero : Bool
  /-- every other codeword phase showed a share above 0.48 -/
  othersHigh : Bool
  /-- outer blocks completed and left uncorrected -/
  ueBlocks : Nat
  /-- corrected bits of the outer code -/
  outerCorr : Nat
  deriving DecidableEq, Repr

/-- An inner codeword as it reaches the decoder: its soft values (R110), and whether every other codeword phase showed a share above 0.48
(R151). -/
structure CwIn where
  soft : List Int
  othersHigh : Bool
  deriving DecidableEq, Repr

/-- One span of data symbols between two pilots (R109): the phase of the opening pilot, how far the tracked phase moved over the span and the
phase of the closing pilot, in 1/1024 turn, and the received quadratures of its data symbols, XI, XQ, YI, YQ, in 1/64 of the level of amplitude 1. -/
structure PhaseBlock where
  opening : Int
  drift : Int
  closing : Int
  ys : List (Int × Int × Int × Int)
  deriving DecidableEq, Repr

/-- What a frame of the 800ZR agreement shows, whose own format the agreement gives (R112, R157): alignment, the start of a multiframe,
the local and the remote defect indication, the client frames that it completes. -/
structure ZrFrame where
  aligned : Bool
  start : Bool
  ldi : Bool
  rdi : Bool
  client : List (List Byte)
  deriving DecidableEq, Repr

/-- A received frame as the framing part takes it from the outer decoder, with what the receiver's estimators show
over it. -/
structure RxFrame where
  /-- where in the decoded stream the frame is looked for: the bit position of its FAS modulo the frame (R175) -/
  pos : Nat
  /-- bits 0-1023 of block 0 as received, still scrambled from bit 72 on; bit 0 of the frame is the most significant -/
  oh : BitVec 1024
  /-- length of block 0, bits (R165) -/
  len0 : Nat
  /-- bits 1024-5119 of block 0, the justification area, and the bits of blocks 1-71, as received, still scrambled (R167, R172) -/
  area : List Bool
  body : List Bool
  /-- the staircase blocks that hold its bits, the first and the last, numbered from the codeword lock on (R155); in the 800ZR mode the
  agreement's codewords -/
  first : Nat
  last : Nat
  /-- SNR of each subcarrier over the multiframe, 0.125 dB units (R111) -/
  snr : List Nat
  /-- differential group delay 0.1 ps, and polarization rotation 0.01 Mrad/s (POL_STATE) -/
  dgd : Nat
  sop : Nat
  /-- residual dispersion that the equalizers measure, ps/nm (R102) -/
  cdRes : Int
  /-- the coefficient words that the adaptation of each equalizer has reached (R103, R106) -/
  eq : List (List (BitVec 16))
  /-- the offsets that the frequency and the timing loop track, 1 MHz and 0.01 ppm (R107, R108), and the input power, 0.01 dBm -/
  freq : Int
  clock : Int
  power : Int
  /-- the frame in the 800ZR mode -/
  zr : ZrFrame
  /-- ADC samples clipped, and bits and errors of a locked PRBS checker, since the last frame (R97, R122) -/
  adcClips : Nat
  prbsBits : Nat
  prbsErrors : Nat
  deriving DecidableEq, Repr

/-- A line cell (R219): the 8-byte header and the 256-byte body. -/
structure LineCell where
  header : BitVec 64
  body : List Byte
  deriving DecidableEq, Repr

/-- The code's verdict on one DDR5 burst (R272): the symbols in error of each device of the sub-channel. -/
structure BurstErr where
  /-- symbol errors of devices 0-9 of the sub-channel -/
  perDevice : List Nat
  /-- the burst was stored poisoned (R279) -/
  poisoned : Bool
  deriving DecidableEq, Repr

/-- Where a DDR5 burst lies (R296): row, bank group, bank, sub-channel, and its logical address. -/
structure BurstLoc where
  row : BitVec 17
  bg : BitVec 3
  bank : BitVec 2
  sub : Bool
  addr : BitVec 39
  deriving DecidableEq, Repr

/-- A steering message (R309) whose fields are in range. -/
structure SteerMsg where
  seq : BitVec 8
  release : Bool
  dir : Bool
  lane : Fin 128
  spare : Fin 8
  reason : BitVec 8
  deriving DecidableEq, Repr

/-- One elastic port's counts over a 10 us PACE sample (R319): words moved by the clocked side, words moved by
the interior side, and the thousandths of the sample for which the interior side waited. -/
structure PortSample where
  q : Nat
  m : Nat
  wait : Nat
  deriving DecidableEq, Repr

/-- A rail reception (R390-R394): its samples, and what the transform makes of them. -/
structure RailSoft where
  /-- the samples received, at 2.5 MS/s: of a row that finds a preamble those in which it is found, of any other the symbols after the
  preamble, frame control first -/
  samples : List (BitVec 16)
  /-- of each symbol after the preamble the soft values of its tones' bits, tone 16 first: positive for a 1, greater the surer -/
  soft : List (List (List Int))
  /-- the feed on which it was heard -/
  feed : Feed
  /-- measured SNR per tone, 0.25 dB units, tone 16 first -/
  snr : List Nat
  deriving DecidableEq, Repr

/-- One of the four control inputs, numbered as R453 numbers them. -/
inductive CtlInput where
  | resetN | quiesceN | inhibitTxN | forceStartN
  deriving DecidableEq, Repr

/-- The indirect windows (R232, R269). -/
inductive IndPage where
  | qsc | sch | fct
  deriving DecidableEq, Repr

/-- Which tile of an engine lost a further cell (R426). -/
inductive TileKind where
  | txoSubcarrier (sc : Fin 8) | txoDac | rxeAdc | rxeSubcarrier (sc : Fin 8)
  | ldpcGroup | encoder | cipher | bufferBank (ingress : Bool) | cacheBank | schSlice | laneSlice | ddrSlice
  deriving DecidableEq, Repr

/-- Why a port goes down (R301): alignment lost, Local Fault received, Remote Fault received, more than the
limit of uncorrectable RS codewords. -/
inductive LinkCause where
  | alignment | localFault | remoteFault | fecUncorr
  deriving DecidableEq, Repr

/-- What a loopback or PRBS setting acts on (R304, R305): the lane selected in a lane group, or a spare in one
direction. -/
inductive LaneTarget where
  | group (g : Fin 4)
  | spare
  deriving DecidableEq, Repr

/-- What the dies' self-tests and the memory channels' training show at steps 10 and 11 of a start (R274, R284, R427, R441). -/
structure StartFound where
  /-- dies whose self-test passes: bits 0-3 LD0-LD3, 4 HB, 5-6 HD0-HD1 -/
  dies : BitVec 7
  /-- each channel trains (0), trains with one device unusable (1), or fails (2); the device; the margins as TRAIN shows them -/
  train : List Nat
  device : List (Fin 20)
  margin : List Word
  /-- whether sPPR repairs each row of the repair list, in its order -/
  soft : List Bool
  deriving DecidableEq, Repr

end Sys2Proof
end

