-- ==== Sys2Proof/Syntax.lean ====
section
/-! DEFINITION. The commands of the block: one constructor per row of the table (spec/opcode_table.json), with the
operands that the environment supplies: in the table's order the rows that have operands, then the rows that have none (Lean's
compiler lets no constructor past the 245th carry operands). -/
namespace Sys2Proof

/-- A command to the module. Each docstring names the row and its rule. -/
inductive Instr where
  /-- CONFIG_REQUEST (R498) -/
  | configRequest (r : CfgReq)
  /-- BAR0_READ (R31) -/
  | bar0Read (addr n : Nat)
  /-- SNAP_LOW_READ (R8) -/
  | snapLowRead (p : SnapPair)
  /-- BAR2_READ (R458) -/
  | bar2Read (addr n : Nat)
  /-- BAR4_WRITE (R62) -/
  | bar4Write (off : Nat) (v : Word)
  /-- REGISTER_WRITE (R6) -/
  | registerWrite (addr : Nat) (v : Word) (be : BitVec 4)
  /-- PAGE_ENABLE (R501) -/
  | pageEnable (p : Page) (on : Bool)
  /-- PAGE_HOLD (R37) -/
  | pageHold (p : Page) (on : Bool)
  /-- ENGINE_HELD (R37) -/
  | engineHeld (p : Page)
  /-- PAGE_SOFT_RESET (R37) -/
  | pageSoftReset (p : Page)
  /-- PAGE_DRAIN (R37) -/
  | pageDrain (p : Page) (on : Bool)
  /-- ENGINE_DRAINED (R37) -/
  | engineDrained (p : Page)
  /-- EVENT_W1C (R62) -/
  | eventW1c (p : Page) (bits same : Word)
  /-- EVENT_ENABLE_WRITE (R63) -/
  | eventEnableWrite (p : Page) (v : Word)
  /-- EVENT_FORCE (R64) -/
  | eventForce (p : Page) (v : Word)
  /-- FLIP_MASK_WRITE (R41) -/
  | flipMaskWrite (p : Page) (v : Word)
  /-- SECTION_MASK_WRITE (R62) -/
  | sectionMaskWrite (v : Word)
  /-- SESSION_REQUEST (R45) -/
  | sessionRequest (role : BitVec 2)
  /-- PROOF_PORT_WRITE (R45) -/
  | proofPortWrite (v : Word)
  /-- LOCKOUT_EXPIRY (R48) -/
  | lockoutExpiry (i : Iface)
  /-- KETTLE_CTRL_CLEAR (R59) -/
  | kettleCtrlClear (v : Word)
  /-- WARM_RESET (R68) -/
  | warmReset (v : Word)
  /-- LASER_FREQ_WRITE (R87) -/
  | laserFreqWrite (k : Fin 16) (v : Word)
  /-- TUNE_PHASE_DONE (R496) -/
  | tunePhaseDone (k : Fin 16) (freqErr : Int)
  /-- LASER_LOCK_TIMEOUT (R93) -/
  | laserLockTimeout (k : Fin 16)
  /-- LASER_LOCK_LOSS (R93) -/
  | laserLockLoss (k : Fin 16)
  /-- FREQ_DEV (R93) -/
  | freqDev (k : Fin 16) (freqErr : Int)
  /-- TX_POWER_WRITE (R89) -/
  | txPowerWrite (k : Fin 16) (v : Word)
  /-- POWER_RAMP_DONE (R89) -/
  | powerRampDone (k : Fin 16) (measured : Int)
  /-- POWER_DEV (R89) -/
  | powerDev (k : Fin 16) (measured : Int)
  /-- TILT_WRITE (R78) -/
  | tiltWrite (k : Fin 16) (hi : Bool) (v : Word)
  /-- OUTPUT_ENABLE_WRITE (R85) -/
  | outputEnableWrite (k : Fin 16) (on : Bool)
  /-- SPARE_LASER_REQUEST (R90) -/
  | spareLaserRequest (k : Fin 16)
  /-- SPARE_LASER_RELEASE (R90) -/
  | spareLaserRelease (k : Fin 16)
  /-- SPARE_SWITCH (R90) -/
  | spareSwitch (k : Fin 16)
  /-- COEF_DATA_WRITE (R81) -/
  | coefDataWrite (k : Fin 16) (v : Word)
  /-- COEF_COMMIT (R81) -/
  | coefCommit (k : Fin 16) (v : Word)
  /-- COEF_COPY (R81) -/
  | coefCopy (k : Fin 16)
  /-- COEF_FACTORY (R81) -/
  | coefFactory (k : Fin 16)
  /-- BIAS_LIMIT (R91) -/
  | biasLimit (k : Fin 16) (bias pct : Nat)
  /-- TX_TEST_WRITE (R95) -/
  | txTestWrite (k : Fin 16) (v : Word)
  /-- TX_FRAME_START (R163) -/
  | txFrameStart (k : Fin 16) (dt : Nat) (drive : Nat)
  /-- SIGNAL_LOSS (R100) -/
  | signalLoss (k : Fin 16) (power : Int)
  /-- SIGNAL_RETURN (R100) -/
  | signalReturn (k : Fin 16) (power : Int)
  /-- ACQ_STEP_DONE (R113) -/
  | acqStepDone (k : Fin 16) (found : Bool) (cd freq clock : Int)
  /-- ACQ_TIMEOUT (R114) -/
  | acqTimeout (k : Fin 16)
  /-- HOLDOVER_ENTRY (R115) -/
  | holdoverEntry (k : Fin 16) (cause : HoldoverCause)
  /-- HOLDOVER_EXIT (R115) -/
  | holdoverExit (k : Fin 16)
  /-- LOCK_LOST (R115) -/
  | lockLost (k : Fin 16)
  /-- PHASE_BLOCK_RESOLVED (R109) -/
  | phaseBlockResolved (k : Fin 16) (sc : Fin 8) (b : PhaseBlock)
  /-- EQ_RESTART (R104) -/
  | eqRestart (k : Fin 16) (bits : BitVec 8)
  /-- EQ_RESTART_DONE (R104) -/
  | eqRestartDone (k : Fin 16) (bits : BitVec 8)
  /-- EQ_VIEW_CAPTURE (R106) -/
  | eqViewCapture (k : Fin 16)
  /-- EQ_CAPTURE_DONE (R106) -/
  | eqCaptureDone (k : Fin 16) (words : List (BitVec 16))
  /-- ADC_BACKGROUND_CAL (R99) -/
  | adcBackgroundCal (k : Fin 16) (slicesAtEnd : Nat)
  /-- RX_FRAME_BOUNDARY (R175) -/
  | rxFrameBoundary (k : Fin 16) (f : RxFrame)
  /-- RX_CTRL_WRITE (R119) -/
  | rxCtrlWrite (k : Fin 16) (r : RxReg) (v : Word)
  /-- RX_TEST_WRITE (R122) -/
  | rxTestWrite (k : Fin 16) (v : Word)
  /-- LM_REFRESH (R129) -/
  | lmRefresh (k : Fin 16) (switch60 : BitVec 8) (probe60 : BitVec 8)
  /-- PROPOSE_RECEIVED (R134) -/
  | proposeReceived (k : Fin 16) (msg : List Byte)
  /-- ANNOUNCE_RECEIVED (R136) -/
  | announceReceived (k : Fin 16) (msg : List Byte)
  /-- REJECT_RECEIVED (R133) -/
  | rejectReceived (k : Fin 16) (msg : List Byte)
  /-- SHED_RECEIVED (R139) -/
  | shedReceived (k : Fin 16) (msg : List Byte)
  /-- RESYNC_RECEIVED (R136) -/
  | resyncReceived (k : Fin 16) (msg : List Byte)
  /-- PROPOSAL_TIMEOUT (R129) -/
  | proposalTimeout (k : Fin 16)
  /-- SHED_WINDOW_END (R138) -/
  | shedWindowEnd (k : Fin 16) (snr : List Nat)
  /-- SHED_HOLD_EXPIRY (R140) -/
  | shedHoldExpiry (k : Fin 16)
  /-- NEG_TIMEOUT (R142) -/
  | negTimeout (k : Fin 16)
  /-- MANUAL_ANNOUNCE (R137) -/
  | manualAnnounce (k : Fin 16) (v : Word)
  /-- CODEWORD_DECODE (R152) -/
  | codewordDecode (k : Fin 16) (x : CwIn)
  /-- ZR_MODE_WRITE (R159) -/
  | zrModeWrite (k : Fin 16) (v : Word)
  /-- ALIGN_MISS_TICK (R176) -/
  | alignMissTick (k : Fin 16)
  /-- LOS_DECLARE (R178) -/
  | losDeclare (k : Fin 16)
  /-- LOS_CLEAR (R178) -/
  | losClear (k : Fin 16)
  /-- LOF_DECLARE (R178) -/
  | lofDeclare (k : Fin 16)
  /-- LOF_CLEAR (R178) -/
  | lofClear (k : Fin 16)
  /-- HYPOTHESIS_CHANGE (R177) -/
  | hypothesisChange (k : Fin 16)
  /-- LOF_MAP_LOST (R177) -/
  | lofMapLost (k : Fin 16)
  /-- AUTO_DRAIN (R182) -/
  | autoDrain (k : Fin 16)
  /-- AUTO_UNDRAIN (R182) -/
  | autoUndrain (k : Fin 16)
  /-- REMOTE_FAULT_START (R183) -/
  | remoteFaultStart (c : Fin 64)
  /-- CR_SELECT (R195) -/
  | crSelect (k : Fin 16) (v : Word)
  /-- KEY_PORT_WRITE (R195) -/
  | keyPortWrite (k : Fin 16) (v : Word)
  /-- KEY_SALT_WRITE (R195) -/
  | keySaltWrite (k : Fin 16) (v : Word)
  /-- KEY_SWITCH (R199) -/
  | keySwitch (k : Fin 16)
  /-- KEY_ZEROIZE (R196) -/
  | keyZeroize (k : Fin 16)
  /-- KEY_AGE_WARN (R200) -/
  | keyAgeWarn (k : Fin 16) (rx slot : Bool)
  /-- KEY_RETIRED (R200) -/
  | keyRetired (k : Fin 16) (rx slot : Bool)
  /-- HOST_FRAME_RECEIVED (R205) -/
  | hostFrameReceived (port : Fin 64) (bytes : List Byte)
  /-- SCHEDULE_DECISION (R215) -/
  | scheduleDecision (c : Fin 64)
  /-- PAGE_READ_ARRIVAL (R245) -/
  | pageReadArrival (q : Fin 1048576) (marked : BitVec 16)
  /-- LINE_CELL_RECEIVED (R223) -/
  | lineCellReceived (k : Fin 16) (cell : LineCell)
  /-- REORDER_TIMEOUT (R223) -/
  | reorderTimeout (c : Fin 64) (seq : BitVec 24)
  /-- REASSEMBLY_RESYNC (R225) -/
  | reassemblyResync (c : Fin 64)
  /-- SKEW_REPORT (R226) -/
  | skewReport (c : Fin 64)
  /-- IND_COMMAND_DONE (R232) -/
  | indCommandDone (p : IndPage)
  /-- TAG_CFG_WRITE (R209) -/
  | tagCfgWrite (v : Word)
  /-- PFC_REFRESH_TIMER (R254) -/
  | pfcRefreshTimer (port : Fin 64)
  /-- GP_REFRESH_TIMER (R255) -/
  | gpRefreshTimer (port : Fin 64)
  /-- HOST_PAUSE_FRAME (R260) -/
  | hostPauseFrame (port : Fin 64) (bytes : List Byte)
  /-- HOST_PAUSE_EXPIRY (R260) -/
  | hostPauseExpiry (port : Fin 64) (prio : Fin 8)
  /-- PAUSE_WATCHDOG (R263) -/
  | pauseWatchdog (port : Fin 64) (prio : Fin 8)
  /-- HOST_FRAME_TRANSMIT (R259) -/
  | hostFrameTransmit (port : Fin 64) (prio : Fin 8)
  /-- HWM_CLEAR (R265) -/
  | hwmClear (ingress : Bool)
  /-- REFRESH_RATE_POLL (R275) -/
  | refreshRatePoll (ch : Fin 17) (rates : List Nat)
  /-- BACKGROUND_CALIBRATION (R274) -/
  | backgroundCalibration (ch : Fin 17)
  /-- PATROL_READ (R280) -/
  | patrolRead (ch : Fin 17) (loc : BurstLoc) (err : BurstErr)
  /-- DDR_READ_RETURN (R272) -/
  | ddrReadReturn (ch : Fin 17) (loc : BurstLoc) (err : BurstErr)
  /-- ROW_COPY_DONE (R283) -/
  | rowCopyDone (ch : Fin 17)
  /-- MARK_FAIL (R282) -/
  | markFail (ch : Fin 17) (v : Word)
  /-- MIG_START (R285) -/
  | migStart (v : Word)
  /-- MIG_COPY_BURST (R286) -/
  | migCopyBurst (err : BurstErr)
  /-- CHANNEL_LOST (R290) -/
  | channelLost (ch : Fin 17)
  /-- PORT_MODE_WRITE (R299) -/
  | portModeWrite (d : Fin 2) (v : Word)
  /-- PORT_ENABLE (R306) -/
  | portEnable (d : Fin 2) (g : Fin 4) (v : Word)
  /-- LINK_UP (R313) -/
  | linkUp (d : Fin 2) (port : Fin 32)
  /-- LINK_DOWN (R301) -/
  | linkDown (d : Fin 2) (port : Fin 32) (cause : LinkCause)
  /-- TX_EQ_WRITE (R302) -/
  | txEqWrite (d : Fin 2) (g : Fin 4) (v : Word)
  /-- LOOPBACK_WRITE (R304) -/
  | loopbackWrite (d : Fin 2) (t : LaneTarget) (v : Word)
  /-- PRBS_WRITE (R305) -/
  | prbsWrite (d : Fin 2) (t : LaneTarget) (v : Word)
  /-- LANE_SLEEP (R306) -/
  | laneSleep (d : Fin 2) (g : Fin 4) (rx : Bool)
  /-- LANE_WAKE (R306) -/
  | laneWake (d : Fin 2) (g : Fin 4) (rx : Bool)
  /-- WAKE_DONE (R306) -/
  | wakeDone (d : Fin 2) (g : Fin 4)
  /-- STEER_REQUEST (R308) -/
  | steerRequest (d : Fin 2) (m : SteerMsg)
  /-- STEER_ACCEPT (R308) -/
  | steerAccept (d : Fin 2) (m : SteerMsg)
  /-- STEER_REFUSE (R308) -/
  | steerRefuse (d : Fin 2) (m : SteerMsg)
  /-- STEER_BRIDGED (R308) -/
  | steerBridged (d : Fin 2) (m : SteerMsg)
  /-- STEER_SWITCHED (R308) -/
  | steerSwitched (d : Fin 2) (m : SteerMsg)
  /-- STEER_DONE (R308) -/
  | steerDone (d : Fin 2) (m : SteerMsg)
  /-- STEER_MSG_DROP (R309) -/
  | steerMsgDrop (d : Fin 2)
  /-- SPARE_LANE_LOCKED (R308) -/
  | spareLaneLocked (d : Fin 2)
  /-- SPARE_LOCK_TIMEOUT (R308) -/
  | spareLockTimeout (d : Fin 2)
  /-- STEER_RESEND_TIMER (R310) -/
  | steerResendTimer (d : Fin 2)
  /-- STEER_RETRY_TIMER (R310) -/
  | steerRetryTimer (d : Fin 2)
  /-- AUTO_STEER_TRIGGER (R312) -/
  | autoSteerTrigger (d : Fin 2) (lane : Fin 128)
  /-- STEER_CMD_START (R314) -/
  | steerCmdStart (d : Fin 2) (v : Word)
  /-- STEER_CMD_RELEASE (R314) -/
  | steerCmdRelease (d : Fin 2) (v : Word)
  /-- PACE_SAMPLE (R319) -/
  | paceSample (g : Fin 5) (ports : List PortSample)
  /-- REFCLK_TRIP (R326) -/
  | refclkTrip (i : Bool)
  /-- REFCLK_QUALIFIED (R326) -/
  | refclkQualified (i : Bool)
  /-- DOMAIN_SOURCE_SWITCH (R331) -/
  | domainSourceSwitch (n : Fin 40) (lost : Nat)
  /-- LOOP_RELOCK (R329) -/
  | loopRelock (n : Fin 40)
  /-- DIVIDER_RAMP_STEP (R332) -/
  | dividerRampStep (n : Fin 40)
  /-- TIME_REF_PULSE (R334) -/
  | timeRefPulse (interval : Int)
  /-- MGMT_OP_REQUEST (R325) -/
  | mgmtOpRequest (v : Word)
  /-- DOMAIN_SRC_SELECT (R336) -/
  | domainSrcSelect (n : Fin 40) (v : Word)
  /-- HEARTBEAT (R343) -/
  | heartbeat (side : Side)
  /-- RAIL_SEND (R420) -/
  | railSend (dest : BitVec 12) (svc flags : Byte) (data : List Byte)
  /-- BARRIER_FRAME_DISCARD (R341) -/
  | barrierFrameDiscard (side : Side) (bytes : List Byte)
  /-- HEARTBEAT_INTERVAL (R342) -/
  | heartbeatInterval (side : Side)
  /-- BARRIER_RESEND_TIMER (R342) -/
  | barrierResendTimer (side : Side)
  /-- BARRIER_LINK_DOWN (R20) -/
  | barrierLinkDown (side : Side)
  /-- FEED_VALID (R350) -/
  | feedValid (f : Feed) (volt : Nat)
  /-- FEED_UVLO_FALL (R350) -/
  | feedUvloFall (f : Feed) (volt : Nat)
  /-- FEED_OVLO (R350) -/
  | feedOvlo (f : Feed) (volt : Nat)
  /-- FEED_OVLO_RELEASE (R350) -/
  | feedOvloRelease (f : Feed) (volt : Nat)
  /-- FEED_CURRENT_LIMIT_OFF (R351) -/
  | feedCurrentLimitOff (f : Feed)
  /-- FEED_CL_RETRY (R351) -/
  | feedClRetry (f : Feed)
  /-- FEED_REVERSED (R499) -/
  | feedReversed (f : Feed)
  /-- FEED_ABSENT (R499) -/
  | feedAbsent (f : Feed)
  /-- PHASE_SHARE_FAULT (R356) -/
  | phaseShareFault (p : Fin 26)
  /-- PHASE_OVERTEMP (R356) -/
  | phaseOvertemp (p : Fin 26)
  /-- PHASE_FAILED (R357) -/
  | phaseFailed (p : Fin 26)
  /-- PHASE_REPLACE (R362) -/
  | phaseReplace (v : Word)
  /-- PHASE_RAMP_DONE (R357) -/
  | phaseRampDone (p : Fin 26)
  /-- IMAGE_PORT_WRITE (R364) -/
  | imagePortWrite (v : Word)
  /-- IMAGE_VERIFY_DONE (R361) -/
  | imageVerifyDone (ok : Bool)
  /-- FIELD_IMAGE_RESTART_DONE (R361) -/
  | fieldImageRestartDone (ok : Bool)
  /-- TELEMETRY_CONVERSION (R366) -/
  | telemetryConversion (ch : Fin 32) (code : BitVec 12)
  /-- OPEN_WIRE_TEST (R368) -/
  | openWireTest (ch : Fin 32) (up down : BitVec 12)
  /-- SETTLE_END (R375) -/
  | settleEnd (ch : Fin 32)
  /-- ACCUM_WINDOW_CLOSE (R376) -/
  | accumWindowClose (ch : Fin 32)
  /-- COEF_PORT_WRITE (R371) -/
  | coefPortWrite (v : Word)
  /-- CLR_MINMAX (R376) -/
  | clrMinmax (ch : Fin 32)
  /-- TELEM_VIEW_CAPTURE (R386) -/
  | telemViewCapture (v : Word)
  /-- RIPPLE_CROSSING (R379) -/
  | rippleCrossing (f : Feed) (back : Nat)
  /-- SENSOR_WINDOW (R380): the counts of the 96 ring oscillators, zone by zone, sensors a, b, c -/
  | sensorWindow (readings : List Nat)
  /-- DISAGREE_FLAG (R382) -/
  | disagreeFlag (z : Fin 32) (sensor : Fin 3)
  /-- BAND_RISE (R383) -/
  | bandRise (die : Fin 7)
  /-- BAND_FALL (R383) -/
  | bandFall (die : Fin 7)
  /-- THERMAL_TRIP (R384) -/
  | thermalTrip (z : Fin 32)
  /-- PREAMBLE_DETECTED (R399) -/
  | preambleDetected (r : RailSoft)
  /-- PREAMBLE_CAPTURE (R400) -/
  | preambleCapture (r : RailSoft)
  /-- WHISTLE (R402) -/
  | whistle (r : RailSoft)
  /-- RELAY_WHISTLE (R402) -/
  | relayWhistle (r : RailSoft)
  /-- POLL (R404) -/
  | poll (r : RailSoft)
  /-- DATA (R409) -/
  | data (r : RailSoft)
  /-- ACK (R404) -/
  | ack (r : RailSoft)
  /-- NULL (R404) -/
  | null (r : RailSoft)
  /-- SOUND (R398) -/
  | sound (r : RailSoft)
  /-- TONE_MAP (R398) -/
  | toneMap (r : RailSoft)
  /-- LQR (R411) -/
  | lqr (r : RailSoft)
  /-- CONTEND (R406) -/
  | contend (r : RailSoft)
  /-- ROUTE (R411) -/
  | route (r : RailSoft)
  /-- RAIL_FRAME_DISCARD (R407) -/
  | railFrameDiscard (r : RailSoft)
  /-- CONTEND_SLOT (R406) -/
  | contendSlot (busy : Bool)
  /-- MEMBER_CYCLE (R413) -/
  | memberCycle (heard : Bool)
  /-- TONE_MAP_REFRESH (R398) -/
  | toneMapRefresh (slot : Fin 32)
  /-- TONE_MAP_EXPIRY (R398) -/
  | toneMapExpiry (slot : Fin 32)
  /-- RAIL_SESSION_REQUEST (R417) -/
  | railSessionRequest (peer : BitVec 12) (body : List Byte)
  /-- RAIL_SESSION_PROOF (R500) -/
  | railSessionProof (peer : BitVec 12) (body : List Byte)
  /-- RAIL_SESSION_CLOSE (R417) -/
  | railSessionClose (peer : BitVec 12) (body : List Byte)
  /-- RAIL_SESSION_KEEPALIVE (R417) -/
  | railSessionKeepalive (peer : BitVec 12) (body : List Byte)
  /-- STATUS_REQUEST (R418) -/
  | statusRequest (peer : BitVec 12) (body : List Byte)
  /-- RAIL_KETTLE_CLEAR (R449) -/
  | railKettleClear (peer : BitVec 12) (body : List Byte)
  /-- THERMAL_RELEASE (R418) -/
  | thermalRelease (peer : BitVec 12) (body : List Byte)
  /-- RAIL_SETTING (R418) -/
  | railSetting (peer : BitVec 12) (body : List Byte)
  /-- REPLACE_ROLE (R419) -/
  | replaceRole (peer : BitVec 12) (body : List Byte)
  /-- NETWORK_KEY (R408) -/
  | networkKey (peer : BitVec 12) (body : List Byte)
  /-- HOST_DATA (R420) -/
  | hostData (peer : BitVec 12) (body : List Byte)
  /-- TILE_CHECK (R425) -/
  | tileCheck (p : Page) (t : TileKind) (found : Bool)
  /-- TILE_REPAIR_DONE (R425) -/
  | tileRepairDone (p : Page)
  /-- TILE_CELL_LOSS (R426) -/
  | tileCellLoss (p : Page) (t : TileKind)
  /-- LASER_CMD_SWAP (R428) -/
  | laserCmdSwap (v : Word)
  /-- LASER_CMD_RETURN (R431) -/
  | laserCmdReturn (v : Word)
  /-- LASER_CMD_ABORT (R431) -/
  | laserCmdAbort (v : Word)
  /-- FW_PORT_WRITE (R432) -/
  | fwPortWrite (v : Word)
  /-- FW_VERIFY_DONE (R432) -/
  | fwVerifyDone (ok : Bool)
  /-- START_STEP_DONE (R441) -/
  | startStepDone (f : StartFound)
  /-- INPUT_CHATTER (R453) -/
  | inputChatter (i : CtlInput)
  /-- INPUT_HELD (R454) -/
  | inputHeld (i : CtlInput)
  /-- SPARE_LASER_LOCK_TIMEOUT (R440) -/
  | spareLaserLockTimeout (k : Fin 16)
  /-- INPUT_CHATTER_END (R453) -/
  | inputChatterEnd (i : CtlInput)
  /-- REASSEMBLY_SYNC_LOST (R225) -/
  | reassemblySyncLost (c : Fin 64)
  /-- SESSION_SUBMIT (R45) -/
  | sessionSubmit
  /-- SESSION_CLOSE (R49) -/
  | sessionClose
  /-- SESSION_KEEPALIVE (R49) -/
  | sessionKeepalive
  /-- NONCE_EXPIRY (R47) -/
  | nonceExpiry
  /-- SESSION_INACTIVITY_TIMEOUT (R49) -/
  | sessionInactivityTimeout
  /-- LOCKOUT_SAVE_TICK (R48) -/
  | lockoutSaveTick
  /-- FUNCTION_LEVEL_RESET (R68) -/
  | functionLevelReset
  /-- MGMT_WATCHDOG_EXPIRY (R68) -/
  | mgmtWatchdogExpiry
  /-- WARM_RESET_END (R69) -/
  | warmResetEnd
  /-- WARM_RESET_DONE (R69) -/
  | warmResetDone
  /-- LOG_CAPTURE (R65) -/
  | logCapture
  /-- LOG_ADVANCE (R65) -/
  | logAdvance
  /-- LOG_CLEAR (R65) -/
  | logClear
  /-- INHIBIT_TX_ASSERT (R86) -/
  | inhibitTxAssert
  /-- INHIBIT_TX_RELEASE (R86) -/
  | inhibitTxRelease
  /-- OPS_SLOT_FREE (R248) -/
  | opsSlotFree
  /-- QSC_IND_READ (R232) -/
  | qscIndRead
  /-- QSC_IND_WRITE (R232) -/
  | qscIndWrite
  /-- QSC_IND_CLEAR (R230) -/
  | qscIndClear
  /-- SCH_IND_READ (R232) -/
  | schIndRead
  /-- SCH_IND_WRITE (R232) -/
  | schIndWrite
  /-- FCT_IND_READ (R269) -/
  | fctIndRead
  /-- FCT_IND_WRITE (R269) -/
  | fctIndWrite
  /-- MIG_ABORT (R288) -/
  | migAbort
  /-- MIG_SWITCH (R286) -/
  | migSwitch
  /-- SPARE_CHANNEL_LOST (R289) -/
  | spareChannelLost
  /-- VOTE_SWEEP (R292) -/
  | voteSweep
  /-- BACKSTOP_QUALIFIED (R326) -/
  | backstopQualified
  /-- QUAL_TIMEOUT (R330) -/
  | qualTimeout
  /-- BACKSTOP_TRIM (R333) -/
  | backstopTrim
  /-- TIME_REF_TIMEOUT (R334) -/
  | timeRefTimeout
  /-- OP_MOVE_DONE (R325) -/
  | opMoveDone
  /-- STATUS_REPORT (R346) -/
  | statusReport
  /-- TELEMETRY_BATCH (R376) -/
  | telemetryBatch
  /-- RAIL_DELIVER (R421) -/
  | railDeliver
  /-- PROOF_CHECK (R46) -/
  | proofCheck
  /-- PROOF_RESULT (R46) -/
  | proofResult
  /-- START_RESULT (R441) -/
  | startResult
  /-- KETTLE_ENTER (R447) -/
  | kettleEnter
  /-- KETTLE_CLEAR (R449) -/
  | kettleClear
  /-- PHASE_SPARE (R357) -/
  | phaseSpare
  /-- FEED_LIMITS (R354) -/
  | feedLimits
  /-- THERMAL_NOTICE (R384) -/
  | thermalNotice
  /-- CYCLE_MARK (R403) -/
  | cycleMark
  /-- IMAGE_CHUNK (R361) -/
  | imageChunk
  /-- SETTING_WRITE (R347) -/
  | settingWrite
  /-- STATUS_REPORT_TIMER (R344) -/
  | statusReportTimer
  /-- TELEMETRY_BATCH_TIMER (R344) -/
  | telemetryBatchTimer
  /-- IMAGE_RESTART_TIMEOUT (R349) -/
  | imageRestartTimeout
  /-- BULK_CHARGED (R352) -/
  | bulkCharged
  /-- HOLDUP_ENTRY (R353) -/
  | holdupEntry
  /-- HOLDUP_EXHAUSTED (R353) -/
  | holdupExhausted
  /-- IMAGE_BEGIN (R364) -/
  | imageBegin
  /-- IMAGE_CHUNK_IDLE (R364) -/
  | imageChunkIdle
  /-- IMAGE_ACTIVATE (R361) -/
  | imageActivate
  /-- IMAGE_ABORT (R364) -/
  | imageAbort
  /-- THERMAL_RESTART (R385) -/
  | thermalRestart
  /-- CYCLE_START (R401) -/
  | cycleStart
  /-- RELAY_WHISTLE_SLOT (R412) -/
  | relayWhistleSlot
  /-- ACK_TIMEOUT (R404) -/
  | ackTimeout
  /-- DEFER_CAP_EXPIRY (R405) -/
  | deferCapExpiry
  /-- ROUTE_ASSESS (R411) -/
  | routeAssess
  /-- RAIL_NONCE_EXPIRY (R500) -/
  | railNonceExpiry
  /-- RAIL_SESSION_TIMEOUT (R417) -/
  | railSessionTimeout
  /-- FRL_RECORD_TIMER (R421) -/
  | frlRecordTimer
  /-- FAR_WAIT_EXPIRY (R429) -/
  | farWaitExpiry
  /-- FW_BEGIN (R432) -/
  | fwBegin
  /-- FW_ERASE_DONE (R432) -/
  | fwEraseDone
  /-- FW_ACTIVATE (R433) -/
  | fwActivate
  /-- FW_ABORT (R439) -/
  | fwAbort
  /-- POWERED_HOUR (R436) -/
  | poweredHour
  /-- START_ATTEMPT (R441) -/
  | startAttempt
  /-- START_STEP_TIMEOUT (R441) -/
  | startStepTimeout
  /-- START_WATCHDOG_EXPIRY (R443) -/
  | startWatchdogExpiry
  /-- ATTEMPT_OFF_TIMER (R443) -/
  | attemptOffTimer
  /-- DEEP_KETTLE_TIMEOUT (R448) -/
  | deepKettleTimeout
  /-- RESET_N_ASSERT (R451) -/
  | resetNAssert
  /-- RESET_N_RELEASE (R451) -/
  | resetNRelease
  /-- QUIESCE_ASSERT (R455) -/
  | quiesceAssert
  /-- QUIESCE_RELEASE (R455) -/
  | quiesceRelease
  /-- FORCE_START_ASSERT (R452) -/
  | forceStartAssert
  /-- PERST_N_ASSERT (R474) -/
  | perstNAssert
  /-- PERST_N_RELEASE (R474) -/
  | perstNRelease
  deriving DecidableEq, Repr

end Sys2Proof
end

