-- ==== Sys2Proof/Config.lean ====
section
/-! DEFINITION. What the module's maker or its surroundings fix, and the values the spec leaves open: constants with no
body, applied to the state's counter of free values or to the operands they depend on. -/
namespace Sys2Proof.Config

/-- A value the hub's random source draws (R45), by the counter of free values. -/
opaque nonce : Nat → BitVec 64

/-- Bias of the laser in use, 0.1 mA, and its share of the beginning-of-life bias, percent (LASER_BIAS), by the counter of
free values. -/
opaque laserBias : Nat → BitVec 16
opaque laserBiasPct : Nat → BitVec 12

/-- The power-on content of a coefficient word (R77, R79, R80): carrier, table, index. -/
opaque coefFactory : Nat → Nat → Nat → BitVec 16

/-- The scale of the root-raised-cosine response that table 0 holds at power-on (R77 gives its shape alone). -/
opaque rrcScale : ℚ

/-- The samples that reach a DAC's pre-emphasis (R76-R79): the drive of the power loop, the filtered quadratures of each subcarrier and the
norms of their data, the offsets, the gain at a frequency of each, the power shares, the DAC. The spec leaves the arithmetic of shifting,
summing and resampling open. And full scale of a DAC (R80). -/
opaque place : Nat → List (List (List (Int × Int))) → List Nat → List Int → (Nat → Int → ℚ) → (Nat → ℚ) → Nat → List Int
opaque dacFull : Int

/-- The symbols of a frame period under the 800ZR agreement (R75, R157), each quadrature's level: the client frames mapped into it, its local
and its remote defect indication, device time. And what the agreement's decoder makes of soft values: the hard decisions after a number
of iterations, whether they are a codeword, the checks that they leave unsatisfied (R158). The spec names the agreement for all of it. -/
opaque zrSymbols : List (List (BitVec 8)) → Bool → Bool → Nat → List (BitVec 2 × BitVec 2 × BitVec 2 × BitVec 2)
opaque zrHard : List Int → Nat → List Bool
opaque zrClean : List Bool → Bool
opaque zrUnsat : List Bool → Nat

/-- A bit that an encoder's stream lacks before its first codewords (R75, R149), by place. -/
opaque lineFill : Nat → Bool

/-- What R149 leaves open of the native code: which primitive polynomial makes the field of the component code, the order in which the bits
of a staircase block go over the inner codewords (at each place, which of the bits that are left), and of each block column of the
inner code's information part the three block rows that hold a circulant (each of the rows that are left) and their shifts. -/
opaque bchField : Nat
opaque interleavePick : Nat → Nat
opaque ldpcPick : Nat → Fin 18 × Fin 17 × Fin 16
opaque ldpcShift : Nat → Fin 3 → Fin 160

/-- The weight of a received deviation, 1/64 of the level of amplitude 1, under a noise variance (R110), and the variance that the
demapper measured of a subcarrier, by carrier and subcarrier and device time. -/
opaque noise : Nat → Int → Nat
opaque noiseVar : Nat → Nat → Nat

/-- The capacitance on the hold-up contacts, uF, 0 where there is none (R352, R353); what the internal store holds beyond 1.15 J, pJ, and the power
that charges it, mW (R352 gives neither); the converter's loss at a bus power and the field island's own draw, mW (R353 names the factory's
table of the one and does not give the other). And the current at which a feed is limited, 10 mA beyond 42 A (R350: 42 to 46 A). -/
opaque extCap : Nat
opaque intExtra : Nat
opaque intPower : Nat
opaque convLoss : Nat → Nat
opaque fieldDraw : Nat
opaque feedLimit : Fin 401

/-- Baliapra's public key, x and y (R361, R432), and how an image holds its signature: what is signed, r and s. The spec gives neither. -/
opaque imageKey : Nat × Nat
opaque imageFormat : List (BitVec 8) → List (BitVec 8) × Nat × Nat

/-- The centre tap from which an equalizer starts (R103). -/
opaque eqCentre : BitVec 16

/-- The frequency offset that the pilots give at the end of a holdover (R115), by the counter of free values: no command carries it, and the
next received frame shows the one tracked. -/
opaque freqBack : Nat → BitVec 16

/-- Whether the agreement of the 800ZR mode labels the inner level of a quadrature 0 (R112). -/
opaque zrInner : Bool

/-- The state of a PRBS-31 generator of a test signal at a frame start (TX_TEST): subcarrier, polarization, device time. -/
opaque prbsState : Nat → Nat → Nat → BitVec 31

/-- The page of DDR5 from which on the free pool is searched (R251), by device time and the pages in use; the other pages whose data lie in a row,
by channel and row (R283); the channel that holds a word of a withdrawn slot (R290), by logical address. -/
opaque freePage : Nat → Nat → BitVec 27
opaque rowMates : Nat → Nat → Fin 3 → BitVec 23
opaque home : Nat → Nat

/-- The row, packed as LAST_ERR packs it, in which a channel holds a logical address, and the address of a row's first burst (R273, R283): the
spec gives no map from addresses to rows. -/
opaque rowOf : Nat → Nat → BitVec 23
opaque rowBurst : Nat → Nat → BitVec 39

/-- Whether a datapath write is queued behind a patrol read, by the counter of free values, and the older words that patrol's write-back then leaves
on the source of a migration (R489), by that counter and the queue: a statistics entry, and a context as it reads by table. -/
opaque queuedWrite : Nat → Bool
opaque oldStat : Nat → Nat → BitVec 256
opaque oldCtx : Nat → Nat → Nat → BitVec 128

/-- Whether the far end has drained a carrier whose membership changes (R212): the spec names no sign by which the module knows. -/
opaque farDrained : Nat → Bool

/-- CTLE peaking that a lane chooses at link acquisition (R303), whether a pattern checker locks to what the lane receives (R305), and which lanes
of a port lose their clock and their signal when its alignment is lost (R301), by the counter of free values. -/
opaque ctle : Nat → Fin 41
opaque prbsLock : Nat → Bool
opaque clockLost : Nat → BitVec 8
opaque signalLost : Nat → BitVec 8
/-- A tap of the FFE to which a lane's adaptation comes (R303), by the counter of free values; SNR of a lane of a host die after its FFE, by
die, lane, taps and device time. And the errors that a pattern checker counts (R305): die, direction and lane, from one device time to another. -/
opaque ffeTap : Nat → Nat → BitVec 16
opaque laneSnr : Nat → Nat → List (BitVec 16) → BitVec 64 → BitVec 8
opaque prbsErrors : Nat → Nat → Nat → Nat → Nat
/-- TX_EQ.MAIN while PRE and POST are 0: the 64 of R302 has no place in the field's six bits (R316). -/
opaque mainFull : BitVec 6

/-- The alignment markers of a port with so many lanes (R300): their bits by place, their length in transcoded blocks, and the groups of four
codewords from one set to the next. -/
opaque marker : Nat → Nat → Bool
opaque markerBlocks : Nat → Nat
opaque markerGroups : Nat → Nat

/-- The fused trim points of a ring-oscillator sensor (R380): its counts at 25 and at 105 degrees. -/
opaque trim25 : Nat → Nat
opaque trim105 : Nat → Nat

/-- The group delay reported for a minimum-phase FIR whose coefficients sum to 0 (R377), by the counter of free values. -/
opaque groupDelay : Nat → BitVec 16

/-- The temperature of a phase, degrees (R356), which no command carries, by the counter of free values. -/
opaque phaseTemp : Nat → Nat → BitVec 8

/-- The residual of the trimmed RC oscillator, ppm (R403), by the counter of free values. -/
opaque residual : Nat → BitVec 16

/-- What the rail channel's rules leave open: the samples of a sync symbol (R392), the mean square from which the strainer starts (R396),
and the parity of a codeword's information bits at a rate (R390). -/
opaque railSync : Nat → BitVec 16
opaque railMean : ℚ
opaque railParity : Bool → List Bool → Nat → Bool

/-- What a rail receiver decides where the four copies of a bit weigh nothing together (R391), and the information bits that its decoder
finds in the soft values of a word with errors (R390). -/
opaque railZero : Bool
opaque railDecode : Bool → List Int → List Bool

/-- The backoff that a contending node picks (R406), by the counter of free values. -/
opaque backoff : Nat → Fin 8

/-- The running disparity of a barrier channel when a frame begins (R340), by device time and SEQ. -/
opaque disparity : Nat → Nat → Bool

/-- How long an engine initialises (R501), in ns, by its page's address and the device time at which it begins. -/
opaque startTime : Nat → Nat → Nat

/-- A dword of configuration space whose content the spec does not give (R28, R498): offset, counter of free values. -/
opaque configWord : Nat → Nat → BitVec 32

/-- The REASON that DROP_LAST takes for a frame dropped because the buffer section is switched off (10 "The BSC page"): R244 gives it none. -/
opaque offReason : BitVec 4

end Sys2Proof.Config
end

