-- ==== Sys2Proof/Machine/Regs.lean ====
section
/-! DEFINITION. The registers of the pages (R34, R35) and their fields, one constant per field row of the tables
of spec/: offset in the page, lowest bit, width. Names are the spec's. The rows of a page give reset, writable bits
(RW, RWS) and clear-by-one bits (W1C). -/
namespace Sys2Proof

/-- A register field: offset of its register in the page, lowest bit, width. -/
structure Fld where
  off : Nat
  lo : Nat
  w : Nat
  deriving DecidableEq, Repr

/-- The same field of the n-th register of an array of registers (DOMn, CHn, GOV_x). -/
def Fld.nth (f : Fld) (n : Nat) : Fld := ⟨f.off + 4 * n, f.lo, f.w⟩

/-- A register row (R6, R35): offset, reset value, bits a write sets (RW, RWS), bits a 1 clears (W1C). -/
structure RegRow where
  off : Nat
  reset : Nat
  rw : Nat
  w1c : Nat
  deriving DecidableEq, Repr

namespace Reg

/-! HDR: 02_register_pages_and_sessions.md -/
/-- HDR.PAGE_ID (02 R35), whole. -/
def HDR.PAGE_ID.word : Fld := ⟨0x000, 0, 32⟩
def HDR.PAGE_ID.TYPE : Fld := ⟨0x000, 24, 8⟩
def HDR.PAGE_ID.SECTION : Fld := ⟨0x000, 16, 8⟩
def HDR.PAGE_ID.PAGE : Fld := ⟨0x000, 8, 8⟩
def HDR.PAGE_ID.LAYOUT : Fld := ⟨0x000, 0, 8⟩
/-- HDR.PAGE_CTRL (02 R35), whole. -/
def HDR.PAGE_CTRL.word : Fld := ⟨0x004, 0, 32⟩
def HDR.PAGE_CTRL.ENABLE : Fld := ⟨0x004, 0, 1⟩
def HDR.PAGE_CTRL.HOLD : Fld := ⟨0x004, 1, 1⟩
def HDR.PAGE_CTRL.SOFT_RESET : Fld := ⟨0x004, 2, 1⟩
def HDR.PAGE_CTRL.DRAIN : Fld := ⟨0x004, 3, 1⟩
/-- HDR.PAGE_STATE (02 R35), whole. -/
def HDR.PAGE_STATE.word : Fld := ⟨0x008, 0, 32⟩
def HDR.PAGE_STATE.STATE : Fld := ⟨0x008, 0, 4⟩
def HDR.PAGE_STATE.RESERVE_USED : Fld := ⟨0x008, 8, 8⟩
/-- HDR.EVENT (02 R35), whole. -/
def HDR.EVENT.word : Fld := ⟨0x00C, 0, 32⟩
/-- HDR.EVENT_ENABLE (02 R35), whole. -/
def HDR.EVENT_ENABLE.word : Fld := ⟨0x010, 0, 32⟩
/-- HDR.EVENT_FORCE (02 R35), whole. -/
def HDR.EVENT_FORCE.word : Fld := ⟨0x014, 0, 32⟩
/-- HDR.FLIP_MASK (02 R35), whole. -/
def HDR.FLIP_MASK.word : Fld := ⟨0x018, 0, 32⟩
def HDR.FLIP_MASK.ARM : Fld := ⟨0x018, 31, 1⟩
def HDR.FLIP_MASK.BIT_A : Fld := ⟨0x018, 24, 7⟩
def HDR.FLIP_MASK.BIT_B : Fld := ⟨0x018, 17, 7⟩
def HDR.FLIP_MASK.B_EN : Fld := ⟨0x018, 16, 1⟩
def HDR.FLIP_MASK.TARGET : Fld := ⟨0x018, 8, 8⟩
/-- HDR.ECC_LOG (02 R35), whole. -/
def HDR.ECC_LOG.word : Fld := ⟨0x01C, 0, 32⟩
def HDR.ECC_LOG.CE_COUNT : Fld := ⟨0x01C, 0, 8⟩
def HDR.ECC_LOG.UE_COUNT : Fld := ⟨0x01C, 8, 8⟩
def HDR.ECC_LOG.LAST_MEM : Fld := ⟨0x01C, 16, 8⟩
/-- The rows of the HDR registers. -/
def HDR.rows : List RegRow :=
  [⟨0x000, 0x0, 0x0, 0x0⟩,
   ⟨0x004, 0x0, 0xB, 0x0⟩,
   ⟨0x008, 0x0, 0x0, 0x0⟩,
   ⟨0x00C, 0x0, 0x0, 0xFFFFFFFF⟩,
   ⟨0x010, 0x0, 0xFFFFFFFF, 0x0⟩,
   ⟨0x014, 0x0, 0x0, 0x0⟩,
   ⟨0x018, 0x0, 0xFFFFFF00, 0x0⟩,
   ⟨0x01C, 0x0, 0x0, 0x0⟩]

/-! DEV: 02_register_pages_and_sessions.md -/
/-- DEV.SEC_SUMMARY (02 R54), whole. -/
def DEV.SEC_SUMMARY.word : Fld := ⟨0x020, 0, 32⟩
/-- DEV.PART_ID (02 R54), whole. -/
def DEV.PART_ID.word : Fld := ⟨0x024, 0, 32⟩
def DEV.PART_ID.PART : Fld := ⟨0x024, 0, 16⟩
def DEV.PART_ID.STEPPING : Fld := ⟨0x024, 16, 8⟩
def DEV.PART_ID.BAND : Fld := ⟨0x024, 24, 4⟩
/-- DEV.SERIAL_LO (02 R54), whole. -/
def DEV.SERIAL_LO.word : Fld := ⟨0x028, 0, 32⟩
/-- DEV.SERIAL_HI (02 R54), whole. -/
def DEV.SERIAL_HI.word : Fld := ⟨0x02C, 0, 32⟩
/-- DEV.FW_VERSION (02 R54), whole. -/
def DEV.FW_VERSION.word : Fld := ⟨0x030, 0, 32⟩
def DEV.FW_VERSION.MAJOR : Fld := ⟨0x030, 24, 8⟩
def DEV.FW_VERSION.MINOR : Fld := ⟨0x030, 16, 8⟩
def DEV.FW_VERSION.BUILD : Fld := ⟨0x030, 0, 16⟩
/-- DEV.STATUS (02 R54), whole. -/
def DEV.STATUS.word : Fld := ⟨0x034, 0, 32⟩
def DEV.STATUS.SVC_LEVEL : Fld := ⟨0x034, 0, 3⟩
def DEV.STATUS.DEV_STATE : Fld := ⟨0x034, 4, 3⟩
def DEV.STATUS.FW_BANK : Fld := ⟨0x034, 8, 1⟩
def DEV.STATUS.BARRIER_UP : Fld := ⟨0x034, 9, 1⟩
def DEV.STATUS.MIRROR_STALE : Fld := ⟨0x034, 10, 1⟩
def DEV.STATUS.ALARM : Fld := ⟨0x034, 11, 1⟩
def DEV.STATUS.READY : Fld := ⟨0x034, 12, 1⟩
/-- DEV.KETTLE_CAUSE (02 R54), whole. -/
def DEV.KETTLE_CAUSE.word : Fld := ⟨0x038, 0, 32⟩
def DEV.KETTLE_CAUSE.CAUSE : Fld := ⟨0x038, 0, 7⟩
def DEV.KETTLE_CAUSE.DEEP : Fld := ⟨0x038, 7, 1⟩
def DEV.KETTLE_CAUSE.ATTEMPTS : Fld := ⟨0x038, 8, 8⟩
/-- DEV.KETTLE_CTRL (02 R54), whole. -/
def DEV.KETTLE_CTRL.word : Fld := ⟨0x03C, 0, 32⟩
def DEV.KETTLE_CTRL.CLEAR : Fld := ⟨0x03C, 0, 1⟩
def DEV.KETTLE_CTRL.COUNTER : Fld := ⟨0x03C, 1, 1⟩
def DEV.KETTLE_CTRL.CONFIRM : Fld := ⟨0x03C, 16, 16⟩
/-- DEV.SECTION_SUMMARY (02 R54), whole. -/
def DEV.SECTION_SUMMARY.word : Fld := ⟨0x040, 0, 32⟩
/-- DEV.SECTION_MASK (02 R54), whole. -/
def DEV.SECTION_MASK.word : Fld := ⟨0x044, 0, 32⟩
/-- DEV.COUNTER_POLICY (02 R54), whole. -/
def DEV.COUNTER_POLICY.word : Fld := ⟨0x048, 0, 32⟩
def DEV.COUNTER_POLICY.APERTURE_OPEN : Fld := ⟨0x048, 0, 1⟩
/-- DEV.DEV_CTRL (02 R54), whole. -/
def DEV.DEV_CTRL.word : Fld := ⟨0x04C, 0, 32⟩
def DEV.DEV_CTRL.WARM_RESET : Fld := ⟨0x04C, 0, 1⟩
def DEV.DEV_CTRL.INT_N_ENABLE : Fld := ⟨0x04C, 8, 1⟩
def DEV.DEV_CTRL.CONFIRM : Fld := ⟨0x04C, 16, 16⟩
/-- DEV.ALARM_CAUSE (02 R54), whole. -/
def DEV.ALARM_CAUSE.word : Fld := ⟨0x050, 0, 32⟩
def DEV.ALARM_CAUSE.BARRIER : Fld := ⟨0x050, 0, 1⟩
def DEV.ALARM_CAUSE.LEVEL : Fld := ⟨0x050, 1, 1⟩
def DEV.ALARM_CAUSE.THERMAL : Fld := ⟨0x050, 2, 1⟩
def DEV.ALARM_CAUSE.FEED : Fld := ⟨0x050, 3, 1⟩
def DEV.ALARM_CAUSE.KETTLE : Fld := ⟨0x050, 4, 1⟩
/-- DEV.ACCESS_ERR (02 R54), whole. -/
def DEV.ACCESS_ERR.word : Fld := ⟨0x054, 0, 32⟩
def DEV.ACCESS_ERR.MALFORMED : Fld := ⟨0x054, 0, 16⟩
def DEV.ACCESS_ERR.UNMAPPED : Fld := ⟨0x054, 16, 16⟩
/-- DEV.RESET_HISTORY (02 R54), whole. -/
def DEV.RESET_HISTORY.word : Fld := ⟨0x058, 0, 32⟩
def DEV.RESET_HISTORY.WARM_COUNT : Fld := ⟨0x058, 0, 8⟩
def DEV.RESET_HISTORY.LAST_KIND : Fld := ⟨0x058, 8, 4⟩
/-- DEV.SCRATCH (02 R54), whole. -/
def DEV.SCRATCH.word : Fld := ⟨0x05C, 0, 32⟩
/-- The rows of the DEV registers. -/
def DEV.rows : List RegRow :=
  [⟨0x020, 0x0, 0x0, 0x0⟩,
   ⟨0x024, 0x0, 0x0, 0x0⟩,
   ⟨0x028, 0x0, 0x0, 0x0⟩,
   ⟨0x02C, 0x0, 0x0, 0x0⟩,
   ⟨0x030, 0x0, 0x0, 0x0⟩,
   ⟨0x034, 0x400, 0x0, 0x0⟩,
   ⟨0x038, 0x0, 0x0, 0x0⟩,
   ⟨0x03C, 0x0, 0x0, 0x0⟩,
   ⟨0x040, 0x0, 0x0, 0x0⟩,
   ⟨0x044, 0xFFFFFF, 0xFFFFFF, 0x0⟩,
   ⟨0x048, 0x0, 0x1, 0x0⟩,
   ⟨0x04C, 0x0, 0x100, 0x0⟩,
   ⟨0x050, 0x0, 0x0, 0x0⟩,
   ⟨0x054, 0x0, 0x0, 0x0⟩,
   ⟨0x058, 0x0, 0x0, 0x0⟩,
   ⟨0x05C, 0x0, 0xFFFFFFFF, 0x0⟩]

/-! SES: 02_register_pages_and_sessions.md -/
/-- SES.SES_STATUS (02 R51), whole. -/
def SES.SES_STATUS.word : Fld := ⟨0x020, 0, 32⟩
def SES.SES_STATUS.ROLE : Fld := ⟨0x020, 0, 2⟩
def SES.SES_STATUS.NONCE_VALID : Fld := ⟨0x020, 2, 1⟩
def SES.SES_STATUS.PROOF_PENDING : Fld := ⟨0x020, 3, 1⟩
def SES.SES_STATUS.LOCKED : Fld := ⟨0x020, 4, 1⟩
def SES.SES_STATUS.LAST_RESULT : Fld := ⟨0x020, 5, 3⟩
def SES.SES_STATUS.FAIL_RUN : Fld := ⟨0x020, 8, 3⟩
def SES.SES_STATUS.RAIL_OPEN : Fld := ⟨0x020, 11, 1⟩
def SES.SES_STATUS.LOCKOUT_REMAIN : Fld := ⟨0x020, 16, 12⟩
/-- SES.SES_CTRL (02 R51), whole. -/
def SES.SES_CTRL.word : Fld := ⟨0x024, 0, 32⟩
def SES.SES_CTRL.ROLE : Fld := ⟨0x024, 0, 2⟩
def SES.SES_CTRL.REQUEST : Fld := ⟨0x024, 4, 1⟩
def SES.SES_CTRL.SUBMIT : Fld := ⟨0x024, 5, 1⟩
def SES.SES_CTRL.CLOSE : Fld := ⟨0x024, 6, 1⟩
/-- SES.NONCE_LO (02 R51), whole. -/
def SES.NONCE_LO.word : Fld := ⟨0x028, 0, 32⟩
/-- SES.NONCE_HI (02 R51), whole. -/
def SES.NONCE_HI.word : Fld := ⟨0x02C, 0, 32⟩
/-- SES.COUNTER (02 R51), whole. -/
def SES.COUNTER.word : Fld := ⟨0x030, 0, 32⟩
/-- SES.PROOF_PORT (02 R51), whole. -/
def SES.PROOF_PORT.word : Fld := ⟨0x034, 0, 32⟩
/-- SES.KEEPALIVE (02 R51), whole. -/
def SES.KEEPALIVE.word : Fld := ⟨0x038, 0, 32⟩
/-- SES.IDLE_REMAIN (02 R51), whole. -/
def SES.IDLE_REMAIN.word : Fld := ⟨0x03C, 0, 32⟩
/-- SES.DENIED (02 R51), whole. -/
def SES.DENIED.word : Fld := ⟨0x040, 0, 32⟩
def SES.DENIED.WRITES : Fld := ⟨0x040, 0, 16⟩
def SES.DENIED.READS : Fld := ⟨0x040, 16, 16⟩
/-- SES.LAST_DENIED (02 R51), whole. -/
def SES.LAST_DENIED.word : Fld := ⟨0x044, 0, 32⟩
def SES.LAST_DENIED.OFFSET : Fld := ⟨0x044, 0, 25⟩
def SES.LAST_DENIED.BAR2 : Fld := ⟨0x044, 30, 1⟩
def SES.LAST_DENIED.WRITE : Fld := ⟨0x044, 31, 1⟩
/-- The rows of the SES registers. -/
def SES.rows : List RegRow :=
  [⟨0x020, 0x0, 0x0, 0x0⟩,
   ⟨0x024, 0x0, 0x0, 0x0⟩,
   ⟨0x028, 0x0, 0x0, 0x0⟩,
   ⟨0x02C, 0x0, 0x0, 0x0⟩,
   ⟨0x030, 0x0, 0x0, 0x0⟩,
   ⟨0x034, 0x0, 0x0, 0x0⟩,
   ⟨0x038, 0x0, 0x0, 0x0⟩,
   ⟨0x03C, 0x0, 0x0, 0x0⟩,
   ⟨0x040, 0x0, 0x0, 0x0⟩,
   ⟨0x044, 0x0, 0x0, 0x0⟩]

/-! LOG: 02_register_pages_and_sessions.md -/
/-- LOG.LOG_CTRL (02 R65), whole. -/
def LOG.LOG_CTRL.word : Fld := ⟨0x020, 0, 32⟩
def LOG.LOG_CTRL.TAIL : Fld := ⟨0x020, 0, 12⟩
def LOG.LOG_CTRL.UNREAD : Fld := ⟨0x020, 12, 13⟩
def LOG.LOG_CTRL.CLEAR : Fld := ⟨0x020, 29, 1⟩
def LOG.LOG_CTRL.ADVANCE : Fld := ⟨0x020, 30, 1⟩
def LOG.LOG_CTRL.CAPTURE : Fld := ⟨0x020, 31, 1⟩
/-- LOG.LOG_LOST (02 R65), whole. -/
def LOG.LOG_LOST.word : Fld := ⟨0x024, 0, 32⟩
/-- LOG.LOG_ENTRY0 (02 R65), whole. -/
def LOG.LOG_ENTRY0.word : Fld := ⟨0x028, 0, 32⟩
/-- LOG.LOG_ENTRY1 (02 R65), whole. -/
def LOG.LOG_ENTRY1.word : Fld := ⟨0x02C, 0, 32⟩
/-- LOG.LOG_ENTRY2 (02 R65), whole. -/
def LOG.LOG_ENTRY2.word : Fld := ⟨0x030, 0, 32⟩
def LOG.LOG_ENTRY2.SECTION : Fld := ⟨0x030, 0, 8⟩
def LOG.LOG_ENTRY2.PAGE : Fld := ⟨0x030, 8, 8⟩
def LOG.LOG_ENTRY2.CODE : Fld := ⟨0x030, 16, 12⟩
def LOG.LOG_ENTRY2.KIND : Fld := ⟨0x030, 28, 4⟩
/-- LOG.LOG_ENTRY3 (02 R65), whole. -/
def LOG.LOG_ENTRY3.word : Fld := ⟨0x034, 0, 32⟩
def LOG.LOG_ENTRY3.ARG : Fld := ⟨0x034, 0, 32⟩
/-- The rows of the LOG registers. -/
def LOG.rows : List RegRow :=
  [⟨0x020, 0x0, 0x0, 0x0⟩,
   ⟨0x024, 0x0, 0x0, 0x0⟩,
   ⟨0x028, 0x0, 0x0, 0x0⟩,
   ⟨0x02C, 0x0, 0x0, 0x0⟩,
   ⟨0x030, 0x0, 0x0, 0x0⟩,
   ⟨0x034, 0x0, 0x0, 0x0⟩]

/-! CAD: 17_sparing_and_service_life.md -/
/-- CAD.CAD_SUMMARY (17 R439), whole. -/
def CAD.CAD_SUMMARY.word : Fld := ⟨0x020, 0, 32⟩
def CAD.CAD_SUMMARY.EXHAUSTED : Fld := ⟨0x020, 0, 16⟩
def CAD.CAD_SUMMARY.WARN : Fld := ⟨0x020, 16, 16⟩
/-- CAD.POOL_SEL (17 R439), whole. -/
def CAD.POOL_SEL.word : Fld := ⟨0x024, 0, 32⟩
def CAD.POOL_SEL.POOL : Fld := ⟨0x024, 0, 4⟩
/-- CAD.POOL_TOTAL (17 R439), whole. -/
def CAD.POOL_TOTAL.word : Fld := ⟨0x028, 0, 32⟩
def CAD.POOL_TOTAL.TOTAL : Fld := ⟨0x028, 0, 24⟩
def CAD.POOL_TOTAL.BRINGER : Fld := ⟨0x028, 24, 3⟩
/-- CAD.POOL_USED (17 R439), whole. -/
def CAD.POOL_USED.word : Fld := ⟨0x02C, 0, 32⟩
def CAD.POOL_USED.USED : Fld := ⟨0x02C, 0, 24⟩
/-- CAD.POOL_REMAIN (17 R439), whole. -/
def CAD.POOL_REMAIN.word : Fld := ⟨0x030, 0, 32⟩
def CAD.POOL_REMAIN.REMAIN : Fld := ⟨0x030, 0, 24⟩
def CAD.POOL_REMAIN.WARN : Fld := ⟨0x030, 31, 1⟩
/-- CAD.POOL_PROJECT (17 R439), whole. -/
def CAD.POOL_PROJECT.word : Fld := ⟨0x034, 0, 32⟩
def CAD.POOL_PROJECT.EXHAUST_DAYS : Fld := ⟨0x034, 0, 16⟩
def CAD.POOL_PROJECT.USED_WINDOW : Fld := ⟨0x034, 16, 16⟩
/-- CAD.CAD_CFG (17 R439), whole. -/
def CAD.CAD_CFG.word : Fld := ⟨0x038, 0, 32⟩
def CAD.CAD_CFG.WARN_DAYS : Fld := ⟨0x038, 0, 16⟩
def CAD.CAD_CFG.AUTO_LASER : Fld := ⟨0x038, 16, 1⟩
def CAD.CAD_CFG.FAR_WAIT : Fld := ⟨0x038, 24, 8⟩
/-- CAD.LASER_CMD (17 R439), whole. -/
def CAD.LASER_CMD.word : Fld := ⟨0x03C, 0, 32⟩
def CAD.LASER_CMD.CARRIER : Fld := ⟨0x03C, 0, 4⟩
def CAD.LASER_CMD.MODE : Fld := ⟨0x03C, 4, 2⟩
def CAD.LASER_CMD.SWAP : Fld := ⟨0x03C, 6, 1⟩
def CAD.LASER_CMD.RETURN : Fld := ⟨0x03C, 7, 1⟩
def CAD.LASER_CMD.ABORT : Fld := ⟨0x03C, 8, 1⟩
/-- CAD.LASER_STATUS (17 R439), whole. -/
def CAD.LASER_STATUS.word : Fld := ⟨0x040, 0, 32⟩
def CAD.LASER_STATUS.SPARE_FREE : Fld := ⟨0x040, 0, 4⟩
def CAD.LASER_STATUS.HELD_BY : Fld := ⟨0x040, 4, 16⟩
def CAD.LASER_STATUS.PROC_STATE : Fld := ⟨0x040, 20, 3⟩
def CAD.LASER_STATUS.PROC_CARRIER : Fld := ⟨0x040, 23, 4⟩
def CAD.LASER_STATUS.DRAINED_SWAP : Fld := ⟨0x040, 27, 1⟩
def CAD.LASER_STATUS.CFG_REJECT : Fld := ⟨0x040, 28, 1⟩
/-- CAD.FW_CTRL (17 R439), whole. -/
def CAD.FW_CTRL.word : Fld := ⟨0x044, 0, 32⟩
def CAD.FW_CTRL.BEGIN : Fld := ⟨0x044, 0, 1⟩
def CAD.FW_CTRL.ACTIVATE : Fld := ⟨0x044, 1, 1⟩
def CAD.FW_CTRL.ABORT : Fld := ⟨0x044, 2, 1⟩
/-- CAD.FW_PORT (17 R439), whole. -/
def CAD.FW_PORT.word : Fld := ⟨0x048, 0, 32⟩
def CAD.FW_PORT.DATA : Fld := ⟨0x048, 0, 32⟩
/-- CAD.FW_STATUS (17 R439), whole. -/
def CAD.FW_STATUS.word : Fld := ⟨0x04C, 0, 32⟩
def CAD.FW_STATUS.STATE : Fld := ⟨0x04C, 0, 3⟩
def CAD.FW_STATUS.PREFERRED : Fld := ⟨0x04C, 3, 1⟩
def CAD.FW_STATUS.VALID : Fld := ⟨0x04C, 4, 2⟩
def CAD.FW_STATUS.FALLBACK : Fld := ⟨0x04C, 6, 1⟩
def CAD.FW_STATUS.CFG_REJECT : Fld := ⟨0x04C, 7, 1⟩
def CAD.FW_STATUS.OTHER_VERSION : Fld := ⟨0x04C, 16, 16⟩
/-- CAD.LEDGER_TIME (17 R439), whole. -/
def CAD.LEDGER_TIME.word : Fld := ⟨0x050, 0, 32⟩
def CAD.LEDGER_TIME.POWERED_HOURS : Fld := ⟨0x050, 0, 32⟩
/-- CAD.CAD_LAST (17 R439), whole. -/
def CAD.CAD_LAST.word : Fld := ⟨0x054, 0, 32⟩
def CAD.CAD_LAST.POOL : Fld := ⟨0x054, 0, 4⟩
def CAD.CAD_LAST.REASON : Fld := ⟨0x054, 4, 4⟩
def CAD.CAD_LAST.UNIT : Fld := ⟨0x054, 8, 20⟩
/-- The rows of the CAD registers. -/
def CAD.rows : List RegRow :=
  [⟨0x020, 0x0, 0x0, 0x0⟩,
   ⟨0x024, 0x0, 0xF, 0x0⟩,
   ⟨0x028, 0x0, 0x0, 0x0⟩,
   ⟨0x02C, 0x0, 0x0, 0x0⟩,
   ⟨0x030, 0x0, 0x0, 0x0⟩,
   ⟨0x034, 0xFFFF, 0x0, 0x0⟩,
   ⟨0x038, 0xA0102DA, 0xFF01FFFF, 0x0⟩,
   ⟨0x03C, 0x0, 0x0, 0x0⟩,
   ⟨0x040, 0xF, 0x0, 0x0⟩,
   ⟨0x044, 0x0, 0x0, 0x0⟩,
   ⟨0x048, 0x0, 0x0, 0x0⟩,
   ⟨0x04C, 0x0, 0x0, 0x0⟩,
   ⟨0x050, 0x0, 0x0, 0x0⟩,
   ⟨0x054, 0x0, 0x0, 0x0⟩]

/-! TIM: 13_timing_fabric_and_clocks.md -/
/-- TIM.SEC_SUMMARY (13 R336), whole. -/
def TIM.SEC_SUMMARY.word : Fld := ⟨0x020, 0, 32⟩
/-- TIM.TIME_LO (13 R336), whole. -/
def TIM.TIME_LO.word : Fld := ⟨0x024, 0, 32⟩
/-- TIM.TIME_HI (13 R336), whole. -/
def TIM.TIME_HI.word : Fld := ⟨0x028, 0, 32⟩
/-- TIM.REF_CTRL (13 R336), whole. -/
def TIM.REF_CTRL.word : Fld := ⟨0x02C, 0, 32⟩
def TIM.REF_CTRL.PREFER : Fld := ⟨0x02C, 0, 1⟩
def TIM.REF_CTRL.REVERT : Fld := ⟨0x02C, 1, 1⟩
def TIM.REF_CTRL.TREF_EN : Fld := ⟨0x02C, 2, 1⟩
def TIM.REF_CTRL.A_QUAL : Fld := ⟨0x02C, 8, 1⟩
def TIM.REF_CTRL.B_QUAL : Fld := ⟨0x02C, 9, 1⟩
def TIM.REF_CTRL.BACKSTOP_QUAL : Fld := ⟨0x02C, 10, 1⟩
def TIM.REF_CTRL.TREF_LOCK : Fld := ⟨0x02C, 11, 1⟩
def TIM.REF_CTRL.BACKSTOP_TRIMMED : Fld := ⟨0x02C, 12, 1⟩
def TIM.REF_CTRL.ADJ : Fld := ⟨0x02C, 16, 16⟩
/-- TIM.DOMn (13 R336), whole. -/
def TIM.DOMn.word : Fld := ⟨0x030, 0, 32⟩
def TIM.DOMn.SRC_SEL : Fld := ⟨0x030, 0, 2⟩
def TIM.DOMn.SRC_NOW : Fld := ⟨0x030, 4, 2⟩
def TIM.DOMn.STATE : Fld := ⟨0x030, 6, 3⟩
def TIM.DOMn.COAST : Fld := ⟨0x030, 9, 1⟩
def TIM.DOMn.RAMP : Fld := ⟨0x030, 11, 4⟩
def TIM.DOMn.SLIP : Fld := ⟨0x030, 15, 1⟩
def TIM.DOMn.SWITCHES : Fld := ⟨0x030, 16, 8⟩
def TIM.DOMn.LOST_CYCLES : Fld := ⟨0x030, 24, 8⟩
/-- The rows of the TIM registers. -/
def TIM.rows : List RegRow :=
  [⟨0x020, 0x0, 0x0, 0x0⟩,
   ⟨0x024, 0x0, 0x0, 0x0⟩,
   ⟨0x028, 0x0, 0x0, 0x0⟩,
   ⟨0x02C, 0x6, 0x7, 0x0⟩,
   ⟨0x030, 0x0, 0x3, 0x8000⟩]

/-! VSQ: 13_timing_fabric_and_clocks.md -/
/-- VSQ.GOV_CTRL (13 R338), whole. -/
def VSQ.GOV_CTRL.word : Fld := ⟨0x020, 0, 32⟩
def VSQ.GOV_CTRL.GOV_EN : Fld := ⟨0x020, 0, 5⟩
def VSQ.GOV_CTRL.CEIL_EN : Fld := ⟨0x020, 5, 1⟩
/-- VSQ.GOV_STATUS (13 R338), whole. -/
def VSQ.GOV_STATUS.word : Fld := ⟨0x024, 0, 32⟩
def VSQ.GOV_STATUS.AT_CAP : Fld := ⟨0x024, 0, 5⟩
def VSQ.GOV_STATUS.LIMITED : Fld := ⟨0x024, 8, 5⟩
def VSQ.GOV_STATUS.HB_BAND : Fld := ⟨0x024, 16, 2⟩
/-- VSQ.GOV_LD0 (13 R338), whole. -/
def VSQ.GOV_LD0.word : Fld := ⟨0x028, 0, 32⟩
def VSQ.GOV_LD0.PACE : Fld := ⟨0x028, 0, 10⟩
def VSQ.GOV_LD0.VCORE : Fld := ⟨0x028, 16, 8⟩
def VSQ.GOV_LD0.LIMIT : Fld := ⟨0x028, 24, 4⟩
def VSQ.GOV_LD0.BAND : Fld := ⟨0x028, 28, 2⟩
/-- VSQ.GOV_LD1 (13 R338), whole. -/
def VSQ.GOV_LD1.word : Fld := ⟨0x02C, 0, 32⟩
/-- VSQ.GOV_LD2 (13 R338), whole. -/
def VSQ.GOV_LD2.word : Fld := ⟨0x030, 0, 32⟩
/-- VSQ.GOV_LD3 (13 R338), whole. -/
def VSQ.GOV_LD3.word : Fld := ⟨0x034, 0, 32⟩
/-- VSQ.GOV_HB (13 R338), whole. -/
def VSQ.GOV_HB.word : Fld := ⟨0x038, 0, 32⟩
/-- VSQ.PACE_VIEW (13 R338), whole. -/
def VSQ.PACE_VIEW.word : Fld := ⟨0x03C, 0, 32⟩
def VSQ.PACE_VIEW.SEL : Fld := ⟨0x03C, 0, 3⟩
def VSQ.PACE_VIEW.LOW : Fld := ⟨0x03C, 16, 10⟩
/-- VSQ.MGMT_OP (13 R338), whole. -/
def VSQ.MGMT_OP.word : Fld := ⟨0x040, 0, 32⟩
def VSQ.MGMT_OP.REQ : Fld := ⟨0x040, 0, 2⟩
def VSQ.MGMT_OP.NOW : Fld := ⟨0x040, 4, 2⟩
def VSQ.MGMT_OP.CEILING : Fld := ⟨0x040, 8, 2⟩
def VSQ.MGMT_OP.BUSY : Fld := ⟨0x040, 12, 1⟩
/-- VSQ.BAND_CAP (13 R338), whole. -/
def VSQ.BAND_CAP.word : Fld := ⟨0x044, 0, 32⟩
def VSQ.BAND_CAP.CAP_B0 : Fld := ⟨0x044, 0, 8⟩
def VSQ.BAND_CAP.CAP_B1 : Fld := ⟨0x044, 8, 8⟩
def VSQ.BAND_CAP.CAP_B2 : Fld := ⟨0x044, 16, 8⟩
def VSQ.BAND_CAP.CAP_B3 : Fld := ⟨0x044, 24, 8⟩
/-- The rows of the VSQ registers. -/
def VSQ.rows : List RegRow :=
  [⟨0x020, 0x3F, 0x3F, 0x0⟩,
   ⟨0x024, 0x0, 0x0, 0x0⟩,
   ⟨0x028, 0x0, 0x0, 0x0⟩,
   ⟨0x02C, 0x0, 0x0, 0x0⟩,
   ⟨0x030, 0x0, 0x0, 0x0⟩,
   ⟨0x034, 0x0, 0x0, 0x0⟩,
   ⟨0x038, 0x0, 0x0, 0x0⟩,
   ⟨0x03C, 0x0, 0x7, 0x0⟩,
   ⟨0x040, 0x0, 0x3, 0x0⟩,
   ⟨0x044, 0xA4A8ACAC, 0x0, 0x0⟩]

/-! TSN: 15_telemetry_and_thermal.md -/
/-- TSN.TSN_CTRL (15 R388), whole. -/
def TSN.TSN_CTRL.word : Fld := ⟨0x020, 0, 32⟩
def TSN.TSN_CTRL.XCHECK_EN : Fld := ⟨0x020, 0, 1⟩
def TSN.TSN_CTRL.WARN_TEMP : Fld := ⟨0x020, 8, 8⟩
/-- TSN.ZONE_SEL (15 R388), whole. -/
def TSN.ZONE_SEL.word : Fld := ⟨0x024, 0, 32⟩
def TSN.ZONE_SEL.ZONE : Fld := ⟨0x024, 0, 5⟩
/-- TSN.ZONE_SENSORS (15 R388), whole. -/
def TSN.ZONE_SENSORS.word : Fld := ⟨0x028, 0, 32⟩
def TSN.ZONE_SENSORS.A : Fld := ⟨0x028, 0, 10⟩
def TSN.ZONE_SENSORS.B : Fld := ⟨0x028, 10, 10⟩
def TSN.ZONE_SENSORS.C : Fld := ⟨0x028, 20, 10⟩
/-- TSN.ZONE_STATUS (15 R388), whole. -/
def TSN.ZONE_STATUS.word : Fld := ⟨0x02C, 0, 32⟩
def TSN.ZONE_STATUS.MEDIAN : Fld := ⟨0x02C, 0, 10⟩
def TSN.ZONE_STATUS.BROKEN : Fld := ⟨0x02C, 10, 3⟩
def TSN.ZONE_STATUS.DISAGREE : Fld := ⟨0x02C, 13, 3⟩
def TSN.ZONE_STATUS.DIE : Fld := ⟨0x02C, 16, 3⟩
def TSN.ZONE_STATUS.HOT : Fld := ⟨0x02C, 19, 1⟩
def TSN.ZONE_STATUS.DIE_OFF : Fld := ⟨0x02C, 20, 1⟩
/-- TSN.DIE_TEMP_LO (15 R388), whole. -/
def TSN.DIE_TEMP_LO.word : Fld := ⟨0x030, 0, 32⟩
def TSN.DIE_TEMP_LO.LD0 : Fld := ⟨0x030, 0, 8⟩
def TSN.DIE_TEMP_LO.LD1 : Fld := ⟨0x030, 8, 8⟩
def TSN.DIE_TEMP_LO.LD2 : Fld := ⟨0x030, 16, 8⟩
def TSN.DIE_TEMP_LO.LD3 : Fld := ⟨0x030, 24, 8⟩
/-- TSN.DIE_TEMP_HI (15 R388), whole. -/
def TSN.DIE_TEMP_HI.word : Fld := ⟨0x034, 0, 32⟩
def TSN.DIE_TEMP_HI.HB : Fld := ⟨0x034, 0, 8⟩
def TSN.DIE_TEMP_HI.HD0 : Fld := ⟨0x034, 8, 8⟩
def TSN.DIE_TEMP_HI.HD1 : Fld := ⟨0x034, 16, 8⟩
def TSN.DIE_TEMP_HI.HOTTEST : Fld := ⟨0x034, 24, 5⟩
/-- TSN.BANDS (15 R388), whole. -/
def TSN.BANDS.word : Fld := ⟨0x038, 0, 32⟩
def TSN.BANDS.BAND : Fld := ⟨0x038, 0, 14⟩
/-- TSN.BROKEN_MAP (15 R388), whole. -/
def TSN.BROKEN_MAP.word : Fld := ⟨0x03C, 0, 32⟩
/-- TSN.HOT_MAP (15 R388), whole. -/
def TSN.HOT_MAP.word : Fld := ⟨0x040, 0, 32⟩
/-- TSN.SHUTDOWN (15 R388), whole. -/
def TSN.SHUTDOWN.word : Fld := ⟨0x044, 0, 32⟩
def TSN.SHUTDOWN.OFF : Fld := ⟨0x044, 0, 7⟩
def TSN.SHUTDOWN.RESTARTS : Fld := ⟨0x044, 8, 2⟩
def TSN.SHUTDOWN.LOCKED : Fld := ⟨0x044, 10, 1⟩
def TSN.SHUTDOWN.TRIPS : Fld := ⟨0x044, 16, 16⟩
/-- TSN.TRIP_LAST (15 R388), whole. -/
def TSN.TRIP_LAST.word : Fld := ⟨0x048, 0, 32⟩
def TSN.TRIP_LAST.ZONE : Fld := ⟨0x048, 0, 5⟩
def TSN.TRIP_LAST.TEMP : Fld := ⟨0x048, 5, 10⟩
/-- TSN.TRIP_TIME (15 R388), whole. -/
def TSN.TRIP_TIME.word : Fld := ⟨0x04C, 0, 32⟩
def TSN.TRIP_TIME.SECONDS : Fld := ⟨0x04C, 0, 32⟩
/-- The rows of the TSN registers. -/
def TSN.rows : List RegRow :=
  [⟨0x020, 0x6E00, 0xFF01, 0x0⟩,
   ⟨0x024, 0x0, 0x1F, 0x0⟩,
   ⟨0x028, 0x0, 0x0, 0x0⟩,
   ⟨0x02C, 0x0, 0x0, 0x0⟩,
   ⟨0x030, 0x0, 0x0, 0x0⟩,
   ⟨0x034, 0x0, 0x0, 0x0⟩,
   ⟨0x038, 0x0, 0x0, 0x0⟩,
   ⟨0x03C, 0x0, 0x0, 0x0⟩,
   ⟨0x040, 0x0, 0x0, 0x0⟩,
   ⟨0x044, 0x0, 0x0, 0x0⟩,
   ⟨0x048, 0x0, 0x0, 0x0⟩,
   ⟨0x04C, 0x0, 0x0, 0x0⟩]

/-! FPW: 14_field_island_and_power.md -/
/-- FPW.SEC_SUMMARY (14 R362), whole. -/
def FPW.SEC_SUMMARY.word : Fld := ⟨0x020, 0, 32⟩
/-- FPW.FEED_A (14 R362), whole. -/
def FPW.FEED_A.word : Fld := ⟨0x024, 0, 32⟩
def FPW.FEED_A.VOLTAGE : Fld := ⟨0x024, 0, 16⟩
def FPW.FEED_A.CURRENT : Fld := ⟨0x024, 16, 16⟩
/-- FPW.FEED_B (14 R362), whole. -/
def FPW.FEED_B.word : Fld := ⟨0x028, 0, 32⟩
def FPW.FEED_B.VOLTAGE : Fld := ⟨0x028, 0, 16⟩
def FPW.FEED_B.CURRENT : Fld := ⟨0x028, 16, 16⟩
/-- FPW.FEED_STATUS (14 R362), whole. -/
def FPW.FEED_STATUS.word : Fld := ⟨0x02C, 0, 32⟩
def FPW.FEED_STATUS.A_STATE : Fld := ⟨0x02C, 0, 3⟩
def FPW.FEED_STATUS.B_STATE : Fld := ⟨0x02C, 4, 3⟩
def FPW.FEED_STATUS.A_CARRYING : Fld := ⟨0x02C, 8, 1⟩
def FPW.FEED_STATUS.B_CARRYING : Fld := ⟨0x02C, 9, 1⟩
def FPW.FEED_STATUS.HOLDUP : Fld := ⟨0x02C, 10, 1⟩
def FPW.FEED_STATUS.EXT_STORE : Fld := ⟨0x02C, 11, 1⟩
def FPW.FEED_STATUS.HOLDUP_TIME : Fld := ⟨0x02C, 16, 16⟩
/-- FPW.BUS (14 R362), whole. -/
def FPW.BUS.word : Fld := ⟨0x030, 0, 32⟩
def FPW.BUS.VOLTAGE : Fld := ⟨0x030, 0, 16⟩
def FPW.BUS.CURRENT : Fld := ⟨0x030, 16, 16⟩
/-- FPW.CONV_STATUS (14 R362), whole. -/
def FPW.CONV_STATUS.word : Fld := ⟨0x034, 0, 32⟩
def FPW.CONV_STATUS.STATE : Fld := ⟨0x034, 0, 3⟩
def FPW.CONV_STATUS.WORKING : Fld := ⟨0x034, 3, 5⟩
def FPW.CONV_STATUS.SPARES_LEFT : Fld := ⟨0x034, 8, 2⟩
def FPW.CONV_STATUS.SHORT : Fld := ⟨0x034, 10, 1⟩
def FPW.CONV_STATUS.RATING : Fld := ⟨0x034, 16, 16⟩
/-- FPW.PHASE_MAP (14 R362), whole. -/
def FPW.PHASE_MAP.word : Fld := ⟨0x038, 0, 32⟩
def FPW.PHASE_MAP.CARRYING : Fld := ⟨0x038, 0, 26⟩
/-- FPW.PHASE_RETIRED (14 R362), whole. -/
def FPW.PHASE_RETIRED.word : Fld := ⟨0x03C, 0, 32⟩
def FPW.PHASE_RETIRED.RETIRED : Fld := ⟨0x03C, 0, 26⟩
/-- FPW.PHASE_VIEW (14 R362), whole. -/
def FPW.PHASE_VIEW.word : Fld := ⟨0x040, 0, 32⟩
def FPW.PHASE_VIEW.SEL : Fld := ⟨0x040, 0, 5⟩
def FPW.PHASE_VIEW.TEMP : Fld := ⟨0x040, 8, 8⟩
def FPW.PHASE_VIEW.SHARE_ERR : Fld := ⟨0x040, 16, 8⟩
def FPW.PHASE_VIEW.STATE : Fld := ⟨0x040, 24, 3⟩
/-- FPW.PHASE_CTRL (14 R362), whole. -/
def FPW.PHASE_CTRL.word : Fld := ⟨0x044, 0, 32⟩
def FPW.PHASE_CTRL.PHASE : Fld := ⟨0x044, 0, 5⟩
def FPW.PHASE_CTRL.REPLACE : Fld := ⟨0x044, 5, 1⟩
def FPW.PHASE_CTRL.AUTO_SPARE : Fld := ⟨0x044, 6, 1⟩
def FPW.PHASE_CTRL.CONFIRM : Fld := ⟨0x044, 16, 16⟩
/-- FPW.FEED_CFG (14 R362), whole. -/
def FPW.FEED_CFG.word : Fld := ⟨0x048, 0, 32⟩
def FPW.FEED_CFG.EXT_HOLDUP_EN : Fld := ⟨0x048, 0, 1⟩
def FPW.FEED_CFG.SINGLE_ALARM : Fld := ⟨0x048, 1, 1⟩
/-- FPW.FPW_COUNTS (14 R362), whole. -/
def FPW.FPW_COUNTS.word : Fld := ⟨0x04C, 0, 32⟩
def FPW.FPW_COUNTS.FEED_LOSSES : Fld := ⟨0x04C, 0, 8⟩
def FPW.FPW_COUNTS.PHASE_SWAPS : Fld := ⟨0x04C, 8, 8⟩
def FPW.FPW_COUNTS.OV_EVENTS : Fld := ⟨0x04C, 16, 8⟩
def FPW.FPW_COUNTS.CL_EVENTS : Fld := ⟨0x04C, 24, 8⟩
/-- The rows of the FPW registers. -/
def FPW.rows : List RegRow :=
  [⟨0x020, 0x0, 0x0, 0x0⟩,
   ⟨0x024, 0x0, 0x0, 0x0⟩,
   ⟨0x028, 0x0, 0x0, 0x0⟩,
   ⟨0x02C, 0x0, 0x0, 0x0⟩,
   ⟨0x030, 0x0, 0x0, 0x0⟩,
   ⟨0x034, 0x0, 0x0, 0x0⟩,
   ⟨0x038, 0x0, 0x0, 0x0⟩,
   ⟨0x03C, 0x0, 0x0, 0x0⟩,
   ⟨0x040, 0x0, 0x1F, 0x0⟩,
   ⟨0x044, 0x40, 0x40, 0x0⟩,
   ⟨0x048, 0x3, 0x3, 0x0⟩,
   ⟨0x04C, 0x0, 0x0, 0x0⟩]

/-! FTL: 15_telemetry_and_thermal.md -/
/-- FTL.CHn (15 R386), whole. -/
def FTL.CHn.word : Fld := ⟨0x020, 0, 32⟩
def FTL.CHn.EN : Fld := ⟨0x020, 0, 1⟩
def FTL.CHn.FILT : Fld := ⟨0x020, 1, 2⟩
def FTL.CHn.DCB_EN : Fld := ⟨0x020, 3, 1⟩
def FTL.CHn.DCB_FREEZE : Fld := ⟨0x020, 4, 1⟩
def FTL.CHn.OW_EN : Fld := ⟨0x020, 5, 1⟩
def FTL.CHn.SLOT : Fld := ⟨0x020, 6, 4⟩
def FTL.CHn.RANK_WIN : Fld := ⟨0x020, 10, 3⟩
def FTL.CHn.RANK : Fld := ⟨0x020, 13, 4⟩
def FTL.CHn.DECIM : Fld := ⟨0x020, 17, 6⟩
def FTL.CHn.WIN : Fld := ⟨0x020, 23, 5⟩
def FTL.CHn.SETTLING : Fld := ⟨0x020, 28, 1⟩
def FTL.CHn.OPEN : Fld := ⟨0x020, 29, 1⟩
def FTL.CHn.CLR_MINMAX : Fld := ⟨0x020, 30, 1⟩
def FTL.CHn.SHORT : Fld := ⟨0x020, 31, 1⟩
/-- FTL.FTL_CTRL (15 R386), whole. -/
def FTL.FTL_CTRL.word : Fld := ⟨0x0A0, 0, 32⟩
def FTL.FTL_CTRL.RIPPLE_MIN : Fld := ⟨0x0A0, 0, 12⟩
def FTL.FTL_CTRL.STEP_TH : Fld := ⟨0x0A0, 12, 12⟩
def FTL.FTL_CTRL.RIPPLE_A : Fld := ⟨0x0A0, 24, 1⟩
def FTL.FTL_CTRL.RIPPLE_B : Fld := ⟨0x0A0, 25, 1⟩
def FTL.FTL_CTRL.CYCLE_SRC : Fld := ⟨0x0A0, 26, 1⟩
def FTL.FTL_CTRL.RIPPLE_N : Fld := ⟨0x0A0, 27, 5⟩
/-- FTL.COEF_PORT (15 R386), whole. -/
def FTL.COEF_PORT.word : Fld := ⟨0x0A4, 0, 32⟩
def FTL.COEF_PORT.KIND : Fld := ⟨0x0A4, 31, 1⟩
def FTL.COEF_PORT.ADDR : Fld := ⟨0x0A4, 16, 12⟩
def FTL.COEF_PORT.VALUE : Fld := ⟨0x0A4, 0, 16⟩
def FTL.COEF_PORT.SLOT : Fld := ⟨0x0A4, 24, 4⟩
def FTL.COEF_PORT.BASE : Fld := ⟨0x0A4, 12, 12⟩
def FTL.COEF_PORT.MINPHASE : Fld := ⟨0x0A4, 8, 1⟩
def FTL.COEF_PORT.TAPS : Fld := ⟨0x0A4, 0, 8⟩
/-- FTL.VIEW_CTRL (15 R386), whole. -/
def FTL.VIEW_CTRL.word : Fld := ⟨0x0A8, 0, 32⟩
def FTL.VIEW_CTRL.CH : Fld := ⟨0x0A8, 0, 5⟩
def FTL.VIEW_CTRL.WORD : Fld := ⟨0x0A8, 5, 3⟩
def FTL.VIEW_CTRL.CAPTURE : Fld := ⟨0x0A8, 8, 1⟩
def FTL.VIEW_CTRL.CAPTURED : Fld := ⟨0x0A8, 9, 1⟩
/-- FTL.VIEW_DATA (15 R386), whole. -/
def FTL.VIEW_DATA.word : Fld := ⟨0x0AC, 0, 32⟩
def FTL.VIEW_DATA.DATA : Fld := ⟨0x0AC, 0, 32⟩
/-- The rows of the FTL registers. -/
def FTL.rows : List RegRow :=
  [⟨0x020, 0x0, 0xFFFFFFF, 0x0⟩,
   ⟨0x0A0, 0x19A029, 0xFFFFFF, 0x0⟩,
   ⟨0x0A4, 0x0, 0x0, 0x0⟩,
   ⟨0x0A8, 0x0, 0xFF, 0x0⟩,
   ⟨0x0AC, 0x0, 0x0, 0x0⟩]

/-! FRL: 16_rail_channel.md -/
/-- FRL.RL_CTRL (16 R422), whole. -/
def FRL.RL_CTRL.word : Fld := ⟨0x020, 0, 32⟩
def FRL.RL_CTRL.ROLE : Fld := ⟨0x020, 0, 2⟩
def FRL.RL_CTRL.FEED_PREF : Fld := ⟨0x020, 2, 1⟩
def FRL.RL_CTRL.REVERT : Fld := ⟨0x020, 3, 1⟩
def FRL.RL_CTRL.RELAY_EN : Fld := ⟨0x020, 4, 1⟩
def FRL.RL_CTRL.WAKE_CYCLES : Fld := ⟨0x020, 8, 8⟩
/-- FRL.RL_NET (16 R422), whole. -/
def FRL.RL_NET.word : Fld := ⟨0x024, 0, 32⟩
def FRL.RL_NET.NET_ID : Fld := ⟨0x024, 0, 16⟩
def FRL.RL_NET.NODE_ID : Fld := ⟨0x024, 16, 12⟩
/-- FRL.RL_TUNE (16 R422), whole. -/
def FRL.RL_TUNE.word : Fld := ⟨0x028, 0, 32⟩
def FRL.RL_TUNE.STRAIN_K : Fld := ⟨0x028, 0, 4⟩
def FRL.RL_TUNE.CAPTURE_MARGIN : Fld := ⟨0x028, 4, 4⟩
def FRL.RL_TUNE.TM_MARGIN : Fld := ⟨0x028, 8, 8⟩
def FRL.RL_TUNE.CS_LEVEL : Fld := ⟨0x028, 16, 8⟩
/-- FRL.RL_STATUS (16 R422), whole. -/
def FRL.RL_STATUS.word : Fld := ⟨0x02C, 0, 32⟩
def FRL.RL_STATUS.MAC_STATE : Fld := ⟨0x02C, 0, 3⟩
def FRL.RL_STATUS.FEED : Fld := ⟨0x02C, 3, 1⟩
def FRL.RL_STATUS.OTHER_HEARD : Fld := ⟨0x02C, 4, 1⟩
def FRL.RL_STATUS.ADMITTED : Fld := ⟨0x02C, 5, 1⟩
def FRL.RL_STATUS.RELAYING : Fld := ⟨0x02C, 6, 1⟩
def FRL.RL_STATUS.SYNC_RIPPLE : Fld := ⟨0x02C, 7, 1⟩
def FRL.RL_STATUS.HOPS : Fld := ⟨0x02C, 8, 2⟩
def FRL.RL_STATUS.PARENT : Fld := ⟨0x02C, 12, 12⟩
def FRL.RL_STATUS.MISSED : Fld := ⟨0x02C, 24, 8⟩
/-- FRL.RL_EPOCH (16 R422), whole. -/
def FRL.RL_EPOCH.word : Fld := ⟨0x030, 0, 32⟩
def FRL.RL_EPOCH.EPOCH : Fld := ⟨0x030, 0, 16⟩
def FRL.RL_EPOCH.GEN : Fld := ⟨0x030, 16, 8⟩
/-- FRL.RL_GUARD (16 R422), whole. -/
def FRL.RL_GUARD.word : Fld := ⟨0x034, 0, 32⟩
def FRL.RL_GUARD.GUARD : Fld := ⟨0x034, 0, 16⟩
def FRL.RL_GUARD.AGE : Fld := ⟨0x034, 16, 16⟩
/-- FRL.NBR_SEL (16 R422), whole. -/
def FRL.NBR_SEL.word : Fld := ⟨0x038, 0, 32⟩
def FRL.NBR_SEL.SLOT : Fld := ⟨0x038, 0, 5⟩
/-- FRL.NBR_INFO (16 R422), whole. -/
def FRL.NBR_INFO.word : Fld := ⟨0x03C, 0, 32⟩
def FRL.NBR_INFO.NODE : Fld := ⟨0x03C, 0, 12⟩
def FRL.NBR_INFO.VALID : Fld := ⟨0x03C, 12, 1⟩
def FRL.NBR_INFO.TX_MAP : Fld := ⟨0x03C, 13, 1⟩
def FRL.NBR_INFO.RX_MAP : Fld := ⟨0x03C, 14, 1⟩
def FRL.NBR_INFO.SNR : Fld := ⟨0x03C, 16, 8⟩
def FRL.NBR_INFO.MAP_AGE : Fld := ⟨0x03C, 24, 8⟩
/-- FRL.NBR_RATE (16 R422), whole. -/
def FRL.NBR_RATE.word : Fld := ⟨0x040, 0, 32⟩
def FRL.NBR_RATE.TX_NBPS : Fld := ⟨0x040, 0, 10⟩
def FRL.NBR_RATE.TX_RATE : Fld := ⟨0x040, 10, 1⟩
def FRL.NBR_RATE.RX_NBPS : Fld := ⟨0x040, 16, 10⟩
def FRL.NBR_RATE.RX_RATE : Fld := ⟨0x040, 26, 1⟩
/-- FRL.NBR_SEQ (16 R422), whole. -/
def FRL.NBR_SEQ.word : Fld := ⟨0x044, 0, 32⟩
def FRL.NBR_SEQ.TX_SEQ : Fld := ⟨0x044, 0, 8⟩
def FRL.NBR_SEQ.RX_SEQ : Fld := ⟨0x044, 8, 8⟩
def FRL.NBR_SEQ.ERR_RUN : Fld := ⟨0x044, 16, 8⟩
def FRL.NBR_SEQ.RESENDS : Fld := ⟨0x044, 24, 8⟩
/-- FRL.RL_ERRS (16 R422), whole. -/
def FRL.RL_ERRS.word : Fld := ⟨0x048, 0, 32⟩
def FRL.RL_ERRS.STRANGER : Fld := ⟨0x048, 0, 8⟩
def FRL.RL_ERRS.REPLAY : Fld := ⟨0x048, 8, 8⟩
def FRL.RL_ERRS.FCS_FAIL : Fld := ⟨0x048, 16, 8⟩
def FRL.RL_ERRS.DUPLICATE : Fld := ⟨0x048, 24, 8⟩
/-- FRL.RL_LOSS (16 R422), whole. -/
def FRL.RL_LOSS.word : Fld := ⟨0x04C, 0, 32⟩
def FRL.RL_LOSS.PREAMBLE_LOST : Fld := ⟨0x04C, 0, 8⟩
def FRL.RL_LOSS.CAPTURED : Fld := ⟨0x04C, 8, 8⟩
def FRL.RL_LOSS.DROPPED : Fld := ⟨0x04C, 16, 8⟩
def FRL.RL_LOSS.DEFER_CAP : Fld := ⟨0x04C, 24, 8⟩
/-- FRL.RL_STRAIN (16 R422), whole. -/
def FRL.RL_STRAIN.word : Fld := ⟨0x050, 0, 32⟩
def FRL.RL_STRAIN.BLANKED : Fld := ⟨0x050, 0, 16⟩
def FRL.RL_STRAIN.ERASED : Fld := ⟨0x050, 16, 8⟩
def FRL.RL_STRAIN.RMS : Fld := ⟨0x050, 24, 8⟩
/-- FRL.RL_SESSION (16 R422), whole. -/
def FRL.RL_SESSION.word : Fld := ⟨0x054, 0, 32⟩
def FRL.RL_SESSION.ROLE : Fld := ⟨0x054, 0, 2⟩
def FRL.RL_SESSION.OPEN : Fld := ⟨0x054, 2, 1⟩
def FRL.RL_SESSION.LOCKED : Fld := ⟨0x054, 3, 1⟩
def FRL.RL_SESSION.PEER : Fld := ⟨0x054, 4, 12⟩
def FRL.RL_SESSION.LOCKOUT_REMAIN : Fld := ⟨0x054, 16, 12⟩
/-- FRL.RL_HOST (16 R422), whole. -/
def FRL.RL_HOST.word : Fld := ⟨0x058, 0, 32⟩
def FRL.RL_HOST.SEND_PENDING : Fld := ⟨0x058, 0, 8⟩
def FRL.RL_HOST.SEND_LOST : Fld := ⟨0x058, 8, 8⟩
def FRL.RL_HOST.DELIVERED : Fld := ⟨0x058, 16, 8⟩
def FRL.RL_HOST.HOST_EN : Fld := ⟨0x058, 24, 1⟩
/-- FRL.RL_MASTER (16 R422), whole. -/
def FRL.RL_MASTER.word : Fld := ⟨0x05C, 0, 32⟩
def FRL.RL_MASTER.MEMBERS : Fld := ⟨0x05C, 0, 12⟩
def FRL.RL_MASTER.REPEATERS : Fld := ⟨0x05C, 12, 3⟩
def FRL.RL_MASTER.POLL_ROUND : Fld := ⟨0x05C, 16, 8⟩
/-- The rows of the FRL registers. -/
def FRL.rows : List RegRow :=
  [⟨0x020, 0x1418, 0xFF1F, 0x0⟩,
   ⟨0x024, 0x10000, 0xFFFFFFF, 0x0⟩,
   ⟨0x028, 0xC0864, 0xFFFFFF, 0x0⟩,
   ⟨0x02C, 0x0, 0x0, 0x0⟩,
   ⟨0x030, 0x0, 0x0, 0x0⟩,
   ⟨0x034, 0x0, 0x0, 0x0⟩,
   ⟨0x038, 0x0, 0x1F, 0x0⟩,
   ⟨0x03C, 0x0, 0x0, 0x0⟩,
   ⟨0x040, 0x0, 0x0, 0x0⟩,
   ⟨0x044, 0x0, 0x0, 0x0⟩,
   ⟨0x048, 0x0, 0x0, 0x0⟩,
   ⟨0x04C, 0x0, 0x0, 0x0⟩,
   ⟨0x050, 0x0, 0x0, 0x0⟩,
   ⟨0x054, 0x0, 0x0, 0x0⟩,
   ⟨0x058, 0x1000000, 0x1000000, 0x0⟩,
   ⟨0x05C, 0x0, 0x0, 0x0⟩]

/-! FBR: 14_field_island_and_power.md -/
/-- FBR.LINK_STATUS (14 R364), whole. -/
def FBR.LINK_STATUS.word : Fld := ⟨0x020, 0, 32⟩
def FBR.LINK_STATUS.UP : Fld := ⟨0x020, 0, 1⟩
def FBR.LINK_STATUS.STALE : Fld := ⟨0x020, 1, 1⟩
def FBR.LINK_STATUS.RESYNC : Fld := ⟨0x020, 2, 1⟩
def FBR.LINK_STATUS.TX_SEQ : Fld := ⟨0x020, 8, 8⟩
def FBR.LINK_STATUS.RX_SEQ : Fld := ⟨0x020, 16, 8⟩
def FBR.LINK_STATUS.FIELD_STATE : Fld := ⟨0x020, 24, 3⟩
/-- FBR.MIRROR_AGE (14 R364), whole. -/
def FBR.MIRROR_AGE.word : Fld := ⟨0x024, 0, 32⟩
def FBR.MIRROR_AGE.STATUS_MS : Fld := ⟨0x024, 0, 16⟩
def FBR.MIRROR_AGE.TELEM_MS : Fld := ⟨0x024, 16, 16⟩
/-- FBR.ERR_COUNTS (14 R364), whole. -/
def FBR.ERR_COUNTS.word : Fld := ⟨0x028, 0, 32⟩
def FBR.ERR_COUNTS.CRC_ERR : Fld := ⟨0x028, 0, 8⟩
def FBR.ERR_COUNTS.UNKNOWN : Fld := ⟨0x028, 8, 8⟩
def FBR.ERR_COUNTS.RESENDS : Fld := ⟨0x028, 16, 8⟩
def FBR.ERR_COUNTS.DROPPED : Fld := ⟨0x028, 24, 8⟩
/-- FBR.FAR_COUNTS (14 R364), whole. -/
def FBR.FAR_COUNTS.word : Fld := ⟨0x02C, 0, 32⟩
def FBR.FAR_COUNTS.CRC_ERR : Fld := ⟨0x02C, 0, 8⟩
def FBR.FAR_COUNTS.UNKNOWN : Fld := ⟨0x02C, 8, 8⟩
def FBR.FAR_COUNTS.RESENDS : Fld := ⟨0x02C, 16, 8⟩
def FBR.FAR_COUNTS.LINK_DOWNS : Fld := ⟨0x02C, 24, 8⟩
/-- FBR.VOTE_STATUS (14 R364), whole. -/
def FBR.VOTE_STATUS.word : Fld := ⟨0x030, 0, 32⟩
def FBR.VOTE_STATUS.DISSENT : Fld := ⟨0x030, 0, 6⟩
def FBR.VOTE_STATUS.NO_MAJORITY : Fld := ⟨0x030, 8, 6⟩
def FBR.VOTE_STATUS.REPAIRS : Fld := ⟨0x030, 16, 16⟩
/-- FBR.SETTING_STATUS (14 R364), whole. -/
def FBR.SETTING_STATUS.word : Fld := ⟨0x034, 0, 32⟩
def FBR.SETTING_STATUS.PENDING : Fld := ⟨0x034, 0, 8⟩
def FBR.SETTING_STATUS.REJECT : Fld := ⟨0x034, 8, 1⟩
def FBR.SETTING_STATUS.PAGE : Fld := ⟨0x034, 9, 2⟩
def FBR.SETTING_STATUS.OFFSET : Fld := ⟨0x034, 12, 12⟩
def FBR.SETTING_STATUS.REASON : Fld := ⟨0x034, 24, 4⟩
/-- FBR.IMAGE_CTRL (14 R364), whole. -/
def FBR.IMAGE_CTRL.word : Fld := ⟨0x038, 0, 32⟩
def FBR.IMAGE_CTRL.BEGIN : Fld := ⟨0x038, 0, 1⟩
def FBR.IMAGE_CTRL.ACTIVATE : Fld := ⟨0x038, 1, 1⟩
def FBR.IMAGE_CTRL.ABORT : Fld := ⟨0x038, 2, 1⟩
def FBR.IMAGE_CTRL.STATE : Fld := ⟨0x038, 4, 3⟩
def FBR.IMAGE_CTRL.SLOT : Fld := ⟨0x038, 7, 1⟩
def FBR.IMAGE_CTRL.VERSION : Fld := ⟨0x038, 16, 16⟩
/-- FBR.IMAGE_PORT (14 R364), whole. -/
def FBR.IMAGE_PORT.word : Fld := ⟨0x03C, 0, 32⟩
/-- The rows of the FBR registers. -/
def FBR.rows : List RegRow :=
  [⟨0x020, 0x2, 0x0, 0x0⟩,
   ⟨0x024, 0xFFFFFFFF, 0x0, 0x0⟩,
   ⟨0x028, 0x0, 0x0, 0x0⟩,
   ⟨0x02C, 0x0, 0x0, 0x0⟩,
   ⟨0x030, 0x0, 0x0, 0x0⟩,
   ⟨0x034, 0x0, 0x0, 0x0⟩,
   ⟨0x038, 0x0, 0x0, 0x0⟩,
   ⟨0x03C, 0x0, 0x0, 0x0⟩]

/-! QSC: 09_queues_and_scheduling.md -/
/-- QSC.SEC_SUMMARY (09 R234), whole. -/
def QSC.SEC_SUMMARY.word : Fld := ⟨0x020, 0, 32⟩
/-- QSC.TAG_CFG (09 R234), whole. -/
def QSC.TAG_CFG.word : Fld := ⟨0x024, 0, 32⟩
def QSC.TAG_CFG.ETYPE : Fld := ⟨0x024, 0, 16⟩
def QSC.TAG_CFG.REJECT : Fld := ⟨0x024, 16, 1⟩
/-- QSC.IND_ADDR (09 R234), whole. -/
def QSC.IND_ADDR.word : Fld := ⟨0x028, 0, 32⟩
def QSC.IND_ADDR.INDEX : Fld := ⟨0x028, 0, 20⟩
def QSC.IND_ADDR.TABLE : Fld := ⟨0x028, 20, 4⟩
def QSC.IND_ADDR.HALF : Fld := ⟨0x028, 24, 1⟩
/-- QSC.IND_CMD (09 R234), whole. -/
def QSC.IND_CMD.word : Fld := ⟨0x02C, 0, 32⟩
def QSC.IND_CMD.READ : Fld := ⟨0x02C, 0, 1⟩
def QSC.IND_CMD.WRITE : Fld := ⟨0x02C, 1, 1⟩
def QSC.IND_CMD.CLEAR : Fld := ⟨0x02C, 2, 1⟩
def QSC.IND_CMD.BUSY : Fld := ⟨0x02C, 8, 1⟩
def QSC.IND_CMD.RESULT : Fld := ⟨0x02C, 12, 4⟩
/-- QSC.IND_DATA0 (09 R234), whole. -/
def QSC.IND_DATA0.word : Fld := ⟨0x030, 0, 32⟩
/-- QSC.IND_DATA1 (09 R234), whole. -/
def QSC.IND_DATA1.word : Fld := ⟨0x034, 0, 32⟩
/-- QSC.IND_DATA2 (09 R234), whole. -/
def QSC.IND_DATA2.word : Fld := ⟨0x038, 0, 32⟩
/-- QSC.IND_DATA3 (09 R234), whole. -/
def QSC.IND_DATA3.word : Fld := ⟨0x03C, 0, 32⟩
/-- The rows of the QSC registers. -/
def QSC.rows : List RegRow :=
  [⟨0x020, 0x0, 0x0, 0x0⟩,
   ⟨0x024, 0x88B5, 0xFFFF, 0x0⟩,
   ⟨0x028, 0x0, 0x1FFFFFF, 0x0⟩,
   ⟨0x02C, 0x0, 0x0, 0x0⟩,
   ⟨0x030, 0x0, 0xFFFFFFFF, 0x0⟩,
   ⟨0x034, 0x0, 0xFFFFFFFF, 0x0⟩,
   ⟨0x038, 0x0, 0xFFFFFFFF, 0x0⟩,
   ⟨0x03C, 0x0, 0xFFFFFFFF, 0x0⟩]

/-! SCH: 09_queues_and_scheduling.md -/
/-- SCH.SCH_CTRL (09 R236), whole. -/
def SCH.SCH_CTRL.word : Fld := ⟨0x020, 0, 32⟩
def SCH.SCH_CTRL.VIEW : Fld := ⟨0x020, 0, 6⟩
/-- SCH.IND_ADDR (09 R236), whole. -/
def SCH.IND_ADDR.word : Fld := ⟨0x024, 0, 32⟩
/-- SCH.IND_CMD (09 R236), whole. -/
def SCH.IND_CMD.word : Fld := ⟨0x028, 0, 32⟩
/-- SCH.IND_DATA0 (09 R236), whole. -/
def SCH.IND_DATA0.word : Fld := ⟨0x02C, 0, 32⟩
/-- SCH.IND_DATA1 (09 R236), whole. -/
def SCH.IND_DATA1.word : Fld := ⟨0x030, 0, 32⟩
/-- SCH.IND_DATA2 (09 R236), whole. -/
def SCH.IND_DATA2.word : Fld := ⟨0x034, 0, 32⟩
/-- SCH.IND_DATA3 (09 R236), whole. -/
def SCH.IND_DATA3.word : Fld := ⟨0x038, 0, 32⟩
/-- SCH.TX_CAP (09 R236), whole. -/
def SCH.TX_CAP.word : Fld := ⟨0x03C, 0, 32⟩
def SCH.TX_CAP.CAP : Fld := ⟨0x03C, 0, 26⟩
/-- SCH.TX_CAP_NEXT (09 R236), whole. -/
def SCH.TX_CAP_NEXT.word : Fld := ⟨0x040, 0, 32⟩
def SCH.TX_CAP_NEXT.NEXT : Fld := ⟨0x040, 0, 26⟩
def SCH.TX_CAP_NEXT.PENDING : Fld := ⟨0x040, 31, 1⟩
/-- SCH.TX_STATUS (09 R236), whole. -/
def SCH.TX_STATUS.word : Fld := ⟨0x044, 0, 32⟩
def SCH.TX_STATUS.ACTIVE : Fld := ⟨0x044, 0, 16⟩
def SCH.TX_STATUS.MIN_SHORT : Fld := ⟨0x044, 16, 1⟩
def SCH.TX_STATUS.ENABLED : Fld := ⟨0x044, 17, 1⟩
/-- SCH.RX_STATUS (09 R236), whole. -/
def SCH.RX_STATUS.word : Fld := ⟨0x048, 0, 32⟩
def SCH.RX_STATUS.CONTRIB : Fld := ⟨0x048, 0, 16⟩
def SCH.RX_STATUS.SYNCED : Fld := ⟨0x048, 16, 1⟩
def SCH.RX_STATUS.SKEW : Fld := ⟨0x048, 24, 8⟩
/-- SCH.SCH_LAST (09 R236), whole. -/
def SCH.SCH_LAST.word : Fld := ⟨0x04C, 0, 32⟩
def SCH.SCH_LAST.SEQ : Fld := ⟨0x04C, 0, 24⟩
def SCH.SCH_LAST.CONDUIT : Fld := ⟨0x04C, 24, 6⟩
def SCH.SCH_LAST.KIND : Fld := ⟨0x04C, 30, 2⟩
/-- The rows of the SCH registers. -/
def SCH.rows : List RegRow :=
  [⟨0x020, 0x0, 0x3F, 0x0⟩,
   ⟨0x024, 0x0, 0x1FFFFFF, 0x0⟩,
   ⟨0x028, 0x0, 0x0, 0x0⟩,
   ⟨0x02C, 0x0, 0xFFFFFFFF, 0x0⟩,
   ⟨0x030, 0x0, 0xFFFFFFFF, 0x0⟩,
   ⟨0x034, 0x0, 0xFFFFFFFF, 0x0⟩,
   ⟨0x038, 0x0, 0xFFFFFFFF, 0x0⟩,
   ⟨0x03C, 0x0, 0x0, 0x0⟩,
   ⟨0x040, 0x0, 0x0, 0x0⟩,
   ⟨0x044, 0x0, 0x0, 0x0⟩,
   ⟨0x048, 0x0, 0x0, 0x0⟩,
   ⟨0x04C, 0x0, 0x0, 0x0⟩]

/-! BSC: 10_buffering_and_flow_control.md -/
/-- BSC.SEC_SUMMARY (10 R265), whole. -/
def BSC.SEC_SUMMARY.word : Fld := ⟨0x020, 0, 32⟩
/-- BSC.EG_OCC (10 R265), whole. -/
def BSC.EG_OCC.word : Fld := ⟨0x024, 0, 32⟩
def BSC.EG_OCC.CELLS : Fld := ⟨0x024, 0, 20⟩
/-- BSC.EG_HWM (10 R265), whole. -/
def BSC.EG_HWM.word : Fld := ⟨0x028, 0, 32⟩
def BSC.EG_HWM.CELLS : Fld := ⟨0x028, 0, 20⟩
def BSC.EG_HWM.CLEAR : Fld := ⟨0x028, 31, 1⟩
/-- BSC.IN_OCC (10 R265), whole. -/
def BSC.IN_OCC.word : Fld := ⟨0x02C, 0, 32⟩
def BSC.IN_OCC.CELLS : Fld := ⟨0x02C, 0, 18⟩
/-- BSC.IN_HWM (10 R265), whole. -/
def BSC.IN_HWM.word : Fld := ⟨0x030, 0, 32⟩
def BSC.IN_HWM.CELLS : Fld := ⟨0x030, 0, 18⟩
def BSC.IN_HWM.CLEAR : Fld := ⟨0x030, 31, 1⟩
/-- BSC.BUF_CFG (10 R265), whole. -/
def BSC.BUF_CFG.word : Fld := ⟨0x034, 0, 32⟩
def BSC.BUF_CFG.RET_RESERVE : Fld := ⟨0x034, 0, 16⟩
/-- BSC.BUF_STATUS (10 R265), whole. -/
def BSC.BUF_STATUS.word : Fld := ⟨0x038, 0, 32⟩
def BSC.BUF_STATUS.ONDIE_PAUSE : Fld := ⟨0x038, 0, 1⟩
def BSC.BUF_STATUS.DDR_PAUSE : Fld := ⟨0x038, 1, 1⟩
def BSC.BUF_STATUS.ONDIE_FULL : Fld := ⟨0x038, 2, 1⟩
def BSC.BUF_STATUS.DDR_FULL : Fld := ⟨0x038, 3, 1⟩
def BSC.BUF_STATUS.STEEP_OFF : Fld := ⟨0x038, 4, 1⟩
def BSC.BUF_STATUS.IN_FULL : Fld := ⟨0x038, 5, 1⟩
/-- BSC.DROP_LAST (10 R265), whole. -/
def BSC.DROP_LAST.word : Fld := ⟨0x03C, 0, 32⟩
def BSC.DROP_LAST.WHERE : Fld := ⟨0x03C, 0, 20⟩
def BSC.DROP_LAST.REASON : Fld := ⟨0x03C, 20, 4⟩
/-- The rows of the BSC registers. -/
def BSC.rows : List RegRow :=
  [⟨0x020, 0x0, 0x0, 0x0⟩,
   ⟨0x024, 0x0, 0x0, 0x0⟩,
   ⟨0x028, 0x0, 0x0, 0x0⟩,
   ⟨0x02C, 0x0, 0x0, 0x0⟩,
   ⟨0x030, 0x0, 0x0, 0x0⟩,
   ⟨0x034, 0x800, 0xFFFF, 0x0⟩,
   ⟨0x038, 0x0, 0x0, 0x0⟩,
   ⟨0x03C, 0x0, 0x0, 0x0⟩]

/-! STP: 10_buffering_and_flow_control.md -/
/-- STP.STP_CTRL (10 R267), whole. -/
def STP.STP_CTRL.word : Fld := ⟨0x020, 0, 32⟩
def STP.STP_CTRL.STEEP_EN : Fld := ⟨0x020, 0, 1⟩
def STP.STP_CTRL.PF_DEPTH : Fld := ⟨0x020, 8, 4⟩
/-- STP.GLOBAL_THRESH (10 R267), whole. -/
def STP.GLOBAL_THRESH.word : Fld := ⟨0x024, 0, 32⟩
def STP.GLOBAL_THRESH.CELLS : Fld := ⟨0x024, 0, 20⟩
/-- STP.GLOBAL_MIN (10 R267), whole. -/
def STP.GLOBAL_MIN.word : Fld := ⟨0x028, 0, 32⟩
def STP.GLOBAL_MIN.CELLS : Fld := ⟨0x028, 0, 16⟩
/-- STP.ONDIE_PAUSE (10 R267), whole. -/
def STP.ONDIE_PAUSE.word : Fld := ⟨0x02C, 0, 32⟩
def STP.ONDIE_PAUSE.CELLS : Fld := ⟨0x02C, 0, 20⟩
/-- STP.DDR_PAUSE (10 R267), whole. -/
def STP.DDR_PAUSE.word : Fld := ⟨0x030, 0, 32⟩
def STP.DDR_PAUSE.PAGES : Fld := ⟨0x030, 0, 27⟩
/-- STP.DDR_FREE (10 R267), whole. -/
def STP.DDR_FREE.word : Fld := ⟨0x034, 0, 32⟩
def STP.DDR_FREE.PAGES : Fld := ⟨0x034, 0, 27⟩
/-- STP.STEEP_QUEUES (10 R267), whole. -/
def STP.STEEP_QUEUES.word : Fld := ⟨0x038, 0, 32⟩
def STP.STEEP_QUEUES.COUNT : Fld := ⟨0x038, 0, 21⟩
/-- STP.STP_STATUS (10 R267), whole. -/
def STP.STP_STATUS.word : Fld := ⟨0x03C, 0, 32⟩
def STP.STP_STATUS.ACTIVE : Fld := ⟨0x03C, 0, 1⟩
def STP.STP_STATUS.OPS_FULL : Fld := ⟨0x03C, 1, 1⟩
def STP.STP_STATUS.CHANNELS : Fld := ⟨0x03C, 8, 5⟩
/-- STP.OPS_INFLIGHT (10 R267), whole. -/
def STP.OPS_INFLIGHT.word : Fld := ⟨0x040, 0, 32⟩
def STP.OPS_INFLIGHT.NOW : Fld := ⟨0x040, 0, 16⟩
def STP.OPS_INFLIGHT.HWM : Fld := ⟨0x040, 16, 16⟩
/-- STP.STP_LAST (10 R267), whole. -/
def STP.STP_LAST.word : Fld := ⟨0x044, 0, 32⟩
def STP.STP_LAST.QUEUE : Fld := ⟨0x044, 0, 20⟩
def STP.STP_LAST.WHERE : Fld := ⟨0x044, 20, 2⟩
/-- The rows of the STP registers. -/
def STP.rows : List RegRow :=
  [⟨0x020, 0x801, 0xF01, 0x0⟩,
   ⟨0x024, 0x78000, 0xFFFFF, 0x0⟩,
   ⟨0x028, 0x100, 0xFFFF, 0x0⟩,
   ⟨0x02C, 0x10000, 0xFFFFF, 0x0⟩,
   ⟨0x030, 0x400000, 0x7FFFFFF, 0x0⟩,
   ⟨0x034, 0x7000000, 0x0, 0x0⟩,
   ⟨0x038, 0x0, 0x0, 0x0⟩,
   ⟨0x03C, 0x0, 0x0, 0x0⟩,
   ⟨0x040, 0x0, 0x0, 0x0⟩,
   ⟨0x044, 0x0, 0x0, 0x0⟩]

/-! FCT: 10_buffering_and_flow_control.md -/
/-- FCT.FC_CTRL (10 R269), whole. -/
def FCT.FC_CTRL.word : Fld := ⟨0x020, 0, 32⟩
def FCT.FC_CTRL.PFC_GEN_EN : Fld := ⟨0x020, 0, 1⟩
def FCT.FC_CTRL.GP_GEN_EN : Fld := ⟨0x020, 1, 1⟩
def FCT.FC_CTRL.HONOUR_EN : Fld := ⟨0x020, 2, 1⟩
def FCT.FC_CTRL.PAUSE_QUANTA : Fld := ⟨0x020, 16, 16⟩
/-- FCT.FC_TIMING (10 R269), whole. -/
def FCT.FC_TIMING.word : Fld := ⟨0x024, 0, 32⟩
def FCT.FC_TIMING.PFC_REFRESH : Fld := ⟨0x024, 0, 8⟩
def FCT.FC_TIMING.GP_REFRESH : Fld := ⟨0x024, 8, 8⟩
def FCT.FC_TIMING.GP_TIME : Fld := ⟨0x024, 16, 16⟩
/-- FCT.GP_DA_LO (10 R269), whole. -/
def FCT.GP_DA_LO.word : Fld := ⟨0x028, 0, 32⟩
/-- FCT.GP_DA_HI (10 R269), whole. -/
def FCT.GP_DA_HI.word : Fld := ⟨0x02C, 0, 32⟩
/-- FCT.IND_ADDR (10 R269), whole. -/
def FCT.IND_ADDR.word : Fld := ⟨0x030, 0, 32⟩
/-- FCT.IND_CMD (10 R269), whole. -/
def FCT.IND_CMD.word : Fld := ⟨0x034, 0, 32⟩
/-- FCT.IND_DATA0 (10 R269), whole. -/
def FCT.IND_DATA0.word : Fld := ⟨0x038, 0, 32⟩
/-- FCT.IND_DATA1 (10 R269), whole. -/
def FCT.IND_DATA1.word : Fld := ⟨0x03C, 0, 32⟩
/-- FCT.IND_DATA2 (10 R269), whole. -/
def FCT.IND_DATA2.word : Fld := ⟨0x040, 0, 32⟩
/-- FCT.IND_DATA3 (10 R269), whole. -/
def FCT.IND_DATA3.word : Fld := ⟨0x044, 0, 32⟩
/-- FCT.FC_STATUS (10 R269), whole. -/
def FCT.FC_STATUS.word : Fld := ⟨0x048, 0, 32⟩
def FCT.FC_STATUS.CONDUITS : Fld := ⟨0x048, 0, 7⟩
def FCT.FC_STATUS.GROUPS : Fld := ⟨0x048, 8, 13⟩
def FCT.FC_STATUS.HOST_PAUSED : Fld := ⟨0x048, 21, 10⟩
def FCT.FC_STATUS.CFG_REJECT : Fld := ⟨0x048, 31, 1⟩
/-- FCT.FC_LAST (10 R269), whole. -/
def FCT.FC_LAST.word : Fld := ⟨0x04C, 0, 32⟩
def FCT.FC_LAST.CONDUIT : Fld := ⟨0x04C, 0, 6⟩
def FCT.FC_LAST.ON : Fld := ⟨0x04C, 6, 1⟩
def FCT.FC_LAST.CAUSE : Fld := ⟨0x04C, 7, 3⟩
/-- The rows of the FCT registers. -/
def FCT.rows : List RegRow :=
  [⟨0x020, 0xFFFF0005, 0xFFFF0007, 0x0⟩,
   ⟨0x024, 0x7D03208, 0xFFFFFFFF, 0x0⟩,
   ⟨0x028, 0xB501, 0xFFFFFFFF, 0x0⟩,
   ⟨0x02C, 0x300, 0xFFFF, 0x0⟩,
   ⟨0x030, 0x0, 0x1FFFFFF, 0x0⟩,
   ⟨0x034, 0x0, 0x0, 0x0⟩,
   ⟨0x038, 0x0, 0xFFFFFFFF, 0x0⟩,
   ⟨0x03C, 0x0, 0xFFFFFFFF, 0x0⟩,
   ⟨0x040, 0x0, 0xFFFFFFFF, 0x0⟩,
   ⟨0x044, 0x0, 0xFFFFFFFF, 0x0⟩,
   ⟨0x048, 0x0, 0x0, 0x0⟩,
   ⟨0x04C, 0x0, 0x0, 0x0⟩]

/-! MSC: 11_memory_and_error_protection.md -/
/-- MSC.SEC_SUMMARY (11 R294), whole. -/
def MSC.SEC_SUMMARY.word : Fld := ⟨0x020, 0, 32⟩
/-- MSC.MEM_CTRL (11 R294), whole. -/
def MSC.MEM_CTRL.word : Fld := ⟨0x024, 0, 32⟩
def MSC.MEM_CTRL.PATROL_EN : Fld := ⟨0x024, 0, 1⟩
def MSC.MEM_CTRL.AUTO_MIG : Fld := ⟨0x024, 1, 1⟩
def MSC.MEM_CTRL.AUTO_DEV_FAIL : Fld := ⟨0x024, 2, 1⟩
def MSC.MEM_CTRL.REMAP_EN : Fld := ⟨0x024, 3, 1⟩
def MSC.MEM_CTRL.SPPR_EN : Fld := ⟨0x024, 4, 1⟩
/-- MSC.MEM_STATUS (11 R294), whole. -/
def MSC.MEM_STATUS.word : Fld := ⟨0x028, 0, 32⟩
def MSC.MEM_STATUS.IN_SVC : Fld := ⟨0x028, 0, 17⟩
def MSC.MEM_STATUS.SPARE_FOR : Fld := ⟨0x028, 17, 4⟩
def MSC.MEM_STATUS.SPARE_USED : Fld := ⟨0x028, 21, 1⟩
def MSC.MEM_STATUS.DDR_SVC : Fld := ⟨0x028, 22, 1⟩
def MSC.MEM_STATUS.WORKING : Fld := ⟨0x028, 23, 5⟩
/-- MSC.MIG_CTRL (11 R294), whole. -/
def MSC.MIG_CTRL.word : Fld := ⟨0x02C, 0, 32⟩
def MSC.MIG_CTRL.SOURCE : Fld := ⟨0x02C, 0, 5⟩
def MSC.MIG_CTRL.START : Fld := ⟨0x02C, 8, 1⟩
def MSC.MIG_CTRL.ABORT : Fld := ⟨0x02C, 9, 1⟩
def MSC.MIG_CTRL.PACE : Fld := ⟨0x02C, 16, 8⟩
/-- MSC.MIG_STATUS (11 R294), whole. -/
def MSC.MIG_STATUS.word : Fld := ⟨0x030, 0, 32⟩
def MSC.MIG_STATUS.STATE : Fld := ⟨0x030, 0, 3⟩
def MSC.MIG_STATUS.SOURCE : Fld := ⟨0x030, 3, 5⟩
def MSC.MIG_STATUS.CFG_REJECT : Fld := ⟨0x030, 8, 1⟩
def MSC.MIG_STATUS.PROGRESS : Fld := ⟨0x030, 16, 16⟩
/-- MSC.PATROL_CTRL (11 R294), whole. -/
def MSC.PATROL_CTRL.word : Fld := ⟨0x034, 0, 32⟩
def MSC.PATROL_CTRL.PAUSE : Fld := ⟨0x034, 0, 17⟩
def MSC.PATROL_CTRL.PERIOD : Fld := ⟨0x034, 24, 8⟩
/-- MSC.PATROL_STATUS (11 R294), whole. -/
def MSC.PATROL_STATUS.word : Fld := ⟨0x038, 0, 32⟩
def MSC.PATROL_STATUS.PROGRESS : Fld := ⟨0x038, 0, 16⟩
def MSC.PATROL_STATUS.PASSES : Fld := ⟨0x038, 16, 16⟩
/-- MSC.DEV_FAIL_CFG (11 R294), whole. -/
def MSC.DEV_FAIL_CFG.word : Fld := ⟨0x03C, 0, 32⟩
def MSC.DEV_FAIL_CFG.BURSTS : Fld := ⟨0x03C, 0, 16⟩
def MSC.DEV_FAIL_CFG.SHARE : Fld := ⟨0x03C, 16, 8⟩
/-- MSC.ERR_ADDR_LO (11 R294), whole. -/
def MSC.ERR_ADDR_LO.word : Fld := ⟨0x040, 0, 32⟩
/-- MSC.ERR_ADDR_HI (11 R294), whole. -/
def MSC.ERR_ADDR_HI.word : Fld := ⟨0x044, 0, 32⟩
def MSC.ERR_ADDR_HI.ADDR_HI : Fld := ⟨0x044, 0, 7⟩
def MSC.ERR_ADDR_HI.CHANNEL : Fld := ⟨0x044, 8, 5⟩
def MSC.ERR_ADDR_HI.KIND : Fld := ⟨0x044, 13, 3⟩
def MSC.ERR_ADDR_HI.REGION : Fld := ⟨0x044, 16, 2⟩
/-- MSC.POISON_COUNT (11 R294), whole. -/
def MSC.POISON_COUNT.word : Fld := ⟨0x048, 0, 32⟩
def MSC.POISON_COUNT.COUNT : Fld := ⟨0x048, 0, 32⟩
/-- MSC.MEM_SUMMARY (11 R294), whole. -/
def MSC.MEM_SUMMARY.word : Fld := ⟨0x04C, 0, 32⟩
def MSC.MEM_SUMMARY.REMAPPED : Fld := ⟨0x04C, 0, 16⟩
def MSC.MEM_SUMMARY.SPPR : Fld := ⟨0x04C, 16, 16⟩
/-- The rows of the MSC registers. -/
def MSC.rows : List RegRow :=
  [⟨0x020, 0x0, 0x0, 0x0⟩,
   ⟨0x024, 0x1F, 0x1F, 0x0⟩,
   ⟨0x028, 0x0, 0x0, 0x0⟩,
   ⟨0x02C, 0x1E0000, 0xFF001F, 0x0⟩,
   ⟨0x030, 0x0, 0x0, 0x0⟩,
   ⟨0x034, 0x18000000, 0xFF01FFFF, 0x0⟩,
   ⟨0x038, 0x0, 0x0, 0x0⟩,
   ⟨0x03C, 0x5A0100, 0xFFFFFF, 0x0⟩,
   ⟨0x040, 0x0, 0x0, 0x0⟩,
   ⟨0x044, 0x0, 0x0, 0x0⟩,
   ⟨0x048, 0x0, 0x0, 0x0⟩,
   ⟨0x04C, 0x0, 0x0, 0x0⟩]

/-! MCH: 11_memory_and_error_protection.md -/
/-- MCH.CH_CTRL (11 R296), whole. -/
def MCH.CH_CTRL.word : Fld := ⟨0x020, 0, 32⟩
def MCH.CH_CTRL.DEV : Fld := ⟨0x020, 0, 5⟩
def MCH.CH_CTRL.MARK_FAIL : Fld := ⟨0x020, 5, 1⟩
def MCH.CH_CTRL.CONFIRM : Fld := ⟨0x020, 16, 16⟩
/-- MCH.CH_STATUS (11 R296), whole. -/
def MCH.CH_STATUS.word : Fld := ⟨0x024, 0, 32⟩
def MCH.CH_STATUS.STATE : Fld := ⟨0x024, 0, 3⟩
def MCH.CH_STATUS.LOGICAL : Fld := ⟨0x024, 4, 4⟩
def MCH.CH_STATUS.FAIL_A : Fld := ⟨0x024, 8, 4⟩
def MCH.CH_STATUS.FAIL_B : Fld := ⟨0x024, 12, 4⟩
def MCH.CH_STATUS.TRAIN_RESULT : Fld := ⟨0x024, 16, 2⟩
def MCH.CH_STATUS.DRAM_HOT : Fld := ⟨0x024, 18, 1⟩
/-- MCH.DEV_VIEW (11 R296), whole. -/
def MCH.DEV_VIEW.word : Fld := ⟨0x028, 0, 32⟩
def MCH.DEV_VIEW.SEL : Fld := ⟨0x028, 0, 5⟩
def MCH.DEV_VIEW.SYM_ERR : Fld := ⟨0x028, 16, 16⟩
/-- MCH.REMAP_STATUS (11 R296), whole. -/
def MCH.REMAP_STATUS.word : Fld := ⟨0x02C, 0, 32⟩
def MCH.REMAP_STATUS.USED : Fld := ⟨0x02C, 0, 11⟩
def MCH.REMAP_STATUS.SPPR : Fld := ⟨0x02C, 16, 11⟩
def MCH.REMAP_STATUS.FULL : Fld := ⟨0x02C, 27, 1⟩
/-- MCH.LAST_ERR (11 R296), whole. -/
def MCH.LAST_ERR.word : Fld := ⟨0x030, 0, 32⟩
def MCH.LAST_ERR.ROW : Fld := ⟨0x030, 0, 17⟩
def MCH.LAST_ERR.BG : Fld := ⟨0x030, 17, 3⟩
def MCH.LAST_ERR.BANK : Fld := ⟨0x030, 20, 2⟩
def MCH.LAST_ERR.SUB : Fld := ⟨0x030, 22, 1⟩
def MCH.LAST_ERR.DEVICE : Fld := ⟨0x030, 23, 5⟩
def MCH.LAST_ERR.KIND : Fld := ⟨0x030, 28, 3⟩
/-- MCH.TRAIN (11 R296), whole. -/
def MCH.TRAIN.word : Fld := ⟨0x034, 0, 32⟩
def MCH.TRAIN.RD_MARGIN_A : Fld := ⟨0x034, 0, 8⟩
def MCH.TRAIN.WR_MARGIN_A : Fld := ⟨0x034, 8, 8⟩
def MCH.TRAIN.RD_MARGIN_B : Fld := ⟨0x034, 16, 8⟩
def MCH.TRAIN.WR_MARGIN_B : Fld := ⟨0x034, 24, 8⟩
/-- MCH.REFRESH (11 R296), whole. -/
def MCH.REFRESH.word : Fld := ⟨0x038, 0, 32⟩
def MCH.REFRESH.RATE : Fld := ⟨0x038, 0, 3⟩
def MCH.REFRESH.TREFI : Fld := ⟨0x038, 8, 8⟩
def MCH.REFRESH.HOT : Fld := ⟨0x038, 16, 5⟩
/-- MCH.REMAP_LAST (11 R296), whole. -/
def MCH.REMAP_LAST.word : Fld := ⟨0x03C, 0, 32⟩
def MCH.REMAP_LAST.LOCATION : Fld := ⟨0x03C, 0, 23⟩
/-- The rows of the MCH registers. -/
def MCH.rows : List RegRow :=
  [⟨0x020, 0x0, 0x0, 0x0⟩,
   ⟨0x024, 0x0, 0x0, 0x0⟩,
   ⟨0x028, 0x0, 0x1F, 0x0⟩,
   ⟨0x02C, 0x0, 0x0, 0x0⟩,
   ⟨0x030, 0x0, 0x0, 0x0⟩,
   ⟨0x034, 0x0, 0x0, 0x0⟩,
   ⟨0x038, 0x0, 0x0, 0x0⟩,
   ⟨0x03C, 0x0, 0x0, 0x0⟩]

/-! HSC: 12_host_lanes.md -/
/-- HSC.SEC_SUMMARY (12 R314), whole. -/
def HSC.SEC_SUMMARY.word : Fld := ⟨0x020, 0, 32⟩
/-- HSC.HOST_CTRL (12 R314), whole. -/
def HSC.HOST_CTRL.word : Fld := ⟨0x024, 0, 32⟩
def HSC.HOST_CTRL.PORT_MODE : Fld := ⟨0x024, 0, 1⟩
def HSC.HOST_CTRL.SPARE_TX_SLEEP : Fld := ⟨0x024, 1, 1⟩
def HSC.HOST_CTRL.SPARE_RX_SLEEP : Fld := ⟨0x024, 2, 1⟩
def HSC.HOST_CTRL.AUTO_STEER : Fld := ⟨0x024, 3, 1⟩
def HSC.HOST_CTRL.STEER_TH : Fld := ⟨0x024, 16, 16⟩
/-- HSC.STEER_CMD (12 R314), whole. -/
def HSC.STEER_CMD.word : Fld := ⟨0x028, 0, 32⟩
def HSC.STEER_CMD.LANE : Fld := ⟨0x028, 0, 7⟩
def HSC.STEER_CMD.SPARE : Fld := ⟨0x028, 8, 3⟩
def HSC.STEER_CMD.DIR : Fld := ⟨0x028, 12, 1⟩
def HSC.STEER_CMD.START : Fld := ⟨0x028, 14, 1⟩
def HSC.STEER_CMD.RELEASE : Fld := ⟨0x028, 15, 1⟩
/-- HSC.STEER_STATUS (12 R314), whole. -/
def HSC.STEER_STATUS.word : Fld := ⟨0x02C, 0, 32⟩
def HSC.STEER_STATUS.STATE : Fld := ⟨0x02C, 0, 3⟩
def HSC.STEER_STATUS.CFG_REJECT : Fld := ⟨0x02C, 3, 1⟩
def HSC.STEER_STATUS.SEQ : Fld := ⟨0x02C, 8, 8⟩
def HSC.STEER_STATUS.REASON : Fld := ⟨0x02C, 16, 8⟩
/-- HSC.SPARE_VIEW (12 R314), whole. -/
def HSC.SPARE_VIEW.word : Fld := ⟨0x030, 0, 32⟩
def HSC.SPARE_VIEW.SEL : Fld := ⟨0x030, 0, 3⟩
def HSC.SPARE_VIEW.DIR_SEL : Fld := ⟨0x030, 3, 1⟩
def HSC.SPARE_VIEW.LANE : Fld := ⟨0x030, 8, 7⟩
def HSC.SPARE_VIEW.IN_USE : Fld := ⟨0x030, 15, 1⟩
def HSC.SPARE_VIEW.LOOPBACK : Fld := ⟨0x030, 16, 2⟩
def HSC.SPARE_VIEW.PRBS : Fld := ⟨0x030, 18, 2⟩
def HSC.SPARE_VIEW.PRBS_LOCK : Fld := ⟨0x030, 20, 1⟩
def HSC.SPARE_VIEW.SIGNAL : Fld := ⟨0x030, 21, 1⟩
/-- HSC.SPARE_USE (12 R314), whole. -/
def HSC.SPARE_USE.word : Fld := ⟨0x034, 0, 32⟩
def HSC.SPARE_USE.RX_IN_USE : Fld := ⟨0x034, 0, 8⟩
def HSC.SPARE_USE.TX_IN_USE : Fld := ⟨0x034, 8, 8⟩
def HSC.SPARE_USE.RX_SIGNAL : Fld := ⟨0x034, 16, 8⟩
/-- HSC.STEER_MSG (12 R314), whole. -/
def HSC.STEER_MSG.word : Fld := ⟨0x038, 0, 32⟩
def HSC.STEER_MSG.SENT : Fld := ⟨0x038, 0, 8⟩
def HSC.STEER_MSG.RECEIVED : Fld := ⟨0x038, 8, 8⟩
def HSC.STEER_MSG.DROPPED : Fld := ⟨0x038, 16, 8⟩
/-- HSC.HD_STATUS (12 R314), whole. -/
def HSC.HD_STATUS.word : Fld := ⟨0x03C, 0, 32⟩
def HSC.HD_STATUS.PORTS_UP : Fld := ⟨0x03C, 0, 6⟩
def HSC.HD_STATUS.MODE_REJECT : Fld := ⟨0x03C, 7, 1⟩
def HSC.HD_STATUS.RX_SPARES_FREE : Fld := ⟨0x03C, 8, 4⟩
def HSC.HD_STATUS.TX_SPARES_FREE : Fld := ⟨0x03C, 12, 4⟩
/-- The rows of the HSC registers. -/
def HSC.rows : List RegRow :=
  [⟨0x020, 0x0, 0x0, 0x0⟩,
   ⟨0x024, 0x640006, 0xFFFF000F, 0x0⟩,
   ⟨0x028, 0x0, 0x0, 0x0⟩,
   ⟨0x02C, 0x0, 0x0, 0x0⟩,
   ⟨0x030, 0x0, 0xF000F, 0x0⟩,
   ⟨0x034, 0x0, 0x0, 0x0⟩,
   ⟨0x038, 0x0, 0x0, 0x0⟩,
   ⟨0x03C, 0x8800, 0x0, 0x0⟩]

/-! HLG: 12_host_lanes.md -/
/-- HLG.GRP_CTRL (12 R316), whole. -/
def HLG.GRP_CTRL.word : Fld := ⟨0x020, 0, 32⟩
def HLG.GRP_CTRL.TX_SLEEP : Fld := ⟨0x020, 0, 1⟩
def HLG.GRP_CTRL.RX_SLEEP : Fld := ⟨0x020, 1, 1⟩
/-- HLG.GRP_STATUS (12 R316), whole. -/
def HLG.GRP_STATUS.word : Fld := ⟨0x024, 0, 32⟩
def HLG.GRP_STATUS.TX_ASLEEP : Fld := ⟨0x024, 0, 1⟩
def HLG.GRP_STATUS.RX_ASLEEP : Fld := ⟨0x024, 1, 1⟩
def HLG.GRP_STATUS.WAKING : Fld := ⟨0x024, 2, 1⟩
def HLG.GRP_STATUS.CFG_REJECT : Fld := ⟨0x024, 3, 1⟩
def HLG.GRP_STATUS.PORTS_UP : Fld := ⟨0x024, 8, 8⟩
/-- HLG.PORT_SEL (12 R316), whole. -/
def HLG.PORT_SEL.word : Fld := ⟨0x028, 0, 32⟩
def HLG.PORT_SEL.INDEX : Fld := ⟨0x028, 0, 3⟩
/-- HLG.PORT_CTRL (12 R316), whole. -/
def HLG.PORT_CTRL.word : Fld := ⟨0x02C, 0, 32⟩
def HLG.PORT_CTRL.ENABLE : Fld := ⟨0x02C, 0, 1⟩
def HLG.PORT_CTRL.STEERABLE : Fld := ⟨0x02C, 1, 1⟩
/-- HLG.PORT_STATUS (12 R316), whole. -/
def HLG.PORT_STATUS.word : Fld := ⟨0x030, 0, 32⟩
def HLG.PORT_STATUS.LINK_UP : Fld := ⟨0x030, 0, 1⟩
def HLG.PORT_STATUS.ALIGNED : Fld := ⟨0x030, 1, 1⟩
def HLG.PORT_STATUS.LF_RX : Fld := ⟨0x030, 2, 1⟩
def HLG.PORT_STATUS.RF_RX : Fld := ⟨0x030, 3, 1⟩
def HLG.PORT_STATUS.RF_TX : Fld := ⟨0x030, 4, 1⟩
def HLG.PORT_STATUS.FEC_UNCORR : Fld := ⟨0x030, 5, 1⟩
def HLG.PORT_STATUS.STEERED : Fld := ⟨0x030, 8, 4⟩
/-- HLG.LANE_SEL (12 R316), whole. -/
def HLG.LANE_SEL.word : Fld := ⟨0x034, 0, 32⟩
def HLG.LANE_SEL.LANE : Fld := ⟨0x034, 0, 5⟩
/-- HLG.TX_EQ (12 R316), whole. -/
def HLG.TX_EQ.word : Fld := ⟨0x038, 0, 32⟩
def HLG.TX_EQ.PRE : Fld := ⟨0x038, 0, 5⟩
def HLG.TX_EQ.POST : Fld := ⟨0x038, 8, 5⟩
def HLG.TX_EQ.MAIN : Fld := ⟨0x038, 16, 6⟩
def HLG.TX_EQ.POL_INV : Fld := ⟨0x038, 24, 1⟩
/-- HLG.RX_EQ (12 R316), whole. -/
def HLG.RX_EQ.word : Fld := ⟨0x03C, 0, 32⟩
def HLG.RX_EQ.CTLE : Fld := ⟨0x03C, 0, 6⟩
def HLG.RX_EQ.CTLE_AUTO : Fld := ⟨0x03C, 6, 1⟩
def HLG.RX_EQ.FFE_FREEZE : Fld := ⟨0x03C, 7, 1⟩
def HLG.RX_EQ.POL_INV : Fld := ⟨0x03C, 8, 1⟩
/-- HLG.LANE_TEST (12 R316), whole. -/
def HLG.LANE_TEST.word : Fld := ⟨0x040, 0, 32⟩
def HLG.LANE_TEST.LOOPBACK : Fld := ⟨0x040, 0, 2⟩
def HLG.LANE_TEST.PRBS : Fld := ⟨0x040, 2, 2⟩
def HLG.LANE_TEST.PRBS_LOCK : Fld := ⟨0x040, 4, 1⟩
/-- HLG.LANE_STATUS (12 R316), whole. -/
def HLG.LANE_STATUS.word : Fld := ⟨0x044, 0, 32⟩
def HLG.LANE_STATUS.RX_SNR : Fld := ⟨0x044, 0, 8⟩
def HLG.LANE_STATUS.CTLE_NOW : Fld := ⟨0x044, 8, 8⟩
def HLG.LANE_STATUS.SIGNAL : Fld := ⟨0x044, 16, 1⟩
def HLG.LANE_STATUS.CDR_LOCK : Fld := ⟨0x044, 17, 1⟩
def HLG.LANE_STATUS.RX_STEERED : Fld := ⟨0x044, 18, 1⟩
def HLG.LANE_STATUS.TX_STEERED : Fld := ⟨0x044, 19, 1⟩
/-- The rows of the HLG registers. -/
def HLG.rows : List RegRow :=
  [⟨0x020, 0x0, 0x3, 0x0⟩,
   ⟨0x024, 0x0, 0x0, 0x0⟩,
   ⟨0x028, 0x0, 0x7, 0x0⟩,
   ⟨0x02C, 0x0, 0x3, 0x0⟩,
   ⟨0x030, 0x0, 0x0, 0x0⟩,
   ⟨0x034, 0x0, 0x1F, 0x0⟩,
   ⟨0x038, 0x340804, 0x1001F1F, 0x0⟩,
   ⟨0x03C, 0x54, 0x1FF, 0x0⟩,
   ⟨0x040, 0x0, 0xF, 0x0⟩,
   ⟨0x044, 0x0, 0x0, 0x0⟩]

/-! CSC: 07_carrier_frame_and_defects.md -/
/-- CSC.SEC_SUMMARY (07 R185), whole. -/
def CSC.SEC_SUMMARY.word : Fld := ⟨0x020, 0, 32⟩
/-- CSC.CSC_CTRL (07 R185), whole. -/
def CSC.CSC_CTRL.word : Fld := ⟨0x024, 0, 32⟩
def CSC.CSC_CTRL.PAIR : Fld := ⟨0x024, 0, 4⟩
def CSC.CSC_CTRL.AUTO_RDI : Fld := ⟨0x024, 4, 1⟩
def CSC.CSC_CTRL.FORCE_RDI : Fld := ⟨0x024, 5, 1⟩
def CSC.CSC_CTRL.FORCE_AIS : Fld := ⟨0x024, 6, 1⟩
def CSC.CSC_CTRL.RDI_DRAIN : Fld := ⟨0x024, 7, 1⟩
/-- CSC.CSC_STATUS (07 R185), whole. -/
def CSC.CSC_STATUS.word : Fld := ⟨0x028, 0, 32⟩
def CSC.CSC_STATUS.STATE : Fld := ⟨0x028, 0, 4⟩
def CSC.CSC_STATUS.PREV_STATE : Fld := ⟨0x028, 4, 4⟩
def CSC.CSC_STATUS.LOS : Fld := ⟨0x028, 8, 1⟩
def CSC.CSC_STATUS.LOF : Fld := ⟨0x028, 9, 1⟩
def CSC.CSC_STATUS.AIS : Fld := ⟨0x028, 10, 1⟩
def CSC.CSC_STATUS.RDI : Fld := ⟨0x028, 11, 1⟩
def CSC.CSC_STATUS.CRYPT : Fld := ⟨0x028, 12, 1⟩
def CSC.CSC_STATUS.CRYPT_STALE : Fld := ⟨0x028, 13, 1⟩
def CSC.CSC_STATUS.RDI_TX : Fld := ⟨0x028, 14, 1⟩
def CSC.CSC_STATUS.AUTO_DRAINED : Fld := ⟨0x028, 15, 1⟩
def CSC.CSC_STATUS.RF_ACTIVE : Fld := ⟨0x028, 16, 1⟩
/-- CSC.DEFECT_SEEN (07 R185), whole. -/
def CSC.DEFECT_SEEN.word : Fld := ⟨0x02C, 0, 32⟩
def CSC.DEFECT_SEEN.LOS : Fld := ⟨0x02C, 0, 1⟩
def CSC.DEFECT_SEEN.LOF : Fld := ⟨0x02C, 1, 1⟩
def CSC.DEFECT_SEEN.AIS : Fld := ⟨0x02C, 2, 1⟩
def CSC.DEFECT_SEEN.RDI : Fld := ⟨0x02C, 3, 1⟩
def CSC.DEFECT_SEEN.CRYPT : Fld := ⟨0x02C, 4, 1⟩
def CSC.DEFECT_SEEN.CRYPT_STALE : Fld := ⟨0x02C, 5, 1⟩
/-- CSC.STATE_TIME_LO (07 R185), whole. -/
def CSC.STATE_TIME_LO.word : Fld := ⟨0x030, 0, 32⟩
/-- CSC.STATE_TIME_HI (07 R185), whole. -/
def CSC.STATE_TIME_HI.word : Fld := ⟨0x034, 0, 32⟩
/-- CSC.RDI_SRC (07 R185), whole. -/
def CSC.RDI_SRC.word : Fld := ⟨0x038, 0, 32⟩
/-- CSC.CONSEQ_CFG (07 R185), whole. -/
def CSC.CONSEQ_CFG.word : Fld := ⟨0x03C, 0, 32⟩
def CSC.CONSEQ_CFG.RF_HOLDOFF : Fld := ⟨0x03C, 0, 8⟩
def CSC.CONSEQ_CFG.RF_EN : Fld := ⟨0x03C, 8, 1⟩
/-- The rows of the CSC registers. -/
def CSC.rows : List RegRow :=
  [⟨0x020, 0x0, 0x0, 0x0⟩,
   ⟨0x024, 0x0, 0xFF, 0x0⟩,
   ⟨0x028, 0x0, 0x0, 0x0⟩,
   ⟨0x02C, 0x0, 0x0, 0x3F⟩,
   ⟨0x030, 0x0, 0x0, 0x0⟩,
   ⟨0x034, 0x0, 0x0, 0x0⟩,
   ⟨0x038, 0x0, 0x0, 0x0⟩,
   ⟨0x03C, 0x100, 0x1FF, 0x0⟩]

/-! TXO: 03_carrier_transmit.md -/
/-- TXO.TX_CTRL (03 R94), whole. -/
def TXO.TX_CTRL.word : Fld := ⟨0x020, 0, 32⟩
def TXO.TX_CTRL.OUTPUT_EN : Fld := ⟨0x020, 0, 1⟩
def TXO.TX_CTRL.LASER_SEL : Fld := ⟨0x020, 1, 1⟩
def TXO.TX_CTRL.SPEC_INV : Fld := ⟨0x020, 2, 1⟩
/-- TXO.TX_STATUS (03 R94), whole. -/
def TXO.TX_STATUS.word : Fld := ⟨0x024, 0, 32⟩
def TXO.TX_STATUS.LOCKED : Fld := ⟨0x024, 0, 1⟩
def TXO.TX_STATUS.LIGHT : Fld := ⟨0x024, 1, 1⟩
def TXO.TX_STATUS.INHIBITED : Fld := ⟨0x024, 2, 1⟩
def TXO.TX_STATUS.SPARE_IN_USE : Fld := ⟨0x024, 3, 1⟩
def TXO.TX_STATUS.SPARE_PENDING : Fld := ⟨0x024, 4, 1⟩
def TXO.TX_STATUS.SPARE_BUSY : Fld := ⟨0x024, 5, 1⟩
def TXO.TX_STATUS.RAMPING : Fld := ⟨0x024, 6, 1⟩
def TXO.TX_STATUS.CFG_REJECT : Fld := ⟨0x024, 7, 1⟩
def TXO.TX_STATUS.PILOT_DENSITY : Fld := ⟨0x024, 8, 2⟩
def TXO.TX_STATUS.SC_ON : Fld := ⟨0x024, 16, 8⟩
/-- TXO.LASER_FREQ (03 R94), whole. -/
def TXO.LASER_FREQ.word : Fld := ⟨0x028, 0, 32⟩
def TXO.LASER_FREQ.GRID_N : Fld := ⟨0x028, 0, 16⟩
/-- TXO.LASER_STATUS (03 R94), whole. -/
def TXO.LASER_STATUS.word : Fld := ⟨0x02C, 0, 32⟩
def TXO.LASER_STATUS.FREQ_ERR : Fld := ⟨0x02C, 0, 16⟩
def TXO.LASER_STATUS.TUNE_STATE : Fld := ⟨0x02C, 16, 4⟩
def TXO.LASER_STATUS.FREQ_REJECT : Fld := ⟨0x02C, 20, 1⟩
def TXO.LASER_STATUS.BAND : Fld := ⟨0x02C, 24, 2⟩
/-- TXO.TX_POWER (03 R94), whole. -/
def TXO.TX_POWER.word : Fld := ⟨0x030, 0, 32⟩
def TXO.TX_POWER.SETPOINT : Fld := ⟨0x030, 0, 16⟩
/-- TXO.TX_POWER_MON (03 R94), whole. -/
def TXO.TX_POWER_MON.word : Fld := ⟨0x034, 0, 32⟩
def TXO.TX_POWER_MON.MEASURED : Fld := ⟨0x034, 0, 16⟩
/-- TXO.TILT_LO (03 R94), whole. -/
def TXO.TILT_LO.word : Fld := ⟨0x038, 0, 32⟩
def TXO.TILT_LO.SC0 : Fld := ⟨0x038, 0, 8⟩
def TXO.TILT_LO.SC1 : Fld := ⟨0x038, 8, 8⟩
def TXO.TILT_LO.SC2 : Fld := ⟨0x038, 16, 8⟩
def TXO.TILT_LO.SC3 : Fld := ⟨0x038, 24, 8⟩
/-- TXO.TILT_HI (03 R94), whole. -/
def TXO.TILT_HI.word : Fld := ⟨0x03C, 0, 32⟩
def TXO.TILT_HI.SC4 : Fld := ⟨0x03C, 0, 8⟩
def TXO.TILT_HI.SC5 : Fld := ⟨0x03C, 8, 8⟩
def TXO.TILT_HI.SC6 : Fld := ⟨0x03C, 16, 8⟩
def TXO.TILT_HI.SC7 : Fld := ⟨0x03C, 24, 8⟩
/-- TXO.COEF_ADDR (03 R94), whole. -/
def TXO.COEF_ADDR.word : Fld := ⟨0x040, 0, 32⟩
def TXO.COEF_ADDR.INDEX : Fld := ⟨0x040, 0, 10⟩
def TXO.COEF_ADDR.TABLE : Fld := ⟨0x040, 12, 2⟩
def TXO.COEF_ADDR.BANK_READ : Fld := ⟨0x040, 15, 1⟩
def TXO.COEF_ADDR.AUTO_INC : Fld := ⟨0x040, 16, 1⟩
/-- TXO.COEF_DATA (03 R94), whole. -/
def TXO.COEF_DATA.word : Fld := ⟨0x044, 0, 32⟩
def TXO.COEF_DATA.VALUE : Fld := ⟨0x044, 0, 16⟩
/-- TXO.COEF_CTRL (03 R94), whole. -/
def TXO.COEF_CTRL.word : Fld := ⟨0x048, 0, 32⟩
def TXO.COEF_CTRL.COMMIT : Fld := ⟨0x048, 0, 1⟩
def TXO.COEF_CTRL.COPY : Fld := ⟨0x048, 1, 1⟩
def TXO.COEF_CTRL.FACTORY : Fld := ⟨0x048, 2, 1⟩
def TXO.COEF_CTRL.PENDING : Fld := ⟨0x048, 4, 1⟩
def TXO.COEF_CTRL.ACTIVE_BANK : Fld := ⟨0x048, 5, 1⟩
def TXO.COEF_CTRL.REJECT : Fld := ⟨0x048, 6, 1⟩
def TXO.COEF_CTRL.PF_TAPS : Fld := ⟨0x048, 8, 7⟩
def TXO.COEF_CTRL.PE_TAPS : Fld := ⟨0x048, 16, 4⟩
/-- TXO.SC_VIEW (03 R94), whole. -/
def TXO.SC_VIEW.word : Fld := ⟨0x04C, 0, 32⟩
def TXO.SC_VIEW.SEL : Fld := ⟨0x04C, 0, 3⟩
def TXO.SC_VIEW.CODE : Fld := ⟨0x04C, 8, 6⟩
def TXO.SC_VIEW.TILT_NOW : Fld := ⟨0x04C, 16, 8⟩
/-- TXO.LASER_BIAS (03 R94), whole. -/
def TXO.LASER_BIAS.word : Fld := ⟨0x050, 0, 32⟩
def TXO.LASER_BIAS.BIAS : Fld := ⟨0x050, 0, 16⟩
def TXO.LASER_BIAS.BIAS_PCT : Fld := ⟨0x050, 16, 12⟩
def TXO.LASER_BIAS.LIMIT : Fld := ⟨0x050, 28, 1⟩
/-- TXO.TX_TEST (03 R94), whole. -/
def TXO.TX_TEST.word : Fld := ⟨0x054, 0, 32⟩
def TXO.TX_TEST.MODE : Fld := ⟨0x054, 0, 3⟩
def TXO.TX_TEST.SC : Fld := ⟨0x054, 4, 3⟩
/-- The rows of the TXO registers. -/
def TXO.rows : List RegRow :=
  [⟨0x020, 0x0, 0x7, 0x0⟩,
   ⟨0x024, 0x0, 0x0, 0x0⟩,
   ⟨0x028, 0x0, 0xFFFF, 0x0⟩,
   ⟨0x02C, 0x0, 0x0, 0x0⟩,
   ⟨0x030, 0xFF38, 0xFFFF, 0x0⟩,
   ⟨0x034, 0xF060, 0x0, 0x0⟩,
   ⟨0x038, 0x0, 0xFFFFFFFF, 0x0⟩,
   ⟨0x03C, 0x0, 0xFFFFFFFF, 0x0⟩,
   ⟨0x040, 0x0, 0x1B3FF, 0x0⟩,
   ⟨0x044, 0x0, 0xFFFF, 0x0⟩,
   ⟨0x048, 0xF4000, 0xF7F00, 0x0⟩,
   ⟨0x04C, 0x0, 0x7, 0x0⟩,
   ⟨0x050, 0x0, 0x0, 0x0⟩,
   ⟨0x054, 0x0, 0x77, 0x0⟩]

/-! RXE: 04_carrier_receive.md -/
/-- RXE.RX_CTRL (04 R121), whole. -/
def RXE.RX_CTRL.word : Fld := ⟨0x020, 0, 32⟩
def RXE.RX_CTRL.SPEC_INV : Fld := ⟨0x020, 0, 1⟩
def RXE.RX_CTRL.CD_MODE : Fld := ⟨0x020, 1, 2⟩
def RXE.RX_CTRL.CD_TRACK : Fld := ⟨0x020, 3, 1⟩
def RXE.RX_CTRL.TRACK_SPEED : Fld := ⟨0x020, 4, 2⟩
def RXE.RX_CTRL.TIMING_BW : Fld := ⟨0x020, 6, 2⟩
def RXE.RX_CTRL.REACQ_FAST : Fld := ⟨0x020, 8, 1⟩
/-- RXE.RX_STATUS (04 R121), whole. -/
def RXE.RX_STATUS.word : Fld := ⟨0x024, 0, 32⟩
def RXE.RX_STATUS.ACQ_STATE : Fld := ⟨0x024, 0, 4⟩
def RXE.RX_STATUS.SIGNAL : Fld := ⟨0x024, 4, 1⟩
def RXE.RX_STATUS.LOCKED : Fld := ⟨0x024, 5, 1⟩
def RXE.RX_STATUS.CFG_REJECT : Fld := ⟨0x024, 6, 1⟩
def RXE.RX_STATUS.CD_AT_LIMIT : Fld := ⟨0x024, 7, 1⟩
def RXE.RX_STATUS.BAND : Fld := ⟨0x024, 8, 2⟩
def RXE.RX_STATUS.SNR_VALID : Fld := ⟨0x024, 16, 8⟩
def RXE.RX_STATUS.ACQ_FAILS : Fld := ⟨0x024, 24, 8⟩
/-- RXE.RX_POWER (04 R121), whole. -/
def RXE.RX_POWER.word : Fld := ⟨0x028, 0, 32⟩
def RXE.RX_POWER.MEASURED : Fld := ⟨0x028, 0, 16⟩
def RXE.RX_POWER.LOS_LEVEL : Fld := ⟨0x028, 16, 16⟩
/-- RXE.CD_CFG (04 R121), whole. -/
def RXE.CD_CFG.word : Fld := ⟨0x02C, 0, 32⟩
def RXE.CD_CFG.CD_HINT : Fld := ⟨0x02C, 0, 18⟩
def RXE.CD_CFG.WINDOW : Fld := ⟨0x02C, 24, 4⟩
/-- RXE.CD_EST (04 R121), whole. -/
def RXE.CD_EST.word : Fld := ⟨0x030, 0, 32⟩
def RXE.CD_EST.EST : Fld := ⟨0x030, 0, 18⟩
def RXE.CD_EST.VALID : Fld := ⟨0x030, 31, 1⟩
/-- RXE.CARRIER_OFS (04 R121), whole. -/
def RXE.CARRIER_OFS.word : Fld := ⟨0x034, 0, 32⟩
def RXE.CARRIER_OFS.FREQ_OFS : Fld := ⟨0x034, 0, 16⟩
def RXE.CARRIER_OFS.CLOCK_OFS : Fld := ⟨0x034, 16, 16⟩
/-- RXE.POL_STATE (04 R121), whole. -/
def RXE.POL_STATE.word : Fld := ⟨0x038, 0, 32⟩
def RXE.POL_STATE.DGD : Fld := ⟨0x038, 0, 12⟩
def RXE.POL_STATE.SOP_RATE : Fld := ⟨0x038, 16, 12⟩
/-- RXE.SNR_LO (04 R121), whole. -/
def RXE.SNR_LO.word : Fld := ⟨0x03C, 0, 32⟩
def RXE.SNR_LO.SC0 : Fld := ⟨0x03C, 0, 8⟩
def RXE.SNR_LO.SC1 : Fld := ⟨0x03C, 8, 8⟩
def RXE.SNR_LO.SC2 : Fld := ⟨0x03C, 16, 8⟩
def RXE.SNR_LO.SC3 : Fld := ⟨0x03C, 24, 8⟩
/-- RXE.SNR_HI (04 R121), whole. -/
def RXE.SNR_HI.word : Fld := ⟨0x040, 0, 32⟩
def RXE.SNR_HI.SC4 : Fld := ⟨0x040, 0, 8⟩
def RXE.SNR_HI.SC5 : Fld := ⟨0x040, 8, 8⟩
def RXE.SNR_HI.SC6 : Fld := ⟨0x040, 16, 8⟩
def RXE.SNR_HI.SC7 : Fld := ⟨0x040, 24, 8⟩
/-- RXE.EQ_CTRL (04 R121), whole. -/
def RXE.EQ_CTRL.word : Fld := ⟨0x044, 0, 32⟩
def RXE.EQ_CTRL.FREEZE : Fld := ⟨0x044, 0, 8⟩
def RXE.EQ_CTRL.RESTART : Fld := ⟨0x044, 8, 8⟩
def RXE.EQ_CTRL.CONVERGED : Fld := ⟨0x044, 16, 8⟩
/-- RXE.EQ_VIEW_ADDR (04 R121), whole. -/
def RXE.EQ_VIEW_ADDR.word : Fld := ⟨0x048, 0, 32⟩
def RXE.EQ_VIEW_ADDR.SC : Fld := ⟨0x048, 0, 3⟩
def RXE.EQ_VIEW_ADDR.INDEX : Fld := ⟨0x048, 4, 8⟩
def RXE.EQ_VIEW_ADDR.AUTO_INC : Fld := ⟨0x048, 16, 1⟩
def RXE.EQ_VIEW_ADDR.CAPTURING : Fld := ⟨0x048, 29, 1⟩
def RXE.EQ_VIEW_ADDR.CAPTURED : Fld := ⟨0x048, 30, 1⟩
def RXE.EQ_VIEW_ADDR.CAPTURE : Fld := ⟨0x048, 31, 1⟩
/-- RXE.EQ_VIEW_DATA (04 R121), whole. -/
def RXE.EQ_VIEW_DATA.word : Fld := ⟨0x04C, 0, 32⟩
def RXE.EQ_VIEW_DATA.VALUE : Fld := ⟨0x04C, 0, 16⟩
/-- RXE.ADC_CAL (04 R121), whole. -/
def RXE.ADC_CAL.word : Fld := ⟨0x050, 0, 32⟩
def RXE.ADC_CAL.BG_EN : Fld := ⟨0x050, 0, 1⟩
def RXE.ADC_CAL.FORCE_BAND : Fld := ⟨0x050, 1, 1⟩
def RXE.ADC_CAL.BAND_SEL : Fld := ⟨0x050, 2, 2⟩
def RXE.ADC_CAL.CAL_AGE : Fld := ⟨0x050, 8, 8⟩
/-- RXE.RX_TEST (04 R121), whole. -/
def RXE.RX_TEST.word : Fld := ⟨0x054, 0, 32⟩
def RXE.RX_TEST.MODE : Fld := ⟨0x054, 0, 3⟩
def RXE.RX_TEST.SC : Fld := ⟨0x054, 4, 3⟩
def RXE.RX_TEST.PRBS_LOCK : Fld := ⟨0x054, 8, 1⟩
/-- The rows of the RXE registers. -/
def RXE.rows : List RegRow :=
  [⟨0x020, 0x112, 0x1FF, 0x0⟩,
   ⟨0x024, 0x0, 0x0, 0x0⟩,
   ⟨0x028, 0xF768F060, 0xFFFF0000, 0x0⟩,
   ⟨0x02C, 0x4000000, 0xF03FFFF, 0x0⟩,
   ⟨0x030, 0x0, 0x0, 0x0⟩,
   ⟨0x034, 0x0, 0x0, 0x0⟩,
   ⟨0x038, 0x0, 0x0, 0x0⟩,
   ⟨0x03C, 0x0, 0x0, 0x0⟩,
   ⟨0x040, 0x0, 0x0, 0x0⟩,
   ⟨0x044, 0x0, 0xFF, 0x0⟩,
   ⟨0x048, 0x0, 0x10FF7, 0x0⟩,
   ⟨0x04C, 0x0, 0x0, 0x0⟩,
   ⟨0x050, 0x1, 0xF, 0x0⟩,
   ⟨0x054, 0x0, 0x77, 0x0⟩]

/-! LFE: 05_load_maps.md -/
/-- LFE.LM_CTRL (05 R145), whole. -/
def LFE.LM_CTRL.word : Fld := ⟨0x020, 0, 32⟩
def LFE.LM_CTRL.NEG_EN : Fld := ⟨0x020, 0, 1⟩
def LFE.LM_CTRL.SHED_EN : Fld := ⟨0x020, 1, 1⟩
def LFE.LM_CTRL.RAISE_EN : Fld := ⟨0x020, 2, 1⟩
def LFE.LM_CTRL.PROBE_EN : Fld := ⟨0x020, 3, 1⟩
def LFE.LM_CTRL.REFRESH : Fld := ⟨0x020, 4, 4⟩
def LFE.LM_CTRL.MARGIN : Fld := ⟨0x020, 8, 8⟩
def LFE.LM_CTRL.DENSITY : Fld := ⟨0x020, 16, 2⟩
def LFE.LM_CTRL.CODE_CAP : Fld := ⟨0x020, 18, 6⟩
def LFE.LM_CTRL.SHED_HOLD : Fld := ⟨0x020, 24, 8⟩
/-- LFE.LM_STATUS (05 R145), whole. -/
def LFE.LM_STATUS.word : Fld := ⟨0x024, 0, 32⟩
def LFE.LM_STATUS.TX_STATE : Fld := ⟨0x024, 0, 3⟩
def LFE.LM_STATUS.HELD : Fld := ⟨0x024, 3, 1⟩
def LFE.LM_STATUS.RX_STATE : Fld := ⟨0x024, 4, 3⟩
def LFE.LM_STATUS.ZR : Fld := ⟨0x024, 7, 1⟩
def LFE.LM_STATUS.TX_DENSITY : Fld := ⟨0x024, 8, 2⟩
def LFE.LM_STATUS.RX_DENSITY : Fld := ⟨0x024, 10, 2⟩
def LFE.LM_STATUS.COUNTDOWN : Fld := ⟨0x024, 12, 3⟩
def LFE.LM_STATUS.CFG_REJECT : Fld := ⟨0x024, 15, 1⟩
def LFE.LM_STATUS.TX_MAP_ID : Fld := ⟨0x024, 16, 8⟩
def LFE.LM_STATUS.RX_MAP_ID : Fld := ⟨0x024, 24, 8⟩
/-- LFE.LM_MAP_LO (05 R145), whole. -/
def LFE.LM_MAP_LO.word : Fld := ⟨0x028, 0, 32⟩
def LFE.LM_MAP_LO.SC0 : Fld := ⟨0x028, 0, 8⟩
def LFE.LM_MAP_LO.SC1 : Fld := ⟨0x028, 8, 8⟩
def LFE.LM_MAP_LO.SC2 : Fld := ⟨0x028, 16, 8⟩
def LFE.LM_MAP_LO.SC3 : Fld := ⟨0x028, 24, 8⟩
/-- LFE.LM_MAP_HI (05 R145), whole. -/
def LFE.LM_MAP_HI.word : Fld := ⟨0x02C, 0, 32⟩
def LFE.LM_MAP_HI.SC4 : Fld := ⟨0x02C, 0, 8⟩
def LFE.LM_MAP_HI.SC5 : Fld := ⟨0x02C, 8, 8⟩
def LFE.LM_MAP_HI.SC6 : Fld := ⟨0x02C, 16, 8⟩
def LFE.LM_MAP_HI.SC7 : Fld := ⟨0x02C, 24, 8⟩
/-- LFE.LM_STAGE (05 R145), whole. -/
def LFE.LM_STAGE.word : Fld := ⟨0x030, 0, 32⟩
def LFE.LM_STAGE.SEL : Fld := ⟨0x030, 0, 3⟩
def LFE.LM_STAGE.CODE : Fld := ⟨0x030, 8, 6⟩
def LFE.LM_STAGE.DENSITY : Fld := ⟨0x030, 16, 2⟩
def LFE.LM_STAGE.VIEW : Fld := ⟨0x030, 28, 2⟩
def LFE.LM_STAGE.ANNOUNCE : Fld := ⟨0x030, 31, 1⟩
/-- LFE.LM_NET (05 R145), whole. -/
def LFE.LM_NET.word : Fld := ⟨0x034, 0, 32⟩
def LFE.LM_NET.NET : Fld := ⟨0x034, 0, 22⟩
def LFE.LM_NET.DENSITY : Fld := ⟨0x034, 22, 2⟩
def LFE.LM_NET.POSTED_ZERO : Fld := ⟨0x034, 31, 1⟩
/-- LFE.FEC_CTRL (06 R161), whole. -/
def LFE.FEC_CTRL.word : Fld := ⟨0x040, 0, 32⟩
def LFE.FEC_CTRL.ITER_CEIL : Fld := ⟨0x040, 0, 4⟩
def LFE.FEC_CTRL.ET_EN : Fld := ⟨0x040, 4, 1⟩
def LFE.FEC_CTRL.PENALTY_EN : Fld := ⟨0x040, 5, 1⟩
def LFE.FEC_CTRL.ZR_MODE : Fld := ⟨0x040, 6, 1⟩
/-- LFE.FEC_STATUS (06 R161), whole. -/
def LFE.FEC_STATUS.word : Fld := ⟨0x044, 0, 32⟩
def LFE.FEC_STATUS.ITER_EFF : Fld := ⟨0x044, 0, 4⟩
def LFE.FEC_STATUS.GOV_LIMITED : Fld := ⟨0x044, 4, 1⟩
def LFE.FEC_STATUS.CW_LOCK : Fld := ⟨0x044, 5, 1⟩
def LFE.FEC_STATUS.ZR_ACTIVE : Fld := ⟨0x044, 6, 1⟩
def LFE.FEC_STATUS.CFG_REJECT : Fld := ⟨0x044, 7, 1⟩
def LFE.FEC_STATUS.MF_TAG : Fld := ⟨0x044, 8, 8⟩
def LFE.FEC_STATUS.GOV_CEIL : Fld := ⟨0x044, 16, 4⟩
def LFE.FEC_STATUS.PENALTY : Fld := ⟨0x044, 20, 5⟩
/-- LFE.FEC_MF_CW (06 R161), whole. -/
def LFE.FEC_MF_CW.word : Fld := ⟨0x048, 0, 32⟩
def LFE.FEC_MF_CW.CODEWORDS : Fld := ⟨0x048, 0, 18⟩
def LFE.FEC_MF_CW.CEIL_HIT : Fld := ⟨0x048, 18, 14⟩
/-- LFE.FEC_MF_ITER (06 R161), whole. -/
def LFE.FEC_MF_ITER.word : Fld := ⟨0x04C, 0, 32⟩
def LFE.FEC_MF_ITER.ITER_SUM : Fld := ⟨0x04C, 0, 22⟩
def LFE.FEC_MF_ITER.UE_BLOCKS : Fld := ⟨0x04C, 22, 10⟩
/-- LFE.FEC_MF_CORR (06 R161), whole. -/
def LFE.FEC_MF_CORR.word : Fld := ⟨0x050, 0, 32⟩
def LFE.FEC_MF_CORR.CORR_BITS : Fld := ⟨0x050, 0, 32⟩
/-- LFE.FEC_LAST_UE (06 R161), whole. -/
def LFE.FEC_LAST_UE.word : Fld := ⟨0x054, 0, 32⟩
def LFE.FEC_LAST_UE.FRAME_LO : Fld := ⟨0x054, 0, 24⟩
def LFE.FEC_LAST_UE.UE_FRAMES : Fld := ⟨0x054, 24, 8⟩
/-- The rows of the LFE registers. -/
def LFE.rows : List RegRow :=
  [⟨0x020, 0xA91083F, 0xFFFFFFFF, 0x0⟩,
   ⟨0x024, 0x0, 0x0, 0x0⟩,
   ⟨0x028, 0x0, 0x0, 0x0⟩,
   ⟨0x02C, 0x0, 0x0, 0x0⟩,
   ⟨0x030, 0x10000, 0x30033F07, 0x0⟩,
   ⟨0x034, 0x0, 0x0, 0x0⟩,
   ⟨0x040, 0x3C, 0x7F, 0x0⟩,
   ⟨0x044, 0xC000C, 0x0, 0x0⟩,
   ⟨0x048, 0x0, 0x0, 0x0⟩,
   ⟨0x04C, 0x0, 0x0, 0x0⟩,
   ⟨0x050, 0x0, 0x0, 0x0⟩,
   ⟨0x054, 0x0, 0x0, 0x0⟩]

/-! FCR: 07_carrier_frame_and_defects.md -/
/-- FCR.FR_CTRL (07 R187), whole. -/
def FCR.FR_CTRL.word : Fld := ⟨0x020, 0, 32⟩
def FCR.FR_CTRL.JUST_LIMIT : Fld := ⟨0x020, 0, 4⟩
def FCR.FR_CTRL.FORCE_J_EN : Fld := ⟨0x020, 4, 1⟩
def FCR.FR_CTRL.FORCE_J : Fld := ⟨0x020, 8, 5⟩
def FCR.FR_CTRL.HYP_EN : Fld := ⟨0x020, 16, 1⟩
/-- FCR.FR_STATUS (07 R187), whole. -/
def FCR.FR_STATUS.word : Fld := ⟨0x024, 0, 32⟩
def FCR.FR_STATUS.ALIGN : Fld := ⟨0x024, 0, 2⟩
def FCR.FR_STATUS.CANDIDATES : Fld := ⟨0x024, 2, 4⟩
def FCR.FR_STATUS.OOF : Fld := ⟨0x024, 6, 1⟩
def FCR.FR_STATUS.LOF : Fld := ⟨0x024, 7, 1⟩
def FCR.FR_STATUS.FC_VALID : Fld := ⟨0x024, 8, 1⟩
def FCR.FR_STATUS.CW_WAIT : Fld := ⟨0x024, 9, 1⟩
def FCR.FR_STATUS.HYP : Fld := ⟨0x024, 10, 2⟩
def FCR.FR_STATUS.CFG_REJECT : Fld := ⟨0x024, 12, 1⟩
def FCR.FR_STATUS.JUST_SAT : Fld := ⟨0x024, 13, 1⟩
/-- FCR.FC_TX_LO (07 R187), whole. -/
def FCR.FC_TX_LO.word : Fld := ⟨0x028, 0, 32⟩
/-- FCR.FC_TX_HI (07 R187), whole. -/
def FCR.FC_TX_HI.word : Fld := ⟨0x02C, 0, 32⟩
/-- FCR.FC_RX_LO (07 R187), whole. -/
def FCR.FC_RX_LO.word : Fld := ⟨0x030, 0, 32⟩
/-- FCR.FC_RX_HI (07 R187), whole. -/
def FCR.FC_RX_HI.word : Fld := ⟨0x034, 0, 32⟩
/-- FCR.JUST_STATUS (07 R187), whole. -/
def FCR.JUST_STATUS.word : Fld := ⟨0x038, 0, 32⟩
def FCR.JUST_STATUS.TX_J : Fld := ⟨0x038, 0, 5⟩
def FCR.JUST_STATUS.RX_J : Fld := ⟨0x038, 8, 5⟩
def FCR.JUST_STATUS.BACKLOG : Fld := ⟨0x038, 16, 16⟩
/-- FCR.OH_VIEW (07 R187), whole. -/
def FCR.OH_VIEW.word : Fld := ⟨0x03C, 0, 32⟩
def FCR.OH_VIEW.MFI : Fld := ⟨0x03C, 0, 8⟩
def FCR.OH_VIEW.LM_PTR : Fld := ⟨0x03C, 8, 8⟩
def FCR.OH_VIEW.LM_CD : Fld := ⟨0x03C, 16, 3⟩
def FCR.OH_VIEW.AIS_BIT : Fld := ⟨0x03C, 19, 1⟩
def FCR.OH_VIEW.RDI_BIT : Fld := ⟨0x03C, 20, 1⟩
def FCR.OH_VIEW.KSI : Fld := ⟨0x03C, 21, 1⟩
def FCR.OH_VIEW.CRC_FAILS : Fld := ⟨0x03C, 24, 8⟩
/-- FCR.CR_CTRL (08 R202), whole. -/
def FCR.CR_CTRL.word : Fld := ⟨0x040, 0, 32⟩
def FCR.CR_CTRL.MODE : Fld := ⟨0x040, 0, 1⟩
def FCR.CR_CTRL.END : Fld := ⟨0x040, 1, 1⟩
def FCR.CR_CTRL.PEER : Fld := ⟨0x040, 4, 4⟩
def FCR.CR_CTRL.SEL_DIR : Fld := ⟨0x040, 8, 1⟩
def FCR.CR_CTRL.SEL_SLOT : Fld := ⟨0x040, 9, 1⟩
def FCR.CR_CTRL.SWITCH : Fld := ⟨0x040, 16, 1⟩
def FCR.CR_CTRL.ZEROIZE : Fld := ⟨0x040, 17, 1⟩
/-- FCR.CR_STATUS (08 R202), whole. -/
def FCR.CR_STATUS.word : Fld := ⟨0x044, 0, 32⟩
def FCR.CR_STATUS.TX_ACTIVE : Fld := ⟨0x044, 0, 1⟩
def FCR.CR_STATUS.RX_ACTIVE : Fld := ⟨0x044, 1, 1⟩
def FCR.CR_STATUS.LOADED : Fld := ⟨0x044, 2, 4⟩
def FCR.CR_STATUS.SWITCH_PENDING : Fld := ⟨0x044, 6, 1⟩
def FCR.CR_STATUS.TX_BLOCKED : Fld := ⟨0x044, 7, 1⟩
def FCR.CR_STATUS.RX_STALE : Fld := ⟨0x044, 8, 1⟩
def FCR.CR_STATUS.TX_WARN : Fld := ⟨0x044, 9, 1⟩
def FCR.CR_STATUS.RX_WARN : Fld := ⟨0x044, 10, 1⟩
def FCR.CR_STATUS.CRYPT : Fld := ⟨0x044, 11, 1⟩
def FCR.CR_STATUS.CFG_REJECT : Fld := ⟨0x044, 12, 1⟩
def FCR.CR_STATUS.KEY_WORDS : Fld := ⟨0x044, 16, 4⟩
def FCR.CR_STATUS.FAIL_RUN : Fld := ⟨0x044, 20, 4⟩
/-- FCR.KEY_PORT (08 R202), whole. -/
def FCR.KEY_PORT.word : Fld := ⟨0x048, 0, 32⟩
/-- FCR.KEY_SALT (08 R202), whole. -/
def FCR.KEY_SALT.word : Fld := ⟨0x04C, 0, 32⟩
/-- FCR.KEY_AGE (08 R202), whole. -/
def FCR.KEY_AGE.word : Fld := ⟨0x050, 0, 32⟩
def FCR.KEY_AGE.TX_AGE : Fld := ⟨0x050, 0, 16⟩
def FCR.KEY_AGE.RX_AGE : Fld := ⟨0x050, 16, 16⟩
/-- FCR.CR_LAST (08 R202), whole. -/
def FCR.CR_LAST.word : Fld := ⟨0x054, 0, 32⟩
def FCR.CR_LAST.FRAME_LO : Fld := ⟨0x054, 0, 24⟩
def FCR.CR_LAST.REASON : Fld := ⟨0x054, 24, 3⟩
/-- The rows of the FCR registers. -/
def FCR.rows : List RegRow :=
  [⟨0x020, 0x10008, 0x11F1F, 0x0⟩,
   ⟨0x024, 0x0, 0x0, 0x0⟩,
   ⟨0x028, 0x0, 0x0, 0x0⟩,
   ⟨0x02C, 0x0, 0x0, 0x0⟩,
   ⟨0x030, 0x0, 0x0, 0x0⟩,
   ⟨0x034, 0x0, 0x0, 0x0⟩,
   ⟨0x038, 0x0, 0x0, 0x0⟩,
   ⟨0x03C, 0x0, 0x0, 0x0⟩,
   ⟨0x040, 0x0, 0x3F3, 0x0⟩,
   ⟨0x044, 0x0, 0x0, 0x0⟩,
   ⟨0x048, 0x0, 0x0, 0x0⟩,
   ⟨0x04C, 0x0, 0x0, 0x0⟩,
   ⟨0x050, 0x0, 0x0, 0x0⟩,
   ⟨0x054, 0x0, 0x0, 0x0⟩]

end Reg

end Sys2Proof
end

