-- ==== Sys2Proof/Machine/Pages.lean ====
section
/-! DEFINITION. The page directory (R34): where each page lies, its type code, its event bits, the resets that differ
from page to page, and the memories its FLIP_MASK can name. -/
namespace Sys2Proof

/-- The page types of the directory (R34). -/
inductive PageType where
  | dev | ses | log | cad | tim | vsq | tsn | fpw | ftl | frl | fbr | qsc | sch | bsc | stp | fct | msc | mch
  | hsc | hlg | csc | txo | rxe | lfe | fcr
  deriving DecidableEq, Repr

namespace Page

/-- The type of a page (R34). -/
def type : Page → PageType
  | dev => .dev | ses => .ses | log => .log | cad => .cad | tim => .tim | vsq => .vsq | tsn => .tsn
  | fpw => .fpw | ftl => .ftl | frl => .frl | fbr => .fbr | qsc => .qsc | sch => .sch | bsc => .bsc
  | stp => .stp | fct => .fct | msc => .msc | mch _ => .mch | hsc _ => .hsc | hlg _ _ => .hlg
  | csc _ => .csc | txo _ => .txo | rxe _ => .rxe | lfe _ => .lfe | fcr _ => .fcr

/-- The section of a page (R14, R34). -/
def sec : Page → Nat
  | dev | ses | log | cad => 0
  | tim | vsq | tsn => 1
  | fpw | ftl | frl | fbr => 2
  | qsc | sch => 3
  | bsc | stp | fct => 4
  | msc | mch _ => 5
  | hsc d | hlg d _ => 6 + d.val
  | csc k | txo k | rxe k | lfe k | fcr k => 0x10 + k.val

/-- The index of a page in its section (R34). -/
def index : Page → Nat
  | dev | tim | fpw | qsc | bsc | msc | hsc _ | csc _ => 0
  | ses | vsq | ftl | sch | stp | txo _ => 1
  | log | tsn | frl | fct | rxe _ => 2
  | cad | fbr | lfe _ => 3
  | fcr _ => 4
  | mch c => 1 + c.val
  | hlg _ g => 1 + g.val

/-- The byte address of a page in BAR0 (R30). -/
def base (p : Page) : Nat := 0x100000 * p.sec + 0x1000 * p.index

/-- The section page of a section number (R14, R34). -/
def secPage (s : Nat) : Page :=
  match s with
  | 0 => dev | 1 => tim | 2 => fpw | 3 => qsc | 4 => bsc | 5 => msc | 6 => hsc 0 | 7 => hsc 1
  | _ => csc (Fin.ofNat 16 (s - 0x10))

/-- The page at a section and page index (R34); none where the directory holds no page. -/
def ofIndex (s i : Nat) : Option Page :=
  match s with
  | 0 => [dev, ses, log, cad][i]?
  | 1 => [tim, vsq, tsn][i]?
  | 2 => [fpw, ftl, frl, fbr][i]?
  | 3 => [qsc, sch][i]?
  | 4 => [bsc, stp, fct][i]?
  | 5 => if i = 0 then some msc else if h : i - 1 < 17 then some (mch ⟨i - 1, h⟩) else none
  | 6 => if i = 0 then some (hsc 0) else if h : i - 1 < 4 then some (hlg 0 ⟨i - 1, h⟩) else none
  | 7 => if i = 0 then some (hsc 1) else if h : i - 1 < 4 then some (hlg 1 ⟨i - 1, h⟩) else none
  | s => if h : 0x10 ≤ s ∧ s < 0x20 then
      let k : Fin 16 := ⟨s - 0x10, by omega⟩
      [csc k, txo k, rxe k, lfe k, fcr k][i]?
    else none

/-- The page that holds a BAR0 byte address (R30, R33). -/
def ofAddr (a : Nat) : Option Page := ofIndex (a / 0x100000) (a / 0x1000 % 0x100)

end Page

namespace PageType

/-- Type code (R34). -/
def code : PageType → Nat
  | dev => 0x01 | ses => 0x02 | log => 0x03 | cad => 0x04 | tim => 0x10 | vsq => 0x11 | tsn => 0x12
  | fpw => 0x20 | ftl => 0x21 | frl => 0x22 | fbr => 0x23 | qsc => 0x30 | sch => 0x31 | bsc => 0x38
  | stp => 0x39 | fct => 0x3A | msc => 0x40 | mch => 0x41 | hsc => 0x48 | hlg => 0x49
  | csc => 0x50 | txo => 0x51 | rxe => 0x52 | lfe => 0x53 | fcr => 0x54

/-- EVENT_ENABLE after reset: R63, R53, R67, R440, R336-R339, R389, R363, R387, R423, R365, R235, R237, R266, R268,
R270, R295, R297, R315, R317, R186, R96, R123, R162, R203. -/
def enableReset : PageType → Nat
  | dev => 0x3FF | ses => 0xF | log => 0x3 | cad => 0x3BE | tim => 0x16D | vsq => 0xB | tsn => 0x5F
  | fpw => 0xF5 | ftl => 0xB | frl => 0x32D | fbr => 0x3C | qsc => 0x2D | sch => 0x59 | bsc => 0xB
  | stp => 0x3E | fct => 0x59 | msc => 0xFA | mch => 0x3D | hsc => 0x17 | hlg => 0x4E
  | csc => 0x1B | txo => 0x35F | rxe => 0x79F | lfe => 0x4B7C | fcr => 0x18D69

/-- The EVENT bits a page has; the others are reserved (the same rules). -/
def eventBits : PageType → Nat
  | dev => 0x3FF | ses => 0xF | log => 0x3 | cad => 0x3FF | tim => 0x1FF | vsq => 0x1F | tsn => 0x7F
  | fpw => 0xFF | ftl => 0x3F | frl => 0x7FF | fbr => 0x7F | qsc => 0x3F | sch => 0xFF | bsc => 0xF
  | stp => 0x3F | fct => 0x7F | msc => 0xFF | mch => 0x7F | hsc => 0x1F | hlg => 0x7F
  | csc => 0x1F | txo => 0x3FF | rxe => 0x7FF | lfe => 0x7F7F | fcr => 0x1FFFF

/-- How many FLIP_MASK targets an engine has, numbered from 0 (R41): R67, R440, R389, R362, R235, R238, R266, R268, R270,
R291, R315, R317, R82, R120, R148, R160, R189, R204; the pages of no protected memory have none (R67, R338). -/
def flipTargets : PageType → Nat
  | dev | ses | tim | vsq | csc => 0
  | log | cad | tsn | fpw | ftl | frl | fbr | fct | hsc => 1
  | qsc | stp | msc | hlg => 2
  | bsc => 3
  | mch | fcr => 4
  | txo => 4
  | sch | rxe | lfe => 5

/-- The block registers of a page type (R34). -/
def rows : PageType → List RegRow
  | dev => Reg.DEV.rows | ses => Reg.SES.rows | log => Reg.LOG.rows | cad => Reg.CAD.rows
  | tim => Reg.TIM.rows | vsq => Reg.VSQ.rows | tsn => Reg.TSN.rows
  | fpw => Reg.FPW.rows | ftl => Reg.FTL.rows | frl => Reg.FRL.rows | fbr => Reg.FBR.rows
  | qsc => Reg.QSC.rows | sch => Reg.SCH.rows | bsc => Reg.BSC.rows | stp => Reg.STP.rows | fct => Reg.FCT.rows
  | msc => Reg.MSC.rows | mch => Reg.MCH.rows | hsc => Reg.HSC.rows | hlg => Reg.HLG.rows
  | csc => Reg.CSC.rows | txo => Reg.TXO.rows | rxe => Reg.RXE.rows | lfe => Reg.LFE.rows | fcr => Reg.FCR.rows

end PageType

/-- The row of a register at an offset of a page: the header's, the block's, or one of the arrays DOMn and CHn
(R35, R336, R386). -/
def regRow (t : PageType) (off : Nat) : Option RegRow :=
  if off < 0x20 then Reg.HDR.rows.find? (·.off = off)
  else if t = .tim ∧ 0x30 ≤ off ∧ off < 0xD0 then Reg.TIM.rows.find? (·.off = 0x30)
  else if t = .ftl ∧ 0x20 ≤ off ∧ off < 0xA0 then Reg.FTL.rows.find? (·.off = 0x20)
  else t.rows.find? (·.off = off)

/-- Reset of CHn (R386): the chain of each telemetry channel. -/
def chReset (n : Nat) : Nat :=
  let t03 := n ≤ 3
  let rip := n = 26 ∨ n = 27
  let ow := (6 ≤ n ∧ n ≤ 11) ∨ 28 ≤ n
  1 + (if t03 then 2 * 2 else 0) + (if rip then 8 else 0) + (if ow then 0x20 else 0)
    + (if t03 then 2 * 0x400 + 3 * 0x2000 else 0)
    + (if t03 then 14 else if rip then 0 else 24) * 0x20000
    + (if t03 ∨ rip then 12 else 10) * 0x800000

/-- GRID_N of a carrier's own slot centre after reset (R83): the part's lowest slot plus 50 steps a carrier. -/
def gridReset (part : Part) (k : Nat) : Int :=
  match part with
  | .ec => -287 + 50 * (k : Int)
  | .el => -1215 + 50 * (k : Int)

/-- The 16-bit two's complement of an integer, as a register field holds it. -/
def twos (w : Nat) (i : Int) : Nat := (i % (2 ^ w : Nat)).toNat

/-- Reset value of the register at an offset of a page (the Reset columns; R36, R55, R83, R185, R202, R386). -/
def resetOf (part : Part) (p : Page) (off : Nat) : Nat :=
  if off = 0x000 then 0x1000000 * p.type.code + 0x10000 * p.sec + 0x100 * p.index + 1
  else if off = 0x010 then p.type.enableReset
  else match p, off with
    | .dev, 0x024 => 0x00B11632 + (match part with | .ec => 0 | .el => 0x01000000)
    | .txo k, 0x028 => twos 16 (gridReset part k.val)
    | .csc k, 0x024 => 0x90 + k.val
    | .fcr k, 0x040 => 0x10 * k.val
    | .ftl, off =>
      if 0x20 ≤ off ∧ off < 0xA0 then (if off % 4 = 0 then chReset ((off - 0x20) / 4) else 0)
      else (match regRow .ftl off with | some r => r.reset | none => 0)
    | p, off => (match regRow p.type off with | some r => r.reset | none => 0)

/-- The word a BAR0 address holds after reset: 0 where no page lies (R33). -/
def resetWord (part : Part) (a : Nat) : Word :=
  match Page.ofAddr a with
  | some p => BitVec.ofNat 32 (resetOf part p (a % 0x1000))
  | none => 0

end Sys2Proof
end

