-- ==== Sys2Proof/Machine/Bits.lean ====
section
/-! DEFINITION. Fields of words, signed fields, byte order of messages (R341: most significant byte first), and the
arithmetic that several chapters share. -/
namespace Sys2Proof

/-- The bits [lo + w - 1 : lo] of a word. -/
def getBits (x : Word) (lo w : Nat) : Nat := (x.extractLsb' lo w).toNat

/-- A word with bits [lo + w - 1 : lo] replaced by the low w bits of a number. -/
def putBits (x : Word) (lo w n : Nat) : Word :=
  (x &&& ~~~((BitVec.allOnes w).setWidth 32 <<< lo)) ||| ((BitVec.ofNat w n).setWidth 32 <<< lo)

/-- The field of a word as a number. -/
def Fld.get (f : Fld) (x : Word) : Nat := getBits x f.lo f.w

/-- A word with a field replaced. -/
def Fld.put (f : Fld) (x : Word) (n : Nat) : Word := putBits x f.lo f.w n

/-- A w-bit number read as two's complement. -/
def signed (w n : Nat) : Int := if n < 2 ^ (w - 1) then (n : Int) else (n : Int) - (2 ^ w : Nat)

/-- The field of a word as a signed number. -/
def Fld.getI (f : Fld) (x : Word) : Int := signed f.w (f.get x)

/-- Addition that stops at the largest w-bit number. -/
def satAdd (w a b : Nat) : Nat := min (a + b) (2 ^ w - 1)

/-- A number as n bytes, most significant first (R341). -/
def bytesBE : Nat → Nat → List Byte
  | 0, _ => []
  | n + 1, v => BitVec.ofNat 8 (v / 256 ^ n) :: bytesBE n v

/-- The number that bytes spell, most significant first. -/
def natBE (l : List Byte) : Nat := l.foldl (fun a b => a * 256 + b.toNat) 0

/-- Bits of a byte list, most significant bit of the first byte first. -/
def bitsBE (l : List Byte) : List Bool := l.flatMap fun b => (List.range 8).map fun i => b.getLsbD (7 - i)

/-- The number that bits spell, most significant first. -/
def natBits (l : List Bool) : Nat := l.foldl (fun a b => a * 2 + b.toNat) 0

/-- The bits of a w-bit number, most significant first. -/
def bitsOf (w n : Nat) : List Bool := (List.range w).map fun i => n.testBit (w - 1 - i)

/-- The index of the lowest bit set, of the first n bits. -/
def lowBit (n x : Nat) : Option Nat := (List.range n).find? fun i => x.testBit i

/-- How many of the first n bits are set. -/
def popCount (n x : Nat) : Nat := (List.range n).countP fun i => x.testBit i

/-- The integer square root of a number below 2 ^ (2 * bits), its bits found from the highest down. -/
def isqrt (n r : Nat) : Nat → Nat
  | 0 => r
  | bits + 1 => isqrt n (if (r + 2 ^ bits) * (r + 2 ^ bits) ≤ n then r + 2 ^ bits else r) bits

/-- A number with bit i set or cleared. -/
def putBit (x i : Nat) (b : Bool) : Nat :=
  if x.testBit i = b then x else if b then x + 2 ^ i else x - 2 ^ i

/-- Round a fraction a / b, b > 0, to the nearest integer, halves to even (R173). -/
def roundHalfEven (a : Int) (b : Nat) : Int :=
  let q := a / (b : Int)
  let r := a - q * (b : Int)
  if 2 * r < (b : Int) then q
  else if (b : Int) < 2 * r then q + 1
  else if q % 2 = 0 then q else q + 1

/-- The quotient rounded up. -/
def ceilDiv (a b : Nat) : Nat := (a + b - 1) / b

/-- A list with its n-th element replaced; longer lists only. -/
def setAt {α : Type} (l : List α) (n : Nat) (v : α) : List α := l.set n v

end Sys2Proof
end

