-- ==== Sys2Proof/Machine/Crypto.lean ====
section
/-! DEFINITION. The cryptographic functions that the spec names by their standards: SHA-256 and HMAC (R45), AES-256 with GCM
(R192), AES key wrap (R360, R416), and SHA-384 and ECDSA over P-384 (R361, R432). PRESUMED from FIPS 180-4, FIPS 198-1, FIPS 197,
SP 800-38D, SP 800-38F, FIPS 186-5 and SP 800-186. -/
namespace Sys2Proof.Crypto

open Sys2Proof

/-! ## SHA-256 and HMAC -/

/-- The first primes, as FIPS 180-4 takes them for its constants. -/
def primes (n : Nat) : List Nat :=
  ((List.range 410).filter fun p => 2 ≤ p && (List.range p).all fun d => d < 2 || p % d != 0).take n

/-- The largest number below base + 2 ^ bits, from base up, whose e-th power is at most a bound: one bit at a time, highest first. -/
def rootFrom (e bound base : Nat) : Nat → Nat
  | 0 => base
  | bits + 1 => rootFrom e bound (if (base + 2 ^ bits) ^ e ≤ bound then base + 2 ^ bits else base) bits

/-- The first 32 bits of the fractional part of the e-th root of a prime. -/
def rootWord (e p : Nat) : Word := BitVec.ofNat 32 (rootFrom e (p * 2 ^ (32 * e)) 0 37)

/-- The constants of the 64 rounds: cube roots of the first 64 primes (FIPS 180-4, 4.2.2). -/
def ks : List Word := (primes 64).map (rootWord 3)

/-- The initial hash value: square roots of the first eight primes (FIPS 180-4, 5.3.3). -/
def h0 : List Word := (primes 8).map (rootWord 2)

/-- The message schedule: the 16 words of a block, extended one word at a time; kept newest first. -/
def extend (w : List Word) (n : Nat) : List Word :=
  match n with
  | 0 => w
  | m + 1 =>
    let a := w.getD 14 0
    let b := w.getD 1 0
    let s0 := a.rotateRight 7 ^^^ a.rotateRight 18 ^^^ (a >>> 3)
    let s1 := b.rotateRight 17 ^^^ b.rotateRight 19 ^^^ (b >>> 10)
    extend ((w.getD 15 0 + s0 + w.getD 6 0 + s1) :: w) m

/-- One round on the working variables a to h. -/
def round (v : List Word) (kw : Word) : List Word :=
  match v with
  | [a, b, c, d, e, f, g, h] =>
    let t1 := h + (e.rotateRight 6 ^^^ e.rotateRight 11 ^^^ e.rotateRight 25) + ((e &&& f) ^^^ (~~~e &&& g)) + kw
    let t2 := (a.rotateRight 2 ^^^ a.rotateRight 13 ^^^ a.rotateRight 22) + ((a &&& b) ^^^ (a &&& c) ^^^ (b &&& c))
    [t1 + t2, a, b, c, d + t1, e, f, g]
  | v => v

/-- The words of a byte list, four bytes each, most significant first. -/
def words (n : Nat) (b : List Byte) : List Word :=
  match n with
  | 0 => []
  | m + 1 => BitVec.ofNat 32 (natBE (b.take 4)) :: words m (b.drop 4)

/-- One block of 64 bytes compressed. -/
def compress (h : List Word) (b : List Byte) : List Word :=
  let w := (extend (words 16 b).reverse 48).reverse
  let v := (List.zipWith (· + ·) ks w).foldl round h
  List.zipWith (· + ·) h v

/-- n blocks compressed. -/
def blocks (h : List Word) (b : List Byte) (n : Nat) : List Word :=
  match n with
  | 0 => h
  | m + 1 => blocks (compress h (b.take 64)) (b.drop 64) m

/-- SHA-256 of bytes. -/
def sha256 (m : List Byte) : List Byte :=
  let n := m.length
  let z := (119 - n % 64) % 64
  let p := m ++ [0x80] ++ List.replicate z 0 ++ bytesBE 8 (8 * n)
  (blocks h0 p (p.length / 64)).flatMap fun w => bytesBE 4 w.toNat

/-- HMAC-SHA-256 under a key of at most 64 bytes. -/
def hmac (key m : List Byte) : List Byte :=
  let k := key ++ List.replicate (64 - key.length) 0
  sha256 (k.map (· ^^^ 0x5c) ++ sha256 (k.map (· ^^^ 0x36) ++ m))

/-! ## AES-256 -/

/-- Doubling in the field of AES. -/
def xt (a : Byte) : Byte := (a <<< 1) ^^^ (if a.getLsbD 7 then 0x1b else 0)

/-- Product in the field of AES, over the low n bits of the second factor. -/
def mulN (a b : Byte) (n : Nat) : Byte :=
  match n with
  | 0 => 0
  | m + 1 => (if b.getLsbD 0 then a else 0) ^^^ mulN (xt a) (b >>> 1) m

def mul (a b : Byte) : Byte := mulN a b 8

/-- The inverse: the 254th power. -/
def inv (a : Byte) : Byte :=
  let a2 := mul a a
  let a4 := mul a2 a2
  let a8 := mul a4 a4
  let a16 := mul a8 a8
  let a32 := mul a16 a16
  let a64 := mul a32 a32
  let a128 := mul a64 a64
  mul a2 (mul a4 (mul a8 (mul a16 (mul a32 (mul a64 a128)))))

def sub (a : Byte) : Byte :=
  let b := inv a
  b ^^^ b.rotateLeft 1 ^^^ b.rotateLeft 2 ^^^ b.rotateLeft 3 ^^^ b.rotateLeft 4 ^^^ 0x63

def invSub (a : Byte) : Byte := inv (a.rotateLeft 1 ^^^ a.rotateLeft 3 ^^^ a.rotateLeft 6 ^^^ 0x05)

/-- The key schedule of AES-256: words as four bytes, newest first; i counts from 8 up. -/
def expand (w : List (List Byte)) (rc : Byte) (i n : Nat) : List (List Byte) :=
  match n with
  | 0 => w
  | m + 1 =>
    let t := w.getD 0 []
    let u := if i % 8 = 0 then
        match t.map sub with
        | [a, b, c, d] => [b ^^^ rc, c, d, a]
        | l => l
      else if i % 8 = 4 then t.map sub else t
    expand (List.zipWith (· ^^^ ·) (w.getD 7 []) u :: w) (if i % 8 = 0 then xt rc else rc) (i + 1) m

/-- Bytes in groups of n. -/
def chunks (n : Nat) (b : List Byte) (k : Nat) : List (List Byte) :=
  match k with
  | 0 => []
  | m + 1 => b.take n :: chunks n (b.drop n) m

/-- The fifteen round keys of a 32-byte key. -/
def roundKeys (key : List Byte) : List (List Byte) :=
  let w := (expand (chunks 4 key 8).reverse 1 8 52).reverse
  chunks 16 w.flatten 15

def xorB (a b : List Byte) : List Byte := List.zipWith (· ^^^ ·) a b

/-- ShiftRows on a block in column order. -/
def shiftRows (b : List Byte) : List Byte := (List.range 16).map fun i => b.getD ((i + 4 * (i % 4)) % 16) 0
def invShiftRows (b : List Byte) : List Byte := (List.range 16).map fun i => b.getD ((i + 12 * (i % 4)) % 16) 0

/-- A column times a circulant row of coefficients. -/
def mixCol (m c : List Byte) : List Byte :=
  (List.range 4).map fun r => (List.range 4).foldl (fun a j => a ^^^ mul (m.getD ((j + 4 - r) % 4) 0) (c.getD j 0)) 0

def mix (m b : List Byte) : List Byte := (chunks 4 b 4).flatMap (mixCol m)

/-- AES-256 of one block. -/
def aes (key b : List Byte) : List Byte :=
  match roundKeys key with
  | [] => b
  | r0 :: rs =>
    let x := rs.dropLast.foldl (fun a r => xorB (mix [2, 3, 1, 1] (shiftRows (a.map sub))) r) (xorB b r0)
    xorB (shiftRows (x.map sub)) (rs.getLastD [])

/-- The inverse cipher. -/
def aesInv (key b : List Byte) : List Byte :=
  match (roundKeys key).reverse with
  | [] => b
  | r0 :: rs =>
    let x := rs.dropLast.foldl (fun a r => mix [14, 11, 13, 9] (xorB ((invShiftRows a).map invSub) r)) (xorB b r0)
    xorB ((invShiftRows x).map invSub) (rs.getLastD [])

/-! ## GCM -/

/-- Product in GF(2^128) of GCM, bit 127 of a block being its first bit; over the first n bits of x. -/
def gmulN (x v : BitVec 128) (n : Nat) (z : BitVec 128) : BitVec 128 :=
  match n with
  | 0 => z
  | m + 1 => gmulN (x <<< 1) ((v >>> 1) ^^^ (if v.getLsbD 0 then 0xE1#128 <<< 120 else 0)) m (if x.getLsbD 127 then z ^^^ v else z)

def gmul (x y : BitVec 128) : BitVec 128 := gmulN x y 128 0

/-- GHASH of n blocks. -/
def ghash (h : BitVec 128) (b : List Byte) (n : Nat) (y : BitVec 128) : BitVec 128 :=
  match n with
  | 0 => y
  | m + 1 => ghash h (b.drop 16) m (gmul (y ^^^ BitVec.ofNat 128 (natBE (b.take 16))) h)

def pad16 (b : List Byte) : List Byte := b ++ List.replicate ((16 - b.length % 16) % 16) 0

/-- The stream of n counter blocks from counter value c. -/
def gctr (key iv : List Byte) (c n : Nat) : List Byte :=
  (List.range n).flatMap fun i => aes key (iv ++ bytesBE 4 (c + i))

/-- AES-256-GCM with a 12-byte IV: text enciphered (or deciphered), and the tag over the ciphertext. -/
def gcmTag (key iv aad ct : List Byte) : List Byte :=
  let h := BitVec.ofNat 128 (natBE (aes key (List.replicate 16 0)))
  let d := pad16 aad ++ pad16 ct ++ bytesBE 8 (8 * aad.length) ++ bytesBE 8 (8 * ct.length)
  xorB (bytesBE 16 (ghash h d (d.length / 16) 0).toNat) (gctr key iv 1 1)

def gcmText (key iv t : List Byte) : List Byte := xorB t (gctr key iv 2 ((t.length + 15) / 16))

/-- Bytes of bits, the last filled up with zeros. -/
def packBits (l : List Bool) (n : Nat) : List Byte :=
  match n with
  | 0 => []
  | m + 1 => BitVec.ofNat 8 (natBits (l.take 8 ++ List.replicate (8 - l.length) false)) :: packBits (l.drop 8) m

/-- AES-256-GCM over a bit string: the text enciphered or deciphered. -/
def gcmBits (key iv : List Byte) (t : List Bool) : List Bool :=
  List.zipWith (fun a b => a != b) t (bitsBE (gctr key iv 2 ((t.length + 127) / 128)))

/-- The tag over a ciphertext given as a bit string. -/
def gcmTagBits (key iv aad : List Byte) (ct : List Bool) : List Byte :=
  let h := BitVec.ofNat 128 (natBE (aes key (List.replicate 16 0)))
  let d := pad16 aad ++ pad16 (packBits ct ((ct.length + 7) / 8)) ++ bytesBE 8 (8 * aad.length) ++ bytesBE 8 ct.length
  xorB (bytesBE 16 (ghash h d (d.length / 16) 0).toNat) (gctr key iv 1 1)

/-! ## Key wrap -/

/-- One step of unwrapping: A, the registers R1 to Rn, step t counting down. -/
def unwrapSteps (key : List Byte) (n : Nat) (a : List Byte) (r : List (List Byte)) (t : Nat) : List Byte × List (List Byte) :=
  match t with
  | 0 => (a, r)
  | u + 1 =>
    let i := u % n
    let b := aesInv key (xorB a (bytesBE 8 (u + 1)) ++ r.getD i [])
    unwrapSteps key n (b.take 8) (r.set i (b.drop 8)) u

/-- AES key unwrap: the key data, when the check value is right. -/
def unwrap (key c : List Byte) : Option (List Byte) :=
  let n := c.length / 8 - 1
  let (a, r) := unwrapSteps key n (c.take 8) (chunks 8 (c.drop 8) n) (6 * n)
  if a = List.replicate 8 0xA6 then some r.flatten else none

/-! ## SHA-384 -/

/-- The first 64 bits of the fractional part of the e-th root of a prime. -/
def rootWord64 (e p : Nat) : BitVec 64 := BitVec.ofNat 64 (rootFrom e (p * 2 ^ (64 * e)) 0 70)

/-- The constants of the 80 rounds: cube roots of the first 80 primes (FIPS 180-4, 4.2.3). -/
def ks64 : List (BitVec 64) := (primes 80).map (rootWord64 3)

/-- The initial hash value: square roots of the ninth to the sixteenth prime (FIPS 180-4, 5.3.4). -/
def h384 : List (BitVec 64) := ((primes 16).drop 8).map (rootWord64 2)

/-- The message schedule, newest word first. -/
def extend64 (w : List (BitVec 64)) (n : Nat) : List (BitVec 64) :=
  match n with
  | 0 => w
  | m + 1 =>
    let a := w.getD 14 0
    let b := w.getD 1 0
    let s0 := a.rotateRight 1 ^^^ a.rotateRight 8 ^^^ (a >>> 7)
    let s1 := b.rotateRight 19 ^^^ b.rotateRight 61 ^^^ (b >>> 6)
    extend64 ((w.getD 15 0 + s0 + w.getD 6 0 + s1) :: w) m

/-- One round on the working variables a to h. -/
def round64 (v : List (BitVec 64)) (kw : BitVec 64) : List (BitVec 64) :=
  match v with
  | [a, b, c, d, e, f, g, h] =>
    let t1 := h + (e.rotateRight 14 ^^^ e.rotateRight 18 ^^^ e.rotateRight 41) + ((e &&& f) ^^^ (~~~e &&& g)) + kw
    let t2 := (a.rotateRight 28 ^^^ a.rotateRight 34 ^^^ a.rotateRight 39) + ((a &&& b) ^^^ (a &&& c) ^^^ (b &&& c))
    [t1 + t2, a, b, c, d + t1, e, f, g]
  | v => v

/-- One block of 128 bytes compressed. -/
def compress64 (h : List (BitVec 64)) (b : List Byte) : List (BitVec 64) :=
  let w := (extend64 ((chunks 8 b 16).map fun x => BitVec.ofNat 64 (natBE x)).reverse 64).reverse
  List.zipWith (· + ·) h ((List.zipWith (· + ·) ks64 w).foldl round64 h)

/-- SHA-384 of bytes. -/
def sha384 (m : List Byte) : List Byte :=
  let n := m.length
  let p := m ++ [0x80] ++ List.replicate ((239 - n % 128) % 128) 0 ++ bytesBE 16 (8 * n)
  (((chunks 128 p (p.length / 128)).foldl compress64 h384).take 6).flatMap fun w => bytesBE 8 w.toNat

/-! ## ECDSA over P-384 -/

/-- The prime of the curve, the order of its base point, and that point (SP 800-186). -/
def p384 : Nat := 2 ^ 384 - 2 ^ 128 - 2 ^ 96 + 2 ^ 32 - 1
def n384 : Nat := 0xffffffffffffffffffffffffffffffffffffffffffffffffc7634d81f4372ddf581a0db248b0a77aecec196accc52973
def gx384 : Nat := 0xaa87ca22be8b05378eb1c71ef320ad746e1d3b628ba79b9859f741e082542a385502f25dbf55296c3a545e3872760ab7
def gy384 : Nat := 0x3617de4a96262c6f5d9e98bf9292dc29f8f41dbd289a147ce9da3113b5f0b8c00a60b1ce1d7e819d7a431d7c90ea0e5f

/-- A power modulo m, over the low bits of the exponent. -/
def powMod (m : Nat) : Nat → Nat → Nat → Nat
  | 0, _, _ => 1 % m
  | bits + 1, a, e => (if e % 2 = 1 then a else 1) * powMod m bits (a * a % m) (e / 2) % m

/-- The inverse modulo a prime of 384 bits. -/
def invMod (m a : Nat) : Nat := powMod m 384 (a % m) (m - 2)

/-- A point in Jacobian coordinates; Z = 0 is the point at infinity. -/
structure JPoint where
  x : Nat
  y : Nat
  z : Nat
  deriving DecidableEq, Repr

/-- A difference modulo the prime. -/
def subP (a b : Nat) : Nat := (a + p384 - b % p384) % p384

/-- A point doubled, on the curve whose a is -3. -/
def dbl (q : JPoint) : JPoint :=
  let yy := q.y * q.y % p384
  let s := 4 * q.x * yy % p384
  let zz := q.z * q.z % p384
  let m := 3 * subP q.x zz * (q.x + zz) % p384
  let x := subP (m * m) (2 * s)
  ⟨x, subP (m * subP s x) (8 * yy * yy), 2 * q.y * q.z % p384⟩

/-- The sum of two points. -/
def addPts (a b : JPoint) : JPoint :=
  if a.z = 0 then b
  else if b.z = 0 then a
  else
    let za := a.z * a.z % p384
    let zb := b.z * b.z % p384
    let u := a.x * zb % p384
    let s := a.y * zb * b.z % p384
    let h := subP (b.x * za) u
    let r := subP (b.y * za * a.z) s
    if h = 0 then if r = 0 then dbl a else ⟨1, 1, 0⟩
    else
      let hh := h * h % p384
      let hhh := h * hh % p384
      let v := u * hh % p384
      let x := subP (subP (r * r) hhh) (2 * v)
      ⟨x, subP (r * subP v x) (s * hhh), a.z * b.z * h % p384⟩

/-- A multiple of a point, over the top bits of the factor. -/
def mulPt (q : JPoint) (k : Nat) : Nat → JPoint
  | 0 => ⟨1, 1, 0⟩
  | bits + 1 =>
    let d := dbl (mulPt q (k / 2) bits)
    if k % 2 = 1 then addPts d q else d

/-- A signature (r, s) of a message verifies under a public key (FIPS 186-5, 6.4.2). -/
def ecdsa384 (key : Nat × Nat) (m : List Byte) (r s : Nat) : Bool :=
  if r = 0 || n384 ≤ r || s = 0 || n384 ≤ s then false
  else
    let w := invMod n384 s
    let q := addPts (mulPt ⟨gx384, gy384, 1⟩ (natBE (sha384 m) * w % n384) 384) (mulPt ⟨key.1, key.2, 1⟩ (r * w % n384) 384)
    q.z != 0 && q.x * invMod p384 (q.z * q.z) % p384 % n384 == r

/-- An image is signed (R361, R432): what its signature covers and the signature's two numbers lie in it as its format has them, which the
spec does not give. -/
def signed (img : List Byte) : Bool :=
  let (m, r, s) := Config.imageFormat img
  ecdsa384 Config.imageKey m r s

end Sys2Proof.Crypto
end

