-- ==== Sys2Proof/Machine/Map.lean ====
section
/-! DEFINITION. Sparse maps: the form in which every addressed store of the module is held (registers, counters, tables,
rings). A map lists (key, value) pairs; a key it does not list has the value of a default function. The one
canonical form: keys strictly rising, no pair that gives a key its default. -/
namespace Sys2Proof

/-- A sparse map from keys to values. -/
abbrev SMap (α : Type) := List (Nat × α)

namespace SMap

/-- The value of a key: the first pair that names it, else the default. -/
def get {α : Type} (m : SMap α) (d : Nat → α) (k : Nat) : α :=
  match m with
  | [] => d k
  | (a, v) :: r => if a = k then v else SMap.get r d k

/-- The map without a key. -/
def erase {α : Type} (m : SMap α) (k : Nat) : SMap α :=
  match m with
  | [] => []
  | (a, v) :: r => if a = k then SMap.erase r k else (a, v) :: SMap.erase r k

/-- A pair put in its place among rising keys. -/
def insert {α : Type} (m : SMap α) (k : Nat) (v : α) : SMap α :=
  match m with
  | [] => [(k, v)]
  | (a, w) :: r => if k < a then (k, v) :: (a, w) :: r else (a, w) :: SMap.insert r k v

/-- The map with a key given a value; the pair is dropped when the value is the key's default. -/
def set {α : Type} [DecidableEq α] (m : SMap α) (d : Nat → α) (k : Nat) (v : α) : SMap α :=
  if v = d k then SMap.erase m k else SMap.insert (SMap.erase m k) k v

/-- Keys strictly rising from above a bound, no value its key's default. -/
def wfFrom {α : Type} [DecidableEq α] (d : Nat → α) (m : SMap α) (lo : Nat) : Bool :=
  match m with
  | [] => true
  | (a, v) :: r => decide (lo ≤ a) && decide (v ≠ d a) && SMap.wfFrom d r (a + 1)

/-- The canonical form. -/
def wf {α : Type} [DecidableEq α] (d : Nat → α) (m : SMap α) : Bool := SMap.wfFrom d m 0

/-- The keys a map lists. -/
def keys {α : Type} (m : SMap α) : List Nat := m.map (·.1)

end SMap

end Sys2Proof
end

