-- ==== Sys2Proof/Machine/FieldState.lean ====
section
/-! DEFINITION. State of the field island, the barrier link, the start controller and the control inputs. -/
namespace Sys2Proof.Machine

/-! ## Field island and barrier -/

/-- Feed states (R499, FEED_STATUS). -/
inductive FeedState where
  | absent | reversed | belowUvlo | valid | ovOff | clOff
  deriving DecidableEq, Repr

/-- A feed: state, voltage in 10 mV, current in 10 mA, and that it sits at its current limit (R351). -/
structure FeedSt where
  st : FeedState
  volt : Nat
  cur : Nat
  limited : Bool
  deriving DecidableEq, Repr

/-- Converter states (CONV_STATUS). -/
inductive ConvState where
  | off | precharge | softStart | running | currentLimit | fault
  deriving DecidableEq, Repr

/-- Phase states (PHASE_VIEW). -/
inductive PhaseState where
  | spare | working | rampIn | rampOut | retired
  deriving DecidableEq, Repr

/-- A converter phase: state, temperature in degrees, share error in percent, and the reason and partner of a
replacement in progress (R356, R357). -/
structure Phase where
  st : PhaseState
  temp : Int
  share : Int
  deriving DecidableEq, Repr

/-- A word held in three copies (R292). -/
structure Tri (α : Type) where
  a : α
  b : α
  c : α
  deriving DecidableEq, Repr

/-- The role-key verifiers, one word of three copies for each role (R45, R292, R293). -/
structure RoleKeys where
  viewer : Tri (BitVec 256)
  operator : Tri (BitVec 256)
  custodian : Tri (BitVec 256)
  deriving DecidableEq, Repr

/-- The lockout state of one interface and its session counter (R46, R48, R359). -/
structure Lock where
  counter : BitVec 32
  failRun : Nat
  /-- length of the next lockout, s -/
  nextLen : Nat
  /-- remaining lockout, s; 0 is unlocked -/
  remain : Nat
  deriving DecidableEq, Repr

/-- The session lockout word: both interfaces (R48, R359). -/
structure LockWord where
  host : Lock
  rail : Lock
  deriving DecidableEq, Repr

/-- The kettle cause word: the cause and DEEP (R58, R448). -/
structure CauseWord where
  cause : Nat
  deep : Bool
  deriving DecidableEq, Repr

/-- What a STATUS_REPORT carries to the hub (R344, R346): the field island's reported state at the moment of sending. -/
structure FieldPub where
  feedA : FeedSt
  feedB : FeedSt
  holdup : Bool
  extStore : Bool
  /-- hold-up time at the present load, 10 us -/
  holdupTime : Nat
  /-- intermediate bus, 1 mV and 10 mA -/
  busV : Nat
  busI : Nat
  conv : ConvState
  short : Bool
  phases : List Phase
  feedLosses : Nat
  phaseSwaps : Nat
  ovEvents : Nat
  clEvents : Nat
  dissent : Nat
  noMajority : Nat
  repairs : Nat
  cause : Nat
  deep : Bool
  attempts : Nat
  hostFail : Nat
  hostRemain : Nat
  railFail : Nat
  railRemain : Nat
  railRole : Nat
  railPeer : Nat
  /-- caddy summary (17 R424) -/
  caddy : Nat
  /-- oscillator residual, ppm (R402) -/
  residual : Int
  /-- settings of the mirror pages in force, by BAR0 address (R347) -/
  settings : SMap Word
  /-- SEQ of the last SETTING_WRITE taken, its refusal reason (0 applied), page and offset -/
  lastSet : Nat × Nat × Nat × Nat
  imgState : Nat
  imgSlot : Nat
  /-- the slot that is not running holds a verified image (R424, pool 15) -/
  imgSpare : Bool
  imgVersion : Nat
  serial : BitVec 64
  /-- the field side's resends and link-down declarations (FAR_COUNTS) -/
  resends : Nat
  downs : Nat
  /-- replacements of phases under reasons 1, 2 and 4, failures of phases, and failures of field images (R361, R363, R365): running numbers
  that show the hub each event once -/
  spared : Nat
  failed : Nat
  imgFails : Nat
  /-- role sessions that a replaced key closes (R419): a running number and the role -/
  revoked : Nat × Nat
  /-- dies that may restart (R385) -/
  permit : Nat
  thermRestarts : Nat
  thermLocked : Bool
  /-- the field-side counters by BAR2 offset (R460) -/
  cnt : SMap Nat
  deriving DecidableEq, Repr

/-- One record of a TELEMETRY_BATCH (R344, R376). -/
structure TelRec where
  ch : Nat
  flags : Nat
  min : Int
  max : Int
  sum : Int
  count : Nat
  deriving DecidableEq, Repr

/-- The payloads that cross the barrier beside HEARTBEAT (R344). -/
inductive BMsg where
  | statusReport (p : FieldPub)
  | telemetryBatch (rs : List TelRec) (rippleA rippleB : Bool) (n : Nat)
  | railDeliver (src svc flags : Nat) (data : List Byte)
  | railSend (dst svc flags : Nat) (data : List Byte)
  | proofCheck (role : Nat) (nonce : BitVec 64) (counter : BitVec 32) (proof : List Word)
  | proofResult (role result failRun remain : Nat) (counter : BitVec 32)
  | startResult (outcome cause level stage : Nat)
  | kettleEnter (cause attempts : Nat)
  | kettleClear (counter : Bool)
  | phaseSpare (phase spare reason left : Nat)
  | feedLimits (feed event volt cur : Nat)
  | thermalNotice (die zone kind band : Nat) (temp : Int)
  | cycleMark (epoch index source : Nat)
  | imageChunk (off : Nat) (bytes : List Byte)
  | settingWrite (page role off : Nat) (v : Word)
  deriving DecidableEq, Repr

/-- A frame sent and not acknowledged (R342). -/
structure BFrame where
  seq : Nat
  sends : Nat
  msg : BMsg
  deriving DecidableEq, Repr

/-- A HEARTBEAT on the link (R344). -/
structure HeartB where
  ack : Nat
  restart : Bool
  imageRestart : Bool
  kettle : Bool
  starting : Bool
  crc : Nat
  unknown : Nat
  deriving DecidableEq, Repr

/-- One end of the barrier link (R340-R345). -/
structure BEnd where
  up : Bool
  /-- last SEQ sent and last SEQ delivered in order, 0 before the first -/
  txSeq : Nat
  rxSeq : Nat
  unacked : List BFrame
  waiting : List BMsg
  /-- the HEARTBEAT sent last and not yet taken -/
  hb : Option HeartB
  /-- valid HEARTBEATs in a row, at most 3 -/
  hbRun : Nat
  /-- the last HEARTBEAT taken carried RESTART -/
  peerRestart : Bool
  /-- HEARTBEATs still to carry RESTART -/
  restartLeft : Nat
  crcErr : Nat
  unknown : Nat
  resends : Nat
  dropped : Nat
  downs : Nat
  deriving DecidableEq, Repr

/-! ## Start, inputs -/

/-- What of the host side has power (R441, R447, R448). -/
inductive HostPower where
  | off | kettleSet | all
  deriving DecidableEq, Repr

/-- A start attempt that runs (R441-R446): the step it is at, whether it began from kettle mode, and the attempt
counter and kettle cause before its step 5. -/
structure Attempt where
  step : Nat
  fromKettle : Bool
  /-- begun by the release of RESET_N, with the rails good (R451) -/
  fromReset : Bool
  counterBefore : Nat
  causeBefore : CauseWord
  /-- held at the end of step 7 for RESET_N (R454) -/
  held : Bool
  /-- the 300 s start watchdog runs (R441 step 5) -/
  watchdog : Bool
  /-- success has been reported with START_RESULT outcome 1 (R442) -/
  reported : Bool
  deriving DecidableEq, Repr

/-- Start control: field island and start controller (R441-R449). -/
structure Start where
  /-- the field island runs and has passed its self-test (R441 step 2) -/
  fieldUp : Bool
  power : HostPower
  kettle : Bool
  deepKettle : Bool
  attempt : Option Attempt
  /-- host side off for 5 s before the next attempt (R443) -/
  offWait : Bool
  /-- the next attempt waits for the cooling condition (R446) -/
  thermalWait : Bool
  /-- the converter and the host rails are down because the stores were spent (R353) -/
  spent : Bool
  /-- the window in which FORCE_START_N acts (R452): a power-on start in kettle mode, and the device time of its link up -/
  forceWindow : Bool
  forceSince : Option Nat
  /-- a KETTLE_ENTER is owed once the link is up (R447) -/
  kettleOwed : Bool
  /-- the start in progress began at power-on (R452) -/
  powerOn : Bool
  /-- a die has passed its self-test and has its rails: bits 0-3 LD0-LD3, 4 HB, 5-6 HD0-HD1 -/
  diesUp : Nat
  /-- step 12 is done: the datapath domains run -/
  datapath : Bool
  /-- engines that read STARTING (R501): page address, and the device time from which they read READY or DEGRADED -/
  starting : SMap Nat
  deriving DecidableEq, Repr

/-- A control input (R453, R454): debounced level, CHATTER, INPUT_HELD. -/
structure Pin where
  asserted : Bool
  chatter : Bool
  held : Bool
  deriving DecidableEq, Repr

/-- The four control inputs (R451). -/
structure Pins where
  resetN : Pin
  quiesceN : Pin
  inhibitTxN : Pin
  forceStartN : Pin
  deriving DecidableEq, Repr

/-- The hold-up stores (R352, R353): the energy of the internal one, pJ, and the charge of the external one, nC, at a time of the field
island. -/
structure Stores where
  int : Nat
  extQ : Nat
  time : Nat
  deriving DecidableEq, Repr

/-- The field island beside what it reports (R340-R361). -/
structure Field where
  pub : FieldPub
  keys : RoleKeys
  attempts : Tri Nat
  cause : Tri CauseWord
  caddy : Tri Nat
  lock : Tri LockWord
  ident : Tri (BitVec 64)
  /-- the bulk capacitance is charged (R352) -/
  bulk : Bool
  stores : Stores
  /-- feeds that were lost and not yet restored (FEED_CHANGE) -/
  lostA : Bool
  lostB : Bool
  /-- a replacement in progress: phase replaced, spare, reason (R357) -/
  swaps : List (Nat × Option Nat × Nat)
  /-- the bytes of the field image that is loaded (R361) -/
  img : List Byte
  /-- service level last heard from the host side -/
  hostLevel : Nat
  imgRestart : Bool
  /-- HEARTBEATs still to carry the image-restart flag (R349) -/
  imgBeats : Nat
  /-- the full reports owed at link up (R348) -/
  fullOwed : Bool
  /-- the control-input flags of the last START_RESULT stage 0x10 (R454) -/
  inputs : Nat
  deriving DecidableEq, Repr

/-- What the reports have shown last (R363, R365): which feeds are VALID, which sit at their current limit, hold-up, and the running numbers
of replacements, failures of phases and failures of images. -/
structure Shown where
  validA : Bool
  validB : Bool
  limitA : Bool
  limitB : Bool
  holdup : Bool
  spared : Nat
  failed : Nat
  imgFails : Nat
  deriving DecidableEq, Repr

/-- The hub side of the mirror pages (R346-R348, R364). -/
structure Mirror where
  /-- a report has arrived since the hub started; full reports still awaited -/
  seen : Bool
  needStatus : Bool
  needTelem : Bool
  /-- settings written and not yet reported applied: SEQ, page, offset (R347) -/
  pending : List (Nat × Nat × Nat)
  /-- image dwords gathered and bytes sent since BEGIN (R364) -/
  chunk : List Word
  imgSent : Nat
  /-- length stated in the header of the image being sent -/
  imgLen : Nat
  imgOpen : Bool
  /-- the peer announced an image restart (R349) -/
  imgWait : Bool
  /-- device time of the last report and of the last complete batch (MIRROR_AGE); phases of the last report (PHASE_VIEW) -/
  statusAt : Option Nat
  telemAt : Option Nat
  phases : List Phase
  /-- writes to the mirror pages refused while the link was down (R20, R348) -/
  refused : Nat
  /-- what the reports have shown last; none before the first report (R363) -/
  shown : Option Shown
  /-- the rail interface was reported locked; the last revocation seen (R419) -/
  railLocked : Bool
  revokeSeen : Nat
  /-- converter phases left as spares, by the last PHASE_SPARE or report (R357), and whether the slot of the field island that is not running
  holds a verified image, by the last report (R424) -/
  sparesLeft : Nat
  imgSpare : Bool
  /-- neighbour entries of the last record: words INFO, RATE, SEQ of entry n at 3 n (R421) -/
  nbrs : SMap Word
  /-- the last CYCLE_MARK, epoch, index and source, and its stamp of device time (R344, R403) -/
  mark : Nat × Nat × Nat
  markAt : Nat
  deriving DecidableEq, Repr

def BEnd.reset : BEnd :=
  { up := false, txSeq := 0, rxSeq := 0, unacked := [], waiting := [], hb := none, hbRun := 0, peerRestart := false, restartLeft := 3,
    crcErr := 0, unknown := 0, resends := 0, dropped := 0, downs := 0 }

/-- Both lockouts start unlocked with a first length of 60 s (R48). -/
def Lock.reset : Lock := { counter := 0, failRun := 0, nextLen := 60, remain := 0 }

def FeedSt.reset : FeedSt := { st := .absent, volt := 0, cur := 0, limited := false }

/-- P0-P23 working positions, P24 and P25 spares (R355); before the converter runs none carries load. -/
def phasesReset : List Phase :=
  List.replicate 24 { st := .working, temp := 0, share := 0 } ++ List.replicate 2 { st := .spare, temp := 0, share := 0 }

def FieldPub.reset : FieldPub :=
  { feedA := FeedSt.reset, feedB := FeedSt.reset, holdup := false, extStore := false, holdupTime := 0, busV := 0,
    busI := 0, conv := .off, short := false, phases := phasesReset, feedLosses := 0, phaseSwaps := 0, ovEvents := 0,
    clEvents := 0, dissent := 0, noMajority := 0, repairs := 0, cause := 0, deep := false, attempts := 0,
    hostFail := 0, hostRemain := 0, railFail := 0, railRemain := 0, railRole := 0, railPeer := 0, caddy := 0,
    residual := 0x7FFF, settings := [], lastSet := (0, 0, 0, 0), imgState := 0, imgSlot := 0, imgSpare := true, imgVersion := 0,
    serial := 0, resends := 0, downs := 0, spared := 0, failed := 0, imgFails := 0, revoked := (0, 0), permit := 0, thermRestarts := 0, thermLocked := false, cnt := [] }

def Field.reset : Field :=
  { pub := FieldPub.reset, keys := ⟨⟨0, 0, 0⟩, ⟨0, 0, 0⟩, ⟨0, 0, 0⟩⟩, attempts := ⟨0, 0, 0⟩,
    cause := ⟨⟨0, false⟩, ⟨0, false⟩, ⟨0, false⟩⟩, caddy := ⟨0, 0, 0⟩,
    lock := ⟨⟨Lock.reset, Lock.reset⟩, ⟨Lock.reset, Lock.reset⟩, ⟨Lock.reset, Lock.reset⟩⟩, ident := ⟨0, 0, 0⟩,
    bulk := false, stores := ⟨0, 0, 0⟩, lostA := false, lostB := false, swaps := [], img := [], hostLevel := 0, imgRestart := false, imgBeats := 0,
    fullOwed := false, inputs := 0 }

def Mirror.reset : Mirror :=
  { seen := false, needStatus := true, needTelem := true, pending := [], chunk := [], imgSent := 0, imgLen := 0, imgOpen := false,
    imgWait := false, statusAt := none, telemAt := none, phases := phasesReset, refused := 0, shown := none, railLocked := false, revokeSeen := 0, sparesLeft := 2, imgSpare := true, nbrs := [], mark := (0, 0, 0), markAt := 0 }

def Start.reset : Start :=
  { fieldUp := false, power := .off, kettle := false, deepKettle := false, attempt := none, offWait := false,
    thermalWait := false, spent := false, forceWindow := false, forceSince := none, kettleOwed := false, powerOn := false, diesUp := 0, datapath := false, starting := [] }

def Pin.reset : Pin := { asserted := false, chatter := false, held := false }

def Pins.reset : Pins := { resetN := Pin.reset, quiesceN := Pin.reset, inhibitTxN := Pin.reset, forceStartN := Pin.reset }

end Sys2Proof.Machine
end

