-- ==== Sys2Proof/Machine/BFrame.lean ====
section
/-! DEFINITION. What crosses the isolation barrier (R340, R341, R344): the payload of each message, the frame around it with its check
sequence, and the 8b/10b code groups that the channel carries. -/
namespace Sys2Proof.Machine

open Sys2Proof

namespace State

/-! ## Check sequence -/

/-- One bit into a CRC register of 32 bits, polynomial 0x04C11DB7 (R169, R340). -/
def crcStep (r : BitVec 32) (b : Bool) : BitVec 32 :=
  let top := r.getLsbD 31 != b
  (r <<< 1) ^^^ (if top then 0x04C11DB7 else 0)

/-- CRC-32 over bits: the register preset to all ones, the result complemented (R169, R340). -/
def frameCrc (l : List Bool) : Nat := (~~~(l.foldl crcStep 0xFFFFFFFF)).toNat

/-! ## Payloads (R344) -/

/-- A number as n bytes of two's complement, most significant first. -/
def bytesInt (n : Nat) (i : Int) : List Byte := bytesBE n (twos (8 * n) i)

/-- Code of a feed state, of a converter state and of a phase state in reports and registers (R362, R499). -/
def feedCode (f : FeedState) : Nat :=
  match f with
  | .absent => 0 | .reversed => 1 | .belowUvlo => 2 | .valid => 3 | .ovOff => 4 | .clOff => 5
def convCode (c : ConvState) : Nat :=
  match c with
  | .off => 0 | .precharge => 1 | .softStart => 2 | .running => 3 | .currentLimit => 4 | .fault => 5
def phaseCode (p : PhaseState) : Nat :=
  match p with
  | .spare => 0 | .working => 1 | .rampIn => 2 | .rampOut => 3 | .retired => 4

/-- Phases that work: in their place, or ramping. -/
def workingPhases (l : List Phase) : Nat := l.countP fun p => p.st == .working || p.st == .rampIn || p.st == .rampOut

/-- Spares not yet brought in. -/
def sparesLeft (l : List Phase) : Nat := l.countP fun p => p.st == .spare

/-- A feed in a report: voltage, current, state, and two reserved bytes. -/
def feedBytes (f : FeedSt) : List Byte := bytesBE 2 f.volt ++ bytesBE 2 f.cur ++ bytesBE 2 (feedCode f.st) ++ [0, 0]

/-- The 128 bytes of a STATUS_REPORT (R344). Inside the groups that the rule gives only by name, the order is the model's (log 97). -/
def reportBytes (p : FieldPub) : List Byte :=
  feedBytes p.feedA ++ feedBytes p.feedB
    ++ bytesBE 2 p.busV ++ bytesBE 2 p.busI ++ bytesBE 1 (convCode p.conv) ++ bytesBE 1 (workingPhases p.phases)
    ++ bytesBE 1 (sparesLeft p.phases) ++ bytesBE 1 (p.holdup.toNat + 2 * p.extStore.toNat + 4 * p.short.toNat)
    ++ bytesBE 2 p.holdupTime
    ++ bytesBE 1 p.dissent ++ bytesBE 1 p.noMajority ++ bytesBE 4 p.repairs
    ++ bytesBE 1 (p.cause + 128 * p.deep.toNat) ++ bytesBE 1 p.attempts
    ++ bytesBE 2 p.hostFail ++ bytesBE 2 p.hostRemain ++ bytesBE 1 p.railFail ++ bytesBE 1 p.railRole ++ bytesBE 2 p.railRemain
    ++ bytesInt 2 p.residual
    ++ bytesBE 2 p.lastSet.1 ++ bytesBE 2 p.lastSet.2.1 ++ bytesBE 2 p.lastSet.2.2.1 ++ bytesBE 2 p.lastSet.2.2.2
    ++ bytesBE 1 p.feedLosses ++ bytesBE 1 p.phaseSwaps ++ bytesBE 1 p.ovEvents ++ bytesBE 1 p.clEvents ++ bytesBE 2 p.resends
    ++ bytesBE 1 p.downs ++ bytesBE 1 p.thermRestarts
    ++ p.phases.flatMap (fun x => bytesInt 1 x.temp ++ bytesInt 1 x.share)
    ++ bytesBE 16 p.caddy

/-- A record of a TELEMETRY_BATCH (R344). -/
def recBytes (r : TelRec) : List Byte :=
  bytesBE 1 r.ch ++ bytesBE 1 r.flags ++ bytesInt 2 r.min ++ bytesInt 2 r.max ++ bytesInt 6 r.sum ++ bytesBE 4 r.count

/-- The payload of a message (R344). -/
def payload (m : BMsg) : List Byte :=
  match m with
  | .statusReport p => reportBytes p
  | .telemetryBatch rs _ _ _ => rs.flatMap recBytes
  | .railDeliver src svc flags data => bytesBE 2 src ++ bytesBE 1 svc ++ bytesBE 1 flags ++ data
  | .railSend dst svc flags data => bytesBE 2 dst ++ bytesBE 1 svc ++ bytesBE 1 flags ++ data
  | .proofCheck role nonce counter proof => [0] ++ bytesBE 1 role ++ bytesBE 8 nonce.toNat ++ bytesBE 4 counter.toNat
      ++ proof.flatMap fun w => bytesBE 4 w.toNat
  | .proofResult role result failRun remain counter => [0] ++ bytesBE 1 role ++ bytesBE 1 result ++ bytesBE 1 failRun
      ++ bytesBE 2 remain ++ bytesBE 4 counter.toNat
  | .startResult outcome cause level stage => bytesBE 1 outcome ++ bytesBE 1 cause ++ bytesBE 1 level ++ bytesBE 1 stage
  | .kettleEnter cause attempts => bytesBE 1 cause ++ bytesBE 1 attempts
  | .kettleClear counter => bytesBE 1 counter.toNat ++ [0]
  | .phaseSpare phase spare reason left => bytesBE 1 phase ++ bytesBE 1 spare ++ bytesBE 1 reason ++ bytesBE 1 left
  | .feedLimits feed event volt cur => bytesBE 1 feed ++ bytesBE 1 event ++ bytesBE 2 volt ++ bytesBE 2 cur
  | .thermalNotice die zone kind band temp => bytesBE 1 die ++ bytesBE 1 zone ++ bytesBE 1 kind ++ bytesBE 1 band ++ bytesInt 2 temp
  | .cycleMark epoch index source => bytesBE 2 epoch ++ bytesBE 2 index ++ bytesBE 1 source ++ [0]
  | .imageChunk off bytes => bytesBE 4 off ++ bytesBE 2 bytes.length ++ [0, 0] ++ bytes
  | .settingWrite page role off v => bytesBE 1 page ++ bytesBE 1 role ++ bytesBE 2 off ++ bytesBE 4 v.toNat ++ bytesBE 4 0

/-- The payload of a HEARTBEAT (R344), with its sender's uptime in ms. -/
def beatPayload (h : HeartB) (uptime : Nat) : List Byte :=
  bytesBE 1 h.ack ++ bytesBE 1 (h.restart.toNat + 2 * h.imageRestart.toNat + 4 * h.kettle.toNat + 8 * h.starting.toNat)
    ++ bytesBE 1 h.crc ++ bytesBE 1 h.unknown ++ bytesBE 4 uptime

/-! ## Frames (R340, R341) -/

/-- The bytes of a frame between its delimiters: TYPE, SEQ, LENGTH, the payload, and the CRC-32 over all of these. -/
def linkBytes (type seq : Nat) (pay : List Byte) : List Byte :=
  let body := bytesBE 1 type ++ bytesBE 1 seq ++ bytesBE 2 pay.length ++ pay
  body ++ bytesBE 4 (frameCrc (bitsBE body))

/-- A character of the line: a control character K or a byte. -/
structure LineChar where
  ctl : Bool
  byte : Byte
  deriving DecidableEq, Repr

/-- The comma K28.5 between frames, and the delimiters K27.7 and K29.7. -/
def comma : LineChar := ⟨true, 0xBC⟩
def openChar : LineChar := ⟨true, 0xFB⟩
def closeChar : LineChar := ⟨true, 0xFD⟩

/-- The characters of a frame, delimiters and all: at most 266 (R340). -/
def frameChars (type seq : Nat) (pay : List Byte) : List LineChar :=
  openChar :: (linkBytes type seq pay).map (⟨false, ·⟩) ++ [closeChar]

/-- What a receiver makes of the bytes between two delimiters (R341): the frame, a CRC error (none), or an unknown type. -/
inductive FrameVerdict where
  | good (type seq : Nat) (pay : List Byte)
  | crcError
  | unknownType
  deriving DecidableEq, Repr

/-- A received frame is judged (R341). -/
def judgeFrame (l : List Byte) : FrameVerdict :=
  let body := l.take (l.length - 4)
  let pay := body.drop 4
  let len := natBE ((body.drop 2).take 2)
  if l.length < 8 || natBE (l.drop (l.length - 4)) ≠ frameCrc (bitsBE body) || 256 < len || len ≠ pay.length then .crcError
  else
    let type := natBE (body.take 1)
    if type = 0 || 16 < type then .unknownType else .good type (natBE ((body.drop 1).take 1)) pay

/-- The payload of a type keeps its layout (R344): its length, the length that an IMAGE_CHUNK states, the bytes that are always 0; and it travels
in its direction, so that the side given receives it (log 120). -/
def layoutOk (side : Side) (type : Nat) (pay : List Byte) : Bool :=
  let n := pay.length
  let zero (i k : Nat) : Bool := ((pay.drop i).take k).all (· == 0)
  match type, side with
  | 1, _ => n == 8
  | 2, .hub => n == 128
  | 3, .hub => decide (16 ≤ n) && n % 16 == 0
  | 4, .hub | 5, .field => decide (4 ≤ n)
  | 6, .field => n == 46 && zero 0 1
  | 7, .hub => n == 10
  | 8, .field | 11, .hub => n == 4
  | 9, .hub => n == 2
  | 10, .field => n == 2 && zero 1 1
  | 12, .hub | 13, .field => n == 6
  | 14, .hub => n == 6 && zero 5 1
  | 15, .field => decide (8 ≤ n) && natBE ((pay.drop 4).take 2) == n - 8 && zero 6 2
  | 16, .field => n == 12 && zero 8 4
  | _, _ => false

/-- What a side makes of the bytes between two delimiters: a message whose layout is violated counts as an unknown type (R344). -/
def judgeMessage (side : Side) (l : List Byte) : FrameVerdict :=
  match judgeFrame l with
  | .good type seq pay => if layoutOk side type pay then .good type seq pay else .unknownType
  | v => v

/-! ## 8b/10b (R340: the code is named; its tables are the standard's, log 98) -/

/-- The six-bit groups abcdei of D0 to D31 at negative running disparity, and of K28. -/
def sixTable : List Nat :=
  [0b100111, 0b011101, 0b101101, 0b110001, 0b110101, 0b101001, 0b011001, 0b111000] ++
  [0b111001, 0b100101, 0b010101, 0b110100, 0b001101, 0b101100, 0b011100, 0b010111] ++
  [0b011011, 0b100011, 0b010011, 0b110010, 0b001011, 0b101010, 0b011010, 0b111010] ++
  [0b110011, 0b100110, 0b010110, 0b110110, 0b001110, 0b101110, 0b011110, 0b101011]
def sixK28 : Nat := 0b001111

/-- The four-bit groups fghj of D.0 to D.7 and of K.0 to K.7 at negative running disparity. -/
def fourTable : List Nat := [0b1011, 0b1001, 0b0101, 0b1100, 0b1101, 0b1010, 0b0110, 0b1110]
def fourK : List Nat := [0b1011, 0b0110, 0b1010, 0b1100, 0b1101, 0b0101, 0b1001, 0b0111]

/-- A group at a running disparity (true: positive): inverted at a positive one when it is unbalanced or told to be. -/
def atDisparity (w n : Nat) (pos flip : Bool) : Nat :=
  if pos && (flip || decide (2 * popCount w n ≠ w)) then 2 ^ w - 1 - n else n

/-- The running disparity after a group. -/
def disparityAfter (w n : Nat) (pos : Bool) : Bool := if 2 * popCount w n = w then pos else !pos

/-- The ten bits of a character, a first, at a running disparity, and the running disparity after it. -/
def tenBits (c : LineChar) (pos : Bool) : BitVec 10 × Bool :=
  let x := c.byte.toNat % 32
  let y := c.byte.toNat / 32
  let n6 := if c.ctl && x == 28 then sixK28 else sixTable.getD x 0
  let g6 := atDisparity 6 n6 pos (x == 7)
  let pos4 := disparityAfter 6 g6 pos
  let alt := y == 7 && (if pos4 then [11, 13, 14].contains x else [17, 18, 20].contains x)
  let n4 := if c.ctl then fourK.getD y 0 else if alt then 0b0111 else fourTable.getD y 0
  let g4 := atDisparity 4 n4 pos4 (c.ctl || y == 3)
  (BitVec.ofNat 10 (g6 * 16 + g4), disparityAfter 4 g4 pos4)

/-- The code groups of characters from a running disparity on. -/
def codeGroups (pos : Bool) : List LineChar → List (BitVec 10)
  | [] => []
  | c :: r =>
    let (g, pos) := tenBits c pos
    g :: codeGroups pos r

/-- The code groups of a frame that a side sends. The commas before it, whose number the spec leaves open, set the running disparity at
which it begins: a free value. -/
def frameCode (time : BitVec 64) (type seq : Nat) (pay : List Byte) : List (BitVec 10) :=
  codeGroups (Config.disparity time.toNat seq) (frameChars type seq pay)

end State
end Sys2Proof.Machine
end

