-- ==== Sys2Proof/Machine/CadState.lean ====
section
/-! DEFINITION. State of the caddy: laser procedures, firmware banks, ledger and projections (R424-R440). -/
namespace Sys2Proof.Machine

/-- A laser procedure asked for (R428-R431): carrier, mode (0 automatic, 1 direct, 2 drained), return to the own laser,
whether a LASER_FAULT started it, whether firmware policy did. -/
structure LaserReq where
  k : Fin 16
  mode : Nat
  ret : Bool
  fault : Bool
  auto : Bool
  deriving DecidableEq, Repr

/-- A firmware bank (R432): verified image present, version word. -/
structure FwBank where
  valid : Bool
  version : Word
  deriving DecidableEq, Repr

/-- A ledger entry (R435). -/
structure LedgerRec where
  pool : Nat
  unit : Nat
  reason : Nat
  hour : Nat
  deriving DecidableEq, Repr

/-- The caddy. -/
structure Cad where
  queue : List LaserReq
  cur : Option LaserReq
  /-- the host wrote DRAIN, FORCE_RDI or LASER_SEL of the carrier; ABORT was written (R431) -/
  touched : Bool
  /-- FAR_WAIT has passed since the procedure's step 1 (R429) -/
  farPassed : Bool
  bank0 : FwBank
  bank1 : FwBank
  /-- bank that firmware runs from; none while neither runs -/
  running : Option Bool
  preferred : Bool
  /-- the bytes received of an image (R432) -/
  fwImg : List Byte
  ledger : List LedgerRec
  /-- samples of BIAS_PCT of the lasers in use, newest first: hour and carriers 0-15 -/
  bias : List (Nat × List Nat)
  /-- hours of history in the ledger -/
  history : Nat
  /-- pools 0 and 1: tiles and spare rows of the module, from fuses (R424) -/
  tiles : Nat
  sramRows : Nat
  /-- pools 0 and 1: spares used -/
  cells : Nat
  rows : Nat
  /-- projections of R436 and consumption in the window, by pool -/
  days : List Nat
  window : List Nat
  warn : Nat
  /-- the bank that is not running is being erased (R432) -/
  erasing : Bool
  /-- device times of the last corrected errors of an SRAM row, and rows due for replacement (R427) -/
  rowHits : SMap (List Nat)
  /-- the last boot found no bank that runs (R434) -/
  noBank : Bool
  /-- tiles that have lost a further cell: page address and kind (R426); what is withdrawn for them never comes back -/
  losses : List (Nat × TileKind)
  rowsDue : List Nat
  deriving DecidableEq, Repr

def Cad.reset : Cad :=
  { queue := [], cur := none, touched := false, farPassed := false, bank0 := ⟨true, 0x02040001⟩,
    bank1 := ⟨true, 0x02040001⟩, running := none, preferred := false, fwImg := [], ledger := [], bias := [],
    history := 0, tiles := 65536, sramRows := 65536, cells := 0, rows := 0, days := List.replicate 16 0xFFFF, window := List.replicate 16 0, warn := 0,
    erasing := false, rowHits := [], noBank := false, losses := [], rowsDue := [] }

end Sys2Proof.Machine
end

