-- ==== Sys2Proof/Machine/Line.lean ====
section
/-! DEFINITION. The symbols of a carrier: distribution matchers (R72, R73), mapping and pilots (R74, R75, R126), the subcarrier plan
(R76), pulse shaping, mask, power and pre-emphasis (R77-R80), and the soft values of a receiver (R110). -/
namespace Sys2Proof.Machine

open Sys2Proof

/-! ## Distribution matcher (R72, R73) -/

/-- The entropy of a code, in eighths of a bit for a symbol of a polarization (R72). -/
def entropy (code : Nat) : Nat := 16 + code

/-- The amplitude part of a quadrature, in sixteenths of a bit: half the entropy less the sign bit (R72). -/
def amplitudePart (code : Nat) : Nat := entropy code - 16

/-- The amplitudes of a quadrature. -/
def amplitudes : List Nat := [1, 3, 5, 7, 9, 11, 13, 15]

/-- Amplitudes in a block of the matcher. -/
def blockLen : Nat := 128

def factorial : Nat → Nat
  | 0 => 1
  | n + 1 => (n + 1) * factorial n

/-- The sequences that have a composition: its multinomial coefficient. -/
def arrangements (ns : List Nat) : Nat := factorial ns.sum / (ns.map factorial).prod

/-- The total energy of a composition. -/
def blockEnergy (ns : List Nat) : Nat := (List.zipWith (fun n a => n * a * a) ns amplitudes).sum

/-- The count vectors of a length that do not increase, none above a cap, of a given sum; the one that is larger from the front on
comes first. -/
def compositions : Nat → Nat → Nat → List (List Nat)
  | 0, n, _ => if n = 0 then [[]] else []
  | m + 1, n, cap => (List.range (min n cap + 1)).reverse.flatMap fun x => (compositions m (n - x) x).map (x :: ·)

/-- The first composition of least energy. -/
def leastEnergy (l : List (List Nat)) : List Nat :=
  l.foldl (fun best x => if best = [] || blockEnergy x < blockEnergy best then x else best) []

/-- The composition of a code (R73): of those with room for 8 x code bits the one of least energy, ties to the larger vector. At
code 0 every amplitude is 1. -/
def composition (code : Nat) : List Nat :=
  if code = 0 then blockLen :: List.replicate 7 0
  else leastEnergy ((compositions 8 blockLen blockLen).filter fun ns => decide (2 ^ (8 * code) ≤ arrangements ns))

/-- The amplitude at the front of the m-th sequence of a composition, with the rest of the composition and of m. -/
def firstAmplitude (ns : List Nat) (m : Nat) : Nat × List Nat × Nat :=
  let pick := (List.range ns.length).foldl (fun (a : Option Nat × Nat) i =>
    match a.1 with
    | some _ => a
    | none =>
      let n := if ns.getD i 0 = 0 then 0 else arrangements (ns.set i (ns.getD i 0 - 1))
      if a.2 < n then (some i, a.2) else (none, a.2 - n)) (none, m)
  match pick.1 with
  | some i => (amplitudes.getD i 0, ns.set i (ns.getD i 0 - 1), pick.2)
  | none => (0, ns, pick.2)

/-- The m-th sequence of n amplitudes of a composition, from 0, in ascending lexicographic order (R73). -/
def sequenceAt (ns : List Nat) (m : Nat) : Nat → List Nat
  | 0 => []
  | n + 1 =>
    let (a, ns, m) := firstAmplitude ns m
    a :: sequenceAt ns m n

/-- A matcher's block: its 8 x code input bits, the first most significant, select the sequence (R73). -/
def matchBlock (code : Nat) (bits : List Bool) : List Nat :=
  if code = 0 then List.replicate blockLen 1 else sequenceAt (composition code) (natBits bits) blockLen

/-! ## Symbols and pilots (R74, R75, R126) -/

/-- A constellation point: (i + j q) divided by the square root of norm / 64. -/
structure Point where
  i : Int
  q : Int
  norm : Nat
  deriving DecidableEq, Repr

/-- Nothing is sent. -/
def Point.zero : Point := ⟨0, 0, 64⟩

/-- The fixed divisor of a code's points: their mean energy for a polarization is 1 (R74). -/
def scaleOf (code : Nat) : Nat := blockEnergy (composition code)

/-- A QPSK point of energy 1, from its two sign bits, 0 giving + (R75). -/
def qpsk (a b : Bool) : Point := ⟨if a then -1 else 1, if b then -1 else 1, 128⟩

/-- The generator x^15 + x^14 + 1: an output bit, and the register after it. The bit fed back is the one sent, and the seed's bit 14 is the
oldest stage (the model's choice, log 100). -/
def prbs15 (r : BitVec 15) : Bool × BitVec 15 :=
  let b := r.getLsbD 14 != r.getLsbD 13
  (b, (r <<< 1) ||| (if b then 1 else 0))

/-- The generator of PRBS-31, x^31 + x^28 + 1 (TX_TEST). -/
def prbs31 (r : BitVec 31) : Bool × BitVec 31 :=
  let b := r.getLsbD 30 != r.getLsbD 27
  (b, (r <<< 1) ||| (if b then 1 else 0))

/-- The point of two successive bits of a generator. -/
def pointOf {w : Nat} (g : BitVec w → Bool × BitVec w) (r : BitVec w) : Point × BitVec w :=
  let (a, r) := g r
  let (b, r) := g r
  (qpsk a b, r)

/-- The seeds at a frame start of the pilots (R75) and of a probe's data (R126): subcarrier, polarization. -/
def pilotSeed (sc pol : Nat) : BitVec 15 := BitVec.ofNat 15 (0x100 * (sc + 1) + 0x80 * pol + 1)
def probeSeed (sc pol : Nat) : BitVec 15 := BitVec.ofNat 15 (0x4000 + 0x100 * sc + 0x80 * pol + 1)

/-- Symbol periods of a frame (R75). -/
def symbolsPerFrame : Nat := 148480

/-- D of a pilot density: the spacing of the pilots (R75). -/
def densD (d : Nat) : Nat := if d = 0 then 16 else if d = 1 then 32 else 64

/-- What a subcarrier sends: nothing, a probe, a PRBS-31 test signal, or the data of a code with its divisor. -/
inductive ScKind where
  | off
  | probe
  | test
  | data (code scale : Nat)
  /-- the data of a code whose composition is lost: no level -/
  | lost (code : Nat)
  deriving DecidableEq, Repr

/-- The kind of a subcarrier whose map holds a code (R74, R126). -/
def ScKind.ofCode (code : Nat) : ScKind :=
  if code ≤ 36 then .data code (scaleOf code) else if code = 0x3E then .probe else .off

/-- What the mapping stage holds from frame to frame: payload and parity bits of the inner code not yet placed, and of each subcarrier
the amplitudes of the matcher block in progress. -/
structure Mapper where
  payload : List Bool
  parity : List Bool
  amps : List (List Nat)
  deriving DecidableEq, Repr

def Mapper.empty : Mapper := { payload := [], parity := [], amps := List.replicate 8 [] }

/-- The next n payload bits; what the stream lacks before the first codewords of an encoder that starts is a free value. -/
def Mapper.pull (m : Mapper) (n : Nat) : List Bool × Mapper :=
  let l := m.payload.take n
  (l ++ (List.range (n - l.length)).map Config.lineFill, { m with payload := m.payload.drop n })

/-- The next amplitude of a subcarrier: of the block in progress, or of a new one (R73, R74). -/
def Mapper.amp (m : Mapper) (sc code : Nat) : Nat × Mapper :=
  match m.amps.getD sc [] with
  | a :: r => (a, { m with amps := m.amps.set sc r })
  | [] =>
    let (bits, m) := m.pull (8 * code)
    match matchBlock code bits with
    | a :: r => (a, { m with amps := m.amps.set sc r })
    | [] => (1, m)

/-- The next sign bit: of the parity first, then of the payload (R74). -/
def Mapper.sign (m : Mapper) : Bool × Mapper :=
  match m.parity with
  | b :: r => (b, { m with parity := r })
  | [] => let (l, m) := m.pull 1; (l.getD 0 false, m)

/-- The next level of a quadrature: a sign bit of 0 gives a positive level (R74). -/
def Mapper.level (m : Mapper) (sc code : Nat) : Int × Mapper :=
  let (a, m) := m.amp sc code
  let (b, m) := m.sign
  (if b then -(a : Int) else (a : Int), m)

/-- A data symbol, in the order XI, XQ, YI, YQ (R74). -/
def Mapper.symbol (m : Mapper) (sc code scale : Nat) : (Point × Point) × Mapper :=
  let (xi, m) := m.level sc code
  let (xq, m) := m.level sc code
  let (yi, m) := m.level sc code
  let (yq, m) := m.level sc code
  ((⟨xi, xq, scale⟩, ⟨yi, yq, scale⟩), m)

/-- The generators of a subcarrier in a frame, X and Y: pilots, probe data, test data. -/
structure Gens where
  pilot : BitVec 15 × BitVec 15
  probe : BitVec 15 × BitVec 15
  test : BitVec 31 × BitVec 31
  deriving DecidableEq, Repr

/-- The generators at a frame start. -/
def Gens.start (sc : Nat) (test : BitVec 31 × BitVec 31) : Gens :=
  { pilot := (pilotSeed sc 0, pilotSeed sc 1), probe := (probeSeed sc 0, probeSeed sc 1), test := test }

/-- Two points, of X and of Y. -/
def pairOf {w : Nat} (g : BitVec w → Bool × BitVec w) (r : BitVec w × BitVec w) : (Point × Point) × (BitVec w × BitVec w) :=
  let (x, a) := pointOf g r.1
  let (y, b) := pointOf g r.2
  ((x, y), (a, b))

/-- The symbol of a subcarrier at an index of the frame: a pilot where the spacing divides the index, else what its kind sends. -/
def symbolAt (spacing j sc : Nat) (kind : ScKind) (g : Gens) (m : Mapper) : (Point × Point) × Gens × Mapper :=
  match kind with
  | .off => ((Point.zero, Point.zero), g, m)
  | kind =>
    if j % spacing = 0 then let (x, r) := pairOf prbs15 g.pilot; (x, { g with pilot := r }, m)
    else match kind with
      | .data code scale => let (x, m) := m.symbol sc code scale; (x, g, m)
      | .lost code => let (_, m) := m.symbol sc code 64; ((Point.zero, Point.zero), g, m)
      | .probe => let (x, r) := pairOf prbs15 g.probe; (x, { g with probe := r }, m)
      | _ => let (x, r) := pairOf prbs31 g.test; (x, { g with test := r }, m)

/-- One symbol period: the eight subcarriers in turn, each drawing from the one coded stream (the model's choice, log 100). -/
def symbolPeriod (spacing j : Nat) (kinds : List ScKind) (st : List (List (Point × Point) × Gens) × Mapper) :
    List (List (Point × Point) × Gens) × Mapper :=
  (List.zip (List.zip (List.range 8) kinds) st.1).foldl (fun acc x =>
    let (p, g, m) := symbolAt spacing j x.1.1 x.1.2 x.2.2 acc.2
    (acc.1 ++ [(p :: x.2.1, g)], m)) ([], st.2)

/-- The symbols of a frame, subcarrier by subcarrier, X and Y, with the test generators and the mapper after it. -/
def frameSymbols (spacing : Nat) (kinds : List ScKind) (test : List (BitVec 31 × BitVec 31)) (m : Mapper) :
    List (List (Point × Point)) × List (BitVec 31 × BitVec 31) × Mapper :=
  let start := (List.range 8).map fun sc => (([] : List (Point × Point)), Gens.start sc (test.getD sc (1, 1)))
  let (l, m) := (List.range symbolsPerFrame).foldl (fun st j => symbolPeriod spacing j kinds st) (start, m)
  (l.map fun x => x.1.reverse, l.map fun x => x.2.test, m)

/-- A level of uniform 16-QAM, and the point of two (R75): the mean energy of a polarization is 1. -/
def zrLevel (b : BitVec 2) : Int := 2 * (b.toNat : Int) - 3
def zrPoint (i q : BitVec 2) : Point := ⟨zrLevel i, zrLevel q, 640⟩

/-- The symbols of the 800ZR agreement, X and Y, from their levels XI, XQ, YI, YQ. -/
def zrPoints (l : List (BitVec 2 × BitVec 2 × BitVec 2 × BitVec 2)) : List (Point × Point) :=
  l.map fun x => (zrPoint x.1 x.2.1, zrPoint x.2.2.1 x.2.2.2)

/-- Spectral inversion negates Q on both polarizations (TX_CTRL.SPEC_INV). -/
def Point.conj (p : Point) : Point := { p with q := -p.q }

/-! ## Subcarrier plan, pulse shaping, tilt, mask, power (R76-R79) -/

/-- The offset of a subcarrier from the carrier's centre, in 1/256 GHz: (n - 3.5) x 37.5 GHz (R76). -/
def scOffset (n : Nat) : Int := (2 * (n : Int) - 7) * 4800

/-- The width of the slot, 312.5 GHz, and of the eight subcarriers, 300 GHz, in 1/256 GHz; what they leave on each side (R76). -/
def slotWidth : Int := 80000
def occupied : Int := 8 * 9600
def slotGuard : Int := (slotWidth - occupied) / 2

/-- The centre frequency of a subcarrier in 1/256 GHz: 193.100 THz + GRID_N x 6.25 GHz, and its offset (R76, R83). -/
def scCentre (gridN : Int) (n : Nat) : Int := 193100 * 256 + gridN * 1600 + scOffset n

/-- A quadrature's samples: what data symbols add, in units of their scale, and what pilots, probes and test symbols add, in units of
one over the square root of 2. -/
abbrev Sample := Int × Int

/-- A quadrature of a symbol as a sample. -/
def sampleOf (v : Int) (norm : Nat) : Sample := if norm = 128 then (0, v) else (v, 0)

/-- Pi to fifteen places, and the sine and the cosine of x times pi: the argument brought to half a turn either side of 0, then the series. -/
def piQ : ℚ := 3141592653589793 / 10 ^ 15
def sinPi (x : ℚ) : ℚ :=
  let z := piQ * (x - 2 * ⌊(x + 1) / 2⌋)
  ((List.range 20).foldl (fun (a : ℚ × ℚ) i =>
    (a.1 + a.2, -(a.2 * z * z) / (((2 * i + 2) * (2 * i + 3) : Nat) : ℚ))) (0, z)).1
def cosPi (x : ℚ) : ℚ := sinPi (x + 1 / 2)

/-- The root-raised-cosine response of roll-off 1/32 at a time other than 0 in symbol periods (R77). -/
def rrc (t : ℚ) : ℚ :=
  (sinPi (t * (31 / 32)) + t / 8 * cosPi (t * (33 / 32))) / (piQ * t * (1 - (t / 8) ^ 2))

/-- A tap of that response at 2 samples for each symbol, centred between taps 31 and 32 (the model's choice, log 116). -/
def rrcTap (i : Nat) : BitVec 16 := BitVec.ofInt 16 ⌊Config.rrcScale * rrc ((2 * (i : ℚ) - 63) / 4) + 1 / 2⌋

/-- A real FIR filter at 2 samples for each symbol (R77): output m is the sum of tap t times input m - t. -/
def pulseFilter (taps : List Int) (xs : List Sample) : List Sample :=
  (List.range (2 * xs.length)).map fun m =>
    (List.range taps.length).foldl (fun a t =>
      if t ≤ m && (m - t) % 2 = 0 then
        let x := xs.getD ((m - t) / 2) (0, 0)
        (a.1 + taps.getD t 0 * x.1, a.2 + taps.getD t 0 * x.2)
      else a) (0, 0)

/-- The four quadratures of a subcarrier's symbols: XI, XQ, YI, YQ. -/
def quadratures (l : List (Point × Point)) : List (List Sample) :=
  [l.map fun x => sampleOf x.1.i x.1.norm, l.map fun x => sampleOf x.1.q x.1.norm, l.map fun x => sampleOf x.2.i x.2.norm,
    l.map fun x => sampleOf x.2.q x.2.norm]

/-- The norm of a subcarrier's data symbols: that of pilots, probes and test symbols, 128, where it has none (R74). -/
def dataNorm (l : List (Point × Point)) : Nat :=
  l.foldl (fun a x => if x.1.norm = 128 || x.1 = Point.zero then a else x.1.norm) 128

/-- The attenuation of the mask at a frequency in 1/256 GHz from the centre, in dB (R79): points 1250 apart, linear between them, held
beyond the outermost. -/
def maskAt (codes : List Nat) (f : Int) : ℚ :=
  let x := max 0 (min (63 * 1250) (f + 39375))
  let i := (x / 1250).toNat
  let r := x % 1250
  ((codes.getD i 0 * (1250 - r) + codes.getD (min 63 (i + 1)) 0 * r : Int) : ℚ) / (1250 * 8)

/-- The gain of a subcarrier's stretch of the slot, in dB: tilt and mask multiply (R79). -/
def gainAt (tilt : Int) (codes : List Nat) (f : Int) : ℚ := tilt / 10 - maskAt codes f

/-- The linear weight of a gain in dB, a whole number of 1/10,000 dB, to 32 binary places. -/
def gainWeight (q : ℚ) : Nat := Nat.nthRoot 100000 (10 ^ (⌊q * 10000⌋ + 400000).toNat * 2 ^ 3200000 / 10 ^ 400000)

/-- What tilt and mask let through over a subcarrier's 37.5 GHz, its spectrum taken as flat (the model's choice, log 116). -/
def bandWeight (tilt : Int) (codes : List Nat) (n : Nat) : Nat :=
  ((List.range 9600).map fun i => gainWeight (gainAt tilt codes (scOffset n - 4800 + i))).sum

/-- The share of the total output power, held at the setpoint, that each subcarrier takes under its tilt and the mask; one that is off takes
none (R78, R79). -/
def powerShare (on : List Bool) (tilts : List Int) (codes : List Nat) (n : Nat) : ℚ :=
  let w (i : Nat) : Nat := if on.getD i false then bandWeight (tilts.getD i 0) codes i else 0
  let sum := ((List.range 8).map w).sum
  if sum = 0 then 0 else (w n : ℚ) / sum

/-! ## Pre-emphasis and converters (R80) -/

/-- The pre-emphasis FIR of a DAC at its own rate. -/
def emphasis (taps : List Int) (xs : List Int) : List Int :=
  (List.range xs.length).map fun m =>
    (List.range taps.length).foldl (fun a t => if t ≤ m then a + taps.getD t 0 * xs.getD (m - t) 0 else a) 0

/-- A sample clipped to full scale. -/
def clip (full : Int) (x : Int) : Int := max (-full) (min full x)

/-- The samples that clip. -/
def clipped (full : Int) (xs : List Int) : Nat := xs.countP fun x => decide (clip full x ≠ x)

/-! ## Soft values (R110) -/

/-- The partial sum of the exponential series, 80 terms: exact beyond any ratio of counts that a demapper forms. -/
def expSum (x : ℚ) : ℚ := ((List.range 80).foldl (fun (a : ℚ × ℚ) i => (a.1 + a.2, a.2 * x / (i + 1 : Nat))) (0, 1)).1

/-- The largest n up to 15 with 2 ln (p / q) at least n - 1/2, for p not below q. -/
def softMag (p q : Nat) : Nat :=
  if q = 0 then (if p = 0 then 0 else 15)
  else (List.range 15).countP fun n => decide (expSum ((2 * n + 1 : Nat) / 4) * q < p)

/-- A soft value (R110): the rounding of 2 ln (P(0) / P(1)), saturated at -15 and +15. -/
def softValue (p0 p1 : Nat) : Int := if p1 ≤ p0 then softMag p0 p1 else -(softMag p1 p0 : Int)

/-- The likelihood of a received quadrature, in 1/64 of the level of amplitude 1, for a level; one that is erased favours none. -/
def likelihood (var : Nat) (y : Option Int) (level : Int) : Nat :=
  match y with
  | some y => Config.noise var (y - 64 * level)
  | none => 1

/-- The soft value of a sign bit, with the amplitude probabilities of a composition. -/
def softSign (ns : List Nat) (var : Nat) (y : Option Int) : Int :=
  let p (sign : Int) : Nat := (List.zipWith (fun n a => n * likelihood var y (sign * (a : Nat))) ns amplitudes).sum
  softValue (p 1) (p (-1))

/-- The amplitudes of uniform 16-QAM, as a composition (R112). -/
def uniform16 : List Nat := [1, 1]

/-- The soft value of the amplitude bit of a uniform 16-QAM quadrature (R112). -/
def softOuter (var : Nat) (y : Option Int) : Int :=
  let p (a : Int) : Nat := likelihood var y a + likelihood var y (-a)
  if Config.zrInner then softValue (p 1) (p 3) else softValue (p 3) (p 1)

/-- The likelihood of a block of quadratures for a sequence of amplitudes, either sign of each. -/
def blockLikelihood (var : Nat) (ys : List (Option Int)) (as : List Nat) : Nat :=
  (List.zipWith (fun y (a : Nat) => likelihood var y a + likelihood var y (-(a : Int))) ys as).prod

/-- The soft values of the 8 x code bits that a matcher block took in: of each bit, the sequences that hold 0 there against those that
hold 1. -/
def softBlock (code var : Nat) (ys : List (Option Int)) : List Int :=
  let p (i : Nat) (b : Bool) : Nat :=
    (((List.range (2 ^ (8 * code))).filter fun m => m.testBit (8 * code - 1 - i) == b).map fun m =>
      blockLikelihood var ys (sequenceAt (composition code) m blockLen)).sum
  (List.range (8 * code)).map fun i => softValue (p i false) (p i true)

/-- The quadratures of a subcarrier's matcher block in progress with more of them: the soft values of the blocks that they complete, and
what is left. A matcher block with an erased quadrature gives zeros: no value of an erased symbol is other than 0 (R104, R109, R115). -/
def softBlocks (code var : Nat) : List (Option Int) → Nat → List Int × List (Option Int)
  | l, 0 => ([], l)
  | l, n + 1 =>
    if l.length < blockLen then ([], l)
    else
      let (r, rest) := softBlocks code var (l.drop blockLen) n
      let b := l.take blockLen
      ((if b.all Option.isSome then softBlock code var b else List.replicate (8 * code) 0) ++ r, rest)

end Sys2Proof.Machine
end

