-- ==== Sys2Proof/Machine/Fec.lean ====
section
/-! DEFINITION. The native code of a carrier (R149-R156): the staircase code and its component code, the quasi-cyclic inner code, their
encoders, the layered decoder of the inner code, the windowed decoder of the outer code. -/
namespace Sys2Proof.Machine

open Sys2Proof

/-- Two bit lists added. -/
def addBits (a b : List Bool) : List Bool := List.zipWith (fun x y => x != y) a b

/-! ## Component code of the staircase code (R149) -/

/-- Rows and columns of a staircase block; information and check bits of a component codeword's new half. -/
def stairSide : Nat := 464
def stairInfo : Nat := 442
def stairCheck : Nat := 22

/-- Bits of a staircase block, and the information bits in it. -/
def blockBits : Nat := stairSide * stairSide
def blockInfo : Nat := stairSide * stairInfo

/-- In the field of 2^11 elements whose polynomial is x^11 + f: an element times x, a product, a power. -/
def fieldX (f a : BitVec 11) : BitVec 11 := (a <<< 1) ^^^ (if a.getLsbD 10 then f else 0)
def fieldMul (f a b : BitVec 11) : BitVec 11 :=
  (List.range 11).foldl (fun z i => fieldX f z ^^^ (if b.getLsbD (10 - i) then a else 0)) 0
def fieldPow (f a : BitVec 11) : Nat → BitVec 11
  | 0 => 1
  | n + 1 => fieldMul f a (fieldPow f a n)

/-- x^11 + f is primitive: x has the order 2,047 = 23 x 89. -/
def primitive (f : BitVec 11) : Bool :=
  let p (n : Nat) : BitVec 11 := (fieldX f)^[n] 1
  p 2047 == 1 && p 23 != 1 && p 89 != 1

/-- The primitive polynomials of degree 11, and the one that makes the field (Config.bchField). -/
def primitives : List (BitVec 11) := ((List.range 2048).map (BitVec.ofNat 11)).filter primitive
def bchPoly : BitVec 11 := primitives.getD (Config.bchField % primitives.length) 5

/-- The polynomial x^11 + g of which the cube of x is a root. -/
def cubePoly (f : BitVec 11) : BitVec 11 :=
  let c := fieldPow f (fieldX f 1) 3
  ((List.range 2048).map (BitVec.ofNat 11)).find? (fun g =>
    (List.range 11).foldl (fun a i => if g.getLsbD i then a ^^^ fieldPow f c i else a) (fieldPow f c 11) == 0) |>.getD 0

/-- The generator of the component code less its leading term: x and its cube are its roots, so that 2 errors are corrected (R149; PRESUMED from
the definition of a BCH code, log 117). -/
def bchGen : BitVec 22 :=
  let a := (0x800#23 ||| bchPoly.setWidth 23)
  let g := (0x800#23 ||| (cubePoly bchPoly).setWidth 23)
  ((List.range 12).foldl (fun z i => if g.getLsbD i then z ^^^ (a <<< i) else z) 0).setWidth 22

/-- One bit into the division by the generator of the component code. -/
def bchStep (r : BitVec 22) (b : Bool) : BitVec 22 :=
  let top := r.getLsbD 21 != b
  (r <<< 1) ^^^ (if top then bchGen else 0)

/-- The remainder of bits, which for a codeword of 928 bits is 0 and for its first 906 bits gives the check bits. -/
def bchRemainder (l : List Bool) : BitVec 22 := l.foldl bchStep 0

/-- A row of a new block: the information bits and the check bits over the column of the block before and them. -/
def stairRow (before info : List Bool) : List Bool := info ++ bitsOf stairCheck (bchRemainder (before ++ info)).toNat

/-- A list cut into n pieces of a length. -/
def pieces (len : Nat) : Nat → List Bool → List (List Bool)
  | 0, _ => []
  | n + 1, l => l.take len :: pieces len n (l.drop len)

/-- The block that follows a block of the staircase, from its information bits. -/
def stairBlock (before : List (List Bool)) (info : List Bool) : List (List Bool) :=
  List.zipWith stairRow before.transpose (pieces stairInfo stairSide info)

/-- The all-zero block with which a staircase begins. -/
def stairZero : List (List Bool) := List.replicate stairSide (List.replicate stairSide false)

/-- The information bits of a block. -/
def blockInfoBits (b : List (List Bool)) : List Bool := b.flatMap fun r => r.take stairInfo

/-- A list in another order: at each place, one of the elements that are left is taken. -/
def reorder (pick : Nat → Nat) : List Nat → Nat → List Nat
  | _, 0 => []
  | l, n + 1 =>
    let i := pick n % l.length
    l.getD i 0 :: reorder pick (l.eraseIdx i) n

/-- The order in which the inner codewords carry the bits of a block: every bit once (log 117). -/
def blockOrder : List Nat := reorder Config.interleavePick (List.range blockBits) blockBits

/-- A block's bits in the order in which the inner codewords carry them, and back. -/
def interleave (l : List Bool) : List Bool := blockOrder.map fun i => l.getD i false
def deinterleave (l : List Bool) : List Bool :=
  (List.range blockBits).map fun i => l.getD (blockOrder.findIdx (· == i)) false

/-! ## Inner code (R149) -/

/-- Size of a circulant; block rows; block columns of the information part; information and check bits of a codeword. -/
def circ : Nat := 160
def baseRows : Nat := 18
def infoCols : Nat := 203
def innerInfo : Nat := infoCols * circ
def innerChecks : Nat := baseRows * circ
def innerLen : Nat := innerInfo + innerChecks

/-- The three block rows in which a block column of the information part has a circulant: no two the same (R149). -/
def ldpcRow (c : Nat) (w : Fin 3) : Nat :=
  let (a, b, d) := Config.ldpcPick c
  let l := List.range baseRows
  let l1 := l.eraseIdx a.val
  let l2 := l1.eraseIdx b.val
  [l.getD a.val 0, l1.getD b.val 0, l2.getD d.val 0].getD w.val 0

/-- A circulant's bits turned by a shift. -/
def turned (l : List Bool) (n : Nat) : List Bool := l.drop n ++ l.take n

/-- What the information part adds to the 18 block rows of checks: each block column has three circulants. -/
def infoChecks (info : List Bool) : List (List Bool) :=
  (List.zip (List.range infoCols) (pieces circ infoCols info)).foldl (fun rows x =>
    (List.finRange 3).foldl (fun rows w =>
      let r := ldpcRow x.1 w
      rows.set r (addBits (rows.getD r []) (turned x.2 (Config.ldpcShift x.1 w).val))) rows)
    (List.replicate baseRows (List.replicate circ false))

/-- The parity of the dual-diagonal part: each block row ties its own parity block to the one before. -/
def innerParity (info : List Bool) : List Bool :=
  ((infoChecks info).foldl (fun (a : List Bool × List Bool) r =>
    let p := addBits a.2 r
    (a.1 ++ p, p)) ([], List.replicate circ false)).1

/-- The checks that bits of a codeword leave unsatisfied, as bits. -/
def syndrome (l : List Bool) : List Bool :=
  let par := pieces circ baseRows (l.drop innerInfo)
  let zero := List.replicate circ false
  (List.zipWith addBits (List.zipWith addBits (infoChecks (l.take innerInfo)) par) (zero :: par)).flatten

/-- How many checks are unsatisfied. -/
def unsatisfied (l : List Bool) : Nat := (syndrome l).countP id

/-! ## The encoder -/

/-- The encoder of a carrier: information bits that do not yet fill a block, the last block, its bits that do not yet fill an inner
codeword, and the mapping stage. -/
structure Coder where
  info : List Bool
  block : List (List Bool)
  bits : List Bool
  map : Mapper
  deriving DecidableEq, Repr

def Coder.empty : Coder := { info := [], block := stairZero, bits := [], map := Mapper.empty }

/-- A staircase block is built while enough information bits wait; n bounds the blocks of one call. -/
def Coder.blocks (c : Coder) : Nat → Coder
  | 0 => c
  | n + 1 =>
    if c.info.length < blockInfo then c
    else
      let b := stairBlock c.block (c.info.take blockInfo)
      Coder.blocks { c with info := c.info.drop blockInfo, block := b, bits := c.bits ++ interleave b.flatten } n

/-- An inner codeword is built while enough bits wait; its parity goes to sign positions (R74, R149). -/
def Coder.codewords (c : Coder) : Nat → Coder
  | 0 => c
  | n + 1 =>
    if c.bits.length < innerInfo then c
    else
      let x := c.bits.take innerInfo
      Coder.codewords { c with
        bits := c.bits.drop innerInfo
        map := { c.map with payload := c.map.payload ++ x, parity := c.map.parity ++ innerParity x } } n

/-- The bits of a frame go into the encoder. -/
def Coder.take (c : Coder) (frame : List Bool) : Coder :=
  let c := { c with info := c.info ++ frame }
  let c := c.blocks (c.info.length / blockInfo)
  c.codewords (c.bits.length / innerInfo)

/-! ## Inner decoder (R149, R152, R156) -/

/-- The places that check i of block row r ties together. -/
def checkPlaces (r i : Nat) : List Nat :=
  let info := (List.range infoCols).flatMap fun c => (List.finRange 3).filterMap fun w =>
    if ldpcRow c w = r then some (circ * c + (i + (Config.ldpcShift c w).val) % circ) else none
  info ++ [innerInfo + circ * r + i] ++ (if r = 0 then [] else [innerInfo + circ * (r - 1) + i])

/-- What an iteration leaves: the values of the bits, and the messages of each check. -/
structure Beliefs where
  bits : List ℚ
  msgs : List (List ℚ)
  deriving DecidableEq, Repr

/-- The beliefs with which decoding starts, or starts again: the soft values. -/
def Beliefs.start (soft : List Int) : Beliefs := { bits := soft.map fun (x : Int) => (x : ℚ), msgs := [] }

/-- The normalized min-sum message to each member of a check: 0.75 of the least magnitude of the others, with the sign of their product. -/
def minSum (qs : List ℚ) : List ℚ :=
  (List.range qs.length).map fun i =>
    let rest := qs.eraseIdx i
    let mag := match rest with
      | [] => 0
      | x :: l => l.foldl (fun a y => min a |y|) |x|
    let neg := rest.countP fun x => decide (x < 0)
    3 / 4 * (if neg % 2 = 0 then mag else -mag)

/-- One check of a layer. -/
def Beliefs.check (b : Beliefs) (r i : Nat) : Beliefs :=
  let at' := checkPlaces r i
  let old := b.msgs.getD (circ * r + i) []
  let qs := (List.zip (List.range at'.length) at').map fun x => b.bits.getD x.2 0 - old.getD x.1 0
  let new := minSum qs
  let bits := (List.zip at' (List.zipWith (· + ·) qs new)).foldl (fun l x => l.set x.1 x.2) b.bits
  let msgs := b.msgs ++ List.replicate (circ * r + i + 1 - b.msgs.length) []
  { bits := bits, msgs := msgs.set (circ * r + i) new }

/-- One iteration: 18 layers (R152 text). -/
def Beliefs.iterate (b : Beliefs) : Beliefs :=
  (List.range baseRows).foldl (fun b r => (List.range circ).foldl (fun b i => b.check r i) b) b

/-- The hard decisions, taken by sign. -/
def Beliefs.hard (b : Beliefs) : List Bool := b.bits.map fun x => decide (x < 0)

/-- Iterations up to a number, ended by a zero syndrome where termination is early: the beliefs, the iterations used. -/
def Beliefs.run (early : Bool) (b : Beliefs) (used : Nat) : Nat → Beliefs × Nat
  | 0 => (b, used)
  | n + 1 =>
    let b := b.iterate
    if early && decide (unsatisfied b.hard = 0) then (b, used + 1) else Beliefs.run early b (used + 1) n

/-- The share of the checks that hard decisions of the soft values leave unsatisfied. -/
def softUnsat (soft : List Int) : Nat := unsatisfied (soft.map fun x => decide (x < 0))

/-- More than half of the soft values are zero (R151). -/
def mostlyZero (soft : List Int) : Bool := decide (soft.length < 2 * soft.countP (· == 0))

/-- The positions where the decoded bit differs from the sign of the soft value, a zero counted in alternate cases (R156); odd tells
whether the next zero counts. -/
def differences (odd : Bool) (soft : List Int) (hard : List Bool) : Nat × Bool :=
  (List.zip soft hard).foldl (fun a x =>
    if x.1 = 0 then (a.1 + a.2.toNat, !a.2) else if decide (x.1 < 0) = x.2 then a else (a.1 + 1, a.2)) (0, odd)

/-- What the inner decoder makes of a codeword under a budget of iterations. -/
structure InnerResult where
  iters : Nat
  clean : Bool
  hard : List Bool
  deriving DecidableEq, Repr

/-- The inner decoder (R149, R152). -/
def innerDecode (early : Bool) (budget : Nat) (soft : List Int) : InnerResult :=
  let (b, n) := (Beliefs.start soft).run early 0 budget
  { iters := n, clean := decide (unsatisfied b.hard = 0), hard := b.hard }

/-! ## Outer decoder (R149, R155) -/

/-- The places of at most two bits whose change makes a component codeword's remainder 0. -/
def bchErrors (l : List Bool) : Option (List Nat) :=
  let r := bchRemainder l
  if r = 0 then some []
  else
    let one (i : Nat) : BitVec 22 := bchRemainder (true :: List.replicate (927 - i) false)
    match (List.range 928).find? fun i => one i == r with
    | some i => some [i]
    | none =>
      (List.range 928).findSome? fun i => ((List.range i).find? fun j => (one i ^^^ one j) == r).map fun j => [i, j]

/-- A bit of a block changed. -/
def flipIn (b : List (List Bool)) (row col : Nat) : List (List Bool) := b.modify row fun r => r.modify col not

/-- The component codeword of row r between two blocks. -/
def component (a b : List (List Bool)) (r : Nat) : List Bool := (a.map fun x => x.getD r false) ++ b.getD r []

/-- Component codeword r between two blocks is corrected: the blocks, and the bits changed. -/
def fixRow (st : List (List Bool) × List (List Bool) × Nat) (r : Nat) : List (List Bool) × List (List Bool) × Nat :=
  match bchErrors (component st.1 st.2.1 r) with
  | none => st
  | some es => es.foldl (fun st e =>
      if e < stairSide then (flipIn st.1 e r, st.2.1, st.2.2 + 1) else (st.1, flipIn st.2.1 r (e - stairSide), st.2.2 + 1)) st

/-- The component codewords between block i of a window and the next are corrected. -/
def fixPair (x : List (List (List Bool)) × Nat) (i : Nat) : List (List (List Bool)) × Nat :=
  let (a, b, n) := (List.range stairSide).foldl fixRow (x.1.getD i [], x.1.getD (i + 1) [], x.2)
  ((x.1.set i a).set (i + 1) b, n)

/-- One pass over neighbouring blocks, oldest first. -/
def fixPass (x : List (List (List Bool)) × Nat) : List (List (List Bool)) × Nat := (List.range (x.1.length - 1)).foldl fixPair x

/-- Five passes over the window. -/
def fixWindow (w : List (List (List Bool))) : List (List (List Bool)) × Nat :=
  (List.range 5).foldl (fun x _ => fixPass x) (w, 0)

/-- Some component codeword between two blocks still fails. -/
def failsBetween (a b : List (List Bool)) : Bool := (List.range stairSide).any fun r => bchRemainder (component a b r) != 0

/-- The outer decoder of a receiver: bits that do not yet fill a block, and whether a memory error marked them; the block that left the
window last, then the window, oldest first; blocks that a memory error marked, by place in the window; blocks that have left. -/
structure Outer where
  bits : List Bool
  soiled : Bool
  blocks : List (List (List Bool))
  marked : List Bool
  gone : Nat
  deriving DecidableEq, Repr

/-- The outer decoder at a codeword lock: the block before the first is not known, and is taken for the all-zero one. -/
def Outer.empty : Outer := { bits := [], soiled := false, blocks := [stairZero], marked := [], gone := 0 }

/-- A memory error marks a block (R160): the oldest in the window, or the one that is being collected while the window is empty. -/
def Outer.mark (o : Outer) : Outer :=
  match o.marked with
  | [] => { o with soiled := true }
  | _ :: r => { o with marked := true :: r }

/-- A block that the window has done with: whether it is left uncorrected. -/
structure OuterStep where
  outer : Outer
  /-- numbers of the blocks left uncorrected -/
  bad : List Nat
  fixed : Nat
  deriving DecidableEq, Repr

/-- Blocks complete while enough bits wait: each goes into the window of six, five passes run, and the oldest leaves, uncorrected where a
component codeword of it still fails or a memory error marked it (R149, R155, R160). The first bit after codeword lock is taken to begin
a block: the spec gives the receiver no block alignment (the model's choice, log 102). -/
def Outer.run (o : OuterStep) : Nat → OuterStep
  | 0 => o
  | n + 1 =>
    if o.outer.bits.length < blockBits then o
    else
      let b := pieces stairSide stairSide (deinterleave (o.outer.bits.take blockBits))
      let (w, fixed) := fixWindow (o.outer.blocks ++ [b])
      let marked := o.outer.marked ++ [o.outer.soiled]
      let x : Outer := { o.outer with bits := o.outer.bits.drop blockBits, soiled := false, blocks := w, marked := marked }
      let o := { o with outer := x, fixed := o.fixed + fixed }
      if w.length ≤ 6 then Outer.run o n
      else
        let bad := marked.getD 0 false || failsBetween (w.getD 0 []) (w.getD 1 []) || failsBetween (w.getD 1 []) (w.getD 2 [])
        Outer.run { o with outer := { x with blocks := w.drop 1, marked := marked.drop 1, gone := x.gone + 1 }
                           bad := if bad then o.bad ++ [x.gone] else o.bad } n

/-- The information bits of an inner codeword go to the outer decoder. -/
def Outer.take (o : Outer) (l : List Bool) : OuterStep :=
  let o := { o with bits := o.bits ++ l }
  Outer.run { outer := o, bad := [], fixed := 0 } (o.bits.length / blockBits)

/-! ## A codeword on the carrier (R151, R152, R156, R158, R160) -/

/-- The checks that the hard decisions of a codeword's soft values leave unsatisfied, in the native code or in the agreement's (R151). -/
def cwUnsat (zr : Bool) (x : CwIn) : Nat := if zr then Config.zrUnsat (x.soft.map fun x => decide (x < 0)) else softUnsat x.soft

/-- The soft values in one word of the input buffer (R160): twelve of 5 bits in 64. -/
def softWord : Nat := 12

/-- A codeword whose first word of soft values enters as zero (R160). -/
def spoilWord (x : CwIn) : CwIn := { x with soft := (x.soft.take softWord).map (fun _ => 0) ++ x.soft.drop softWord }

/-- What the decoders leave of a codeword: the result, the outer decoder, the numbers of the blocks left uncorrected, whether the next
zero soft value counts as a difference. -/
structure Decoded where
  r : CwResult
  outer : Outer
  bad : List Nat
  odd : Bool
  deriving DecidableEq, Repr

/-- A codeword of the native code (R149, R152, R156), under a ceiling of which a memory error may take an iteration (R160). -/
def decodeNative (early : Bool) (ceiling lost : Nat) (odd : Bool) (o : Outer) (x : CwIn) : Decoded :=
  let d := innerDecode early (ceiling - lost) x.soft
  let (n, odd) := differences odd x.soft d.hard
  let st := o.take (d.hard.take innerInfo)
  { r := { iters := d.iters + lost, clean := d.clean, corr := n, unsat := softUnsat x.soft, mostlyZero := mostlyZero x.soft
           othersHigh := x.othersHigh, ueBlocks := st.bad.length, outerCorr := st.fixed }
    outer := st.outer, bad := st.bad, odd := odd }

/-- The iterations that the agreement's decoder runs under a budget (R152, R158): up to the first that leaves a codeword where termination is
early, else all of them. -/
def zrIters (early : Bool) (budget : Nat) (soft : List Int) : Nat :=
  match (List.range budget).find? fun n => Config.zrClean (Config.zrHard soft (n + 1)) with
  | some n => if early then n + 1 else budget
  | none => budget

/-- A codeword of the 800ZR agreement (R158): its decoder obeys the ceiling, of which a memory error may take an iteration (R160), and early
termination; one that its last iteration leaves no codeword is uncorrectable and counts as a block (log 117), as one that a memory error marked
does; the outer decoder only numbers codewords. -/
def decodeZr (early : Bool) (ceiling lost : Nat) (odd : Bool) (o : Outer) (x : CwIn) : Decoded :=
  let n := zrIters early (ceiling - lost) x.soft
  let hard := Config.zrHard x.soft n
  let clean := Config.zrClean hard
  let (corr, odd) := differences odd x.soft hard
  let bad := !clean || o.marked.getD 0 o.soiled
  { r := { iters := n + lost, clean := clean, corr := corr, unsat := cwUnsat true x, mostlyZero := mostlyZero x.soft
           othersHigh := x.othersHigh, ueBlocks := bad.toNat, outerCorr := 0 }
    outer := { o with soiled := false, marked := [], gone := o.gone + 1 }, bad := if bad then [o.gone] else [], odd := odd }

end Sys2Proof.Machine
end

