-- ==== Sys2Proof/Machine/CarState.lean ====
section
/-! DEFINITION. State of a carrier: laser and coefficients, load maps, FEC, framing, keys. -/
namespace Sys2Proof.Machine

/-! ## Carriers -/

/-- A load map (R124): the codes of SC0-SC7, the pilot density code, the MAP_ID. -/
structure LMap where
  codes : List Nat
  dens : Nat
  id : Nat
  deriving DecidableEq, Repr

/-- An announced map (R133, R135): its kind (0 negotiated, 1 shed, 2 manual, 3 base), the identifier it answers, its
effective multiframe. -/
structure Ann where
  map : LMap
  kind : Nat
  answered : Nat
  eff : Nat
  deriving DecidableEq, Repr

/-- A key slot (R195-R200): age in frames (transmit) or FC of its first verified frame (receive), replay floor. -/
structure KeySlot where
  loaded : Bool
  retired : Bool
  key : BitVec 256
  salt : BitVec 32
  age : Nat
  first : Option Nat
  floor : Nat
  lastOk : Option Nat
  deriving DecidableEq, Repr

/-- A frame alignment candidate (R175). -/
structure Cand where
  pos : Nat
  count : Nat
  mfi : Nat
  deriving DecidableEq, Repr

/-- A received payload held until its tag arrives (R193): frame counter, J, KSI, map, payload. -/
structure HeldFrame where
  fc : Nat
  j : Int
  ksi : Nat
  mapId : Nat
  payload : List Bool
  deriving DecidableEq, Repr

/-- What a carrier's engines keep beside their pages (03-08). -/
structure Carrier where
  /-- laser: the carrier's own laser runs; another laser warms for a switch (R90); the shutter is open (R85) -/
  ownOn : Bool
  warming : Bool
  shutter : Bool
  /-- coefficient banks 0 and 1: table * 1024 + index; none is the power-on content (R77, R80) -/
  coef0 : SMap (Option (BitVec 16))
  coef1 : SMap (Option (BitVec 16))
  pfTaps : Nat
  peTaps : Nat
  /-- the output power ramps (R89) -/
  ramp : Bool
  /-- an uncorrectable active word stands until the shadow is rewritten and committed (R82) -/
  coefUe : Bool
  tiltNow : List Int
  specInv : Bool
  /-- a frame start is the first since FCR's ENABLE (R164) -/
  txFirst : Bool
  /-- frames since the transmit map took effect (R165) -/
  txJ : Nat
  /-- owed of R173, scaled by 589,824,000 -/
  owed : Int
  /-- cells dealt to the transmitter, and bits of the first already sent -/
  txq : List LineCell
  txSent : Nat
  /-- AIS and RDI that the transmitter sends -/
  rdiTx : Bool
  /-- in-band messages to send and the frames each still fills (R131) -/
  imc : List (List Byte × Nat)
  /-- encoders and mapping stage (R73, R74, R149); generators of a test signal that runs (TX_TEST), none while none does; client frames of
  the 800ZR mode that the next frame takes (R157, R222) -/
  coder : Coder
  test : List (BitVec 31 × BitVec 31)
  client : List (List Byte)
  /-- tag of the previous frame, when it had payload under a key -/
  tag : Option (BitVec 128)
  /-- transmit load map in force, announced, waiting -/
  txMap : LMap
  txAnn : Option Ann
  waitProp : Option (LMap × Nat)
  waitShed : Option (List Nat × Nat)
  waitBase : Bool
  /-- a manual announcement that waits, and whether it is held: made in COUNTDOWN or SHED_PENDING (R137) -/
  waitManual : Option (LMap × Bool)
  staged : LMap
  nextMap : Nat
  nextSeq : Nat
  /-- SEQ of the announcement under way; boundaries until firmware restores JUST_LIMIT (KL-09), 0 when it has not lowered it -/
  annSeq : Nat
  lim7 : Nat
  /-- capacity that the traffic manager holds, and the posts not yet in force: value, boundaries left (R141); Mbit/s -/
  cap : Nat
  posts : List (Nat × Nat)
  /-- DRAIN is clear and the first boundary after that has passed (R142) -/
  undrain : Bool
  /-- a map other than 0 has been in force in both directions since the engines were enabled (R142, R184) -/
  negDone : Bool
  /-- receive load map in force, held announcement, the last two maps (R136), proposal, sheds -/
  rxMap : LMap
  rxAnn : Option Ann
  lastProp : Option LMap
  propId : Nat
  proposed : Bool
  shedId : Nat
  /-- subcarriers that each SHED lowered, until its hold expires, the oldest first (R140) -/
  shedHold : List Nat
  shedCodes : List Nat
  probeNew : Nat
  /-- LM_CTRL as applied (R146); lowest SNR of each subcarrier since the last refresh, none while none was valid (R129) -/
  lmNow : Word
  snrMin : List (Option Nat)
  /-- SEQ last seen of each message type 0x10-0x14 (R131) -/
  seen : List (Option Nat)
  /-- a SHED was sent in the received multiframe in progress (R484) -/
  shedMf : Bool
  /-- frames until the next RESYNC (R136) -/
  resyncIn : Nat
  /-- receiver: fast restart (R115), ACQ_FAIL already raised (R114), view buffer (R106) -/
  fast : Bool
  failRaised : Bool
  view : List (BitVec 16)
  /-- CD_MODE, CD_HINT and WINDOW as the dispersion search began (R119) -/
  cdMode : Nat
  cdHint : Int
  cdWin : Nat
  /-- coefficient words of the equalizers SC0-SC7 (R103-R106), and those that restart (R104) -/
  eqs : List (List (BitVec 16))
  eqRestart : Nat
  /-- subcarriers whose next block meets the gap of a receive slip (R318) -/
  gap : Nat
  /-- phase of each subcarrier, 1/1024 turn, none until a pilot anchors it (R109), and the quadratures of its matcher block in progress, none where erased (R110) -/
  phase : List (Option Int)
  demap : List (List (Option Int))
  /-- received frame boundaries since the last multiframe of the receiver began -/
  rxFrames : Nat
  /-- LOS_LEVEL as applied (R119), device time of the last background calibration (CAL_AGE), subcarriers not yet on for a whole
  multiframe (R105, R111) -/
  losNow : Int
  calAt : Nat
  eqNew : Nat
  /-- an ADC calibration entry is being rewritten after an uncorrectable error (R120) -/
  adcUe : Bool
  /-- codeword lock runs (R151), a ZR_MODE change waiting (R159), statistics of the multiframe (R155, R156) -/
  cwGood : Nat
  cwBad : Nat
  zrWait : Option Bool
  mfCw : Nat
  mfCeil : Nat
  mfIter : Nat
  mfUeb : Nat
  mfCorr : Nat
  mfUef : Nat
  /-- outer decoder (R149), whether the next zero soft value counts as a difference (R156), and the blocks left uncorrected whose frames are
  still to come (R155) -/
  outer : Outer
  zeroOdd : Bool
  ueBlocks : List Nat
  /-- subcarriers whose tile has lost a second cell, of TXO and of RXE, and a cipher slice lost so (R426) -/
  txDead : Nat
  rxDead : Nat
  /-- alignment (R175), overhead (R169, R171), defects (R178) -/
  cands : List Cand
  pos : Nat
  misses : Nat
  fcHi : Option Nat
  fcAlt : Option Nat
  stepCd : Nat
  crcMf : Nat
  aisRun : Nat
  rdiRun : Nat
  los : Bool
  lof : Bool
  ais : Bool
  rdi : Bool
  rfDue : Bool
  /-- the transmit carrier paired until the next frame boundary, while CSC_CTRL.PAIR already names another (R185) -/
  pairOld : Option (Fin 16)
  /-- key slots tx0, tx1, rx0, rx1; key words entered; a switch waits; active transmit slot, slot that becomes active (R195-R199) -/
  slots : List KeySlot
  words : List Word
  switchWait : Bool
  txKey : Option Nat
  waitKey : Option Nat
  failRun : Nat
  okRun : Nat
  /-- the receive slot under which a first frame has verified, while the other is still to be zeroized, and the KSI that every frame of the
  received multiframe in progress has named, none when they differ or its start was not seen (R199) -/
  rxSwitch : Option Nat
  ksiMf : Option Nat
  /-- boundaries until the capacity 0 posted for a key that retires takes effect, 0 when none is posted (R200) -/
  offIn : Nat
  /-- the latest frame counter predicted for the receiver (R171), from which its slots' ages count (R192, R200) -/
  fcKeep : Nat
  /-- the received payload held until its tag arrives (R193) -/
  hold : Option HeldFrame
  /-- bits of the line cell that the last released payload began, none after a frame was lost (R218) -/
  rxPart : Option (List Bool)
  deriving DecidableEq, Repr

/-- The base map (R127). -/
def LMap.base : LMap := { codes := List.replicate 8 0, dens := 0, id := 0 }

/-- The subcarriers that a map switches on, as bits: coded or probing (R126). -/
def LMap.on (m : LMap) : Nat := (List.range 8).foldl (fun a i => if m.codes.getD i 0x3F = 0x3F then a else a + 2 ^ i) 0

def KeySlot.empty : KeySlot :=
  { loaded := false, retired := false, key := 0, salt := 0, age := 0, first := none, floor := 0, lastOk := none }

/-- The centre-tap start of an equalizer (R103, R106): the centre taps of hxx and hyy alone are not 0. -/
def eqStart : List (BitVec 16) := (List.range 248).map fun i => if i = 30 || i = 216 then Config.eqCentre else 0

/-- A carrier after reset: engines off, on the base map (R127), no keys. -/
def Carrier.reset : Carrier :=
  { ownOn := false, warming := false, shutter := false, coef0 := [], coef1 := [], pfTaps := 64, peTaps := 15, ramp := false,
    coefUe := false, tiltNow := List.replicate 8 0, specInv := false, txFirst := true, txJ := 0, owed := 0, txq := [],
    txSent := 0, rdiTx := false, imc := [], coder := Coder.empty, test := [], client := [], tag := none, txMap := LMap.base, txAnn := none, waitProp := none,
    waitShed := none, waitBase := false, waitManual := none, staged := { LMap.base with dens := 1 }, nextMap := 1,
    nextSeq := 0, annSeq := 0, lim7 := 0, cap := 0, posts := [], negDone := false, rxMap := LMap.base, rxAnn := none, lastProp := none,
    propId := 0, proposed := false, shedId := 0, shedHold := [], shedCodes := [], probeNew := 0,
    lmNow := 0x0A91083F#32, snrMin := List.replicate 8 none, undrain := false, seen := List.replicate 5 none,
    shedMf := false, resyncIn := 0, fast := false, failRaised := false, view := [],
    cdMode := 1, cdHint := 0, cdWin := 4, eqs := List.replicate 8 eqStart, eqRestart := 0, gap := 0, phase := List.replicate 8 none,
    demap := List.replicate 8 [], rxFrames := 0, losNow := -2200, calAt := 0, eqNew := 0, adcUe := false, cwGood := 0, cwBad := 0,
    zrWait := none, mfCw := 0, mfCeil := 0, mfIter := 0, mfUeb := 0, mfCorr := 0, mfUef := 0, outer := Outer.empty, zeroOdd := false, ueBlocks := [], txDead := 0, rxDead := 0, cands := [], pos := 0,
    misses := 0, fcHi := none, fcAlt := none, stepCd := 0, crcMf := 0, aisRun := 0, rdiRun := 0, los := false,
    lof := false, ais := false, rdi := false, rfDue := false, pairOld := none, slots := List.replicate 4 KeySlot.empty, words := [],
    switchWait := false, txKey := none, waitKey := none, failRun := 0, okRun := 0, rxSwitch := none,
    ksiMf := none, offIn := 0, fcKeep := 0, hold := none, rxPart := none }

end Sys2Proof.Machine
end

