-- ==== Sys2Proof/Machine/ClockState.lean ====
section
/-! DEFINITION. State of clocks and governors beside their pages (R318-R339). -/
namespace Sys2Proof.Machine

/-- Clocks and governors. Lists are by governor: LD0-LD3, hub. -/
structure Clock where
  /-- 10 us units for which PACE has stayed above 282 (R322) -/
  high : List Nat
  /-- a voltage step has just been taken: the next sample spans it (KL-05) -/
  stepped : List Bool
  /-- lowest PACE of the present and of the last whole second (PACE_VIEW), and the second -/
  lowNow : List Nat
  lowLast : List Nat
  lowSec : Nat
  /-- entries that the elastic ports hold for their clocked sides, 32 of 64 when they start (R318): governor * 1024 + port -/
  fill : SMap Nat
  /-- TIME_REF pulses in a row within tolerance (R334) -/
  pulses : Nat
  /-- the operating point that a move of D37 goes to (R325) -/
  target : Option Nat
  deriving DecidableEq, Repr

def Clock.reset : Clock :=
  { high := List.replicate 5 0, stepped := List.replicate 5 false, lowNow := List.replicate 5 0,
    lowLast := List.replicate 5 0, lowSec := 0, fill := [], pulses := 0, target := none }

end Sys2Proof.Machine
end

