-- ==== Sys2Proof/Machine/HostState.lean ====
section
/-! DEFINITION. State of the host interface: what is sent out, the endpoint, MSI-X, the session engine. -/
namespace Sys2Proof.Machine

/-! ## What the module sends out -/

/-- What a command makes the module send or signal; the record of the most recent command only. -/
inductive Output where
  /-- read completion with data, dword by dword in ascending order (R31, R458) -/
  | completion (ws : List Word)
  /-- configuration read completion (R28, R498) -/
  | config (w : Word)
  /-- Completer Abort (R31, R458) -/
  | abort
  /-- the request receives no completion (R498) -/
  | noCompletion
  /-- the request is held until D37 restarts (R498) -/
  | held
  /-- an MSI-X message of a vector (R14, R62, R63) -/
  | msi (v : Nat)
  /-- a barrier frame put on the link by a side: type, SEQ, and its 8b/10b code groups from K27.7 to K29.7 (R340-R344) -/
  | barrier (s : Side) (type seq : Nat) (code : List (BitVec 10))
  /-- a RAIL_DELIVER that reaches host software: source node, service, data (R420) -/
  | railToHost (src svc : Nat) (data : List Byte)
  /-- a frame sent on a rail feed: frame control, payload, tag (R393), and its symbols after the preamble, tone by tone (R391-R395) -/
  | rail (f : Feed) (fc : BitVec 96) (payload : List Byte) (tag : BitVec 64) (symbols : List (List Nat))
  /-- a carrier frame sent: the bits of its 72 blocks after scrambling (R163-R172), the symbols of its period, subcarrier by
  subcarrier, X and Y (R74, R75), and what the four DACs make of them (R77-R80) -/
  | lineFrame (k : Fin 16) (bits : List Bool) (symbols : List (List (Point × Point))) (dac : List (List Int))
  /-- a frame of the 800ZR agreement sent (R75, R157): the client frames mapped into it, its local and its remote defect indication, its
  symbols, and what the four DACs make of them -/
  | zrFrame (k : Fin 16) (client : List (List Byte)) (ldi rdi : Bool) (symbols : List (Point × Point)) (dac : List (List Int))
  /-- a frame period of a test signal (TX_TEST): the mode, the symbols, and what the four DACs make of them; mode 1 is unmodulated -/
  | testLight (k : Fin 16) (mode : Nat) (symbols : List (List (Point × Point))) (dac : List (List Int))
  /-- what the demapper makes of a block between two pilots of a subcarrier (R110): the soft values of its sign bits, and those of the
  matcher blocks that it completes -/
  | soft (k : Fin 16) (sc : Fin 8) (signs amps : List Int)
  /-- a line cell dealt to a carrier (R217-R219) -/
  | cell (k : Fin 16) (c : LineCell)
  /-- a frame mapped into the client stream of a carrier in the 800ZR mode (R221, R222) -/
  | clientFrame (k : Fin 16) (bytes : List Byte)
  /-- an Ethernet frame sent to a host port (R224, R259) -/
  | hostFrame (port : Fin 64) (bytes : List Byte)
  /-- four codewords of a host port, lane by lane (R298, R300) -/
  | hostCode (port : Fin 64) (lanes : List (List (BitVec 10)))
  /-- a frame that a host port's lanes receive and send back in far-end loopback (R304) -/
  | hostLooped (port : Fin 64) (bytes : List Byte)
  /-- a transmit lane of a host die starts to send a test pattern, 0 stops it (R305); spares are lanes 128-135 -/
  | lanePattern (d : Fin 2) (lane code : Nat)
  /-- a host port starts or stops to send Remote Fault ordered sets toward the host (R183, R301) -/
  | remoteFault (port : Fin 64) (on : Bool)
  /-- a pause frame sent to a host port (R254, R255) -/
  | pauseFrame (port : Fin 64) (bytes : List Byte)
  /-- a steering message sent on a host die (R309): kind 1 REQUEST to 6 DONE -/
  | steer (d : Fin 2) (kind : Nat) (m : SteerMsg)
  /-- payload data released to the cell extractor of a receiver (R193) -/
  | released (k : Fin 16) (payload : List Bool)
  /-- line cells that the cell extractor of a receiver takes out of released payload data (R218) -/
  | extracted (k : Fin 16) (cells : List LineCell)
  /-- the optical switch of a carrier operated (R90) -/
  | opticalSwitch (k : Fin 16)
  deriving DecidableEq, Repr

/-- A host request that waits while D37 changes source (R498). -/
inductive HostReq where
  | config (r : CfgReq)
  | read0 (addr n : Nat)
  | read2 (addr n : Nat)
  | write4 (off : Nat) (v : Word)
  | write0 (addr : Nat) (v : Word) (be : BitVec 4)
  | flr
  deriving DecidableEq, Repr

/-- The management domain D37 (R330, R331, R498). -/
inductive Mgmt where
  /-- not running: hub unpowered or not yet started -/
  | off
  | running
  /-- stopped for a change of source -/
  | changing
  /-- stopped without a source (QUAL_TIMEOUT) -/
  | stopped
  deriving DecidableEq, Repr

/-- The endpoint and the interrupt machinery (R28-R33, R62, R63, R68-R70, R498). -/
structure HostIf where
  mgmt : Mgmt
  /-- MSI-X Enable and Function Mask (R62) -/
  msixEnable : Bool
  functionMask : Bool
  /-- MSI-X table by BAR4 byte offset (R29); the mask is bit 0 of the fourth dword of an entry -/
  msix : SMap Word
  /-- pending bit array -/
  pba : BitVec 32
  /-- base address registers, dword 0 to 5 (R29) -/
  bars : SMap Word
  /-- SNAP hold registers by BAR0 address of the high register (R8) -/
  holds : SMap Word
  /-- hold register of the counter aperture (R458) -/
  hold2 : Word
  /-- requests held while D37 changes source -/
  held : List HostReq
  /-- the interval of a warm reset in which reads return all ones (R69) -/
  window : Bool
  /-- firmware runs (R69, R441 step 9) -/
  fwUp : Bool
  /-- INT_N asserted (R60, R456) -/
  intN : Bool
  /-- PERST_N asserted (R474), and a warm reset of kind 2 owed for it -/
  perst : Bool
  perstOwed : Bool
  deriving DecidableEq, Repr

/-- What the session engine keeps beside SES_STATUS (R45-R49, R71). -/
structure SesEng where
  /-- role of the last REQUEST -/
  reqRole : Nat
  /-- the nonce, also readable at NONCE_LO and NONCE_HI -/
  nonce : BitVec 64
  /-- proof words since the REQUEST, at most eight -/
  proof : List Word
  /-- a warm reset came while a proof was pending: a pass opens no session (R71) -/
  discard : Bool
  /-- device time of the last host write while a session was open -/
  lastWrite : BitVec 64
  /-- second of device time of the last denial written to LOG (R44) -/
  deniedSecond : Option Nat
  deriving DecidableEq, Repr

/-- The default of the MSI-X table: every vector masked (R62). -/
def msixDefault (a : Nat) : Word := if a % 16 = 12 then 1 else 0

def HostIf.reset : HostIf :=
  { mgmt := .off, msixEnable := false, functionMask := false, msix := [], pba := 0, bars := [], holds := [], hold2 := 0,
    held := [], window := false, fwUp := false, intN := false, perst := false, perstOwed := false }

def SesEng.reset : SesEng :=
  { reqRole := 0, nonce := 0, proof := [], discard := false, lastWrite := 0, deniedSecond := none }

end Sys2Proof.Machine
end

