-- ==== Sys2Proof/Machine/Pcs.lean ====
section
/-! DEFINITION. What a host port puts on its lanes (R300): frame check, 64B/66B blocks, transcoding, scrambling, alignment markers,
RS(544,514), the lanes. The forms are those of the IEEE 802.3 standards that the rule names (PRESUMED, log 109). -/
namespace Sys2Proof.Machine

open Sys2Proof

/-! ## Frame check -/

/-- One bit of the Ethernet frame check, least significant bit first (IEEE 802.3). -/
def ethStep (r : BitVec 32) (b : Bool) : BitVec 32 :=
  if r.getLsbD 0 != b then (r >>> 1) ^^^ 0xEDB88320 else r >>> 1

/-- The register after a byte. -/
def ethByte (r : BitVec 32) (b : Byte) : BitVec 32 := (List.range 8).foldl (fun r i => ethStep r (b.getLsbD i)) r

/-- The frame check sequence of bytes, in the order it is sent (IEEE 802.3). -/
def ethFcs (l : List Byte) : List Byte :=
  let r := ~~~(l.foldl ethByte 0xFFFFFFFF)
  [r.extractLsb' 0 8, r.extractLsb' 8 8, r.extractLsb' 16 8, r.extractLsb' 24 8]

/-! ## Blocks -/

/-- A block of the 64B/66B code: control or data, and its eight octets, the first sent first. -/
structure PcsBlock where
  ctrl : Bool
  octets : List Byte
  deriving DecidableEq, Repr

/-- Bits of octets in the order they are sent, least significant first. -/
def octetBits (l : List Byte) : List Bool := l.flatMap fun b => (List.range 8).map fun i => b.getLsbD i

/-- A control block of a type, filled up with idle characters, which are zero. -/
def ctrlBlock (type : Byte) (l : List Byte) : PcsBlock := { ctrl := true, octets := type :: l ++ List.replicate (7 - l.length) 0 }

/-- Type of the block that ends a frame with n octets in it. -/
def endType (n : Nat) : Byte := [0x87, 0x99, 0xAA, 0xB4, 0xCC, 0xD2, 0xE1, 0xFF].getD n 0x87

/-- The blocks of a frame from destination address to check: preamble and start delimiter, data, end, and a block of idle. -/
def frameBlocks (l : List Byte) : List PcsBlock :=
  let n := l.length / 8
  ctrlBlock 0x78 [0x55, 0x55, 0x55, 0x55, 0x55, 0x55, 0xD5]
    :: ((List.range n).map fun i => { ctrl := false, octets := (l.drop (8 * i)).take 8 })
    ++ [ctrlBlock (endType (l.length % 8)) (l.drop (8 * n)), ctrlBlock 0x1E []]

/-- Four blocks transcoded to 257 bits: of the first control block the second half of the type goes. -/
def transcode (l : List PcsBlock) : List Bool :=
  match l.findIdx? (·.ctrl) with
  | none => true :: l.flatMap fun b => octetBits b.octets
  | some c =>
    let bits (i : Nat) (b : PcsBlock) : List Bool :=
      let x := octetBits b.octets
      if i = c then x.take 4 ++ x.drop 8 else x
    (false :: l.map (·.ctrl)) ++ (l.mapIdx bits).flatten

/-- One bit through the self-synchronous scrambler x^58 + x^39 + 1: the register's bit 0 is the bit sent last. -/
def pcsScramble (r : BitVec 58) (b : Bool) : Bool × BitVec 58 :=
  let o := (b != r.getLsbD 38) != r.getLsbD 57
  (o, (r <<< 1) ||| BitVec.ofNat 58 o.toNat)

/-- Bits through the scrambler. -/
def pcsScrambled : BitVec 58 → List Bool → List Bool × BitVec 58
  | r, [] => ([], r)
  | r, b :: l =>
    let (o, r) := pcsScramble r b
    let (t, r) := pcsScrambled r l
    (o :: t, r)

/-! ## RS(544,514) -/

/-- A symbol times the root of x^10 + x^3 + 1. -/
def gfTimes (a : BitVec 10) : BitVec 10 := (a <<< 1) ^^^ (if a.getLsbD 9 then 0x009 else 0)

/-- The product of two symbols. -/
def gfMul (a b : BitVec 10) : BitVec 10 :=
  (List.range 10).foldl (fun r i => gfTimes r ^^^ (if b.getLsbD (9 - i) then a else 0)) 0

/-- The code's generator, the coefficient of the highest power first: the product of x + a^j for j from 0 to 29. -/
def rsGen : List (BitVec 10) :=
  ((List.range 30).foldl (fun (g : List (BitVec 10) × BitVec 10) _ =>
    (List.zipWith (· ^^^ ·) (g.1 ++ [0]) (0 :: g.1.map (gfMul g.2)), gfTimes g.2)) ([1], 1)).1

/-- One symbol into the division by the generator. -/
def rsStep (r : List (BitVec 10)) (m : BitVec 10) : List (BitVec 10) :=
  let f := r.headD 0 ^^^ m
  List.zipWith (· ^^^ ·) (r.tail ++ [0]) (rsGen.tail.map (gfMul f))

/-- A codeword: 514 message symbols and their 30 parity symbols. -/
def rsWord (m : List (BitVec 10)) : List (BitVec 10) := m ++ m.foldl rsStep (List.replicate 30 0)

/-! ## The coder of a port -/

/-- What a port's coder holds between frames: the scrambler, blocks that do not yet fill a transcoded block, message bits that do not
yet fill four codewords, and the groups of four codewords since the last alignment markers. -/
structure PortCoder where
  scr : BitVec 58
  blocks : List PcsBlock
  bits : List Bool
  groups : Nat
  deriving DecidableEq, Repr

def PortCoder.empty : PortCoder := { scr := 0, blocks := [], bits := [], groups := 0 }

/-- Message bits of four codewords. -/
def groupBits : Nat := 4 * 514 * 10

/-- Symbols of bits, the first bit of each its lowest. -/
def symbolsOf (l : List Bool) : List (BitVec 10) :=
  (List.range (l.length / 10)).map fun i => BitVec.ofNat 10 (natBits ((l.drop (10 * i)).take 10).reverse)

/-- Every n-th element of a list from position i. -/
def everyNth {α : Type} (n i : Nat) (l : List α) : List α := (List.range ((l.length + n - 1 - i) / n)).filterMap fun j => l[n * j + i]?

/-- Four codewords of message bits, dealt to them symbol by symbol, and their symbols dealt to the port's lanes. -/
def groupLanes (lanes : Nat) (bits : List Bool) : List (List (BitVec 10)) :=
  let m := symbolsOf bits
  let w := (List.range 4).map fun i => rsWord (everyNth 4 i m)
  let out := w.transpose.flatten
  (List.range lanes).map fun i => everyNth lanes i out

/-- Four blocks go through transcoding and scrambling; n bounds the calls. -/
def PortCoder.blocksIn (c : PortCoder) : Nat → PortCoder
  | 0 => c
  | n + 1 =>
    if c.blocks.length < 4 then c
    else
      let (b, r) := pcsScrambled c.scr (transcode (c.blocks.take 4))
      PortCoder.blocksIn { c with scr := r, blocks := c.blocks.drop 4, bits := c.bits ++ b } n

/-- Groups of codewords leave on the lanes; the alignment markers come in front of the first of each marker interval. -/
def PortCoder.groupsOut (lanes : Nat) (c : PortCoder) : Nat → List (List (List (BitVec 10))) × PortCoder
  | 0 => ([], c)
  | n + 1 =>
    let at0 := c.groups % Config.markerGroups lanes == 0
    let all := (if at0 then (List.range (257 * Config.markerBlocks lanes)).map (Config.marker lanes) else []) ++ c.bits
    if all.length < groupBits then ([], c)
    else
      let (l, d) := PortCoder.groupsOut lanes { c with bits := all.drop groupBits, groups := c.groups + 1 } n
      (groupLanes lanes (all.take groupBits) :: l, d)

/-- A frame goes into the coder of a port: what leaves on its lanes. -/
def PortCoder.take (lanes : Nat) (c : PortCoder) (frame : List Byte) : List (List (List (BitVec 10))) × PortCoder :=
  let c := { c with blocks := c.blocks ++ frameBlocks frame }
  let c := c.blocksIn (c.blocks.length / 4)
  c.groupsOut lanes (c.bits.length / groupBits + 1)

end Sys2Proof.Machine
end

