-- ==== Sys2Proof/Machine/LaneState.lean ====
section
/-! DEFINITION. State of the host dies beside their pages: ports, lanes, spares, the steering exchange (R298-R317). -/
namespace Sys2Proof.Machine

/-- A spare of one direction (R304-R308, SPARE_VIEW): the lane that it replaces, whether a release has moved the selection back to that lane
already, loopback and pattern, checker lock and the device time from which its counts are still to be booked, signal, the taps of its FFE. -/
structure Spare where
  lane : Option Nat
  back : Bool
  loop : Nat
  prbs : Nat
  lock : Bool
  prbsAt : Nat
  signal : Bool
  ffe : List (BitVec 16)
  /-- woken by an exchange, whatever the sleep bits hold (R306) -/
  woken : Bool
  deriving DecidableEq, Repr

/-- A port as its PORT_CTRL and PORT_STATUS registers show it, the time of its last uncorrectable codeword (FEC_UNCORR), its coder
(R300), and the frames on their way through a near-end loopback (R304). -/
structure PortSt where
  ctrl : Word
  status : Word
  uncorr : Option Nat
  coder : PortCoder
  loop : List (List Byte)
  deriving DecidableEq, Repr

/-- A lane as its TX_EQ, RX_EQ, LANE_TEST and LANE_STATUS registers show it, the 16 taps of its FFE (R303), and the device time from which
its checker's counts are still to be booked (R305). -/
structure LaneSt where
  txEq : Word
  rxEq : Word
  test : Word
  status : Word
  ffe : List (BitVec 16)
  prbsAt : Nat
  deriving DecidableEq, Repr

/-- A lane group's arrays, selected through PORT_SEL and LANE_SEL (R316); waking directions (R306). -/
structure LaneGroup where
  ports : SMap PortSt
  lanes : SMap LaneSt
  wakeTx : Bool
  wakeRx : Bool
  deriving DecidableEq, Repr

/-- An exchange that runs (R308, R310): the request, whether the module made it, the kind of the module's last message
(1 REQUEST to 6 DONE, 0 none), how often it was sent, whether the module waits for an answer, whether its REQUEST has been accepted, and
the reason the ledger gives the substitution (CAD_LAST). -/
structure Exch where
  msg : SteerMsg
  own : Bool
  last : Nat
  sends : Nat
  waits : Bool
  accepted : Bool
  why : Nat
  deriving DecidableEq, Repr

/-- A host die. -/
structure HostDie where
  rx : SMap Spare
  tx : SMap Spare
  exch : Option Exch
  /-- the messages answered since an exchange was last accepted: kind, message, kind and content of the answer (R310) -/
  answered : List (Nat × SteerMsg × Nat × SteerMsg)
  /-- the module's own request, to be sent again after the partner's exchange -/
  yielded : Option Exch
  nextSeq : Nat
  deriving DecidableEq, Repr

/-- The host dies: dies by number, groups by 4 * die + group. -/
structure Lanes where
  dies : SMap HostDie
  groups : SMap LaneGroup
  deriving DecidableEq, Repr

/-- The taps of an FFE that has not yet adapted: 0, as the model chooses (log 119). -/
def ffeReset : List (BitVec 16) := List.replicate 16 0

def Spare.reset : Spare := { lane := none, back := false, loop := 0, prbs := 0, lock := false, prbsAt := 0, signal := false, ffe := ffeReset, woken := false }
def PortSt.reset : PortSt := { ctrl := 0, status := 0, uncorr := none, coder := PortCoder.empty, loop := [] }

/-- A lane after reset: the Reset column of R316. -/
def LaneSt.reset : LaneSt := { txEq := 0x00340804, rxEq := 0x54, test := 0, status := 0, ffe := ffeReset, prbsAt := 0 }

def LaneGroup.reset : LaneGroup := { ports := [], lanes := [], wakeTx := false, wakeRx := false }

def HostDie.reset : HostDie := { rx := [], tx := [], exch := none, answered := [], yielded := none, nextSeq := 0 }

def Lanes.reset : Lanes := { dies := [], groups := [] }

end Sys2Proof.Machine
end

