-- ==== Sys2Proof/Machine/MemState.lean ====
section
/-! DEFINITION. State of the memory section beside its pages: DDR5 channels, repair list, migration (R271-R290). -/
namespace Sys2Proof.Machine

/-- What the module itself has put into a burst of a channel: the row that holds it, and the errors that a checker test (R41, R291) or poison
(R279) left in it. -/
structure Stored where
  row : Nat
  err : BurstErr
  deriving DecidableEq, Repr

/-- A burst stored sound. -/
def Stored.sound : Stored := { row := 0, err := { perDevice := [], poisoned := false } }

/-- A DDR5 channel (R271-R284). Rows are keyed by ROW, BG, BANK, SUB as LAST_ERR packs them. -/
structure Chan where
  /-- device second of the counts below; corrected bursts of each sub-channel, corrected symbols of each device in it -/
  second : Nat
  bursts : List Nat
  syms : List Nat
  /-- corrected symbols of each device in the last whole second (DEV_VIEW.SYM_ERR) -/
  last : List Nat
  /-- bursts corrected in each row in the second -/
  rowHits : SMap Nat
  /-- rows in which patrol corrected a burst on this pass and on the one before -/
  patNow : List Nat
  patOld : List Nat
  /-- bursts read by patrol in this pass, and passes done -/
  patPos : Nat
  passes : Nat
  /-- rows being copied to their targets, rows remapped (R283) -/
  copying : List Nat
  remap : List Nat
  /-- kind 5 LOG entries written in the second (R278) -/
  logs : Nat
  /-- bursts that the module has stored in error, by their address over 64 -/
  stored : SMap Stored
  deriving DecidableEq, Repr

/-- The burst that a migration's copy has read and not yet written (R287): its logical address, whether it goes poisoned, and whether a mirrored
write has come between, which makes the copy drop its write. -/
structure CopyLock where
  addr : Nat
  poison : Bool
  dropped : Bool
  deriving DecidableEq, Repr

/-- The memory section. -/
structure Mem where
  chans : SMap Chan
  /-- bursts that a migration has read to copy (R286), the one whose write is due (R287), and whether hardware started the migration (R282) -/
  copied : Nat
  lock : Option CopyLock
  autoMig : Bool
  /-- bursts, by address over 64, that have been written since the migration began: MC16 holds them (R286) -/
  mirrored : List Nat
  /-- the repair list: channel and row, channel and device (R284) -/
  repairRows : List (Nat × Nat)
  repairDevs : List (Nat × Nat)
  /-- MC16 is retired for good (R289) -/
  spareGone : Bool
  /-- logical slots withdrawn (R290) -/
  lostSlots : List Nat
  /-- queues whose statistics entry is poisoned (R281); slots whose entries all are, less the queues written since (R290) -/
  statBad : List Nat
  statSlots : List Nat
  statFixed : List Nat
  /-- slots whose contexts have been lost in DDR5 (R288, R290): the slot and the first burst of the channel's contexts that is lost; less the
  queues whose context has been found or written there since -/
  ctxSlots : List (Nat × Nat)
  ctxFixed : List Nat
  /-- queues whose statistics entry, and those whose context, the source of a migration holds in an older state, and which (R489) -/
  statOld : List (Nat × Nat)
  ctxOld : List (Nat × Nat)
  /-- packet pages retired from the free pool, and the rows, by channel, for which they were (R283) -/
  retired : List Nat
  fullRows : List (Nat × Nat)
  /-- passes of patrol that every channel had completed and that have been announced (R280) -/
  passes : Nat
  deriving DecidableEq, Repr

def Chan.reset : Chan :=
  { second := 0, bursts := [0, 0], syms := List.replicate 20 0, last := List.replicate 20 0, rowHits := [], patNow := [],
    patOld := [], patPos := 0, passes := 0, copying := [], remap := [], logs := 0, stored := [] }

def Mem.reset : Mem :=
  { chans := [], copied := 0, lock := none, autoMig := false, mirrored := [], repairRows := [], repairDevs := [], spareGone := false,
    lostSlots := [], statBad := [], statSlots := [], statFixed := [], ctxSlots := [], ctxFixed := [], statOld := [], ctxOld := [],
    retired := [], fullRows := [], passes := 0 }

end Sys2Proof.Machine
end

