-- ==== Sys2Proof/Machine/SenseState.lean ====
section
/-! DEFINITION. State of telemetry and thermal protection beside their pages (R366-R389): the field island's telemetry
chain, and the hub's copies, sensors and zones. -/
namespace Sys2Proof.Machine

/-! ## Field side -/

/-- A telemetry channel's chain (R368-R376). Samples are Q1.15. -/
structure TChan where
  /-- code of the last normal sample -/
  last : Option Nat
  /-- inputs of the filter stage, newest first, at most 256 -/
  hist : List Int
  /-- the DC block's estimate m, exact: dcNum / 2 ^ dcExp -/
  dcNum : Int
  dcExp : Nat
  /-- outputs of the filter stage since the last decimation instant -/
  phase : Nat
  /-- while outputs are suppressed: input samples left of the settling length -/
  settle : Option Nat
  /-- the last output accepted -/
  value : Option Int
  /-- the window in progress -/
  sum : Int
  count : Nat
  sat : Bool
  /-- the last closed window, and that it closed since the last batch -/
  recSum : Int
  recCount : Nat
  recSat : Bool
  recNew : Bool
  min : Option Int
  max : Option Int
  opn : Bool
  shrt : Bool
  /-- the next normal sample decides SHORT -/
  shortDue : Bool
  /-- output periods of the window in progress (R376) -/
  periods : Nat
  /-- outputs of the filter stage over the last 50 ms on T26 and T27, newest first, and how many there have been (R379) -/
  recent : List Int
  outs : Nat
  deriving DecidableEq, Repr

/-- A FIR slot's descriptor (R371). -/
structure FirSlot where
  base : Nat
  taps : Nat
  minphase : Bool
  deriving DecidableEq, Repr

/-- The ripple that the field island finds on a feed (R379), in samples of 40 us: the instant of the last crossing, the last ten periods, newest
first, and N while the ripple is valid, else 0. -/
structure Ripple where
  last : Option ℚ
  periods : List ℚ
  n : Nat
  deriving DecidableEq, Repr

/-- The telemetry and thermal state of the field island. -/
structure Tele where
  chans : SMap TChan
  /-- the slot that comes next, and the slots that an open-wire test still takes of a channel (R366, R368) -/
  slot : Nat
  testing : SMap Nat
  coefs : SMap Word
  slots : SMap (Option FirSlot)
  rippleA : Ripple
  rippleB : Ripple
  /-- time that the field island has had power, ns -/
  now : Nat
  /-- dies that a trip has removed, as bits 0-6 (R384, R385) -/
  trips : Nat
  /-- dies whose restart is permitted, carried in the next STATUS_REPORT (R385) -/
  permit : Nat
  /-- times of the automatic thermal restarts of the last 24 h (R385) -/
  restarts : List Nat
  deriving DecidableEq, Repr

/-! ## Hub side -/

/-- A thermal zone (R380-R382): temperatures of its sensors and their median in 0.5 degrees, BROKEN and DISAGREE bits. -/
structure Zone where
  sensors : List Int
  median : Int
  broken : Nat
  disagree : Nat
  deriving DecidableEq, Repr

/-- Telemetry and thermal protection on the hub. -/
structure Sense where
  zones : SMap Zone
  /-- mirrored channel records of the last TELEMETRY_BATCH -/
  recs : SMap TelRec
  /-- the captured record, its WIN and group delay (VIEW_DATA) -/
  view : TelRec
  viewWin : Nat
  viewDelay : Int
  /-- the hub's own copy of coefficient words and descriptors (R377) -/
  coefs : SMap Word
  slots : SMap (Option FirSlot)
  /-- SEQ of the slot descriptors sent and not yet reported applied -/
  slotSeqs : List Nat
  deriving DecidableEq, Repr

def TChan.reset : TChan :=
  { last := none, hist := [], dcNum := 0, dcExp := 0, phase := 0, settle := none, value := none, sum := 0, count := 0, sat := false,
    recSum := 0, recCount := 0, recSat := false, recNew := false, min := none, max := none, opn := false, shrt := false,
    shortDue := false, periods := 0, recent := [], outs := 0 }

def Ripple.reset : Ripple := { last := none, periods := [], n := 0 }

def Tele.reset : Tele :=
  { chans := [], slot := 0, testing := [], coefs := [], slots := [], rippleA := Ripple.reset, rippleB := Ripple.reset, now := 0, trips := 0,
    permit := 0, restarts := [] }

/-- Empty trackers read MIN 0x7FFF and MAX 0x8000, neutral to any output. -/
def TelRec.empty (ch : Nat) : TelRec := { ch := ch, flags := 0, min := 0x7FFF, max := -0x8000, sum := 0, count := 0 }

/-- Before the first record a view reads 0. -/
def TelRec.none : TelRec := { ch := 0, flags := 0, min := 0, max := 0, sum := 0, count := 0 }

def Zone.reset : Zone := { sensors := [0, 0, 0], median := 0, broken := 0, disagree := 0 }

def Sense.reset : Sense :=
  { zones := [], recs := [], view := TelRec.none, viewWin := 0, viewDelay := 0, coefs := [], slots := [], slotSeqs := [] }

end Sys2Proof.Machine
end

