-- ==== Sys2Proof/Machine/RailState.lean ====
section
/-! DEFINITION. State of the rail channel's modem and its MAC, on the field island (R390-R423, R500). -/
namespace Sys2Proof.Machine

/-- A tone map (R397, R398): identifier, rate 5/6, coded bits per symbol, one code per tone 16-111. -/
structure ToneMap where
  tmi : Nat
  rate : Bool
  nbps : Nat
  codes : List Nat
  deriving DecidableEq, Repr

/-- A frame as the receiver reads it (R393, R394): the payload is the bytes before the tag and the check sequence. -/
structure RailRx where
  fc : BitVec 96
  payload : List Byte
  tag : BitVec 64
  fcsOk : Bool
  deriving DecidableEq, Repr

/-- A frame of this node's own: type, the node that it is for, its key (0 untagged, 1 network, 2 session), that it is host
data, and its service header and data. -/
structure RFrame where
  typ : Nat
  final : Nat
  key : Nat
  host : Bool
  body : List Byte
  deriving DecidableEq, Repr

/-- A frame sent and not acknowledged (R404). -/
structure Sent where
  frame : RFrame
  seq : Nat
  sends : Nat
  deriving DecidableEq, Repr

/-- An entry of the neighbour table (R398, R409). -/
structure Nbr where
  node : Nat
  /-- measured SNR per tone, 0.25 dB, tone 16 first -/
  tones : List Nat
  /-- map that it sends under, and the map before it, kept for 10 s or until the new one is used -/
  rxMap : Option ToneMap
  rxPrev : Option ToneMap
  /-- map held for sending to it -/
  txMap : Option ToneMap
  /-- it has been asked for a SOUND since a map of it was last valid -/
  asked : Bool
  /-- field time of the last map and of the last frame heard -/
  mapAt : Nat
  heardAt : Nat
  txSeq : Nat
  rxSeq : Nat
  errRun : Nat
  resends : Nat
  unacked : Option Sent
  /-- frames and errored frames since the last LQR -/
  frames : Nat
  errs : Nat
  deriving DecidableEq, Repr

/-- A rail session (R417): peer, role, key, last request accepted with its answer, messages sent, time of the last request. -/
structure RSession where
  peer : Nat
  role : Nat
  key : BitVec 256
  lastMsg : Nat
  answer : Option RFrame
  txMsg : Nat
  lastAt : Nat
  deriving DecidableEq, Repr

/-- The rail nonce (R500). -/
structure RNonce where
  peer : Nat
  role : Nat
  value : BitVec 64
  deriving DecidableEq, Repr

/-- An entry of a link-quality report (R411). -/
structure LqrEntry where
  node : Nat
  snr : Nat
  rate : Nat
  frames : Nat
  errs : Nat
  deriving DecidableEq, Repr

/-- A member as a master keeps it (R404, R411): node, serial number, polls missed in a row, cycles until it is polled again, its last
report, its route (the repeaters on the way), and the path that was better at the last assessment. -/
structure Member where
  node : Nat
  serial : BitVec 64
  missed : Nat
  wait : Nat
  /-- it has sent a frame under the network key -/
  admitted : Bool
  lqr : List LqrEntry
  route : List Nat
  better : Option (List Nat)
  deriving DecidableEq, Repr

/-- A reception that has reached its payload or is on its way there (R392, R399, R400): power, field time of the start mark, and that it
captured the receiver. -/
structure Reception where
  power : Nat
  mark : Nat
  captured : Bool
  deriving DecidableEq, Repr

/-- The strainer (R396): the running mean square, a blanking interval under way and the samples below the threshold in a row, the samples
for which the mean square stays frozen. -/
structure Strainer where
  mean : ℚ
  blanking : Bool
  quiet : Nat
  frozen : Nat
  deriving DecidableEq, Repr

/-- A transmission that waits for the medium (R405): a poll, kind 0, or a CONTEND of its kind; and that it waits for more than the
end of a reception. -/
structure Deferred where
  kind : Nat
  energy : Bool
  deriving DecidableEq, Repr

/-- The rail channel. -/
structure Rail where
  /-- the modem runs; it is silent while the field island restarts (R361) -/
  up : Bool
  /-- settings in force: they change at a cycle start (R421 text) -/
  ctrl : Word
  net : Word
  tune : Word
  feed : Feed
  rx : Option Reception
  strainer : Strainer
  /-- samples blanked and symbols erased, by field time, of the last second -/
  strained : List (Nat × Nat × Nat)
  nbrs : SMap (Option Nbr)
  /-- current and previous network key with their identifiers (R408) -/
  key : Option (Nat × BitVec 256)
  keyPrev : Option (Nat × BitVec 256)
  /-- a whistle of the network has been heard since the node began to search -/
  found : Bool
  parent : Nat
  hops : Nat
  children : List Nat
  relaySlot : Nat
  parentLost : Bool
  /-- cycles without a whistle, and cycles since the last whistle was heard -/
  missed : Nat
  silent : Nat
  /-- this node has been polled in the present cycle -/
  gotPoll : Bool
  /-- whistles heard in the last 6 cycles on each feed, bit 0 the present cycle -/
  heardA : Nat
  heardB : Nat
  /-- cycles in which the preferred feed has been heard, and its run of misses (R416) -/
  prefRun : Nat
  prefMiss : Nat
  epoch : Nat
  gen : Nat
  /-- fields of the last whistle heard, and cycles since a tagged one -/
  whistle : List Byte
  taggedAge : Nat
  sync : Bool
  /-- marks sent, and cycles run -/
  marks : Nat
  cycle : Nat
  /-- cycles for which a sleepy node stays awake -/
  awake : Nat
  /-- cycles since the last report to the master, and since the last STATUS -/
  lqrAge : Nat
  statusAge : Nat
  /-- a lost parent is to be reported, and the cycles that the loss lasted (R414) -/
  lossReport : Bool
  lossLen : Nat
  lastStatus : List Byte
  session : Option RSession
  nonce : Option RNonce
  out : List RFrame
  /-- frames held for sleepy children: child, frame control, payload, tag, cycles left -/
  held : List (Nat × BitVec 96 × List Byte × BitVec 64 × Nat)
  sleepyKids : List Nat
  /-- contention owed: kind and backoff -/
  contend : Option (Nat × Nat)
  /-- a frame that waits for the medium -/
  deferred : Option Deferred
  /-- the neighbour whose ACK or answer is awaited -/
  awaiting : Option Nat
  /-- 0 not master, 1 master, 2 acting deputy -/
  acting : Nat
  /-- cycles still to listen before a master whistles -/
  listen : Nat
  /-- highest GEN heard or sent, and its age in cycles -/
  genSeen : Nat
  genAge : Nat
  members : List Member
  woken : List Nat
  pollQ : List Nat
  /-- the node whose poll answer is awaited -/
  polled : Option Nat
  /-- cycles since every awake member was polled -/
  round : Nat
  /-- records sent -/
  records : Nat
  stranger : Nat
  replay : Nat
  fcsFail : Nat
  duplicate : Nat
  preambleLost : Nat
  captured : Nat
  dropped : Nat
  deferCap : Nat
  sendLost : Nat
  delivered : Nat
  denied : Nat
  /-- FRL events since the last record -/
  evts : Nat
  /-- FRL counters since the field island started (R460) -/
  cnt : SMap Nat
  deriving DecidableEq, Repr

def Nbr.reset (node now : Nat) : Nbr :=
  { node := node, tones := [], rxMap := none, rxPrev := none, txMap := none, asked := false, mapAt := 0, heardAt := now, txSeq := 0, rxSeq := 0,
    errRun := 0, resends := 0, unacked := none, frames := 0, errs := 0 }

/-- The rail channel right after a field-island start; RL_CTRL, RL_NET and RL_TUNE at their reset columns. -/
def Rail.reset : Rail :=
  { up := true, ctrl := 0x1418, net := 0x10000, tune := 0x0C0864, feed := .a, rx := none,
    strainer := { mean := Config.railMean, blanking := false, quiet := 0, frozen := 0 }, strained := [], nbrs := [], key := none,
    keyPrev := none, found := false, parent := 0, hops := 0, children := [], relaySlot := 0, parentLost := false, missed := 0, silent := 0, gotPoll := false,
    heardA := 0, heardB := 0, prefRun := 0, prefMiss := 0, epoch := 0, gen := 0, whistle := [], taggedAge := 255, sync := false,
    marks := 0, cycle := 0, awake := 0, lqrAge := 0, statusAge := 0, lossReport := false, lossLen := 0, lastStatus := [], session := none,
    nonce := none, out := [], held := [], sleepyKids := [], contend := none, deferred := none, awaiting := none, acting := 0,
    listen := 6, genSeen := 0, genAge := 255, members := [], woken := [], pollQ := [], polled := none, records := 0, round := 0, stranger := 0,
    replay := 0, fcsFail := 0, duplicate := 0, preambleLost := 0, captured := 0, dropped := 0, deferCap := 0, sendLost := 0,
    delivered := 0, denied := 0, evts := 0, cnt := [] }

end Sys2Proof.Machine
end

