-- ==== Sys2Proof/Machine/TmState.lean ====
section
/-! DEFINITION. State of the traffic manager: configuration entries, queues, groups, conduits, delivery queues, pause. -/
namespace Sys2Proof.Machine

/-- A frame held by the module: its bytes from destination address to FCS, its length adjustment (R205), how its cells read
(0 sound, 1 a correctable error, 2 an uncorrectable on-die cell, 3 a marked page of DDR5, 4 an uncorrectable staging cell;
R252, R266, R268), and bytes of it that passed through DDR5 (R231). -/
structure QFrame where
  bytes : List Byte
  lenAdj : Int
  bad : Nat
  steep : Nat
  deriving DecidableEq, Repr

/-- A page of the packet region that a queue's middle holds (R245, R251): its number, the cells of it (bit n: cell n) that a lost channel has
taken (R288, R290), and whether it was written since the migration of its channel began, which MC16 then holds too (R286). -/
structure DdrPage where
  page : Nat
  lost : Nat
  mirror : Bool
  deriving DecidableEq, Repr

/-- What a queue's context holds beside its configuration (R228, R231, R245). The cells of its frames, in order, are those of
the segments, then 16 for each page of the middle, then the tail's. -/
structure QState where
  frames : List QFrame
  steep : Bool
  /-- the head on die: cells, and the page of DDR5 from which they came where they lie in the staging area (R245, R251) -/
  segs : List (Option Nat × Nat)
  /-- the middle: pages in DDR5, oldest first, and how many of the oldest are being read -/
  mid : List DdrPage
  flying : Nat
  tail : Nat
  deficit : Int
  /-- what the token bucket lacks of its burst, in bytes * 8000, and the device time at which it stood so (R216) -/
  debt : Nat
  tokTime : Nat
  quarantined : Bool
  parked : Bool
  packets : Nat
  bytes : Nat
  drops : Nat
  steepBytes : Nat
  /-- damage in the context, the link store and the page chain store: 0 sound, 1 correctable, 2 uncorrectable -/
  ctxBad : Nat
  linkBad : Nat
  chainBad : Nat
  deriving DecidableEq, Repr

/-- Group state (R215, R216): deficits of the two tiers, what the two buckets lack of their burst, in bytes * 8000. -/
structure GState where
  defMin : Int
  defMax : Int
  minDebt : Nat
  maxDebt : Nat
  tokTime : Nat
  /-- last queue served, by band -/
  last : List (Option Nat)
  deriving DecidableEq, Repr

/-- Transmit conduit state (R215, R217, R220). -/
structure TxCon where
  seq : BitVec 24
  lastMin : Option Nat
  lastMax : Option Nat
  short : Bool
  deriving DecidableEq, Repr

/-- A cell in a reorder store: SEQ, cell, device time of arrival, and how it reads (0 sound, 1 correctable, 2
uncorrectable, 3 not stored for want of room, R261). -/
structure RxCell where
  seq : Nat
  cell : LineCell
  arrived : Nat
  bad : Nat
  deriving DecidableEq, Repr

/-- Receive conduit state (R223-R226). -/
structure RxCon where
  /-- next SEQ to deliver; none while the conduit resynchronises -/
  expected : Option Nat
  /-- cells collected or held out of order -/
  store : List RxCell
  /-- highest SEQ received on each member since it contributes -/
  marks : List (Option Nat)
  /-- cells of the frame being rebuilt, in order; none while a frame is being dropped -/
  part : Option (List RxCell)
  /-- device time at which collection began (R225) -/
  since : Option Nat
  /-- arrivals that some contributing member has still to pass (R226): member, SEQ, device time -/
  hist : List (Nat × Nat × Nat)
  /-- Remote Fault is sent for this conduit (R183) -/
  rf : Bool
  skew : Nat
  skewNow : Nat
  deriving DecidableEq, Repr

/-- Pause state of a conduit (R253): the causes that hold. -/
structure ConPause where
  c1 : Bool
  c2 : Bool
  c3 : Bool
  c4 : Bool
  /-- the pause that ports see: frozen under HOLD, released under DRAIN -/
  on : Bool
  deriving DecidableEq, Repr

/-- An indirect command in progress (R232): operation (0 read, 1 write, 2 clear), table, index, data. -/
structure IndCmd where
  op : Nat
  table : Nat
  index : Nat
  data : BitVec 128
  deriving DecidableEq, Repr

/-- An indirect window: the command in progress, and the last 256-bit statistics entry captured. -/
structure IndWin where
  busy : Option IndCmd
  cap : Option (BitVec 256)
  deriving DecidableEq, Repr

/-- The traffic manager. -/
structure Tm where
  /-- configuration entries (R233, R269): (page * 16 + table) * 2^24 + index; page 0 QSC, 1 SCH, 2 FCT -/
  tabs : SMap (BitVec 128)
  qs : SMap QState
  gs : SMap GState
  tx : SMap TxCon
  rx : SMap RxCon
  /-- start of each carrier's next free cell slot, fs of device time (R220) -/
  slot : SMap Nat
  /-- delivery queues: port * 8 + priority (R259) -/
  dq : SMap (List QFrame)
  /-- priorities paused by the host, and those whose watchdog expired, by port (R260, R263) -/
  hostPaused : SMap Nat
  wdog : SMap Nat
  pause : SMap ConPause
  /-- SEQ of the last group pause frame of each port (R255) -/
  gpSeq : SMap Nat
  /-- operations in flight (R248) -/
  ops : Nat
  /-- operations that wait for a slot (R248) -/
  opsWait : Nat
  qsc : IndWin
  sch : IndWin
  fct : IndWin
  /-- buffer banks of 1,024 cells withdrawn from the egress and the ingress part, and cache banks withdrawn (R426) -/
  egBanks : Nat
  inBanks : Nat
  ctxBanks : Nat
  /-- the queues whose context the hub caches, the least recently used first (R228) -/
  cache : List Nat
  /-- the poison register of the context cache, and whether a poisoned context has found no place in it (R279) -/
  ctxPoison : List Nat
  ctxCrowded : Bool
  /-- LOG entries that merges have made, by the engine's page, and the device second in which (R278) -/
  mergeLogs : SMap Nat
  mergeSec : Nat
  /-- staging pages in force, while a lowered reserve waits for its pages (R265) -/
  reserve : Nat
  deriving DecidableEq, Repr

def QState.reset : QState :=
  { frames := [], steep := false, segs := [], mid := [], flying := 0, tail := 0, deficit := 0, debt := 0, tokTime := 0,
    quarantined := false, parked := false, packets := 0, bytes := 0, drops := 0, steepBytes := 0, ctxBad := 0,
    linkBad := 0, chainBad := 0 }

def GState.reset : GState :=
  { defMin := 0, defMax := 0, minDebt := 0, maxDebt := 0, tokTime := 0, last := List.replicate 8 none }

def TxCon.reset : TxCon := { seq := 0, lastMin := none, lastMax := none, short := false }

def RxCon.reset : RxCon :=
  { expected := none, store := [], marks := List.replicate 16 none, part := none, since := none, hist := [], rf := false, skew := 0, skewNow := 0 }

def ConPause.reset : ConPause := { c1 := false, c2 := false, c3 := false, c4 := false, on := false }

def IndWin.reset : IndWin := { busy := none, cap := none }

def Tm.reset : Tm :=
  { tabs := [], qs := [], gs := [], tx := [], rx := [], slot := [], dq := [], hostPaused := [], wdog := [], pause := [],
    gpSeq := [], ops := 0, opsWait := 0, qsc := IndWin.reset, sch := IndWin.reset, fct := IndWin.reset, egBanks := 0,
    inBanks := 0, ctxBanks := 0, cache := [], ctxPoison := [], ctxCrowded := false, mergeLogs := [], mergeSec := 0, reserve := 2048 }

/-- Reset of a configuration entry (R233, R269) by its key: page 0 QSC, 1 SCH, 2 FCT. -/
def entryReset (key : Nat) : BitVec 128 :=
  let w (d0 d1 d2 d3 : Nat) : BitVec 128 := BitVec.ofNat 128 (d0 + d1 * 2 ^ 32 + d2 * 2 ^ 64 + d3 * 2 ^ 96)
  let i := key % 2 ^ 24
  match key / 2 ^ 24 with
  | 0x00 => w 0 2048 65536 8192
  | 0x03 => w 0x100000 0 0 0
  | 0x10 => w 0 0 0 (16384 + 64 * 0x40000)
  | 0x12 => if i < 16 then w (2 ^ i + 0x10000) 0 0 0 else w 0 0 0 0
  | 0x13 => if i < 16 then w (2 ^ i + 0x10000 + 50 * 0x1000000) 0 0 0 else w (50 * 0x1000000) 0 0 0
  | 0x14 => w 0 65536 (192 + 128 * 256) 0
  | 0x15 => let c := i / 256; w (1 + 2 * (c % 2) + 4 * (c / 2 % 16)) 0 0 0
  | 0x20 =>
    let b := c32 i
    w (2000 + 1600 * 0x10000) (if i % 2 = 0 then b else 0) (if i % 2 = 1 then b else 0) (1 + 16384 * 0x4000)
  | 0x23 => w (131072 + 0x40000 + 0x80000 + 10 * 0x1000000) 0 0 0
  | _ => 0
where
  /-- the bit of a conduit's port on its die -/
  c32 (i : Nat) : Nat := 2 ^ (i / 2 % 16)

end Sys2Proof.Machine
end

