-- ==== Sys2Proof/Machine/State.lean ====
section
/-! DEFINITION. The state of the module: every register, store, counter, mode and pin the spec names, and the queue
of waiting commands. All of it is plain data. Registers are in one sparse map by BAR0 address; what is in no register
stands in the structures below, each naming its rules. -/
namespace Sys2Proof.Machine

/-- The state of the module. -/
structure State where
  /-- commands that wait, first in, first out -/
  pending : List Instr
  /-- what the most recent command made the module send -/
  out : List Output
  /-- index of the next free value -/
  fresh : Nat
  part : Part
  /-- device time, ns (D39; R333-R335) -/
  time : BitVec 64
  /-- registers, by BAR0 byte address -/
  regs : SMap Word
  /-- damaged words of protected memories: 1 correctable, 2 uncorrectable (R41, R276) -/
  damage : SMap Nat
  /-- counters, by BAR2 byte offset (R457) -/
  ctr : SMap Nat
  host : HostIf
  ses : SesEng
  /-- log ring: 4,096 entries of 128 bits (R65) -/
  logRing : SMap (BitVec 128)
  hubEnd : BEnd
  fieldEnd : BEnd
  mirror : Mirror
  field : Field
  start : Start
  pins : Pins
  /-- carriers C0-C15 by number -/
  cars : SMap Carrier
  tm : Tm
  cad : Cad
  mem : Mem
  lanes : Lanes
  sense : Sense
  /-- the field island's part of telemetry and thermal protection -/
  tele : Tele
  /-- the rail channel, on the field island -/
  rail : Rail
  clock : Clock
  deriving DecidableEq, Repr

/-- The module right after reset: both feeds off, nothing stored, every register at its Reset column. -/
def State.reset : State :=
  { pending := [], out := [], fresh := 0, part := .ec, time := 0, regs := [], damage := [], ctr := [],
    host := HostIf.reset, ses := SesEng.reset, logRing := [], hubEnd := BEnd.reset, fieldEnd := BEnd.reset,
    mirror := Mirror.reset, field := Field.reset, start := Start.reset, pins := Pins.reset, cars := [], tm := Tm.reset, cad := Cad.reset,
    mem := Mem.reset, lanes := Lanes.reset, sense := Sense.reset, tele := Tele.reset, rail := Rail.reset, clock := Clock.reset }

/-- Why a command stops the block. The model raises no fault: the spec gives every command an effect (no event stops
the module). Nobody raises it; it is safe. -/
inductive Fault where
  /-- raised by no command -/
  | unreachable
  deriving DecidableEq, Repr

/-- Why a command has no meaning. -/
inductive Refusal where
  /-- raised by an arm of exec whose command has no meaning yet; safe: the block stops -/
  | notModelled (mnemonic : String)
  deriving DecidableEq, Repr

end Sys2Proof.Machine
end

