-- ==== Sys2Proof/Machine/Ops.lean ====
section
/-! DEFINITION. The named operations that the commands share: registers and fields, events, the log, counters,
protected memories, page states, access control, and what follows every command (service level, interrupt lines). -/
namespace Sys2Proof.Machine

open Sys2Proof Reg

namespace State

/-! ## Registers and fields -/

/-- The word of a page at an offset. -/
def word (s : State) (p : Page) (off : Nat) : Word := s.regs.get (resetWord s.part) (p.base + off)

/-- The word of a page at an offset, replaced. -/
def setWord (s : State) (p : Page) (off : Nat) (w : Word) : State :=
  { s with regs := s.regs.set (resetWord s.part) (p.base + off) w }

/-- A field of a page. -/
def rd (s : State) (p : Page) (f : Fld) : Nat := f.get (s.word p f.off)

/-- A field of a page, signed. -/
def rdI (s : State) (p : Page) (f : Fld) : Int := f.getI (s.word p f.off)

/-- A field of a page, not 0. -/
def bit (s : State) (p : Page) (f : Fld) : Bool := decide (s.rd p f ≠ 0)

/-- A field of a page given a value. -/
def wr (s : State) (p : Page) (f : Fld) (n : Nat) : State := s.setWord p f.off (f.put (s.word p f.off) n)

/-- A field of a page given a signed value. -/
def wrI (s : State) (p : Page) (f : Fld) (i : Int) : State := s.wr p f (twos f.w i)

/-- A one-bit field of a page set or cleared. -/
def wb (s : State) (p : Page) (f : Fld) (b : Bool) : State := s.wr p f b.toNat

/-- A field that counts up and stops at its largest value. -/
def sat (s : State) (p : Page) (f : Fld) (n : Nat) : State := s.wr p f (satAdd f.w (s.rd p f) n)

/-- A value sent out. -/
def emit (s : State) (o : Output) : State := { s with out := s.out ++ [o] }

/-- A free value drawn: its index, and the state in which the next draw has the next index. -/
def draw (s : State) : Nat × State := (s.fresh, { s with fresh := s.fresh + 1 })

end State

/-! ## Counters (R457, R461, R462) -/

/-- BAR2 byte offset of counter idx of an aperture section and engine (R457). -/
def ctrSlot (sec eng idx : Nat) : Nat := 0x800 * sec + 0x100 * eng + 8 * idx

/-- The aperture section and engine of a page (R457): channels stand in sections 0x08 to 0x0A. -/
def ctrBase (p : Page) : Nat :=
  match p with
  | .mch c => 0x800 * (8 + c.val / 8) + 0x100 * (c.val % 8)
  | p => 0x800 * p.sec + 0x100 * p.index

namespace State

/-- An engine counter goes up by n and stops at 2^40 - 1 (R461). -/
def countAt (s : State) (slot n : Nat) : State :=
  { s with ctr := s.ctr.set (fun _ => 0) slot (min (s.ctr.get (fun _ => 0) slot + n) (2 ^ 40 - 1)) }

/-- A section counter goes up by n modulo 2^64 (R462). -/
def countWrapAt (s : State) (slot n : Nat) : State :=
  { s with ctr := s.ctr.set (fun _ => 0) slot ((s.ctr.get (fun _ => 0) slot + n) % 2 ^ 64) }

/-- An engine counter of a page. -/
def count (s : State) (p : Page) (idx n : Nat) : State := s.countAt (ctrBase p + 8 * idx) n

/-- A section counter of a section page. -/
def countS (s : State) (p : Page) (idx n : Nat) : State := s.countWrapAt (ctrBase p + 8 * idx) n

/-- A counter of transmit conduit c (aperture section 0x0C). -/
def countTx (s : State) (c idx n : Nat) : State := s.countWrapAt (ctrSlot 0x0C (c / 8) (4 * (c % 8) + idx)) n

/-- A counter of receive conduit c (aperture section 0x0D). -/
def countRx (s : State) (c idx n : Nat) : State := s.countWrapAt (ctrSlot 0x0D (c / 8) (4 * (c % 8) + idx)) n

/-! ## Protected memories (R40-R42, R276) -/

/-- The key of a protected word: page, FLIP_MASK target, index in the memory. -/
def damageKey (p : Page) (target idx : Nat) : Nat := 0x100000000 * (0x10 * p.base + target) + idx

/-- The armed test of a protected memory damages the word now written and disarms (R41): 0 no test, 1 a single-bit test
(also B_EN with BIT_B equal to BIT_A), 2 a double-bit test. -/
def armed (s : State) (p : Page) (target : Nat) : Nat × State :=
  if s.bit p HDR.FLIP_MASK.ARM && s.rd p HDR.FLIP_MASK.TARGET == target then
    (if s.bit p HDR.FLIP_MASK.B_EN && s.rd p HDR.FLIP_MASK.BIT_A != s.rd p HDR.FLIP_MASK.BIT_B then 2 else 1,
      s.wb p HDR.FLIP_MASK.ARM false)
  else (0, s)

/-- A corrected error of a page's memory is counted (R42). -/
def ce (s : State) (p : Page) (target : Nat) : State :=
  (s.sat p HDR.ECC_LOG.CE_COUNT 1).wr p HDR.ECC_LOG.LAST_MEM target

/-- An uncorrectable error of a page's memory is counted (R42). -/
def ue (s : State) (p : Page) (target : Nat) : State :=
  (s.sat p HDR.ECC_LOG.UE_COUNT 1).wr p HDR.ECC_LOG.LAST_MEM target

/-- A write into a protected memory: an armed test damages the word; otherwise it is stored sound. -/
def protect (s : State) (p : Page) (target idx : Nat) : State :=
  let (sev, s) := s.armed p target
  { s with damage := s.damage.set (fun _ => 0) (damageKey p target idx) sev }

/-- An error of an SRAM row in service (R427): an uncorrectable one, or the third corrected one within 1 s, makes the row due for
replacement. The row of a word is taken to be the word's own. DDR5 has no such rows. -/
def rowUse (s : State) (p : Page) (target idx : Nat) (ue : Bool) : State :=
  if p.type == .mch && decide (target < 3) then s
  else
    let k := damageKey p target idx
    let t := s.time.toNat
    let near := (s.cad.rowHits.get (fun _ => []) k).filter fun x => decide (t < x + 1000000000)
    if ue || 2 ≤ near.length then
      { s with cad := { s.cad with rowHits := s.cad.rowHits.set (fun _ => []) k [], rowsDue := s.cad.rowsDue ++ [idx] } }
    else { s with cad := { s.cad with rowHits := s.cad.rowHits.set (fun _ => []) k (near ++ [t]) } }

/-- A use of a protected word (R42, R276): a single error is corrected, written back and counted; a double error is counted
when it is found (mark 3 from then on) and answered true until the word is written again. -/
def useProt (s : State) (p : Page) (target idx : Nat) : Bool × State :=
  let key := damageKey p target idx
  match s.damage.get (fun _ => 0) key with
  | 0 => (false, s)
  | 1 => (false, { (s.ce p target).rowUse p target idx false with damage := s.damage.set (fun _ => 0) key 0 })
  | 2 => (true, { (s.ue p target).rowUse p target idx true with damage := s.damage.set (fun _ => 0) key 3 })
  | _ => (true, s)

/-- A use of a word of a store that is not written back (R276): a single error is corrected and counted at every use. -/
def useKept (s : State) (p : Page) (target idx : Nat) : Bool × State :=
  if s.damage.get (fun _ => 0) (damageKey p target idx) = 1 then (false, (s.ce p target).rowUse p target idx false)
  else s.useProt p target idx

/-! ## Log (R65-R67) -/

/-- A LOG entry: time, source section and page, code, kind, argument (R65). -/
def logEntry (time : BitVec 64) (kind sec page code arg : Nat) : BitVec 128 :=
  BitVec.ofNat 128 (time.toNat + 2 ^ 64 * (sec % 256 + 0x100 * (page % 256) + 0x10000 * (code % 0x1000) + 0x10000000 * (kind % 16))
    + 2 ^ 96 * (arg % 2 ^ 32))

/-- An entry stored in the log ring; the oldest unread entry gives way when all 4,096 are unread (R66). With it the event that this
brings, HALF (0) or LOST (1). -/
def logStore (s : State) (kind sec page code arg : Nat) : Option Nat × State :=
  let tail := s.rd .log LOG.LOG_CTRL.TAIL
  let unread := s.rd .log LOG.LOG_CTRL.UNREAD
  let i := (tail + unread) % 4096
  let s := ({ s with logRing := s.logRing.set (fun _ => 0) i (logEntry s.time kind sec page code arg) }).protect .log 0 i
  let s := s.count .log 0 1
  if unread = 4096 then
    (some 1, ((s.wr .log LOG.LOG_CTRL.TAIL ((tail + 1) % 4096)).sat .log LOG.LOG_LOST.word 1).count .log 1 1)
  else (if unread + 1 = 2048 then some 0 else none, s.wr .log LOG.LOG_CTRL.UNREAD (unread + 1))

/-- A LOG event (R66): its EVENT bit sets; LOST only where it was clear. In the interval of a warm reset it gets an entry too (R70). -/
def logEvent (s : State) (b : Nat) : State :=
  let was := (s.word .log 0x00C).getLsbD b
  let s := s.setWord .log 0x00C (s.word .log 0x00C ||| BitVec.ofNat 32 (2 ^ b))
  if s.host.window && !(was && b == 1) then (s.logStore 0 0 2 b 0).2 else s

/-- An entry written to the log ring, with the LOG event that it brings (R65, R66). -/
def log (s : State) (kind sec page code arg : Nat) : State :=
  match s.logStore kind sec page code arg with
  | (some b, s) => s.logEvent b
  | (none, s) => s

/-! ## Events (R61-R64) -/

/-- An event of a page occurs: its EVENT bit sets; in the interval of a warm reset it is written to LOG too (R70). -/
def raise (s : State) (p : Page) (b : Nat) : State :=
  let s := s.setWord p 0x00C (s.word p 0x00C ||| BitVec.ofNat 32 (2 ^ b))
  if s.host.window then s.log 0 p.sec p.index b 0 else s

/-- An event that is the first since its bit was cleared. -/
def raiseFirst (s : State) (p : Page) (b : Nat) : State := if (s.word p 0x00C).getLsbD b then s else s.raise p b

/-- An event that occurs when a condition holds. -/
def raiseIf (s : State) (c : Bool) (p : Page) (b : Nat) : State := if c then s.raise p b else s

/-! ## Page states (R39) -/

/-- PAGE_STATE codes. -/
abbrev off : Nat := 0
abbrev starting : Nat := 1
abbrev ready : Nat := 2
abbrev degraded : Nat := 3
abbrev faulted : Nat := 4
abbrev heldState : Nat := 5
abbrev drained : Nat := 6
abbrev repairing : Nat := 7

/-- The state code of a page. -/
def pst (s : State) (p : Page) : Nat := s.rd p HDR.PAGE_STATE.STATE

/-- The state code of a page set. -/
def setPst (s : State) (p : Page) (n : Nat) : State := s.wr p HDR.PAGE_STATE.STATE n

/-- PAGE_CTRL.ENABLE of a page. -/
def enabled (s : State) (p : Page) : Bool := s.bit p HDR.PAGE_CTRL.ENABLE

/-- The kinds of tile of an engine that have lost a further cell (R426). -/
def lostTiles (s : State) (p : Page) : List TileKind := (s.cad.losses.filter fun e => e.1 == p.base).map (·.2)

/-- A tile without which its engine cannot carry its function (R426); the cipher's rounds only in MODE 1. -/
def broken (s : State) (p : Page) : Bool :=
  let l := s.lostTiles p
  l.contains .txoDac || l.contains .rxeAdc || l.contains .encoder || l.contains .schSlice

/-- Lost rounds of the cipher count against an engine in MODE 1 (R426). -/
def cipherLost (s : State) (p : Page) : Bool :=
  match p with
  | .fcr k => s.bit (.fcr k) FCR.CR_CTRL.MODE && (s.lostTiles p).contains .cipher
  | _ => false

/-- What the memory section has of its own to say about a page (R295, R297): MSC reads FAULT with no logical slot in service and DEGRADED with
fewer than 16; a channel reads STARTING while it trains, FAULT when it has stopped answering, OFF once it is retired, and DEGRADED with
a device marked failed or a full remap table. -/
def memState (s : State) (p : Page) : Option Nat :=
  match p with
  | .msc =>
    let n := s.rd .msc MSC.MEM_STATUS.WORKING
    if n = 0 then some 4 else if n < 16 then some 3 else none
  | .mch c =>
    let st := s.rd p MCH.CH_STATUS.STATE
    if st = 0 || st = 6 then some 0
    else if st = 1 then some 1
    else if st = 2 && !(s.rd .msc MSC.MEM_STATUS.IN_SVC).testBit c.val then some 4
    else if s.bit p MCH.CH_STATUS.FAIL_A || s.bit p MCH.CH_STATUS.FAIL_B || s.bit p MCH.REMAP_STATUS.FULL then some 3
    else none
  | _ => none

/-- What an engine that runs reads (R13, R39, R426): FAULT with a loss that stops it, DEGRADED with another or once a tile has used its
reserve cell, else READY. -/
def runState (s : State) (p : Page) : Nat :=
  if s.broken p || s.cipherLost p then 4
  else match s.memState p with
    | some n => n
    | none => if s.rd p HDR.PAGE_STATE.RESERVE_USED = 0 && s.lostTiles p == [] then 2 else 3

/-- How long an engine reads STARTING (R501): RXE, LFE and FCR at most 1 ms; of the others the spec gives no length. -/
def startTime (s : State) (p : Page) : Nat :=
  let d := Config.startTime p.base s.time.toNat
  match p with
  | .rxe _ | .lfe _ | .fcr _ => d % 1000001
  | _ => d

/-- An engine begins to initialise (R501): it reads STARTING until that is over (State.startDone), TXO until its laser locks (R93). -/
def beginStarting (s : State) (p : Page) : State :=
  let s := s.setPst p 1
  match p with
  | .txo _ => s
  | p =>
    let t := s.time.toNat + 1 + s.startTime p
    { s with start := { s.start with starting := s.start.starting.set (fun _ => 0) p.base t } }

end State

/-! ## Interrupts (R61-R63) -/

/-- The critical bits of DEV.EVENT (R63). -/
def critBits : Word := 0x1BB

namespace State

/-- The events of a page that are pending: EVENT and EVENT_ENABLE, leaving out DEV's critical bits (R61). -/
def pendingEvents (s : State) (p : Page) : Word :=
  let e := s.word p 0x00C &&& s.word p 0x010
  if p = .dev then e &&& ~~~critBits else e

/-- The pages that have a pending event (R61). Only a listed register can differ from its reset, and EVENT resets to 0,
so the listed EVENT registers are all that need be looked at. -/
def pendingPages (s : State) : List Page :=
  (s.regs.filterMap fun e => if e.1 % 0x1000 = 0xC then Page.ofAddr e.1 else none).filter
    fun p => s.pendingEvents p != 0

/-- SEC_SUMMARY of a section (R61): bit n while page n is pending. -/
def secSummary (s : State) (sec : Nat) : Word :=
  s.pendingPages.foldl (fun w p => if p.sec = sec then w ||| BitVec.ofNat 32 (2 ^ p.index) else w) 0

/-- SECTION_SUMMARY (R62): the bit of a section, which is also its vector (R14), while the section is pending. -/
def summary (s : State) : Word :=
  s.pendingPages.foldl (fun w p => w ||| BitVec.ofNat 32 (2 ^ (if p.sec < 8 then p.sec else p.sec - 8))) 0

/-- What asks for an MSI-X message: bits 0-23 the sections that pass SECTION_MASK, bit 24 an enabled critical event
(R62, R63). -/
def asks (s : State) : Word :=
  (s.summary &&& s.word .dev 0x044 &&& 0x00FFFFFF)
    ||| (if s.word .dev 0x00C &&& s.word .dev 0x010 &&& critBits = 0 then 0 else 0x01000000)

/-- The control inputs as debounced (R453). -/
def inReset (s : State) : Bool := s.pins.resetN.asserted

/-- The hub is powered and not held in reset. -/
def hubAlive (s : State) : Bool := decide (s.start.power ≠ .off) && !s.inReset

/-- The PCI Express link is up (R498, R474). -/
def linkUp (s : State) : Bool :=
  s.hubAlive && !s.host.perst && (decide (s.host.mgmt = .running) || decide (s.host.mgmt = .changing))

/-- The vectors 0-24 whose pending bit is set and that may send. -/
def sendable (s : State) (pba : BitVec 32) : List Nat :=
  if s.linkUp && !s.host.window && s.host.msixEnable && !s.host.functionMask then
    (List.range 25).filter fun v => pba.getLsbD v && !(s.host.msix.get msixDefault (v * 16 + 12)).getLsbD 0
  else []

/-- Messages of R62 and R63: a vector that begins to ask, or whose pending bit a resend set, sends its message, or
keeps its pending bit while MSI-X masks it; a vector that no longer asks loses its pending bit. -/
def messages (s0 s : State) : State :=
  let a := s.asks
  let pba := (s.host.pba ||| (a &&& ~~~s0.asks)) &&& a
  let vs := s.sendable pba
  let pba := vs.foldl (fun w v => w &&& ~~~(BitVec.ofNat 32 (2 ^ v))) pba
  let s := { s with host := { s.host with pba := pba }, out := s.out ++ vs.map Output.msi }
  if vs = [] then s else s.count .dev 16 vs.length

/-- A resend of a vector's message (R62, R63): it is sent if the vector still asks when the command is done. -/
def resend (s : State) (v : Nat) : State :=
  { s with host := { s.host with pba := s.host.pba ||| BitVec.ofNat 32 (2 ^ v) } }

/-! ## Levels of service (R23-R27, R495) -/

/-- A carrier is configured: its four engines are enabled (R495). -/
def configured (s : State) (k : Fin 16) : Bool :=
  s.enabled (.txo k) && s.enabled (.rxe k) && s.enabled (.lfe k) && s.enabled (.fcr k)

/-- A state code by which an engine does not count as working (R495): OFF, STARTING, FAULT. -/
def idleCode (n : Nat) : Bool := n == 0 || n == 1 || n == 4

/-- A configured carrier works: none of its engines reads OFF, STARTING or FAULT (R495). -/
def working (s : State) (k : Fin 16) : Bool :=
  !(idleCode (s.pst (.txo k)) || idleCode (s.pst (.rxe k)) || idleCode (s.pst (.lfe k)) || idleCode (s.pst (.fcr k)))

/-- All carriers. -/
def carriers : List (Fin 16) := List.finRange 16

/-- A page reads FAULT: its engine cannot carry its function (R39). -/
def faulty (s : State) (p : Page) : Bool := s.pst p == 4

/-- The hub traffic manager works (R23): the hub die is up and no engine of it that traffic at S3 needs reads FAULT. Which engines these are, of
the hub here and of a host die below, is the model's choice (log 90). -/
def hubWorks (s : State) : Bool :=
  s.start.diesUp.testBit 4 && !(s.faulty .qsc || s.faulty .sch || s.faulty .bsc || s.faulty .fct)

/-- A host die works (R23): it is up, and neither its section page nor all of its lane groups read FAULT. -/
def hostDieWorks (s : State) (d : Fin 2) : Bool :=
  s.start.diesUp.testBit (5 + d.val) && !s.faulty (.hsc d) && !(List.finRange 4).all fun g => s.faulty (.hlg d g)

/-- A memory channel that is in service or stands by does not read FAULT (R495): MEM_STATUS.IN_SVC, or CH_STATUS.STATE 4 or 5. A lost
channel is out of service. -/
def channelWorks (s : State) (c : Fin 17) : Bool :=
  let st := s.rd (.mch c) MCH.CH_STATUS.STATE
  !((s.rd .msc MSC.MEM_STATUS.IN_SVC).testBit c.val || st == 4 || st == 5) || !s.faulty (.mch c)

/-- Every die works, for S4 (R23): all are up, and no page of the hub's datapath sections or of the host dies reads FAULT. -/
def allDies (s : State) : Bool :=
  decide (s.start.diesUp % 128 = 127) && s.hubWorks && !s.faulty .stp
    && (List.finRange 2).all fun d => !s.faulty (.hsc d) && !(List.finRange 4).any fun g => s.faulty (.hlg d g)

/-- The service level of the parts that work (R23, R495; log 90). The dies are bits 0-3 LD0-LD3, 4 HB, 5-6 HD0-HD1. -/
def level (s : State) : Nat :=
  if !s.start.fieldUp then 0
  else if !(s.hubAlive && s.hubEnd.up && (decide (s.host.mgmt = .running) || decide (s.host.mgmt = .changing))) then 1
  else
    let d := s.start.diesUp
    let conf := carriers.filter s.configured
    if s.start.kettle || !s.start.datapath || !s.hubWorks || !(s.hostDieWorks 0 || s.hostDieWorks 1) || d % 16 = 0
        || (conf ≠ [] && conf.all fun k => !s.working k) then 2
    else if s.allDies && s.bit .msc MSC.MEM_STATUS.DDR_SVC && (List.finRange 17).all s.channelWorks && conf.all s.working then 4
    else 3

/-- Some page reads DEGRADED or FAULT (R27). Only listed PAGE_STATE registers can differ from OFF. -/
def anyDegraded (s : State) : Bool :=
  s.regs.any fun e => e.1 % 0x1000 == 8 && (Page.ofAddr e.1).isSome && (e.2.toNat % 16 == 3 || e.2.toNat % 16 == 4)

/-- DEV_STATE (R57, R27, R442, R455). -/
def devState (s : State) (lv : Nat) : Nat :=
  if s.start.kettle then 3
  else if 3 ≤ lv then
    if s.pins.quiesceN.asserted then 4 else if lv = 4 && !s.anyDegraded then 1 else 2
  else if s.start.attempt.isSome then 0 else 5

/-- ALARM_CAUSE (R60): each bit its condition as it stands, reset or no reset: FEED the feeds themselves and the option in force on the
field side, THERMAL the dies that a trip holds off, which no reset of the hub forgets (log 91). -/
def alarmCause (s : State) (lv : Nat) : Nat :=
  let va := decide (s.field.pub.feedA.st = .valid)
  let vb := decide (s.field.pub.feedB.st = .valid)
  let single := FPW.FEED_CFG.SINGLE_ALARM.get (s.field.pub.settings.get (resetWord s.part) (Page.fpw.base + FPW.FEED_CFG.SINGLE_ALARM.off)) == 1
  let feed := (!va && !vb) || ((va != vb) && single)
  (!s.hubEnd.up).toNat + 2 * (decide (lv ≤ 2)).toNat + 4 * (decide (s.rd .tsn TSN.SHUTDOWN.OFF ≠ 0)).toNat
    + 8 * feed.toNat + 16 * s.start.kettle.toNat

/-- ALARM_N asserted (R456): any cause, or the host side without power. -/
def alarmN (s : State) : Bool :=
  decide (s.start.power = .off) || s.rd .dev DEV.ALARM_CAUSE.word != 0

/-- A frame put on the link by a side: numbered 1-255, at most 64 unacknowledged, the rest waits (R342); while its end
is down nothing is sent. -/
def sendFrom (e : BEnd) (m : BMsg) : BEnd :=
  if !e.up then e
  else if e.unacked.length < 64 && e.waiting = [] then
    let n := if e.txSeq = 255 then 1 else e.txSeq + 1
    { e with txSeq := n, unacked := e.unacked ++ [{ seq := n, sends := 1, msg := m }] }
  else { e with waiting := e.waiting ++ [m] }

/-- A message from the hub to the field island. -/
def toField (s : State) (m : BMsg) : State := { s with hubEnd := sendFrom s.hubEnd m }

/-- The field island's image restarts (R361): what is in hardware goes on, the rest stands still. -/
def imageGap (s : State) : Bool := s.field.imgRestart && decide (s.field.imgBeats = 0)

/-- The field island's image runs. -/
def fieldAwake (s : State) : Bool := s.start.fieldUp && !s.imageGap

/-- A message from the field island to the hub; what its hardware has to say while its image restarts waits (log 52). -/
def toHub (s : State) (m : BMsg) : State :=
  { s with fieldEnd := if s.imageGap then { s.fieldEnd with waiting := s.fieldEnd.waiting ++ [m] } else sendFrom s.fieldEnd m }

/-- The control-input flags (R454). -/
def inputFlags (s : State) : Nat :=
  let p := s.pins
  let all := [p.resetN, p.quiesceN, p.inhibitTxN, p.forceStartN]
  p.resetN.asserted.toNat + 2 * p.quiesceN.asserted.toNat + 4 * p.inhibitTxN.asserted.toNat + 8 * p.forceStartN.asserted.toNat
    + 16 * (all.any (·.chatter)).toNat + 32 * (all.any (·.held)).toNat

/-- The level of service is recomputed (R26): one transition, written to LOG, signalled on vector 24, and told to the field island, whose
next rail STATUS shows it (START_RESULT stage 0x10, with the control-input flags as they stand: log 92); reaching S3 or
S4 is reported to the field island as the success of an attempt (R442). DEV.STATUS, ALARM_CAUSE follow. -/
def relevel (s : State) : State :=
  let lv := s.level
  let s :=
    if !s.hubAlive then s
    else if s.rd .dev DEV.STATUS.SVC_LEVEL = lv then s
    else (((s.wr .dev DEV.STATUS.SVC_LEVEL lv).log 1 0 0 0 lv).raise .dev 0).toField (.startResult 0 s.inputFlags lv 0x10)
  let s := match s.start.attempt with
    | some a =>
      if 3 ≤ lv && !a.reported then
        { s.toField (.startResult 1 0 lv a.step) with
          start := { s.start with attempt := some { a with reported := true } } }
      else s
    | none => s
  let s := s.wr .dev DEV.ALARM_CAUSE.word (s.alarmCause lv)
  if !s.hubAlive then s
  else
    let ds := s.devState lv
    let s := s.wr .dev DEV.STATUS.DEV_STATE ds
    let s := s.wb .dev DEV.STATUS.ALARM s.alarmN
    let s := s.wb .dev DEV.STATUS.BARRIER_UP s.hubEnd.up
    s.wb .dev DEV.STATUS.READY (decide (3 ≤ lv) && (ds == 1 || ds == 2 || ds == 4))

/-- One nanosecond: device time (R334) counts while the hub is powered, whatever RESET_N does, the field island's own time while it has
power. -/
def tick (s : State) : State :=
  let s := if s.start.fieldUp then { s with tele := { s.tele with now := s.tele.now + 1 } } else s
  if s.start.power ≠ .off then { s with time := s.time + 1 } else s

/-- READY (R456). -/
def readyPin (s : State) : Bool := s.hubAlive && s.bit .dev DEV.STATUS.READY

/-- INT_N follows its condition (R60), but keeps its state in the interval of a warm reset (R68, R456). -/
def intLine (s : State) : State :=
  if s.host.window then s
  else { s with host := { s.host with intN := s.hubAlive && s.bit .dev DEV.DEV_CTRL.INT_N_ENABLE && s.asks != 0 } }

end State
end Sys2Proof.Machine
end

