-- ==== Sys2Proof/Machine/Gate.lean ====
section
/-! DEFINITION. The way of a host write into the register space, and the access rules that reads share (R6, R31-R33, R43, R44,
R49, R69, R498). -/
namespace Sys2Proof.Machine

open Sys2Proof Reg

namespace State

/-- The role of the open host session (R52). -/
def role (s : State) : Nat := s.rd .ses SES.SES_STATUS.ROLE

/-- An access outside the directory is counted (R33). -/
def countUnmapped (s : State) : State := s.sat .dev DEV.ACCESS_ERR.UNMAPPED 1

/-- A malformed access is counted (R31). -/
def countMalformed (s : State) : State := s.sat .dev DEV.ACCESS_ERR.MALFORMED 1

/-- A denied access (R44): counted by direction and recorded; the first in a second of device time is logged with kind 3
and raises ACCESS_DENIED. -/
def deny (s : State) (bar2 write : Bool) (off : Nat) : State :=
  let arg := off % 2 ^ 25 + (if bar2 then 2 ^ 30 else 0) + (if write then 2 ^ 31 else 0)
  let s := s.sat .ses (if write then SES.DENIED.WRITES else SES.DENIED.READS) 1
  let s := s.wr .ses SES.LAST_DENIED.word arg
  let s := if bar2 then s else s.count .dev 18 1
  let sec := s.time.toNat / 1000000000
  if s.ses.deniedSecond = some sec then s
  else (({ s with ses := { s.ses with deniedSecond := some sec } }).log 3 0 0 9 arg).raise .dev 9

/-- The block registers that only a custodian session writes, by page type (R43: the KW fields, KETTLE_CTRL,
COUNTER_POLICY). -/
def custodianRegs (t : PageType) : List Nat :=
  match t with
  | .dev => [0x03C, 0x048]
  | .fbr => [0x038, 0x03C]
  | .cad => [0x044, 0x048]
  | .fcr => [0x048, 0x04C]
  | _ => []

/-- The block registers whose only fields that take a write are WO (R6), by page type. -/
def commandRegs (t : PageType) : List Nat :=
  match t with
  | .log => [0x020]
  | .cad => [0x03C]
  | .ftl => [0x0A4]
  | .qsc => [0x02C]
  | .sch => [0x028]
  | .bsc => [0x028, 0x030]
  | .fct => [0x034]
  | .mch => [0x020]
  | .hsc => [0x028]
  | _ => []

/-- A register has a field that takes a write; a write to any other is ignored (R6), and R43 denies none. -/
def writable (t : PageType) (off : Nat) : Bool :=
  decide (off = 0x014) || (custodianRegs t).contains off || (commandRegs t).contains off
    || match regRow t off with
      | some r => r.rw != 0 || r.w1c != 0
      | none => false

/-- A session role may write a register (R43): SES without a session but for its EVENT_FORCE (R64), FLIP_MASK and the custodian's registers as custodian,
every other register with a field to write as operator or custodian. -/
def mayWrite (role : Nat) (p : Page) (off : Nat) : Bool :=
  if !writable p.type off then true
  else if p = .ses then decide (off ≠ 0x014) || decide (2 ≤ role)
  else if off = 0x018 || (custodianRegs p.type).contains off then decide (3 ≤ role)
  else decide (2 ≤ role)

/-- A session role may read a page (R43). -/
def mayRead (role : Nat) (p : Page) : Bool :=
  decide (p = .dev) || decide (p = .ses) || decide (1 ≤ role)

/-- The page at a BAR0 address as the module now answers: in kettle mode the engine pages of the line and host dies are
absent (R33, R447). -/
def pageAt (s : State) (addr : Nat) : Option Page :=
  match Page.ofAddr addr with
  | some p => if s.start.kettle && decide (6 ≤ p.sec) then none else some p
  | none => none

/-- A host write restarts the inactivity timer of an open session (R49: a write by host software to any register). The model's choice
(log 89): a write that is then discarded, as malformed, unmapped or denied, restarts it too. -/
def touch (s : State) : State :=
  if s.role = 0 then s else { s with ses := { s.ses with lastWrite := s.time } }

/-- A host write to BAR0 on its way to the effect that its register gives it: nothing while the link is down; held
while D37 changes source (R498); discarded in the interval of a warm reset (R69); counted as malformed with partial byte
enables or off a dword (R31); ignored and counted outside the directory (R33); denied by the role check (R43, R44). -/
def gateWrite (s : State) (addr : Nat) (v : Word) (be : BitVec 4) (eff : State → State) : State :=
  if !s.linkUp then s
  else if s.host.mgmt = .changing then
    ({ s with host := { s.host with held := s.host.held ++ [HostReq.write0 addr v be] } }).emit .held
  else if s.host.window then s
  else
    let s := s.touch
    if be ≠ 15 || addr % 4 ≠ 0 then s.countMalformed
    else match s.pageAt addr with
      | none => s.countUnmapped
      | some p => if mayWrite s.role p (addr % 0x1000) then eff s else s.deny false true addr

/-- A whole write to a register of a page. -/
def gateReg (s : State) (p : Page) (off : Nat) (v : Word) (eff : State → State) : State :=
  s.gateWrite (p.base + off) v 15 eff

/-- A register takes a written word in its RW bits and loses the W1C bits written as 1 (R6, R7). -/
def plainWrite (s : State) (p : Page) (off : Nat) (v : Word) : State :=
  match regRow p.type off with
  | some r =>
    let rw := BitVec.ofNat 32 r.rw
    let w := s.word p off
    s.setWord p off (((w &&& ~~~rw) ||| (v &&& rw)) &&& ~~~(v &&& BitVec.ofNat 32 r.w1c))
  | none => s

end State
end Sys2Proof.Machine
end

