-- ==== Sys2Proof/Machine/CarOps.lean ====
section
/-! DEFINITION. What the commands of the carriers share: the carrier record, the conditions for light (R85), reported defects
(R179), the carrier state (R184), engine page states, configuration entries of conduits (R210). -/
namespace Sys2Proof.Machine

open Sys2Proof Reg

namespace State

/-! ## Records -/

/-- A carrier's record. -/
def car (s : State) (k : Fin 16) : Carrier := s.cars.get (fun _ => Carrier.reset) k.val

/-- A carrier's record, replaced. -/
def setCar (s : State) (k : Fin 16) (c : Carrier) : State :=
  { s with cars := s.cars.set (fun _ => Carrier.reset) k.val c }

/-- A carrier's record, changed. -/
def updCar (s : State) (k : Fin 16) (f : Carrier → Carrier) : State := s.setCar k (f (s.car k))

/-- The traffic manager, changed. -/
def updTm (s : State) (f : Tm → Tm) : State := { s with tm := f s.tm }

/-- The caddy, changed. -/
def updCad (s : State) (f : Cad → Cad) : State := { s with cad := f s.cad }

/-- A configuration entry of the indirect tables (R233, R269): page 0 QSC, 1 SCH, 2 FCT. -/
def entry (s : State) (page table i : Nat) : BitVec 128 := s.tm.tabs.get entryReset (0x1000000 * (16 * page + table) + i)

/-- A configuration entry, replaced. -/
def setEntry (s : State) (page table i : Nat) (v : BitVec 128) : State :=
  s.updTm fun t => { t with tabs := t.tabs.set entryReset (0x1000000 * (16 * page + table) + i) v }

/-- Bits of an entry: word, lowest bit, width. -/
def ebits (e : BitVec 128) (word lo w : Nat) : Nat := (e.extractLsb' (32 * word + lo) w).toNat

/-! ## Dies -/

/-- The line die of a carrier has passed its self-test and has its rails. -/
def ldUp (s : State) (k : Fin 16) : Bool := s.start.diesUp.testBit (k.val / 4)

/-- The die that an engine page stands on, as a bit of diesUp: 0-3 LD0-LD3, 4 HB, 5-6 HD0-HD1 (R14, 01 "Dies"). -/
def dieOf (p : Page) : Nat :=
  match p with
  | .csc k | .txo k | .rxe k | .lfe k | .fcr k => k.val / 4
  | .hsc d | .hlg d _ => 5 + d.val
  | _ => 4

/-- The die of a page runs. -/
def dieUp (s : State) (p : Page) : Bool := s.start.diesUp.testBit (dieOf p)

/-- The engine of a page is enabled, on a die that runs, and has lost no tile that it cannot do without (R426). -/
def runs (s : State) (p : Page) : Bool := s.enabled p && s.dieUp p && !s.broken p

/-- The domain that clocks the carriers' coding and framing coasts (R329): no carrier carries traffic. -/
def codingCoasts (s : State) : Bool := s.rd .tim (TIM.DOMn.COAST.nth 36) == 1

/-- PAGE_CTRL.HOLD acts on an engine (R118, R250, R316 and the HOLD texts of 03, 05, 07-10, 12, 13). -/
def canHold (p : Page) : Bool :=
  match p.type with
  | .txo | .rxe | .lfe | .fcr | .sch | .stp | .fct | .hlg | .vsq => true
  | _ => false

/-- PAGE_CTRL.DRAIN acts on an engine (R118, R142, R187, R250 and the DRAIN texts of 03, 09, 10). -/
def canDrain (p : Page) : Bool :=
  match p.type with
  | .txo | .rxe | .lfe | .fcr | .sch | .stp | .fct => true
  | _ => false

/-- An engine leaves HELD or DRAINED when the bit that asked for it is clear (R37, R38). -/
def leave (s : State) (p : Page) : State :=
  let hold := canHold p && s.bit p HDR.PAGE_CTRL.HOLD
  match s.pst p with
  | 5 => if hold then s else s.setPst p (s.runState p)
  | 6 => if s.bit p HDR.PAGE_CTRL.DRAIN then s else s.setPst p (if hold then 5 else s.runState p)
  | _ => s

/-! ## Conduits (R210, R211, R221) -/

/-- Members of a transmit conduit, as bits. -/
def txMembers (s : State) (c : Nat) : Nat := ebits (s.entry 1 2 c) 0 0 16

/-- A transmit conduit is enabled; an entry with an uncorrectable error acts as disabled (R238). -/
def txOn (s : State) (c : Nat) : Bool :=
  ebits (s.entry 1 2 c) 0 16 1 = 1 && s.damage.get (fun _ => 0) (damageKey .sch 1 (c + 0x1000)) != 3

/-- Members of a receive conduit, as bits. -/
def rxMembers (s : State) (c : Nat) : Nat := ebits (s.entry 1 3 c) 0 0 16

/-- A receive conduit is enabled. -/
def rxOn (s : State) (c : Nat) : Bool :=
  ebits (s.entry 1 3 c) 0 16 1 = 1 && s.damage.get (fun _ => 0) (damageKey .sch 1 (c + 0x2000)) != 3

/-- The enabled transmit conduit of a carrier. -/
def txConduit (s : State) (k : Fin 16) : Option Nat :=
  (List.range 64).find? fun c => s.txOn c && (s.txMembers c).testBit k.val

/-- The enabled receive conduit of a carrier. -/
def rxConduit (s : State) (k : Fin 16) : Option Nat :=
  (List.range 64).find? fun c => s.rxOn c && (s.rxMembers c).testBit k.val

/-- The carriers whose bits are set. -/
def membersOf (m : Nat) : List (Fin 16) := carriers.filter fun k => m.testBit k.val

/-- A carrier is a member of an enabled transmit conduit that has other members. -/
def bondedTx (s : State) (k : Fin 16) : Bool :=
  match s.txConduit k with
  | some c => decide (1 < popCount 16 (s.txMembers c))
  | none => false

/-- A carrier is a member of an enabled receive conduit that has other members. -/
def bondedRx (s : State) (k : Fin 16) : Bool :=
  match s.rxConduit k with
  | some c => decide (1 < popCount 16 (s.rxMembers c))
  | none => false

/-! ## Light (R85, R86) -/

/-- INHIBIT_TX_N as debounced. -/
def inhibited (s : State) : Bool := s.pins.inhibitTxN.asserted

/-- Light may leave the engine of Ck (R85, R93). -/
def mayShine (s : State) (k : Fin 16) : Bool :=
  s.enabled (.txo k) && s.pst (.txo k) != 5 && s.pst (.txo k) != 4 && s.bit (.txo k) TXO.TX_CTRL.OUTPUT_EN
    && s.bit (.txo k) TXO.TX_STATUS.LOCKED && !s.inhibited && s.ldUp k

/-- The shutter follows R85: it opens and the output ramps to the setpoint, or it closes and the output is dark. -/
def relight (s : State) (k : Fin 16) : State :=
  let on := s.mayShine k
  let c := s.car k
  let s :=
    if on && !c.shutter then
      (s.setCar k { c with shutter := true, ramp := true }).wb (.txo k) TXO.TX_STATUS.LIGHT false
    else if !on && c.shutter then
      ((s.setCar k { c with shutter := false, ramp := false }).wb (.txo k) TXO.TX_STATUS.LIGHT false).wrI (.txo k)
        TXO.TX_POWER_MON.MEASURED (-4000)
    else s
  s

/-- The tilt that a subcarrier's register field asks for (R78). -/
def tiltSet (s : State) (k : Fin 16) (i : Nat) : Int :=
  let f : Fld := if i < 4 then ⟨TXO.TILT_LO.SC0.off, 8 * i, 8⟩ else ⟨TXO.TILT_HI.SC4.off, 8 * (i - 4), 8⟩
  s.rdI (.txo k) f

/-- A power or tilt ramp is in progress (R89, R78). -/
def ramping (s : State) (k : Fin 16) : Bool :=
  (s.car k).ramp || (s.enabled (.txo k) && (List.range 8).any fun i =>
    (s.car k).txMap.on.testBit i && s.tiltSet k i != (s.car k).tiltNow.getD i 0)

/-! ## Defects and carrier state (R179, R184, R200, R201) -/

/-- The 800ZR mode in force (R143, R157). -/
def zr (s : State) (k : Fin 16) : Bool := s.bit (.lfe k) LFE.FEC_STATUS.ZR_ACTIVE

/-- The line is encrypted (R201): the crypto part is bypassed in the 800ZR mode (R157). -/
def encrypted (s : State) (k : Fin 16) : Bool := s.bit (.fcr k) FCR.CR_CTRL.MODE && !s.zr k

/-- Reported defects: bits 0 LOS, 1 LOF, 2 AIS, 3 RDI, 4 CRYPT, 5 CRYPT_STALE (R179). -/
def defects (s : State) (k : Fin 16) : Nat :=
  let c := s.car k
  let los := c.los
  let lof := c.lof && !los
  let ais := c.ais && !los && !c.lof
  let rdi := c.rdi && !los && !c.lof
  let crypt := s.bit (.fcr k) FCR.CR_STATUS.CRYPT && !s.zr k && !los && !c.lof && !c.ais
  let stale := s.bit (.fcr k) FCR.CR_STATUS.RX_STALE || s.bit (.fcr k) FCR.CR_STATUS.TX_BLOCKED
  los.toNat + 2 * lof.toNat + 4 * ais.toNat + 8 * rdi.toNat + 16 * crypt.toNat + 32 * stale.toNat

/-- A receiver needs RDI sent for it: reported LOS, LOF, AIS or CRYPT with AUTO_RDI (R181). -/
def needsRdi (s : State) (k : Fin 16) : Bool :=
  s.bit (.csc k) CSC.CSC_CTRL.AUTO_RDI && decide (s.defects k &&& 0x17 ≠ 0)

/-- The transmit carrier paired with a receiver (R132, R181): CSC_CTRL.PAIR, or the pairing before it until the next frame boundary (R185). -/
def pair (s : State) (k : Fin 16) : Fin 16 := (s.car k).pairOld.getD (Fin.ofNat 16 (s.rd (.csc k) CSC.CSC_CTRL.PAIR))

/-- The receivers that drive RDI on a transmitter, as bits (R181). -/
def rdiSrc (s : State) (m : Fin 16) : Nat :=
  carriers.foldl (fun a k => if s.needsRdi k && decide (s.pair k = m) then a + 2 ^ k.val else a) 0

/-- The four engines of a carrier. -/
def engines (k : Fin 16) : List Page := [.txo k, .rxe k, .lfe k, .fcr k]

/-- Carrier state (R184): while RXE is in HOLDOVER the state before it is kept. -/
def carState (s : State) (k : Fin 16) : Nat :=
  let any (n : Nat) := (engines k).any fun p => s.pst p == n
  if s.rd (.rxe k) RXE.RX_STATUS.ACQ_STATE = 9 then s.rd (.csc k) CSC.CSC_STATUS.STATE
  else if !s.configured k then 0
  else if any 4 then 8
  else if !s.bit (.txo k) TXO.TX_STATUS.LOCKED then 1
  else if !s.bit (.rxe k) RXE.RX_STATUS.LOCKED || (s.car k).los then 2
  else if s.rd (.fcr k) FCR.FR_STATUS.ALIGN ≠ 3 then 3
  else if s.pst (.lfe k) = 6 then 7
  else if !(s.car k).negDone && !s.zr k then 4
  else if s.defects k &&& 0x3C ≠ 0 || any 3 || s.rd (.lfe k) LFE.LM_STATUS.TX_STATE = 5 then 6
  else 5

/-- An engine that runs reads DEGRADED for its used reserve cells or for the reductions its chapter names (R82, R120,
R147), else READY; other codes stay. -/
def restate (s : State) (k : Fin 16) : State :=
  let f (s : State) (p : Page) (why : Bool) : State :=
    let n := s.pst p
    if n = 2 || n = 3 then
      let r := s.runState p
      let m := if why && r == 2 then 3 else r
      if n = m then s else s.setPst p m
    else s
  let c := s.car k
  let s := f s (.txo k) c.coefUe
  let s := f s (.rxe k) c.adcUe
  let s := f s (.lfe k) (s.rd (.lfe k) LFE.LM_STATUS.TX_STATE == 5)
  f s (.fcr k) false

/-- PAGE_STATE of CSC: the worst of the four engines, ranked FAULT, DEGRADED, REPAIRING, STARTING, READY (R184); HELD and
DRAINED rank as READY, and it reads OFF while all four do (DEDUCED, log 12). -/
def cscPst (s : State) (k : Fin 16) : Nat :=
  let any (n : Nat) := (engines k).any fun p => s.pst p == n
  if any 4 then 4 else if any 3 then 3 else if any 7 then 7 else if any 1 then 1
  else if (engines k).all fun p => s.pst p == 0 then 0 else 2

/-- Counters of the reported defects (19: CSC 16-20). -/
def countDefects (s : State) (k : Fin 16) (on : Nat) : State :=
  (List.range 5).foldl (fun s i => if on.testBit i then s.count (.csc k) (16 + i) 1 else s) s

/-- Penalty of an iteration ceiling, 0.125 dB units (R154). -/
def fecPenalty (n : Nat) : Nat :=
  match n with
  | 10 | 9 => 1 | 8 => 2 | 7 => 3 | 6 => 4 | 5 => 6 | 4 => 8 | 3 => 12 | 2 => 18 | 1 => 18 | 0 => 18 | _ => 0

/-- GOV_CEIL of a carrier (R323): the lower limit of its line die's and the hub's governors; 12 before they run. -/
def govCeil (s : State) (k : Fin 16) : Nat :=
  let l (g : Nat) : Nat := match s.rd .vsq (VSQ.GOV_LD0.LIMIT.nth g) with
    | 0 => 12
    | n => n
  min (l (k.val / 4)) (l 4)

/-- The effective iteration ceiling of a carrier follows its two limits (R152-R154). -/
def refec (s : State) (k : Fin 16) : State :=
  let p := Page.lfe k
  let g := s.govCeil k
  let i := s.rd p LFE.FEC_CTRL.ITER_CEIL
  let was := s.bit p LFE.FEC_STATUS.GOV_LIMITED
  let lim := decide (g < i)
  let s := if s.rd p LFE.FEC_STATUS.GOV_CEIL = g then s else (s.wr p LFE.FEC_STATUS.GOV_CEIL g).count p 13 1
  let s := (s.wr p LFE.FEC_STATUS.ITER_EFF (min g i)).wr p LFE.FEC_STATUS.PENALTY (fecPenalty (min g i))
  let s := s.wb p LFE.FEC_STATUS.GOV_LIMITED lim
  (s.raiseIf (lim && !was) p 9).raiseIf (!lim && was) p 10

/-- The transmit direction is blocked for want of a key (R200, R201). -/
def reblock (s : State) (k : Fin 16) : State :=
  let p := Page.fcr k
  let b := s.encrypted k && (s.car k).txKey.isNone
  let st := !s.zr k && ((s.car k).slots.drop 2).any (·.retired)
  (s.wb p FCR.CR_STATUS.TX_BLOCKED b).wb p FCR.CR_STATUS.RX_STALE st

/-- The section control engine of a carrier follows its inputs: reported defects, RDI sources, state, page state (R178-R186). -/
def recsc (s : State) (k : Fin 16) : State :=
  let s := (s.refec k).reblock k
  let s := s.restate k
  let s := s.relight k
  let s := if s.rd (.txo k) TXO.LASER_STATUS.TUNE_STATE = 0 then s
    else s.wr (.txo k) TXO.LASER_STATUS.BAND (s.rd .tsn TSN.BANDS.word / 4 ^ (k.val / 4) % 4)
  let s := s.wb (.txo k) TXO.TX_STATUS.RAMPING (s.ramping k)
  let c := s.car k
  let s := if !c.negDone && c.txMap.id != 0 && c.rxMap.id != 0 then s.setCar k { c with negDone := true } else s
  let old := s.rd (.csc k) ⟨CSC.CSC_STATUS.LOS.off, 8, 6⟩
  let new := s.defects k
  let s :=
    if old = new then s
    else
      let on := new &&& (new ^^^ old)
      let off := old &&& (new ^^^ old)
      let s := s.wr (.csc k) ⟨CSC.CSC_STATUS.LOS.off, 8, 6⟩ new
      let s := s.setWord (.csc k) 0x02C (s.word (.csc k) 0x02C ||| BitVec.ofNat 32 on)
      let s := (s.raiseIf (on != 0) (.csc k) 1).raiseIf (off != 0) (.csc k) 2
      s.countDefects k on
  let s := s.wr (.csc k) CSC.RDI_SRC.word (s.rdiSrc k)
  let n := s.carState k
  let o := s.rd (.csc k) CSC.CSC_STATUS.STATE
  let s :=
    if n = o then s
    else
      let s := (s.wr (.csc k) CSC.CSC_STATUS.PREV_STATE o).wr (.csc k) CSC.CSC_STATUS.STATE n
      let s := (s.wr (.csc k) CSC.STATE_TIME_LO.word s.time.toNat).wr (.csc k) CSC.STATE_TIME_HI.word
        (s.time.toNat / 2 ^ 32)
      ((s.count (.csc k) 21 1).raise (.csc k) 0)
  s.setPst (.csc k) (s.cscPst k)

/-- The carriers that some register or record marks as touched: only these can differ from reset. -/
def liveCarriers (s : State) : List (Fin 16) :=
  if s.rd .vsq VSQ.GOV_STATUS.LIMITED ≠ 0 then carriers
  else carriers.filter fun k =>
    (s.cars.any fun e => e.1 == k.val) || s.regs.any fun e => e.1 / 0x100000 == 0x10 + k.val

/-- All carriers follow their inputs. -/
def recarriers (s : State) : State := s.liveCarriers.foldl recsc s

end State
end Sys2Proof.Machine
end

