-- ==== Sys2Proof/Machine/Ports.lean ====
section
/-! DEFINITION. Records of the host dies: ports, lanes, spares, and which of them exist (R298, R299). -/
namespace Sys2Proof.Machine

open Sys2Proof Reg

namespace State

/-! ## Records -/

def die (s : State) (d : Fin 2) : HostDie := s.lanes.dies.get (fun _ => HostDie.reset) d.val
def setDie (s : State) (d : Fin 2) (x : HostDie) : State :=
  { s with lanes := { s.lanes with dies := s.lanes.dies.set (fun _ => HostDie.reset) d.val x } }
def hgrp (s : State) (d : Fin 2) (g : Fin 4) : LaneGroup := s.lanes.groups.get (fun _ => LaneGroup.reset) (4 * d.val + g.val)
def setHgrp (s : State) (d : Fin 2) (g : Fin 4) (x : LaneGroup) : State :=
  { s with lanes := { s.lanes with groups := s.lanes.groups.set (fun _ => LaneGroup.reset) (4 * d.val + g.val) x } }

/-- Ports of a group and lanes of a port in the die's port mode (R298). -/
def portsPerGroup (s : State) (d : Fin 2) : Nat := if s.bit (.hsc d) HSC.HOST_CTRL.PORT_MODE then 8 else 4
def lanesPerPort (s : State) (d : Fin 2) : Nat := if s.bit (.hsc d) HSC.HOST_CTRL.PORT_MODE then 4 else 8

/-- The group of a port of a die. -/
def portGroup (s : State) (d : Fin 2) (p : Nat) : Fin 4 := Fin.ofNat 4 (p / s.portsPerGroup d)

def portSt (s : State) (d : Fin 2) (p : Nat) : PortSt :=
  (s.hgrp d (s.portGroup d p)).ports.get (fun _ => PortSt.reset) (p % s.portsPerGroup d)
def setPortSt (s : State) (d : Fin 2) (p : Nat) (x : PortSt) : State :=
  let g := s.portGroup d p
  let h := s.hgrp d g
  s.setHgrp d g { h with ports := h.ports.set (fun _ => PortSt.reset) (p % s.portsPerGroup d) x }
def laneSt (s : State) (d : Fin 2) (l : Nat) : LaneSt :=
  (s.hgrp d (Fin.ofNat 4 (l / 32))).lanes.get (fun _ => LaneSt.reset) (l % 32)
def setLaneSt (s : State) (d : Fin 2) (l : Nat) (x : LaneSt) : State :=
  let g : Fin 4 := Fin.ofNat 4 (l / 32)
  let h := s.hgrp d g
  s.setHgrp d g { h with lanes := h.lanes.set (fun _ => LaneSt.reset) (l % 32) x }
def spareSt (s : State) (d : Fin 2) (dir : Bool) (i : Nat) : Spare :=
  (if dir then (s.die d).tx else (s.die d).rx).get (fun _ => Spare.reset) i
def setSpareSt (s : State) (d : Fin 2) (dir : Bool) (i : Nat) (x : Spare) : State :=
  let h := s.die d
  s.setDie d (if dir then { h with tx := h.tx.set (fun _ => Spare.reset) i x }
    else { h with rx := h.rx.set (fun _ => Spare.reset) i x })

/-- Ports of a die (R298). -/
def diePorts (s : State) (d : Fin 2) : List Nat := List.range (4 * s.portsPerGroup d)

def portEnabled (s : State) (d : Fin 2) (p : Nat) : Bool := HLG.PORT_CTRL.ENABLE.get (s.portSt d p).ctrl == 1
def portSteerable (s : State) (d : Fin 2) (p : Nat) : Bool := HLG.PORT_CTRL.STEERABLE.get (s.portSt d p).ctrl == 1
def portUp (s : State) (d : Fin 2) (p : Nat) : Bool := HLG.PORT_STATUS.LINK_UP.get (s.portSt d p).status == 1

/-- The port that owns a working lane (R298). -/
def portOfLane (s : State) (d : Fin 2) (l : Nat) : Nat := l / s.lanesPerPort d

/-- A port named by its number in the module: 32 * die + port of the die (R227, R254). -/
def modulePort (p : Fin 64) : Fin 2 × Nat := (Fin.ofNat 2 (p.val / 32), p.val % 32)

/-- A host die works: its page is enabled and it has its rails (R314). -/
def hostDieOn (s : State) (d : Fin 2) : Bool := s.enabled (.hsc d) && s.dieUp (.hsc d)

/-- A port that exists in its die's port mode works: its die and its lane group run, and it is enabled. -/
def portWorks (s : State) (d : Fin 2) (p : Nat) : Bool :=
  s.hostDieOn d && (s.diePorts d).contains p && s.runs (.hlg d (s.portGroup d p)) && s.portEnabled d p

/-- A port sends Remote Fault (R301): it works, and its receive side is not aligned or receives Local Fault. -/
def faultSent (s : State) (d : Fin 2) (p : Nat) : Bool :=
  let w := (s.portSt d p).status
  s.portWorks d p && (HLG.PORT_STATUS.ALIGNED.get w == 0 || HLG.PORT_STATUS.LF_RX.get w == 1)

/-- A port of the module that exists in its die's port mode, on a die that runs, and reads LINK_UP (R209, R227, R301). -/
def portLive (s : State) (port : Nat) : Bool :=
  let d : Fin 2 := Fin.ofNat 2 (port / 32)
  let p := port % 32
  s.hostDieOn d && decide (p < 4 * s.portsPerGroup d) && s.portEnabled d p && s.portUp d p

/-- What leaves on the lanes of a port when a frame goes into its coder, and the coder then (R300). -/
def portCode (s : State) (port : Nat) (frame : List Byte) : List (List (List (BitVec 10))) × PortCoder :=
  let d : Fin 2 := Fin.ofNat 2 (port / 32)
  (s.portSt d (port % 32)).coder.take (s.lanesPerPort d) frame

/-- The lanes of a port. -/
def portLanes (s : State) (d : Fin 2) (p : Nat) : List Nat := (List.range (s.lanesPerPort d)).map (s.lanesPerPort d * p + ·)

/-- A lane is in near-end loopback: its receive input from outside is ignored (R304). -/
def nearLane (s : State) (d : Fin 2) (l : Nat) : Bool :=
  let lp := HLG.LANE_TEST.LOOPBACK.get (s.laneSt d l).test
  lp == 1 || lp == 2

/-- A lane is in far-end loopback, or its generator drives it: it does not carry its port's data (R304, R305). -/
def drivenLane (s : State) (d : Fin 2) (l : Nat) : Bool :=
  let w := (s.laneSt d l).test
  HLG.LANE_TEST.LOOPBACK.get w == 3 || HLG.LANE_TEST.PRBS.get w != 0

/-- All lanes of a port are in near-end loopback: what it sends comes back to it (R304). -/
def portLooped (s : State) (d : Fin 2) (p : Nat) : Bool := (s.portLanes d p).all (s.nearLane d)

/-- A port sends a frame, given from destination address to check: HSC counts it, and the event and the codewords that it completes go out, on
the lanes that carry its data (R304, R305); in near-end loopback the frame comes back. -/
def portSend (s : State) (port : Nat) (o : Output) (frame : List Byte) : State :=
  let d : Fin 2 := Fin.ofNat 2 (port / 32)
  let p := port % 32
  let (l, c) := s.portCode port frame
  let s := (s.countS (.hsc d) 2 1).countS (.hsc d) 3 frame.length
  let x := s.portSt d p
  let s := s.setPortSt d p { x with coder := c, loop := if s.portLooped d p then x.loop ++ [frame] else x.loop }
  let driven := (s.portLanes d p).map (s.drivenLane d)
  let s := if driven.any id then s else s.emit o
  l.foldl (fun s x =>
    s.emit (.hostCode (Fin.ofNat 64 port) (List.zipWith (fun b y => if b then [] else y) driven x))) s

/-- A store that its engine rewrites at once (R315, R317): an armed test damages the word, its use finds it, raises the event,
and the word is repaired. -/
def selfTest (s : State) (p : Page) (target ev : Nat) : State :=
  let s := s.protect p target 0
  let (bad, s) := s.useProt p target 0
  let s := { s with damage := s.damage.set (fun _ => 0) (damageKey p target 0) 0 }
  s.raiseIf bad p ev

end State
end Sys2Proof.Machine
end

