-- ==== Sys2Proof/Machine/TmOps.lean ====
section
/-! DEFINITION. The traffic manager's shared operations: entries and their fields, buffer occupancy, steep, drops, token
buckets, conduit capacity, pause and its frames (R210-R217, R228-R231, R239-R259). -/
namespace Sys2Proof.Machine

open Sys2Proof Reg

/-! ## Entry fields (R233, R269) -/

namespace QCfg
def group (e : BitVec 128) : Nat := State.ebits e 0 0 16
def band (e : BitVec 128) : Nat := State.ebits e 0 16 3
def enable (e : BitVec 128) : Bool := State.ebits e 0 19 1 = 1
def profile (e : BitVec 128) : Nat := State.ebits e 0 20 12
def quantum (e : BitVec 128) : Nat := State.ebits e 1 0 18
def maxDepth (e : BitVec 128) : Nat := State.ebits e 2 0 24
def steepThresh (e : BitVec 128) : Nat := State.ebits e 3 0 24
end QCfg

namespace GCfg
def conduit (e : BitVec 128) : Nat := State.ebits e 0 0 6
def enable (e : BitVec 128) : Bool := State.ebits e 0 6 1 = 1
def pauseGroup (e : BitVec 128) : Nat := State.ebits e 0 8 12
def label (e : BitVec 128) : Nat := State.ebits e 0 24 8
def minRate (e : BitVec 128) : Nat := State.ebits e 1 0 26
def maxRate (e : BitVec 128) : Nat := State.ebits e 2 0 26
def quantum (e : BitVec 128) : Nat := State.ebits e 3 0 18
def burst (e : BitVec 128) : Nat := State.ebits e 3 18 14
end GCfg

/-- Cells of a frame: 256 bytes each, the last perhaps part filled (R239). -/
def QFrame.cells (f : QFrame) : Nat := ceilDiv f.bytes.length 256

/-- Cells of the head, on die. -/
def QState.headCells (q : QState) : Nat := q.segs.foldl (fun a e => a + e.2) 0

/-- Cells held on die, those of the staging area included (R246). -/
def QState.onDie (q : QState) : Nat := q.headCells + q.tail

/-- Cells held on die outside the staging area. -/
def QState.plain (q : QState) : Nat := q.segs.foldl (fun a e => if e.1.isSome then a else a + e.2) 0 + q.tail

/-- Pages of the staging area that the queue holds or awaits. -/
def QState.staging (q : QState) : Nat := q.segs.countP (·.1.isSome) + q.flying

/-- Cells held, on die and in DDR5 (R233). -/
def QState.depth (q : QState) : Nat := q.onDie + 16 * q.mid.length

/-- The pages of DDR5 that a queue holds: those of its middle, and those whose cells still lie in the staging area (R251). -/
def QState.pages (q : QState) : List Nat := q.mid.map (·.page) ++ q.segs.filterMap (·.1)

/-- Frames with the cells at [start, start + n) changed by a function of the bytes of the frame that lie there; position p is
that of the list's first cell. -/
def touchCells (fs : List QFrame) (p start n : Nat) (f : QFrame → Nat → QFrame) : List QFrame :=
  match fs with
  | [] => []
  | x :: r =>
    let c := x.cells
    let lo := max p start
    let hi := min (p + c) (start + n)
    let y := if lo < hi then f x (min x.bytes.length ((hi - p) * 256) - (lo - p) * 256) else x
    y :: touchCells r (p + c) start n f

/-- Cells taken from the front of the head; a page whose last cell goes is free again (R251). -/
def takeHead (l : List (Option Nat × Nat)) (n : Nat) : List (Option Nat × Nat) :=
  match l with
  | [] => []
  | (pg, c) :: r => if n < c then (pg, c - n) :: r else takeHead r (n - c)

/-- The frames of a list whose first cell lies in the cells [start, start + n), with its place there; p is the place of the list's first cell. -/
def startsIn (fs : List QFrame) (p start n : Nat) : List (Nat × QFrame) :=
  match fs with
  | [] => []
  | x :: r =>
    let l := startsIn r (p + x.cells) start n
    if start ≤ p && p < start + n then (p - start, x) :: l else l

/-- The first page from p on that is neither in use nor retired nor on a withdrawn slot (R251). -/
def freeFrom (gone lost : List Nat) (p fuel : Nat) : Nat :=
  match fuel with
  | 0 => p
  | n + 1 => if gone.contains p || lost.contains (p % 16) then freeFrom gone lost ((p + 1) % 117440512) n else p

namespace State

def queue (s : State) (i : Nat) : QState := s.tm.qs.get (fun _ => QState.reset) i
def setQueue (s : State) (i : Nat) (q : QState) : State :=
  s.updTm fun t => { t with qs := t.qs.set (fun _ => QState.reset) i q }
def group (s : State) (i : Nat) : GState := s.tm.gs.get (fun _ => GState.reset) i
def setGroup (s : State) (i : Nat) (g : GState) : State :=
  s.updTm fun t => { t with gs := t.gs.set (fun _ => GState.reset) i g }
def txCon (s : State) (i : Nat) : TxCon := s.tm.tx.get (fun _ => TxCon.reset) i
def setTxCon (s : State) (i : Nat) (c : TxCon) : State :=
  s.updTm fun t => { t with tx := t.tx.set (fun _ => TxCon.reset) i c }
def rxCon (s : State) (i : Nat) : RxCon := s.tm.rx.get (fun _ => RxCon.reset) i
def setRxCon (s : State) (i : Nat) (c : RxCon) : State :=
  s.updTm fun t => { t with rx := t.rx.set (fun _ => RxCon.reset) i c }
def delivery (s : State) (port prio : Nat) : List QFrame := s.tm.dq.get (fun _ => []) (port * 8 + prio)
def setDelivery (s : State) (port prio : Nat) (l : List QFrame) : State :=
  s.updTm fun t => { t with dq := t.dq.set (fun _ => []) (port * 8 + prio) l }

def qcfg (s : State) (i : Nat) : BitVec 128 := s.entry 0 0 i
def gcfg (s : State) (i : Nat) : BitVec 128 := s.entry 1 0 i
def prof (s : State) (i : Nat) : BitVec 128 := s.entry 1 4 i

/-- A table entry found uncorrectable acts as disabled until it is rewritten (R238). -/
def lost (s : State) (target idx : Nat) : Bool := s.damage.get (fun _ => 0) (damageKey .sch target idx) == 3

/-- A group is enabled. -/
def groupOn (s : State) (g : Nat) : Bool := GCfg.enable (s.gcfg g) && !s.lost 0 g

/-- The conduit of a queue. -/
def conduitOf (s : State) (i : Nat) : Nat := GCfg.conduit (s.gcfg (QCfg.group (s.qcfg i)))

/-- Queues that hold something or carry a state: only listed queues can. -/
def queues (s : State) : List Nat := s.tm.qs.map (·.1)

/-! ## Occupancy (R239, R240, R247-R251) -/

/-- DDR5 is in service (R495). -/
def ddrOn (s : State) : Bool := s.bit .msc MSC.MEM_STATUS.DDR_SVC

/-- Cells of the egress and the ingress part, less withdrawn banks (R239, R426). -/
def egSize (s : State) : Nat := 655360 - 1024 * s.tm.egBanks
def inSize (s : State) : Nat := 131072 - 1024 * s.tm.inBanks

/-- Egress cells in use. -/
def egUsed (s : State) : Nat := s.tm.qs.foldl (fun a e => a + e.2.onDie) 0

/-- Egress cells free outside the staging area. -/
def egFree (s : State) : Nat := s.egSize - 16 * s.tm.reserve - s.tm.qs.foldl (fun a e => a + e.2.plain) 0

/-- Pages of the staging area held or awaited. -/
def stagingUsed (s : State) : Nat := s.tm.qs.foldl (fun a e => a + e.2.staging) 0

/-- Ingress cells in use: reorder stores, frames being rebuilt, delivery queues (R259). -/
def rxHeld (c : RxCon) : Nat := (c.store.countP fun x => x.bad != 3) + match c.part with
  | some l => l.length
  | none => 0
def inUsed (s : State) : Nat :=
  s.tm.rx.foldl (fun a e => a + rxHeld e.2) 0
    + s.tm.dq.foldl (fun a e => a + e.2.foldl (fun b f => b + f.cells) 0) 0

/-- Pages of DDR5 that hold cells, and with them those retired (R283): none of these is free. -/
def usedPages (s : State) : List Nat := s.tm.qs.flatMap fun e => e.2.pages
def gonePages (s : State) : List Nat :=
  let used := s.usedPages
  used ++ s.mem.retired.filter fun p => !used.contains p

/-- Free pages of the packet region (R251, R267), less withdrawn slots (R290) and retired pages (R283). -/
def ddrFree (s : State) : Nat :=
  if s.ddrOn then
    117440512 - 7340032 * s.mem.lostSlots.length - s.gonePages.countP fun p => !s.mem.lostSlots.contains (p % 16)
  else 0

/-- The page that the free pool hands out (R251): which free one is left open. -/
def newPage (s : State) : Nat :=
  let gone := s.gonePages
  freeFrom gone s.mem.lostSlots ((Config.freePage s.time.toNat gone.length).toNat % 117440512) (16 * (gone.length + 1))

/-! ## Protected memories (R235, R238, R266, R268, R270, R278) -/

/-- A use of a protected word whose uncorrectable error, when it is found, raises an event and counts. -/
def useOnce (s : State) (p : Page) (target idx ev : Nat) (ctr : Option Nat) : Bool × State :=
  let was := s.damage.get (fun _ => 0) (damageKey p target idx)
  let (bad, s) := s.useProt p target idx
  if bad && was == 2 then
    let s := s.raise p ev
    (bad, match ctr with
      | some n => s.count p n 1
      | none => s)
  else (bad, s)

/-- A use of a schedule table entry (R238). -/
def useSch (s : State) (target idx : Nat) : Bool × State := s.useOnce .sch target idx 6 (some 7)

/-- A use of a flow control entry (R270). -/
def useFct (s : State) (table i : Nat) : State := (s.useOnce .fct 0 (2 ^ 24 * table + i) 6 none).2

/-- A correctable error that a merge in an engine's memory finds is written to LOG with kind 5, at most 16 times in a second of device time (R278);
the counts are kept by engine. -/
def mergeLog (s : State) (p : Page) (i : Nat) : State :=
  let n := s.time.toNat / 1000000000
  let logs := if s.tm.mergeSec = n then s.tm.mergeLogs else []
  let k := logs.get (fun _ => 0) p.base
  if 16 ≤ k then s
  else (s.updTm fun t => { t with mergeLogs := logs.set (fun _ => 0) p.base (k + 1), mergeSec := n }).log 5 p.sec p.index 1 i

/-- Fields narrower than a codeword are written (R277, R278): the read of the merge finds a single error, which is corrected, counted and logged, or a
double error, which raises the engine's event; the entry is then written whole. -/
def mergeEntry (s : State) (p : Page) (target idx ev : Nat) (ctr : Option Nat) : State :=
  let was := s.damage.get (fun _ => 0) (damageKey p target idx)
  let (_, s) := s.useOnce p target idx ev ctr
  (if was = 1 then s.mergeLog p idx else s).protect p target idx

/-! ## Drops (R244) -/

/-- A dropped frame: BSC counts it by reason and bytes, DROP_LAST records it, DROP is raised. -/
def drop (s : State) (reason where_ bytes : Nat) : State :=
  let s := (s.count .bsc (15 + reason) 1).countS .bsc 2 bytes
  let s := (s.wr .bsc BSC.DROP_LAST.WHERE where_).wr .bsc BSC.DROP_LAST.REASON reason
  s.raise .bsc 2

/-- A dropped egress frame: counted against its queue too, while statistics are kept (R231). -/
def dropQ (s : State) (i reason bytes : Nat) : State :=
  let q := s.queue i
  (if s.ddrOn then s.setQueue i { q with drops := (q.drops + 1) % 2 ^ 64 } else s).drop reason i bytes

/-- A group that holds no frame any more gives up its deficits (R215). -/
def restGroup (s : State) (g : Nat) : State :=
  if s.tm.qs.any fun e => e.2.frames != [] && QCfg.group (s.qcfg e.1) == g then s
  else s.setGroup g { s.group g with defMin := 0, defMax := 0 }

/-- A frame of a section that is switched off is dropped (10 "The BSC page"): its bytes are counted and DROP_LAST records it. R244 has no reason for
it, so REASON is a free value. -/
def dropOff (s : State) (where_ bytes : Nat) : State :=
  let s := s.countS .bsc 2 bytes
  ((s.wr .bsc BSC.DROP_LAST.WHERE where_).wr .bsc BSC.DROP_LAST.REASON Config.offReason.toNat).raise .bsc 2

/-- Such a frame for a known queue is counted in the drops of the queue too, while statistics are kept (R231, R244). -/
def dropOffQ (s : State) (i bytes : Nat) : State :=
  let q := s.queue i
  (if s.ddrOn then s.setQueue i { q with drops := (q.drops + 1) % 2 ^ 64 } else s).dropOff i bytes

/-- Operations of 64 bytes take free slots of the 40,960, and wait where none is free (R248). -/
def takeOps (s : State) (n : Nat) : State :=
  s.updTm fun t => { t with ops := t.ops + min n (40960 - t.ops), opsWait := t.opsWait + (n - (40960 - t.ops)) }

/-- Reads and writes of 64 bytes in DDR5: each takes a slot and is counted (R248, R457). -/
def takeReads (s : State) (n : Nat) : State := (s.takeOps n).countS .msc 0 n
def takeWrites (s : State) (n : Nat) : State := (s.takeOps n).countS .msc 1 n

/-- Slots free (R248): operations that wait take them. -/
def freeSlots (s : State) (n : Nat) : State :=
  s.updTm fun t => { t with ops := t.ops - (n - min n t.opsWait), opsWait := t.opsWait - n }

/-- Every frame that a queue holds is dropped, its DDR5 pages and cells and the slots of its page reads are freed (R229). -/
def flushQueue (s : State) (i reason : Nat) : State :=
  let q := s.queue i
  let s := q.frames.foldl (fun s f => s.dropQ i reason f.bytes.length) s
  let q' := s.queue i
  let s := s.setQueue i { q' with frames := [], steep := false, segs := [], mid := [], flying := 0, tail := 0, deficit := 0,
                                  parked := false }
  (s.freeSlots (64 * q.flying)).restGroup (QCfg.group (s.qcfg i))

/-- A queue is quarantined (R229): what it holds is dropped with reason 6, frame by frame counted in QUARANTINE_DROPS. -/
def quarantine (s : State) (i : Nat) : State :=
  let n := (s.queue i).frames.length
  let s := s.flushQueue i 6
  let s := if n = 0 then s else s.count .qsc 21 n
  let s := s.setQueue i { s.queue i with quarantined := true, ctxBad := 0, linkBad := 0, chainBad := 0 }
  s.raise .qsc 3

/-! ## Steep (R245, R246, R248, R250) -/

/-- New queues may enter steeping (R245, R250). -/
def steepOpen (s : State) : Bool :=
  s.enabled .stp && s.bit .stp STP.STP_CTRL.STEEP_EN && s.pst .stp != 5 && s.pst .stp != 6
    && !s.bit .stp HDR.PAGE_CTRL.DRAIN && s.ddrOn

/-- The channel of a logical slot: MC16 while it serves the slot (R273, R286). -/
def channelOf (s : State) (slot : Nat) : Fin 17 :=
  if s.bit .msc MSC.MEM_STATUS.SPARE_USED && s.rd .msc MSC.MEM_STATUS.SPARE_FOR == slot then 16 else Fin.ofNat 17 slot

def chan (s : State) (c : Fin 17) : Chan := s.mem.chans.get (fun _ => Chan.reset) c.val
def setChan (s : State) (c : Fin 17) (x : Chan) : State :=
  { s with mem := { s.mem with chans := s.mem.chans.set (fun _ => Chan.reset) c.val x } }
def updMem (s : State) (f : Mem → Mem) : State := { s with mem := f s.mem }

/-- The context of a queue stood in a burst of DDR5 that was lost (R288, R290): what the cache holds, and what has been found or written there since,
is not. -/
def ctxLost (s : State) (i : Nat) : Bool :=
  !s.mem.ctxFixed.contains i && !s.tm.cache.contains i && s.mem.ctxSlots.any fun x => i % 16 == x.1 && decide (x.2 ≤ i / 16)

/-- A context lost in DDR5 is found by its read (R229). -/
def findCtx (s : State) (i : Nat) : State :=
  if !s.ctxLost i then s
  else
    let s := (s.updMem fun m => { m with ctxFixed := m.ctxFixed ++ [i] }).quarantine i
    s.setQueue i { s.queue i with ctxBad := 4 }

/-- The symbols of each device that an armed checker test inverts in a burst written to a sub-channel, none without one, and the test spent (R41,
R291): symbol BIT_A and perhaps BIT_B, eight to a device, or the whole device BIT_A where it lies in that sub-channel. -/
def chanFlips (s : State) (c : Fin 17) (sub : Bool) : List Nat × State :=
  let p := Page.mch c
  let t := s.rd p HDR.FLIP_MASK.TARGET
  let a := s.rd p HDR.FLIP_MASK.BIT_A
  let b := s.rd p HDR.FLIP_MASK.BIT_B
  if !s.bit p HDR.FLIP_MASK.ARM then ([], s)
  else if t = sub.toNat then
    let e := (List.replicate 10 0).set (a / 8) 1
    (if s.bit p HDR.FLIP_MASK.B_EN && b != a then e.set (b / 8) (e.getD (b / 8) 0 + 1) else e, s.wb p HDR.FLIP_MASK.ARM false)
  else if t = 2 && a / 10 = sub.toNat then ((List.replicate 10 0).set (a % 10) 8, s.wb p HDR.FLIP_MASK.ARM false)
  else ([], s)

/-- What a channel's burst holds from now on. -/
def setStored (s : State) (c : Fin 17) (addr : Nat) (x : Stored) : State :=
  let ch := s.chan c
  s.setChan c { ch with stored := ch.stored.set (fun _ => Stored.sound) (addr / 64) x }

/-- A burst of a channel is written: sound or poisoned, with what an armed test inverts (R41, R279, R291). -/
def storeBurst (s : State) (c : Fin 17) (addr row : Nat) (sub poison : Bool) : State :=
  let (e, s) := s.chanFlips c sub
  s.setStored c addr (if e = [] && !poison then Stored.sound else { row := row, err := { perDevice := e, poisoned := poison } })

/-- A burst that is written with others meets an armed test; what it held before stands where there is none. -/
def flipBurst (s : State) (c : Fin 17) (addr row : Nat) (sub : Bool) : State :=
  let (e, s) := s.chanFlips c sub
  if e = [] then s else s.setStored c addr { row := row, err := { perDevice := e, poisoned := false } }

/-- The content of a channel moves to MC16 (R286). -/
def migrating (s : State) (c : Fin 17) : Bool :=
  (s.rd .msc MSC.MIG_STATUS.STATE == 1 || s.rd .msc MSC.MIG_STATUS.STATE == 2) && s.rd .msc MSC.MIG_STATUS.SOURCE == c.val

/-- A burst of a channel is written, on MC16 too while the channel's content moves there (R286): a write under the copy's lock makes the copy drop
its own (R287). -/
def writeBurst (s : State) (c : Fin 17) (addr row : Nat) (sub poison : Bool) : State :=
  let s := s.storeBurst c addr row sub poison
  if s.migrating c then
    (s.storeBurst 16 addr row sub poison).updMem fun m => { m with
      mirrored := if m.mirrored.contains (addr / 64) then m.mirrored else m.mirrored ++ [addr / 64]
      lock := m.lock.map fun l => if l.addr / 64 = addr / 64 then { l with dropped := true } else l }
  else s

/-- The channel that holds a logical address (R273): MC16 for the slot that it serves, another channel's reserve slice for a word of a withdrawn
slot (R290). -/
def holder (s : State) (addr : Nat) : Fin 17 :=
  let slot := if addr < 0x7000000000 then addr / 4096 % 16 else addr / 64 % 16
  if s.mem.lostSlots.contains slot then
    let l := (List.range 16).filter fun i => !s.mem.lostSlots.contains i
    s.channelOf (l.getD (Config.home addr % max 1 l.length) slot)
  else s.channelOf slot

/-- The sub-channel of a logical address: bursts of a channel alternate (log 108). -/
def subOf (addr : Nat) : Bool := if addr < 0x7000000000 then addr / 64 % 2 == 1 else addr / 1024 % 2 == 1

/-- A word of DDR5 is written whole at a logical address. -/
def writeWord (s : State) (addr : Nat) (poison : Bool) : State :=
  let c := s.holder addr
  s.writeBurst c addr (Config.rowOf c.val addr).toNat (subOf addr) poison

/-- The context of a queue, and its statistics, in DDR5 (R273). -/
def ctxAddr (i : Nat) : Nat := 0x7000000000 + 64 * i
def statAddr (i : Nat) : Nat := 0x7004000000 + 32 * i

/-- A poisoned burst is written (R279, R281). -/
def poisoned (s : State) : State := ((s.sat .msc MSC.POISON_COUNT.COUNT 1).count .msc 16 1).raise .msc 1

/-- A page's bursts are written to its channel, both sub-channels, and to MC16 during a migration of the channel: what the channel held there before
is gone, a checker test armed meets the first burst of its sub-channel (R41, R291), and a cell that read uncorrectable goes as a
poisoned burst (R279). -/
def pageWritten (s : State) (page : Nat) (marked : List Nat) : State :=
  let c := s.channelOf (page % 16)
  let a := page * 4096
  let fresh (s : State) (c : Fin 17) : State :=
    let row (x : Nat) : Nat := (Config.rowOf c.val x).toNat
    let x := s.chan c
    let s := s.setChan c { x with stored := x.stored.filter fun e => e.1 / 64 != page }
    let s := (s.flipBurst c a (row a) false).flipBurst c (a + 64) (row (a + 64)) true
    marked.foldl (fun s n =>
      let b := a + 256 * n
      s.setStored c b { row := row b, err := { perDevice := [], poisoned := true } }) s
  let s := fresh s c
  let s := if s.migrating c then
      (fresh s 16).updMem fun m => { m with lock := m.lock.map fun l => if l.addr / 4096 = page then { l with dropped := true } else l }
    else s
  marked.foldl (fun s _ => s.poisoned) s

/-- The tail of a steeping queue becomes a page of the middle (R245): a free page and 64 operation slots are needed. An on-die cell that reads
uncorrectable is marked as it leaves, and its page carries the mark from then on (R252, R279). -/
def writePage (s : State) (i : Nat) : State :=
  let q := s.queue i
  let start := q.headCells + 16 * q.mid.length
  let firsts := startsIn q.frames 0 start 16
  let s := (firsts.filter (·.2.bad == 1)).foldl (fun s _ => s.ce .bsc 0) s
  let marked := (firsts.filter (·.2.bad == 2)).map (·.1)
  let s := marked.foldl (fun s _ => ((s.ue .bsc 0).rowUse .bsc 0 i true).raise .bsc 3) s
  let fs := markFirsts (touchCells q.frames 0 start 16 fun f n => { f with steep := f.steep + n }) 0 start
  let page := s.newPage
  let (sev, s) := s.armed .stp 1
  let s := s.pageWritten page marked
  let x : DdrPage := { page := page, lost := 0, mirror := s.migrating (s.channelOf (page % 16)) }
  let s := s.setQueue i { q with frames := fs, mid := q.mid ++ [x], tail := q.tail - 16, chainBad := max q.chainBad sev }
  let s := s.updTm fun t => { t with ops := t.ops + 64 }
  ((s.count .stp 1 1).countS .bsc 3 4096).countS .msc 1 64
where
  /-- the frames whose first cell leaves the die: its page carries what it held of an error -/
  markFirsts (fs : List QFrame) (p start : Nat) : List QFrame :=
    match fs with
    | [] => []
    | x :: r => (if start ≤ p && p < start + 16 && x.bad ≤ 2 then { x with bad := 0 } else x) :: markFirsts r (p + x.cells) start

/-- Pages are written while the tail holds 16 cells, pages are free and slots are free. -/
def writePages (s : State) (i : Nat) (fuel : Nat) : State :=
  match fuel with
  | 0 => s
  | n + 1 =>
    let q := s.queue i
    if q.steep && decide (16 ≤ q.tail) && decide (0 < s.ddrFree) && decide (s.tm.ops + 64 ≤ 40960) then
      (s.writePage i).writePages i n
    else s

/-- Reads of the middle are issued while fewer than PF_DEPTH pages are ahead, the staging area has room and slots are
free (R245, R246, R248). -/
def prefetch (s : State) (i : Nat) (fuel : Nat) : State :=
  match fuel with
  | 0 => s
  | n + 1 =>
    let q := s.queue i
    if q.steep && decide (q.flying < q.mid.length) && decide (q.staging < s.rd .stp STP.STP_CTRL.PF_DEPTH)
        && decide (s.stagingUsed < min s.tm.reserve (s.rd .bsc BSC.BUF_CFG.RET_RESERVE)) && decide (s.tm.ops + 64 ≤ 40960) then
      let s := s.setQueue i { q with flying := q.flying + 1 }
      let s := s.updTm fun t => { t with ops := t.ops + 64 }
      ((s.count .stp 2 1).countS .msc 0 64).prefetch i n
    else s

/-- The tail joins the head as the middle empties (R245). -/
def appendTail (s : State) (i : Nat) : State :=
  let q := s.queue i
  if q.steep && q.mid == [] && decide (0 < q.tail) then
    s.setQueue i { q with segs := q.segs ++ [(none, q.tail)], tail := 0 }
  else s

/-- The tail joins the head while the middle is empty and the head cannot complete its frame: the condition of R245 is read so, for at every
arrival it would hold before the first page is written (log 21). -/
def joinTail (s : State) (i : Nat) : State :=
  let q := s.queue i
  let need := match q.frames with
    | [] => 0
    | f :: _ => f.cells
  if q.headCells < need then s.appendTail i else s

/-- A queue with an empty middle and few cells returns to ON_DIE; an empty one frees its staging (R245). -/
def leaveSteep (s : State) (i : Nat) : State :=
  let q := s.queue i
  if q.frames = [] then
    if q.steep || q.parked then
      s.setQueue i { q with steep := false, segs := [], tail := 0, parked := false }
    else s
  else if q.steep && q.mid == [] && decide (q.onDie ≤ QCfg.steepThresh (s.qcfg i) / 2)
      && decide (s.egUsed ≤ s.rd .stp STP.GLOBAL_THRESH.CELLS) then
    s.setQueue i { q with steep := false, segs := if q.tail = 0 then q.segs else q.segs ++ [(none, q.tail)], tail := 0 }
  else s

/-- A queue over a threshold enters steeping: its cells become the head (R245). -/
def enterSteep (s : State) (i : Nat) : State :=
  let q := s.queue i
  if !q.steep && q.frames != [] && s.steepOpen
      && (decide (QCfg.steepThresh (s.qcfg i) < q.onDie)
        || (decide (s.rd .stp STP.GLOBAL_THRESH.CELLS < s.egUsed) && decide (s.rd .stp STP.GLOBAL_MIN.CELLS ≤ q.onDie))) then
    ((s.setQueue i { q with steep := true }).count .stp 0 1).raise .stp 0
  else s

/-- A queue follows every steep transition that is open (R245). -/
def pump (s : State) (i : Nat) : State :=
  let s := s.enterSteep i
  let s := s.writePages i 64
  let s := s.prefetch i 16
  let s := s.joinTail i
  s.leaveSteep i

/-- Every queue follows its steep transitions: a threshold or a free slot may have moved. -/
def pumpAll (s : State) : State := s.queues.foldl pump s

/-! ## Token buckets (R216) -/

/-- What a bucket lacks after time has passed: rate in Mbit/s is its bytes * 8000 per ns. A bucket never falls below
zero by more than it was charged last. -/
def refill (debt rate dt : Nat) : Nat := debt - rate * dt

/-- A queue's bucket brought to now. -/
def fillQueue (s : State) (i : Nat) : QState :=
  let q := s.queue i
  let rate := ebits (s.prof (QCfg.profile (s.qcfg i))) 0 0 26
  { q with debt := refill q.debt rate (s.time.toNat - q.tokTime), tokTime := s.time.toNat }

/-- What a bucket lacks when its burst changes: what it holds stays, up to the new burst; one that was not in use starts full (R216). -/
def rebase (debt rate old new : Nat) : Nat := if rate = 0 then 0 else debt + new - old

/-- Burst of a profile, in bytes * 8000. -/
def profBurst (s : State) (p : Nat) : Nat := ebits (s.prof p) 1 0 24 * 8000

/-- A queue's bucket as another profile entry takes it over. -/
def reshape (s : State) (i : Nat) (e : BitVec 128) : State :=
  let p := QCfg.profile (s.qcfg i)
  let q := s.fillQueue i
  s.setQueue i { q with debt := rebase q.debt (ebits (s.prof p) 0 0 26) (s.profBurst p) (ebits e 1 0 24 * 8000) }

/-- A group's buckets brought to now. -/
def fillGroup (s : State) (g : Nat) : GState :=
  let x := s.group g
  let e := s.gcfg g
  let dt := s.time.toNat - x.tokTime
  { x with minDebt := refill x.minDebt (GCfg.minRate e) dt, maxDebt := refill x.maxDebt (GCfg.maxRate e) dt,
           tokTime := s.time.toNat }

/-- Bytes in a group's buckets when full. -/
def groupBurst (s : State) (g : Nat) : Nat := GCfg.burst (s.gcfg g) * 1024

/-! ## Capacity (R141, R211, R222) -/

/-- Capacity of a transmit conduit in force, Mbit/s: the sum over its members, enabled or not (R211, R213). -/
def conCap (s : State) (c : Nat) : Nat := (membersOf (s.txMembers c)).foldl (fun a k => a + (s.car k).cap) 0

/-- Capacity of a carrier after the posted changes not yet in force. -/
def capAfter (c : Carrier) : Nat := match c.posts.getLast? with
  | some p => p.1
  | none => c.cap

/-- Capacity of a conduit after the posted changes (R236). -/
def conCapNext (s : State) (c : Nat) : Nat := (membersOf (s.txMembers c)).foldl (fun a k => a + capAfter (s.car k)) 0

/-- Some member's posted change is not yet in force. -/
def conPending (s : State) (c : Nat) : Bool := (membersOf (s.txMembers c)).any fun k => (s.car k).posts != []

/-- A transmitter that sends AIS (R180): forced, without its die-to-die link, or with the queue section in FAULT. -/
def sendsAis (s : State) (k : Fin 16) : Bool :=
  s.bit (.csc k) CSC.CSC_CTRL.FORCE_AIS || !s.ldUp k || s.pst .qsc == 4 || s.pst .sch == 4

/-- Sum of the MIN_RATE values of a conduit's enabled groups (R217): only listed entries can be enabled. -/
def minSum (s : State) (c : Nat) : Nat :=
  s.tm.tabs.foldl (fun a e =>
    if e.1 / 2 ^ 24 = 0x10 && GCfg.enable e.2 && GCfg.conduit e.2 == c && !s.lost 0 (e.1 % 2 ^ 24) then a + GCfg.minRate e.2
    else a) 0

/-- The enabled groups of a conduit. -/
def groupsOf (s : State) (c : Nat) : List Nat :=
  s.tm.tabs.filterMap fun e =>
    if e.1 / 2 ^ 24 = 0x10 && GCfg.enable e.2 && GCfg.conduit e.2 == c && !s.lost 0 (e.1 % 2 ^ 24) then some (e.1 % 2 ^ 24)
    else none

/-- Cells held by the queues of a group. -/
def groupCells (s : State) (g : Nat) : Nat :=
  s.tm.qs.foldl (fun a e => if QCfg.group (s.qcfg e.1) = g then a + e.2.depth else a) 0

/-- Cells held by the queues of a conduit's enabled groups (R253). -/
def conCells (s : State) (c : Nat) : Nat :=
  let gs := s.groupsOf c
  s.tm.qs.foldl (fun a e => if gs.contains (QCfg.group (s.qcfg e.1)) then a + e.2.depth else a) 0

/-- A conduit holds a steeping queue (R253). -/
def conSteep (s : State) (c : Nat) : Bool :=
  let gs := s.groupsOf c
  s.tm.qs.any fun e => gs.contains (QCfg.group (s.qcfg e.1)) && e.2.steep

/-! ## Pause (R253-R255, R257, R258) -/

def pauseOf (s : State) (c : Nat) : ConPause := s.tm.pause.get (fun _ => ConPause.reset) c

/-- A flow control entry, or its reset values while it holds an uncorrectable error (R270). -/
def fctEntry (s : State) (table i : Nat) : BitVec 128 :=
  if 2 ≤ s.damage.get (fun _ => 0) (damageKey .fct 0 (2 ^ 24 * table + i)) then
    entryReset (0x1000000 * (16 * 2 + table) + i)
  else s.entry 2 table i

/-- The causes of R253 for a conduit, as they now hold; without DDR5 the on-die pause applies to every conduit that holds cells (R257). -/
def causes (s : State) (c : Nat) : ConPause :=
  let p := s.pauseOf c
  let e := s.fctEntry 0 c
  let cap := min (s.conCap c) (s.conCapNext c)
  let cells := s.conCells c
  let steep := s.conSteep c
  let c1 :=
    if cap = 0 then p.c1 && decide (0 < cells)
    else if p.c1 then decide (ebits e 0 16 16 * 10 * cap < cells * 2048)
    else decide (0 < cells) && decide (ebits e 0 0 16 * 10 * cap ≤ cells * 2048)
  { p with
    c1 := c1
    c2 := cap == 0 && decide (0 < cells)
    c3 := s.bit .bsc BSC.BUF_STATUS.ONDIE_PAUSE && (steep || (!s.ddrOn && decide (0 < cells)))
    c4 := s.bit .bsc BSC.BUF_STATUS.DDR_PAUSE && steep }

/-- The lowest-numbered cause that holds, 0 for none (R253). -/
def ConPauseCause (p : ConPause) : Nat := if p.c1 then 1 else if p.c2 then 2 else if p.c3 then 3 else if p.c4 then 4 else 0

/-- The conduit's pause as its ports see it: frozen while FCT is HELD, released while it drains or is off. -/
def pauseOn (s : State) (p : ConPause) : Bool :=
  if s.pst .fct = 5 then p.on
  else if s.bit .fct HDR.PAGE_CTRL.DRAIN || !s.enabled .fct then false
  else ConPauseCause p != 0

/-- Priorities that a port must pause (R254). -/
def portPrios (s : State) (port : Nat) : Nat :=
  let e := s.fctEntry 3 port
  let mode := ebits e 0 19 2
  if s.bit .fct FCT.FC_CTRL.PFC_GEN_EN && (mode == 1 || mode == 3) then
    s.tm.pause.foldl (fun a x =>
      let f := s.fctEntry 0 x.1
      if x.2.on && (ebits f 1 0 32 + ebits f 2 0 32 * 2 ^ 32).testBit port then a ||| ebits f 3 0 8 else a) 0
  else 0

/-- The pause groups of the conduits in pause. -/
def pausedGroups (s : State) : List Nat :=
  (s.tm.pause.flatMap fun x => if x.2.on then (s.groupsOf x.1).map fun g => GCfg.pauseGroup (s.gcfg g) else []).eraseDups

/-- The pause groups that a port must announce (R254): modes 2 and 3, in tagged mode. -/
def portGroups (s : State) (port : Nat) : List Nat :=
  let mode := ebits (s.fctEntry 3 port) 0 19 2
  if s.bit .fct FCT.FC_CTRL.GP_GEN_EN && (mode == 2 || mode == 3) && ebits (s.entry 0 3 port) 0 20 1 == 1 then
    (s.tm.pause.flatMap fun x =>
      let f := s.fctEntry 0 x.1
      if x.2.on && (ebits f 1 0 32 + ebits f 2 0 32 * 2 ^ 32).testBit port then
        (s.groupsOf x.1).map fun g => GCfg.pauseGroup (s.gcfg g)
      else []).eraseDups
  else []

/-- The source address of a port's pause frames (R254). -/
def pauseSa (port : Nat) : List Byte := [0x02, 0, 0, 0, BitVec.ofNat 8 (port / 32), BitVec.ofNat 8 (port % 32)]

/-- A frame padded with zero bytes to 60 bytes before the FCS. -/
def pad60 (b : List Byte) : List Byte := b ++ List.replicate (60 - b.length) 0

/-- An 802.1Qbb frame (R254): class-enable vector and a time for each priority. -/
def pfcFrame (port : Nat) (on off quanta : Nat) : List Byte :=
  pad60 ([0x01, 0x80, 0xC2, 0x00, 0x00, 0x01] ++ pauseSa port ++ bytesBE 2 0x8808 ++ bytesBE 2 0x0101
    ++ bytesBE 2 (on ||| off) ++ (List.range 8).flatMap fun i => bytesBE 2 (if on.testBit i then quanta else 0))

/-- Entries of a group pause frame (R255). -/
def gpEntries (on off : List Nat) (t : Nat) : List Nat :=
  on.map (fun g => 0x80000000 + g * 0x10000 + t) ++ off.map (fun g => g * 0x10000)

/-- A group pause frame of at most 64 entries (R255). -/
def gpFrame (s : State) (port seq : Nat) (es : List Nat) : List Byte :=
  pad60 (bytesBE 2 (s.rd .fct FCT.GP_DA_HI.word) ++ bytesBE 4 (s.rd .fct FCT.GP_DA_LO.word) ++ pauseSa port
    ++ bytesBE 2 (s.rd .qsc QSC.TAG_CFG.ETYPE) ++ [0x1F, BitVec.ofNat 8 seq] ++ bytesBE 2 es.length ++ bytesBE 2 0
    ++ es.flatMap (bytesBE 4))

/-- A port that is up sends a priority pause frame. -/
def sendPfc (s : State) (port : Nat) (on off : Nat) : State :=
  if on ||| off = 0 || !s.portLive port then s
  else
    let b := pfcFrame port on off (s.rd .fct FCT.FC_CTRL.PAUSE_QUANTA)
    (s.portSend port (.pauseFrame (Fin.ofNat 64 port) b) (b ++ ethFcs b)).count .fct 0 1

/-- A port sends the entries due, at most 64 to a frame. -/
def sendGp (s : State) (port : Nat) (es : List Nat) (fuel : Nat) : State :=
  match fuel with
  | 0 => s
  | n + 1 =>
    if es = [] || !s.portLive port then s
    else
      let seq := (s.tm.gpSeq.get (fun _ => 0) port + 1) % 256
      let s := s.updTm fun t => { t with gpSeq := t.gpSeq.set (fun _ => 0) port seq }
      let b := s.gpFrame port seq (es.take 64)
      let s := (s.portSend port (.pauseFrame (Fin.ofNat 64 port) b) (b ++ ethFcs b)).count .fct 1 1
      s.sendGp port (es.drop 64) n

/-- The frames that a change of pause makes a port send: assertions and releases of one instant share a frame (R254,
R255). -/
def portChange (s0 : State) (s : State) (port : Nat) : State :=
  let a := s0.portPrios port
  let b := s.portPrios port
  let s := s.sendPfc port (b &&& (a ^^^ b)) (a &&& (a ^^^ b))
  let ga := s0.portGroups port
  let gb := s.portGroups port
  s.sendGp port (gpEntries (gb.filter fun g => !ga.contains g) (ga.filter fun g => !gb.contains g)
    (s.rd .fct FCT.FC_TIMING.GP_TIME)) 65

/-- One conduit's pause follows its causes (R253), for which its entry is used (R270). -/
def repause (s : State) (c : Nat) : State :=
  let s := s.useFct 0 c
  let p := s.causes c
  let on := s.pauseOn p
  let old := (s.pauseOf c).on
  let s := s.updTm fun t => { t with pause := t.pause.set (fun _ => ConPause.reset) c { p with on := on } }
  if on = old then s
  else
    let cause := ConPauseCause p
    let s := ((s.wr .fct FCT.FC_LAST.CONDUIT c).wb .fct FCT.FC_LAST.ON on).wr .fct FCT.FC_LAST.CAUSE cause
    if on then (s.count .fct 2 1).raise .fct 0 else s.raise .fct 1

/-- The conduits whose pause can differ from none: those with held cells or a pause state. -/
def pauseConduits (s : State) : List Nat :=
  ((s.tm.qs.map fun e => s.conduitOf e.1) ++ s.tm.pause.map (·.1)).eraseDups

/-- A flag of BUF_STATUS follows its condition and raises an event when it sets. -/
def bufFlag (s : State) (f : Fld) (b : Bool) (p : Page) (ev : Option Nat) : State :=
  let old := s.bit .bsc f
  let s := s.wb .bsc f b
  match ev with
  | some n => s.raiseIf (b && !old) p n
  | none => s

/-- The staging reserve as it follows a change of RET_RESERVE (R265): it shrinks as pages leave it, and grows once the cells are free. -/
def newReserve (s : State) (want : Nat) : Nat :=
  if want ≤ s.tm.reserve then min s.tm.reserve (max want s.stagingUsed)
  else if 16 * (want - s.tm.reserve) ≤ s.egFree then want else s.tm.reserve

/-- Occupancy registers, flags and pause follow the state of the buffers (R253, R257, R258, R265, R267). -/
def rebuffer (s0 s : State) : State :=
  if !s.start.datapath then s
  else
    let eg := s.egUsed
    let inn := s.inUsed
    let s := s.wr .bsc BSC.EG_OCC.CELLS eg
    let s := if s.rd .bsc BSC.EG_HWM.CELLS < eg then s.wr .bsc BSC.EG_HWM.CELLS eg else s
    let s := s.wr .bsc BSC.IN_OCC.CELLS inn
    let s := if s.rd .bsc BSC.IN_HWM.CELLS < inn then s.wr .bsc BSC.IN_HWM.CELLS inn else s
    let want := s.rd .bsc BSC.BUF_CFG.RET_RESERVE
    let s := s.updTm fun t => { t with reserve := s.newReserve want }
    let free := s.egFree
    let lim := s.rd .stp STP.ONDIE_PAUSE.CELLS
    let od := if s.bit .bsc BSC.BUF_STATUS.ONDIE_PAUSE then decide (free < 2 * lim) else decide (free < lim)
    let s := s.bufFlag BSC.BUF_STATUS.ONDIE_PAUSE od .bsc none
    let df := s.ddrFree
    let dl := s.rd .stp STP.DDR_PAUSE.PAGES
    let dp := if s.bit .bsc BSC.BUF_STATUS.DDR_PAUSE then decide (df < 2 * dl) else decide (df < dl)
    let s := s.bufFlag BSC.BUF_STATUS.DDR_PAUSE dp .stp (some 1)
    let s := s.bufFlag BSC.BUF_STATUS.ONDIE_FULL (free == 0) .bsc (some 0)
    let s := s.bufFlag BSC.BUF_STATUS.DDR_FULL (df == 0) .stp (some 2)
    let s := s.bufFlag BSC.BUF_STATUS.STEEP_OFF (!s.ddrOn) .stp (some 4)
    let s := s.bufFlag BSC.BUF_STATUS.IN_FULL (decide (s.inSize ≤ inn)) .bsc (some 1)
    let s := s.wr .stp STP.DDR_FREE.PAGES df
    let nq := s.tm.qs.countP fun e => e.2.steep
    let s := (s.wr .stp STP.STEEP_QUEUES.COUNT nq).wb .stp STP.STP_STATUS.ACTIVE (decide (0 < nq))
    let full := decide (40960 ≤ s.tm.ops)
    let s := if full && !s.bit .stp STP.STP_STATUS.OPS_FULL then s.count .stp 3 1 else s
    let s := s.wb .stp STP.STP_STATUS.OPS_FULL full
    let s := s.wr .stp STP.OPS_INFLIGHT.NOW s.tm.ops
    let s := if s.rd .stp STP.OPS_INFLIGHT.HWM < s.tm.ops then s.wr .stp STP.OPS_INFLIGHT.HWM s.tm.ops else s
    let s := s.pauseConduits.foldl repause s
    let s :=
      if s0.tm.pause = [] && s.tm.pause = [] then s
      else
        let s := (List.range 64).foldl (fun s p => s.useFct 3 p) s
        ((List.range 64).filter fun p =>
          !(s0.portPrios p == s.portPrios p && s0.portGroups p == s.portGroups p)).foldl (portChange s0) s
    let s := s.wr .fct FCT.FC_STATUS.CONDUITS (s.tm.pause.countP fun e => e.2.on)
    let s := s.wr .fct FCT.FC_STATUS.GROUPS s.pausedGroups.length
    s.wr .fct FCT.FC_STATUS.HOST_PAUSED (s.tm.hostPaused.foldl (fun a e => a + popCount 8 e.2) 0)

/-- Some word of a page's memories stands uncorrectable. -/
def spoiled (s : State) (p : Page) : Bool :=
  s.damage.any fun e => e.1 / 0x100000000 / 0x10 == p.base && e.2 == 3

/-- PAGE_STATE of the queue, schedule, buffer and flow control pages while they run: DEGRADED until what an uncorrectable error spoilt
is rewritten, and for banks withdrawn (R235, R238, R270, R426). -/
def retm (s : State) : State :=
  let f (s : State) (p : Page) (why : Bool) : State :=
    let n := s.pst p
    if n = 2 || n = 3 then
      let r := s.runState p
      let m := if why && r == 2 then 3 else r
      if n = m then s else s.setPst p m
    else s
  let s := f s .qsc (s.spoiled .qsc || s.tm.ctxCrowded || s.tm.qs.any fun e => e.2.ctxBad == 3)
  let s := f s .sch (s.spoiled .sch)
  let s := f s .bsc false
  f s .fct (s.spoiled .fct)

/-- A conduit's shortfall against its minimum rates (R217): MIN_SHORT at each new one. -/
def reshort (s : State) (c : Nat) : State :=
  let b := s.txOn c && decide (s.conCap c < s.minSum c)
  let t := s.txCon c
  if b = t.short then s
  else
    let s := s.setTxCon c { t with short := b }
    if b then (s.count .sch 6 1).raise .sch 0 else s

/-- The conduits that have a group with a minimum rate or a shortfall. -/
def reshorts (s : State) : State :=
  (((s.tm.tabs.filterMap fun e => if e.1 / 2 ^ 24 = 0x10 then some (GCfg.conduit e.2) else none)
    ++ s.tm.tx.map (·.1)).eraseDups).foldl reshort s

/-! ## Remote Fault (R183) -/

/-- The condition under which a receive conduit calls for Remote Fault: every member reports LOS, LOF, AIS or CRYPT, or every
member reports RDI; RF_EN of the lowest member. -/
def rfHolds (s : State) (c : Nat) : Bool :=
  let ms := membersOf (s.rxMembers c)
  match ms with
  | [] => false
  | k :: _ => s.rxOn c && s.bit (.csc k) CSC.CONSEQ_CFG.RF_EN
      && (ms.all (fun m => decide (s.defects m &&& 0x17 ≠ 0)) || ms.all fun m => (s.defects m).testBit 3)

/-- The host port of a frame of a conduit, by its LABEL (R227). -/
def portOfLabel (s : State) (c label : Nat) : Nat :=
  let e := s.entry 1 5 (256 * c + label)
  32 * ebits e 0 1 1 + ebits e 0 2 5

/-- The host ports to which a conduit delivers: those that its valid port-map entries name (R183, R227). -/
def portsOf (s : State) (c : Nat) : List Nat :=
  (((List.range 256).filter fun l => ebits (s.entry 1 5 (256 * c + l)) 0 0 1 = 1).map (s.portOfLabel c)).eraseDups

/-- A host port is one to which a conduit that calls for Remote Fault delivers (R183). -/
def portRf (s : State) (q : Nat) : Bool := (s.tm.rx.map (·.1)).any fun c => (s.rxCon c).rf && (s.portsOf c).contains q

/-- RF_ACTIVE of a conduit's members is set or cleared (R185, R186); the host ports to which the conduit alone delivers start or stop to send
Remote Fault (R183). -/
def setRf (s : State) (c : Nat) (b : Bool) : State :=
  let s := s.setRxCon c { s.rxCon c with rf := false }
  let ports := (s.portsOf c).filter fun q => !s.portRf q
  let s := ports.foldl (fun s q => s.emit (.remoteFault (Fin.ofNat 64 q) b)) (s.setRxCon c { s.rxCon c with rf := b })
  (membersOf (s.rxMembers c)).foldl (fun s k =>
    if s.bit (.csc k) CSC.CSC_STATUS.RF_ACTIVE = b then s else (s.wb (.csc k) CSC.CSC_STATUS.RF_ACTIVE b).raise (.csc k) 4) s

/-- Remote Fault stops when its condition ends (R183). -/
def rerf (s : State) : State :=
  (s.tm.rx.map (·.1)).foldl (fun s c => if (s.rxCon c).rf && !s.rfHolds c then s.setRf c false else s) s

end State
end Sys2Proof.Machine
end

