-- ==== Sys2Proof/Machine/CadOps.lean ====
section
/-! DEFINITION. The spare pools (R424), the record of a substitution (R435, R439), the laser selection (R90) and the laser
procedure (R428-R431), as every command that ends uses them. -/
namespace Sys2Proof.Machine

open Sys2Proof Reg

namespace State

/-! ## Pools (R424) -/

/-- TOTAL of a pool. -/
def poolTotal (s : State) (p : Nat) : Nat :=
  match p with
  | 0 => s.cad.tiles | 1 => s.cad.sramRows | 2 => 4 | 3 => 8 | 4 => 8 | 5 => 8 | 6 => 8 | 7 => 17408
  | 8 => 34 | 9 => 1 | 10 => 2 | 11 => 1 | 12 => 32 | 13 => 1 | 14 => 6 | 15 => 1 | _ => 0

/-- BRINGER of a pool (POOL_TOTAL). -/
def poolBringer (p : Nat) : Nat :=
  match p with
  | 0 => 0 | 1 => 1 | 2 => 2 | 3 => 3 | 4 => 3 | 5 => 3 | 6 => 3 | 7 => 4 | 8 => 4 | 9 => 4 | 10 => 5 | 11 => 6 | 12 => 6
  | 13 => 2 | 14 => 7 | 15 => 5 | _ => 0

/-- Devices marked failed in all channels (pool 8). -/
def failedDevices (s : State) : Nat :=
  (List.finRange 17).foldl (fun a c =>
    a + (s.bit (.mch c) MCH.CH_STATUS.FAIL_A).toNat + (s.bit (.mch c) MCH.CH_STATUS.FAIL_B).toNat) 0

/-- The bank that is not running holds no verified image (pool 13). -/
def bankSpent (s : State) : Bool :=
  match s.cad.running with
  | some true => !s.cad.bank0.valid
  | some false => !s.cad.bank1.valid
  | none => !(s.cad.bank0.valid && s.cad.bank1.valid)

/-- USED of a pool. -/
def poolUsed (s : State) (p : Nat) : Nat :=
  match p with
  | 0 => s.cad.cells
  | 1 => s.cad.rows
  | 2 => 4 - popCount 4 (s.rd .cad CAD.LASER_STATUS.SPARE_FREE)
  | 3 => popCount 8 (s.rd (.hsc 0) HSC.SPARE_USE.RX_IN_USE)
  | 4 => popCount 8 (s.rd (.hsc 0) HSC.SPARE_USE.TX_IN_USE)
  | 5 => popCount 8 (s.rd (.hsc 1) HSC.SPARE_USE.RX_IN_USE)
  | 6 => popCount 8 (s.rd (.hsc 1) HSC.SPARE_USE.TX_IN_USE)
  | 7 => s.rd .msc MSC.MEM_SUMMARY.REMAPPED
  | 8 => s.failedDevices
  | 9 => (s.bit .msc MSC.MEM_STATUS.SPARE_USED || s.rd (.mch 16) MCH.CH_STATUS.STATE == 6).toNat
  | 10 => 2 - s.mirror.sparesLeft
  | 11 => (s.mirror.seen && !(s.rd .fpw FPW.FEED_STATUS.A_STATE == 3 && s.rd .fpw FPW.FEED_STATUS.B_STATE == 3)).toNat
  | 12 => s.sense.zones.countP fun z => z.2.broken != 0 || z.2.disagree != 0
  | 13 => s.bankSpent.toNat
  | 14 => popCount 6 (s.rd .fbr FBR.VOTE_STATUS.DISSENT)
  | 15 => (!s.mirror.imgSpare).toNat
  | _ => 0

/-- REMAIN of a pool. -/
def poolRemain (s : State) (p : Nat) : Nat := s.poolTotal p - s.poolUsed p

/-- A substitution: LOG kind 0 of CAD with POOL and REASON in CODE, CAD_LAST, the ledger (R435, R439). -/
def substitute (s : State) (pool reason unit : Nat) : State :=
  let s := s.log 0 0 3 (pool + 16 * reason) unit
  let s := ((s.wr .cad CAD.CAD_LAST.POOL pool).wr .cad CAD.CAD_LAST.REASON reason).wr .cad CAD.CAD_LAST.UNIT unit
  let s := s.count .cad 0 1
  let s := if s.host.fwUp then
      let i := s.cad.ledger.length
      (s.updCad fun c => { c with ledger := c.ledger ++ [⟨pool, unit, reason, s.rd .cad CAD.LEDGER_TIME.POWERED_HOURS⟩] }).protect
        .cad 0 i
    else s
  s

/-- A tile of an engine substitutes its reserve cell (R12, R425): the engine reads REPAIRING, RESERVE_USED and pool 0 rise. -/
def useReserve (s : State) (p : Page) (reason : Nat) : State :=
  let s := s.sat p HDR.PAGE_STATE.RESERVE_USED 1
  let s := s.updCad fun c => { c with cells := c.cells + 1 }
  let s := if s.pst p = 2 || s.pst p = 3 then s.setPst p 7 else s
  s.substitute 0 reason (p.base / 0x1000)

/-! ## Laser selection (R90) -/

/-- The carriers of the group of a carrier. -/
def groupMates (k : Fin 16) : List (Fin 16) := carriers.filter fun m => m.val / 4 == k.val / 4 && m != k

/-- Another carrier of the group holds the spare or has a request pending (SPARE_BUSY). -/
def spareBusy (s : State) (k : Fin 16) : Bool :=
  (groupMates k).any fun m => s.bit (.txo m) TXO.TX_STATUS.SPARE_IN_USE
    || (s.bit (.txo m) TXO.TX_STATUS.SPARE_PENDING)

/-- The spare of a group goes to a carrier, or comes back to the pool. -/
def holdSpare (s : State) (k : Fin 16) (hold : Bool) : State :=
  let g := k.val / 4
  let s := s.wr .cad CAD.LASER_STATUS.SPARE_FREE (putBit (s.rd .cad CAD.LASER_STATUS.SPARE_FREE) g (!hold))
  s.wr .cad ⟨CAD.LASER_STATUS.HELD_BY.off, 4 + 4 * g, 4⟩ (if hold then k.val else 0)

/-- LASER_SEL takes a value (R90): the other laser starts to warm, or a warming that has lost its purpose ends. A request for
a busy spare leaves LASER_SEL 0. -/
def selectLaser (s : State) (k : Fin 16) (sel : Bool) : State :=
  let p := Page.txo k
  let inUse := s.bit p TXO.TX_STATUS.SPARE_IN_USE
  let pend := s.bit p TXO.TX_STATUS.SPARE_PENDING
  if sel && !inUse && !pend && s.spareBusy k then s
  else
    let s := s.wb p TXO.TX_CTRL.LASER_SEL sel
    if sel = inUse then
      if pend then
        let s := (s.wb p TXO.TX_STATUS.SPARE_PENDING false).updCar k fun c => { c with warming := false }
        if inUse then s else s.holdSpare k false
      else s
    else if pend then s
    else
      let s := (s.wb p TXO.TX_STATUS.SPARE_PENDING true).updCar k fun c => { c with warming := true }
      if sel then s.holdSpare k true else s

/-! ## Laser procedure (R428-R431) -/

/-- PROC_STATE set. -/
def procState (s : State) (n : Nat) : State := s.wr .cad CAD.LASER_STATUS.PROC_STATE n

/-- The procedure ends: 5 done, 6 failed. -/
def procEnd (s : State) (ok : Bool) : State :=
  (((s.procState (if ok then 5 else 6)).raise .cad (if ok then 4 else 5)).wb .cad CAD.LASER_STATUS.DRAINED_SWAP false).updCad
    fun c => { c with cur := none }

/-- A procedure runs drained (R429, R430). -/
def drainedSwap (s : State) (r : LaserReq) : Bool :=
  !r.fault && (r.mode == 2 || (r.mode == 0 && s.bondedTx r.k && !s.zr r.k))

/-- A procedure begins, unless the group's spare is held by another carrier (R428). -/
def procBegin (s : State) (r : LaserReq) : State :=
  if !r.ret && s.spareBusy r.k then (s.raise .cad 3).count .cad 2 1
  else
    let d := s.drainedSwap r
    let s := (s.wr .cad CAD.LASER_STATUS.PROC_CARRIER r.k.val).wb .cad CAD.LASER_STATUS.DRAINED_SWAP d
    let s := (s.updCad fun c => { c with cur := some r, touched := false, farPassed := false }).count .cad 1 1
    if d then
      ((s.wb (.lfe r.k) HDR.PAGE_CTRL.DRAIN true).wb (.csc r.k) CSC.CSC_CTRL.FORCE_RDI true).procState 1
    else (s.selectLaser r.k (!r.ret)).procState 3

/-- One step of the procedure that runs, or the start of the next that waits (R429, R431); none when nothing is due. -/
def procStep (s : State) : Option State :=
  match s.cad.cur with
  | none =>
    match s.cad.queue with
    | [] => none
    | r :: q => some ((s.updCad fun c => { c with queue := q }).procBegin r)
  | some r =>
    let due :=
      match s.rd .cad CAD.LASER_STATUS.PROC_STATE with
      | 1 => s.pst (.lfe r.k) == 6
      | 2 => s.cad.farPassed
      | 3 => !s.bit (.txo r.k) TXO.TX_STATUS.SPARE_PENDING
      | _ => (s.car r.k).cap != 0 && (s.car r.k).posts == []
    if !due then none
    else if s.cad.touched then some (s.procEnd false)
    else
      match s.rd .cad CAD.LASER_STATUS.PROC_STATE with
      | 1 => some (s.procState 2)
      | 2 => some ((s.selectLaser r.k (!r.ret)).procState 3)
      | 3 =>
        if s.bit (.txo r.k) TXO.TX_STATUS.SPARE_IN_USE = r.ret then some (s.procEnd false)
        else if s.bit .cad CAD.LASER_STATUS.DRAINED_SWAP then
          some (((s.wb (.csc r.k) CSC.CSC_CTRL.FORCE_RDI false).wb (.lfe r.k) HDR.PAGE_CTRL.DRAIN false).procState 4)
        else some (s.procEnd true)
      | _ => some (s.procEnd true)

/-- The procedures go as far as they can while firmware runs. -/
def procRun (s : State) (fuel : Nat) : State :=
  match fuel with
  | 0 => s
  | n + 1 =>
    match s.procStep with
    | none => s
    | some s => s.procRun n

/-- A trigger (R428, R431): it waits its turn; beyond 16 that wait it is dropped with SPARE_NONE. -/
def askLaser (s : State) (r : LaserReq) : State :=
  if s.cad.cur.isSome && decide (16 ≤ s.cad.queue.length) then (s.raise .cad 3).count .cad 2 1
  else s.updCad fun c => { c with queue := c.queue ++ [r] }

/-- An automatic trigger (R428): firmware policy brings in the spare for a carrier on its own laser. -/
def autoLaser (s : State) (k : Fin 16) (fault : Bool) : State :=
  if !s.host.fwUp || !(fault || s.bit .cad CAD.CAD_CFG.AUTO_LASER) || s.bit (.txo k) TXO.TX_STATUS.SPARE_IN_USE
      || s.bit (.txo k) TXO.TX_STATUS.SPARE_PENDING then s
  else s.askLaser { k := k, mode := 0, ret := false, fault := fault, auto := true }

/-- Host software wrote DRAIN, FORCE_RDI or LASER_SEL of the procedure's carrier (R431). -/
def touchProc (s : State) (k : Fin 16) : State :=
  match s.cad.cur with
  | some r => if r.k = k then s.updCad fun c => { c with touched := true } else s
  | none => s

/-! ## Rows, the caddy summary, warnings (R427, R435, R437) -/

/-- SRAM rows due are replaced while spare rows are left (R427). -/
def replaceRows (s : State) : State :=
  let due := s.cad.rowsDue
  if due = [] then s
  else due.foldl (fun s i =>
    if s.cad.sramRows ≤ s.cad.rows then s
    else (s.updCad fun c => { c with rows := c.rows + 1 }).substitute 1 3 i) (s.updCad fun c => { c with rowsDue := [] })

/-- The pools whose USED counts the caddy summary holds (R435). -/
def summaryPools : List Nat := [2, 3, 4, 5, 6, 8, 9, 10, 13, 15]

/-- The caddy summary: powered hours in bits 31-0, then a byte for each pool. -/
def caddyWord (s : State) (hours : Nat) : Nat :=
  (List.range 10).foldl (fun a i => a + min (s.poolUsed (summaryPools.getD i 0)) 255 * 2 ^ (32 + 8 * i)) (hours % 2 ^ 32)

/-- A pool's WARN (R437): EXHAUST_DAYS below WARN_DAYS, or below the days left of the 15 years. -/
def warns (s : State) (p : Nat) : Bool :=
  let d := s.cad.days.getD p 0xFFFF
  decide (d < s.rd .cad CAD.CAD_CFG.WARN_DAYS) || decide (d < (131490 - s.rd .cad CAD.LEDGER_TIME.POWERED_HOURS) / 24)

/-- WARN of every pool follows; POOL_WARN when one sets. -/
def rewarn (s : State) : State :=
  let w := (List.range 16).foldl (fun a p => if s.warns p then a + 2 ^ p else a) 0
  let new := w &&& (w ^^^ s.cad.warn)
  (((s.updCad fun c => { c with warn := w }).wr .cad CAD.CAD_SUMMARY.WARN w).raiseIf (new != 0) .cad 1)

/-! ## Pools after a command (R437, R440) -/

/-- Pools whose REMAIN is 0, as bits. -/
def exhausted (s : State) : Nat :=
  (List.range 16).foldl (fun a p => if s.poolRemain p = 0 then a + 2 ^ p else a) 0

/-- Pool events and CAD's page state follow the pools. -/
def cadSettle (s0 s : State) : State :=
  if !s.hubAlive then s
  else
    let s := if s.host.fwUp then s.procRun 40 else s
    let s := s.replaceRows
    let moved := (List.range 16).any fun p => s0.poolUsed p != s.poolUsed p
    let gone := (List.range 16).any fun p => s0.poolRemain p != 0 && s.poolRemain p == 0
    let s := (s.raiseIf moved .cad 0).raiseIf gone .cad 2
    let e := s.exhausted
    let s := s.wr .cad CAD.CAD_SUMMARY.EXHAUSTED e
    let n := if e = 0 then s.runState .cad else 3
    if s.pst .cad = n || decide (s.pst .cad < 2) then s else s.setPst .cad n

end State
end Sys2Proof.Machine
end

