-- ==== Sys2Proof/Machine/Settle.lean ====
section
/-! DEFINITION. What follows every command: carriers, conduits, buffers, pools, the level of service, messages and
lines take the values that their inputs now give them. -/
namespace Sys2Proof.Machine

open Sys2Proof Reg

namespace State

/-- Type code of a message (R344). -/
def msgType (m : BMsg) : Nat :=
  match m with
  | .statusReport .. => 2 | .telemetryBatch .. => 3 | .railDeliver .. => 4 | .railSend .. => 5 | .proofCheck .. => 6
  | .proofResult .. => 7 | .startResult .. => 8 | .kettleEnter .. => 9 | .kettleClear .. => 10 | .phaseSpare .. => 11
  | .feedLimits .. => 12 | .thermalNotice .. => 13 | .cycleMark .. => 14 | .imageChunk .. => 15 | .settingWrite .. => 16

/-- Frames that a side has put on the link in this command, first sends and resends. -/
def linkOut (time : BitVec 64) (e0 e : BEnd) (side : Side) : List Output :=
  (e.unacked.filter fun x => !e0.unacked.contains x).map fun x =>
    .barrier side (msgType x.msg) x.seq (frameCode time (msgType x.msg) x.seq (payload x.msg))

/-- The derived parts of the state after a command, from the state before it. -/
def settle (s0 s : State) : State :=
  let s := s.recarriers
  let s := s.reshorts
  let s := s.rerf
  let s := (rebuffer s0 s).retm
  let s := cadSettle s0 s
  let s := s.recarriers
  let s := s.relevel
  let s := messages s0 s
  let s := s.intLine
  { s with pending := s0.pending, out := s.out ++ linkOut s.time s0.hubEnd s.hubEnd .hub ++ linkOut s.time s0.fieldEnd s.fieldEnd .field }

/-- A command's outcome: its effect, then what follows it. The waiting commands stay as they are, and only this
command's messages stand in the output. -/
def done (s : State) (f : State → State) : Host.Outcome State Fault Refusal :=
  .next (settle s (f { s with out := [] }))

end State
end Sys2Proof.Machine
end

