-- ==== Sys2Proof/Machine/Host.lean ====
section
/-! DEFINITION. The page header's events and checker test, sessions, KETTLE_CTRL and LOG (R41, R45-R49, R59-R67). -/
namespace Sys2Proof.Machine

open Sys2Proof Reg

namespace State

/-! ## Effects of writes -/

/-- A W1C write to EVENT (R62-R64): bits written as 1 clear, but those whose event occurs in the same cycle stay; a section,
or vector 24, that still asks sends again. -/
def effEvent (p : Page) (v same : Word) (s : State) : State :=
  let a := s.asks
  let e := s.word p 0x00C
  let s := s.setWord p 0x00C ((e &&& ~~~v) ||| (same &&& v &&& BitVec.ofNat 32 p.type.eventBits))
  let b := s.asks
  let n := if p.sec < 8 then p.sec else p.sec - 8
  let s := if a.getLsbD n && b.getLsbD n then s.resend n else s
  if p = .dev && a.getLsbD 24 && b.getLsbD 24 then s.resend 24 else s

/-- A write to EVENT_ENABLE (R63): on DEV an enable that newly shows a critical event sends vector 24. -/
def effEventEnable (p : Page) (v : Word) (s : State) : State :=
  let old := s.word p 0x010
  let v := v &&& BitVec.ofNat 32 p.type.eventBits
  let s := s.setWord p 0x010 v
  if p = .dev && s.word p 0x00C &&& v &&& ~~~old &&& critBits != 0 then s.resend 24 else s

/-- A write to EVENT_FORCE (R64): each bit acts as its event. -/
def effEventForce (p : Page) (v : Word) (s : State) : State :=
  s.setWord p 0x00C (s.word p 0x00C ||| (v &&& BitVec.ofNat 32 p.type.eventBits))

/-- A FLIP_MASK value that is refused whole (R41, R291). -/
def flipRefused (p : Page) (v : Word) : Bool :=
  let t := HDR.FLIP_MASK.TARGET.get v
  let a := HDR.FLIP_MASK.BIT_A.get v
  decide (71 < a) || decide (71 < HDR.FLIP_MASK.BIT_B.get v) || decide (p.type.flipTargets ≤ t)
    || (p.type == .mch && t == 2 && decide (19 < a))

/-- A write to FLIP_MASK (R41). -/
def effFlip (p : Page) (v : Word) (s : State) : State :=
  if flipRefused p v then s else s.setWord p 0x018 (v &&& 0xFFFFFF00)

/-- A write to SECTION_MASK (R60, R62). -/
def effSectionMask (v : Word) (s : State) : State := s.setWord .dev 0x044 (v &&& 0x00FFFFFF)

/-- A session event: its EVENT bit, and LOG kind 2 (R45 example, R65). -/
def sesEvent (s : State) (b arg : Nat) : State := (s.raise .ses b).log 2 0 1 b arg

/-- The open host session closes (R49). -/
def closeSession (s : State) : State :=
  if s.role = 0 then s
  else
    let r := s.role
    (s.wr .ses SES.SES_STATUS.ROLE 0).sesEvent 1 r

/-- The value that two of three copies share (R292). -/
def vote {α : Type} [DecidableEq α] (t : Tri α) : Option α :=
  if t.a = t.b || t.a = t.c then some t.a else if t.b = t.c then some t.b else none

/-- Three copies do not all agree. -/
def dissents {α : Type} [DecidableEq α] (t : Tri α) : Bool := decide (t.a ≠ t.b) || decide (t.b ≠ t.c)

/-- The session lockout word by vote; with no majority both interfaces are locked for 3,600 s (R293). -/
def lockWord (s : State) : LockWord :=
  match vote s.field.lock with
  | some w => w
  | none =>
    { host := { Lock.reset with remain := 3600, nextLen := 3600 }, rail := { Lock.reset with remain := 3600, nextLen := 3600 } }

/-- REQUEST (R45): a fresh nonce, the counter from the field island, no proof words. -/
def sesRequest (s : State) (role : Nat) : State :=
  if role = 0 || s.bit .ses SES.SES_STATUS.PROOF_PENDING then s
  else
    let (i, s) := s.draw
    let n := Config.nonce i
    let s := { s with ses := { s.ses with reqRole := role, nonce := n, proof := [] } }
    let s := (s.wr .ses SES.NONCE_LO.word n.toNat).wr .ses SES.NONCE_HI.word (n.toNat / 2 ^ 32)
    let s := s.wr .ses SES.COUNTER.word s.lockWord.host.counter.toNat
    s.wb .ses SES.SES_STATUS.NONCE_VALID true

/-- The messages that an end has sent and its peer, which delivered last the SEQ given, has not taken, and those that wait. -/
def undelivered (e : BEnd) (rx : Nat) : List BMsg :=
  let left : List BFrame := match e.unacked.findIdx? fun x => x.seq == rx with
    | some i => e.unacked.drop (i + 1)
    | none => e.unacked
  left.map (·.msg) ++ e.waiting

/-- A PROOF_CHECK. -/
def isCheck (m : BMsg) : Bool := match m with
  | .proofCheck .. => true
  | _ => false

/-- A PROOF_RESULT. -/
def isResult (m : BMsg) : Bool := match m with
  | .proofResult .. => true
  | _ => false

/-- A proof of before a warm reset has its check or its result still on the link (R71). -/
def proofUnderway (s : State) : Bool :=
  (undelivered s.hubEnd s.fieldEnd.rxSeq).any isCheck || (undelivered s.fieldEnd s.hubEnd.rxSeq).any isResult

/-- SUBMIT (R45, R47): refused in the order of R47, or PROOF_CHECK goes to the field island. -/
def sesSubmit (s : State) : State :=
  if s.bit .ses SES.SES_STATUS.PROOF_PENDING then s
  else if !s.hubEnd.up then s.wr .ses SES.SES_STATUS.LAST_RESULT 5
  else if s.bit .ses SES.SES_STATUS.LOCKED then s.wr .ses SES.SES_STATUS.LAST_RESULT 3
  else if !s.bit .ses SES.SES_STATUS.NONCE_VALID then s.wr .ses SES.SES_STATUS.LAST_RESULT 4
  else if s.ses.proof.length < 8 then s.wr .ses SES.SES_STATUS.LAST_RESULT 7
  else
    let old := s.ses.discard && s.proofUnderway
    let s := s.toField (.proofCheck s.ses.reqRole s.ses.nonce (s.word .ses SES.COUNTER.word.off) s.ses.proof)
    let s := { s with ses := { s.ses with discard := old } }
    (s.wb .ses SES.SES_STATUS.PROOF_PENDING true).wb .ses SES.SES_STATUS.NONCE_VALID false

/-- A write to SES_CTRL (R47, R53): ignored with more than one of REQUEST, SUBMIT and CLOSE. -/
def effSesCtrl (v : Word) (s : State) : State :=
  match SES.SES_CTRL.REQUEST.get v, SES.SES_CTRL.SUBMIT.get v, SES.SES_CTRL.CLOSE.get v with
  | 1, 0, 0 => s.sesRequest (SES.SES_CTRL.ROLE.get v)
  | 0, 1, 0 => s.sesSubmit
  | 0, 0, 1 => s.closeSession
  | _, _, _ => s

/-- A write to PROOF_PORT (R45): the first eight words since the REQUEST count. -/
def effProofPort (v : Word) (s : State) : State :=
  if s.ses.proof.length < 8 then { s with ses := { s.ses with proof := s.ses.proof ++ [v] } } else s

/-- A write to KETTLE_CTRL (R59). -/
def effKettleCtrl (v : Word) (s : State) : State :=
  if DEV.KETTLE_CTRL.CONFIRM.get v ≠ 0x4B43 then s.countMalformed
  else if DEV.KETTLE_CTRL.CLEAR.get v = 0 then s
  else s.toField (.kettleClear (DEV.KETTLE_CTRL.COUNTER.get v == 1))

/-- A use of a word of management memory, the log ring or the ledger's copy: an uncorrectable error, when it is found, raises DEV
MGMT_UE too (R63; log 95). -/
def useManaged (s : State) (p : Page) (target idx : Nat) : Bool × State :=
  let found := s.damage.get (fun _ => 0) (damageKey p target idx) == 2
  let (bad, s) := s.useProt p target idx
  (bad, s.raiseIf found .dev 7)

/-- CAPTURE (R65, R67): the entry at TAIL goes to LOG_ENTRY0-3, as a damaged entry where its word is uncorrectable. -/
def logCapture (s : State) : State :=
  if s.rd .log LOG.LOG_CTRL.UNREAD = 0 then s
  else
    let i := s.rd .log LOG.LOG_CTRL.TAIL
    let (bad, s) := s.useManaged .log 0 i
    let e := if bad then BitVec.ofNat 128 (0xF0000000 * 2 ^ 64) else s.logRing.get (fun _ => 0) i
    (((s.wr .log LOG.LOG_ENTRY0.word (ebits e 0 0 32)).wr .log LOG.LOG_ENTRY1.word (ebits e 1 0 32)).wr .log
      LOG.LOG_ENTRY2.word (ebits e 2 0 32)).wr .log LOG.LOG_ENTRY3.word (ebits e 3 0 32)

/-- ADVANCE (R65). -/
def logAdvance (s : State) : State :=
  let u := s.rd .log LOG.LOG_CTRL.UNREAD
  if u = 0 then s
  else (s.wr .log LOG.LOG_CTRL.TAIL ((s.rd .log LOG.LOG_CTRL.TAIL + 1) % 4096)).wr .log LOG.LOG_CTRL.UNREAD (u - 1)

/-- CLEAR (R65). -/
def logClear (s : State) : State :=
  let u := s.rd .log LOG.LOG_CTRL.UNREAD
  (s.wr .log LOG.LOG_CTRL.TAIL ((s.rd .log LOG.LOG_CTRL.TAIL + u) % 4096)).wr .log LOG.LOG_CTRL.UNREAD 0

/-- A write to LOG_CTRL (R65, R66): the capture is made first; CLEAR set with one of the others acts last (the model's choice, log 96). -/
def effLogCtrl (v : Word) (s : State) : State :=
  let s := if LOG.LOG_CTRL.CAPTURE.get v = 1 then s.logCapture else s
  let s := if LOG.LOG_CTRL.ADVANCE.get v = 1 then s.logAdvance else s
  if LOG.LOG_CTRL.CLEAR.get v = 1 then s.logClear else s

end State

/-! ## Commands -/

/-- EVENT_W1C (R62, R64). -/
def execEventW1c (p : Page) (bits same : Word) (s : State) : Host.Outcome State Fault Refusal :=
  s.done fun s => s.gateReg p 0x00C bits (State.effEvent p bits same)

/-- EVENT_ENABLE_WRITE (R61, R63). -/
def execEventEnableWrite (p : Page) (v : Word) (s : State) : Host.Outcome State Fault Refusal :=
  s.done fun s => s.gateReg p 0x010 v (State.effEventEnable p v)

/-- EVENT_FORCE (R64). -/
def execEventForce (p : Page) (v : Word) (s : State) : Host.Outcome State Fault Refusal :=
  s.done fun s => s.gateReg p 0x014 v (State.effEventForce p v)

/-- FLIP_MASK_WRITE (R41). -/
def execFlipMaskWrite (p : Page) (v : Word) (s : State) : Host.Outcome State Fault Refusal :=
  s.done fun s => s.gateReg p 0x018 v (State.effFlip p v)

/-- SECTION_MASK_WRITE (R62). -/
def execSectionMaskWrite (v : Word) (s : State) : Host.Outcome State Fault Refusal :=
  s.done fun s => s.gateReg .dev 0x044 v (State.effSectionMask v)

/-- SESSION_REQUEST (R45): SES_CTRL with ROLE and REQUEST. -/
def execSessionRequest (role : BitVec 2) (s : State) : Host.Outcome State Fault Refusal :=
  let v : Word := BitVec.ofNat 32 (0x10 + role.toNat)
  s.done fun s => s.gateReg .ses 0x024 v (State.effSesCtrl v)

/-- PROOF_PORT_WRITE (R45). -/
def execProofPortWrite (v : Word) (s : State) : Host.Outcome State Fault Refusal :=
  s.done fun s => s.gateReg .ses 0x034 v (State.effProofPort v)

/-- SESSION_SUBMIT (R45, R47). -/
def execSessionSubmit (s : State) : Host.Outcome State Fault Refusal :=
  s.done fun s => s.gateReg .ses 0x024 0x20 (State.effSesCtrl 0x20)

/-- SESSION_CLOSE (R49). -/
def execSessionClose (s : State) : Host.Outcome State Fault Refusal :=
  s.done fun s => s.gateReg .ses 0x024 0x40 (State.effSesCtrl 0x40)

/-- SESSION_KEEPALIVE (R49): the write itself restarts the inactivity timer. -/
def execSessionKeepalive (s : State) : Host.Outcome State Fault Refusal :=
  s.done fun s => s.gateReg .ses 0x038 0 fun s => s

/-- NONCE_EXPIRY (R47): 10 s after the nonce was drawn. -/
def execNonceExpiry (s : State) : Host.Outcome State Fault Refusal :=
  s.done fun s => s.wb .ses SES.SES_STATUS.NONCE_VALID false

/-- SESSION_INACTIVITY_TIMEOUT (R49). -/
def execSessionInactivityTimeout (s : State) : Host.Outcome State Fault Refusal :=
  s.done fun s =>
    if s.role = 0 then s
    else ((s.closeSession).wr .ses SES.SES_STATUS.LAST_RESULT 6).count .ses 3 1

/-- KETTLE_CTRL_CLEAR (R59). -/
def execKettleCtrlClear (v : Word) (s : State) : Host.Outcome State Fault Refusal :=
  s.done fun s => s.gateReg .dev 0x03C v (State.effKettleCtrl v)

/-- LOG_CAPTURE (R65). -/
def execLogCapture (s : State) : Host.Outcome State Fault Refusal :=
  s.done fun s => s.gateReg .log 0x020 0x80000000 (State.effLogCtrl 0x80000000)

/-- LOG_ADVANCE (R65). -/
def execLogAdvance (s : State) : Host.Outcome State Fault Refusal :=
  s.done fun s => s.gateReg .log 0x020 0x40000000 (State.effLogCtrl 0x40000000)

/-- LOG_CLEAR (R65). -/
def execLogClear (s : State) : Host.Outcome State Fault Refusal :=
  s.done fun s => s.gateReg .log 0x020 0x20000000 (State.effLogCtrl 0x20000000)

end Sys2Proof.Machine
end

