-- ==== Sys2Proof/Machine/FieldOps.lean ====
section
/-! DEFINITION. The field island: triplicated words, what it reports, feeds and phases; the hub's mirror pages (R292, R293,
R344-R364). -/
namespace Sys2Proof.Machine

open Sys2Proof Reg

namespace State

def updField (s : State) (f : Field → Field) : State := { s with field := f s.field }
def updPub (s : State) (f : FieldPub → FieldPub) : State := s.updField fun x => { x with pub := f x.pub }
def updMirror (s : State) (f : Mirror → Mirror) : State := { s with mirror := f s.mirror }
def updStart (s : State) (f : Start → Start) : State := { s with start := f s.start }

/-- A field-side engine counter goes up (R460, R461). -/
def fcount (s : State) (p : Page) (idx n : Nat) : State :=
  s.updPub fun x =>
    let k := ctrBase p + idx * 8
    { x with cnt := x.cnt.set (fun _ => 0) k (min (x.cnt.get (fun _ => 0) k + n) (2 ^ 40 - 1)) }

/-! ## Triplicated words (R292, R293) -/

/-- A word written one copy at a time, in bank order (R360). -/
def writeCopies {α : Type} (t : Tri α) (v : α) : Tri α :=
  let t := { t with a := v }
  let t := { t with b := v }
  { t with c := v }

/-- A word with its dissenting copy rewritten from the majority. -/
def mend {α : Type} [DecidableEq α] (t : Tri α) : Tri α :=
  match vote t with
  | some v => writeCopies t v
  | none => t

/-- Copies that a vote rewrites: one, where a copy dissents from a majority. -/
def mended {α : Type} [DecidableEq α] (t : Tri α) : Nat := (dissents t && (vote t).isSome).toNat

/-- The start-attempt counter by vote; without a majority it reads 3. -/
def attemptsWord (s : State) : Nat := (vote s.field.attempts).getD 3

/-- The kettle cause word by vote. -/
def causeWord (s : State) : CauseWord := (vote s.field.cause).getD { cause := 0x0A, deep := false }

/-- The serial number by vote; without a majority all ones. -/
def identWord (s : State) : BitVec 64 := (vote s.field.ident).getD (BitVec.allOnes 64)

/-- A role key by vote: none lets every proof for the role fail. -/
def roleKey (s : State) (role : Nat) : Option (BitVec 256) :=
  match role with
  | 1 => vote s.field.keys.viewer
  | 2 => vote s.field.keys.operator
  | 3 => vote s.field.keys.custodian
  | _ => none

/-- Words without a majority, as bits in the order of VOTE_STATUS: the role keys when the verifier of some role has none. -/
def noMajority (s : State) : Nat :=
  ((vote s.field.keys.viewer).isNone || (vote s.field.keys.operator).isNone || (vote s.field.keys.custodian).isNone).toNat + 2 * (vote s.field.attempts).isNone.toNat + 4 * (vote s.field.cause).isNone.toNat
    + 8 * (vote s.field.caddy).isNone.toNat + 16 * (vote s.field.lock).isNone.toNat + 32 * (vote s.field.ident).isNone.toNat

/-- Words with a dissenting copy, as bits. -/
def dissenting (s : State) : Nat :=
  (dissents s.field.keys.viewer || dissents s.field.keys.operator || dissents s.field.keys.custodian).toNat + 2 * (dissents s.field.attempts).toNat + 4 * (dissents s.field.cause).toNat
    + 8 * (dissents s.field.caddy).toNat + 16 * (dissents s.field.lock).toNat + 32 * (dissents s.field.ident).toNat

/-- A word with its dissenting copies rewritten from the majority, and how many that were. -/
def mendWord (f : Field) (w : Nat) : Nat × Field :=
  match w with
  | 0 => (mended f.keys.viewer + mended f.keys.operator + mended f.keys.custodian,
      { f with keys := ⟨mend f.keys.viewer, mend f.keys.operator, mend f.keys.custodian⟩ })
  | 1 => (mended f.attempts, { f with attempts := mend f.attempts })
  | 2 => (mended f.cause, { f with cause := mend f.cause })
  | 3 => (mended f.caddy, { f with caddy := mend f.caddy })
  | 4 => (mended f.lock, { f with lock := mend f.lock })
  | 5 => (mended f.ident, { f with ident := mend f.ident })
  | _ => (0, f)

/-- A read of a word, by its number in VOTE_STATUS, takes the vote (R292, R359): that it dissents is noted, and a dissenting copy is rewritten
from the majority and counted. -/
def voteWord (s : State) (w : Nat) : State :=
  let d := s.dissenting &&& 2 ^ w
  let (n, f) := mendWord s.field w
  { s with field := { f with pub := { f.pub with dissent := f.pub.dissent ||| d, repairs := min (f.pub.repairs + n) 0xFFFF } } }

/-- The vote sweep (R292): every word is read. -/
def sweep (s : State) : State := (List.range 6).foldl voteWord s

/-- A word is read before it is written (R360). -/
def setAttempts (s : State) (n : Nat) : State := (s.voteWord 1).updField fun f => { f with attempts := writeCopies f.attempts (min n 255) }
def setCause (s : State) (c : CauseWord) : State := (s.voteWord 2).updField fun f => { f with cause := writeCopies f.cause c }
def setCaddy (s : State) (n : Nat) : State := (s.voteWord 3).updField fun f => { f with caddy := writeCopies f.caddy n }
def setLock (s : State) (w : LockWord) : State := (s.voteWord 4).updField fun f => { f with lock := writeCopies f.lock w }

/-- The word that a setting register has on the field side. -/
def fieldWord (s : State) (p : Page) (off : Nat) : Word := s.field.pub.settings.get (resetWord s.part) (p.base + off)

/-- A field of a setting on the field side. -/
def fset (s : State) (p : Page) (f : Fld) : Nat := f.get (s.fieldWord p f.off)

/-! ## Hold-up stores (R352, R353) -/

/-- The external capacitance, uF: at most 20 mF. -/
def extCap : Nat := min Config.extCap 20000

/-- The internal store when charged, pJ: at least 1.15 J. -/
def intFull : Nat := 1150000000000 + Config.intExtra

/-- The OR-ed feed voltage, mV: the highest of the VALID feeds. -/
def feedVolt (p : FieldPub) : Nat :=
  let v (f : FeedSt) : Nat := if f.st = .valid then 10 * f.volt else 0
  max (v p.feedA) (v p.feedB)

/-- The present load, mW: bus power, the converter's loss at it, the field island's own draw (R353). -/
def loadPower (p : FieldPub) : Nat :=
  let bus := p.busV * p.busI / 100
  bus + Config.convLoss bus + Config.fieldDraw

/-- The energy that the external store gives, pJ: down to 30 V. A charge of q nC on c uF stands at q / c mV. -/
def extEnergy (q : Nat) : Nat := (q * q - (30000 * extCap) * (30000 * extCap)) / (2 * extCap)

/-- The energy e, pJ, is drawn: from the external store first, down to 30 V, then from the internal one. -/
def drawStores (x : Stores) (e : Nat) : Stores :=
  if e ≤ extEnergy x.extQ then { x with extQ := isqrt (x.extQ * x.extQ - 2 * extCap * e) 0 64 }
  else { x with extQ := min x.extQ (30000 * extCap), int := x.int - (e - extEnergy x.extQ) }

/-- The stores as they stand now. While a feed is VALID both charge from what they hold: the external one at 1 A to the feed voltage, unless
EXT_HOLDUP_EN is 0, the internal one through its boost stage; else the load draws on them. -/
def storesNow (s : State) : Stores :=
  let x := { s.field.stores with time := s.tele.now }
  let dt := s.tele.now - s.field.stores.time
  if feedVolt s.field.pub = 0 then drawStores x (loadPower s.field.pub * dt)
  else
    let on := FPW.FEED_CFG.EXT_HOLDUP_EN.get (s.field.pub.settings.get (resetWord s.part) (Page.fpw.base + 0x048)) == 1
    { x with
      int := min (x.int + Config.intPower * dt) intFull
      extQ := min (if on then x.extQ + dt else x.extQ) (extCap * feedVolt s.field.pub) }

/-- The stores are brought up to now, before what charges or draws them changes. -/
def stepStores (s : State) : State := s.updField fun f => { f with stores := s.storesNow }

/-- HOLDUP_TIME, 10 us, at the present load, whichever supplies it (R353). -/
def holdupTime (s : State) : Nat :=
  let x := s.storesNow
  let p := loadPower s.field.pub
  if p = 0 then 65535 else min 65535 ((extEnergy x.extQ + x.int) / p / 10000)

/-- The stores are spent (R353). -/
def spendStores (x : Stores) : Stores := { x with int := 0, extQ := min x.extQ (30000 * extCap) }

/-- What the field island now reports (R344): its own state and its voted words. -/
def report (s : State) : FieldPub :=
  let l := s.lockWord
  let c := s.causeWord
  { s.field.pub with
    noMajority := s.noMajority, cause := c.cause, deep := c.deep, attempts := s.attemptsWord,
    hostFail := l.host.failRun, hostRemain := l.host.remain, railFail := l.rail.failRun, railRemain := l.rail.remain,
    extStore := s.field.bulk && s.fset .fpw FPW.FEED_CFG.EXT_HOLDUP_EN == 1 && extCap != 0
    caddy := (vote s.field.caddy).getD 0, serial := s.identWord, resends := s.fieldEnd.resends, downs := s.fieldEnd.downs }

/-! ## Settings of the mirror pages (R347) -/

/-- A setting is refused on the hub, or reported refused (R347, SETTING_STATUS). -/
def settingReject (s : State) (page off reason : Nat) : State :=
  let s := (s.wb .fbr FBR.SETTING_STATUS.REJECT true).wr .fbr FBR.SETTING_STATUS.PAGE page
  ((s.wr .fbr FBR.SETTING_STATUS.OFFSET off).wr .fbr FBR.SETTING_STATUS.REASON reason).raise .fbr 3

/-- PENDING follows the settings not yet reported applied. -/
def repend (s : State) : State := s.wr .fbr FBR.SETTING_STATUS.PENDING (min s.mirror.pending.length 255)

/-- Settings not yet reported applied are given up (R343). -/
def dropPending (s : State) : State :=
  ({ s with mirror := { s.mirror with needStatus := true, needTelem := true, pending := [] }
            sense := { s.sense with slotSeqs := [] } }).repend

/-- The SEQ of the n-th frame after a SEQ (R342): 1-255, wrapping. -/
def seqOn (q n : Nat) : Nat := (q + n - 1) % 255 + 1

/-- A write to a mirror page is refused while the link is down, and counted (R20, R348). -/
def mirrorRefuse (s : State) (page off : Nat) : State :=
  (s.updMirror fun m => { m with refused := m.refused + 1 }).settingReject page off 3

/-- A host write to a setting of a mirror page becomes one SETTING_WRITE, or is refused while the link is down (R347, R348). -/
def effMirror (p : Page) (off : Nat) (v : Word) (s : State) : State :=
  if !s.hubEnd.up then s.mirrorRefuse p.index off
  else
    let seq := seqOn s.hubEnd.txSeq (s.hubEnd.waiting.length + 1)
    let s := s.toField (.settingWrite p.index s.role off v)
    (s.updMirror fun m => { m with pending := m.pending ++ [(seq, p.index, off)] }).repend

/-! ## Mirror pages (R346, R348) -/

/-- STALE and the page states of the mirror pages (R348, FPW page text); MIRROR_STALE also while no firmware bank runs (R434). -/
def restale (s : State) : State :=
  let stale := !s.hubEnd.up || s.mirror.needStatus || s.mirror.needTelem || s.mirror.imgWait
  let s := (s.wb .fbr FBR.LINK_STATUS.STALE stale).wb .dev DEV.STATUS.MIRROR_STALE (stale || s.cad.noBank)
  let s := s.wb .fbr FBR.LINK_STATUS.UP s.hubEnd.up
  let s := s.wb .fbr FBR.LINK_STATUS.RESYNC (s.hubEnd.up && (s.mirror.needStatus || s.mirror.needTelem))
  let s := (s.wr .fbr FBR.LINK_STATUS.TX_SEQ s.hubEnd.txSeq).wr .fbr FBR.LINK_STATUS.RX_SEQ s.hubEnd.rxSeq
  [Page.fpw, .ftl, .frl, .fbr].foldl (fun s p =>
    s.setPst p (if !s.mirror.seen then 0 else if stale then 3 else 2)) s

/-- A feed supplies current (R351): it is VALID, and the other one is not, or is not more than 0.3 V above it, or gives it what is beyond its
current limit. -/
def carrying (a b : FeedSt) : Bool := decide (a.st = .valid) && (decide (b.st ≠ .valid) || decide (b.volt ≤ a.volt + 30) || b.limited)

/-- The bits of the phases that satisfy a test. -/
def phaseBits (l : List Phase) (f : PhaseState → Bool) : Nat :=
  (List.range 26).foldl (fun a i => match l[i]? with
    | some p => if f p.st then a + 2 ^ i else a
    | none => a) 0

/-- The settings of the mirror pages (R347). -/
def settingRegs : List (Page × Nat) :=
  [(.fpw, 0x044), (.fpw, 0x048), (.ftl, 0x0A0), (.frl, 0x020), (.frl, 0x024), (.frl, 0x028), (.frl, 0x058)]
    ++ (List.range 32).map fun i => (Page.ftl, 0x020 + 4 * i)

/-- The slots of the counters that the field island keeps and a STATUS_REPORT refreshes (R460). -/
def fieldCounters : List Nat :=
  ([16, 17, 18, 19, 20].map fun i => ctrBase .fpw + 8 * i) ++ ([0, 1, 2, 3].map fun i => ctrBase .ftl + 8 * i)
    ++ [4, 5].map fun i => ctrBase .fbr + 8 * i

/-- FPW's events, DEV's FEED_CHANGE and IMAGE_FAIL, when a report first shows them (R63, R363, R365): a feed's loss, by overvoltage or current
limit where it stands so, its return, its current limit, hold-up, phases replaced and failed, an image that failed. The first report after
the hub starts shows no change (log 72). -/
def reportEvents (s : State) (r : FieldPub) : State :=
  let now : Shown := {
    validA := decide (r.feedA.st = .valid), validB := decide (r.feedB.st = .valid), limitA := r.feedA.limited, limitB := r.feedB.limited,
    holdup := r.holdup, spared := r.spared, failed := r.failed, imgFails := r.imgFails }
  let s := match s.mirror.shown with
    | none => s
    | some old =>
      let one (s : State) (was : Bool) (f : FeedSt) : State :=
        if was && decide (f.st ≠ FeedState.valid) then
          ((((s.raise .dev 5).raise .fpw 0).raiseIf (decide (f.st = FeedState.ovOff)) .fpw 6).raiseIf (decide (f.st = FeedState.clOff)) .fpw 7)
        else if !was && decide (f.st = FeedState.valid) then (s.raise .dev 5).raise .fpw 1
        else s
      let s := (one (one s old.validA r.feedA) old.validB r.feedB).raiseIf (r.holdup && !old.holdup) .fpw 2
      let s := s.raiseIf ((now.limitA && !old.limitA) || (now.limitB && !old.limitB)) .fpw 7
      let s := (s.raiseIf (decide (old.spared ≠ r.spared)) .fpw 3).raiseIf (decide (old.failed ≠ r.failed)) .fpw 4
      s.raiseIf (decide (old.imgFails ≠ r.imgFails)) .fbr 5
  s.updMirror fun m => { m with shown := some now }

/-- The registers of FPW, FBR, DOM38 and the settings take what a STATUS_REPORT carries (R344, R346), and raise their events. -/
def mirrorReport (s : State) (r : FieldPub) : State :=
  let old := s
  let w (s : State) (f : Fld) (n : Nat) : State := s.wr .fpw f n
  let s := w (w s FPW.FEED_A.VOLTAGE r.feedA.volt) FPW.FEED_A.CURRENT r.feedA.cur
  let s := w (w s FPW.FEED_B.VOLTAGE r.feedB.volt) FPW.FEED_B.CURRENT r.feedB.cur
  let s := w (w s FPW.FEED_STATUS.A_STATE (feedCode r.feedA.st)) FPW.FEED_STATUS.B_STATE (feedCode r.feedB.st)
  let s := w s FPW.FEED_STATUS.A_CARRYING (carrying r.feedA r.feedB).toNat
  let s := w s FPW.FEED_STATUS.B_CARRYING (carrying r.feedB r.feedA).toNat
  let s := w (w s FPW.FEED_STATUS.HOLDUP r.holdup.toNat) FPW.FEED_STATUS.EXT_STORE r.extStore.toNat
  let s := w s FPW.FEED_STATUS.HOLDUP_TIME r.holdupTime
  let s := w (w s FPW.BUS.VOLTAGE r.busV) FPW.BUS.CURRENT r.busI
  let n := workingPhases r.phases
  let s := w (w s FPW.CONV_STATUS.STATE (convCode r.conv)) FPW.CONV_STATUS.WORKING n
  let s := w (w s FPW.CONV_STATUS.SPARES_LEFT (sparesLeft r.phases)) FPW.CONV_STATUS.SHORT r.short.toNat
  let s := w s FPW.CONV_STATUS.RATING (50 * n)
  let on := decide (r.conv = .running) || decide (r.conv = .currentLimit)
  let s := w s FPW.PHASE_MAP.CARRYING (if on then phaseBits r.phases fun p => p == .working || p == .rampIn || p == .rampOut else 0)
  let s := w s FPW.PHASE_RETIRED.RETIRED (phaseBits r.phases fun p => p == .retired)
  let s := w (w s FPW.FPW_COUNTS.FEED_LOSSES r.feedLosses) FPW.FPW_COUNTS.PHASE_SWAPS r.phaseSwaps
  let s := w (w s FPW.FPW_COUNTS.OV_EVENTS r.ovEvents) FPW.FPW_COUNTS.CL_EVENTS r.clEvents
  let b (s : State) (f : Fld) (n : Nat) : State := s.wr .fbr f n
  let s := b (b s FBR.FAR_COUNTS.RESENDS (min r.resends 255)) FBR.FAR_COUNTS.LINK_DOWNS (min r.downs 255)
  let s := s.setWord .tim 0x0C8 (BitVec.ofNat 32 (twos 16 r.residual * 65536 + 3 * 64 + 3 * 16))
  let s := b (b (b s FBR.VOTE_STATUS.DISSENT r.dissent) FBR.VOTE_STATUS.NO_MAJORITY r.noMajority) FBR.VOTE_STATUS.REPAIRS r.repairs
  let s := b (b (b s FBR.IMAGE_CTRL.STATE r.imgState) FBR.IMAGE_CTRL.SLOT r.imgSlot) FBR.IMAGE_CTRL.VERSION r.imgVersion
  let s := settingRegs.foldl (fun s (e : Page × Nat) =>
    s.plainWrite e.1 e.2 (r.settings.get (resetWord s.part) (e.1.base + e.2))) s
  let s := { s with ctr := fieldCounters.foldl (fun c a => SMap.set c (fun _ => 0) a (r.cnt.get (fun _ => 0) a)) s.ctr }
  let s := s.updMirror fun m => { m with phases := r.phases, statusAt := some s.time.toNat, sparesLeft := sparesLeft r.phases, imgSpare := r.imgSpare }
  let s := s.raiseIf (r.short && !old.bit .fpw FPW.CONV_STATUS.SHORT) .fpw 5
  let s := s.raiseIf (decide (old.rd .fbr FBR.VOTE_STATUS.REPAIRS < r.repairs)) .fbr 1
  let s := s.raiseIf (r.noMajority &&& ((2 ^ 6 - 1) ^^^ old.rd .fbr FBR.VOTE_STATUS.NO_MAJORITY) != 0) .fbr 2
  let s := s.raiseIf (old.mirror.seen && r.imgState == 0 && old.rd .fbr FBR.IMAGE_CTRL.SLOT != r.imgSlot) .fbr 4
  let s := s.reportEvents r
  (s.protect .fpw 0 0x024).protect .fbr 0 0x02C

/-- A STATUS_REPORT is applied (R344, R346): the mirror pages by firmware, which stop where no bank runs (R434); the registers of DEV, SES
and TSN that show the field island by the hub itself. -/
def applyReport (s : State) (r : FieldPub) : State :=
  let old := s
  let s := if s.cad.noBank then s else s.mirrorReport r
  let s := ((s.wr .dev DEV.KETTLE_CAUSE.CAUSE r.cause).wb .dev DEV.KETTLE_CAUSE.DEEP r.deep).wr .dev DEV.KETTLE_CAUSE.ATTEMPTS r.attempts
  let s := (s.wr .dev DEV.SERIAL_LO.word r.serial.toNat).wr .dev DEV.SERIAL_HI.word (r.serial.toNat / 2 ^ 32)
  let s := (s.wb .ses SES.SES_STATUS.LOCKED (decide (r.hostRemain ≠ 0))).wr .ses SES.SES_STATUS.LOCKOUT_REMAIN r.hostRemain
  let s := (s.wr .ses SES.SES_STATUS.FAIL_RUN r.hostFail).wb .ses SES.SES_STATUS.RAIL_OPEN (decide (r.railRole ≠ 0))
  let s := (s.wr .tsn TSN.SHUTDOWN.RESTARTS r.thermRestarts).wb .tsn TSN.SHUTDOWN.LOCKED r.thermLocked
  let s := if r.noMajority.testBit 3 then
      if s.host.fwUp then
        let w := s.caddyWord (s.rd .cad CAD.LEDGER_TIME.POWERED_HOURS)
        s.setCaddy w
      else s
    else s.wr .cad CAD.LEDGER_TIME.POWERED_HOURS (r.caddy % 2 ^ 32)
  let s := s.updMirror fun m => { m with
    seen := true, needStatus := false,
    railLocked := decide (r.railRemain ≠ 0), revokeSeen := r.revoked.1 }
  let s := if r.revoked.1 ≠ old.mirror.revokeSeen && r.revoked.2 = old.role then s.closeSession else s
  let s := if r.hostRemain ≠ 0 && !old.bit .ses SES.SES_STATUS.LOCKED then (s.sesEvent 3 0).count .ses 2 1 else s
  let s := s.raiseIf ((decide (r.hostRemain ≠ 0) && !old.bit .ses SES.SES_STATUS.LOCKED)
    || (decide (r.railRemain ≠ 0) && !old.mirror.railLocked)) .dev 8
  let taken := s.mirror.pending.findIdx? fun (x : Nat × Nat × Nat) => x.1 == r.lastSet.1 && x.2.1 == r.lastSet.2.2.1 && x.2.2 == r.lastSet.2.2.2
  let s := match taken with
    | some i =>
      let done := (s.mirror.pending.take (i + 1)).map fun (x : Nat × Nat × Nat) => x.1
      let slots := s.sense.slotSeqs.filter fun q => done.contains q && (q != r.lastSet.1 || r.lastSet.2.1 == 0)
      let s := (s.updMirror fun m => { m with pending := m.pending.drop (i + 1) }).repend
      let s := ({ s with sense := { s.sense with slotSeqs := s.sense.slotSeqs.filter fun q => !done.contains q } }).raiseIf
        (slots != []) .ftl 5
      if r.lastSet.2.1 ≠ 0 then s.settingReject r.lastSet.2.2.1 r.lastSet.2.2.2 r.lastSet.2.1 else s
    | none => s
  s.restale

/-! ## Feeds and phases (R350-R358) -/

def feed (s : State) (f : Feed) : FeedSt := match f with
  | .a => s.field.pub.feedA
  | .b => s.field.pub.feedB

def setFeed (s : State) (f : Feed) (x : FeedSt) : State := s.updPub fun p => match f with
  | .a => { p with feedA := x }
  | .b => { p with feedB := x }

def otherFeed (f : Feed) : Feed := match f with
  | .a => .b
  | .b => .a

/-- A feed is VALID. -/
def anyValid (s : State) : Bool := decide (s.field.pub.feedA.st = .valid) || decide (s.field.pub.feedB.st = .valid)

/-- A feed event is reported (R344, FEED_LIMITS). -/
def feedLimit (s : State) (f : Feed) (ev : Nat) : State :=
  let x := s.feed f
  s.toHub (.feedLimits (match f with | .a => 0 | .b => 1) ev x.volt x.cur)

/-- A VALID feed leaves VALID (R350, R351): counted and reported. -/
def feedLost (s : State) (f : Feed) (st : FeedState) (volt ev : Nat) : State :=
  let was := decide ((s.feed f).st = .valid)
  let s := s.stepStores.setFeed f { st := st, volt := volt, cur := 0, limited := false }
  if was then
    ((s.updPub fun p => { p with feedLosses := min (p.feedLosses + 1) 255 }).fcount .fpw 16 1).feedLimit f ev
  else s

/-- A feed becomes VALID and is connected (R350). -/
def feedOn (s : State) (f : Feed) (volt : Nat) : State :=
  let s := s.stepStores.setFeed f { s.feed f with st := .valid, volt := volt, limited := false }
  let s := s.feedLimit f 2
  if s.field.pub.holdup then (s.updPub fun p => { p with holdup := false }).feedLimit f 7 else s

/-- A feed comes to its current limit (R351): reported once, as long as it sits there. -/
def limitFeed (s : State) (f : Feed) : State :=
  let x := s.feed f
  if x.limited || decide (x.st ≠ .valid) then s else (s.setFeed f { x with limited := true }).feedLimit f 4

/-- A feed's measured current (R351, R353): it sits at its limit from there on, or no more. -/
def feedCurrent (s : State) (f : Feed) (cur : Nat) : State :=
  let s := s.setFeed f { s.feed f with cur := cur }
  if 4200 + Config.feedLimit.val ≤ cur then s.limitFeed f else s.setFeed f { s.feed f with limited := false }

def phase (s : State) (i : Nat) : Phase := s.field.pub.phases.getD i { st := .retired, temp := 0, share := 0 }
def setPhase (s : State) (i : Nat) (p : Phase) : State := s.updPub fun x => { x with phases := x.phases.set i p }

/-- SHORT follows the working phases, and the converter its current limit (R358). -/
def reshortConv (s : State) : State :=
  s.updPub fun x =>
    let few := decide (workingPhases x.phases < 22)
    { x with
      short := few
      conv := if x.conv = .running && few then .currentLimit else if x.conv = .currentLimit && !few then .running else x.conv }

/-- A replacement of the phase is under way: its spare ramps in (R357). -/
def beingReplaced (s : State) (i : Nat) : Bool := s.field.swaps.any fun x => x.1 == i

/-- A failed phase is out at once, with no spare of its own: reported (R357). -/
def retirePhase (s : State) (i : Nat) : State :=
  let s := (s.setPhase i { s.phase i with st := .retired }).reshortConv
  (s.updPub fun x => { x with failed := x.failed + 1 }).toHub (.phaseSpare i 0xFF 3 (sparesLeft s.field.pub.phases))

/-- A phase is replaced for a reason (R356, R357): a free spare ramps in; a failed phase is out at once. A spare that fails as it ramps in is
replaced like a working phase, and the phase it was to replace works on; one that fails as it ramps out, or whose spare ramps in already,
is only out (log 52). -/
def replacePhase (s : State) (i reason : Nat) : State :=
  let p := s.phase i
  let auto := s.fset .fpw FPW.PHASE_CTRL.AUTO_SPARE == 1
  if reason = 3 && (p.st == .rampOut || (p.st == .working && s.beingReplaced i)) then s.retirePhase i
  else if !(p.st == .working && !s.beingReplaced i || reason == 3 && p.st == .rampIn) || (!auto && reason ≤ 2) then s
  else
    let s := s.updField fun f => { f with swaps := f.swaps.filter fun x => x.2.1 != some i }
    let spare := (List.range 26).find? fun j => (s.phase j).st == .spare
    match spare with
    | none => if reason = 3 then s.retirePhase i else s
    | some j =>
      let s := s.setPhase j { s.phase j with st := .rampIn }
      let s := s.setPhase i { p with st := if reason = 3 then .retired else p.st }
      let s := s.updField fun f => { f with swaps := f.swaps ++ [(i, some j, reason)] }
      let s := (s.updPub fun x => { x with
        phaseSwaps := min (x.phaseSwaps + 1) 255
        spared := if reason = 3 then x.spared else x.spared + 1, failed := if reason = 3 then x.failed + 1 else x.failed }).fcount .fpw 17 1
      (s.reshortConv).toHub (.phaseSpare i j reason (sparesLeft s.field.pub.phases))

end State
end Sys2Proof.Machine
end

