-- ==== Sys2Proof/Machine/Clock.lean ====
section
/-! DEFINITION. Elastic ports, PACE and the slack governors, the voltage sequencer, clock sources and domains, device
time's discipline (R318-R339). -/
namespace Sys2Proof.Machine

open Sys2Proof Reg

namespace State

/-! ## Engines of a domain -/

/-- Codeword lock is lost (R151): what the outer decoder held is gone. -/
def dropCw (s : State) (k : Fin 16) : State :=
  let s := s.updCar k fun c => { c with cwGood := 0, cwBad := 0, outer := Outer.empty, ueBlocks := [] }
  if !s.bit (.lfe k) LFE.FEC_STATUS.CW_LOCK then s
  else
    let s := (s.wb (.lfe k) LFE.FEC_STATUS.CW_LOCK false).count (.lfe k) 6 1
    s.raiseIf (s.runs (.lfe k)) (.lfe k) 11

/-- Acquisition of a receiver begins anew (R113, R115, R116): state 1, or 2 with light, or 10 while its laser is not locked; off while
RXE is off. One that was LOCKED or in HOLDOVER loses its lock: no SNR, no codeword lock. A lock lost with the pilots, and a retune from any
state, restart fast under REACQ_FAST; any other restart follows CD_MODE. -/
def rxRestart (s : State) (k : Fin 16) (fast : Bool) : State :=
  let p := Page.rxe k
  let old := s.rd p RXE.RX_STATUS.ACQ_STATE
  let n := if !s.runs p then 0 else if !s.bit (.txo k) TXO.TX_STATUS.LOCKED then 10
    else if s.bit p RXE.RX_STATUS.SIGNAL then 2 else 1
  let s := (s.wr p RXE.RX_STATUS.ACQ_STATE n).wb p RXE.RX_STATUS.LOCKED false
  let lock := old == 8 || old == 9
  let re := s.bit p RXE.RX_CTRL.REACQ_FAST
  let s := s.updCar k fun c =>
    { c with fast := fast && re, failRaised := c.failRaised && !lock, eqRestart := 0, gap := 0 }
  if lock then
    let s := ((s.wr p RXE.RX_STATUS.SNR_VALID 0).setWord p 0x03C 0).setWord p 0x040 0
    (s.wr p RXE.EQ_CTRL.CONVERGED 0).dropCw k
  else s

/-- The engines whose work a domain clocks (R14, R329): a carrier's converters, a host die, the memory controllers, the
die-to-die links. -/
def domEngines (n : Nat) : List Page :=
  if n < 16 then [.txo (Fin.ofNat 16 n)]
  else if n < 32 then [.rxe (Fin.ofNat 16 (n - 16))]
  else if n = 32 || n = 33 then .hsc (Fin.ofNat 2 (n - 32)) :: (List.finRange 4).map fun g => .hlg (Fin.ofNat 2 (n - 32)) g
  else if n = 34 then ((List.finRange 17).filter fun c => decide (c.val < 9)).map .mch
  else if n = 35 then ((List.finRange 17).filter fun c => decide (9 ≤ c.val)).map .mch
  else if n = 36 then [.qsc, .sch] ++ carriers.flatMap fun k => [.lfe k, .fcr k]
  else []

/-- An engine that runs reads FAULT while a domain of it coasts (R329). -/
def coastEngine (s : State) (p : Page) : State :=
  if s.pst p = 0 then s
  else
    let s := s.setPst p 4
    match p with
    | .rxe k => s.rxRestart k false
    | _ => s

/-- An engine whose domains run again resumes from STARTING (R329, R501): TXO stays there until its laser is locked. -/
def resumeEngine (s : State) (p : Page) : State :=
  if s.pst p ≠ 4 then s
  else match p with
    | .txo k => s.setPst p (if s.bit (.txo k) TXO.TX_STATUS.LOCKED then s.runState p
        else if s.rd (.txo k) TXO.LASER_STATUS.TUNE_STATE = 6 then 4 else 1)
    | .rxe k => (s.beginStarting p).rxRestart k false
    | p => s.beginStarting p

/-! ## Domains (R326-R332) -/

/-- The fields of DOMn. -/
def dom (s : State) (n : Nat) (f : Fld) : Nat := s.rd .tim (f.nth n)
def setDom (s : State) (n : Nat) (f : Fld) (v : Nat) : State := s.wr .tim (f.nth n) v

def qual (s : State) (i : Bool) : Bool := s.bit .tim (if i then TIM.REF_CTRL.B_QUAL else TIM.REF_CTRL.A_QUAL)
def backstopQual (s : State) : Bool := s.bit .tim TIM.REF_CTRL.BACKSTOP_QUAL

/-- The REFCLKs that a domain's SRC_SEL admits. -/
def admits (s : State) (n : Nat) (i : Bool) : Bool :=
  match s.dom n TIM.DOMn.SRC_SEL with
  | 0 => true | 1 => !i | 2 => i | _ => false

/-- The input that a loop follows (R328): the one it has while it is qualified, unless REVERT calls it back to PREFER; else the
other; none when no admitted input is qualified. -/
def loopInput (s : State) (n : Nat) : Option Bool :=
  let ok (i : Bool) : Bool := s.admits n i && s.qual i
  let pref := s.bit .tim TIM.REF_CTRL.PREFER
  let now := s.dom n TIM.DOMn.SRC_NOW
  let cur := decide (now = 1)
  if ok pref && (s.bit .tim TIM.REF_CTRL.REVERT || decide (2 ≤ now)) then some pref
  else if decide (now < 2) && ok cur then some cur
  else if ok pref then some pref
  else if ok (!pref) then some (!pref)
  else none

/-- The source of D37 (R330, R336): its loop while a REFCLK is admitted and qualified, else the backstop if it is qualified. -/
def mgmtSource (s : State) : Option Nat :=
  match s.loopInput 37 with
  | some i => some i.toNat
  | none => if s.backstopQual then some 2 else none

/-- The operating point in force (R325): the slowest of the request, the band's ceiling, and point 2 on the backstop or while
D37 is stopped. -/
def opPoint (s : State) : Nat :=
  let base := max (s.rd .vsq VSQ.MGMT_OP.REQ) (s.rd .vsq VSQ.MGMT_OP.CEILING)
  if s.dom 37 TIM.DOMn.SRC_NOW < 2 && s.host.mgmt = .running then base else 2

/-- The voltage sequencer follows (R325): a move begins when another point is due. -/
def moveOp (s : State) : State :=
  let p := s.opPoint
  if s.rd .vsq VSQ.MGMT_OP.NOW = p then
    if s.clock.target.isSome then { s.wb .vsq VSQ.MGMT_OP.BUSY false with clock := { s.clock with target := none } } else s
  else { s.wb .vsq VSQ.MGMT_OP.BUSY true with clock := { s.clock with target := some p } }

/-- A domain starts the ramp of its output divider (R332). -/
def beginRamp (s : State) (n src : Nat) : State :=
  ((s.setDom n TIM.DOMn.SRC_NOW src).setDom n TIM.DOMn.STATE 2).setDom n TIM.DOMn.RAMP 0

/-- A domain is off: its die has no rails (R336). -/
def domOff (s : State) (n : Nat) : State :=
  (((s.setDom n TIM.DOMn.STATE 0).setDom n TIM.DOMn.COAST 0).setDom n TIM.DOMn.RAMP 0).setDom n TIM.DOMn.SRC_NOW 0

/-- D37 and D39 start on a source (R332, R334, R441 step 8, R451), D37 at point 2: each ramps its loop's divider, and D37 on the backstop has
none. Of the management pages those that are enabled read READY from then on (R39). -/
def startD37 (s : State) : State :=
  if s.host.mgmt ≠ .off || s.start.power = .off || s.inReset then s
  else match s.mgmtSource with
    | none => s
    | some n =>
      let s := if n < 2 then s.beginRamp 37 n
        else ((s.setDom 37 TIM.DOMn.SRC_NOW n).setDom 37 TIM.DOMn.STATE 3).setDom 37 TIM.DOMn.RAMP 15
      let s := { s with host := { s.host with mgmt := .running } }
      let s := s.wr .vsq VSQ.MGMT_OP.NOW 2
      let s := s.beginRamp 39 n
      let s := [Page.dev, .ses, .log, .cad, .tim, .vsq, .tsn].foldl (fun s p => if s.enabled p then s.setPst p 2 else s) s
      s.moveOp

/-- D37 changes source, or is held stopped without one (R330, R331): the switch ends with DOMAIN_SOURCE_SWITCH. -/
def followD37 (s : State) : State :=
  match s.host.mgmt with
  | .off | .stopped => s
  | .running | .changing =>
    let now := s.dom 37 TIM.DOMn.SRC_NOW
    match s.mgmtSource with
    | some n =>
      if n = now && s.host.mgmt = .running then s
      else if n < 2 && now < 2 && s.host.mgmt = .running then s.setDom 37 TIM.DOMn.SRC_NOW n
      else
        let s := s.setDom 37 TIM.DOMn.STATE 5
        { s with host := { s.host with mgmt := .changing } }
    | none =>
      let s := s.setDom 37 TIM.DOMn.STATE 1
      { s with host := { s.host with mgmt := .changing } }

/-- A loop without a qualified input coasts, and its engines that run read FAULT (R329). -/
def coastDom (s : State) (n : Nat) : State :=
  let s := ((s.setDom n TIM.DOMn.STATE 4).setDom n TIM.DOMn.COAST 1).setDom n TIM.DOMn.SRC_NOW 3
  let s := (s.count .tim 20 1).raise .tim 3
  (domEngines n).foldl coastEngine s

/-- A loop follows its inputs (R328, R329): it moves without loss, or coasts. -/
def followLoop (s : State) (n : Nat) : State :=
  let st := s.dom n TIM.DOMn.STATE
  if st < 2 then s
  else match s.loopInput n with
    | some i => if st = 4 then s else s.setDom n TIM.DOMn.SRC_NOW i.toNat
    | none => if st = 4 then s else s.coastDom n

/-- D39 follows its inputs (R327, R329): it never coasts, and its third input is the backstop; with none qualified it takes none and holds, which
leaves device time its rate (log 128). -/
def followD39 (s : State) : State :=
  if s.dom 39 TIM.DOMn.STATE = 0 then s
  else
    let go (s : State) (n : Nat) : State :=
      let s := s.setDom 39 TIM.DOMn.SRC_NOW n
      if s.dom 39 TIM.DOMn.STATE = 1 then s.beginRamp 39 n else s
    match s.loopInput 39 with
    | some i => go s i.toNat
    | none => if s.backstopQual then go s 2 else (s.setDom 39 TIM.DOMn.SRC_NOW 3).setDom 39 TIM.DOMn.STATE 1

/-- Every domain follows its sources: D0-D36 and D39 as loops, D37 under R330. -/
def follow (s : State) : State :=
  let s := (List.range 37).foldl followLoop s
  s.followD39.followD37.moveOp

/-- A domain starts its ramp (R332), or coasts where it has no input (R329). -/
def rampDom (s : State) (n : Nat) : State :=
  match s.loopInput n with
  | some i => s.beginRamp n i.toNat
  | none => s.coastDom n

/-- The die of a domain D0-D36 (R14): dies 0-3 LD0-LD3, 4 the hub, 5-6 the host dies. -/
def domDie (n : Nat) : Nat := if n < 16 then n / 4 else if n < 32 then (n - 16) / 4 else if n < 34 then n - 27 else 4

/-- The domains of a die that gains its rails start, and those of one that loses them are off (R332, R336). -/
def rampDie (s : State) (d : Nat) : State := ((List.range 37).filter fun n => domDie n == d).foldl rampDom s
def dieDomsOff (s : State) (d : Nat) : State := ((List.range 37).filter fun n => domDie n == d).foldl domOff s

/-! ## Governors (R319-R324) -/

/-- The register of a governor. -/
def gov (s : State) (g : Nat) (f : Fld) : Nat := s.rd .vsq (f.nth g)
def setGov (s : State) (g : Nat) (f : Fld) (v : Nat) : State := s.wr .vsq (f.nth g) v

/-- Voltage cap of a band, 5 mV units (R324). -/
def bandCap (b : Nat) : Nat := if b < 2 then 172 else if b = 2 then 168 else 164

/-- A governor that runs keeps its rail at or under the cap of the band in force, and at the cap with GOV_EN = 0; HOLD on VSQ freezes a
rail under the cap (R323, R324). AT_CAP follows, and a rail that reaches its cap raises it (R339). -/
def recap (s : State) (g : Nat) : State :=
  let cap := bandCap (s.gov g VSQ.GOV_LD0.BAND)
  let v := s.gov g VSQ.GOV_LD0.VCORE
  if s.gov g VSQ.GOV_LD0.LIMIT = 0 then s
  else
    let v' := if !(s.rd .vsq VSQ.GOV_CTRL.GOV_EN).testBit g && s.pst .vsq != 5 then cap else min v cap
    let s := if v' = v then s else s.setGov g VSQ.GOV_LD0.VCORE v'
    let m := s.rd .vsq VSQ.GOV_STATUS.AT_CAP
    (s.wr .vsq VSQ.GOV_STATUS.AT_CAP (putBit m g (v' == cap))).raiseIf (v' == cap && !m.testBit g) .vsq 2

/-- The governors whose limit is below 12 (GOV_STATUS.LIMITED). -/
def limited (s : State) : Nat :=
  (List.range 5).foldl (fun a i =>
    let l := s.gov i VSQ.GOV_LD0.LIMIT
    if l ≠ 0 && l < 12 then a + 2 ^ i else a) 0

/-- A port's pace (R319). -/
def portPace (p : PortSample) : Nat :=
  if p.wait ≥ 1000 || p.q = 0 then 1023 else min (256 * p.m * 1000 / ((1000 - p.wait) * p.q)) 1023

/-- The domain of the i-th port of a die's samples (log 50): on a line die four transmit ports, four receive ports, then the
die-to-die links; with the hub's sample the port of D37, those of the two host dies' lanes, then the die-to-die links. -/
def portDom (g i : Nat) : Nat :=
  if g < 4 then (if i < 4 then 4 * g + i else if i < 8 then 16 + 4 * g + (i - 4) else 36)
  else match i with
    | 0 => 37 | 1 => 32 | 2 => 33 | _ => 36

/-- A port counts for the PACE of its sample's die: the host dies' are listed with the hub's and have no governor (R319, R320). -/
def paced (g i : Nat) : Bool := portDom g i != 32 && portDom g i != 33

/-- So many slips of a port of a domain (R318); on a receiver they are a gap of zero soft values. PORT_SLIP is raised at the first since DOMn.SLIP
was cleared. -/
def slip (s : State) (n cnt : Nat) : State :=
  let s := (s.raiseIf (s.dom n TIM.DOMn.SLIP == 0) .tim 5).setDom n TIM.DOMn.SLIP 1
  if n < 16 then s.count (.txo (Fin.ofNat 16 n)) 2 cnt
  else if n < 32 then
    let k : Fin 16 := Fin.ofNat 16 (n - 16)
    (s.updCar k fun c => { c with gap := 255 }).count (.rxe k) 5 cnt
  else if n < 34 then s.count (.hsc (Fin.ofNat 2 (n - 32))) 19 cnt
  else s.count .tim (if n = 37 then 17 else 16) cnt

/-- A port's fill after a sample (R318, R319): with a pace below 256 it loses Q - M words, and those that it does not hold are slips; else it
gains what the interior moved more, up to its 64 entries. -/
def portFill (s : State) (g i : Nat) (p : PortSample) : State :=
  let key := 1024 * g + i
  let old := s.clock.fill.get (fun _ => 32) key
  let lost := if portPace p < 256 then p.q - p.m else 0
  let new := if p.q = 0 then old else if lost = 0 then min 64 (old + (p.m - p.q)) else old - lost
  let s := { s with clock := { s.clock with fill := s.clock.fill.set (fun _ => 32) key new } }
  if old < lost then s.slip (portDom g i) (lost - old) else s

/-- The elastic ports of a domain that runs again start half full (R318, R332). -/
def portsStart (s : State) (n : Nat) : State :=
  { s with clock := { s.clock with fill := s.clock.fill.filter fun e => portDom (e.1 / 1024) (e.1 % 1024) != n } }

/-- One governor acts on a sample (R322, R323). -/
def govern (s : State) (g p : Nat) : State :=
  let s := s.recap g
  let v := s.gov g VSQ.GOV_LD0.VCORE
  let cap := bandCap (s.gov g VSQ.GOV_LD0.BAND)
  let lim := s.gov g VSQ.GOV_LD0.LIMIT
  let run := (s.rd .vsq VSQ.GOV_CTRL.GOV_EN).testBit g && s.pst .vsq != 5
  let v' := if !run then v else if p ≤ 266 && v < cap then v + 1 else if 276 ≤ p && 124 < v then v - 1 else v
  let s := if v' = v then s
    else
      let s := (s.setGov g VSQ.GOV_LD0.VCORE v').count .vsq 2 1
      let s := { s with clock := { s.clock with stepped := s.clock.stepped.set g true } }
      s.raiseIf (v' == cap) .vsq 2
  let s := s.wr .vsq VSQ.GOV_STATUS.AT_CAP (putBit (s.rd .vsq VSQ.GOV_STATUS.AT_CAP) g (v' == cap))
  let high := s.clock.high.getD g 0
  let low := v' == cap && decide (p ≤ 261) && s.bit .vsq VSQ.GOV_CTRL.CEIL_EN
  let high' := if low then 0 else if 282 < p then min (high + 1) 100000 else 0
  let lim' := if low then max (lim - 1) 4 else if 282 < p && 100000 ≤ high + 1 && lim < 12 then lim + 1 else lim
  let s := { s with clock := { s.clock with high := s.clock.high.set g high' } }
  if lim' = lim then s
  else
    let s := (s.setGov g VSQ.GOV_LD0.LIMIT lim').count .vsq (if lim' < lim then 0 else 1) 1
    let m := s.limited
    let s := s.wr .vsq VSQ.GOV_STATUS.LIMITED m
    (s.raiseIf (lim' < lim && lim == 12) .vsq 0).raiseIf (m == 0) .vsq 1

/-- A governor takes control once its die's interior runs: 0.800 V, limit 12 (R338). -/
def startGovernor (s : State) (g : Nat) : State :=
  if s.gov g VSQ.GOV_LD0.LIMIT = 0 then
    let s := { s with clock := { s.clock with high := s.clock.high.set g 0, stepped := s.clock.stepped.set g false } }
    ((s.setGov g VSQ.GOV_LD0.VCORE 160).setGov g VSQ.GOV_LD0.LIMIT 12).recap g
  else s

/-- A governor whose die has lost its rails no longer runs. -/
def stopGovernor (s : State) (g : Nat) : State :=
  let s := ((s.setGov g VSQ.GOV_LD0.VCORE 0).setGov g VSQ.GOV_LD0.LIMIT 0).setGov g VSQ.GOV_LD0.PACE 0
  let s := s.wr .vsq VSQ.GOV_STATUS.AT_CAP (putBit (s.rd .vsq VSQ.GOV_STATUS.AT_CAP) g false)
  s.wr .vsq VSQ.GOV_STATUS.LIMITED s.limited

/-- The governors of the dies that are up take control. -/
def startGovernors (s : State) : State :=
  ((List.range 5).filter s.start.diesUp.testBit).foldl startGovernor s

/-- A write to GOV_CTRL (R323, R338). -/
def effGovCtrl (v : Word) (s : State) : State := (List.range 5).foldl recap (s.plainWrite .vsq 0x020 v)

/-- A write to MGMT_OP (R325). -/
def effMgmtOp (v : Word) (s : State) : State :=
  if VSQ.MGMT_OP.REQ.get v = 3 then s else (s.wr .vsq VSQ.MGMT_OP.REQ (VSQ.MGMT_OP.REQ.get v)).moveOp

/-- A write to DOMn (R336): SRC_SEL, and SLIP by 1. -/
def effDom (n : Nat) (v : Word) (s : State) : State :=
  let sel := TIM.DOMn.SRC_SEL.get v
  if n = 38 || (sel = 3 && n ≠ 37 && n ≠ 39) then s
  else
    let s := if TIM.DOMn.SLIP.get v = 1 then s.setDom n TIM.DOMn.SLIP 0 else s
    (s.setDom n TIM.DOMn.SRC_SEL sel).follow

/-- A write to REF_CTRL. -/
def effRefCtrl (v : Word) (s : State) : State := (s.plainWrite .tim 0x02C v).follow

/-- A write to PACE_VIEW (R338). -/
def effPaceView (v : Word) (s : State) : State := if 5 ≤ VSQ.PACE_VIEW.SEL.get v then s else s.plainWrite .vsq 0x03C v

/-- The clocks of the hub run at all. -/
def clocksOn (s : State) : Bool := decide (s.start.power ≠ .off)

end State

/-! ## Commands -/

/-- PACE_SAMPLE (R319, R322): KL-05 makes the sample after a voltage step read 0. -/
def execPaceSample (g : Fin 5) (ports : List PortSample) (s : State) : Host.Outcome State Fault Refusal :=
  s.done fun s =>
    if !s.start.datapath || (decide (g.val < 4) && !s.start.diesUp.testBit g.val) then s
    else
      let act := ((List.range ports.length).filter (State.paced g.val)).filterMap fun i => ports[i]?.filter fun p => p.q != 0
      let p := if s.clock.stepped.getD g.val false || act = [] then 0 else act.foldl (fun a x => min a (State.portPace x)) 1023
      let s := { s with clock := { s.clock with stepped := s.clock.stepped.set g.val false } }
      let s := s.setGov g.val VSQ.GOV_LD0.PACE p
      let sec := s.time.toNat / 1000000000
      let c := s.clock
      let c := if c.lowSec = sec then c
        else { c with lowSec := sec, lowLast := if c.lowSec + 1 = sec then c.lowNow else List.replicate 5 0,
                      lowNow := List.replicate 5 0 }
      let low := c.lowNow.getD g.val 0
      let c := { c with lowNow := c.lowNow.set g.val (if p = 0 then low else if low = 0 then p else min low p) }
      let s := { s with clock := c }
      let s := (List.range ports.length).foldl (fun s i => match ports[i]? with
        | some x => s.portFill g.val i x
        | none => s) s
      if p = 0 then s.count .vsq 3 1 else s.govern g.val p

/-- REFCLK_TRIP (R326, R328-R330); i is false for REFCLK_A. -/
def execRefclkTrip (i : Bool) (s : State) : Host.Outcome State Fault Refusal :=
  s.done fun s =>
    if !s.qual i then s
    else
      let s := s.wb .tim (if i then TIM.REF_CTRL.B_QUAL else TIM.REF_CTRL.A_QUAL) false
      ((s.count .tim 18 1).raise .tim 0).follow

/-- REFCLK_QUALIFIED (R326). -/
def execRefclkQualified (i : Bool) (s : State) : Host.Outcome State Fault Refusal :=
  s.done fun s =>
    if !s.clocksOn || s.qual i then s
    else
      let s := s.wb .tim (if i then TIM.REF_CTRL.B_QUAL else TIM.REF_CTRL.A_QUAL) true
      ((s.raise .tim 1).startD37).follow

/-- BACKSTOP_QUALIFIED (R326). -/
def execBackstopQualified (s : State) : Host.Outcome State Fault Refusal :=
  s.done fun s =>
    if !s.clocksOn then s else ((s.wb .tim TIM.REF_CTRL.BACKSTOP_QUAL true).startD37).follow

/-- QUAL_TIMEOUT (R330, R498): D37 stays stopped and the device section fails; the endpoint takes its link down; a start in progress is charged
0x06. -/
def execQualTimeout (s : State) : Host.Outcome State Fault Refusal :=
  s.done fun s =>
    if s.host.mgmt ≠ .changing || s.mgmtSource.isSome then s
    else
      let s := s.raise .tim 8
      let s := if s.start.attempt.isSome then s.toField (.startResult 2 0x06 0 8) else s
      let s := s.setDom 37 TIM.DOMn.STATE 1
      let s := [Page.dev, .ses, .log, .cad].foldl (fun s p => if s.enabled p then s.setPst p 4 else s) s
      { s with host := { s.host with mgmt := .stopped, held := [], fwUp := false } }

/-- DOMAIN_SOURCE_SWITCH (R331): a domain restarts on its new source after 32 cycles; `lost` cycles of the old source add to
them. D37 answers the requests it held (State.serveHeld, Access.lean). -/
def switchDomain (n : Fin 40) (lost : Nat) (s : State) : State :=
  let src := if n.val = 37 then s.mgmtSource else (s.loopInput n.val).map (·.toNat)
  let due := if n.val = 37 then decide (s.host.mgmt = .changing) else decide (s.dom n.val TIM.DOMn.STATE = 5)
  match src with
  | none => s
  | some m =>
    if !due then s
    else
      let c := min (32 + min lost 2) 255
      let s := (s.setDom n.val TIM.DOMn.SRC_NOW m).setDom n.val TIM.DOMn.STATE 3
      let s := s.setDom n.val TIM.DOMn.LOST_CYCLES c
      let s := s.setDom n.val TIM.DOMn.SWITCHES (min (s.dom n.val TIM.DOMn.SWITCHES + 1) 255)
      let s := ((s.count .tim 19 1).log 0 1 0 2 (n.val + 256 * c)).raise .tim 2
      if n.val = 37 then { s with host := { s.host with mgmt := .running } }.moveOp else s

/-- LOOP_RELOCK (R329, R332): a coasting loop with a qualified input starts its ramp. -/
def execLoopRelock (n : Fin 40) (s : State) : Host.Outcome State Fault Refusal :=
  s.done fun s =>
    if s.dom n.val TIM.DOMn.STATE ≠ 4 then s
    else match s.loopInput n.val with
      | none => s
      | some i =>
        let s := (s.setDom n.val TIM.DOMn.STATE 2).setDom n.val TIM.DOMn.RAMP 0
        (s.setDom n.val TIM.DOMn.SRC_NOW i.toNat).raise .tim 4

/-- DIVIDER_RAMP_STEP (R332): the next ratio, and RUNNING after the sixteenth; the engines of a domain that coasted resume. -/
def execDividerRampStep (n : Fin 40) (s : State) : Host.Outcome State Fault Refusal :=
  s.done fun s =>
    if s.dom n.val TIM.DOMn.STATE ≠ 2 then s
    else
      let r := s.dom n.val TIM.DOMn.RAMP
      if r < 15 then s.setDom n.val TIM.DOMn.RAMP (r + 1)
      else
        let was := s.dom n.val TIM.DOMn.COAST = 1
        let s := ((s.setDom n.val TIM.DOMn.STATE 3).setDom n.val TIM.DOMn.COAST 0).portsStart n.val
        let ps := (State.domEngines n.val).filter fun p =>
          (List.range 37).all fun m => !((State.domEngines m).contains p && s.dom m TIM.DOMn.COAST == 1)
        if was then ps.foldl State.resumeEngine s else s

/-- BACKSTOP_TRIM (R333). -/
def execBackstopTrim (s : State) : Host.Outcome State Fault Refusal :=
  s.done fun s =>
    if !s.clocksOn then s else s.wb .tim TIM.REF_CTRL.BACKSTOP_TRIMMED (s.backstopQual && (s.qual false || s.qual true))

/-- TIME_REF_PULSE (R334): the interval is in ns of device time at zero correction. -/
def execTimeRefPulse (interval : Int) (s : State) : Host.Outcome State Fault Refusal :=
  s.done fun s =>
    if !s.clocksOn || !s.bit .tim TIM.REF_CTRL.TREF_EN then s
    else if interval < 999900000 ∨ 1000100000 < interval then
      { s.count .tim 21 1 with clock := { s.clock with pulses := 0 } }
    else
      let want := 1000000000 - interval
      let adj := max (-32767) (min 32767 want)
      let n := s.clock.pulses + 1
      let s := { s with clock := { s.clock with pulses := min n 16 } }
      let s := s.wrI .tim TIM.REF_CTRL.ADJ adj
      let old := s.bit .tim TIM.REF_CTRL.TREF_LOCK
      if 16 ≤ n && !old then (s.wb .tim TIM.REF_CTRL.TREF_LOCK true).raise .tim 7 else s

/-- TIME_REF_TIMEOUT (R334). -/
def execTimeRefTimeout (s : State) : Host.Outcome State Fault Refusal :=
  s.done fun s =>
    let old := s.bit .tim TIM.REF_CTRL.TREF_LOCK
    let s := { s.wb .tim TIM.REF_CTRL.TREF_LOCK false with clock := { s.clock with pulses := 0 } }
    s.raiseIf old .tim 6

/-- MGMT_OP_REQUEST (R325). -/
def execMgmtOpRequest (v : Word) (s : State) : Host.Outcome State Fault Refusal :=
  s.done fun s => s.gateReg .vsq 0x040 v (State.effMgmtOp v)

/-- OP_MOVE_DONE (R325). -/
def execOpMoveDone (s : State) : Host.Outcome State Fault Refusal :=
  s.done fun s =>
    match s.clock.target with
    | none => s
    | some p =>
      let s := { s with clock := { s.clock with target := none } }
      ((s.wr .vsq VSQ.MGMT_OP.NOW p).wb .vsq VSQ.MGMT_OP.BUSY false).raise .vsq 3 |>.moveOp

/-- DOMAIN_SRC_SELECT (R336). -/
def execDomainSrcSelect (n : Fin 40) (v : Word) (s : State) : Host.Outcome State Fault Refusal :=
  s.done fun s => s.gateReg .tim (0x030 + 4 * n.val) v (State.effDom n.val v)

end Sys2Proof.Machine
end

