-- ==== Sys2Proof/Machine/StartOps.lean ====
section
/-! DEFINITION. Power and resets of the host side, kettle mode, attempts (R68-R71, R441-R452). -/
namespace Sys2Proof.Machine

open Sys2Proof Reg

namespace State

/-! ## The barrier link's ends (R343) -/

/-- A side starts its end of the link: SEQ from 1, RESTART in its first three HEARTBEATs; frames it had are gone. -/
def BEnd.start (e : BEnd) : BEnd :=
  { e with txSeq := 0, rxSeq := 0, unacked := [], waiting := [], hb := none, hbRun := 0, peerRestart := false, restartLeft := 3 }

/-- A pending proof ends with LAST_RESULT 5 when its check is lost (R345). -/
def proofLost (s : State) : State :=
  if s.bit .ses SES.SES_STATUS.PROOF_PENDING then
    (s.wb .ses SES.SES_STATUS.PROOF_PENDING false).wr .ses SES.SES_STATUS.LAST_RESULT 5
  else s

/-- The hub's end goes down (R20, R343, R345): unacknowledged frames are dropped, the mirrors are stale. -/
def hubLinkDown (s : State) (event : Bool) : State :=
  if !s.hubEnd.up then s
  else
    let s := { s with hubEnd := { s.hubEnd with up := false, unacked := [], waiting := [], hbRun := 0, downs := s.hubEnd.downs + 1 } }
    let s := s.dropPending.proofLost
    let s := s.count .fbr 6 1
    let s := if event then (s.raise .dev 1).log 6 0 0 1 0 else s
    s.restale

/-- The field island's end goes down. -/
def fieldLinkDown (s : State) : State :=
  if !s.fieldEnd.up then s
  else { s with fieldEnd := { s.fieldEnd with up := false, unacked := [], waiting := [], hbRun := 0, downs := min (s.fieldEnd.downs + 1) 255 } }

/-! ## Power and resets (R450) -/

/-- The counters of the field pages (aperture section 0x02). -/
def fieldCtr (c : SMap Nat) : SMap Nat := c.filter fun e => e.1 / 0x800 == 2

/-- The caddy keeps what lies in flash and in the dies. -/
def Cad.keep (c : Cad) : Cad :=
  { Cad.reset with losses := c.losses, bank0 := c.bank0, bank1 := c.bank1, preferred := c.preferred, ledger := c.ledger, history := c.history,
                   bias := c.bias, tiles := c.tiles, sramRows := c.sramRows, cells := c.cells, rows := c.rows }

/-- The memory section keeps its repair list, and a retired MC16 stays so (R284, R289). -/
def Mem.keep (m : Mem) : Mem := { Mem.reset with repairRows := m.repairRows, repairDevs := m.repairDevs, spareGone := m.spareGone }

/-- The reset values per module: the serial number, and its high half in the hold register of its pair (R8, R54, R55 text). -/
def serialReset (s : State) : State :=
  let n := s.identWord.toNat
  let s := (s.wr .dev DEV.SERIAL_LO.word n).wr .dev DEV.SERIAL_HI.word (n / 2 ^ 32)
  { s with host := { s.host with holds := s.host.holds.set (fun _ => 0) DEV.SERIAL_HI.word.off (BitVec.ofNat 32 (n / 2 ^ 32)) } }

/-- The host side is powered from off (R450): every part of it takes its reset value. -/
def hostPowerUp (s : State) (p : HostPower) : State :=
  serialReset { s with
    time := 0, regs := [], damage := [], ctr := fieldCtr s.ctr
    host := { HostIf.reset with perst := s.host.perst }
    ses := SesEng.reset, logRing := [], hubEnd := { BEnd.reset with downs := 0 }, mirror := Mirror.reset, cars := [],
    tm := Tm.reset, cad := Cad.keep s.cad, mem := Mem.keep s.mem, lanes := Lanes.reset,
    sense := Sense.reset, clock := Clock.reset
    start := { s.start with power := p, diesUp := 0, datapath := false, starting := [] } }

/-- The host side loses power: everything on it stops. -/
def hostPowerDown (s : State) : State :=
  let s := { s with
    host := { s.host with mgmt := .off, fwUp := false, held := [], window := false, intN := false }
    hubEnd := { BEnd.reset with downs := s.hubEnd.downs }
    start := { s.start with power := .off, diesUp := 0, datapath := false, attempt := none } }
  s.fieldLinkDown

/-- The registers that RESET_N keeps (R450): LOG, the RWS fields, SES.DENIED and LAST_DENIED, ACCESS_ERR, RESET_HISTORY. -/
def keepRegs (r : SMap Word) : SMap Word :=
  r.filter fun e => e.1 / 0x1000 == 2 || e.1 == 0x44 || e.1 == 0x48 || e.1 == 0x54 || e.1 == 0x58 || e.1 == 0x1040 || e.1 == 0x1044

/-- The damaged words of the log ring (R67, R450: the ring is kept with what is wrong in it). -/
def logDamage (d : SMap Nat) : SMap Nat := d.filter fun e => e.1 / 0x1000000000 == Page.log.base

/-- RESET_N resets the host-side dies (R450, R451): rails stay up, LOG and RWS fields, device time stay. What stands of the conditions
of ALARM_N (R60) and of the vectors' pending bits (R62) outlives it: a die that a trip holds off stays off. -/
def hubReset (s : State) : State :=
  let off := s.rd .tsn TSN.SHUTDOWN.OFF
  let s := { s with
    regs := keepRegs s.regs, damage := logDamage s.damage, ctr := fieldCtr s.ctr
    host := { HostIf.reset with perst := s.host.perst, perstOwed := s.host.perstOwed, pba := s.host.pba }
    ses := { SesEng.reset with deniedSecond := s.ses.deniedSecond }
    mirror := Mirror.reset, hubEnd := { s.hubEnd with crcErr := 0, unknown := 0, resends := 0, dropped := 0 }, cars := [], tm := Tm.reset, cad := Cad.keep s.cad,
    mem := Mem.keep s.mem, lanes := Lanes.reset, sense := Sense.reset, clock := Clock.reset
    start := { s.start with diesUp := 0, datapath := false, starting := [] } }
  ((s.serialReset.wr .tsn TSN.SHUTDOWN.OFF off).wr .dev DEV.RESET_HISTORY.LAST_KIND 5).log 4 0 0 5 0

/-- The hub's end of the link restarts while HEARTBEAT goes on: it counts as the link coming up (R343, R348). Frames that it had sent
or that wait, and settings not yet reported applied, are dropped without a REJECT (the model's choice, log 93). -/
def hubEndRestart (s : State) : State :=
  let s := { s with hubEnd := BEnd.start s.hubEnd }
  let s := s.dropPending
  (s.updField fun f => { f with fullOwed := true }).restale

/-- A warm reset (R68-R71): kind 1 DEV, 2 function level, 3 firmware activation, 4 watchdog. PROOF_PENDING clears with it, LAST_RESULT
stays, and FW_VERSION reads 0 until firmware runs (the model's choices, log 94). A PROOF_CHECK still on its way goes on it: the field
island evaluates it (R71). -/
def warmReset (s : State) (kind : Nat) : State :=
  let checks := (undelivered s.hubEnd s.fieldEnd.rxSeq).filter isCheck
  let pend := s.bit .ses SES.SES_STATUS.PROOF_PENDING
  let s := s.closeSession
  let s := (s.wb .ses SES.SES_STATUS.NONCE_VALID false).wb .ses SES.SES_STATUS.PROOF_PENDING false
  let s := ((s.wr .ses SES.NONCE_LO.word 0).wr .ses SES.NONCE_HI.word 0)
  let s := { s with ses := { s.ses with nonce := 0, proof := [], discard := s.ses.discard || pend } }
  let s := (s.wr .dev DEV.SCRATCH.word 0).wb .dev DEV.DEV_CTRL.INT_N_ENABLE false
  let s := (s.sat .dev DEV.RESET_HISTORY.WARM_COUNT 1).wr .dev DEV.RESET_HISTORY.LAST_KIND kind
  let s := (s.count .dev 17 1).log 4 0 0 kind 0
  let s := s.wr .dev DEV.FW_VERSION.word 0
  let s := { s with host := { s.host with window := true, fwUp := false, held := [] } }
  let s := if kind = 2 then
      { s with host := { s.host with msixEnable := false, functionMask := false, msix := [], bars := [] } }
    else s
  checks.foldl toField s.hubEndRestart

/-! ## Firmware (R434, R441 step 9) -/

/-- The ROM starts firmware: the preferred bank, or the other with FALLBACK. -/
def bootFirmware (s : State) : State :=
  let ok (b : Bool) : Bool := if b then s.cad.bank1.valid else s.cad.bank0.valid
  let p := s.cad.preferred
  let pick : Option Bool := if ok p then some p else if ok (!p) then some (!p) else none
  match pick with
  | none =>
    let s := (s.updCad fun c => { c with running := none, noBank := true }).wr .dev DEV.FW_VERSION.word 0
    ({ s with host := { s.host with fwUp := false } }).restale
  | some b =>
    let fell := b != p
    let bank := if b then s.cad.bank1 else s.cad.bank0
    let other := if b then s.cad.bank0 else s.cad.bank1
    let s := s.updCad fun c => { c with running := some b, preferred := b, noBank := false }
    let s := (s.wr .dev DEV.FW_VERSION.word bank.version.toNat).wb .dev DEV.STATUS.FW_BANK b
    let s := (s.wb .cad CAD.FW_STATUS.PREFERRED b).wb .cad CAD.FW_STATUS.FALLBACK fell
    let s := s.wr .cad CAD.FW_STATUS.VALID (s.cad.bank0.valid.toNat + 2 * s.cad.bank1.valid.toNat)
    let s := s.wr .cad CAD.FW_STATUS.OTHER_VERSION (if other.valid then other.version.toNat / 0x10000 else 0)
    let s := if s.rd .cad CAD.FW_STATUS.STATE = 4 then s.wr .cad CAD.FW_STATUS.STATE 0 else s
    let s := if fell then (s.raise .cad 8).log 4 0 3 8 b.toNat else s
    ({ s with host := { s.host with fwUp := true } }).restale

/-- A boot of the management firmware; after a warm reset it is what WARM_RESET_DONE reports (R69). -/
def bootWarm (s : State) : State :=
  let kind := s.rd .dev DEV.RESET_HISTORY.LAST_KIND
  let s := s.bootFirmware
  s.raiseIf (s.host.fwUp && decide (1 ≤ kind) && decide (kind < 5)) .dev 6

/-! ## The converter (R355, R358, R441 step 6) -/

/-- The converter runs and its bus is at 12 V, by current limit with fewer than 22 working phases; before the bulk capacitance is charged it
waits in precharge. -/
def convOn (s : State) : State :=
  if !s.field.bulk then s.updPub fun p => { p with conv := .precharge }
  else s.updPub fun p => { p with conv := if workingPhases p.phases < 22 then .currentLimit else .running, busV := 12000 }

/-- A converter that is off begins its start: precharge, and soft start once the bulk capacitance is charged. -/
def convBegin (s : State) : State :=
  if s.field.pub.conv ≠ .off then s
  else s.updPub fun p => { p with conv := if s.field.bulk then .softStart else .precharge }

/-- The converter is switched off (R443, R448). -/
def convOff (s : State) : State := s.updPub fun p => { p with conv := .off, busV := 0, busI := 0 }

/-! ## Kettle mode (R444, R447, R448) -/

/-- The datapath is off: every engine page of sections 0x03 to 0x1F takes its reset values, and what it held is gone; no governor runs and the
domains of the dies are off (R336, R338). -/
def datapathOff (s : State) : State :=
  let s := (List.range 37).foldl domOff ((List.range 5).foldl stopGovernor s)
  { s with
    regs := s.regs.filter fun e => decide (e.1 < 0x300000)
    cars := [], tm := Tm.reset, mem := Mem.keep s.mem, lanes := Lanes.reset
    start := { s.start with diesUp := 0, datapath := false } }

/-- Kettle mode is entered (R444, R447, R490): the kettle set is powered, or kept while it runs. -/
def enterKettle (s : State) (c : CauseWord) : State :=
  let s := s.setCause c
  let s := if s.start.power = .off then s.convOn.hostPowerUp .kettleSet else s.datapathOff
  let s := { s with start := { s.start with
    power := .kettleSet, kettle := true, attempt := none, offWait := false,
    forceWindow := s.start.powerOn, forceSince := none, kettleOwed := !s.fieldEnd.up } }
  let s := s.startD37
  if s.fieldEnd.up then s.toHub (.kettleEnter c.cause s.attemptsWord) else s

/-- Deep kettle (R448): the field island alone, and DEEP recorded. -/
def enterDeep (s : State) : State :=
  let s := s.hostPowerDown.convOff
  let s := s.setCause { s.causeWord with deep := true }
  { s with start := { s.start with kettle := false, deepKettle := true, offWait := false } }

/-! ## Attempts (R441-R446) -/

/-- Step 5: the counter is incremented and the watchdog runs; the attempt stands at a step. -/
def beginAttempt (s : State) (step : Nat) (kettle reset : Bool) : State :=
  let n := s.attemptsWord
  let a : Attempt := {
    step := step, fromKettle := kettle, fromReset := reset, counterBefore := n, causeBefore := s.causeWord, held := false,
    watchdog := true, reported := false }
  let s := s.setAttempts (n + 1)
  let s := if step = 6 then s.convBegin else s
  { s with start := { s.start with attempt := some a, kettle := false, deepKettle := false, offWait := false, kettleOwed := false,
                                   forceWindow := false, powerOn := false } }

/-- Steps 3 to 5 of a start (R441, R444, R448): a word without a majority, DEEP, or a counter of 3 or more end it in kettle mode or in deep
kettle; otherwise an attempt begins. What thermal trips removed comes back with the host side. -/
def beginStart (s : State) : State :=
  let s := s.sweep
  let s := { s with tele := { s.tele with trips := 0, permit := 0 }
                    start := { s.start with offWait := false, thermalWait := false, spent := false } }
  if s.noMajority ≠ 0 then s.enterKettle { cause := 0x0A, deep := s.causeWord.deep }
  else if s.causeWord.deep then s.enterDeep
  else if 3 ≤ s.attemptsWord then s.enterKettle s.causeWord
  else s.beginAttempt 6 false false

/-- An attempt fails with a cause (R443, KL-07): the host side goes off for 5 s, or kettle mode is entered again at once. -/
def failAttempt (s : State) (cause : Nat) : State :=
  match s.start.attempt with
  | none => s
  | some a =>
    let c : CauseWord := { cause := cause, deep := s.causeWord.deep }
    if a.fromKettle && decide (3 ≤ a.counterBefore) then s.enterKettle c
    else
      let s := (s.setCause c).hostPowerDown.convOff
      { s with start := { s.start with offWait := true, thermalWait := s.start.thermalWait || decide (cause = 8) } }

/-- The host rails stop under a converter that is short of phases (R358): a rail sequence fault, which ends an attempt that runs with cause
0x07; in service it is treated alike, without a count (log 112). -/
def railsFault (s : State) : State :=
  if s.start.attempt.isSome then s.failAttempt 7
  else
    let s := (s.setCause { cause := 7, deep := s.causeWord.deep }).hostPowerDown.convOff
    { s with start := { s.start with kettle := false, forceWindow := false, kettleOwed := false, offWait := true } }

/-- An attempt is abandoned uncharged (R445, R451): counter and cause as before its step 5. -/
def abandonAttempt (s : State) : State :=
  match s.start.attempt with
  | none => s
  | some a =>
    let s := (s.setAttempts a.counterBefore).setCause a.causeBefore
    { s with start := { s.start with attempt := none } }

/-- An attempt succeeds (R442). -/
def succeedAttempt (s : State) : State :=
  match s.start.attempt with
  | none => s
  | some _ =>
    let s := (s.setAttempts 0).setCause { cause := 0, deep := s.causeWord.deep }
    { s with start := { s.start with attempt := none, powerOn := false } }

/-- A KETTLE_CLEAR reaches the field island (R449, KL-07): true when kettle mode or deep kettle is left. DEEP clears by the rail channel
alone (R448). -/
def kettleClear (s : State) (counter rail : Bool) : Bool × State :=
  if s.start.attempt.isSome then (false, s)
  else if s.start.kettle then
    let s := if counter then s.setAttempts 0 else s
    let s := if rail && s.causeWord.deep then s.setCause { s.causeWord with deep := false } else s
    (true, s.beginAttempt 7 true false)
  else if s.start.deepKettle && rail then
    let s := if counter then s.setAttempts 0 else s
    let s := s.setCause { s.causeWord with deep := false }
    (true, s.beginAttempt 6 false false)
  else (false, s)

/-- FORCE_START_N is sampled asserted within 10 s of the barrier link coming up, at a power-on start (R452): the counter goes to 0 and an
attempt begins from kettle mode. -/
def forceStart (s : State) : State :=
  match s.start.forceSince with
  | none => s
  | some t =>
    if s.start.forceWindow && s.start.kettle && s.start.attempt.isNone && s.pins.forceStartN.asserted && s.hubEnd.up
        && decide (s.tele.now < t + 10000000000) then
      ((s.setAttempts 0).wr .dev DEV.RESET_HISTORY.LAST_KIND 0).beginAttempt 7 true false
    else s

/-- The hub reports the inputs at every change (R454). -/
def reportInputs (s : State) : State :=
  s.toField (.startResult 0 s.inputFlags (s.rd .dev DEV.STATUS.SVC_LEVEL) 0x10)

end State
end Sys2Proof.Machine
end

