-- ==== Sys2Proof/Machine/Txo.lean ====
section
/-! DEFINITION. Carrier transmit (R72-R96, R496): laser, power, tilt, coefficient store, spare laser, test signals. -/
namespace Sys2Proof.Machine

open Sys2Proof Reg

namespace State

/-! ## Laser (R83, R87, R93, R496) -/

/-- The lowest GRID_N of a part; the highest is 750 steps above it (R83). -/
def gridLow (s : State) : Int := if s.part = .ec then -287 else -1215

/-- A write to LASER_FREQ (R83, R87): refused out of range; a laser that was locked, or was locking, retunes, and RXE waits for it. -/
def effLaserFreq (k : Fin 16) (v : Word) (s : State) : State :=
  let p := Page.txo k
  let n := TXO.LASER_FREQ.GRID_N.getI v
  if n < s.gridLow || s.gridLow + 750 < n then s.wb p TXO.LASER_STATUS.FREQ_REJECT true
  else
    let s := (s.wb p TXO.LASER_STATUS.FREQ_REJECT false).wrI p TXO.LASER_FREQ.GRID_N n
    let t := s.rd p TXO.LASER_STATUS.TUNE_STATE
    if t = 3 || t = 4 then
      ((s.wr p TXO.LASER_STATUS.TUNE_STATE 5).wb p TXO.TX_STATUS.LOCKED false).rxRestart k true
    else s

/-- A draw of the bias of a laser that is newly in use; 130 % or more is at the limit (R91). -/
def drawBias (s : State) (k : Fin 16) : State :=
  let p := Page.txo k
  let (i, s) := s.draw
  let was := s.bit p TXO.LASER_BIAS.LIMIT
  let lim := decide (130 ≤ (Config.laserBiasPct i).toNat)
  let s := (s.wr p TXO.LASER_BIAS.BIAS (Config.laserBias i).toNat).wr p TXO.LASER_BIAS.BIAS_PCT (Config.laserBiasPct i).toNat
  let s := s.wb p TXO.LASER_BIAS.LIMIT lim
  if lim && !was then (s.raise p 4).autoLaser k false else s

/-- The domain of the carrier's transmit converters coasts (R329). -/
def txCoasts (s : State) (k : Fin 16) : Bool := s.dom k.val TIM.DOMn.COAST == 1

/-- The laser in use reaches TUNE_STATE 4 (R96): TXO runs, and RXE may acquire (R113). -/
def laserLocked (s : State) (k : Fin 16) : State :=
  let p := Page.txo k
  let s := ((s.wr p TXO.LASER_STATUS.TUNE_STATE 4).wb p TXO.TX_STATUS.LOCKED true).raise p 0
  let n := s.pst p
  let s := if (n = 1 || n = 4) && !s.txCoasts k then s.setPst p (s.runState p) else s
  if s.rd (.rxe k) RXE.RX_STATUS.ACQ_STATE = 10 then s.rxRestart k (s.car k).fast else s

/-- A laser fault (R93): LASER_FAULT, TUNE_STATE 6, TXO reads FAULT, the receiver loses its local oscillator; firmware
brings in the spare (R428). -/
def laserFault (s : State) (k : Fin 16) : State :=
  let p := Page.txo k
  let s := (((s.wr p TXO.LASER_STATUS.TUNE_STATE 6).wb p TXO.TX_STATUS.LOCKED false).setPst p 4).raise p 1
  (s.rxRestart k false).autoLaser k true

/-- One tuning phase ends (R496): 1 to 2, 2 to 3, 3 to 4 within 1.5 GHz, 5 to 3. -/
def tunePhase (s : State) (k : Fin 16) (e : Int) : State :=
  let p := Page.txo k
  if !s.enabled p then s
  else match s.rd p TXO.LASER_STATUS.TUNE_STATE with
    | 1 => s.wr p TXO.LASER_STATUS.TUNE_STATE 2
    | 2 => s.wr p TXO.LASER_STATUS.TUNE_STATE 3
    | 5 => s.wr p TXO.LASER_STATUS.TUNE_STATE 3
    | 3 => if e.natAbs ≤ 150 then ((s.wrI p TXO.LASER_STATUS.FREQ_ERR e).laserLocked k).drawBias k else s
    | _ => s

/-! ## Power and tilt (R78, R89) -/

/-- A write to TX_POWER (R89). -/
def effTxPower (k : Fin 16) (v : Word) (s : State) : State :=
  let p := Page.txo k
  let n := TXO.TX_POWER.SETPOINT.getI v
  if n < -1000 || 100 < n then s.wb p TXO.TX_STATUS.CFG_REJECT true
  else
    let old := s.rdI p TXO.TX_POWER.SETPOINT
    let s := (s.wb p TXO.TX_STATUS.CFG_REJECT false).wrI p TXO.TX_POWER.SETPOINT n
    if (s.car k).shutter && n ≠ old then
      (s.updCar k fun c => { c with ramp := true }).wb p TXO.TX_STATUS.LIGHT false
    else s

/-- The four tilts of a register word lie in -6.0 to +6.0 dB (R78). -/
def tiltOk (v : Word) : Bool :=
  (List.range 4).all fun i => decide ((signed 8 (getBits v (8 * i) 8)).natAbs ≤ 60)

/-- A write to TILT_LO or TILT_HI (R78): while TXO is OFF the new tilts apply at once. -/
def effTilt (k : Fin 16) (hi : Bool) (v : Word) (s : State) : State :=
  let p := Page.txo k
  if !tiltOk v then s.wb p TXO.TX_STATUS.CFG_REJECT true
  else
    let s := (s.wb p TXO.TX_STATUS.CFG_REJECT false).setWord p (if hi then 0x03C else 0x038) v
    if s.pst p = 0 then
      let t := (List.range 8).map (s.tiltSet k)
      s.updCar k fun c => { c with tiltNow := t }
    else s

/-! ## Output and spare laser (R85, R90) -/

/-- A write to TX_CTRL (R85, R90): one that asks for a busy spare is refused; SPEC_INV applies at the next frame boundary,
at once while TXO is OFF. -/
def effTxCtrl (k : Fin 16) (v : Word) (s : State) : State :=
  let p := Page.txo k
  let sel := TXO.TX_CTRL.LASER_SEL.get v == 1
  let was := s.bit p TXO.TX_CTRL.LASER_SEL
  let busy := sel && !was && !s.bit p TXO.TX_STATUS.SPARE_IN_USE && !s.bit p TXO.TX_STATUS.SPARE_PENDING && s.spareBusy k
  if busy then s
  else
    let s := if sel = was then s else (s.touchProc k).selectLaser k sel
    let s := (s.wr p TXO.TX_CTRL.OUTPUT_EN (TXO.TX_CTRL.OUTPUT_EN.get v)).wr p TXO.TX_CTRL.SPEC_INV (TXO.TX_CTRL.SPEC_INV.get v)
    if s.pst p = 0 then s.updCar k fun c => { c with specInv := TXO.TX_CTRL.SPEC_INV.get v == 1 } else s

/-- RXE enters HOLDOVER from LOCKED (R115). -/
def rxHold (s : State) (k : Fin 16) : State :=
  if s.rd (.rxe k) RXE.RX_STATUS.ACQ_STATE ≠ 8 then s
  else ((s.wr (.rxe k) RXE.RX_STATUS.ACQ_STATE 9).wb (.rxe k) RXE.RX_STATUS.LOCKED false).count (.rxe k) 2 1

/-- The optical switch operates (R90, R91): the warm laser takes the carrier and the other is switched off; a spare that comes
into use is a substitution (R435), one given up is free again. -/
def spareSwitch (s : State) (k : Fin 16) : State :=
  let p := Page.txo k
  if !s.bit p TXO.TX_STATUS.SPARE_PENDING then s
  else
    let toSpare := s.bit p TXO.TX_CTRL.LASER_SEL
    let r := s.cad.cur
    let why := match r with
      | some r => if r.k = k then (if r.fault then 6 else if r.auto then 5 else 4) else 4
      | none => 4
    let s := (s.wb p TXO.TX_STATUS.SPARE_PENDING false).wb p TXO.TX_STATUS.SPARE_IN_USE toSpare
    let s := s.updCar k fun c => { c with warming := false, ownOn := !toSpare }
    let s := if toSpare then s.substitute 2 why k.val else s.holdSpare k false
    let s := ((s.emit (.opticalSwitch k)).raise p 6).count p 3 1
    let s := if s.enabled p && s.rd p TXO.LASER_STATUS.TUNE_STATE ≠ 4 then s.laserLocked k else s
    (s.drawBias k).rxHold k

/-! ## Coefficient store (R77, R79-R82) -/

/-- A word's place in the coefficient store: bank, table, index. -/
def coefIdx (bank : Bool) (t i : Nat) : Nat := 0x100000 * bank.toNat + 1024 * t + i

/-- A table has the index (COEF_ADDR.INDEX). -/
def coefHas (t i : Nat) : Bool :=
  match t with
  | 0 => decide (i < 512)
  | 1 => decide (i < 64)
  | 2 => decide (i < 64) && decide (i % 16 ≠ 15)
  | _ => false

/-- The active bank. -/
def coefActive (s : State) (k : Fin 16) : Bool := s.bit (.txo k) TXO.COEF_CTRL.ACTIVE_BANK

/-- A bank's stored words. -/
def coefBank (c : Carrier) (b : Bool) : SMap (Option (BitVec 16)) := if b then c.coef1 else c.coef0

/-- A bank's stored words, replaced. -/
def setCoefBank (c : Carrier) (b : Bool) (m : SMap (Option (BitVec 16))) : Carrier :=
  if b then { c with coef1 := m } else { c with coef0 := m }

/-- The power-on content of a coefficient word: in table 0 one response in all eight sets (R77), else the module's own (R80). -/
def coefFactory (k : Fin 16) (t i : Nat) : BitVec 16 := if t = 0 then rrcTap (i % 64) else Config.coefFactory k.val t i

/-- The value of a coefficient word: what was written, or the power-on content (R77, R80). -/
def coefWord (s : State) (k : Fin 16) (b : Bool) (t i : Nat) : BitVec 16 :=
  match (coefBank (s.car k) b).get (fun _ => none) (1024 * t + i) with
  | some v => v
  | none => coefFactory k t i

/-- INDEX after an access (AUTO_INC). -/
def coefStep (s : State) (k : Fin 16) : State :=
  let p := Page.txo k
  if s.bit p TXO.COEF_ADDR.AUTO_INC then s.wr p TXO.COEF_ADDR.INDEX (s.rd p TXO.COEF_ADDR.INDEX + 1) else s

/-- A write to COEF_DATA (R81): to the shadow bank; ignored with REJECT while a COMMIT is pending, and INDEX then does not advance (the
model's choice, log 99). -/
def effCoefData (k : Fin 16) (v : Word) (s : State) : State :=
  let p := Page.txo k
  if s.bit p TXO.COEF_CTRL.PENDING then s.wb p TXO.COEF_CTRL.REJECT true
  else
    let t := s.rd p TXO.COEF_ADDR.TABLE
    let i := s.rd p TXO.COEF_ADDR.INDEX
    let s :=
      if coefHas t i then
        let b := !s.coefActive k
        let w := BitVec.ofNat 16 (if t = 1 then v.toNat % 256 else v.toNat)
        (s.updCar k fun c => setCoefBank c b ((coefBank c b).set (fun _ => none) (1024 * t + i) (some w))).protect p t
          (coefIdx b t i)
      else s
    s.coefStep k

/-- The damaged words of a bank, as table and index. -/
def coefDamaged (s : State) (k : Fin 16) (b : Bool) : List (Nat × Nat) :=
  s.damage.filterMap fun e =>
    let page := e.1 / 0x100000000
    let x := e.1 % 0x100000000
    if page / 16 = (Page.txo k).base && decide (page % 16 < 3) && decide (x / 0x100000 = b.toNat) then
      some (page % 16, x % 1024)
    else none

/-- A bank written as a whole: its damage is gone, but an armed test damages its first word. -/
def coefFill (s : State) (k : Fin 16) (m : SMap (Option (BitVec 16))) : State :=
  let p := Page.txo k
  let b := !s.coefActive k
  let s := (s.coefDamaged k b).foldl
    (fun s x => { s with damage := s.damage.set (fun _ => 0) (damageKey p x.1 (coefIdx b x.1 x.2)) 0 }) s
  let s := s.updCar k fun c => setCoefBank c b m
  (List.range 3).foldl (fun s t => s.protect p t (coefIdx b t 0)) s

/-- A word of a store of the chain is used (R82, R276): corrected, and not written back, or it acts as zero and COEF_UE is raised. -/
def chainUse (s : State) (k : Fin 16) (t x : Nat) : State :=
  let p := Page.txo k
  let new := s.damage.get (fun _ => 0) (damageKey p t x) == 2
  let (_, s) := s.useKept p t x
  if new then (s.raise p 9).updCar k fun c => { c with coefUe := true } else s

/-- A damaged word of the active bank is used. -/
def coefUse (s : State) (k : Fin 16) (t i : Nat) : State := s.chainUse k t (coefIdx (s.coefActive k) t i)

/-- A word stands with an uncorrectable error that has been found. -/
def wordLost (s : State) (p : Page) (t x : Nat) : Bool := s.damage.get (fun _ => 0) (damageKey p t x) == 3

/-- The codes whose matchers run: those of the subcarriers that carry data. A composition is one word of target 3. -/
def codesInUse (s : State) (k : Fin 16) : List Nat := ((s.car k).txMap.codes.filter fun c => decide (c ≤ 36)).dedup

/-- A word of the active bank is in use: the taps of its set, all of the mask (R77, R79, R80). -/
def coefInUse (c : Carrier) (t i : Nat) : Bool :=
  match t with
  | 0 => decide (i % 64 < c.pfTaps)
  | 1 => true
  | _ => decide (i % 16 < c.peTaps)

/-- The chain uses its coefficients and its matchers' compositions (R82). -/
def coefRun (s : State) (k : Fin 16) : State :=
  let s := (s.coefDamaged k (s.coefActive k)).foldl
    (fun s x => if coefInUse (s.car k) x.1 x.2 then s.coefUse k x.1 x.2 else s) s
  (s.codesInUse k).foldl (fun s c => s.chainUse k 3 c) s

/-- The content of the active bank as COPY reads it: uncorrectable words as zero. -/
def coefCopied (s : State) (k : Fin 16) : State × SMap (Option (BitVec 16)) :=
  let b := s.coefActive k
  let bad := s.coefDamaged k b
  let s := bad.foldl (fun s x => s.coefUse k x.1 x.2) s
  let m := bad.foldl (fun m x =>
    if s.damage.get (fun _ => 0) (damageKey (.txo k) x.1 (coefIdx b x.1 x.2)) = 3 then
      SMap.set m (fun _ => none) (1024 * x.1 + x.2) (some (0 : BitVec 16))
    else m) (coefBank (s.car k) b)
  (s, m)

/-- A COMMIT takes effect (R81, R82): the banks change places and the tap counts apply. -/
def coefExchange (s : State) (k : Fin 16) : State :=
  let p := Page.txo k
  let b := !s.coefActive k
  let s := (s.wb p TXO.COEF_CTRL.ACTIVE_BANK b).wb p TXO.COEF_CTRL.PENDING false
  let ue := ((s.coefDamaged k b).any fun x => s.wordLost p x.1 (coefIdx b x.1 x.2)) || (s.codesInUse k).any fun c => s.wordLost p 3 c
  let pf := s.rd p TXO.COEF_CTRL.PF_TAPS
  let pe := s.rd p TXO.COEF_CTRL.PE_TAPS
  ((s.updCar k fun c => { c with pfTaps := pf, peTaps := pe, coefUe := ue }).raise p 5).count p 5 1

/-- A write to COEF_CTRL (R81): tap counts out of range, or a command while a COMMIT is pending, are refused; COPY and FACTORY act
before COMMIT, and COPY before FACTORY, so that the power-on contents stand where both are set (the model's choice, log 99). -/
def effCoefCtrl (k : Fin 16) (v : Word) (s : State) : State :=
  let p := Page.txo k
  let pf := TXO.COEF_CTRL.PF_TAPS.get v
  let pe := TXO.COEF_CTRL.PE_TAPS.get v
  let commit := TXO.COEF_CTRL.COMMIT.get v == 1
  let copy := TXO.COEF_CTRL.COPY.get v == 1
  let factory := TXO.COEF_CTRL.FACTORY.get v == 1
  if pf < 8 || 64 < pf || pe = 0 || (s.bit p TXO.COEF_CTRL.PENDING && (commit || copy || factory)) then
    s.wb p TXO.COEF_CTRL.REJECT true
  else
    let s := ((s.wb p TXO.COEF_CTRL.REJECT false).wr p TXO.COEF_CTRL.PF_TAPS pf).wr p TXO.COEF_CTRL.PE_TAPS pe
    let s := if copy then let x := s.coefCopied k; x.1.coefFill k x.2 else s
    let s := if factory then s.coefFill k [] else s
    if commit then if s.pst p = 0 then s.coefExchange k else s.wb p TXO.COEF_CTRL.PENDING true else s

/-! ## Test signals and the frame boundary -/

/-- A write to TX_TEST (R95): refused with an absent mode, or a mode other than 0 while TXO is not DRAINED. -/
def effTxTest (k : Fin 16) (v : Word) (s : State) : State :=
  let p := Page.txo k
  let m := TXO.TX_TEST.MODE.get v
  if 4 ≤ m || (m ≠ 0 && s.pst p ≠ 6) then s
  else (s.wr p TXO.TX_TEST.MODE m).wr p TXO.TX_TEST.SC (TXO.TX_TEST.SC.get v)

/-- One step of 0.1 dB toward a target (R78). The tilt of a subcarrier that is off is kept. -/
def tiltStep (now : Int) (target : Int × Bool) : Int :=
  if !target.2 then now else if now < target.1 then now + 1 else if target.1 < now then now - 1 else now

/-- What TXO does at a frame boundary: tilt moves (R78), a COMMIT takes effect (R81), SPEC_INV applies, a test signal ends with
DRAIN (R95). -/
def txEdge (s : State) (k : Fin 16) : State :=
  let p := Page.txo k
  let on := (s.car k).txMap.on
  let tgt := (List.range 8).map fun i => (s.tiltSet k i, on.testBit i)
  let inv := s.bit p TXO.TX_CTRL.SPEC_INV
  let s := s.updCar k fun c => { c with tiltNow := List.zipWith tiltStep c.tiltNow tgt, specInv := inv }
  let s := if s.bit p TXO.COEF_CTRL.PENDING then s.coefExchange k else s
  let s := s.coefRun k
  if s.bit p HDR.PAGE_CTRL.DRAIN then s else (s.wr p TXO.TX_TEST.MODE 0).updCar k fun c => { c with test := [] }

/-! ## What leaves the converters (R74-R80) -/

/-- What each subcarrier sends: under a test signal PRBS-31 on all of them or on one, else what the map says; a composition whose word
is lost acts as zero (R82 speaks of coefficient words; the model's choice, log 101). -/
def lineKinds (s : State) (k : Fin 16) : List ScKind :=
  let p := Page.txo k
  let mode := s.rd p TXO.TX_TEST.MODE
  (List.range 8).map fun n =>
    if mode = 2 || (mode = 3 && s.rd p TXO.TX_TEST.SC = n) then .test
    else if mode ≠ 0 then .off
    else
      let code := (s.car k).txMap.codes.getD n 0x3F
      if decide (code ≤ 36) && s.wordLost p 3 code then .lost code else ScKind.ofCode code

/-- The generators of a test signal at a frame start: they run on from frame to frame, from a state that the spec leaves open. -/
def testGens (s : State) (k : Fin 16) : List (BitVec 31 × BitVec 31) :=
  match (s.car k).test with
  | [] => (List.range 8).map fun n =>
    (Config.prbsState (16 * n + k.val) 0 s.time.toNat, Config.prbsState (16 * n + k.val) 1 s.time.toNat)
  | l => l

/-- A tap of the active bank as the chain uses it: signed Q1.15, zero where its word is lost (R82). -/
def activeTap (s : State) (k : Fin 16) (t i : Nat) : Int :=
  let b := s.coefActive k
  if s.wordLost (.txo k) t (coefIdx b t i) then 0 else signed 16 (s.coefWord k b t i).toNat

/-- The mask as the chain uses it: 64 attenuations in 0.125 dB (R79). -/
def activeMask (s : State) (k : Fin 16) : List Nat := (List.range 64).map fun i => (s.activeTap k 1 i).toNat % 256

/-- The share of the output power of each subcarrier (R79): the single carrier of the 800ZR mode has all of it. -/
def scShare (s : State) (k : Fin 16) (n : Nat) : ℚ :=
  let c := s.car k
  if s.zr k then (if n = 0 then 1 else 0)
  else powerShare ((List.range 8).map c.txMap.on.testBit) c.tiltNow (s.activeMask k) n

/-- The gain that a subcarrier has at a frequency, in dB (R79): tilt is bypassed in the 800ZR mode (R75). -/
def scGain (s : State) (k : Fin 16) (n : Nat) (f : Int) : ℚ :=
  gainAt (if s.zr k then 0 else (s.car k).tiltNow.getD n 0) (s.activeMask k) f

/-- The samples that reach the converters in a frame period (R77-R80): each subcarrier's symbols filtered with its set, the single carrier's
with that of SC0 (R75), put in their place in the slot under tilt and mask, brought to the converters' rate (Config.place, whose arithmetic
the spec leaves open), then pre-emphasised. drive is the level at which the power loop drives the converters. -/
def dacInput (s : State) (k : Fin 16) (drive : Nat) (symbols : List (List (Point × Point))) : List (List Int) :=
  let c := s.car k
  let filtered := symbols.mapIdx fun n l =>
    (quadratures l).map (pulseFilter ((List.range c.pfTaps).map fun t => s.activeTap k 0 (64 * n + t)))
  let offsets := if s.zr k then [0] else (List.range 8).map scOffset
  (List.range 4).map fun dac =>
    emphasis ((List.range c.peTaps).map fun t => s.activeTap k 2 (16 * dac + t))
      (Config.place drive filtered (symbols.map dataNorm) offsets (s.scGain k) (s.scShare k) dac)

/-- What the DACs make of a frame period of symbols (R80): clipped to full scale; each clipped sample is counted, and the first since the bit
was last cleared raises DAC_CLIP. -/
def toDac (s : State) (k : Fin 16) (drive : Nat) (symbols : List (List (Point × Point))) : List (List Int) × State :=
  let xs := s.dacInput k drive symbols
  let n := (xs.map (clipped Config.dacFull)).sum
  (xs.map fun l => l.map (clip Config.dacFull), if n = 0 then s else (s.count (.txo k) 1 n).raiseFirst (.txo k) 7)

/-- Symbols as they go to the filters: a subcarrier whose tile is lost is sent as zero (R426), and SPEC_INV negates Q (TX_CTRL). -/
def txSymbols (c : Carrier) (symbols : List (List (Point × Point))) : List (List (Point × Point)) :=
  let symbols := symbols.mapIdx fun n l => if c.txDead.testBit n then l.map fun _ => (Point.zero, Point.zero) else l
  if c.specInv then symbols.map fun l => l.map fun x => (x.1.conj, x.2.conj) else symbols

/-- TXO sends: one that is off or HELD sends nothing. -/
def txSends (s : State) (k : Fin 16) : Bool := s.runs (.txo k) && s.pst (.txo k) != 5

/-- A frame period of a test signal, whether frames are built or not (TX_TEST, R95); mode 1 is light without modulation. -/
def sendTest (s : State) (k : Fin 16) (drive : Nat) : State :=
  let mode := s.rd (.txo k) TXO.TX_TEST.MODE
  let c := s.car k
  if mode = 0 || !s.txSends k then s
  else if mode = 1 then (if c.shutter then s.emit (.testLight k 1 [] []) else s)
  else
    let (symbols, gens, _) := frameSymbols (densD c.txMap.dens) (s.lineKinds k) (s.testGens k) Mapper.empty
    let symbols := txSymbols c symbols
    let (dac, s) := (s.updCar k fun c => { c with test := gens }).toDac k drive symbols
    if c.shutter then s.emit (.testLight k mode symbols dac) else s

/-- A frame goes through the encoders and the mapping stage, and out on the fibre while the shutter is open (R74, R75, R85, R149); fresh
says that it begins a multiframe, where the matchers start afresh. Under a test signal the frame does not leave. -/
def sendLine (s : State) (k : Fin 16) (fresh : Bool) (drive : Nat) (line : List Bool) : State :=
  let p := Page.txo k
  let c := s.car k
  let coder := c.coder.take line
  if !s.txSends k || s.rd p TXO.TX_TEST.MODE ≠ 0 then
    (s.updCar k fun c => { c with coder := { coder with map := Mapper.empty } }).sendTest k drive
  else
    let start := if fresh then { coder.map with amps := Mapper.empty.amps } else coder.map
    let (symbols, _, m) := frameSymbols (densD c.txMap.dens) (s.lineKinds k) [] start
    let symbols := txSymbols c symbols
    let (dac, s) := (s.updCar k fun c => { c with coder := { coder with map := m } }).toDac k drive symbols
    if c.shutter then (s.emit (.lineFrame k line symbols dac)).count p 0 1 else s

end State

/-! ## Meanings -/

/-- LASER_FREQ_WRITE (R83, R87). -/
def execLaserFreqWrite (k : Fin 16) (v : Word) (s : State) : Host.Outcome State Fault Refusal :=
  s.done fun s => s.gateReg (.txo k) 0x028 v (State.effLaserFreq k v)

/-- TUNE_PHASE_DONE (R496). -/
def execTunePhaseDone (k : Fin 16) (freqErr : Int) (s : State) : Host.Outcome State Fault Refusal :=
  s.done fun s => s.tunePhase k freqErr

/-- LASER_LOCK_TIMEOUT (R93). -/
def execLaserLockTimeout (k : Fin 16) (s : State) : Host.Outcome State Fault Refusal :=
  s.done fun s =>
    let t := s.rd (.txo k) TXO.LASER_STATUS.TUNE_STATE
    if s.enabled (.txo k) && (t = 1 || t = 2 || t = 3 || t = 5) then s.laserFault k else s

/-- LASER_LOCK_LOSS (R93). -/
def execLaserLockLoss (k : Fin 16) (s : State) : Host.Outcome State Fault Refusal :=
  s.done fun s => if s.bit (.txo k) TXO.TX_STATUS.LOCKED then s.laserFault k else s

/-- FREQ_DEV (R93). -/
def execFreqDev (k : Fin 16) (freqErr : Int) (s : State) : Host.Outcome State Fault Refusal :=
  s.done fun s =>
    if s.bit (.txo k) TXO.TX_STATUS.LOCKED && decide (150 < freqErr.natAbs) then
      ((s.wrI (.txo k) TXO.LASER_STATUS.FREQ_ERR freqErr).raise (.txo k) 8).laserFault k
    else s

/-- TX_POWER_WRITE (R89). -/
def execTxPowerWrite (k : Fin 16) (v : Word) (s : State) : Host.Outcome State Fault Refusal :=
  s.done fun s => s.gateReg (.txo k) 0x030 v (State.effTxPower k v)

/-- POWER_RAMP_DONE (R89): the output is at its setpoint. -/
def execPowerRampDone (k : Fin 16) (measured : Int) (s : State) : Host.Outcome State Fault Refusal :=
  s.done fun s =>
    if (s.car k).shutter && (s.car k).ramp then
      ((s.updCar k fun c => { c with ramp := false }).wb (.txo k) TXO.TX_STATUS.LIGHT true).wrI (.txo k)
        TXO.TX_POWER_MON.MEASURED (max measured (-4000))
    else s

/-- POWER_DEV (R89): the monitored power differs by more than 1.0 dB while light is expected. -/
def execPowerDev (k : Fin 16) (measured : Int) (s : State) : Host.Outcome State Fault Refusal :=
  s.done fun s =>
    if s.mayShine k && decide (100 < (measured - s.rdI (.txo k) TXO.TX_POWER.SETPOINT).natAbs) then
      ((s.wrI (.txo k) TXO.TX_POWER_MON.MEASURED (max measured (-4000))).raise (.txo k) 2).count (.txo k) 6 1
    else s

/-- TILT_WRITE (R78). -/
def execTiltWrite (k : Fin 16) (hi : Bool) (v : Word) (s : State) : Host.Outcome State Fault Refusal :=
  s.done fun s => s.gateReg (.txo k) (if hi then 0x03C else 0x038) v (State.effTilt k hi v)

/-- OUTPUT_ENABLE_WRITE (R85): TX_CTRL written with OUTPUT_EN changed. -/
def execOutputEnableWrite (k : Fin 16) (on : Bool) (s : State) : Host.Outcome State Fault Refusal :=
  let v := TXO.TX_CTRL.OUTPUT_EN.put (s.word (.txo k) 0x020) on.toNat
  s.done fun s => s.gateReg (.txo k) 0x020 v (State.effTxCtrl k v)

/-- SPARE_LASER_REQUEST (R90): TX_CTRL written with LASER_SEL 1. -/
def execSpareLaserRequest (k : Fin 16) (s : State) : Host.Outcome State Fault Refusal :=
  let v := TXO.TX_CTRL.LASER_SEL.put (s.word (.txo k) 0x020) 1
  s.done fun s => s.gateReg (.txo k) 0x020 v (State.effTxCtrl k v)

/-- SPARE_LASER_RELEASE (R90): TX_CTRL written with LASER_SEL 0. -/
def execSpareLaserRelease (k : Fin 16) (s : State) : Host.Outcome State Fault Refusal :=
  let v := TXO.TX_CTRL.LASER_SEL.put (s.word (.txo k) 0x020) 0
  s.done fun s => s.gateReg (.txo k) 0x020 v (State.effTxCtrl k v)

/-- SPARE_SWITCH (R90, R91). -/
def execSpareSwitch (k : Fin 16) (s : State) : Host.Outcome State Fault Refusal :=
  s.done fun s => s.spareSwitch k

/-- COEF_DATA_WRITE (R81). -/
def execCoefDataWrite (k : Fin 16) (v : Word) (s : State) : Host.Outcome State Fault Refusal :=
  s.done fun s => s.gateReg (.txo k) 0x044 v (State.effCoefData k v)

/-- COEF_COMMIT (R81): COEF_CTRL written with COMMIT. -/
def execCoefCommit (k : Fin 16) (v : Word) (s : State) : Host.Outcome State Fault Refusal :=
  let v := TXO.COEF_CTRL.COMMIT.put v 1
  s.done fun s => s.gateReg (.txo k) 0x048 v (State.effCoefCtrl k v)

/-- COEF_COPY (R81): COEF_CTRL written with COPY alone. -/
def execCoefCopy (k : Fin 16) (s : State) : Host.Outcome State Fault Refusal :=
  let v := TXO.COEF_CTRL.COPY.put (s.word (.txo k) 0x048) 1
  s.done fun s => s.gateReg (.txo k) 0x048 v (State.effCoefCtrl k v)

/-- COEF_FACTORY (R81): COEF_CTRL written with FACTORY alone. -/
def execCoefFactory (k : Fin 16) (s : State) : Host.Outcome State Fault Refusal :=
  let v := TXO.COEF_CTRL.FACTORY.put (s.word (.txo k) 0x048) 1
  s.done fun s => s.gateReg (.txo k) 0x048 v (State.effCoefCtrl k v)

/-- BIAS_LIMIT (R91, R428): the bias of the laser in use reaches 130 %. -/
def execBiasLimit (k : Fin 16) (bias pct : Nat) (s : State) : Host.Outcome State Fault Refusal :=
  s.done fun s =>
    let p := Page.txo k
    if s.rd p TXO.LASER_STATUS.TUNE_STATE = 0 || pct < 130 then s
    else
      let was := s.bit p TXO.LASER_BIAS.LIMIT
      let s := ((s.wr p TXO.LASER_BIAS.BIAS bias).wr p TXO.LASER_BIAS.BIAS_PCT pct).wb p TXO.LASER_BIAS.LIMIT true
      if was then s else (s.raise p 4).autoLaser k false

/-- TX_TEST_WRITE (R95). -/
def execTxTestWrite (k : Fin 16) (v : Word) (s : State) : Host.Outcome State Fault Refusal :=
  s.done fun s => s.gateReg (.txo k) 0x054 v (State.effTxTest k v)

end Sys2Proof.Machine
end

