-- ==== Sys2Proof/Machine/Rxe.lean ====
section
/-! DEFINITION. Carrier receive (R97-R123, R497): signal, acquisition, holdover, equalizer, converters, test. -/
namespace Sys2Proof.Machine

open Sys2Proof Reg

namespace State

/-- The subcarriers on which a receiver equalizes: those of its map, SC0 alone in 800ZR mode (R105, R112). -/
def rxOnMask (s : State) (k : Fin 16) : Nat := if s.zr k then 1 else (s.car k).rxMap.on

/-! ## Memories (R120) -/

/-- A word of a memory of RXE other than the equalizers' is used: an uncorrectable error raises COEF_UE; the word is made anew, but an ADC
calibration entry waits for background calibration, with RXE reading DEGRADED. The dispersion filter is a coefficient store in use, which
is not written back (R276). -/
def rxRead (s : State) (k : Fin 16) (t : Nat) : State :=
  let p := Page.rxe k
  let (bad, s) := if t = 1 then s.useKept p t 0 else s.useProt p t 0
  if bad then
    let s := s.raise p 9
    if t = 2 then s.updCar k fun c => { c with adcUe := true }
    else { s with damage := s.damage.set (fun _ => 0) (damageKey p t 0) 0 }
  else s

/-- A word of a memory of RXE is written and used. -/
def rxUse (s : State) (k : Fin 16) (t : Nat) : State := (s.protect (.rxe k) t 0).rxRead k t

/-- The coefficient words of the equalizers in a mask are written: an armed test damages the first. -/
def eqStore (s : State) (k : Fin 16) (bits : Nat) (words : Nat → List (BitVec 16)) : State :=
  let s := s.updCar k fun c => { c with eqs := (List.range 8).map fun i => if bits.testBit i then words i else c.eqs.getD i [] }
  (List.range 8).foldl (fun s i => if bits.testBit i then s.protect (.rxe k) 0 (248 * i) else s) s

/-- The equalizers in a mask use their coefficients (R120, R276): a word with an uncorrectable error acts as zero until adaptation
rewrites it. -/
def eqRead (s : State) (k : Fin 16) (bits : Nat) : State :=
  (List.range 8).foldl (fun s i =>
    let new := s.damage.get (fun _ => 0) (damageKey (.rxe k) 0 (248 * i)) == 2
    if !bits.testBit i then s
    else
      let (_, s) := s.useKept (.rxe k) 0 (248 * i)
      if new then (s.raise (.rxe k) 9).updCar k fun c => { c with eqs := c.eqs.modify i fun l => l.set 0 0 } else s) s

/-! ## Signal (R100) -/

/-- The input power falls below LOS_LEVEL (R100, R114, R115). -/
def signalLoss (s : State) (k : Fin 16) (power : Int) : State :=
  let p := Page.rxe k
  if !s.enabled p || !s.bit p RXE.RX_STATUS.SIGNAL || (s.car k).losNow ≤ power then s
  else
    let s := ((s.wrI p RXE.RX_POWER.MEASURED (max power (-4000))).wb p RXE.RX_STATUS.SIGNAL false).raise p 0
    let n := s.rd p RXE.RX_STATUS.ACQ_STATE
    if 2 ≤ n && n ≤ 7 then s.wr p RXE.RX_STATUS.ACQ_STATE 1 else s.rxHold k

/-- The input power rises above LOS_LEVEL + 1.0 dB (R100): a receiver that waits for light goes on to GAIN. -/
def signalReturn (s : State) (k : Fin 16) (power : Int) : State :=
  let p := Page.rxe k
  if !s.enabled p || s.bit p RXE.RX_STATUS.SIGNAL || power ≤ (s.car k).losNow + 100 then s
  else
    let s := ((s.wrI p RXE.RX_POWER.MEASURED (max power (-4000))).wb p RXE.RX_STATUS.SIGNAL true).raise p 1
    if s.rd p RXE.RX_STATUS.ACQ_STATE = 1 then s.wr p RXE.RX_STATUS.ACQ_STATE 2 else s

/-! ## Acquisition (R101, R113-R116) -/

/-- An estimate of the dispersion comes into use (R102): at an end of the range CD_AT_LIMIT sets and CD_RANGE is raised. The next estimate
inside the range clears the bit (the model's choice, log 104). -/
def cdSet (s : State) (k : Fin 16) (est : Int) : State :=
  let p := Page.rxe k
  let lim := decide (50000 ≤ est.natAbs)
  let was := s.bit p RXE.RX_STATUS.CD_AT_LIMIT
  ((s.wrI p RXE.CD_EST.EST est).wb p RXE.RX_STATUS.CD_AT_LIMIT lim).raiseIf (lim && !was) p 7

/-- A failed attempt (R114): the next starts at GAIN and searches under CD_MODE. -/
def acqFail (s : State) (k : Fin 16) : State :=
  let p := Page.rxe k
  let s := (s.sat p RXE.RX_STATUS.ACQ_FAILS 1).count p 4 1
  let s := s.raiseIf (!(s.car k).failRaised) p 3
  (s.updCar k fun c => { c with failRaised := true, fast := false }).wr p RXE.RX_STATUS.ACQ_STATE 2

/-- The dispersion search begins: its settings stand until it ends (R119). -/
def cdStart (s : State) (k : Fin 16) : State :=
  let p := Page.rxe k
  let m := s.rd p RXE.RX_CTRL.CD_MODE
  let h := s.rdI p RXE.CD_CFG.CD_HINT
  let w := s.rd p RXE.CD_CFG.WINDOW
  s.updCar k fun c => { c with cdMode := m, cdHint := h, cdWin := w }

/-- The setting that step 3 ends with, from the fibre's dispersion (R101, R115): the dispersion found, if the search covers it; the hint
without a search, if the pilots correlate under it. -/
def cdFound (s : State) (k : Fin 16) (cd : Int) : Option Int :=
  let p := Page.rxe k
  let c := s.car k
  let near (c w : Int) : Option Int := if (cd - c).natAbs ≤ w.natAbs && cd.natAbs ≤ 50000 then some cd else none
  if c.fast then near (s.rdI p RXE.CD_EST.EST) 500
  else match c.cdMode with
    | 0 => near 0 50000
    | 1 => near c.cdHint (500 * (c.cdWin + 1))
    | _ => if (cd - c.cdHint).natAbs ≤ 1000 then some c.cdHint else none

/-! ## Equalizers (R103-R106) -/

/-- The equalizers that adapt (R103-R105, R113, R115, R118): from the equalizer step on and not in HOLDOVER, those of the subcarriers that
are on and not frozen. -/
def eqLive (s : State) (k : Fin 16) : Nat :=
  let n := s.rd (.rxe k) RXE.RX_STATUS.ACQ_STATE
  if n < 6 || 8 < n || s.pst (.rxe k) = 5 then 0 else s.rxOnMask k &&& (0xFF ^^^ s.rd (.rxe k) RXE.EQ_CTRL.FREEZE)

/-- LOCKED is reached (R113): decision-directed tracking begins. -/
def rxLocked (s : State) (k : Fin 16) : State :=
  let p := Page.rxe k
  let s := ((s.wr p RXE.RX_STATUS.ACQ_STATE 8).wb p RXE.RX_STATUS.LOCKED true).wr p RXE.RX_STATUS.ACQ_FAILS 0
  let on := s.rxOnMask k
  let s := (s.wb p RXE.CD_EST.VALID true).wr p RXE.EQ_CTRL.CONVERGED on
  (s.updCar k fun c =>
    { c with fast := false, failRaised := false, eqNew := on, phase := List.replicate 8 none, demap := List.replicate 8 [] }).raise p 2

/-- A step of acquisition ends (R113): no pilot correlation fails the attempt; a condition that is not met holds the step. Step 5 leaves all
eight equalizers at the centre tap, frozen ones too (the model's choice, log 115). -/
def acqStep (s : State) (k : Fin 16) (found : Bool) (cd freq clock : Int) : State :=
  let p := Page.rxe k
  let next (s : State) (n : Nat) : State := s.wr p RXE.RX_STATUS.ACQ_STATE n
  match s.rd p RXE.RX_STATUS.ACQ_STATE with
  | 1 => if s.bit p RXE.RX_STATUS.SIGNAL then next s 2 else s
  | 2 => next (s.cdStart k) 3
  | 3 =>
    if !found then s.acqFail k
    else match s.cdFound k cd with
      | none => s.acqFail k
      | some x => next (((s.cdSet k x).wb p RXE.CD_EST.VALID false).rxUse k 1) 4
  | 4 => if !found then s.acqFail k else if freq.natAbs ≤ 3500 then next (s.wrI p RXE.CARRIER_OFS.FREQ_OFS freq) 5 else s
  | 5 => if !found then s.acqFail k else if clock.natAbs ≤ 20000 then next ((s.wrI p RXE.CARRIER_OFS.CLOCK_OFS clock).eqStore k 0xFF fun _ => eqStart) 6 else s
  | 6 => if !found then s.acqFail k else next (s.eqRead k (s.rxOnMask k)) 7
  | 7 => if !found then s.acqFail k else s.rxLocked k
  | _ => s

/-! ## Registers (R98, R104, R106, R119, R122) -/

/-- A received frame boundary exists only in LOCKED and HOLDOVER (R118). -/
def rxRuns (s : State) (k : Fin 16) : Bool :=
  let n := s.rd (.rxe k) RXE.RX_STATUS.ACQ_STATE
  n == 8 || n == 9

/-- LOS_LEVEL applies: at a received frame boundary, or at once where there is none (R119). -/
def applyLos (s : State) (k : Fin 16) : State :=
  let l := s.rdI (.rxe k) RXE.RX_POWER.LOS_LEVEL
  if (s.car k).losNow = l then s else s.updCar k fun c => { c with losNow := l }

/-- A write to RX_CTRL, CD_CFG or RX_POWER (R119): refused whole with a field out of range; a changed SPEC_INV starts a new acquisition. -/
def effRx (k : Fin 16) (r : RxReg) (v : Word) (s : State) : State :=
  let p := Page.rxe k
  let bad := match r with
    | .rxCtrl => RXE.RX_CTRL.CD_MODE.get v == 3 || RXE.RX_CTRL.TRACK_SPEED.get v == 3 || RXE.RX_CTRL.TIMING_BW.get v == 3
    | .cdCfg => decide (50000 < (RXE.CD_CFG.CD_HINT.getI v).natAbs)
    | .rxPower => decide (RXE.RX_POWER.LOS_LEVEL.getI v < -3000) || decide (-1000 < RXE.RX_POWER.LOS_LEVEL.getI v)
  if bad then s.wb p RXE.RX_STATUS.CFG_REJECT true
  else
    let inv := s.rd p RXE.RX_CTRL.SPEC_INV
    let off := match r with | .rxCtrl => 0x020 | .cdCfg => 0x02C | .rxPower => 0x028
    let s := (s.wb p RXE.RX_STATUS.CFG_REJECT false).plainWrite p off v
    let s := if s.rxRuns k then s else s.applyLos k
    if s.rd p RXE.RX_CTRL.SPEC_INV = inv then s else s.rxRestart k false

/-- A write to EQ_CTRL (R104): RESTART returns equalizers to the centre tap, from where they converge again; their soft values are zero
meanwhile, where there are any. -/
def effEqCtrl (k : Fin 16) (v : Word) (s : State) : State :=
  let p := Page.rxe k
  let r := RXE.EQ_CTRL.RESTART.get v
  let s := s.wr p RXE.EQ_CTRL.FREEZE (RXE.EQ_CTRL.FREEZE.get v)
  if r = 0 then s
  else
    let s := s.eqStore k r fun _ => eqStart
    let s := if s.rxRuns k then s.updCar k fun c => { c with eqRestart := c.eqRestart ||| r } else s
    s.wr p RXE.EQ_CTRL.CONVERGED (s.rd p RXE.EQ_CTRL.CONVERGED &&& (0xFF ^^^ r))

/-- A write to EQ_VIEW_ADDR (R106): CAPTURE takes the 248 coefficient words of a subcarrier as they stand; those of an equalizer that adapts
come with EQ_CAPTURE_DONE. It is ignored while a capture is in progress. -/
def effEqView (k : Fin 16) (v : Word) (s : State) : State :=
  let p := Page.rxe k
  let s := ((s.wr p RXE.EQ_VIEW_ADDR.SC (RXE.EQ_VIEW_ADDR.SC.get v)).wr p RXE.EQ_VIEW_ADDR.INDEX
    (RXE.EQ_VIEW_ADDR.INDEX.get v)).wr p RXE.EQ_VIEW_ADDR.AUTO_INC (RXE.EQ_VIEW_ADDR.AUTO_INC.get v)
  if RXE.EQ_VIEW_ADDR.CAPTURE.get v = 0 || s.bit p RXE.EQ_VIEW_ADDR.CAPTURING then s
  else
    let sc := RXE.EQ_VIEW_ADDR.SC.get v
    let words := if (s.eqLive k).testBit sc then [] else (s.car k).eqs.getD sc []
    ((s.updCar k fun c => { c with view := words }).wb p RXE.EQ_VIEW_ADDR.CAPTURED false).wb p RXE.EQ_VIEW_ADDR.CAPTURING true

/-! ## Phase and soft values (R109, R110, R112) -/

/-- A block between two pilots goes to the demapper (R110): the soft values of its sign bits, and of the matcher blocks that it completes,
each in the order of R74; an 800ZR carrier demaps uniform 16-QAM (R112). A subcarrier without coded bits gives none. -/
def demapBlock (s : State) (k : Fin 16) (sc : Fin 8) (ys : List (Option Int)) : State :=
  let c := s.car k
  let var := Config.noiseVar (16 * sc.val + k.val) s.time.toNat
  let code := c.rxMap.codes.getD sc.val 0x3F
  if s.zr k then s.emit (.soft k sc (ys.map (softSign uniform16 var)) (ys.map (softOuter var)))
  else if 36 < code then s
  else
    let l := if code = 0 then [] else c.demap.getD sc.val [] ++ ys
    let (amps, rest) := softBlocks code var l (l.length / blockLen)
    (s.updCar k fun c => { c with demap := c.demap.set sc.val rest }).emit (.soft k sc (ys.map (softSign (composition code) var)) amps)

/-- The load-map part of a receiver has lost the far end's map (R136). -/
def mapIsLost (s : State) (k : Fin 16) : Bool := s.runs (.lfe k) && s.rd (.lfe k) LFE.LM_STATUS.RX_STATE == 6

/-- A block is resolved (R109): where the phase tracked over it, from the pilot that anchored it last or else from its opening pilot, comes a
quadrant or more off the closing pilot, a slip counts and the block's soft values are zero; the phase is anchored on the closing pilot. They are zero too in HOLDOVER (R115), in the gap of a receive slip (R318),
while the equalizer restarts (R104) and while the far end's map is lost (R136). -/
def phaseBlock (s : State) (k : Fin 16) (sc : Fin 8) (b : PhaseBlock) : State :=
  let p := Page.rxe k
  if !s.rxRuns k || !(s.rxOnMask k).testBit sc.val then s
  else
    let c := s.car k
    let off := ((c.phase.getD sc.val none).getD b.opening + b.drift - b.closing + 512) % 1024 - 512
    let slip := s.bit p RXE.RX_STATUS.LOCKED && decide (256 ≤ off.natAbs)
    let s := if s.bit p RXE.RX_STATUS.LOCKED then s.updCar k fun c => { c with phase := c.phase.set sc.val (some (b.closing % 1024)) } else s
    let s := if slip then (s.count p 1 1).raiseFirst p 5 else s
    let none' := slip || !s.bit p RXE.RX_STATUS.LOCKED || c.gap.testBit sc.val || c.eqRestart.testBit sc.val || s.mapIsLost k
    let s := s.updCar k fun c => { c with gap := putBit c.gap sc.val false }
    s.demapBlock k sc (b.ys.flatMap fun y => [y.1, y.2.1, y.2.2.1, y.2.2.2].map fun v => if none' then none else some v)

/-- The calibration table that the receiver should use (R98): of the die's band, or of BAND_SEL. -/
def rxBand (s : State) (k : Fin 16) : Nat :=
  if s.bit (.rxe k) RXE.ADC_CAL.FORCE_BAND then s.rd (.rxe k) RXE.ADC_CAL.BAND_SEL
  else s.rd .tsn TSN.BANDS.word / 4 ^ (k.val / 4) % 4

/-- The calibration table in use follows (R98). -/
def rxTable (s : State) (k : Fin 16) : State :=
  let b := s.rxBand k
  if s.rd (.rxe k) RXE.RX_STATUS.BAND = b then s
  else ((s.wr (.rxe k) RXE.RX_STATUS.BAND b).raise (.rxe k) 10).rxUse k 2

/-- A write to ADC_CAL (R98, R99): the table changes at the next received frame boundary, or at once where there is none. -/
def effAdcCal (k : Fin 16) (v : Word) (s : State) : State :=
  let s := s.plainWrite (.rxe k) 0x050 v
  if s.rxRuns k || !s.runs (.rxe k) then s else s.rxTable k

/-- A write to RX_TEST (R122): refused with an absent mode, or a mode other than 0 while RXE is not DRAINED. -/
def effRxTest (k : Fin 16) (v : Word) (s : State) : State :=
  let p := Page.rxe k
  let m := RXE.RX_TEST.MODE.get v
  if m = 1 || 4 ≤ m || (m ≠ 0 && s.pst p ≠ 6) then s
  else ((s.wr p RXE.RX_TEST.MODE m).wr p RXE.RX_TEST.SC (RXE.RX_TEST.SC.get v)).wb p RXE.RX_TEST.PRBS_LOCK false

end State

/-! ## Meanings -/

/-- SIGNAL_LOSS (R100, R114, R115). -/
def execSignalLoss (k : Fin 16) (power : Int) (s : State) : Host.Outcome State Fault Refusal :=
  s.done fun s => s.signalLoss k power

/-- SIGNAL_RETURN (R100, R113). -/
def execSignalReturn (k : Fin 16) (power : Int) (s : State) : Host.Outcome State Fault Refusal :=
  s.done fun s => s.signalReturn k power

/-- ACQ_STEP_DONE (R113, R114). -/
def execAcqStepDone (k : Fin 16) (found : Bool) (cd freq clock : Int) (s : State) : Host.Outcome State Fault Refusal :=
  s.done fun s => s.acqStep k found cd freq clock

/-- ACQ_TIMEOUT (R114): LOCKED was not reached within 1 s of SIGNAL. -/
def execAcqTimeout (k : Fin 16) (s : State) : Host.Outcome State Fault Refusal :=
  s.done fun s =>
    let n := s.rd (.rxe k) RXE.RX_STATUS.ACQ_STATE
    if 2 ≤ n && n ≤ 7 then s.acqFail k else s

/-- HOLDOVER_ENTRY (R115): SIGNAL is clear, too many pilots are in error, or the local laser switches. -/
def execHoldoverEntry (k : Fin 16) (cause : HoldoverCause) (s : State) : Host.Outcome State Fault Refusal :=
  s.done fun s => if cause = .signal && s.bit (.rxe k) RXE.RX_STATUS.SIGNAL then s else s.rxHold k

/-- HOLDOVER_EXIT (R108, R115): valid pilots are back within 100 us, and frequency and phase are estimated anew: the offset is a free value, and
each subcarrier's next block is anchored on its own opening pilot. -/
def execHoldoverExit (k : Fin 16) (s : State) : Host.Outcome State Fault Refusal :=
  s.done fun s =>
    let p := Page.rxe k
    if s.rd p RXE.RX_STATUS.ACQ_STATE = 9 then
      let (i, s) := s.draw
      let s := s.updCar k fun c => { c with phase := List.replicate 8 none }
      ((s.wr p RXE.RX_STATUS.ACQ_STATE 8).wb p RXE.RX_STATUS.LOCKED true).wr p RXE.CARRIER_OFS.FREQ_OFS (Config.freqBack i).toNat
    else s

/-- LOCK_LOST (R115): the pilots have not returned after 100 us. -/
def execLockLost (k : Fin 16) (s : State) : Host.Outcome State Fault Refusal :=
  s.done fun s =>
    if s.rd (.rxe k) RXE.RX_STATUS.ACQ_STATE = 9 then ((s.raise (.rxe k) 4).count (.rxe k) 3 1).rxRestart k true else s

/-- PHASE_BLOCK_RESOLVED (R109, R110). -/
def execPhaseBlockResolved (k : Fin 16) (sc : Fin 8) (b : PhaseBlock) (s : State) : Host.Outcome State Fault Refusal :=
  s.done fun s => s.phaseBlock k sc b

/-- EQ_RESTART (R104): EQ_CTRL written with RESTART bits. -/
def execEqRestart (k : Fin 16) (bits : BitVec 8) (s : State) : Host.Outcome State Fault Refusal :=
  let v := RXE.EQ_CTRL.RESTART.put (s.word (.rxe k) 0x044) bits.toNat
  s.done fun s => s.gateReg (.rxe k) 0x044 v (State.effEqCtrl k v)

/-- EQ_RESTART_DONE (R104): the equalizers track again. -/
def execEqRestartDone (k : Fin 16) (bits : BitVec 8) (s : State) : Host.Outcome State Fault Refusal :=
  s.done fun s =>
    if s.rxRuns k then
      (s.updCar k fun c => { c with eqRestart := c.eqRestart &&& (0xFF ^^^ bits.toNat) }).wr (.rxe k) RXE.EQ_CTRL.CONVERGED
        (s.rd (.rxe k) RXE.EQ_CTRL.CONVERGED ||| (bits.toNat &&& s.rxOnMask k))
    else s

/-- EQ_VIEW_CAPTURE (R106): EQ_VIEW_ADDR written with CAPTURE. -/
def execEqViewCapture (k : Fin 16) (s : State) : Host.Outcome State Fault Refusal :=
  let v := RXE.EQ_VIEW_ADDR.CAPTURE.put (s.word (.rxe k) 0x048) 1
  s.done fun s => s.gateReg (.rxe k) 0x048 v (State.effEqView k v)

/-- EQ_CAPTURE_DONE (R106): the 248 words stand in the view buffer. -/
def execEqCaptureDone (k : Fin 16) (words : List (BitVec 16)) (s : State) : Host.Outcome State Fault Refusal :=
  s.done fun s =>
    let p := Page.rxe k
    if s.bit p RXE.EQ_VIEW_ADDR.CAPTURING then
      let s := s.updCar k fun c => { c with view := if c.view = [] then words.take 248 else c.view }
      (List.range 62).foldl (fun s i => s.protect p 4 i) ((s.wb p RXE.EQ_VIEW_ADDR.CAPTURING false).wb p RXE.EQ_VIEW_ADDR.CAPTURED true)
    else s

/-- ADC_BACKGROUND_CAL (R99, R120): a pass is complete, made on the live signal: light, and a local laser to receive it with; a slice at the
end of its range gives way to its tile's reserve cell. -/
def execAdcBackgroundCal (k : Fin 16) (slicesAtEnd : Nat) (s : State) : Host.Outcome State Fault Refusal :=
  s.done fun s =>
    let p := Page.rxe k
    let n := s.rd p RXE.RX_STATUS.ACQ_STATE
    if !s.enabled p || !s.bit p RXE.ADC_CAL.BG_EN || s.pst p = 5 || !s.bit p RXE.RX_STATUS.SIGNAL || n < 2 || 9 < n then s
    else
      let now := s.time.toNat
      let s := s.updCar k fun c => { c with adcUe := false, calAt := now }
      let s := ({ s with damage := s.damage.set (fun _ => 0) (State.damageKey p 2 0) 0 }).rxUse k 2
      (List.range slicesAtEnd).foldl (fun s _ => s.useReserve p 2) s

/-- RX_CTRL_WRITE (R119). -/
def execRxCtrlWrite (k : Fin 16) (r : RxReg) (v : Word) (s : State) : Host.Outcome State Fault Refusal :=
  s.done fun s =>
    s.gateReg (.rxe k) (match r with | .rxCtrl => 0x020 | .cdCfg => 0x02C | .rxPower => 0x028) v (State.effRx k r v)

/-- RX_TEST_WRITE (R122). -/
def execRxTestWrite (k : Fin 16) (v : Word) (s : State) : Host.Outcome State Fault Refusal :=
  s.done fun s => s.gateReg (.rxe k) 0x054 v (State.effRxTest k v)

end Sys2Proof.Machine
end

