-- ==== Sys2Proof/Machine/Keys.lean ====
section
/-! DEFINITION. Line encryption (R190-R204): key slots, loads, rotation, ages, and what the frame part uses of them. -/
namespace Sys2Proof.Machine

open Sys2Proof Reg

/-- A line cell from its bits (R219). -/
def cellOfBits (l : List Bool) : LineCell :=
  { header := BitVec.ofNat 64 (natBits (l.take 64)), body := Crypto.packBits (l.drop 64) 256 }

/-- Whole cells from the front of a bit string, and what is left of it; n bounds their number. -/
def cutCells (l : List Bool) (n : Nat) : List LineCell × List Bool :=
  match n with
  | 0 => ([], l)
  | m + 1 =>
    if l.length < 2112 then ([], l)
    else
      let (cs, r) := cutCells (l.drop 2112) m
      (cellOfBits (l.take 2112) :: cs, r)

/-- The cells in the payload data of a frame (R218): the 16-bit word says how many bits complete the cell that the frame before began; that
cell is lost when its beginning was. With the cells, the bits of the one that the frame begins. -/
def takeCells (part : Option (List Bool)) (data : List Bool) : List LineCell × List Bool :=
  let n := natBits (data.take 16) % 4096
  let rest := data.drop 16
  let first := match part with
    | some p => if p ≠ [] && p.length + n = 2112 && n ≤ rest.length then [cellOfBits (p ++ rest.take n)] else []
    | none => []
  let (cs, r) := cutCells (rest.drop n) (rest.length / 2112)
  (first ++ cs, r)

namespace State

/-! ## Slots -/

/-- A key slot: 0 and 1 transmit, 2 and 3 receive. -/
def slot (s : State) (k : Fin 16) (i : Nat) : KeySlot := (s.car k).slots.getD i KeySlot.empty

/-- A key slot, replaced. -/
def setSlot (s : State) (k : Fin 16) (i : Nat) (x : KeySlot) : State :=
  s.updCar k fun c => { c with slots := c.slots.set i x }

/-- The age warning of a direction clears when its active slot is zeroized or loaded anew (R202). -/
def unwarn (s : State) (k : Fin 16) (i : Nat) : State :=
  let p := Page.fcr k
  if i < 2 then (if i = s.rd p FCR.CR_STATUS.TX_ACTIVE then s.wb p FCR.CR_STATUS.TX_WARN false else s)
  else if i - 2 = s.rd p FCR.CR_STATUS.RX_ACTIVE then s.wb p FCR.CR_STATUS.RX_WARN false else s

/-- A slot is zeroized; an active transmit slot leaves the direction without one (R200, R204). The warning of the active slot goes with
it (R202). When a frame last verified under the slot stays known (R195). -/
def zeroSlot (s : State) (k : Fin 16) (i : Nat) : State :=
  let s := { s.setSlot k i { KeySlot.empty with lastOk := (s.slot k i).lastOk } with damage := s.damage.set (fun _ => 0) (damageKey (.fcr k) 2 i) 0 }
  let s := s.updCar k fun c =>
    { c with txKey := if c.txKey = some i then none else c.txKey, waitKey := if c.waitKey = some i then none else c.waitKey }
  s.unwarn k i

/-- All four slots are zeroized (R192): FCR's ENABLE rises. Key words, a switch that waits and the tag to send go with them. -/
def zeroAll (s : State) (k : Fin 16) : State :=
  let s := (List.range 4).foldl (fun s i => s.zeroSlot k i) s
  let s := (s.wr (.fcr k) FCR.CR_STATUS.KEY_WORDS 0).wb (.fcr k) FCR.CR_STATUS.SWITCH_PENDING false
  s.updCar k fun c =>
    { c with words := [], switchWait := false, txKey := none, waitKey := none, hold := none, rxSwitch := none, ksiMf := none, offIn := 0,
             tag := none, rxPart := none }

/-- A slot's key is used (R204): an uncorrectable error zeroizes the slot and raises CRYPT_MEM_UE. -/
def useSlot (s : State) (k : Fin 16) (i : Nat) : State :=
  let (bad, s) := s.useProt (.fcr k) 2 i
  if bad then (s.zeroSlot k i).raise (.fcr k) 16 else s

/-- Key and salt of a slot as bytes. -/
def slotKeyBytes (x : KeySlot) : List Byte := bytesBE 32 x.key.toNat
def saltBytes (x : KeySlot) : List Byte := bytesBE 4 x.salt.toNat

/-- The IV (R191): SALT, the frame counter, END of the sender and its carrier index. -/
def frameIv (x : KeySlot) (fc : Nat) (endBit : Bool) (carrier : Nat) : List Byte :=
  saltBytes x ++ bytesBE 6 fc ++ bytesBE 2 (endBit.toNat * 0x8000 + carrier * 0x100)

/-- The additional authenticated data (R190): J, KSI, MAP_ID, 0. -/
def frameAad (j : Int) (ksi mapId : Nat) : List Byte :=
  [BitVec.ofInt 8 j, BitVec.ofNat 8 ksi, BitVec.ofNat 8 mapId, 0]

/-! ## Writes (R195, R196, R199, R201) -/

/-- A refused CR_CTRL write or key load. -/
def crReject (s : State) (k : Fin 16) : State := s.wb (.fcr k) FCR.CR_STATUS.CFG_REJECT true

/-- The transmit slot that a SWITCH moves to: the one that TX_ACTIVE does not name, in a direction that is blocked too (R199, R200). -/
def otherSlot (s : State) (k : Fin 16) : Nat := 1 - s.rd (.fcr k) FCR.CR_STATUS.TX_ACTIVE

/-- A write to CR_CTRL (R195, R196, R199, R201): refused whole when one of its parts is; an accepted one discards the key words. -/
def effCrCtrl (k : Fin 16) (v : Word) (s : State) : State :=
  let p := Page.fcr k
  let c := s.car k
  let n := s.pst p
  let sw := FCR.CR_CTRL.SWITCH.get v == 1
  let ze := FCR.CR_CTRL.ZEROIZE.get v == 1
  let sel := 2 * FCR.CR_CTRL.SEL_DIR.get v + FCR.CR_CTRL.SEL_SLOT.get v
  let badMode := FCR.CR_CTRL.MODE.get v != s.rd p FCR.CR_CTRL.MODE && n != 0 && n != 6
  let badSwitch := sw && (c.switchWait || n == 5 || !(s.slot k (s.otherSlot k)).loaded)
  if badMode || badSwitch || (ze && c.txKey == some sel) then s.crReject k
  else
    let s := ((s.plainWrite p 0x040 v).wb p FCR.CR_STATUS.CFG_REJECT false).wr p FCR.CR_STATUS.KEY_WORDS 0
    let s := s.updCar k fun c => { c with words := [], switchWait := c.switchWait || sw }
    let s := if sw then s.wb p FCR.CR_STATUS.SWITCH_PENDING true else s
    if ze then s.zeroSlot k sel else s

/-- A write to KEY_PORT (R195): the first eight words count. -/
def effKeyPort (k : Fin 16) (v : Word) (s : State) : State :=
  let w := (s.car k).words
  if 8 ≤ w.length then s
  else (s.updCar k fun c => { c with words := w ++ [v] }).wr (.fcr k) FCR.CR_STATUS.KEY_WORDS (w.length + 1)

/-- A write to KEY_SALT (R195, R196): the load is completed, or refused; with no active transmit slot, one loaded for transmit
becomes active at the next transmit multiframe boundary. -/
def effKeySalt (k : Fin 16) (v : Word) (s : State) : State :=
  let p := Page.fcr k
  let c := s.car k
  let i := 2 * s.rd p FCR.CR_CTRL.SEL_DIR + s.rd p FCR.CR_CTRL.SEL_SLOT
  let recent := match (s.slot k i).lastOk with
    | some t => decide (s.time.toNat - t ≤ 1049000)
    | none => false
  if c.words.length < 8 || c.txKey = some i || (decide (2 ≤ i) && recent) || s.pst p = 5 then
    ((s.crReject k).raise p 15).count p 15 1
  else
    let key := BitVec.ofNat 256 (c.words.foldl (fun a w => a * 0x100000000 + w.toNat) 0)
    let s := (s.setSlot k i { KeySlot.empty with loaded := true, key := key, salt := v }).unwarn k i
    let s := s.updCar k fun c => { c with words := [], waitKey := if i < 2 && c.txKey = none then some i else c.waitKey }
    ((s.wr p FCR.CR_STATUS.KEY_WORDS 0).wb p FCR.CR_STATUS.CFG_REJECT false).protect p 2 i

/-! ## Boundaries and ages (R199, R200) -/

/-- A transmit slot becomes the active one. -/
def activate (s : State) (k : Fin 16) (b : Nat) : State :=
  (s.updCar k fun c => { c with txKey := some b, waitKey := none }).wr (.fcr k) FCR.CR_STATUS.TX_ACTIVE b

/-- What the crypto part does at a transmit multiframe boundary (R196, R199, R200): a switch to the other slot, which zeroizes the old one, or a
slot that becomes active in a direction without one. A switch comes before a load that waits (the model's choice, log 106). -/
def keyEdge (s : State) (k : Fin 16) : State :=
  let p := Page.fcr k
  let c := s.car k
  let b := s.otherSlot k
  if c.switchWait && (s.slot k b).loaded then
    let s := ((s.zeroSlot k (1 - b)).activate k b).raise p 12
    (s.updCar k fun c => { c with switchWait := false }).wb p FCR.CR_STATUS.SWITCH_PENDING false
  else
    let s := (s.updCar k fun c => { c with switchWait := false }).wb p FCR.CR_STATUS.SWITCH_PENDING false
    match c.txKey, c.waitKey with
    | none, some b => s.activate k b
    | _, _ => s

/-- Age of a slot in frames (R200): sent under it, or the FC distance from its first verified frame. -/
def slotAge (s : State) (k : Fin 16) (i : Nat) : Nat :=
  let x := s.slot k i
  if i < 2 then x.age
  else match x.first with
    | some f => (s.car k).fcKeep - f
    | none => 0

/-- A loaded slot's age reaches 2^34 frames (R200). -/
def ageWarn (s : State) (k : Fin 16) (i : Nat) : State :=
  let p := Page.fcr k
  if !(s.slot k i).loaded || s.slotAge k i < 2 ^ 34 then s
  else
    let act := if i < 2 then (s.car k).txKey == some i else s.rd p FCR.CR_STATUS.RX_ACTIVE == i - 2
    let f := if i < 2 then FCR.CR_STATUS.TX_WARN else FCR.CR_STATUS.RX_WARN
    if !act || s.bit p f then s else (s.wb p f true).raise p 10

/-- A loaded slot's age reaches 2^36 frames (R200): a transmit slot is zeroized, a receive slot retires. -/
def ageRetire (s : State) (k : Fin 16) (i : Nat) : State :=
  if !(s.slot k i).loaded || s.slotAge k i < 2 ^ 36 then s
  else
    let s := s.zeroSlot k i
    let s := if i < 2 then s else s.setSlot k i { s.slot k i with retired := true }
    s.raise (.fcr k) 11

/-- A slot's age is looked at. -/
def ageCheck (s : State) (k : Fin 16) (i : Nat) : State := (s.ageWarn k i).ageRetire k i

/-! ## Received frames (R193, R194, R197-R199) -/

/-- A frame's payload is lost to the cell extractor, which resumes at the first whole cell of the next one (R218). -/
def losePayload (s : State) (k : Fin 16) : State := s.updCar k fun c => { c with hold := none, rxPart := none }

/-- A payload is discarded for a reason of R194. -/
def cryptDiscard (s : State) (k : Fin 16) (fc reason : Nat) : State :=
  let p := Page.fcr k
  let s := ((s.wr p FCR.CR_LAST.FRAME_LO (fc % 2 ^ 24)).wr p FCR.CR_LAST.REASON reason).count p (7 + reason) 1
  let s := s.losePayload k
  if reason = 1 || reason = 4 then
    let n := min ((s.car k).failRun + 1) 8
    let s := (s.updCar k fun c => { c with failRun := n, okRun := 0 }).wr p FCR.CR_STATUS.FAIL_RUN n
    let s := if reason = 1 then s.raiseFirst p 8 else s
    if n = 8 && !s.bit p FCR.CR_STATUS.CRYPT then (s.wb p FCR.CR_STATUS.CRYPT true).raise p 14 else s
  else if reason = 3 then s.raise p 9
  else s

/-- Payload goes to the cell extractor (R218): none from a drained FCR (R187). What the extractor takes out enters the receive conduit with
LINE_CELL_RECEIVED, cell by cell (log 106). -/
def release (s : State) (k : Fin 16) (payload : List Bool) : State :=
  if s.pst (.fcr k) = 6 then s.losePayload k
  else
    let (cells, part) := takeCells (s.car k).rxPart payload
    let s := s.updCar k fun c => { c with hold := none, rxPart := some part }
    ((s.emit (.released k payload)).emit (.extracted k cells)).countS (.csc k) 1 (payload.length / 8)

/-- A held frame verifies under a receive slot (R193, R197-R199): its payload is released unless CRYPT still stands. -/
def verified (s : State) (k : Fin 16) (h : HeldFrame) (i : Nat) : State :=
  let p := Page.fcr k
  let x := s.slot k i
  let now := s.time.toNat
  let s := s.setSlot k i { x with floor := max x.floor h.fc, lastOk := some now, first := some (x.first.getD h.fc) }
  let n := min ((s.car k).okRun + 1) 3
  let s := (s.updCar k fun c => { c with failRun := 0, okRun := n }).wr p FCR.CR_STATUS.FAIL_RUN 0
  let s := if n = 3 && s.bit p FCR.CR_STATUS.CRYPT then (s.wb p FCR.CR_STATUS.CRYPT false).raise p 14 else s
  let s := if s.rd p FCR.CR_STATUS.RX_ACTIVE = i - 2 then s
    else
      let s := (s.wr p FCR.CR_STATUS.RX_ACTIVE (i - 2)).wb p FCR.CR_STATUS.RX_WARN false
      (s.updCar k fun c => { c with rxSwitch := some (i - 2) }).raise p 13
  let x := s.slot k i
  if s.bit p FCR.CR_STATUS.CRYPT then s.losePayload k
  else s.release k (Crypto.gcmBits (slotKeyBytes x) (frameIv x h.fc (!s.bit p FCR.CR_CTRL.END) (s.rd p FCR.CR_CTRL.PEER)) h.payload)

/-- The tag of a held frame verifies under a receive slot, which its sender named in KSI (R190, R194). -/
def tagOk (s : State) (k : Fin 16) (h : HeldFrame) (tag : BitVec 128) (i : Nat) : Bool :=
  let p := Page.fcr k
  let x := s.slot k i
  x.loaded && Crypto.gcmTagBits (slotKeyBytes x) (frameIv x h.fc (!s.bit p FCR.CR_CTRL.END) (s.rd p FCR.CR_CTRL.PEER))
    (frameAad h.j (i - 2) h.mapId) h.payload == bytesBE 16 tag.toNat

/-- The tag of the held frame arrives, or is lost with a failed overhead (R193, R194). -/
def judge (s : State) (k : Fin 16) (crcOk : Bool) (tag : BitVec 128) : State :=
  match (s.car k).hold with
  | none => s
  | some h =>
    let p := Page.fcr k
    if !crcOk then s.cryptDiscard k h.fc 2
    else
      let (bad, s) := s.useProt p 3 0
      if bad then
        (({ s with damage := s.damage.set (fun _ => 0) (damageKey p 3 0) 0 }).raise p 16).cryptDiscard k h.fc 6
      else
        let a := 2 + h.ksi
        let b := 3 - h.ksi
        let s := (s.useSlot k a).useSlot k b
        if (s.slot k a).retired then s.cryptDiscard k h.fc 5
        else if s.tagOk k h tag a then s.verified k h a
        else if s.tagOk k h tag b then s.verified k h b
        else s.cryptDiscard k h.fc (if (s.slot k a).loaded then 1 else 4)

/-- A received payload enters the crypto part (R193, R194, R197): bypassed in MODE 0, discarded at once, or held for its tag. A frame with no
payload data is not: the tag field that follows it is ignored (R193). Such a frame shows by its payload bits, which are all 0 (the model's
choice, log 118); the cell that the frame before it began goes on in the one after it. -/
def enterCrypt (s : State) (k : Fin 16) (h : HeldFrame) (fcValid : Bool) : State :=
  if s.cipherLost (.fcr k) then s.losePayload k
  else if h.payload.all (!·) then s.updCar k fun c => { c with hold := none }
  else if !s.encrypted k then s.release k h.payload
  else
    let x := s.slot k (2 + h.ksi)
    if !fcValid then s.cryptDiscard k h.fc 7
    else if x.retired then s.cryptDiscard k h.fc 5
    else if x.loaded && decide (h.fc ≤ x.floor) then s.cryptDiscard k h.fc 3
    else (s.updCar k fun c => { c with hold := some h }).protect (.fcr k) 3 0

/-- A received multiframe ends (R199): after a whole one in which KSI named the new slot the other is zeroized. -/
def rotateEdge (s : State) (k : Fin 16) : State :=
  match (s.car k).rxSwitch with
  | none => s
  | some n =>
    if (s.car k).ksiMf = some n then (s.zeroSlot k (3 - n)).updCar k fun c => { c with rxSwitch := none } else s

/-- The KSI of a received frame counts toward its multiframe (R199). -/
def noteKsi (s : State) (k : Fin 16) (first : Bool) : State :=
  let n := s.rd (.fcr k) FCR.OH_VIEW.KSI
  s.updCar k fun c => { c with ksiMf := if first || c.ksiMf = some n then some n else none }

end State

/-! ## Meanings -/

/-- CR_SELECT (R195): a write of CR_CTRL. -/
def execCrSelect (k : Fin 16) (v : Word) (s : State) : Host.Outcome State Fault Refusal :=
  s.done fun s => s.gateReg (.fcr k) 0x040 v (State.effCrCtrl k v)

/-- KEY_PORT_WRITE (R195). -/
def execKeyPortWrite (k : Fin 16) (v : Word) (s : State) : Host.Outcome State Fault Refusal :=
  s.done fun s => s.gateReg (.fcr k) 0x048 v (State.effKeyPort k v)

/-- KEY_SALT_WRITE (R195). -/
def execKeySaltWrite (k : Fin 16) (v : Word) (s : State) : Host.Outcome State Fault Refusal :=
  s.done fun s => s.gateReg (.fcr k) 0x04C v (State.effKeySalt k v)

/-- KEY_SWITCH (R199): CR_CTRL written with SWITCH. -/
def execKeySwitch (k : Fin 16) (s : State) : Host.Outcome State Fault Refusal :=
  let v := FCR.CR_CTRL.SWITCH.put (s.word (.fcr k) 0x040) 1
  s.done fun s => s.gateReg (.fcr k) 0x040 v (State.effCrCtrl k v)

/-- KEY_ZEROIZE (R196): CR_CTRL written with ZEROIZE. -/
def execKeyZeroize (k : Fin 16) (s : State) : Host.Outcome State Fault Refusal :=
  let v := FCR.CR_CTRL.ZEROIZE.put (s.word (.fcr k) 0x040) 1
  s.done fun s => s.gateReg (.fcr k) 0x040 v (State.effCrCtrl k v)

/-- KEY_AGE_WARN (R200): the age of a slot reaches 2^34 frames. -/
def execKeyAgeWarn (k : Fin 16) (rx slot : Bool) (s : State) : Host.Outcome State Fault Refusal :=
  s.done fun s => s.ageWarn k (2 * rx.toNat + slot.toNat)

/-- KEY_RETIRED (R200): the age of a slot reaches 2^36 frames. -/
def execKeyRetired (k : Fin 16) (rx slot : Bool) (s : State) : Host.Outcome State Fault Refusal :=
  s.done fun s => s.ageRetire k (2 * rx.toNat + slot.toNat)

end Sys2Proof.Machine
end

