-- ==== Sys2Proof/Machine/LoadMap.lean ====
section
/-! DEFINITION. Load maps, their messages and negotiation, and the FEC part's registers and statistics (R124-R162). -/
namespace Sys2Proof.Machine

open Sys2Proof Reg

/-! ## Maps (R124-R128, R163-R166) -/

/-- A valid code (R124). -/
def codeOk (c : Nat) : Bool := decide (c ≤ 36) || c == 0x3E || c == 0x3F

/-- Required SNR of a code, 0.125 dB units (R125). -/
def reqSnr (c : Nat) : Nat := 49 + 5 * c / 2

/-- Rank of a code (R138): off lowest, then probe, then 0 to 36. -/
def codeRank (c : Nat) : Nat := if c = 0x3F then 0 else if c = 0x3E then 1 else c + 2

/-- The lower of two codes. -/
def lowerCode (a b : Nat) : Nat := if codeRank b < codeRank a then b else a

/-- The sum of 16 + code, the entropy in eighths of a bit, over the loaded subcarriers (R72, R165). -/
def LMap.sum (m : LMap) : Nat := m.codes.foldl (fun a c => if c ≤ 36 then a + entropy c else a) 0

/-- Twice K_D (R164). -/
def twoK (d : Nat) : Nat := if d = 0 then 60900 else if d = 1 then 62930 else 63945

/-- Net payload, Mbit/s, rounded down (R128). -/
def LMap.net (m : LMap) : Nat := m.sum * 72500 * (densD m.dens - 1) * 497 / (4608 * densD m.dens)

/-- First bit of block b of frame j under a map (R165). -/
def LMap.bitAt (m : LMap) (j b : Nat) : Nat := (72 * j + b) * twoK m.dens * m.sum / 144

/-- Same codes and density. -/
def LMap.same (a b : LMap) : Bool := a.codes == b.codes && a.dens == b.dens

/-- A map as it is put into force: one with no loaded subcarrier gives way to the base map (R166). -/
def LMap.inForce (m : LMap) : LMap := if m.sum = 0 then LMap.base else m

/-- The highest code up to a cap that a SNR carries with a margin (R129); none if no code does. -/
def bestCode (cap margin snr : Nat) : Option Nat := ((List.range (cap + 1)).filter fun c => reqSnr c + margin ≤ snr).getLast?

/-! ## Messages (R131, R133) -/

/-- A message filled up to 64 bytes. -/
def pad64 (l : List Nat) : List Byte := (l ++ List.replicate (64 - l.length) 0).map (BitVec.ofNat 8)

/-- Byte i of a message. -/
def msgByte (m : List Byte) (i : Nat) : Nat := (m.getD i 0).toNat

def msgCodes (m : List Byte) : List Nat := (List.range 8).map fun i => msgByte m (6 + i)

namespace State

/-! ## Shared operations of the load-map part -/

/-- A carrier's transmitter sends 8 copies of a message on its in-band channel: type, the bytes from the fourth on (R131). -/
def sendImc (s : State) (k : Fin 16) (type : Nat) (rest : List Nat) : State :=
  s.updCar k fun c =>
    { c with imc := c.imc ++ [(pad64 ([type, 1, c.nextSeq] ++ rest), 8)], nextSeq := (c.nextSeq + 1) % 256 }

/-- The map fields of LM_STATUS follow the maps in force. -/
def lmSync (s : State) (k : Fin 16) : State :=
  let p := Page.lfe k
  let c := s.car k
  let s := (s.wr p LFE.LM_STATUS.TX_DENSITY c.txMap.dens).wr p LFE.LM_STATUS.RX_DENSITY c.rxMap.dens
  let s := (s.wr p LFE.LM_STATUS.TX_MAP_ID c.txMap.id).wr p LFE.LM_STATUS.RX_MAP_ID c.rxMap.id
  s.wb p LFE.LM_STATUS.HELD (match c.waitManual with
    | some (_, held) => held || s.pst p == 5
    | none => false)

def txState (s : State) (k : Fin 16) : Nat := s.rd (.lfe k) LFE.LM_STATUS.TX_STATE
def setTxState (s : State) (k : Fin 16) (n : Nat) : State := s.wr (.lfe k) LFE.LM_STATUS.TX_STATE n
def rxState (s : State) (k : Fin 16) : Nat := s.rd (.lfe k) LFE.LM_STATUS.RX_STATE
def setRxState (s : State) (k : Fin 16) (n : Nat) : State := s.wr (.lfe k) LFE.LM_STATUS.RX_STATE n

/-- RX_STATE where nothing is under way: BASE on the base map, else IDLE. -/
def rxRest (s : State) (k : Fin 16) : State := s.setRxState k (if (s.car k).rxMap.id = 0 then 1 else 2)

/-- A map is stored (R148): an uncorrectable error in the store is repaired and counted. -/
def storeMap (s : State) (k : Fin 16) : State :=
  let s := s.protect (.lfe k) 0 0
  let (bad, s) := s.useProt (.lfe k) 0 0
  if bad then { s with damage := s.damage.set (fun _ => 0) (damageKey (.lfe k) 0 0) 0 } else s

/-- The margin that a penalty adds (R154). -/
def penalty (s : State) (k : Fin 16) : Nat :=
  if s.bit (.lfe k) LFE.FEC_CTRL.PENALTY_EN then s.rd (.lfe k) LFE.FEC_STATUS.PENALTY else 0

/-- The receiver loses the map that the far end sends (R136). -/
def mapLost (s : State) (k : Fin 16) : State :=
  if s.rxState k = 6 then s else ((s.setRxState k 6).raise (.lfe k) 5).count (.lfe k) 12 1

/-- The nearest of the subcarriers in a mask, the lower-numbered of two as near (R105; the model's choice, log 104). -/
def nearest (mask i : Nat) : Option Nat :=
  (List.range 8).foldl (fun best j =>
    if !mask.testBit j then best
    else match best with
      | none => some j
      | some b => if max i j - min i j < max i b - min i b then some j else best) none

/-- A receive map comes into force (R105, R135, R136): subcarriers switched off lose their SNR; the equalizers of those
switched on restart from a neighbour's coefficients. -/
def applyRx (s : State) (k : Fin 16) (m : LMap) : State :=
  let p := Page.rxe k
  let old := (s.car k).rxMap
  let m := m.inForce
  let on := m.on
  let fresh := (List.range 8).foldl (fun a i => if on.testBit i && !old.on.testBit i then a + 2 ^ i else a) 0
  let probes := (List.range 8).foldl (fun a i =>
    if m.codes.getD i 0x3F = 0x3E && old.codes.getD i 0x3F ≠ 0x3E then a + 2 ^ i else a) 0
  let s := s.updCar k fun c =>
    { c with rxMap := m, eqNew := c.eqNew ||| fresh, probeNew := c.probeNew ||| probes, proposed := c.proposed && m.id != 0
             phase := c.phase.mapIdx fun i x => if fresh.testBit i then none else x }
  let s := s.eqStore k fresh fun i => match nearest old.on i with
    | some j => (s.car k).eqs.getD j []
    | none => eqStart
  let s := s.wr p RXE.RX_STATUS.SNR_VALID (s.rd p RXE.RX_STATUS.SNR_VALID &&& on)
  let s := (List.range 8).foldl (fun s i => if on.testBit i then s
    else s.wr p (if i < 4 then ⟨0x03C, 8 * i, 8⟩ else ⟨0x040, 8 * (i - 4), 8⟩) 0) s
  let s := s.wr p RXE.EQ_CTRL.CONVERGED (s.rd p RXE.EQ_CTRL.CONVERGED &&& on &&& (0xFF ^^^ fresh))
  (((s.storeMap k).rxRest k).raise (.lfe k) 1).lmSync k

/-! ## Messages received (R131, R134, R136, R139) -/

/-- The transmitter of a carrier answers a PROPOSE with REJECT. -/
def reject (s : State) (m : Fin 16) (prop reason : Nat) : State :=
  (s.sendImc m 0x12 [0, prop, reason]).count (.lfe m) 11 1

/-- A field of LM_CTRL as applied (R146). -/
def lm (s : State) (k : Fin 16) (f : Fld) : Nat := f.get (s.car k).lmNow

/-- A refresh applies what LM_CTRL holds (R146). -/
def latchLm (s : State) (k : Fin 16) : State := let w := s.word (.lfe k) 0x020; s.updCar k fun c => { c with lmNow := w }

/-- PROPOSE reaches the transmitter of carrier m (R134). A manual announcement that only waits for its boundary answers reason 5 as a held
one does, and a PROPOSE accepted but not yet announced makes the next one reason 3 (the model's choices, log 105). -/
def takePropose (s : State) (m : Fin 16) (msg : List Byte) : State :=
  let p := Page.lfe m
  let c := s.car m
  let codes := msgCodes msg
  let dens := msgByte msg 5
  let n := s.txState m
  let id := msgByte msg 4
  if msgByte msg 1 != 1 || decide (2 < dens) || !codes.all codeOk then s.reject m id 1
  else if s.zr m then s.reject m id 4
  else if s.pst p = 5 then s.reject m id 6
  else if s.lm m LFE.LM_CTRL.NEG_EN = 0 then s.reject m id 2
  else if c.waitManual.isSome then s.reject m id 5
  else if (n ≠ 1 && n ≠ 2) || c.waitProp.isSome || c.waitShed.isSome || c.waitBase || msgByte msg 23 ≠ c.txMap.id then
    s.reject m id 3
  else s.updCar m fun c => { c with waitProp := some ({ codes := codes, dens := dens, id := 0 }, id) }

/-- ANNOUNCE reaches the receiver of carrier k (R136); KL-01 discards the first copy in a multiframe in which a SHED was sent. -/
def takeAnnounce (s : State) (k : Fin 16) (msg : List Byte) : State :=
  let c := s.car k
  let codes := msgCodes msg
  let dens := msgByte msg 5
  let kind := msgByte msg 15
  if c.shedMf || msgByte msg 1 != 1 || decide (2 < dens) || !codes.all codeOk || decide (3 < kind) then s
  else
    let a : Ann := {
      map := { codes := codes, dens := dens, id := msgByte msg 4 }, kind := kind, answered := msgByte msg 14
      eff := natBE ((msg.drop 16).take 5) }
    let s := s.updCar k fun c =>
      { c with rxAnn := some a, proposed := c.proposed && !(kind == 0 && a.answered == c.propId) }
    if s.rxState k = 6 then s else s.setRxState k 4

/-- REJECT reaches the proposer (R133). -/
def takeReject (s : State) (k : Fin 16) (msg : List Byte) : State :=
  let c := s.car k
  if msgByte msg 1 != 1 || !c.proposed || msgByte msg 4 != c.propId then s
  else
    let s := (s.updCar k fun c => { c with proposed := false }).raise (.lfe k) 4
    if s.rxState k = 3 then s.rxRest k else s

/-- SHED reaches the transmitter of carrier m (R139): merged into one that waits; a countdown above 1 is cancelled. A PROPOSE accepted but not
yet announced waits on, and is announced after the shed map (the model's choice, log 115). -/
def takeShed (s : State) (m : Fin 16) (msg : List Byte) : State :=
  let p := Page.lfe m
  let codes := msgCodes msg
  if msgByte msg 1 != 1 || !codes.all codeOk || s.zr m then s
  else
    let c := s.car m
    let merged := match c.waitShed with
      | some (w, _) => List.zipWith lowerCode w codes
      | none => codes
    let cancel := c.txAnn.isSome && decide (1 < s.rd p LFE.LM_STATUS.COUNTDOWN)
    let s := s.updCar m fun c =>
      { c with waitShed := some (merged, msgByte msg 4), txAnn := if cancel then none else c.txAnn
               posts := if cancel then c.posts.filter (fun x => x.1 = 0 || x.2 = 1) else c.posts }
    let s := if cancel then s.wr p LFE.LM_STATUS.COUNTDOWN 0 else s
    let s := if s.txState m = 5 then s else s.setTxState m 4
    ((s.raise p 3).count p 10 1).lmSync m

/-- RESYNC reaches the transmitter of carrier m (R136). -/
def takeResync (s : State) (m : Fin 16) (msg : List Byte) : State :=
  let p := Page.lfe m
  if msgByte msg 1 != 1 || s.zr m || s.txState m = 5 then s
  else
    let cancel := (s.car m).txAnn.isSome && decide (1 < s.rd p LFE.LM_STATUS.COUNTDOWN)
    let s := s.updCar m fun c =>
      { c with waitBase := true, waitShed := none, waitProp := none, txAnn := if cancel then none else c.txAnn
               posts := if cancel then c.posts.filter (fun x => x.1 = 0 || x.2 = 1) else c.posts }
    let s := if cancel then s.wr p LFE.LM_STATUS.COUNTDOWN 0 else s
    (s.setTxState m 5).lmSync m

/-- A received overhead counts as one whose check failed (R148, R169). -/
def crcFail (s : State) (k : Fin 16) : State :=
  ((s.count (.fcr k) 1 1).raiseFirst (.fcr k) 4).updCar k fun c => { c with crcMf := c.crcMf + 1 }

/-- A load-map message on the receiver of carrier k (R131, R132, R148): the first copy of each SEQ counts; a copy lost to the message
buffer counts like a frame that failed its CRC. -/
def takeMsg (s : State) (k : Fin 16) (msg : List Byte) : State :=
  let t := msgByte msg 0
  let m := s.pair k
  let s := s.protect (.lfe k) 1 0
  let (bad, s) := s.useProt (.lfe k) 1 0
  if bad then
    ({ s with damage := s.damage.set (fun _ => 0) (damageKey (.lfe k) 1 0) 0 }).crcFail k
  else if (s.car k).seen.getD (t - 0x10) none = some (msgByte msg 2) then s
  else
    let s := s.updCar k fun c => { c with seen := c.seen.set (t - 0x10) (some (msgByte msg 2)) }
    match t with
    | 0x10 => if s.runs (.lfe m) then s.takePropose m msg else s
    | 0x11 => if s.runs (.lfe k) && !s.zr k then s.takeAnnounce k msg else s
    | 0x12 => if s.runs (.lfe k) && !s.zr k then s.takeReject k msg else s
    | 0x13 => if s.runs (.lfe m) then s.takeShed m msg else s
    | 0x14 => if s.runs (.lfe m) then s.takeResync m msg else s
    | _ => s

/-- Frames reach the receiver of a carrier in their places (R175). -/
def inFrame (s : State) (k : Fin 16) : Bool := s.rd (.fcr k) FCR.FR_STATUS.ALIGN == 3

/-- A message command: a copy of a message of the type, from a frame whose overhead passed its CRC; without codeword lock no frame reaches
the framing part (R151). -/
def message (s : State) (k : Fin 16) (type : Nat) (msg : List Byte) : State :=
  if s.inFrame k && s.bit (.lfe k) LFE.FEC_STATUS.CW_LOCK && msgByte msg 0 == type then s.takeMsg k msg else s

/-! ## The proposer (R129, R130, R138, R140) -/

/-- The code that a refresh proposes for a subcarrier (R129, R130). -/
def refreshCode (s : State) (k : Fin 16) (i : Nat) (snr : Option Nat) (off60 : Bool) : Nat :=
  let c := s.car k
  let cur := c.rxMap.codes.getD i 0x3F
  let cap := s.lm k LFE.LM_CTRL.CODE_CAP
  let m := s.lm k LFE.LM_CTRL.MARGIN + s.penalty k
  let keep := snr.bind (bestCode cap m)
  let up := snr.bind (bestCode cap (m + 4))
  if cur = 0x3F then (if off60 && s.lm k LFE.LM_CTRL.PROBE_EN != 0 then 0x3E else 0x3F)
  else if cur = 0x3E && c.probeNew.testBit i then 0x3E
  else match keep with
    | none => 0x3F
    | some kp =>
      if cur = 0x3E then up.getD 0x3F
      else match up with
        | some u => if s.lm k LFE.LM_CTRL.RAISE_EN != 0 && !c.shedHold.any (·.testBit i) && decide (cur < u) then u
            else if kp < cur then kp else cur
        | none => if kp < cur then kp else cur

/-- SNR of a subcarrier as a message byte: 0 for an off one. -/
def snrByte (cur : Nat) (snr : Option Nat) : Nat := if cur = 0x3F then 0 else snr.getD 0

/-- The lowest SNR of a subcarrier in the interval that ends (R129): of the multiframes over which it was valid, none where it never was. -/
def lowSnr (s : State) (k : Fin 16) (i : Nat) : Option Nat := (s.car k).snrMin.getD i none

/-- The map that a refresh finds (R129, R130). -/
def proposalMap (s : State) (k : Fin 16) (off60 : BitVec 8) : LMap :=
  { codes := (List.range 8).map fun i => s.refreshCode k i (s.lowSnr k i) (off60.getLsbD i)
    dens := s.lm k LFE.LM_CTRL.DENSITY, id := 0 }

/-- A refresh of the proposer (R129, R146): LM_CTRL applies, a new interval begins, and PROPOSE goes out when the map differs and nothing is
under way. -/
def refresh (s : State) (k : Fin 16) (off60 : BitVec 8) : State :=
  let p := Page.lfe k
  if !s.enabled p then s
  else
    let s := s.latchLm k
    let c := s.car k
    let map := s.proposalMap k off60
    let low := s.lowSnr k
    let s := s.updCar k fun c => { c with probeNew := 0, snrMin := List.replicate 8 none }
    if s.pst p = 5 || s.lm k LFE.LM_CTRL.NEG_EN = 0 || s.zr k || !s.inFrame k || map.same c.rxMap || c.proposed
        || s.rd (.fcr k) FCR.OH_VIEW.LM_CD ≠ 0 then s
    else
      let id := if c.propId = 255 then 1 else c.propId + 1
      let bytes := (List.range 8).map fun i => snrByte (c.rxMap.codes.getD i 0x3F) (low i)
      let s := s.updCar k fun c => { c with lastProp := some map, propId := id, proposed := true }
      let s := s.sendImc (s.pair k) 0x10 ([0, id, map.dens] ++ map.codes ++ bytes ++ [s.lm k LFE.LM_CTRL.MARGIN, c.rxMap.id])
      (if s.rxState k = 6 then s else s.setRxState k 3).count p 7 1

/-- The code that a shed asks for on a subcarrier (R138). -/
def shedCode (s : State) (k : Fin 16) (i snr : Nat) : Nat :=
  let c := s.car k
  let cur := c.rxMap.codes.getD i 0x3F
  if 36 < cur then cur
  else
    let ann := match c.rxAnn with
      | some a => if 4 ≤ s.rxState k then a.map.codes.getD i 0x3F else cur
      | none => cur
    let valid := (s.rd (.rxe k) RXE.RX_STATUS.SNR_VALID).testBit i
    let best := if valid then (bestCode 36 (s.lm k LFE.LM_CTRL.MARGIN + s.penalty k) snr).getD 0x3F else 0x3F
    lowerCode (lowerCode cur ann) best

/-- A message that leaves in the next frame, ahead of those that wait (R138). -/
def sendImcNow (s : State) (k : Fin 16) (type : Nat) (rest : List Nat) : State :=
  s.updCar k fun c =>
    { c with imc := (pad64 ([type, 1, c.nextSeq] ++ rest), 8) :: c.imc, nextSeq := (c.nextSeq + 1) % 256 }

/-- A window of 32 received frames ends (R118, R138): a loaded subcarrier below REQ of its code causes a SHED. -/
def shedWindow (s : State) (k : Fin 16) (snr : List Nat) : State :=
  let p := Page.lfe k
  let c := s.car k
  let n := s.rxState k
  let fails (i : Nat) : Bool :=
    let cur := c.rxMap.codes.getD i 0x3F
    decide (cur ≤ 36) && (!(s.rd (.rxe k) RXE.RX_STATUS.SNR_VALID).testBit i
      || decide (snr.getD i 0 < reqSnr cur + s.penalty k))
  if !s.enabled p || !s.bit p LFE.LM_CTRL.SHED_EN || s.zr k || !s.rxRuns k || !(List.range 8).any fails then s
  else
    let codes := (List.range 8).map fun i => s.shedCode k i (snr.getD i 0)
    let id := if c.shedId = 255 then 1 else c.shedId + 1
    let held := (List.range 8).foldl (fun a i =>
      if codeRank (codes.getD i 0) < codeRank (c.rxMap.codes.getD i 0x3F) then a + 2 ^ i else a) 0
    let bytes := (List.range 8).map fun i => snrByte (c.rxMap.codes.getD i 0x3F) (some (min (snr.getD i 0) 255))
    let s := s.updCar k fun c =>
      { c with shedId := id, shedHold := c.shedHold ++ [held], shedCodes := codes, shedMf := true }
    let s := s.sendImcNow (s.pair k) 0x13 ([0, id, 0] ++ codes ++ bytes ++ [s.lm k LFE.LM_CTRL.MARGIN, c.rxMap.id])
    ((if n = 6 then s else s.setRxState k 5).raise p 2).count p 9 1

/-! ## Registers (R145, R146, R159, R161) -/

/-- A write to LM_CTRL (R146). -/
def effLmCtrl (k : Fin 16) (v : Word) (s : State) : State :=
  let p := Page.lfe k
  if LFE.LM_CTRL.DENSITY.get v = 3 || 36 < LFE.LM_CTRL.CODE_CAP.get v then s.wb p LFE.LM_STATUS.CFG_REJECT true
  else (s.wb p LFE.LM_STATUS.CFG_REJECT false).plainWrite p 0x020 v

/-- A write to LM_STAGE (R137, R146): a code is staged; ANNOUNCE announces the staged map, or holds it. In TX_STATE OFF of the native mode an
accepted ANNOUNCE announces nothing; one made in RESYNC waits until TX_STATE is BASE or IDLE (the model's choices, log 105). -/
def effLmStage (k : Fin 16) (v : Word) (s : State) : State :=
  let p := Page.lfe k
  let c := s.car k
  let code := LFE.LM_STAGE.CODE.get v
  let dens := LFE.LM_STAGE.DENSITY.get v
  let ann := LFE.LM_STAGE.ANNOUNCE.get v == 1
  let staged : LMap := { codes := c.staged.codes.set (LFE.LM_STAGE.SEL.get v) code, dens := dens, id := 0 }
  if !codeOk code || dens = 3 || (ann && (s.zr k || staged.same c.txMap)) then s.wb p LFE.LM_STATUS.CFG_REJECT true
  else
    let s := (s.wb p LFE.LM_STATUS.CFG_REJECT false).plainWrite p 0x030 v
    let n := s.txState k
    let s := s.updCar k fun c =>
      { c with staged := staged, waitManual := if ann && n ≠ 0 then some (staged, n == 3 || n == 4) else c.waitManual }
    s.lmSync k

/-- The 800ZR mode changes (R143, R157, R159): the load-map part starts anew or stops, the carrier acquires again. -/
def zrChange (s : State) (k : Fin 16) (on : Bool) : State :=
  let p := Page.lfe k
  let s := (s.wb p LFE.FEC_STATUS.ZR_ACTIVE on).raise p 13
  let s := s.updCar k fun c =>
    { c with zrWait := none, cands := [], txMap := LMap.base, txAnn := none, waitProp := none, waitShed := none, waitBase := false
             waitManual := none, rxMap := LMap.base, rxAnn := none, proposed := false, txJ := 0, hold := none
             rxPart := none, offIn := 0, tag := none, client := [] }
  let n := if on || !s.enabled p then 0 else 1
  let s := ((s.setTxState k n).setRxState k n).wr p LFE.LM_STATUS.COUNTDOWN 0
  ((s.wb p LFE.LM_STATUS.ZR on).lmSync k).rxRestart k false

/-- A write to FEC_CTRL (R152, R159): a change of ZR_MODE waits for the next transmit multiframe boundary; where FCR does not run, none
comes, and it acts at once (the model's choice, log 35). -/
def effFecCtrl (k : Fin 16) (v : Word) (s : State) : State :=
  let p := Page.lfe k
  let n := s.pst p
  let i := LFE.FEC_CTRL.ITER_CEIL.get v
  let z := LFE.FEC_CTRL.ZR_MODE.get v
  let change := z != s.rd p LFE.FEC_CTRL.ZR_MODE
  if i < 2 || 12 < i || (change && ((n != 0 && n != 6) || (z == 1 && (s.bondedTx k || s.bondedRx k)))) then
    s.wb p LFE.FEC_STATUS.CFG_REJECT true
  else
    let s := (s.wb p LFE.FEC_STATUS.CFG_REJECT false).plainWrite p 0x040 v
    if !change then s
    else if !s.runs (.fcr k) then s.zrChange k (z == 1)
    else s.updCar k fun c => { c with zrWait := some (z == 1) }

/-! ## Codewords (R151, R152, R155, R160) -/

/-- A memory of the FEC part is used (R160). -/
def fecUse (s : State) (k : Fin 16) (t : Nat) : Bool × State :=
  let p := Page.lfe k
  let s := s.protect p t 0
  let (bad, s) := s.useProt p t 0
  if bad then (true, ({ s with damage := s.damage.set (fun _ => 0) (damageKey p t 0) 0 }).raise p 14) else (false, s)

/-- The search for a codeword phase, and its loss (R151), by the checks that a codeword leaves unsatisfied. With the lock the outer decoder
begins. -/
def cwPhase (s : State) (k : Fin 16) (unsat : Nat) (mostlyZero othersHigh : Bool) : State :=
  let p := Page.lfe k
  let c := s.car k
  if mostlyZero then s
  else if s.bit p LFE.FEC_STATUS.CW_LOCK then
    let n := if 1296 < unsat then c.cwBad + 1 else 0
    let s := s.updCar k fun c => { c with cwBad := n }
    if 64 ≤ n then s.dropCw k else s
  else if !s.bit (.rxe k) RXE.RX_STATUS.LOCKED then s
  else
    let n := if unsat < 1296 && othersHigh then c.cwGood + 1 else 0
    let s := s.updCar k fun c => { c with cwGood := n, cwBad := 0 }
    if 8 ≤ n then
      ((s.updCar k fun c => { c with outer := Outer.empty, ueBlocks := [] }).wb p LFE.FEC_STATUS.CW_LOCK true).raise p 12
    else s

/-- What the decoders make of a codeword (R149, R152, R158), with a lost word of soft values, a lost iteration (R160). -/
def decodeCw (s : State) (k : Fin 16) (word lost : Bool) (x : CwIn) : Decoded :=
  let c := s.car k
  let x := if word then spoilWord x else x
  let early := s.bit (.lfe k) LFE.FEC_CTRL.ET_EN
  let eff := s.rd (.lfe k) LFE.FEC_STATUS.ITER_EFF
  if s.zr k then decodeZr early eff lost.toNat c.zeroOdd c.outer x else decodeNative early eff lost.toNat c.zeroOdd c.outer x

/-- A codeword that has been decoded: counts, statistics, the outer decoder, the blocks left uncorrected (R152, R155, R156). One that
reached the ceiling with a syndrome other than 0 is a ceiling hit. -/
def countCw (s : State) (k : Fin 16) (d : Decoded) : State :=
  let p := Page.lfe k
  let hit := decide (s.rd p LFE.FEC_STATUS.ITER_EFF ≤ d.r.iters) && !d.r.clean
  let s := ((s.count p 0 1).count p 1 d.r.corr).count p 2 d.r.outerCorr
  let s := ((s.count p 3 hit.toNat).count p 4 d.bad.length)
  let s := (s.countS (.csc k) 4 d.r.corr).countS (.csc k) 5 1
  s.updCar k fun c =>
    { c with mfCw := c.mfCw + 1, mfCeil := c.mfCeil + hit.toNat, mfIter := c.mfIter + d.r.iters, mfUeb := c.mfUeb + d.bad.length
             mfCorr := c.mfCorr + d.r.corr, outer := d.outer, zeroOdd := d.odd, ueBlocks := c.ueBlocks ++ d.bad }

/-- An inner codeword reaches the decoder (R151, R152, R156, R160). -/
def codeword (s : State) (k : Fin 16) (x : CwIn) : State :=
  let p := Page.lfe k
  let z := s.zr k
  if !s.enabled p || !s.rxRuns k then s
  else if !s.bit p LFE.FEC_STATUS.CW_LOCK then s.cwPhase k (cwUnsat z x) (mostlyZero x.soft) x.othersHigh
  else
    let (word, s) := s.fecUse k 2
    let (lost, s) := s.fecUse k 3
    let (block, s) := s.fecUse k 4
    let s := if block then s.updCar k fun c => { c with outer := c.outer.mark } else s
    let d := s.decodeCw k word lost x
    (s.countCw k d).cwPhase k d.r.unsat d.r.mostlyZero x.othersHigh

end State

/-! ## Meanings -/

/-- LM_REFRESH (R129, R130): a subcarrier has been off for 60 s when both its switch-off and its last failed probe lie so far back. -/
def execLmRefresh (k : Fin 16) (switch60 probe60 : BitVec 8) (s : State) : Host.Outcome State Fault Refusal :=
  s.done fun s => s.refresh k (switch60 &&& probe60)

/-- PROPOSE_RECEIVED (R134). -/
def execProposeReceived (k : Fin 16) (msg : List Byte) (s : State) : Host.Outcome State Fault Refusal :=
  s.done fun s => s.message k 0x10 msg

/-- ANNOUNCE_RECEIVED (R136). -/
def execAnnounceReceived (k : Fin 16) (msg : List Byte) (s : State) : Host.Outcome State Fault Refusal :=
  s.done fun s => s.message k 0x11 msg

/-- REJECT_RECEIVED (R133). -/
def execRejectReceived (k : Fin 16) (msg : List Byte) (s : State) : Host.Outcome State Fault Refusal :=
  s.done fun s => s.message k 0x12 msg

/-- SHED_RECEIVED (R139). -/
def execShedReceived (k : Fin 16) (msg : List Byte) (s : State) : Host.Outcome State Fault Refusal :=
  s.done fun s => s.message k 0x13 msg

/-- RESYNC_RECEIVED (R136). -/
def execResyncReceived (k : Fin 16) (msg : List Byte) (s : State) : Host.Outcome State Fault Refusal :=
  s.done fun s => s.message k 0x14 msg

/-- PROPOSAL_TIMEOUT (R129): 1 s without an answer. -/
def execProposalTimeout (k : Fin 16) (s : State) : Host.Outcome State Fault Refusal :=
  s.done fun s =>
    if (s.car k).proposed then
      let s := (s.updCar k fun c => { c with proposed := false }).count (.lfe k) 8 1
      if s.rxState k = 3 then s.rxRest k else s
    else s

/-- SHED_WINDOW_END (R138). -/
def execShedWindowEnd (k : Fin 16) (snr : List Nat) (s : State) : Host.Outcome State Fault Refusal :=
  s.done fun s => s.shedWindow k snr

/-- SHED_HOLD_EXPIRY (R140): the hold of the oldest SHED that still holds ends. -/
def execShedHoldExpiry (k : Fin 16) (s : State) : Host.Outcome State Fault Refusal :=
  s.done fun s => s.updCar k fun c => { c with shedHold := c.shedHold.drop 1 }

/-- NEG_TIMEOUT (R142): 5 s of alignment in BASE without a PROPOSE. -/
def execNegTimeout (k : Fin 16) (s : State) : Host.Outcome State Fault Refusal :=
  s.done fun s => if s.txState k = 1 && s.inFrame k then s.raise (.lfe k) 6 else s

/-- MANUAL_ANNOUNCE (R137): LM_STAGE written with ANNOUNCE. -/
def execManualAnnounce (k : Fin 16) (v : Word) (s : State) : Host.Outcome State Fault Refusal :=
  let v := LFE.LM_STAGE.ANNOUNCE.put v 1
  s.done fun s => s.gateReg (.lfe k) 0x030 v (State.effLmStage k v)

/-- CODEWORD_DECODE (R151, R152). -/
def execCodewordDecode (k : Fin 16) (x : CwIn) (s : State) : Host.Outcome State Fault Refusal :=
  s.done fun s => s.codeword k x

/-- ZR_MODE_WRITE (R159): a write to FEC_CTRL. -/
def execZrModeWrite (k : Fin 16) (v : Word) (s : State) : Host.Outcome State Fault Refusal :=
  s.done fun s => s.gateReg (.lfe k) 0x040 v (State.effFecCtrl k v)

end Sys2Proof.Machine
end

