-- ==== Sys2Proof/Machine/Frame.lean ====
section
/-! DEFINITION. The carrier frame (R163-R177): building and sending it, multiframe boundaries, alignment, overhead, release of
payload, statistics of a received multiframe. -/
namespace Sys2Proof.Machine

open Sys2Proof Reg

/-! ## Scrambler and check (R168, R169) -/

/-- The scrambler x^31 + x^28 + 1 run for n bits from a register, its bit 30 the oldest and the bit fed back its output (the model's choice,
log 34): its output in front of what was collected, latest bit first. -/
def scramblerGo (x : BitVec 31) (acc : List Bool) : Nat → List Bool
  | 0 => acc
  | n + 1 =>
    let b := x.getLsbD 30 != x.getLsbD 27
    scramblerGo ((x <<< 1) ||| (if b then 1 else 0)) (b :: acc) n

/-- The scrambler's stream of a frame, from bit 72 on (R168). -/
def scrambleSeq (mfi n : Nat) : List Bool := (scramblerGo (BitVec.ofNat 31 (0x10000 * (mfi + 1) + 1)) [] n).reverse

def xorBits (a b : List Bool) : List Bool := List.zipWith (fun x y => x != y) a b

/-- The frame alignment signal (R167). -/
def fas : Nat := 0x5A3CF1E096C72B4D

/-- The alignment signal of a received overhead is correct: at most 3 bits differ (R175). -/
def fasOk (oh : BitVec 1024) : Bool :=
  let x := oh.extractLsb' 960 64 ^^^ BitVec.ofNat 64 fas
  decide ((List.range 64).countP (fun i => x.getLsbD i) ≤ 3)

/-- The bits of an overhead, bit 0 first, those from 72 on descrambled with an MFI. -/
def ohBits (oh : BitVec 1024) (mfi : Nat) : List Bool :=
  let l := bitsOf 1024 oh.toNat
  l.take 72 ++ xorBits (l.drop 72) (scrambleSeq mfi 952)

/-- A field of an overhead: first bit, width. -/
def ohField (l : List Bool) (lo w : Nat) : Nat := natBits ((l.drop lo).take w)

/-- The vote of the three justification copies (R174): the value, and whether a copy dissents. -/
def voteJ (a b c : Nat) : Option Nat × Bool :=
  if a = b && b = c then (some a, false)
  else if a = b || a = c then (some a, true)
  else if b = c then (some b, true)
  else (none, true)

/-! ## Cells in the payload data (R218, R219) -/

/-- CRC-8 of a cell header over its bits 63 to 8 (R219). -/
def hcrc (h : BitVec 64) : Nat :=
  ((bitsOf 56 (h.toNat / 256)).foldl (fun (r : BitVec 8) b =>
    let top := r.getLsbD 7 != b
    (r <<< 1) ^^^ (if top then 0x07 else 0)) (0 : BitVec 8)).toNat

/-- A cell header (R219) with its check. -/
def cellHeader (kind : Nat) (sof eof : Bool) (valid label seq : Nat) : BitVec 64 :=
  let h := BitVec.ofNat 64 (kind * 2 ^ 62 + sof.toNat * 2 ^ 61 + eof.toNat * 2 ^ 60 + (valid % 256) * 2 ^ 52
    + (label % 256) * 2 ^ 44 + (seq % 2 ^ 24) * 2 ^ 20)
  h ||| BitVec.ofNat 64 (hcrc h)

/-- An idle cell: it carries the SEQ of the next data cell; its body is sent as zeros. -/
def idleCell (seq : Nat) : LineCell :=
  { header := cellHeader 0 false false 255 0 seq, body := List.replicate 256 0 }

/-- The bits of a cell. -/
def cellBits (c : LineCell) : List Bool := bitsOf 64 c.header.toNat ++ bitsBE c.body

/-- Payload data of n bits from the cells that wait, the first of them partly sent (R218): its bits, the cells that wait afterwards, the
bits of the first of these already sent, the idle cells begun. -/
def fillCells (q : List LineCell) (sent n : Nat) (idle : LineCell) : List Bool × List LineCell × Nat × Nat :=
  let carry := match q with
    | c :: _ => if sent = 0 then [] else (cellBits c).drop sent
    | [] => []
  let q := if sent = 0 then q else q.drop 1
  let room := n - 16 - carry.length
  let all := q ++ List.replicate (room / 2112 + 1 - q.length) idle
  let full := room / 2112
  let part := room % 2112
  let used := full + (if part = 0 then 0 else 1)
  let bits := bitsOf 16 carry.length ++ carry ++ ((all.take used).flatMap cellBits).take room
  (bits, (all.drop full).take (max (q.length - full) (used - full)), part, used - min used q.length)

namespace State

/-! ## Transmit multiframe boundary (R135-R142, R199, R200) -/

/-- The frame counter of a transmitter, and of a receiver. -/
def fcTx (s : State) (k : Fin 16) : Nat := s.rd (.fcr k) FCR.FC_TX_LO.word + s.rd (.fcr k) FCR.FC_TX_HI.word * 0x100000000
def setFcTx (s : State) (k : Fin 16) (n : Nat) : State :=
  (s.wr (.fcr k) FCR.FC_TX_LO.word (n % 2 ^ 32)).wr (.fcr k) FCR.FC_TX_HI.word (n / 2 ^ 32 % 2 ^ 16)
def fcRx (s : State) (k : Fin 16) : Nat := s.rd (.fcr k) FCR.FC_RX_LO.word + s.rd (.fcr k) FCR.FC_RX_HI.word * 0x100000000
def setFcRx (s : State) (k : Fin 16) (n : Nat) : State :=
  (s.wr (.fcr k) FCR.FC_RX_LO.word (n % 2 ^ 32)).wr (.fcr k) FCR.FC_RX_HI.word (n / 2 ^ 32 % 2 ^ 16)

/-- The countdown of an announced map goes on; at 0 the map takes effect (R135, R166). -/
def countdown (s : State) (k : Fin 16) : State :=
  let p := Page.lfe k
  match (s.car k).txAnn with
  | none => s
  | some a =>
    let n := s.rd p LFE.LM_STATUS.COUNTDOWN - 1
    let s := s.wr p LFE.LM_STATUS.COUNTDOWN n
    if n ≠ 0 then s
    else
      let m := a.map.inForce
      let s := (s.updCar k fun c => { c with txMap := m, txAnn := none, txJ := 0 }).raise p 0
      let c := s.car k
      let st := if c.waitBase then 5 else if c.waitShed.isSome then 4 else if m.id = 0 then 1 else 2
      (s.storeMap k).setTxState k st

/-- An announcement begins (R135): the MAP_ID, the SEQ that its copies share, the countdown. -/
def announce (s : State) (k : Fin 16) (codes : List Nat) (dens kind answered n : Nat) : State :=
  let c := s.car k
  let id := if kind = 3 then 0 else c.nextMap
  let s := s.updCar k fun c => { c with
    txAnn := some { map := { codes := codes, dens := dens, id := id }, kind := kind, answered := answered
                    eff := (s.fcTx k / 256 + n) % 2 ^ 40 }
    nextMap := if kind = 3 then c.nextMap else if c.nextMap = 255 then 1 else c.nextMap + 1
    annSeq := c.nextSeq, nextSeq := (c.nextSeq + 1) % 256 }
  s.wr (.lfe k) LFE.LM_STATUS.COUNTDOWN n

/-- What waits is announced: base before shed before negotiated before manual (R134-R139). -/
def startWaiting (s : State) (k : Fin 16) : State :=
  let c := s.car k
  if c.txAnn.isSome then s
  else if c.waitBase then
    (s.updCar k fun c => { c with waitBase := false }).announce k LMap.base.codes LMap.base.dens 3 0 1
  else match c.waitShed with
    | some (codes, id) =>
      ((s.updCar k fun c => { c with waitShed := none }).announce k codes c.txMap.dens 1 id 1).setTxState k 4
    | none => match c.waitProp with
      | some (m, id) =>
        ((s.updCar k fun c => { c with waitProp := none }).announce k m.codes m.dens 0 id 4).setTxState k 3
      | none => match c.waitManual with
        | some (m, held) =>
          if s.pst (.lfe k) = 5 || !(s.txState k == 2 || (!held && s.txState k == 1)) then s
          else ((s.updCar k fun c => { c with waitManual := none }).announce k m.codes m.dens 2 0 4).setTxState k 3
        | none => s

/-- Capacity 0 is posted for a carrier (R142, R200, R455): not yet negotiated, drained, blocked, or the module quiesces. -/
def postsZero (s : State) (k : Fin 16) : Bool :=
  !s.runs (.lfe k) || s.bit (.lfe k) HDR.PAGE_CTRL.DRAIN || s.pins.quiesceN.asserted
    || (!(s.car k).negDone && !s.zr k) || s.bit (.fcr k) FCR.CR_STATUS.TX_BLOCKED || (s.cipherLost (.fcr k) && !s.zr k)

/-- Boundaries until a posted capacity 0 of the active transmit key takes effect (R200): it is posted 4 multiframes before the key retires, and
stands once posted. 0 where none is posted. -/
def retireIn (s : State) (k : Fin 16) : Nat :=
  let c := s.car k
  if c.offIn ≠ 0 then c.offIn
  else match c.txKey with
    | some i =>
      let age := (s.slot k i).age
      if s.encrypted k && decide (2 ^ 36 ≤ age + 1024) then (2 ^ 36 - age) / 256 else 0
    | none => 0

/-- What a carrier posts at a boundary (R141, R142): value and boundaries until it takes effect. -/
def newPosts (s : State) (k : Fin 16) : List (Nat × Nat) :=
  let c := s.car k
  let cd := s.rd (.lfe k) LFE.LM_STATUS.COUNTDOWN
  if s.postsZero k then if c.cap = 0 then [] else [(0, 1)]
  else
    let net := if s.zr k then 800000 else c.txMap.net
    let now := if c.cap ≠ net && cd ≠ 1 then [(net, 1)] else []
    let ann := match c.txAnn with
      | some a => [(a.map.inForce.net, cd)]
      | none => []
    let off := if s.retireIn k = 0 then [] else [(0, s.retireIn k)]
    now ++ ann ++ off

/-- Firmware of version 2.4 or later holds JUST_LIMIT at 7 around a posted change (KL-09): from a post until one multiframe after the last one takes effect. -/
def limitJ (s : State) (k : Fin 16) : State :=
  let c := s.car k
  if !s.host.fwUp || decide (s.rd .dev DEV.FW_VERSION.word / 2 ^ 16 < 0x0204) then s
  else if c.posts ≠ [] then
    if c.lim7 ≠ 0 then s.updCar k fun c => { c with lim7 := 2 }
    else if s.rd (.fcr k) FCR.FR_CTRL.JUST_LIMIT = 8 then
      (s.updCar k fun c => { c with lim7 := 2 }).wr (.fcr k) FCR.FR_CTRL.JUST_LIMIT 7
    else s
  else if c.lim7 = 0 then s
  else
    let s := s.updCar k fun c => { c with lim7 := c.lim7 - 1 }
    if c.lim7 = 1 then s.wr (.fcr k) FCR.FR_CTRL.JUST_LIMIT 8 else s

/-- LFE and the crypto part leave HELD or DRAINED at a transmit multiframe boundary (R142, R201): LFE reads DRAINED until the second boundary
after DRAIN is clear. -/
def leaveAtMf (s : State) (k : Fin 16) : State :=
  let n := s.pst (.lfe k)
  let clear := n == 6 && !s.bit (.lfe k) HDR.PAGE_CTRL.DRAIN
  let s := if n == 5 || (clear && (s.car k).undrain) then s.leave (.lfe k) else s
  let s := s.updCar k fun c => { c with undrain := clear && !c.undrain }
  if s.pst (.fcr k) == 5 then s.leave (.fcr k) else s

/-- A transmit multiframe boundary: the countdown, posted capacity, keys, an 800ZR change, what waits, new posts, DRAINED. -/
def multiframe (s : State) (k : Fin 16) : State :=
  let s := s.countdown k
  let c := s.car k
  let due := (c.posts.filter (·.2 = 1)).getLast?
  let s := s.updCar k fun c =>
    { c with cap := match due with
               | some p => p.1
               | none => c.cap
             posts := (c.posts.filter (1 < ·.2)).map fun p => (p.1, p.2 - 1)
             offIn := c.offIn - 1 }
  let s := s.keyEdge k
  let s := match (s.car k).zrWait with
    | some b => s.zrChange k b
    | none => s
  let s := if s.runs (.lfe k) && !s.zr k then s.startWaiting k else s
  let s := s.reblock k
  let s := let ps := s.newPosts k; let n := s.retireIn k; s.updCar k fun c => { c with posts := ps, offIn := n }
  let s := s.limitJ k
  (s.leaveAtMf k).lmSync k

/-! ## A transmitted frame (R163-R173, R190-R193) -/

/-- The receiver paired with transmitter k that needs RESYNC sent (R136): the lowest-numbered. -/
def resyncFor (s : State) (k : Fin 16) : Option (Fin 16) :=
  carriers.find? fun r => s.rxState r == 6 && s.pair r == k && s.runs (.lfe r)

/-- The message of a frame (R131, R170): ANNOUNCE in every sixteenth frame of a countdown, else the first message that waits, RESYNC while a
receiver has lost its map; idle otherwise. ANNOUNCE comes between the copies of another message (the model's choice, log 115). -/
def imcOf (s : State) (k : Fin 16) (mfi : Nat) : List Byte × State :=
  let c := s.car k
  match c.txAnn, mfi % 16 with
  | some a, 0 =>
    (pad64 ([0x11, 1, c.annSeq, 0, a.map.id, a.map.dens] ++ a.map.codes ++ [a.answered, a.kind]
      ++ (bytesBE 5 a.eff).map BitVec.toNat), s)
  | _, _ =>
    let s := match c.imc, s.resyncFor k with
      | [], some r => s.sendImc k 0x14 [0, (s.car r).rxMap.id]
      | _, _ => s
    match (s.car k).imc with
    | [] => (List.replicate 64 0, s)
    | (m, n) :: r => (m, s.updCar k fun c => { c with imc := if n ≤ 1 then r else (m, n - 1) :: r })

/-- The overhead bits 0-1023 before scrambling (R167, R169). -/
def overhead (s : State) (k : Fin 16) (fc : Nat) (j : Int) (ais rdi : Bool) (ksi : Nat) (imc : List Byte) (tag : Nat) (bad : Bool) :
    List Bool :=
  let c := s.car k
  let cd := s.rd (.lfe k) LFE.LM_STATUS.COUNTDOWN
  let ptr := match c.txAnn with
    | some a => a.map.id
    | none => c.txMap.id
  let jb := bitsOf 5 (twos 5 j)
  let mfi := fc % 256
  let mid := bitsOf 8 mfi ++ bitsOf 8 ptr ++ bitsOf 3 cd ++ jb ++ jb ++ jb ++ [ais, rdi, ksi == 1] ++ bitsOf 3 0
    ++ bitsOf 40 (if mfi = 0 then fc / 256 else 0) ++ bitsBE imc ++ bitsOf 128 tag ++ bitsOf 208 0
  let crc := frameCrc mid
  bitsOf 64 fas ++ mid ++ bitsOf 32 (if bad then 0xFFFFFFFF - crc else crc)

/-- The justification count of a frame (R173), and the state with the backlog after it; P is the length of blocks 1 to 71. -/
def justify (s : State) (k : Fin 16) (dt p : Nat) : Int × State :=
  let f := Page.fcr k
  let c := s.car k
  let u : Nat := 589824000
  let owed := c.owed + ((twoK c.txMap.dens * c.txMap.sum * 71 * dt : Nat) : Int)
  let lim : Int := s.rd f FCR.FR_CTRL.JUST_LIMIT
  let want := roundHalfEven ((p * u : Nat) - owed) (512 * u)
  let j := if lim < want then lim else if want < -lim then -lim else want
  let sat := decide (want ≠ j)
  let j := if s.bit f FCR.FR_CTRL.FORCE_J_EN then s.rdI f FCR.FR_CTRL.FORCE_J else j
  let after := owed - ((p : Int) - 512 * j) * u
  let b := max (-32768) (min 32767 (roundHalfEven after u))
  let s := s.updCar k fun c => { c with owed := after }
  let s := (s.wrI f FCR.JUST_STATUS.TX_J j).wrI f FCR.JUST_STATUS.BACKLOG b
  let was := s.bit f FCR.FR_STATUS.JUST_SAT
  let s := s.wb f FCR.FR_STATUS.JUST_SAT sat
  let s := if sat then s.count f 7 1 else s
  (j, s.raiseIf (sat && !was) f 5)

/-- The transmitter sends RDI while a receiver drives it, or FORCE_RDI does (R181). -/
def sendsRdi (s : State) (k : Fin 16) : Bool := s.rdiSrc k != 0 || s.bit (.csc k) CSC.CSC_CTRL.FORCE_RDI

/-- A frame that begins carries RDI or not (R181). -/
def rdiFrame (s : State) (k : Fin 16) : State :=
  let rdi := s.sendsRdi k
  (s.wb (.csc k) CSC.CSC_STATUS.RDI_TX rdi).updCar k fun c => { c with rdiTx := rdi }

/-- The frame of a carrier in the native mode: its overhead, its payload data, and what it leaves for the next (R163-R173, R190-R193). -/
def buildFrame (s : State) (k : Fin 16) (fc dt drive : Nat) : State :=
  let f := Page.fcr k
  let c := s.car k
  let mfi := fc % 256
  let b0 := c.txMap.bitAt c.txJ 1 - c.txMap.bitAt c.txJ 0
  let p := c.txMap.bitAt c.txJ 72 - c.txMap.bitAt c.txJ 1
  let noPay := s.pst (.txo k) == 6
  -- the key in use (R204): an error in it blocks the frame that is built
  let s := match (s.car k).txKey with
    | some i => if s.encrypted k && !noPay then (s.useSlot k i).reblock k else s
    | none => s
  let (j, s) := s.justify k dt p
  let ais := s.sendsAis k
  let rdi := s.sendsRdi k
  let s := s.rdiFrame k
  let blocked := s.bit f FCR.CR_STATUS.TX_BLOCKED || s.cipherLost f
  let quiet := ais || blocked || s.pst f == 6
  -- payload data
  let n := ((p : Int) - 512 * j).toNat
  let con := s.txConduit k
  let seq := match con with
    | some x => (s.txCon x).seq.toNat
    | none => 0
  -- a blocked frame does not complete the cell that the one before began (R200)
  let begun := if blocked then 0 else c.txSent
  let q := if quiet || noPay then c.txq.take (if begun = 0 then 0 else 1) else c.txq
  let lost := c.txq.length - q.length
  let (bits, q', sent, idles) := fillCells q begun n (idleCell seq)
  let bits := if noPay then List.replicate n false else bits
  let s := s.updCar k fun c => { c with txq := if noPay then q else q', txSent := if noPay then c.txSent else sent }
  let s := if s.pst f == 6 && 0 < lost then s.count f 6 lost else s
  let s := match con with
    | some x => if noPay then s else s.countTx x 3 idles
    | none => s
  let s := if quiet || noPay || c.cap = 0 then s else s.countS (.csc k) 0 (n / 8)
  -- encryption
  let key := if s.encrypted k && !noPay && n ≠ 0 && !s.cipherLost f then (s.car k).txKey else none
  let ksi := (s.rd f FCR.CR_STATUS.TX_ACTIVE)
  let (data, tag, s) := match key with
    | none => (bits, none, s)
    | some i =>
      let x := s.slot k i
      let iv := frameIv x fc (s.bit f FCR.CR_CTRL.END) k.val
      let ct := Crypto.gcmBits (slotKeyBytes x) iv bits
      let t := BitVec.ofNat 128 (natBE (Crypto.gcmTagBits (slotKeyBytes x) iv (frameAad j ksi c.txMap.id) ct))
      (ct, some t, (s.setSlot k i { x with age := x.age + 1 }).ageCheck k i)
  -- overhead
  let (imc, s) := s.imcOf k mfi
  let s := s.protect f 0 0
  let (bad, s) := s.useProt f 0 0
  let s := if bad then { s with damage := s.damage.set (fun _ => 0) (damageKey f 0 0) 0 } else s
  let oh := s.overhead k fc j ais rdi ksi imc (match c.tag with | some t => t.toNat | none => 0) bad
  let area := data.drop p
  let clear := oh.drop 72 ++ area ++ List.replicate (b0 - 1024 - area.length) false ++ data.take p
    ++ List.replicate (p - data.length) false
  let line := oh.take 72 ++ xorBits clear (scrambleSeq mfi clear.length)
  let s := s.updCar k fun c => { c with tag := tag, txJ := c.txJ + 1 }
  s.sendLine k (mfi == 0) drive line

/-- A frame of the 800ZR agreement (R75, R157): the client frames that wait, without them while TXO is DRAINED, and the agreement's defect
indications, for which AIS and RDI stand (log 35). -/
def sendZr (s : State) (k : Fin 16) (drive : Nat) : State :=
  let s := s.rdiFrame k
  let c := s.car k
  let s := s.updCar k fun c => { c with client := [] }
  if !s.txSends k || s.rd (.txo k) TXO.TX_TEST.MODE ≠ 0 then s.sendTest k drive
  else
    let client := if s.pst (.txo k) = 6 then [] else c.client
    let ais := s.sendsAis k
    let rdi := s.sendsRdi k
    let symbols := txSymbols c [zrPoints (Config.zrSymbols client ais rdi s.time.toNat)]
    let (dac, s) := s.toDac k drive symbols
    if c.shutter then (s.emit (.zrFrame k client ais rdi (symbols.getD 0 []) dac)).count (.txo k) 0 1 else s

/-- A frame period in which no frame is built: no RDI is sent, no tag is due (R193), and a test signal goes out all the same. -/
def noFrame (s : State) (k : Fin 16) (drive : Nat) : State :=
  ((s.wb (.csc k) CSC.CSC_STATUS.RDI_TX false).updCar k fun c => { c with rdiTx := false, tag := none }).sendTest k drive

/-- The pairing that CSC_CTRL.PAIR names takes effect (R185). -/
def pairEdge (s : State) (k : Fin 16) : State :=
  if (s.car k).pairOld.isNone then s else s.updCar k fun c => { c with pairOld := none }

/-- A frame start of a transmitter (R163, R164). -/
def frameStart (s : State) (k : Fin 16) (dt drive : Nat) : State :=
  let s := if s.runs (.txo k) then (s.txEdge k).leave (.txo k) else s
  let s := s.pairEdge k
  if !s.runs (.fcr k) then s.noFrame k drive
  else
    let s :=
      if (s.car k).txFirst then s.updCar k fun c => { c with txFirst := false }
      else s.setFcTx k ((s.fcTx k + 1) % 2 ^ 48)
    let fc := s.fcTx k
    let s := if s.bit (.fcr k) HDR.PAGE_CTRL.DRAIN then s else s.wb (.fcr k) FCR.FR_CTRL.FORCE_J_EN false
    let s := if s.pst (.fcr k) = 6 then s.leave (.fcr k) else s
    let s := if fc % 256 = 0 then s.multiframe k else s
    if !s.runs (.lfe k) || s.codingCoasts then s.noFrame k drive else if s.zr k then s.sendZr k drive else s.buildFrame k fc dt drive

/-! ## Alignment (R175-R177) -/

/-- ALIGN, CANDIDATES and OOF of FR_STATUS follow. -/
def setAlign (s : State) (k : Fin 16) (n : Nat) : State :=
  let p := Page.fcr k
  ((s.wr p FCR.FR_STATUS.ALIGN n).wb p FCR.FR_STATUS.OOF (n != 3 && n != 0)).wr p FCR.FR_STATUS.CANDIDATES
    (s.car k).cands.length

/-- The fifth consecutive miss (R175): out of frame; the old position is a candidate. FC_VALID clears (R171). -/
def outOfFrame (s : State) (k : Fin 16) (mfi : Nat) : State :=
  let p := Page.fcr k
  let s := s.updCar k fun c => { c with
    cands := [{ pos := c.pos, count := 0, mfi := mfi }], misses := 0, hold := none, rxPart := none, ksiMf := none, fcHi := none
    fcAlt := none }
  let s := (s.wb p FCR.FR_STATUS.FC_VALID false).setFcRx k 0
  (s.setAlign k 2).raise p 0

/-- A miss of the alignment signal while in frame. -/
def fasMiss (s : State) (k : Fin 16) : State :=
  let n := (s.car k).misses + 1
  if 5 ≤ n then s.outOfFrame k (s.rd (.fcr k) FCR.OH_VIEW.MFI)
  else s.updCar k fun c => { c with misses := n }

/-- The counts of the multiframe in progress begin anew. -/
def clearMf (s : State) (k : Fin 16) : State :=
  s.updCar k fun c => { c with mfCw := 0, mfCeil := 0, mfIter := 0, mfUeb := 0, mfCorr := 0, mfUef := 0, crcMf := 0, shedMf := false }

/-- Frames are found (R175, R177): the hypothesis in use becomes the receive map in force; the counts of a multiframe that alignment cut
short are dropped (R156, R161). -/
def adopt (s : State) (k : Fin 16) (pos mfi : Nat) : State :=
  let p := Page.fcr k
  let s := (s.clearMf k).updCar k fun c => { c with cands := [], pos := pos, misses := 0 }
  let s := (s.setAlign k 3).raise p 1
  let c := s.car k
  let s := match s.rd p FCR.FR_STATUS.HYP, c.rxAnn with
    | 1, some a => s.applyRx k a.map
    | 2, _ => s.applyRx k LMap.base
    | _, _ => s
  (s.wr p FCR.FR_STATUS.HYP 0).wr p FCR.OH_VIEW.MFI mfi

/-- A place in the stream is examined while out of frame (R175). -/
def hunt (s : State) (k : Fin 16) (pos mfi : Nat) (ok : Bool) : State :=
  let c := s.car k
  match c.cands.find? fun x => x.pos == pos with
  | some x =>
    if ok && (mfi == (x.mfi + 1) % 256 || x.count == 0) then
      if 3 ≤ x.count + 1 then s.adopt k pos mfi
      else
        let s := s.updCar k fun c =>
          { c with cands := c.cands.map fun y => if y.pos = pos then { y with count := y.count + 1, mfi := mfi } else y }
        s.setAlign k 2
    else
      let s := s.updCar k fun c => { c with cands := c.cands.filter fun y => y.pos != pos }
      s.setAlign k (if (s.car k).cands = [] then 1 else 2)
  | none =>
    if ok && decide (c.cands.length < 8) then
      (s.updCar k fun c => { c with cands := c.cands ++ [{ pos := pos, count := 1, mfi := mfi }] }).setAlign k 2
    else s

/-! ## A received frame (R169-R174, R155, R193) -/

/-- What the receiver's estimators show of a multiframe (R102, R103, R105, R106, R111, R112): SNR of the subcarriers that were on for the
whole of it, the lowest of the interval with it (R129), POL_STATE, and the step that tracks dispersion; matchers begin afresh (R74). -/
def rxMulti (s : State) (k : Fin 16) (f : RxFrame) : State :=
  let r := Page.rxe k
  let c := s.car k
  let on := s.rxOnMask k
  let valid := on &&& (0xFF ^^^ c.eqNew) &&& (0xFF ^^^ c.rxDead)
  let s := if s.rd r RXE.RX_STATUS.ACQ_STATE ≠ 8 then s
    else
      let s := s.wr r RXE.RX_STATUS.SNR_VALID valid
      let snr (i : Nat) : Nat := min (f.snr.getD i 0) 255
      let s := (List.range 8).foldl (fun s i =>
        s.wr r (if i < 4 then ⟨0x03C, 8 * i, 8⟩ else ⟨0x040, 8 * (i - 4), 8⟩) (if valid.testBit i then snr i else 0)) s
      let low (i : Nat) : Option Nat :=
        if !valid.testBit i then c.snrMin.getD i none
        else match c.snrMin.getD i none with
          | some m => some (min m (snr i))
          | none => some (snr i)
      let s := s.updCar k fun c => { c with snrMin := (List.range 8).map low }
      let s := s.wr r RXE.EQ_CTRL.CONVERGED (s.rd r RXE.EQ_CTRL.CONVERGED ||| (c.eqNew &&& on))
      let s := (s.wr r RXE.POL_STATE.DGD (min f.dgd 4095)).wr r RXE.POL_STATE.SOP_RATE (min f.sop 4095)
      let lim := match s.rd r RXE.RX_CTRL.TRACK_SPEED with
        | 0 => 200 | 1 => 1000 | _ => 50
      let s := s.raiseIf (decide (lim < f.sop)) r 8
      if s.bit r RXE.RX_CTRL.CD_TRACK && s.pst r != 5 then
        (s.cdSet k (max (-50000) (min 50000 (s.rdI r RXE.CD_EST.EST + max (-2) (min 2 f.cdRes))))).rxUse k 1
      else s
  (s.rxUse k 3).updCar k fun c => { c with eqNew := 0, rxFrames := 0, demap := List.replicate 8 [] }

/-- A received frame that the framing part does not place counts toward a multiframe of the receiver: its symbols show where frames begin,
not which begins a multiframe (the model's choice, log 104). -/
def rxCount (s : State) (k : Fin 16) (f : RxFrame) : State :=
  if 255 ≤ (s.car k).rxFrames then s.rxMulti k f else s.updCar k fun c => { c with rxFrames := c.rxFrames + 1 }

/-- Four registers and MF_TAG take the counts of the multiframe just completed (R156, R161). -/
def fecSnapshot (s : State) (k : Fin 16) : State :=
  let p := Page.lfe k
  let c := s.car k
  let s := (s.wr p LFE.FEC_MF_CW.CODEWORDS (c.mfCw % 2 ^ 18)).wr p LFE.FEC_MF_CW.CEIL_HIT (min c.mfCeil 0x3FFF)
  let s := (s.wr p LFE.FEC_MF_ITER.ITER_SUM (c.mfIter % 2 ^ 22)).wr p LFE.FEC_MF_ITER.UE_BLOCKS (min c.mfUeb 1023)
  let s := (s.wr p LFE.FEC_MF_CORR.word (min c.mfCorr (2 ^ 32 - 1))).wr p LFE.FEC_LAST_UE.UE_FRAMES (min c.mfUef 255)
  let tag := if s.bit (.fcr k) FCR.FR_STATUS.FC_VALID then s.fcRx k / 256 + 255 else s.rd p LFE.FEC_STATUS.MF_TAG + 1
  (s.wr p LFE.FEC_STATUS.MF_TAG (tag % 256)).wr (.fcr k) FCR.OH_VIEW.CRC_FAILS (min c.crcMf 255)

/-- A received multiframe boundary. -/
def mfEnd (s : State) (k : Fin 16) (f : RxFrame) : State := (((s.fecSnapshot k).rxMulti k f).rotateEdge k).clearMf k

/-- What RXE does at a received frame boundary (R97, R98, R103, R107, R108, R118, R119, R122): in LOCKED the loops report their offsets and
the equalizers adapt. -/
def rxEdge (s : State) (k : Fin 16) (f : RxFrame) : State :=
  let p := Page.rxe k
  let s := ((s.applyLos k).rxTable k).leave p
  let s := s.wrI p RXE.RX_POWER.MEASURED (max f.power (-4000))
  let s := if f.adcClips = 0 then s else (s.count p 0 f.adcClips).raiseFirst p 6
  let s := if s.bit p HDR.PAGE_CTRL.DRAIN then s else s.wr p RXE.RX_TEST.MODE 0
  let s := if s.rd p RXE.RX_TEST.MODE = 0 then s.wb p RXE.RX_TEST.PRBS_LOCK false
    else ((s.wb p RXE.RX_TEST.PRBS_LOCK (f.prbsBits != 0)).count p 6 f.prbsBits).count p 7 f.prbsErrors
  if s.rd p RXE.RX_STATUS.ACQ_STATE ≠ 8 then s
  else
    let s := (s.wrI p RXE.CARRIER_OFS.FREQ_OFS f.freq).wrI p RXE.CARRIER_OFS.CLOCK_OFS f.clock
    let s := if s.pst p = 5 then s else s.eqStore k (s.eqLive k) fun i => f.eq.getD i []
    (s.eqRead k (s.rxOnMask k)).rxRead k 1

/-- Ages of receive slots count from the prediction while it holds (R192, R200). -/
def keepFc (s : State) (k : Fin 16) : State :=
  if s.bit (.fcr k) FCR.FR_STATUS.FC_VALID then let n := s.fcRx k; s.updCar k fun c => { c with fcKeep := n } else s

/-- The receiver's frame counter follows (R171): predicted from frame to frame, learnt from FC_HI of frames whose received MFI is 0. -/
def learnFc (s : State) (k : Fin 16) (mfi : Nat) (hi : Option Nat) : State :=
  let p := Page.fcr k
  let v := s.bit p FCR.FR_STATUS.FC_VALID
  let s := if v then s.setFcRx k ((s.fcRx k + 1) % 2 ^ 48) else s
  if mfi ≠ 0 then s
  else
    let c := s.car k
    match hi with
    | none => s.updCar k fun c => { c with fcHi := none, fcAlt := none }
    | some n =>
      if !v then
        let ok := match c.fcHi with
          | some o => n == (o + 1) % 2 ^ 40
          | none => false
        let s := s.updCar k fun c => { c with fcHi := some n }
        if ok then (s.wb p FCR.FR_STATUS.FC_VALID true).setFcRx k (n * 256) else s
      else if n * 256 = s.fcRx k then s.updCar k fun c => { c with fcAlt := none }
      else
        let s := (s.count p 4 1).raise p 6
        let agree := match c.fcAlt with
          | some o => n == (o + 1) % 2 ^ 40
          | none => false
        if agree then (s.setFcRx k (n * 256)).updCar k fun c => { c with fcAlt := none }
        else s.updCar k fun c => { c with fcAlt := some n }

/-- The receive map follows the pointer once no countdown runs (R135, R136, R169); true when a map comes into force. -/
def followMap (s : State) (k : Fin 16) : Bool × State :=
  let c := s.car k
  let ptr := s.rd (.fcr k) FCR.OH_VIEW.LM_PTR
  if !s.runs (.lfe k) || c.stepCd ≠ 0 then (false, s)
  else if ptr = c.rxMap.id then
    (false, if s.rxState k = 4 || s.rxState k = 6 then s.rxRest k else s)
  else if ptr = 0 then (true, s.applyRx k LMap.base)
  else match c.rxAnn with
    | some a => if a.map.id = ptr then (true, s.applyRx k a.map) else (false, s.mapLost k)
    | none => (false, s.mapLost k)

/-- A run of frames toward a defect or out of it (R178): the run, and whether it is complete. -/
def runOf (now bit : Bool) (n : Nat) : Nat × Bool := if bit = now then (0, now) else if 3 ≤ n + 1 then (0, bit) else (n + 1, now)

/-- The overhead of a frame whose check passed (R167, R169, R170, R178). -/
def takeOverhead (s : State) (k : Fin 16) (l : List Bool) : State :=
  let p := Page.fcr k
  let ais := ohField l 98 1 == 1
  let rdi := ohField l 99 1 == 1
  let cd := ohField l 80 3
  let s := (s.wr p FCR.OH_VIEW.LM_PTR (ohField l 72 8)).wr p FCR.OH_VIEW.LM_CD cd
  let s := ((s.wb p FCR.OH_VIEW.AIS_BIT ais).wb p FCR.OH_VIEW.RDI_BIT rdi).wr p FCR.OH_VIEW.KSI (ohField l 100 1)
  let s := s.updCar k fun c =>
    let (na, va) := runOf c.ais ais c.aisRun
    let (nr, vr) := runOf c.rdi rdi c.rdiRun
    { c with stepCd := cd, aisRun := na, ais := va, rdiRun := nr, rdi := vr
             rxSwitch := if c.rxSwitch = some (ohField l 100 1) then c.rxSwitch else none }
  let imc := Crypto.packBits ((l.drop 144).take 512) 64
  let t := msgByte imc 0
  if t = 0 then s
  else if 0x10 ≤ t && t ≤ 0x14 then s.takeMsg k imc
  else (s.count p 5 1).raise p 7

/-- A frame is uncorrectable: it holds bits of a block that was left uncorrected (R155, R158). -/
def frameUe (s : State) (k : Fin 16) (f : RxFrame) : Bool := (s.car k).ueBlocks.any fun b => decide (f.first ≤ b) && decide (b ≤ f.last)

/-- An uncorrectable frame is counted and shown (R155); blocks that no later frame reaches are done with. In the 800ZR mode, whose frames carry
no FC, FRAME_LO takes FC_RX as it stands (the model's choice, log 106). -/
def ueFrame (s : State) (k : Fin 16) (f : RxFrame) : State :=
  let fc := s.fcRx k
  let ue := s.frameUe k f
  let s := s.updCar k fun c => { c with mfUef := c.mfUef + ue.toNat, ueBlocks := c.ueBlocks.filter fun b => decide (f.last ≤ b) }
  if ue then (((s.wr (.lfe k) LFE.FEC_LAST_UE.FRAME_LO (fc % 2 ^ 24)).count (.lfe k) 5 1).countS (.csc k) 6 1).raiseFirst (.lfe k) 8
  else s

/-- A frame in its place: vote, overhead, map, tag of the frame before, payload (R169-R174, R155, R193). -/
def takeInFrame (s : State) (k : Fin 16) (f : RxFrame) (mfi : Nat) : State :=
  let p := Page.fcr k
  let l := ohBits f.oh mfi
  let s := (s.count p 0 1).protect p 1 0
  let (bad, s) := s.useProt p 1 0
  let s := if bad then { s with damage := s.damage.set (fun _ => 0) (damageKey p 1 0) 0 } else s
  let crc := !bad && frameCrc ((l.drop 64).take 928) == ohField l 992 32
  let s := s.wr p FCR.OH_VIEW.MFI mfi
  let s := (s.learnFc k mfi (if crc then some (ohField l 104 40) else none)).keepFc k
  let s := if mfi = 0 then s.mfEnd k f else s.updCar k fun c => { c with rxFrames := mfi }
  let s :=
    if crc then s.takeOverhead k l
    else (s.crcFail k).updCar k fun c => { c with stepCd := if mfi = 0 then c.stepCd - 1 else c.stepCd }
  let s := s.noteKsi k (mfi == 0)
  let (fresh, s) := if crc || mfi = 0 then s.followMap k else (false, s)
  -- the tag of the frame before
  let s := s.judge k crc (BitVec.ofNat 128 (ohField l 656 128))
  -- justification
  let (jv, dis) := voteJ (ohField l 83 5) (ohField l 88 5) (ohField l 93 5)
  let s := if dis && jv.isSome then (s.count p 2 1).raise p 2 else s
  let j := jv.map (signed 5)
  let ok := match j with
    | some x => decide (x.natAbs ≤ 8)
    | none => false
  let s := match j with
    | some x => s.wrI p FCR.JUST_STATUS.RX_J x
    | none => s
  let s := if ok then s else (s.count p 3 1).raise p 3
  let ue := s.frameUe k f
  let fc := s.fcRx k
  let s := s.ueFrame k f
  if ue || !ok || s.mapIsLost k then s.losePayload k
  else
    let x := j.getD 0
    let seq := scrambleSeq mfi (f.len0 - 72 + f.body.length)
    let area := xorBits f.area (seq.drop 952)
    let body := xorBits f.body (seq.drop (f.len0 - 72))
    let data := if 0 ≤ x then body.take (body.length - 512 * x.toNat)
      else if fresh && x == -8 then body
      else body ++ area.take (512 * x.natAbs)
    let c := s.car k
    s.enterCrypt k { fc := fc, j := x, ksi := s.rd p FCR.OH_VIEW.KSI, mapId := c.rxMap.id, payload := data }
      (s.bit p FCR.FR_STATUS.FC_VALID)

/-- A frame of a carrier in the 800ZR mode (R112, R157, R158): its alignment, its multiframe, its defect indications and its uncorrectable
codewords. AIS stands for the local defect indication, RDI for the remote one, each entered and left after three frames (log 35). -/
def zrFrame (s : State) (k : Fin 16) (f : RxFrame) : State :=
  let p := Page.fcr k
  let on := s.inFrame k
  if !f.zr.aligned then
    let s := if on then (s.setAlign k 1).raise p 0 else s.setAlign k 1
    s.rxCount k f
  else
    let s := if on then s else ((s.clearMf k).setAlign k 3).raise p 1
    let s := s.count p 0 1
    let s := s.updCar k fun c =>
      let (na, va) := runOf c.ais f.zr.ldi c.aisRun
      let (nr, vr) := runOf c.rdi f.zr.rdi c.rdiRun
      { c with aisRun := na, ais := va, rdiRun := nr, rdi := vr, rxFrames := c.rxFrames + 1 }
    let s := if f.zr.start then s.mfEnd k f else s
    s.ueFrame k f

/-- The client frames that a frame of the 800ZR agreement delivers (R157, R221): none from an uncorrectable frame, or with FCR drained. -/
def zrClient (s : State) (k : Fin 16) (f : RxFrame) : List (List Byte) :=
  if s.rxRuns k && s.enabled (.fcr k) && s.zr k && s.bit (.lfe k) LFE.FEC_STATUS.CW_LOCK && f.zr.aligned && !s.frameUe k f
      && s.pst (.fcr k) != 6 then f.zr.client
  else []

/-- A received frame boundary (R118, R175): the received MFI is the frame's index (R167). -/
def rxFrame (s : State) (k : Fin 16) (f : RxFrame) : State :=
  let p := Page.fcr k
  if !s.rxRuns k then s
  else
    let s := s.rxEdge k f
    if !s.enabled p || !s.bit (.lfe k) LFE.FEC_STATUS.CW_LOCK || s.codingCoasts then s.rxCount k f
    else if s.zr k then s.zrFrame k f
    else
      let ok := fasOk f.oh
      let mfi := (f.oh.extractLsb' 952 8).toNat
      let s := if s.inFrame k then s else s.hunt k f.pos mfi ok
      if !s.inFrame k then s.rxCount k f
      else if f.pos ≠ (s.car k).pos then s
      else
        let s := if ok then s.updCar k fun c => { c with misses := 0 } else s.fasMiss k
        if s.inFrame k then (s.takeInFrame k f mfi).ageCheck k (2 + s.rd p FCR.CR_STATUS.RX_ACTIVE) else s

/-! ## Registers (R187) -/

/-- A write to FR_CTRL (R187). -/
def effFrCtrl (k : Fin 16) (v : Word) (s : State) : State :=
  let p := Page.fcr k
  if 8 < FCR.FR_CTRL.JUST_LIMIT.get v || decide (8 < (FCR.FR_CTRL.FORCE_J.getI v).natAbs)
      || (FCR.FR_CTRL.FORCE_J_EN.get v = 1 && s.pst p ≠ 6) then s.wb p FCR.FR_STATUS.CFG_REJECT true
  else (s.wb p FCR.FR_STATUS.CFG_REJECT false).plainWrite p 0x020 v

end State

/-! ## Meanings -/

/-- TX_FRAME_START (R163, R164): the frame period that ended, and the level at which the power loop drives the converters in the one that
begins (R79). -/
def execTxFrameStart (k : Fin 16) (dt drive : Nat) (s : State) : Host.Outcome State Fault Refusal :=
  s.done fun s => s.frameStart k dt drive

/-- ALIGN_MISS_TICK (R171, R176): 4.096 us without codeword lock; the prediction of FC goes on. -/
def execAlignMissTick (k : Fin 16) (s : State) : Host.Outcome State Fault Refusal :=
  s.done fun s =>
    if !s.runs (.fcr k) || s.bit (.lfe k) LFE.FEC_STATUS.CW_LOCK then s
    else
      let s := s.losePayload k
      let s := if s.bit (.fcr k) FCR.FR_STATUS.FC_VALID then s.setFcRx k ((s.fcRx k + 1) % 2 ^ 48) else s
      let s := s.keepFc k
      if s.inFrame k then s.fasMiss k
      else (s.updCar k fun c => { c with cands := [] }).setAlign k 1

end Sys2Proof.Machine
end

