-- ==== Sys2Proof/Machine/Defect.lean ====
section
/-! DEFINITION. Defects and consequent actions (R177-R186). -/
namespace Sys2Proof.Machine

open Sys2Proof Reg

namespace State

/-- A write to CSC_CTRL (R181, R182, R185): a FORCE_RDI written during a laser procedure of the carrier stops it (R431); a new PAIR takes
effect at the carrier's next transmit frame, at once where FCR sends none (the model's choice, log 118). -/
def effCscCtrl (k : Fin 16) (v : Word) (s : State) : State :=
  let old := s.pair k
  let s := (s.plainWrite (.csc k) 0x024 v).touchProc k
  let keep := if s.runs (.fcr k) && decide (Fin.ofNat 16 (CSC.CSC_CTRL.PAIR.get v) ≠ old) then some old else none
  if (s.car k).pairOld = keep then s else s.updCar k fun c => { c with pairOld := keep }

/-- The next map hypothesis (R177). -/
def nextHyp (s : State) (k : Fin 16) : Nat :=
  match s.rd (.fcr k) FCR.FR_STATUS.HYP with
  | 0 => if (s.car k).rxAnn.isSome then 1 else 2
  | 1 => 2
  | _ => 0

/-- Another member of the carrier's transmit conduit reports no RDI (R182). -/
def mateClear (s : State) (k : Fin 16) : Bool :=
  match s.txConduit k with
  | some c => (membersOf (s.txMembers c)).any fun m => m != k && !(s.defects m).testBit 3
  | none => false

end State

/-! ## Meanings -/

/-- LOS_DECLARE (R178): SIGNAL has been clear for 100 us. -/
def execLosDeclare (k : Fin 16) (s : State) : Host.Outcome State Fault Refusal :=
  s.done fun s =>
    if s.runs (.rxe k) && !s.bit (.rxe k) RXE.RX_STATUS.SIGNAL then s.updCar k fun c => { c with los := true } else s

/-- LOS_CLEAR (R178): SIGNAL has been set for 1 ms. -/
def execLosClear (k : Fin 16) (s : State) : Host.Outcome State Fault Refusal :=
  s.done fun s => if s.bit (.rxe k) RXE.RX_STATUS.SIGNAL then s.updCar k fun c => { c with los := false } else s

/-- LOF_DECLARE (R178): out of frame for 3 ms. -/
def execLofDeclare (k : Fin 16) (s : State) : Host.Outcome State Fault Refusal :=
  s.done fun s =>
    if s.bit (.fcr k) FCR.FR_STATUS.OOF then
      (s.updCar k fun c => { c with lof := true }).wb (.fcr k) FCR.FR_STATUS.LOF true
    else s

/-- LOF_CLEAR (R178): in frame for 3 ms. -/
def execLofClear (k : Fin 16) (s : State) : Host.Outcome State Fault Refusal :=
  s.done fun s =>
    if s.inFrame k then (s.updCar k fun c => { c with lof := false }).wb (.fcr k) FCR.FR_STATUS.LOF false else s

/-- HYPOTHESIS_CHANGE (R177): 1 ms under one hypothesis without IN_FRAME. -/
def execHypothesisChange (k : Fin 16) (s : State) : Host.Outcome State Fault Refusal :=
  s.done fun s =>
    if s.bit (.fcr k) FCR.FR_STATUS.OOF && s.bit (.fcr k) FCR.FR_CTRL.HYP_EN && !s.zr k then
      s.wr (.fcr k) FCR.FR_STATUS.HYP (s.nextHyp k)
    else s

/-- LOF_MAP_LOST (R177): LOF for 20 ms with no hypothesis in frame. -/
def execLofMapLost (k : Fin 16) (s : State) : Host.Outcome State Fault Refusal :=
  s.done fun s =>
    if (s.car k).lof && s.bit (.fcr k) FCR.FR_STATUS.OOF && s.runs (.lfe k) && !s.zr k then s.mapLost k else s

/-- AUTO_DRAIN (R182): RDI reported for 1 ms on a bond member while another member is free of it. -/
def execAutoDrain (k : Fin 16) (s : State) : Host.Outcome State Fault Refusal :=
  s.done fun s =>
    if (s.defects k).testBit 3 && s.bit (.csc k) CSC.CSC_CTRL.RDI_DRAIN && s.bondedTx k && s.mateClear k
        && s.runs (.lfe k) && !s.bit (.lfe k) HDR.PAGE_CTRL.DRAIN then
      ((s.wb (.lfe k) HDR.PAGE_CTRL.DRAIN true).wb (.csc k) CSC.CSC_STATUS.AUTO_DRAINED true).raise (.csc k) 3
    else s

/-- AUTO_UNDRAIN (R182): RDI clear for 10 ms ends the drain that hardware set. -/
def execAutoUndrain (k : Fin 16) (s : State) : Host.Outcome State Fault Refusal :=
  s.done fun s =>
    if s.bit (.csc k) CSC.CSC_STATUS.AUTO_DRAINED && !(s.defects k).testBit 3 then
      ((s.wb (.lfe k) HDR.PAGE_CTRL.DRAIN false).wb (.csc k) CSC.CSC_STATUS.AUTO_DRAINED false).raise (.csc k) 3
    else s

/-- REMOTE_FAULT_START (R183): the condition has lasted RF_HOLDOFF. -/
def execRemoteFaultStart (c : Fin 64) (s : State) : Host.Outcome State Fault Refusal :=
  s.done fun s => if !(s.rxCon c.val).rf && s.rfHolds c.val then s.setRf c.val true else s

end Sys2Proof.Machine
end

