-- ==== Sys2Proof/Machine/Lane.lean ====
section
/-! DEFINITION. Host dies: ports, lanes, loopbacks, sleep, spares and the steering exchange (R298-R317). -/
namespace Sys2Proof.Machine

open Sys2Proof Reg

namespace State

/-- PORTS_UP of the die and of its groups (R314, R316). -/
def reports (s : State) (d : Fin 2) : State :=
  let s := s.wr (.hsc d) HSC.HD_STATUS.PORTS_UP ((s.diePorts d).countP fun p => s.portUp d p)
  (List.finRange 4).foldl (fun s g =>
    let n := s.portsPerGroup d
    let m := (List.range n).foldl (fun a i => if s.portUp d (g.val * n + i) then a + 2 ^ i else a) 0
    s.wr (.hlg d g) HLG.GRP_STATUS.PORTS_UP m) s

/-- A write to an HLG register is refused or accepted (GRP_STATUS.CFG_REJECT). -/
def hlgRej (s : State) (d : Fin 2) (g : Fin 4) (b : Bool) : State := s.wb (.hlg d g) HLG.GRP_STATUS.CFG_REJECT b

/-- A write to STEER_CMD, SPARE_VIEW or HOST_CTRL is refused or accepted (STEER_STATUS.CFG_REJECT). -/
def hscRej (s : State) (d : Fin 2) (b : Bool) : State := s.wb (.hsc d) HSC.STEER_STATUS.CFG_REJECT b

/-- A port goes down: its status keeps STEERED only. -/
def portOff (s : State) (d : Fin 2) (p : Nat) : State :=
  let x := s.portSt d p
  let up := s.portUp d p
  let s := s.setPortSt d p { x with status := x.status &&& 0xF00, uncorr := none }
  s.raiseIf up (.hlg d (s.portGroup d p)) 1

/-! ## Steering (R307-R312) -/

/-- Spares in use follow the spare's record: SPARE_USE, free counts, STEERED bits (R314, R316). -/
def respare (s : State) (d : Fin 2) : State :=
  let m (dir : Bool) := (List.range 8).foldl (fun a i => if (s.spareSt d dir i).lane.isSome then a + 2 ^ i else a) 0
  let r := m false
  let t := m true
  let g := (List.range 8).foldl (fun a i => if (s.spareSt d false i).signal then a + 2 ^ i else a) 0
  let s := ((s.wr (.hsc d) HSC.SPARE_USE.RX_IN_USE r).wr (.hsc d) HSC.SPARE_USE.TX_IN_USE t).wr (.hsc d) HSC.SPARE_USE.RX_SIGNAL g
  (s.wr (.hsc d) HSC.HD_STATUS.RX_SPARES_FREE (8 - popCount 8 r)).wr (.hsc d) HSC.HD_STATUS.TX_SPARES_FREE (8 - popCount 8 t)

/-- STEERED bits of a lane and of its port, from the spares. -/
def resteer (s : State) (d : Fin 2) (l : Nat) : State :=
  let on (dir : Bool) (l : Nat) := (List.range 8).any fun i => (s.spareSt d dir i).lane == some l && !(s.spareSt d dir i).back
  let x := s.laneSt d l
  let n := s.lanesPerPort d
  let p := s.portOfLane d l
  let cnt := (List.range n).foldl (fun a i => a + (on false (p * n + i)).toNat + (on true (p * n + i)).toNat) 0
  let s := s.setLaneSt d l { x with
    status := HLG.LANE_STATUS.TX_STEERED.put (HLG.LANE_STATUS.RX_STEERED.put x.status (on false l).toNat) (on true l).toNat }
  let y := s.portSt d p
  s.setPortSt d p { y with status := HLG.PORT_STATUS.STEERED.put y.status cnt }

/-- Adaptation is held on a lane: by FFE_FREEZE, or its group is HELD (R303, R316). -/
def ffeHeld (s : State) (d : Fin 2) (l : Nat) : Bool :=
  HLG.RX_EQ.FFE_FREEZE.get (s.laneSt d l).rxEq == 1 || s.pst (.hlg d (Fin.ofNat 4 (l / 32))) == 5

/-- A lane's FFE adapts, unless it is held (R303): its taps are written, and an armed test damages the first. -/
def adaptLane (s : State) (d : Fin 2) (l : Nat) : State :=
  if s.ffeHeld d l then s
  else
    let (n, s) := s.draw
    let s := s.setLaneSt d l { s.laneSt d l with ffe := (List.range 16).map (Config.ffeTap n) }
    s.protect (.hlg d (Fin.ofNat 4 (l / 32))) 0 (16 * (l % 32))

/-- A lane's FFE uses its taps (R317): one with an uncorrectable error acts as zero until adaptation rewrites it. -/
def useFfe (s : State) (d : Fin 2) (l : Nat) : State :=
  let p := Page.hlg d (Fin.ofNat 4 (l / 32))
  let i := 16 * (l % 32)
  let new := s.damage.get (fun _ => 0) (damageKey p 0 i) == 2
  let (_, s) := s.useKept p 0 i
  if new then (s.setLaneSt d l { s.laneSt d l with ffe := (s.laneSt d l).ffe.set 0 0 }).raise p 6 else s

/-- The lanes of a group that have their clock adapt: a hold on them has ended. -/
def adaptGroup (s : State) (d : Fin 2) (g : Fin 4) : State :=
  (List.range 32).foldl (fun s i =>
    let l := 32 * g.val + i
    if HLG.LANE_STATUS.CDR_LOCK.get (s.laneSt d l).status = 1 then (s.adaptLane d l).useFfe d l else s) s

/-- A lane acquires its signal (R303): the peaking in use, signal and clock lock; its FFE adapts. -/
def acquireLane (s : State) (d : Fin 2) (l : Nat) : State :=
  let x := s.laneSt d l
  let (n, s) := s.draw
  let held := s.pst (.hlg d (Fin.ofNat 4 (l / 32))) == 5
  let c := if HLG.RX_EQ.CTLE_AUTO.get x.rxEq = 0 then HLG.RX_EQ.CTLE.get x.rxEq
    else if held then HLG.LANE_STATUS.CTLE_NOW.get x.status else (Config.ctle n).val
  let w := HLG.LANE_STATUS.CTLE_NOW.put x.status c
  let s := s.setLaneSt d l { x with status := HLG.LANE_STATUS.CDR_LOCK.put (HLG.LANE_STATUS.SIGNAL.put w 1) 1 }
  (s.adaptLane d l).useFfe d l

/-- A lane that loses its clock, and perhaps its signal. -/
def loseLane (s : State) (d : Fin 2) (l : Nat) (signal : Bool) : State :=
  let x := s.laneSt d l
  let w := HLG.LANE_STATUS.CDR_LOCK.put x.status 0
  s.setLaneSt d l { x with status := if signal then HLG.LANE_STATUS.SIGNAL.put w 0 else w }

/-- Bits that a checker has seen from a device time to another at 212.5 Gbit/s (R298, R305). -/
def prbsBits (at' now : Nat) : Nat := (now - at') * 2125 / 10

/-- Counts of a lane's checker that are still to be booked: bits, errors. They grow while it is locked (19). -/
def lanePrbs (s : State) (d : Fin 2) (l : Nat) : Nat × Nat :=
  let x := s.laneSt d l
  let now := s.time.toNat
  if HLG.LANE_TEST.PRBS_LOCK.get x.test = 1 then (prbsBits x.prbsAt now, Config.prbsErrors d.val l x.prbsAt now) else (0, 0)

/-- The same of a spare. -/
def sparePrbs (s : State) (d : Fin 2) (dir : Bool) (i : Nat) : Nat × Nat :=
  let x := s.spareSt d dir i
  let now := s.time.toNat
  if x.lock then (prbsBits x.prbsAt now, Config.prbsErrors d.val (128 + 8 * dir.toNat + i) x.prbsAt now) else (0, 0)

/-- The counts of a lane's checker are booked (19: HLG 24, 25). -/
def bookLane (s : State) (d : Fin 2) (l : Nat) : State :=
  let n := s.lanePrbs d l
  let p := Page.hlg d (Fin.ofNat 4 (l / 32))
  let now := s.time.toNat
  if n.1 = 0 then s else ((s.count p 25 n.1).count p 24 n.2).setLaneSt d l { s.laneSt d l with prbsAt := now }

/-- The counts of a spare's checker are booked (19: HSC 20, 21). -/
def bookSpare (s : State) (d : Fin 2) (dir : Bool) (i : Nat) : State :=
  let n := s.sparePrbs d dir i
  let now := s.time.toNat
  if n.1 = 0 then s else ((s.count (.hsc d) 21 n.1).count (.hsc d) 20 n.2).setSpareSt d dir i { s.spareSt d dir i with prbsAt := now }

/-- What the checkers add to a counter beyond what is booked. -/
def prbsPending (s : State) (slot : Nat) : Nat :=
  let lanes (d : Fin 2) (g : Fin 4) (f : Nat × Nat → Nat) : Nat :=
    ((List.range 32).map fun i => f (s.lanePrbs d (32 * g.val + i))).sum
  let spares (d : Fin 2) (f : Nat × Nat → Nat) : Nat :=
    ((List.range 8).map fun i => f (s.sparePrbs d false i) + f (s.sparePrbs d true i)).sum
  let one (d : Fin 2) : Nat :=
    if slot = ctrBase (.hsc d) + 8 * 20 then spares d (·.2)
    else if slot = ctrBase (.hsc d) + 8 * 21 then spares d (·.1)
    else match (List.finRange 4).find? fun g => slot / 0x100 == ctrBase (.hlg d g) / 0x100 with
      | some g => if slot % 0x100 = 8 * 24 then lanes d g (·.2) else if slot % 0x100 = 8 * 25 then lanes d g (·.1) else 0
      | none => 0
  one 0 + one 1

/-- A counter as the aperture shows it: with what the pattern checkers have counted meanwhile (R305, R457). -/
def ctrNow (s : State) (slot : Nat) : Nat :=
  let n := s.ctr.get (fun _ => 0) slot
  match s.prbsPending slot with
  | 0 => n
  | m => min (n + m) (2 ^ 40 - 1)

/-- A receive lane goes dark: no signal, no clock, its checker loses its lock (R305, R306). -/
def darkLane (s : State) (d : Fin 2) (l : Nat) : State :=
  let x := s.laneSt d l
  if x.status &&& 0x30000 = 0 && HLG.LANE_TEST.PRBS_LOCK.get x.test = 0 then s
  else
    let s := (s.bookLane d l).loseLane d l true
    s.setLaneSt d l { s.laneSt d l with test := HLG.LANE_TEST.PRBS_LOCK.put x.test 0 }

/-- The receive lanes of a group go dark. -/
def darkGroup (s : State) (d : Fin 2) (g : Fin 4) : State :=
  (List.range 32).foldl (fun s i => s.darkLane d (32 * g.val + i)) s

/-- A host die goes dark: its lanes, and the spares. -/
def darkDie (s : State) (d : Fin 2) : State :=
  let s := (List.finRange 4).foldl (fun s g => s.darkGroup d g) s
  ((List.range 8).foldl (fun s i =>
    let s := (s.bookSpare d false i).bookSpare d true i
    let f (s : State) (dir : Bool) := s.setSpareSt d dir i { s.spareSt d dir i with signal := false, lock := false }
    f (f s false) true) s).respare d

/-- The selection moves: a spare takes a lane, or the lane takes its place again, and the receiving end has acquired it, its FFE adapted; the
steering table is written (R308, R315). A spare that is released stays in use until the exchange ends. -/
def useSpare (s : State) (d : Fin 2) (m : SteerMsg) : State :=
  let (n, s) := s.draw
  let x := s.spareSt d m.dir m.spare.val
  let y :=
    if m.release then { x with back := true }
    else if m.dir then { x with lane := some m.lane.val, back := false }
    else { x with lane := some m.lane.val, back := false, signal := true, ffe := (List.range 16).map (Config.ffeTap n) }
  let s := if m.release && !m.dir then s.acquireLane d m.lane.val else s
  let s := (s.setSpareSt d m.dir m.spare.val y).selfTest (.hsc d) 0 4
  (s.respare d).resteer d m.lane.val

/-- A spare that is free: it replaces no lane, and no signal reaches it. -/
def Spare.free (x : Spare) : Spare := { x with lane := none, back := false, woken := false, signal := false }

/-- Every steering of a die is cleared (R299, R307). -/
def clearSteering (s : State) (d : Fin 2) : State :=
  let h := s.die d
  let free (m : SMap Spare) := (List.range 8).foldl (fun (a : SMap Spare) i =>
    a.set (fun _ => Spare.reset) i (Spare.free (a.get (fun _ => Spare.reset) i))) m
  let s := s.setDie d { h with rx := free h.rx, tx := free h.tx, exch := none, yielded := none, answered := [] }
  let s := if h.exch.isSome then s.wr (.hsc d) HSC.STEER_STATUS.STATE 0 else s
  (List.range 128).foldl (fun s l =>
    if (s.laneSt d l).status &&& 0xC0000 = 0 then s else s.resteer d l) (s.respare d)

/-- The port that carries steering messages (R309): the lowest steerable port that is up. -/
def steerPort (s : State) (d : Fin 2) : Option Nat :=
  (s.diePorts d).find? fun p => s.portSteerable d p && s.portUp d p

/-- The frame of a steering message before its check (R309). -/
def steerFrame (s : State) (d : Fin 2) (p kind : Nat) (m : SteerMsg) : List Byte :=
  pad60 (bytesBE 6 0x03000000B502 ++ pauseSa (32 * d.val + p) ++ bytesBE 2 (s.rd .qsc QSC.TAG_CFG.ETYPE)
    ++ [0x1E, m.seq, BitVec.ofNat 8 kind, BitVec.ofNat 8 (m.release.toNat + 2 * m.dir.toNat), BitVec.ofNat 8 m.lane.val,
      BitVec.ofNat 8 (128 + m.spare.val), m.reason])

/-- A steering message goes out, if a port can carry it (R309, R310). -/
def sendSteer (s : State) (d : Fin 2) (kind : Nat) (m : SteerMsg) : State :=
  match s.steerPort d with
  | some p =>
    let b := s.steerFrame d p kind m
    ((s.portSend (32 * d.val + p) (.steer d kind m) (b ++ ethFcs b)).sat (.hsc d) HSC.STEER_MSG.SENT 1).count (.hsc d) 16 1
  | none => s

/-- A received message is counted (R309). -/
def steerHeard (s : State) (d : Fin 2) : State := (s.sat (.hsc d) HSC.STEER_MSG.RECEIVED 1).count (.hsc d) 17 1

/-- A message arrives in a frame of 64 bytes of a steerable port; none does where no such port is up (R309). -/
def steerIn (s : State) (d : Fin 2) (f : State → State) : State :=
  match s.steerPort d with
  | some _ => f ((s.countS (.hsc d) 0 1).countS (.hsc d) 1 64)
  | none => s

def steerState (s : State) (d : Fin 2) (n : Nat) : State := s.wr (.hsc d) HSC.STEER_STATUS.STATE n
def setExch (s : State) (d : Fin 2) (e : Option Exch) : State := s.setDie d { s.die d with exch := e }
def setAnswered (s : State) (d : Fin 2) (kind : Nat) (m : SteerMsg) (akind : Nat) (a : SteerMsg) : State :=
  let old := (s.die d).answered.filter fun x => !(x.1 == kind && x.2.1.seq == m.seq)
  s.setDie d { s.die d with answered := (kind, m, akind, a) :: old }

/-- A spare that an exchange names is woken (R306). -/
def wakeSpare (s : State) (d : Fin 2) (m : SteerMsg) : State :=
  s.setSpareSt d m.dir m.spare.val { s.spareSt d m.dir m.spare.val with woken := true }

/-- A spare no exchange uses any more sleeps again unless it serves a lane. -/
def restSpare (s : State) (d : Fin 2) (m : SteerMsg) : State :=
  let x := s.spareSt d m.dir m.spare.val
  s.setSpareSt d m.dir m.spare.val { x with woken := x.lane.isSome }

/-- An exchange ends without its effect (R308, R310). -/
def steerEnd (s : State) (d : Fin 2) (m : SteerMsg) (st ev : Nat) : State :=
  ((((s.restSpare d m).setExch d none).steerState d st).raise (.hsc d) ev)

/-- An answer to a message is sent and remembered, so that a repeat is answered again (R310). -/
def answer (s : State) (d : Fin 2) (kind : Nat) (m : SteerMsg) (akind : Nat) (a : SteerMsg) : State :=
  (s.sendSteer d akind a).setAnswered d kind m akind a

/-- A repeat of a message answered before is answered again; any other acts (R310). -/
def orRepeat (s : State) (d : Fin 2) (kind : Nat) (m : SteerMsg) (f : State → State) : State :=
  match (s.die d).answered.find? fun x => x.1 == kind && x.2.1 == m with
  | some (_, _, ak, a) => s.sendSteer d ak a
  | none => f s

/-- The last message of an exchange has come or gone: it has its effect (R308). What is no longer driven goes to electrical idle, which the receiving
end sees; a released spare is free; a spare that serves a lane is a substitution (R435). -/
def steerDone (s : State) (d : Fin 2) (e : Exch) : State :=
  let m := e.msg
  let s := if m.release then
      ((s.setSpareSt d m.dir m.spare.val (Spare.free (s.spareSt d m.dir m.spare.val))).respare d).resteer d m.lane.val
    else if m.dir then s else s.loseLane d m.lane.val true
  let s := s.steerEnd d m 4 0
  if m.release then s else s.substitute (3 + 2 * d.val + m.dir.toNat) e.why (256 * d.val + m.lane.val)

/-- An exchange is abandoned (R310): the selection stays where it was before it. -/
def steerAbandon (s : State) (d : Fin 2) (e : Exch) : State :=
  let m := e.msg
  let s :=
    if e.last ≠ 5 then s
    else if m.release then s.useSpare d { m with release := false }
    else
      let s := (s.setSpareSt d m.dir m.spare.val (Spare.free (s.spareSt d m.dir m.spare.val))).acquireLane d m.lane.val
      ((s.selfTest (.hsc d) 0 4).respare d).resteer d m.lane.val
  s.steerEnd d m 6 1

/-- The module's REQUEST starts an exchange (R308). -/
def steerRequest (s : State) (d : Fin 2) (m : SteerMsg) (why : Nat) : State :=
  let s := s.wakeSpare d m
  let s := s.setExch d (some { msg := m, own := true, last := 1, sends := 1, waits := true, accepted := false, why := why })
  let s := (s.steerState d 1).wr (.hsc d) HSC.STEER_STATUS.SEQ m.seq.toNat
  s.sendSteer d 1 m

/-- The next SEQ of a die's own requests. -/
def steerSeq (s : State) (d : Fin 2) : BitVec 8 × State :=
  let h := s.die d
  (BitVec.ofNat 8 h.nextSeq, s.setDie d { h with nextSeq := (h.nextSeq + 1) % 256 })

/-- The transmitting end bridges and says so (R308 step 3). -/
def bridge (s : State) (d : Fin 2) (e : Exch) : State :=
  let s := (s.setExch d (some { e with last := 4, sends := 1, waits := true })).steerState d 2
  s.sendSteer d 4 e.msg

/-- Why a REQUEST is refused: 0 not at all (R309). -/
def steerReason (s : State) (d : Fin 2) (m : SteerMsg) : Nat :=
  let p := s.portOfLane d m.lane.val
  let x := s.spareSt d m.dir m.spare.val
  if !(s.portSteerable d p && s.portEnabled d p) then 2
  else if m.release then (if x.lane = some m.lane.val then 0 else 3)
  else if x.lane.isSome then 1 else 0

/-- A received REQUEST (R308-R310): a module whose own is still unanswered gives it up for the partner's. -/
def steerReq (d : Fin 2) (m : SteerMsg) (s : State) : State :=
  let refuse (s : State) (r : Nat) : State :=
    (s.wr (.hsc d) HSC.STEER_STATUS.REASON r).answer d 1 m 3 { m with reason := BitVec.ofNat 8 r }
  let take (s : State) : State :=
    let r := s.steerReason d m
    if r ≠ 0 then refuse s r
    else
      let s := ((s.wakeSpare d m).setDie d { (s.wakeSpare d m).die d with answered := [] }).answer d 1 m 2 { m with reason := 0 }
      let e : Exch := { msg := { m with reason := 0 }, own := false, last := 2, sends := 1, waits := true, accepted := true, why := 3 }
      let s := ((s.setExch d (some e)).steerState d 1).wr (.hsc d) HSC.STEER_STATUS.SEQ m.seq.toNat
      if m.dir then s.bridge d e else s
  match (s.die d).exch with
  | none => take s
  | some e =>
    if e.own && !e.accepted then
      take (((s.setDie d { s.die d with exch := none, yielded := some e }).restSpare d e.msg).steerState d 0)
    else refuse s 4

/-- A received ACCEPT (R308): the requester's exchange goes on; the transmitting end bridges. -/
def steerAccept (d : Fin 2) (m : SteerMsg) (s : State) : State :=
  match (s.die d).exch with
  | some e =>
    if e.own && e.last = 1 && e.msg.seq = m.seq then
      let e := { e with accepted := true, sends := 1 }
      if e.msg.dir then s.bridge d e else s.setExch d (some e)
    else s
  | none => s

/-- A received REFUSE (R308, R310). -/
def steerRefuse (d : Fin 2) (m : SteerMsg) (s : State) : State :=
  match (s.die d).exch with
  | some e =>
    if e.msg.seq = m.seq && ((e.own && e.last = 1) || e.last = 4) then
      (s.wr (.hsc d) HSC.STEER_STATUS.REASON m.reason.toNat).steerEnd d e.msg 5 2
    else s
  | none => s

/-- A received BRIDGED (R308 step 4): the receiving end acquires the spare; a repeat after the switch is answered again. -/
def steerBridged (d : Fin 2) (m : SteerMsg) (s : State) : State :=
  match (s.die d).exch with
  | some e =>
    if e.msg.seq ≠ m.seq || e.msg.dir then s
    else if e.last = 5 then s.sendSteer d 5 e.msg
    else (s.setExch d (some { e with accepted := true, waits := false })).steerState d 2
  | none => s

/-- A received SWITCHED (R308 step 5). -/
def steerSwitched (d : Fin 2) (m : SteerMsg) (s : State) : State :=
  match (s.die d).exch with
  | some e =>
    if e.msg.seq ≠ m.seq || !e.msg.dir || e.last ≠ 4 then s
    else ((s.useSpare d e.msg).answer d 5 m 6 e.msg).steerDone d e
  | none => s

/-- A received DONE (R308). -/
def steerFinish (d : Fin 2) (m : SteerMsg) (s : State) : State :=
  match (s.die d).exch with
  | some e => if e.msg.seq ≠ m.seq || e.last ≠ 5 then s else s.steerDone d e
  | none => s

/-- A message out of range is discarded and counted (R309). -/
def steerDrop (s : State) (d : Fin 2) : State := ((s.sat (.hsc d) HSC.STEER_MSG.DROPPED 1).count (.hsc d) 18 1).raise (.hsc d) 3

/-- A steering message by its OP (R309): 1 REQUEST, 2 ACCEPT, 3 REFUSE, 4 BRIDGED, 5 SWITCHED, 6 DONE. -/
def steerTake (s : State) (d : Fin 2) (op : Nat) (m : SteerMsg) : State :=
  let on (f : State → State) : State := f (s.steerHeard d)
  match op with
  | 1 => on fun s => s.orRepeat d 1 m (State.steerReq d m)
  | 2 => on (State.steerAccept d m)
  | 3 => on (State.steerRefuse d m)
  | 4 => on fun s => s.orRepeat d 4 m (State.steerBridged d m)
  | 5 => on fun s => s.orRepeat d 5 m (State.steerSwitched d m)
  | 6 => on (State.steerFinish d m)
  | _ => s.steerDrop d

/-- A write to HOST_CTRL (R299, R314). -/
def effHostCtrl (d : Fin 2) (v : Word) (s : State) : State :=
  let p := Page.hsc d
  let mode := HSC.HOST_CTRL.PORT_MODE.get v
  let changes := decide (mode ≠ s.rd p HSC.HOST_CTRL.PORT_MODE)
  let busy := changes && (s.diePorts d).any fun q => s.portEnabled d q
  if busy then (s.hscRej d true).wb p HSC.HD_STATUS.MODE_REJECT true
  else if HSC.HOST_CTRL.STEER_TH.get v = 0 then s.hscRej d true
  else
    -- the steerings that a new mode clears are those of the old one
    let s := if changes then s.clearSteering d else s
    let s := ((s.plainWrite p 0x024 v).hscRej d false).wb p HSC.HD_STATUS.MODE_REJECT false
    if changes then s.reports d else s

/-- A write to STEER_CMD (R314). -/
def effSteerCmd (d : Fin 2) (v : Word) (s : State) : State :=
  let start := HSC.STEER_CMD.START.get v == 1
  let rel := HSC.STEER_CMD.RELEASE.get v == 1
  let m : SteerMsg := {
    seq := 0, release := rel, dir := HSC.STEER_CMD.DIR.get v == 1,
    lane := Fin.ofNat 128 (HSC.STEER_CMD.LANE.get v), spare := Fin.ofNat 8 (HSC.STEER_CMD.SPARE.get v), reason := 0 }
  if !start && !rel then s.hscRej d (s.die d).exch.isSome
  else if (start && rel) || (s.die d).exch.isSome || s.steerReason d m ≠ 0 then s.hscRej d true
  else
    let (q, s) := (s.hscRej d false).steerSeq d
    s.steerRequest d { m with seq := q } 4

/-- A write to SPARE_VIEW (R304, R305, R314): near-end parallel loopback is refused on stepping B1 (KL-03). -/
def effSpareView (d : Fin 2) (v : Word) (s : State) : State :=
  let i := HSC.SPARE_VIEW.SEL.get v
  let dir := HSC.SPARE_VIEW.DIR_SEL.get v == 1
  let lp := HSC.SPARE_VIEW.LOOPBACK.get v
  let pr := HSC.SPARE_VIEW.PRBS.get v
  let x := s.spareSt d dir i
  if lp = 2 || pr = 3 || (x.lane.isSome && (lp ≠ 0 || pr ≠ 0)) then s.hscRej d true
  else
    let (n, s) := (s.bookSpare d dir i).draw
    let lock := pr ≠ 0 && (lp == 1 || Config.prbsLock n)
    let now := s.time.toNat
    let s := s.setSpareSt d dir i { x with loop := lp, prbs := pr, lock := lock, prbsAt := if lock then now else 0 }
    let s := ((s.wr (.hsc d) HSC.SPARE_VIEW.SEL i).wb (.hsc d) HSC.SPARE_VIEW.DIR_SEL dir).hscRej d false
    if pr = x.prbs then s else s.emit (.lanePattern d (128 + i) pr)

/-- A write to GRP_CTRL (R306). -/
def effGrpCtrl (d : Fin 2) (g : Fin 4) (v : Word) (s : State) : State :=
  let p := Page.hlg d g
  let tx := HLG.GRP_CTRL.TX_SLEEP.get v == 1
  let rx := HLG.GRP_CTRL.RX_SLEEP.get v == 1
  let otx := s.bit p HLG.GRP_CTRL.TX_SLEEP
  let orx := s.bit p HLG.GRP_CTRL.RX_SLEEP
  let n := s.portsPerGroup d
  if ((tx && !otx) || (rx && !orx)) && (List.range n).any fun i => s.portEnabled d (g.val * n + i) then s.hlgRej d g true
  else
    let h := s.hgrp d g
    let wt := !tx && (otx || h.wakeTx)
    let wr := !rx && (orx || h.wakeRx)
    let s := s.setHgrp d g { h with wakeTx := wt, wakeRx := wr }
    let s := (s.wb p HLG.GRP_CTRL.TX_SLEEP tx).wb p HLG.GRP_CTRL.RX_SLEEP rx
    let s := if tx then s.wb p HLG.GRP_STATUS.TX_ASLEEP true else s
    let s := if rx then (s.wb p HLG.GRP_STATUS.RX_ASLEEP true).darkGroup d g else s
    (s.wb p HLG.GRP_STATUS.WAKING (wt || wr)).hlgRej d g false

/-- A write to PORT_SEL (R316). -/
def effPortSel (d : Fin 2) (g : Fin 4) (v : Word) (s : State) : State :=
  if s.portsPerGroup d ≤ HLG.PORT_SEL.INDEX.get v then s.hlgRej d g true
  else (s.wr (.hlg d g) HLG.PORT_SEL.INDEX (HLG.PORT_SEL.INDEX.get v)).hlgRej d g false

/-- A write to LANE_SEL. -/
def effLaneSel (d : Fin 2) (g : Fin 4) (v : Word) (s : State) : State :=
  (s.wr (.hlg d g) HLG.LANE_SEL.LANE (HLG.LANE_SEL.LANE.get v)).hlgRej d g false

/-- The port and the lane that a group's selectors name (R316). -/
def selPort (s : State) (d : Fin 2) (g : Fin 4) : Nat :=
  g.val * s.portsPerGroup d + s.rd (.hlg d g) HLG.PORT_SEL.INDEX % s.portsPerGroup d
def selLane (s : State) (d : Fin 2) (g : Fin 4) : Nat := 32 * g.val + s.rd (.hlg d g) HLG.LANE_SEL.LANE

/-- The spares that serve lanes of a port are free again, and an exchange about one of its lanes ends: a port that is not steerable uses no
spare (R307; how it comes off them is the model's choice, log 119). -/
def unsteer (s : State) (d : Fin 2) (q : Nat) : State :=
  let s := match (s.die d).exch with
    | some e => if s.portOfLane d e.msg.lane.val = q then s.steerEnd d e.msg 6 1 else s
    | none => s
  let f (s : State) (dir : Bool) (i : Nat) : State :=
    let x := s.spareSt d dir i
    match x.lane with
    | some l => if s.portOfLane d l = q then (s.setSpareSt d dir i (Spare.free x)).resteer d l else s
    | none => s
  ((List.range 8).foldl (fun s i => f (f s false i) true i) s).respare d

/-- A write to PORT_CTRL of the selected port (R306, R307, R316). -/
def effPortCtrl (d : Fin 2) (g : Fin 4) (v : Word) (s : State) : State :=
  let q := s.selPort d g
  let p := Page.hlg d g
  let en := HLG.PORT_CTRL.ENABLE.get v
  let st := HLG.PORT_CTRL.STEERABLE.get v
  let was := s.portEnabled d q
  if (en = 1 && (s.bit p HLG.GRP_STATUS.TX_ASLEEP || s.bit p HLG.GRP_STATUS.RX_ASLEEP))
      || (was && decide (st ≠ (s.portSteerable d q).toNat)) then s.hlgRej d g true
  else
    let s := s.setPortSt d q { s.portSt d q with ctrl := BitVec.ofNat 32 (en + 2 * st) }
    let s := s.hlgRej d g false
    let s := if st = 0 then s.unsteer d q else s
    if was && en = 0 then (s.portOff d q).reports d else s

/-- A write to TX_EQ of the selected lane (R302). -/
def effTxEq (d : Fin 2) (g : Fin 4) (v : Word) (s : State) : State :=
  let pre := HLG.TX_EQ.PRE.get v
  let post := HLG.TX_EQ.POST.get v
  if 16 < pre || 24 < post then s.hlgRej d g true
  else
    let l := s.selLane d g
    let main := if pre + post = 0 then Config.mainFull.toNat else 64 - pre - post
    let w := BitVec.ofNat 32 (pre + post * 0x100 + main * 0x10000 + HLG.TX_EQ.POL_INV.get v * 0x1000000)
    (s.setLaneSt d l { s.laneSt d l with txEq := w }).hlgRej d g false

/-- A write to RX_EQ of the selected lane (R303). -/
def effRxEq (d : Fin 2) (g : Fin 4) (v : Word) (s : State) : State :=
  let c := HLG.RX_EQ.CTLE.get v
  if 40 < c then s.hlgRej d g true
  else
    let l := s.selLane d g
    let x := s.laneSt d l
    let now := if HLG.RX_EQ.CTLE_AUTO.get v = 0 then HLG.LANE_STATUS.CTLE_NOW.put x.status c else x.status
    let thaw := HLG.RX_EQ.FFE_FREEZE.get x.rxEq == 1 && HLG.RX_EQ.FFE_FREEZE.get v == 0 && HLG.LANE_STATUS.CDR_LOCK.get x.status == 1
    let s := (s.setLaneSt d l { x with rxEq := v &&& 0x1FF, status := now }).hlgRej d g false
    if thaw then (s.adaptLane d l).useFfe d l else s

/-- A write to LANE_TEST of the selected lane (R304, R305): a loopback or a pattern needs a port that is off. -/
def effLaneTest (d : Fin 2) (g : Fin 4) (v : Word) (s : State) : State :=
  let l := s.selLane d g
  let lp := HLG.LANE_TEST.LOOPBACK.get v
  let pr := HLG.LANE_TEST.PRBS.get v
  if pr = 3 || ((lp ≠ 0 || pr ≠ 0) && s.portEnabled d (s.portOfLane d l)) then s.hlgRej d g true
  else
    let (n, s) := (s.bookLane d l).draw
    let lock := pr ≠ 0 && (lp == 1 || lp == 2 || Config.prbsLock n)
    let w := BitVec.ofNat 32 (lp + 4 * pr + 16 * lock.toNat)
    let now := s.time.toNat
    let was := HLG.LANE_TEST.PRBS.get (s.laneSt d l).test
    let s := (s.setLaneSt d l { s.laneSt d l with test := w, prbsAt := if lock then now else 0 }).hlgRej d g false
    if pr = was then s else s.emit (.lanePattern d l pr)

/-- A working lane that a spare does not replace on the receive side. -/
def ownLane (s : State) (d : Fin 2) (l : Nat) : Bool := HLG.LANE_STATUS.RX_STEERED.get (s.laneSt d l).status == 0

/-- The receive lanes of a port acquire (R301, R303): its own, and the spares that serve it see their signal. -/
def acquirePort (s : State) (d : Fin 2) (p : Nat) : State :=
  let n := s.lanesPerPort d
  let s := (List.range n).foldl (fun s i => if s.ownLane d (p * n + i) then s.acquireLane d (p * n + i) else s) s
  ((List.range 8).foldl (fun s i =>
    let x := s.spareSt d false i
    match x.lane with
    | some l => if s.portOfLane d l = p then s.setSpareSt d false i { x with signal := true } else s
    | none => s) s).respare d

/-- The alignment of a port is lost: which of its own lanes have lost their clock or their signal is left open (R301); such a loss raises LANE_LOS. -/
def losePort (s : State) (d : Fin 2) (p : Nat) : State :=
  let n := s.lanesPerPort d
  let (k, s) := s.draw
  let sig := Config.signalLost k
  let clk := Config.clockLost k ||| sig
  let lost := (List.range n).filter fun i => clk.getLsbD i && s.ownLane d (p * n + i)
  let s := lost.foldl (fun s i => s.loseLane d (p * n + i) (sig.getLsbD i)) s
  s.raiseIf (!lost.isEmpty) (.hlg d (s.portGroup d p)) 2

end State

/-! ## Commands -/

/-- PORT_MODE_WRITE (R299): a write of HOST_CTRL. -/
def execPortModeWrite (d : Fin 2) (v : Word) (s : State) : Host.Outcome State Fault Refusal :=
  s.done fun s => s.gateReg (.hsc d) 0x024 v (State.effHostCtrl d v)

/-- PORT_ENABLE (R306): a write of PORT_CTRL. -/
def execPortEnable (d : Fin 2) (g : Fin 4) (v : Word) (s : State) : Host.Outcome State Fault Refusal :=
  s.done fun s => s.gateReg (.hlg d g) 0x02C v (State.effPortCtrl d g v)

/-- LINK_UP (R301, R313): an enabled port is aligned and receives no fault. One of whose lanes some but not all are in near-end loopback cannot
align (R304). -/
def execLinkUp (d : Fin 2) (port : Fin 32) (s : State) : Host.Outcome State Fault Refusal :=
  s.done fun s =>
    if !s.portWorks d port.val || ((s.portLanes d port.val).any (s.nearLane d) && !s.portLooped d port.val) then s
    else
      let s := s.acquirePort d port.val
      let x := s.portSt d port.val
      let s := s.setPortSt d port.val { x with status := (x.status &&& 0xF00) ||| 3 }
      let p := Page.hlg d (s.portGroup d port.val)
      (s.raise p 0).reports d

/-- LINK_DOWN (R301): the port leaves LINK_UP; ALIGNED stays where a fault is received, and a lost alignment loses lanes. -/
def execLinkDown (d : Fin 2) (port : Fin 32) (cause : LinkCause) (s : State) : Host.Outcome State Fault Refusal :=
  s.done fun s =>
    if !s.portWorks d port.val then s
    else
      let q := port.val
      let up := s.portUp d q
      let x := s.portSt d q
      let p := Page.hlg d (s.portGroup d q)
      let base := x.status &&& 0xF00
      let w : Word := match cause with
        | .alignment => base
        | .localFault => base ||| 0x06
        | .remoteFault => base ||| 0x0A
        | .fecUncorr => base
      let s := s.setPortSt d q { x with status := w, uncorr := if cause = .fecUncorr then some s.time.toNat else x.uncorr }
      let s := s.raiseIf up p 1
      let s := match cause with
        | .fecUncorr => (s.raise p 3).count p (16 + q % s.portsPerGroup d) 1
        | .alignment => s.losePort d q
        | _ => s
      s.reports d

/-- TX_EQ_WRITE (R302). -/
def execTxEqWrite (d : Fin 2) (g : Fin 4) (v : Word) (s : State) : Host.Outcome State Fault Refusal :=
  s.done fun s => s.gateReg (.hlg d g) 0x038 v (State.effTxEq d g v)

/-- LOOPBACK_WRITE (R304): LANE_TEST of a selected lane, or SPARE_VIEW. -/
def execLoopbackWrite (d : Fin 2) (t : LaneTarget) (v : Word) (s : State) : Host.Outcome State Fault Refusal :=
  s.done fun s => match t with
    | .group g => s.gateReg (.hlg d g) 0x040 v (State.effLaneTest d g v)
    | .spare => s.gateReg (.hsc d) 0x030 v (State.effSpareView d v)

/-- PRBS_WRITE (R305): the same registers. -/
def execPrbsWrite (d : Fin 2) (t : LaneTarget) (v : Word) (s : State) : Host.Outcome State Fault Refusal :=
  s.done fun s => match t with
    | .group g => s.gateReg (.hlg d g) 0x040 v (State.effLaneTest d g v)
    | .spare => s.gateReg (.hsc d) 0x030 v (State.effSpareView d v)

/-- LANE_SLEEP (R306): GRP_CTRL with one direction's bit set. -/
def execLaneSleep (d : Fin 2) (g : Fin 4) (rx : Bool) (s : State) : Host.Outcome State Fault Refusal :=
  let v := s.word (.hlg d g) 0x020 ||| (if rx then 2 else 1)
  s.done fun s => s.gateReg (.hlg d g) 0x020 v (State.effGrpCtrl d g v)

/-- LANE_WAKE (R306): GRP_CTRL with one direction's bit clear. -/
def execLaneWake (d : Fin 2) (g : Fin 4) (rx : Bool) (s : State) : Host.Outcome State Fault Refusal :=
  let v := s.word (.hlg d g) 0x020 &&& (if rx then 1 else 2)
  s.done fun s => s.gateReg (.hlg d g) 0x020 v (State.effGrpCtrl d g v)

/-- WAKE_DONE (R306). -/
def execWakeDone (d : Fin 2) (g : Fin 4) (s : State) : Host.Outcome State Fault Refusal :=
  s.done fun s =>
    let h := s.hgrp d g
    let p := Page.hlg d g
    if !(h.wakeTx || h.wakeRx) then s
    else
      let s := s.setHgrp d g { h with wakeTx := false, wakeRx := false }
      let s := if h.wakeTx then s.wb p HLG.GRP_STATUS.TX_ASLEEP false else s
      let s := if h.wakeRx then s.wb p HLG.GRP_STATUS.RX_ASLEEP false else s
      (s.wb p HLG.GRP_STATUS.WAKING false).raise p 4

/-- STEER_REQUEST (R308-R310). -/
def execSteerRequest (d : Fin 2) (m : SteerMsg) (s : State) : Host.Outcome State Fault Refusal :=
  s.done fun s => s.steerIn d fun s => s.steerTake d 1 m

/-- STEER_ACCEPT (R308). -/
def execSteerAccept (d : Fin 2) (m : SteerMsg) (s : State) : Host.Outcome State Fault Refusal :=
  s.done fun s => s.steerIn d fun s => s.steerTake d 2 m

/-- STEER_REFUSE (R308, R310). -/
def execSteerRefuse (d : Fin 2) (m : SteerMsg) (s : State) : Host.Outcome State Fault Refusal :=
  s.done fun s => s.steerIn d fun s => s.steerTake d 3 m

/-- STEER_BRIDGED (R308). -/
def execSteerBridged (d : Fin 2) (m : SteerMsg) (s : State) : Host.Outcome State Fault Refusal :=
  s.done fun s => s.steerIn d fun s => s.steerTake d 4 m

/-- STEER_SWITCHED (R308). -/
def execSteerSwitched (d : Fin 2) (m : SteerMsg) (s : State) : Host.Outcome State Fault Refusal :=
  s.done fun s => s.steerIn d fun s => s.steerTake d 5 m

/-- STEER_DONE (R308). -/
def execSteerDone (d : Fin 2) (m : SteerMsg) (s : State) : Host.Outcome State Fault Refusal :=
  s.done fun s => s.steerIn d fun s => s.steerTake d 6 m

/-- STEER_MSG_DROP (R309): the message arrives as any other does. -/
def execSteerMsgDrop (d : Fin 2) (s : State) : Host.Outcome State Fault Refusal :=
  s.done fun s => s.steerIn d fun s => s.steerDrop d

/-- SPARE_LANE_LOCKED (R308 step 4): the selection moves and SWITCHED is sent. -/
def execSpareLaneLocked (d : Fin 2) (s : State) : Host.Outcome State Fault Refusal :=
  s.done fun s =>
    match (s.die d).exch with
    | some e =>
      if e.msg.dir || s.rd (.hsc d) HSC.STEER_STATUS.STATE ≠ 2 || e.last = 5 then s
      else
        let s := s.useSpare d e.msg
        let s := (s.setExch d (some { e with last := 5, sends := 1, waits := true })).steerState d 3
        s.sendSteer d 5 e.msg
    | none => s

/-- SPARE_LOCK_TIMEOUT (R308 step 4). -/
def execSpareLockTimeout (d : Fin 2) (s : State) : Host.Outcome State Fault Refusal :=
  s.done fun s =>
    match (s.die d).exch with
    | some e =>
      if e.msg.dir || s.rd (.hsc d) HSC.STEER_STATUS.STATE ≠ 2 || e.last = 5 then s
      else
        let s := s.answer d 4 e.msg 3 { e.msg with reason := 5 }
        (s.wr (.hsc d) HSC.STEER_STATUS.REASON 5).steerEnd d e.msg 5 2
    | none => s

/-- STEER_RESEND_TIMER (R310). -/
def execSteerResendTimer (d : Fin 2) (s : State) : Host.Outcome State Fault Refusal :=
  s.done fun s =>
    match (s.die d).exch with
    | some e =>
      if !e.waits then s
      else if 10 ≤ e.sends then s.steerAbandon d e
      else (s.setExch d (some { e with sends := e.sends + 1 })).sendSteer d e.last e.msg
    | none => s

/-- STEER_RETRY_TIMER (R310): the yielded REQUEST goes again. -/
def execSteerRetryTimer (d : Fin 2) (s : State) : Host.Outcome State Fault Refusal :=
  s.done fun s =>
    match (s.die d).yielded, (s.die d).exch with
    | some e, none =>
      let s := s.setDie d { s.die d with yielded := none }
      if s.steerReason d e.msg = 0 then s.steerRequest d e.msg e.why else s
    | _, _ => s

/-- AUTO_STEER_TRIGGER (R312): the lane has lost its clock or shows too many corrected symbols. -/
def execAutoSteerTrigger (d : Fin 2) (lane : Fin 128) (s : State) : Host.Outcome State Fault Refusal :=
  s.done fun s =>
    let q := s.portOfLane d lane.val
    if !s.hostDieOn d || !s.bit (.hsc d) HSC.HOST_CTRL.AUTO_STEER || !s.portEnabled d q || !s.portSteerable d q
        || (s.die d).exch.isSome then s
    else
      match (List.finRange 8).find? fun i => (s.spareSt d false i.val).lane.isNone with
      | none => s
      | some i =>
        let (n, s) := s.steerSeq d
        s.steerRequest d { seq := n, release := false, dir := false, lane := lane, spare := i, reason := 0 } 3

/-- STEER_CMD_START (R314). -/
def execSteerCmdStart (d : Fin 2) (v : Word) (s : State) : Host.Outcome State Fault Refusal :=
  let w := (v ||| 0x4000) &&& 0xFFFF7FFF
  s.done fun s => s.gateReg (.hsc d) 0x028 w (State.effSteerCmd d w)

/-- STEER_CMD_RELEASE (R314). -/
def execSteerCmdRelease (d : Fin 2) (v : Word) (s : State) : Host.Outcome State Fault Refusal :=
  let w := (v ||| 0x8000) &&& 0xFFFFBFFF
  s.done fun s => s.gateReg (.hsc d) 0x028 w (State.effSteerCmd d w)

end Sys2Proof.Machine
end

