-- ==== Sys2Proof/Machine/Mem.lean ====
section
/-! DEFINITION. DDR5 channels: the symbol code, patrol, failed devices and rows, migration (R271-R297). -/
namespace Sys2Proof.Machine

open Sys2Proof Reg

namespace State

/-! ## Shared operations -/

/-- A burst that is read: the errors that it has taken in the DRAM, with what the module stored in it. -/
def withStored (s : State) (c : Fin 17) (l : BurstLoc) (e : BurstErr) : BurstErr :=
  let x := ((s.chan c).stored.get (fun _ => Stored.sound) (l.addr.toNat / 64)).err
  { perDevice := (List.range 10).map fun d => min 8 (e.perDevice.getD d 0 + x.perDevice.getD d 0)
    poisoned := e.poisoned || x.poisoned }

/-- A burst read with no error but what the module stored in it. -/
def cleanErr : BurstErr := { perDevice := [], poisoned := false }

/-- Where a channel holds a logical address: the row that holds it there, packed as LAST_ERR packs it, taken apart. -/
def locOf (c : Fin 17) (a : Nat) : BurstLoc :=
  let r := (Config.rowOf c.val a).toNat
  { row := BitVec.ofNat 17 r, bg := BitVec.ofNat 3 (r / 0x20000), bank := BitVec.ofNat 2 (r / 0x100000), sub := subOf a, addr := BitVec.ofNat 39 a }

/-- ROW, BG, BANK, SUB as LAST_ERR packs them (R296). -/
def rowKey (l : BurstLoc) : Nat := l.row.toNat + 0x20000 * l.bg.toNat + 0x100000 * l.bank.toNat + 0x400000 * l.sub.toNat

/-- The region of a logical address (R273). -/
def region (a : Nat) : Nat :=
  if a < 0x7000000000 then 0 else if a < 0x7004000000 then 1 else if a < 0x7800000000 then 2 else 3

/-- The device of the sub-channel that is marked failed (CH_STATUS.FAIL_A, FAIL_B). -/
def failedDev (s : State) (c : Fin 17) (sub : Bool) : Option Nat :=
  match s.rd (.mch c) (if sub then MCH.CH_STATUS.FAIL_B else MCH.CH_STATUS.FAIL_A) with
  | 0 => none
  | n + 1 => some n

/-- Symbol errors outside the failed device: a device has 8 symbols in a burst. -/
def openErrs (e : BurstErr) (f : Option Nat) : Nat :=
  ((List.range 10).filter fun d => f != some d).foldl (fun a d => a + min 8 (e.perDevice.getD d 0)) 0

/-- A burst reads uncorrectable (R272): 2e + f above 16, or poisoned (R279). -/
def uncorrectable (e : BurstErr) (f : Option Nat) : Bool :=
  e.poisoned || decide (16 < 2 * openErrs e f + (if f.isSome then 8 else 0))

/-- Some symbol of the burst is in error. -/
def errored (e : BurstErr) : Bool := e.perDevice.any fun n => n != 0

/-- The device that LAST_ERR names: the one in error, or 31. -/
def errDevice (e : BurstErr) (sub : Bool) : Nat :=
  match (List.range 10).filter fun d => e.perDevice.getD d 0 != 0 with
  | [d] => d + 10 * sub.toNat
  | _ => 31

/-- Where an error lay: ERR_ADDR of MSC (R294). -/
def errAddr (s : State) (c : Fin 17) (a kind : Nat) : State :=
  let s := (s.wr .msc MSC.ERR_ADDR_LO.word a).wr .msc MSC.ERR_ADDR_HI.ADDR_HI (a / 2 ^ 32)
  ((s.wr .msc MSC.ERR_ADDR_HI.CHANNEL c.val).wr .msc MSC.ERR_ADDR_HI.KIND kind).wr .msc MSC.ERR_ADDR_HI.REGION (region a)

/-- Where an error lay: ERR_ADDR, and LAST_ERR of the channel (R296). -/
def errAt (s : State) (c : Fin 17) (l : BurstLoc) (dev kind : Nat) : State :=
  (s.errAddr c l.addr.toNat kind).wr (.mch c) MCH.LAST_ERR.word (rowKey l + dev * 0x800000 + kind * 0x10000000)

/-- A correctable error that a merge finds is written to LOG with kind 5, at most 16 times in a second (R278). -/
def memLog (s : State) (c : Fin 17) (arg : Nat) : State :=
  let x := s.chan c
  if x.logs < 16 then (s.setChan c { x with logs := x.logs + 1 }).log 5 5 (1 + c.val) 1 arg else s

/-- The counts of a channel brought to the present second of device time. -/
def rollSecond (s : State) (c : Fin 17) : State :=
  let x := s.chan c
  let n := s.time.toNat / 1000000000
  if x.second = n then s
  else s.setChan c { x with
    second := n, last := if x.second + 1 = n then x.syms else List.replicate 20 0, bursts := [0, 0],
    syms := List.replicate 20 0, rowHits := [], logs := 0 }

/-- The page state of a memory page that runs follows (R295, R297); one that starts reads STARTING until it has started (R501). -/
def repageMem (s : State) (p : Page) : State :=
  let st := s.pst p
  if st = 2 || st = 3 || st = 4 then
    let m := s.runState p
    if m = st then s else s.setPst p m
  else s

/-- Channel states, slots and page states follow (R295, R297). -/
def rememory (s : State) : State :=
  let n := (List.range 16).countP fun i =>
    let c := s.channelOf i
    (s.rd .msc MSC.MEM_STATUS.IN_SVC).testBit c.val && !s.mem.lostSlots.contains i
  let had := s.bit .msc MSC.MEM_STATUS.DDR_SVC
  let s := (s.wr .msc MSC.MEM_STATUS.WORKING n).wb .msc MSC.MEM_STATUS.DDR_SVC (decide (0 < n))
  let s := (s.raiseIf (had && n == 0) .msc 6).repageMem .msc
  (List.finRange 17).foldl (fun s c => s.repageMem (.mch c)) s

/-- The packet pages whose data lie in a row of a channel (R283): that of the burst that failed there, and three more, for the data of four pages lie
in a row of a sub-channel, half of each (log 108). -/
def rowPages (s : State) (c : Fin 17) (l : BurstLoc) : List Nat :=
  let slot := if c = 16 then s.rd .msc MSC.MEM_STATUS.SPARE_FOR else c.val
  (l.addr.toNat / 4096 :: (List.finRange 3).map fun i => (Config.rowMates c.val (rowKey l) i).toNat % 7340032 * 16 + slot).eraseDups

/-- The remap table of a channel has so many entries: REMAP_FULL is raised when it becomes full (R283). -/
def showRemap (s : State) (c : Fin 17) (n : Nat) : State :=
  let was := s.bit (.mch c) MCH.REMAP_STATUS.FULL
  let s := (s.wr (.mch c) MCH.REMAP_STATUS.USED n).wb (.mch c) MCH.REMAP_STATUS.FULL (decide (1024 ≤ n))
  s.raiseIf (decide (1024 ≤ n) && !was) (.mch c) 2

/-- A row is copied to its target, or stays when the table is full, and the packet pages in it are retired (R283). -/
def remapRow (s : State) (c : Fin 17) (l : BurstLoc) : State :=
  let x := s.chan c
  let r := rowKey l
  if !s.bit .msc MSC.MEM_CTRL.REMAP_EN || x.remap.contains r || x.copying.contains r then s
  else if x.remap.length + x.copying.length < 1024 then s.setChan c { x with copying := x.copying ++ [r] }
  else if region l.addr.toNat = 0 && !s.mem.fullRows.contains (c.val, r) then
    let pages := (s.rowPages c l).filter fun p => !s.mem.retired.contains p
    s.updMem fun m => { m with retired := m.retired ++ pages, fullRows := m.fullRows ++ [(c.val, r)] }
  else s

/-- No page has been written since a migration began. -/
def unmirror (s : State) : State :=
  s.updTm fun t => { t with qs := t.qs.map fun e => (e.1, { e.2 with mid := e.2.mid.map fun x => { x with mirror := false } }) }

/-- Migration of a working channel begins, or is refused with CFG_REJECT (R285, R286). -/
def migStart (s : State) (src : Nat) (auto : Bool) : State :=
  let st := s.rd .msc MSC.MIG_STATUS.STATE
  let c : Fin 17 := Fin.ofNat 17 src
  if s.rd (.mch 16) MCH.CH_STATUS.STATE != 5 || st == 1 || st == 2 || decide (16 ≤ src)
      || s.rd (.mch c) MCH.CH_STATUS.STATE != 2 || !(s.rd .msc MSC.MEM_STATUS.IN_SVC).testBit src then
    if auto then s else s.wb .msc MSC.MIG_STATUS.CFG_REJECT true
  else
    let s := if auto then s.wr .msc MSC.PATROL_CTRL.PAUSE (putBit (s.rd .msc MSC.PATROL_CTRL.PAUSE) src true)
      else s.wb .msc MSC.MIG_STATUS.CFG_REJECT false
    let s := ((s.wr .msc MSC.MIG_STATUS.STATE 1).wr .msc MSC.MIG_STATUS.SOURCE src).wr .msc MSC.MIG_STATUS.PROGRESS 0
    let s := (s.wr (.mch c) MCH.CH_STATUS.STATE 3).wr (.mch 16) MCH.CH_STATUS.STATE 4
    let s := s.setChan 16 { s.chan 16 with stored := [] }
    (s.unmirror.updMem fun m => { m with copied := 0, lock := none, mirrored := [], autoMig := auto }).raise .msc 2

/-- A device is marked failed, unless its sub-channel already has one (R282). -/
def markDevice (s : State) (c : Fin 17) (dev reason : Nat) : State :=
  let f := if dev < 10 then MCH.CH_STATUS.FAIL_A else MCH.CH_STATUS.FAIL_B
  if 20 ≤ dev || s.bit (.mch c) f then s
  else
    let s := (s.wr (.mch c) f (dev % 10 + 1)).raise (.mch c) 0
    let s := s.updMem fun m => { m with repairDevs := m.repairDevs ++ [(c.val, dev)] }
    let s := s.substitute 8 reason (32 * c.val + dev)
    if s.bit .msc MSC.MEM_CTRL.AUTO_MIG && s.rd (.mch c) MCH.CH_STATUS.STATE == 2 then s.migStart c.val true else s

/-- A corrected burst is counted, and may mark its device or remap its row (R276, R282, R283). -/
def corrected (s : State) (c : Fin 17) (l : BurstLoc) (e : BurstErr) : State :=
  let f := s.failedDev c l.sub
  let x := s.chan c
  let b := l.sub.toNat
  let x := { x with
    bursts := x.bursts.set b (x.bursts.getD b 0 + 1)
    syms := (List.range 10).foldl (fun a d => a.set (10 * b + d) (a.getD (10 * b + d) 0 + e.perDevice.getD d 0)) x.syms
    rowHits := x.rowHits.set (fun _ => 0) (rowKey l) (x.rowHits.get (fun _ => 0) (rowKey l) + 1) }
  let s := ((s.setChan c x).ce (.mch c) b).count (.mch c) 0 1
  let s := match f with
    | some d => if e.perDevice.getD d 0 ≠ 0 then s.count (.mch c) 2 1 else s
    | none => s
  let s := if 16 ≤ x.rowHits.get (fun _ => 0) (rowKey l) then s.remapRow c l else s
  let total := (List.range 10).foldl (fun a d => a + x.syms.getD (10 * b + d) 0) 0
  let bad := (List.range 10).find? fun d =>
    decide (s.rd .msc MSC.DEV_FAIL_CFG.SHARE * total ≤ 100 * x.syms.getD (10 * b + d) 0) && decide (0 < total)
  match bad with
  | some d =>
    if s.bit .msc MSC.MEM_CTRL.AUTO_DEV_FAIL && decide (s.rd .msc MSC.DEV_FAIL_CFG.BURSTS < x.bursts.getD b 0) && f.isNone then
      s.markDevice c (10 * b + d) 3
    else s
  | none => s

/-- The queue whose context or statistics a logical address holds (R273). -/
def queueAt (a : Nat) : Nat := if a < 0x7004000000 then (a - 0x7000000000) / 64 else (a - 0x7004000000) / 32

/-- A statistics entry is poisoned (R281): it reads RESULT 7 until it is written whole. -/
def poisonStat (s : State) (q : Nat) : State :=
  s.updMem fun m => { m with statBad := if m.statBad.contains q then m.statBad else m.statBad ++ [q],
                             statFixed := m.statFixed.filter (· != q) }

/-- The two statistics entries of a poisoned burst (R273, R279): the burst that holds a queue's. -/
def poisonStats (s : State) (q : Nat) : State :=
  if q < 1048576 then (s.poisonStat (2 * (q / 2))).poisonStat (2 * (q / 2) + 1) else s

/-- A cell of a page of DDR5 is marked, for the queue that holds the page (R252). -/
def markCell (s : State) (page n : Nat) : State :=
  s.updTm fun t => { t with qs := t.qs.map fun e => (e.1, { e.2 with
    mid := e.2.mid.map fun x => if x.page = page then { x with lost := putBit x.lost n true } else x }) }

/-- The requester of a word acts on its loss: a cell is marked (R252), a context is quarantined, statistics read RESULT 7 (R281). -/
def ownerLoses (s : State) (l : BurstLoc) : State :=
  let a := l.addr.toNat
  match region a with
  | 0 => s.markCell (a / 4096) (a / 256 % 16)
  | 1 =>
    let q := queueAt a
    if q < 1048576 then
      let s := s.quarantine q
      s.setQueue q { s.queue q with ctxBad := 4 }
    else s
  | 2 => s.poisonStats (queueAt a)
  | _ => s

/-- Patrol's write-back on the source of a migration that host software started can put an older word over a queued datapath write, which MC16 alone
then holds (R489). -/
def writeOld (s : State) (c : Fin 17) (l : BurstLoc) : State :=
  let a := l.addr.toNat
  if s.rd .msc MSC.MIG_STATUS.STATE != 1 || s.mem.autoMig || s.rd .msc MSC.MIG_STATUS.SOURCE != c.val then s
  else
    let (i, s) := s.draw
    if !Config.queuedWrite i then s
    else match region a with
      | 1 => s.updMem fun m => { m with ctxOld := (queueAt a, i) :: m.ctxOld.filter (·.1 != queueAt a) }
      | 2 =>
        let q := 2 * (queueAt a / 2)
        s.updMem fun m => { m with statOld := [(q, i), (q + 1, i)] ++ m.statOld.filter (·.1 / 2 != q / 2) }
      | _ => s

/-- The source of a migration stays in service: what it holds in an older state is what counts from now on (R288, R289, R489). -/
def keepOld (s : State) : State :=
  let s := s.mem.statOld.foldl (fun s x =>
    let v := Config.oldStat x.2 x.1
    let w (i : Nat) : Nat := (v.extractLsb' (64 * i) 64).toNat
    s.setQueue x.1 { s.queue x.1 with packets := w 0, bytes := w 1, drops := w 2, steepBytes := w 3 }) s
  s.updMem fun m => { m with statOld := [], ctxOld := [] }

/-- An uncorrectable burst is counted and located, and its row is remapped (R272, R283). -/
def uncorrected (s : State) (c : Fin 17) (l : BurstLoc) (e : BurstErr) (kind : Nat) : State :=
  let s := ((s.ue (.mch c) l.sub.toNat).count (.mch c) 1 1).errAt c l (errDevice e l.sub) kind
  (s.raise (.mch c) 3).remapRow c l

/-- A row is copied to its target (R283): what reads corrected is written sound, what reads uncorrectable is written poisoned. -/
def copyRow (s : State) (c : Fin 17) (r : Nat) : State :=
  let x := s.chan c
  let f := s.failedDev c (decide (0x400000 ≤ r))
  let copy (e : Nat × Stored) : Option (Nat × Stored) :=
    if e.2.row ≠ r then some e
    else if uncorrectable e.2.err f then some (e.1, { e.2 with err := { perDevice := [], poisoned := true } })
    else none
  s.setChan c { x with stored := x.stored.filterMap copy }

/-- A channel's remap table is used for a row it remaps: an uncorrectable entry is dropped (R291). -/
def useRemap (s : State) (c : Fin 17) (l : BurstLoc) : State :=
  let x := s.chan c
  let i := x.remap.idxOf (rowKey l)
  if x.remap.contains (rowKey l) then
    let (bad, s) := s.useProt (.mch c) 3 i
    if bad then
      let s := s.setChan c { s.chan c with remap := x.remap.filter (· != rowKey l) }
      let s := s.showRemap c (s.rd (.mch c) MCH.REMAP_STATUS.USED - 1)
      (s.wr .msc MSC.MEM_SUMMARY.REMAPPED (s.rd .msc MSC.MEM_SUMMARY.REMAPPED - 1)).raise (.mch c) 3
    else s
  else s

/-- A channel answers: it carries data, or takes part in a migration. -/
def answers (s : State) (c : Fin 17) : Bool :=
  let st := s.rd (.mch c) MCH.CH_STATUS.STATE
  (st == 2 && s.pst (.mch c) != 4) || st == 3

/-- A use of one of MSC's buffers (R291): its test damages the word that is written, and the use finds it. -/
def useBuffer (s : State) (target : Nat) : Bool × State :=
  let s := s.protect .msc target 0
  let (bad, s) := s.useProt .msc target 0
  let s := { s with damage := s.damage.set (fun _ => 0) (damageKey .msc target 0) 0 }
  (bad, s.raiseIf bad .msc 7)

/-- A burst is stored poisoned, and its owner loses it; of one that was so already the owner knows (R279, R281). -/
def spoilWord (s : State) (c : Fin 17) (l : BurstLoc) : State :=
  let known := ((s.chan c).stored.get (fun _ => Stored.sound) (l.addr.toNat / 64)).err.poisoned
  let s := (s.writeBurst c l.addr.toNat (rowKey l) l.sub true).poisoned
  if known then s else s.ownerLoses l

/-- A partial write to a statistics entry (R277-R279): a read and a write of 64 bytes. The answer is 0 where the word is stored sound, 1 where it is
poisoned for what it held, 2 where it is for the merge buffer. -/
def merge (s : State) (c : Fin 17) (l : BurstLoc) (e : BurstErr) : Nat × State :=
  let s := (((s.countS .msc 2 1).takeReads 1).takeWrites 1)
  let (badBuf, s) := s.useBuffer 0
  let f := s.failedDev c l.sub
  if uncorrectable e f then (if badBuf then 2 else 1, (s.uncorrected c l e 2).spoilWord c l)
  else
    let s := if errored e then
        (((s.corrected c l e).errAt c l (errDevice e l.sub) 1).count (.mch c) 4 1 |>.raise (.mch c) 6).memLog c l.addr.toNat
      else s
    if badBuf then (2, (s.errAddr c l.addr.toNat 2).spoilWord c l) else (0, s.writeBurst c l.addr.toNat (rowKey l) l.sub false)

/-- A whole word of DDR5 is read: true where it reads uncorrectable, which its requester learns (R272, R291). -/
def readWord (s : State) (a : Nat) : Bool × State :=
  let c := s.holder a
  let l := locOf c a
  let s := (s.rollSecond c).useRemap c l
  let e := s.withStored c l cleanErr
  let (bad, s) := s.useBuffer 1
  if uncorrectable e (s.failedDev c l.sub) then (true, s.uncorrected c l e 3)
  else (bad, if errored e then s.corrected c l e else s)

/-- A page of DDR5 is read (R245): the cells of it that what its bursts hold, and the return buffer, make uncorrectable (R252, R291). -/
def readPage (s : State) (page : Nat) : List Nat × State :=
  let c := s.holder (4096 * page)
  let bursts := (s.chan c).stored.filter fun e => e.1 / 64 == page
  let (bad, s) := s.useBuffer 1
  bursts.foldl (fun (a : List Nat × State) e =>
    let l := locOf c (64 * e.1)
    let s := (a.2.rollSecond c).useRemap c l
    let x := s.withStored c l cleanErr
    if uncorrectable x (s.failedDev c l.sub) then (a.1 ++ [e.1 % 64 / 4], s.uncorrected c l x 3)
    else (a.1, if errored x then s.corrected c l x else s)) (if bad then [0] else [], s)

/-- The contexts of a slot are lost from a burst of the channel's contexts on, less those that MC16 has as well (R288, R290): those of parked
queues are found at once. -/
def loseContexts (s : State) (slot first : Nat) (mirrored : List Nat) : State :=
  let have_ := (mirrored.filter fun a => region (64 * a) == 1).map fun a => queueAt (64 * a)
  let s := s.updMem fun m => { m with
    ctxSlots := m.ctxSlots.filter (·.1 != slot) ++ [(slot, first)]
    ctxFixed := (m.ctxFixed.filter fun q => q % 16 != slot) ++ have_ }
  (s.queues.filter fun q => (s.queue q).parked).foldl findCtx s

/-- The cells of a slot's packet pages are lost from a burst of the channel on (R288, R290), less, on MC16, those of the pages written since the
migration began. -/
def losePages (s : State) (slot first : Nat) (keep : Bool) : State :=
  let gone (p : Nat) : Nat := (List.range 16).foldl (fun m j => putBit m j (decide (first ≤ 64 * (p / 16) + 4 * j + 3))) 0
  s.updTm fun t => { t with qs := t.qs.map fun e => (e.1, { e.2 with
    mid := e.2.mid.map fun x => if x.page % 16 = slot && !(keep && x.mirror) then { x with lost := x.lost ||| gone x.page } else x }) }

/-- The slot that a channel serves is withdrawn: packet pages go with what they hold, contexts and statistics start poisoned (R290). -/
def withdraw (s : State) (c : Fin 17) (slot : Nat) : State :=
  let s := s.wr .msc MSC.MEM_STATUS.IN_SVC (putBit (s.rd .msc MSC.MEM_STATUS.IN_SVC) c.val false)
  let s := s.updMem fun m => { m with
    lostSlots := m.lostSlots ++ [slot], statSlots := m.statSlots ++ [slot],
    statFixed := m.statFixed.filter fun q => q / 2 % 16 != slot }
  ((s.setPst (.mch c) 4).losePages slot 0 false).loseContexts slot 0 []

/-- MC16 takes a logical slot (R286, R288, R290): its bursts stored poisoned are the slot's from now on, and patrol of the slot goes on where it
stood. -/
def takeSlot (s : State) (slot reason : Nat) : State :=
  let svc := putBit (putBit (s.rd .msc MSC.MEM_STATUS.IN_SVC) slot false) 16 true
  let s := ((s.wr .msc MSC.MEM_STATUS.IN_SVC svc).wr .msc MSC.MEM_STATUS.SPARE_FOR slot).wb .msc MSC.MEM_STATUS.SPARE_USED true
  let s := (s.wr (.mch 16) MCH.CH_STATUS.STATE 2).wr (.mch 16) MCH.CH_STATUS.LOGICAL slot
  let c : Fin 17 := Fin.ofNat 17 slot
  let s := (s.wr (.mch c) MCH.CH_STATUS.STATE 6).setPst (.mch c) 0
  let old := s.chan c
  let s := s.setChan 16 { s.chan 16 with patPos := old.patPos, passes := old.passes }
  let s := (s.chan 16).stored.foldl (fun s e =>
    if e.2.err.poisoned && region (64 * e.1) == 2 then s.poisonStats (queueAt (64 * e.1)) else s) s
  (s.updMem fun m => { m with statOld := [], ctxOld := [], lock := none }).substitute 9 reason slot

/-- MC16 is retired (R289): for good. -/
def retireSpare (s : State) : State :=
  (((s.wr (.mch 16) MCH.CH_STATUS.STATE 6).setPst (.mch 16) 0).updMem fun m => { m with spareGone := true, lock := none }).substitute 9 6 16

/-- MC16 stops answering while it mirrors or copies (R289). -/
def spareLost (s : State) : State :=
  let c : Fin 17 := Fin.ofNat 17 (s.rd .msc MSC.MIG_STATUS.SOURCE)
  ((s.keepOld.wr (.mch c) MCH.CH_STATUS.STATE 2).retireSpare.wr .msc MSC.MIG_STATUS.STATE 5).raise .msc 4

/-- The bursts of a slot that a migration has neither copied nor mirrored are poisoned (R288): frames whose cells lay there are dropped, contexts
there quarantined, statistics there read RESULT 7. The entries of a channel begin at burst 469,827,584, 32 queues' to each of its bursts. -/
def poisonUncopied (s : State) (slot : Nat) : State :=
  let n := min 1048576 (32 * (s.mem.copied - 469827584))
  let mirrored := s.mem.mirrored
  let s := (s.losePages slot s.mem.copied true).loseContexts slot (s.mem.copied - 469762048) mirrored
  let stats := (mirrored.filter fun a => region (64 * a) == 2).flatMap fun a => [queueAt (64 * a), queueAt (64 * a) + 1]
  s.updMem fun m => { m with
    statSlots := m.statSlots ++ [slot]
    statFixed := (m.statFixed.filter fun q => q / 2 % 16 != slot)
      ++ (List.range n).filter (fun q => q / 2 % 16 == slot) ++ stats }

/-- The copy's write lands on MC16, unless a mirrored write has made it drop (R286, R287); with the last one the switch is due. -/
def landCopy (s : State) : State :=
  match s.mem.lock with
  | none => s
  | some l =>
    let s := s.updMem fun m => { m with lock := none }
    let s := if l.dropped then s
      else
        let s := s.storeBurst 16 l.addr (Config.rowOf 16 l.addr).toNat (subOf l.addr) l.poison
        if l.poison then s.poisoned else s
    if s.mem.copied = 536870912 then s.wr .msc MSC.MIG_STATUS.STATE 2 else s

/-- A channel stops answering (R288-R290). -/
def channelLost (s : State) (c : Fin 17) : State :=
  let st := s.rd (.mch c) MCH.CH_STATUS.STATE
  let spare := s.rd (.mch 16) MCH.CH_STATUS.STATE
  if st = 3 then
    ((((s.landCopy.takeSlot c.val 6).poisonUncopied c.val).wr .msc MSC.MIG_STATUS.STATE 5).raise .msc 4).raise .msc 5
  else if st = 4 then s.spareLost
  else if st = 5 then s.retireSpare
  else if st = 2 && s.pst (.mch c) != 4 then
    let slot := if c.val = 16 then s.rd .msc MSC.MEM_STATUS.SPARE_FOR else c.val
    if c.val != 16 && spare == 5 then
      let s := s.takeSlot slot 6
      let s := s.updMem fun m => { m with statSlots := m.statSlots ++ [slot], statFixed := m.statFixed.filter fun q => q / 2 % 16 != slot }
      ((s.losePages slot 0 false).loseContexts slot 0 []).raise .msc 5
    else (s.withdraw c slot).raise .msc 5
  else s

/-- A write to MIG_CTRL (R285, R288, R294). -/
def effMigCtrl (v : Word) (s : State) : State :=
  let src := MSC.MIG_CTRL.SOURCE.get v
  let start := MSC.MIG_CTRL.START.get v == 1
  let abort := MSC.MIG_CTRL.ABORT.get v == 1
  if MSC.MIG_CTRL.PACE.get v = 0 || decide (16 ≤ src) || (start && abort) then s.wb .msc MSC.MIG_STATUS.CFG_REJECT true
  else
    let s := (s.wr .msc MSC.MIG_CTRL.SOURCE src).wr .msc MSC.MIG_CTRL.PACE (MSC.MIG_CTRL.PACE.get v)
    if start then s.migStart src false
    else
      let s := s.wb .msc MSC.MIG_STATUS.CFG_REJECT false
      if abort && s.rd .msc MSC.MIG_STATUS.STATE == 1 then
        let c : Fin 17 := Fin.ofNat 17 (s.rd .msc MSC.MIG_STATUS.SOURCE)
        let s := ((s.keepOld.wr (.mch c) MCH.CH_STATUS.STATE 2).wr (.mch 16) MCH.CH_STATUS.STATE 5).wr .msc MSC.MIG_STATUS.STATE 4
        s.updMem fun m => { m with lock := none }
      else s

/-- A write to PATROL_CTRL, refused whole with PERIOD 0 (R294). -/
def effPatrolCtrl (v : Word) (s : State) : State :=
  if MSC.PATROL_CTRL.PERIOD.get v = 0 then s else s.plainWrite .msc 0x034 v

/-- A write to DEV_FAIL_CFG, refused whole out of range (R294). -/
def effDevFailCfg (v : Word) (s : State) : State :=
  let sh := MSC.DEV_FAIL_CFG.SHARE.get v
  if MSC.DEV_FAIL_CFG.BURSTS.get v = 0 || sh < 50 || 100 < sh then s else s.plainWrite .msc 0x03C v

/-- A write to CH_CTRL (R282, R296). -/
def effChCtrl (c : Fin 17) (v : Word) (s : State) : State :=
  if MCH.CH_CTRL.CONFIRM.get v ≠ 0x4D46 then s.countMalformed
  else if MCH.CH_CTRL.MARK_FAIL.get v = 0 then s
  else (s.markDevice c (MCH.CH_CTRL.DEV.get v) 4).rememory

/-- A write to DEV_VIEW (R296). -/
def effDevView (c : Fin 17) (v : Word) (s : State) : State :=
  if 20 ≤ MCH.DEV_VIEW.SEL.get v then s else s.plainWrite (.mch c) 0x028 v

/-- The logical address of a burst of a channel, by its index (R273, log 41). -/
def burstAddr (slot b : Nat) : Nat :=
  if b < 469762048 then (16 * (b / 64) + slot) * 4096 + b % 64 * 64
  else 0x7000000000 + (16 * (b - 469762048) + slot) * 64

end State

/-! ## Commands -/

/-- REFRESH_RATE_POLL (R275): MR4 codes of the channel's devices; from code 3 on the doubled rate, 5 above the operating
limit (PRESUMED, JESD79-5; log 42). -/
def execRefreshRatePoll (ch : Fin 17) (rates : List Nat) (s : State) : Host.Outcome State Fault Refusal :=
  s.done fun s =>
    let p := Page.mch ch
    if !(s.answers ch || s.rd p MCH.CH_STATUS.STATE == 4 || s.rd p MCH.CH_STATUS.STATE == 5) then s
    else
      let top := rates.foldl max 0
      let hot := rates.countP fun r => decide (5 ≤ r)
      let s := (s.wr p MCH.REFRESH.RATE top).wr p MCH.REFRESH.TREFI (if 3 ≤ top then 19 else 39)
      let s := s.wr p MCH.REFRESH.HOT hot
      let s := if 3 ≤ top then s.count p 5 16 else s
      let old := s.bit p MCH.CH_STATUS.DRAM_HOT
      (s.wb p MCH.CH_STATUS.DRAM_HOT (decide (0 < hot))).raiseIf (decide (0 < hot) && !old) p 4

/-- BACKGROUND_CALIBRATION (R274): nothing that software or traffic sees. -/
def execBackgroundCalibration (_ : Fin 17) (s : State) : Host.Outcome State Fault Refusal := s.done fun s => s

/-- PATROL_READ (R280, R281): a read that waits while every operation slot is taken (R248). -/
def execPatrolRead (ch : Fin 17) (loc : BurstLoc) (err : BurstErr) (s : State) : Host.Outcome State Fault Refusal :=
  s.done fun s =>
    if !s.bit .msc MSC.MEM_CTRL.PATROL_EN || (s.rd .msc MSC.PATROL_CTRL.PAUSE).testBit ch.val || !s.answers ch
        || State.region loc.addr.toNat == 0 || decide (40960 ≤ s.tm.ops) then s
    else
      let s := ((s.rollSecond ch).useRemap ch loc).countS .msc 0 1
      let s := if s.rd .stp STP.OPS_INFLIGHT.HWM < s.tm.ops + 1 then s.wr .stp STP.OPS_INFLIGHT.HWM (s.tm.ops + 1) else s
      let err := s.withStored ch loc err
      let f := s.failedDev ch loc.sub
      let s :=
        if State.uncorrectable err f then
          (((s.uncorrected ch loc err 5).count .msc 18 1).countS .msc 1 1).spoilWord ch loc
        else if State.errored err then
          let s := (((s.corrected ch loc err).errAt ch loc (State.errDevice err loc.sub) 4).count .msc 17 1).countS .msc 1 1
          let s := (s.writeBurst ch loc.addr.toNat (State.rowKey loc) loc.sub false).writeOld ch loc
          let x := s.chan ch
          let r := State.rowKey loc
          let s := if x.patOld.contains r then s.remapRow ch loc else s
          let x := s.chan ch
          s.setChan ch { x with patNow := if x.patNow.contains r then x.patNow else x.patNow ++ [r] }
        else s
      let x := s.chan ch
      let x := if x.patPos + 1 = 2 ^ 26 then { x with patPos := 0, passes := x.passes + 1, patOld := x.patNow, patNow := [] }
        else { x with patPos := x.patPos + 1 }
      let s := s.setChan ch x
      let live := (List.finRange 17).filter fun c => s.answers c
      let least := live.foldl (fun a c => min a ((s.chan c).passes * 2 ^ 26 + (s.chan c).patPos)) (x.passes * 2 ^ 26 + x.patPos)
      let done := least / 2 ^ 26
      let s := (s.raiseIf (decide (s.mem.passes < done)) .msc 0).updMem fun m => { m with passes := max m.passes done }
      (s.wr .msc MSC.PATROL_STATUS.PASSES (min done 0xFFFF)).wr .msc MSC.PATROL_STATUS.PROGRESS (least % 2 ^ 26 / 1024)
        |>.rememory

/-- DDR_READ_RETURN (R272, R277-R279, R283): a read of the statistics region is that of a merge. -/
def execDdrReadReturn (ch : Fin 17) (loc : BurstLoc) (err : BurstErr) (s : State) : Host.Outcome State Fault Refusal :=
  s.done fun s =>
    if !s.answers ch then s
    else
      let s := (s.rollSecond ch).useRemap ch loc
      let err := s.withStored ch loc err
      if State.region loc.addr.toNat = 2 then (s.merge ch loc err).2.rememory
      else
        let (bad, s) := s.useBuffer 1
        let f := s.failedDev ch loc.sub
        let s :=
          if State.uncorrectable err f then (s.uncorrected ch loc err 3).ownerLoses loc
          else
            let s := if State.errored err then s.corrected ch loc err else s
            if bad then s.ownerLoses loc else s
        s.rememory

/-- ROW_COPY_DONE (R283). -/
def execRowCopyDone (ch : Fin 17) (s : State) : Host.Outcome State Fault Refusal :=
  s.done fun s =>
    let p := Page.mch ch
    let x := s.chan ch
    match x.copying with
    | [] => s
    | r :: rest =>
      let s := s.setChan ch { x with copying := rest, remap := x.remap ++ [r] }
      let s := ((s.copyRow ch r).flipBurst ch (Config.rowBurst ch.val r).toNat r (decide (0x400000 ≤ r))).protect p 3 x.remap.length
      let s := (s.showRemap ch (x.remap.length + 1)).wr p MCH.REMAP_LAST.LOCATION r
      let s := s.wr .msc MSC.MEM_SUMMARY.REMAPPED (s.rd .msc MSC.MEM_SUMMARY.REMAPPED + 1)
      let s := s.updMem fun m => { m with
        repairRows := if m.repairRows.contains (ch.val, r) then m.repairRows else m.repairRows ++ [(ch.val, r)] }
      (((s.count p 3 1).raise p 1).substitute 7 3 (32 * ch.val)).rememory

/-- MARK_FAIL (R282). -/
def execMarkFail (ch : Fin 17) (v : Word) (s : State) : Host.Outcome State Fault Refusal :=
  s.done fun s => s.gateReg (.mch ch) 0x020 v (State.effChCtrl ch v)

/-- MIG_START (R285): a write of MIG_CTRL. -/
def execMigStart (v : Word) (s : State) : Host.Outcome State Fault Refusal :=
  s.done fun s => s.gateReg .msc 0x02C (v ||| 0x100) (State.effMigCtrl (v ||| 0x100))

/-- MIG_ABORT (R288): MIG_CTRL with ABORT, the other fields as they stand. -/
def execMigAbort (s : State) : Host.Outcome State Fault Refusal :=
  let v := s.word .msc 0x02C ||| 0x200
  s.done fun s => s.gateReg .msc 0x02C v (State.effMigCtrl v)

/-- MIG_COPY_BURST (R286, R287): the copy's burst before is written, if it is not yet, and the next one is read under an address lock. Both operations
wait for their slots (R248): where two are not free the copy reads at a later time. -/
def execMigCopyBurst (err : BurstErr) (s : State) : Host.Outcome State Fault Refusal :=
  s.done fun s =>
    let s := s.landCopy
    if s.rd .msc MSC.MIG_STATUS.STATE ≠ 1 || decide (40960 < s.tm.ops + 2) then s
    else
      let src := s.rd .msc MSC.MIG_STATUS.SOURCE
      let b := s.mem.copied
      let a := State.burstAddr src b
      let c : Fin 17 := Fin.ofNat 17 src
      let l := State.locOf c a
      let s := (((s.count .msc 19 1).takeReads 1).takeWrites 1)
      let s := (s.rollSecond c).useRemap c l
      let e := s.withStored c l err
      let ue := State.uncorrectable e (s.failedDev c l.sub)
      let s := if ue then s.uncorrected c l e 6 else if State.errored e then s.corrected c l e else s
      let s := s.updMem fun m => { m with copied := b + 1, lock := some { addr := a, poison := ue, dropped := false } }
      (s.wr .msc MSC.MIG_STATUS.PROGRESS (min ((b + 1) * 65536 / 536870912) 0xFFFF)).rememory

/-- MIG_SWITCH (R286). -/
def execMigSwitch (s : State) : Host.Outcome State Fault Refusal :=
  s.done fun s =>
    if s.rd .msc MSC.MIG_STATUS.STATE ≠ 2 then s
    else
      let src := s.rd .msc MSC.MIG_STATUS.SOURCE
      let s := s.takeSlot src (if s.mem.autoMig then 5 else 4)
      (((s.wr .msc MSC.MIG_STATUS.STATE 3).raise .msc 3).log 5 5 0 3 src).rememory

/-- CHANNEL_LOST (R288-R290). -/
def execChannelLost (ch : Fin 17) (s : State) : Host.Outcome State Fault Refusal :=
  s.done fun s => (s.channelLost ch).rememory

/-- SPARE_CHANNEL_LOST (R289). -/
def execSpareChannelLost (s : State) : Host.Outcome State Fault Refusal :=
  s.done fun s => if s.rd (.mch 16) MCH.CH_STATUS.STATE = 4 then s.spareLost.rememory else s

end Sys2Proof.Machine
end

