-- ==== Sys2Proof/Machine/Admit.lean ====
section
/-! DEFINITION. From the host into the queues, and out to the host: frames and tags (R205-R209, R301), admission (R242-R244), parking
(R228), delivery queues and host pause (R259-R263). -/
namespace Sys2Proof.Machine

open Sys2Proof Reg

/-! ## Frames (R206, R301) -/

/-- The last four bytes of a frame are its check. -/
def fcsOk (l : List Byte) : Bool := ethFcs (l.take (l.length - 4)) == l.drop (l.length - 4)

/-- n bytes of a frame from a position, as a number. -/
def beAt (l : List Byte) (pos n : Nat) : Nat := natBE ((l.drop pos).take n)

/-- A queue tag's fields (R205). -/
structure QTag where
  version : Nat
  dp : Nat
  queue : Nat
  lenAdj : Int
  deriving DecidableEq, Repr

/-- The tag of a frame whose bytes 12-13 are the tag EtherType (R205). -/
def tagOf (l : List Byte) : QTag :=
  { version := beAt l 14 1 / 16, dp := beAt l 14 1 / 4 % 4, queue := beAt l 15 3 % 2 ^ 20, lenAdj := signed 8 (beAt l 18 1) }

/-- A frame without its tag, padded to 64 bytes, with a new check (R206). -/
def untag (l : List Byte) : List Byte :=
  let b := State.pad60 (l.take 12 ++ (l.take (l.length - 4)).drop 20)
  b ++ ethFcs b

/-- Cells of a queue put after those it holds on die. -/
def addSeg (segs : List (Option Nat × Nat)) (n : Nat) : List (Option Nat × Nat) :=
  match segs.getLast? with
  | some (none, m) => segs.dropLast ++ [(none, m + n)]
  | _ => segs ++ [(none, n)]

namespace State

/-! ## Queue contexts: the cache, and DDR5 (R228, R229, R235, R266, R268, R277-R279) -/

/-- A context in which a merge has found an uncorrectable error is poisoned: it takes one of the 16 places of the cache's poison register (R279). -/
def poisonCtx (s : State) (i : Nat) : State :=
  if s.tm.ctxPoison.contains i then s
  else if s.tm.ctxPoison.length < 16 then s.updTm fun t => { t with ctxPoison := t.ctxPoison ++ [i] }
  else s.updTm fun t => { t with ctxCrowded := true }

/-- A context is written whole: it leaves the poison register, where a place is free from then on (R279). -/
def healCtx (s : State) (i : Nat) : State :=
  if s.tm.ctxPoison.contains i then s.updTm fun t => { t with ctxPoison := t.ctxPoison.filter (· != i), ctxCrowded := false } else s

/-- A use of a queue's context in the cache, of its link words and page chain: an uncorrectable error quarantines the queue (R229, R235, R266,
R268). A use that merges fields into the context logs a correctable one and leaves an uncorrectable one poisoned (R278, R279). -/
def useStores (s : State) (i : Nat) (merges : Bool) : State :=
  let q := s.queue i
  let s := if q.ctxBad = 1 then (s.ce .qsc 0).rowUse .qsc 0 i false else s
  let s := if q.ctxBad = 1 && merges then s.mergeLog .qsc i else s
  let s := if q.ctxBad = 2 && merges then s.poisonCtx i else s
  let s := if q.linkBad = 1 then (s.ce .bsc 2).rowUse .bsc 2 i false else s
  let s := if q.chainBad = 1 then (s.ce .stp 1).rowUse .stp 1 i false else s
  let s := if q.ctxBad = 2 then (((s.ue .qsc 0).rowUse .qsc 0 i true).raise .qsc 5).count .qsc 24 1 else s
  let s := if q.linkBad = 2 then ((s.ue .bsc 2).rowUse .bsc 2 i true).raise .bsc 3 else s
  let s := if q.chainBad = 2 then (((s.ue .stp 1).rowUse .stp 1 i true).raise .stp 5).count .stp 4 1 else s
  if q.ctxBad = 2 || q.linkBad = 2 || q.chainBad = 2 then
    let s := s.quarantine i
    if q.ctxBad = 2 then s.setQueue i { s.queue i with ctxBad := 3 } else s
  else if q.ctxBad = 1 || q.linkBad = 1 || q.chainBad = 1 then s.setQueue i { q with ctxBad := 0, linkBad := 0, chainBad := 0 }
  else s

/-- A context is read in DDR5: one that was lost there, or reads uncorrectable, quarantines its queue (R229, R288, R290). -/
def readCtx (s : State) (i : Nat) : State :=
  let s := s.findCtx i
  let (bad, s) := (s.takeReads 1).readWord (ctxAddr i)
  if bad then
    let s := s.quarantine i
    s.setQueue i { s.queue i with ctxBad := 4 }
  else s

/-- A context is written whole to DDR5 (R277). What a migration's source held of it before is gone (R489). -/
def storeCtx (s : State) (i : Nat) (poison : Bool) : State :=
  let s := (s.takeWrites 1).writeWord (ctxAddr i) poison
  s.updMem fun m => { m with
    ctxOld := m.ctxOld.filter (·.1 != i)
    ctxFixed := if m.ctxFixed.contains i then m.ctxFixed else m.ctxFixed ++ [i] }

/-- The cache gives up the context of an empty queue, which is written back (R228). -/
def evict (s : State) (i : Nat) : State :=
  let s := s.useStores i false
  let s := if s.ddrOn then s.storeCtx i (decide (3 ≤ (s.queue i).ctxBad)) else s
  s.updTm fun t => { t with cache := t.cache.filter (· != i) }

/-- The contexts that the cache can hold (R426). -/
def cacheRoom (s : State) : Nat := 131072 - 1024 * s.tm.ctxBanks

/-- A context is used in the cache, which holds the most recently used: one that it lacks is filled from DDR5, where the least recently used context
of an empty queue gives way. While every cached context belongs to a backlogged queue it stays in DDR5 (R228). -/
def cacheCtx (s : State) (i : Nat) : State :=
  if (s.queue i).parked then s.readCtx i
  else if s.tm.cache.contains i then s.updTm fun t => { t with cache := t.cache.filter (· != i) ++ [i] }
  else
    let fill (s : State) : State :=
      let s := if s.ddrOn then s.readCtx i else s
      s.updTm fun t => { t with cache := t.cache ++ [i] }
    if s.tm.cache.length < s.cacheRoom then fill s
    else match s.tm.cache.find? fun j => (s.queue j).frames == [] with
      | some j => fill (s.evict j)
      | none => if s.ddrOn then s.readCtx i else s

/-- A use of a queue: its context as the cache or DDR5 holds it, its link words and page chain. An indirect read of a context that the cache lacks
reads DDR5 and fills nothing. -/
def useQueue (s : State) (i : Nat) (merges : Bool) : State :=
  let s := if merges then s.cacheCtx i else if s.tm.cache.contains i || !s.ddrOn then s else s.readCtx i
  s.useStores i merges

/-- The context of a queue is written: in the cache, where an armed test damages it (R41, R235), or in DDR5, where a test of its channel does
(R228, R291). -/
def writeCtx (s : State) (i : Nat) : State :=
  if s.tm.cache.contains i then
    let (sev, s) := s.armed .qsc 0
    if sev = 0 then s else s.setQueue i { s.queue i with ctxBad := sev }
  else if s.ddrOn then s.storeCtx i false
  else s

/-! ## Admission (R242-R244) -/

/-- A frame of n cells of precedence d that a queue cannot take: the reason, 0 when it is admitted (R243). -/
def refusal (s : State) (i d n : Nat) : Nat :=
  let e := s.qcfg i
  let q := s.queue i
  let lim := QCfg.maxDepth e
  let p := s.prof (QCfg.profile e)
  let share := if s.lost 2 (QCfg.profile e) then 0 else ebits p 2 (8 * (d - 1)) 8
  if !QCfg.enable e then 1
  else if q.quarantined then 6
  else if s.enabled .sch && s.bit .sch HDR.PAGE_CTRL.DRAIN then 7
  else if lim < q.depth + n then 2
  else if d ≠ 0 && decide (lim * share / 256 < q.depth + n) then 3
  else if q.steep then if n ≤ s.egFree && (q.tail + n) / 16 ≤ s.ddrFree then 0 else 5
  else if n ≤ s.egFree then 0 else 4

/-- A queue becomes backlogged: it is parked where its context has found no place in the cache (R228). -/
def park (s : State) (i : Nat) : State :=
  let q := s.queue i
  if q.frames = [] && !s.tm.cache.contains i then
    ((s.setQueue i { q with parked := true }).count .qsc 23 1).raise .qsc 4
  else s

/-- A decision or an admission on a parked queue counts its two memory operations (R228): the read of its context (State.useQueue) and the write
(State.writeCtx). -/
def parkedOps (s : State) (i : Nat) : State := if (s.queue i).parked then s.count .qsc 22 2 else s

/-- A frame is linked to its queue (R242); the tests of the cell store and of the link store damage what is written. -/
def link (s : State) (i : Nat) (f : QFrame) : State :=
  let (bad, s) := s.armed .bsc 0
  let (lb, s) := s.armed .bsc 2
  let q := s.queue i
  let f := { f with bad := bad }
  let n := f.cells
  s.setQueue i { q with
    frames := q.frames ++ [f], linkBad := max q.linkBad lb
    tail := if q.steep then q.tail + n else q.tail
    segs := if q.steep then q.segs else addSeg q.segs n }

/-- A frame for a queue is admitted or dropped as a whole (R242-R244). -/
def storeFrame (s : State) (i d : Nat) (f : QFrame) : State :=
  let s := s.useQueue i true
  let (_, s) := s.useSch 2 (QCfg.profile (s.qcfg i))
  let r := s.refusal i d f.cells
  if r ≠ 0 then (if r = 6 then s.count .qsc 21 1 else s).dropQ i r f.bytes.length
  else
    let s := (s.park i).parkedOps i
    let s := ((s.link i f).writeCtx i).countS .bsc 0 1
    (s.countS .bsc 1 f.bytes.length).pumpAll

/-! ## The queue tag (R205-R209) -/

/-- A frame that no queue is charged with is dropped by the queue section, which is switched off or has lost its port's entry (R235, 09 "The QSC
page"). -/
def dropHost (s : State) (bytes : Nat) : State := (s.countS .bsc 2 bytes).raise .bsc 2

/-- The cells of a frame from the host stand in the assembly area until it is admitted or dropped (R240, R242): the high-water mark sees
them. -/
def assemble (s : State) (bytes : Nat) : State :=
  let n := s.egUsed + ceilDiv bytes 256
  if s.rd .bsc BSC.EG_HWM.CELLS < n then s.wr .bsc BSC.EG_HWM.CELLS (min n 655360) else s

/-- A frame for a queue as stored (R206, R207). -/
def toQueue (s : State) (i d : Nat) (adj : Int) (l : List Byte) : State :=
  if 9600 < l.length then s.count .qsc 20 1
  else if 131072 ≤ i && !s.ddrOn then ((s.assemble l.length).count .qsc 19 1).raise .qsc 2
  else if !s.enabled .bsc then s.dropOffQ i l.length
  else (s.assemble l.length).storeFrame i d { bytes := l, lenAdj := adj, bad := 0, steep := 0 }

/-- Tag parsing (R205-R208). -/
def parse (s : State) (port : Nat) (l : List Byte) : State :=
  let s := (s.countS .qsc 0 1).countS .qsc 1 l.length
  if !s.enabled .qsc then s.dropHost l.length
  else
    let (bad, s) := s.useOnce .qsc 1 port 5 (some 24)
    if bad then s.dropHost l.length
    else
      let e := s.entry 0 3 port
      let tagged := ebits e 0 20 1 == 1
      let ours := beAt l 12 2 == s.rd .qsc QSC.TAG_CFG.ETYPE
      let invalid (s : State) : State := (s.count .qsc 16 1).raise .qsc 0
      if tagged && ours then
        let t := tagOf l
        if t.version ≠ 1 || t.dp = 3 then invalid s else s.toQueue t.queue t.dp t.lenAdj (untag l)
      else if ours then invalid s
      else if tagged && ebits e 0 21 1 == 0 then (s.count .qsc 17 1).raise .qsc 1
      else (s.count .qsc 18 1).toQueue (ebits e 0 0 20) (ebits e 0 22 2) 0 l

/-! ## Host pause (R260, R263) -/

/-- Priorities of a port that the host has paused. -/
def hostPausedBits (s : State) (port : Nat) : Nat := s.tm.hostPaused.get (fun _ => 0) port
def wdogBits (s : State) (port : Nat) : Nat := s.tm.wdog.get (fun _ => 0) port

/-- A priority of a port is paused or released by the host; a release ends the watchdog's discard. -/
def setHostPause (s : State) (port prio : Nat) (on : Bool) : State :=
  s.updTm fun t => { t with
    hostPaused := t.hostPaused.set (fun _ => 0) port (putBit (s.hostPausedBits port) prio on)
    wdog := if on then t.wdog else t.wdog.set (fun _ => 0) port (putBit (s.wdogBits port) prio false) }

/-- An 802.1Qbb frame: class-enable vector at bytes 16-17, times after it (R254, R260). -/
def takePfc (s : State) (port : Nat) (l : List Byte) : State :=
  let s := (s.useFct 3 port).count .fct 3 1
  if !s.bit .fct FCT.FC_CTRL.HONOUR_EN || ebits (s.fctEntry 3 port) 0 18 1 = 0 then s
  else
    let v := beAt l 16 2
    (List.range 8).foldl (fun s i =>
      if !v.testBit i then s
      else
        let on := beAt l (18 + 2 * i) 2 != 0
        let was := (s.hostPausedBits port).testBit i
        (s.setHostPause port i on).raiseIf (on && !was) .fct 2) s

/-- A frame is a pause frame of IEEE 802.3 or 802.1Qbb: its opcode. -/
def pauseOp (l : List Byte) : Option Nat :=
  if beAt l 12 2 = 0x8808 && (beAt l 14 2 = 0x0101 || beAt l 14 2 = 1) then some (beAt l 14 2) else none

/-- A pause frame acts (R260). -/
def takePause (s : State) (port op : Nat) (l : List Byte) : State :=
  if op = 1 then (s.count .fct 4 1).raise .fct 5 else s.takePfc port l

/-- A steering message on a steerable port, of any VERSION, is taken before tag parsing (R309). -/
def isSteer (s : State) (d : Fin 2) (p : Nat) (l : List Byte) : Bool :=
  s.portSteerable d p && beAt l 0 6 == 0x03000000B502 && beAt l 12 2 == s.rd .qsc QSC.TAG_CFG.ETYPE && beAt l 14 1 % 16 == 0xE

/-- A steering frame acts: as the message that it carries, or as one out of range (R309). -/
def takeSteer (s : State) (d : Fin 2) (l : List Byte) : State :=
  let fl := beAt l 17 1
  let ln := beAt l 18 1
  let sp := beAt l 19 1
  if beAt l 14 1 ≠ 0x1E || 4 ≤ fl || 128 ≤ ln || sp < 128 || 135 < sp then s.steerDrop d
  else s.steerTake d (beAt l 16 1) {
    seq := BitVec.ofNat 8 (beAt l 15 1), release := fl.testBit 0, dir := fl.testBit 1, lane := Fin.ofNat 128 ln
    spare := Fin.ofNat 8 (sp - 128), reason := BitVec.ofNat 8 (beAt l 20 1) }

/-- What reaches the receive side of a port when a frame comes from outside (R304): the frame; in near-end loopback of all its lanes the oldest
frame that the port sent, if any; nothing where only some lanes are looped. In far-end loopback of all its lanes the frame goes back as well,
whether the port is on or not. -/
def arrives (s : State) (port : Nat) (l : List Byte) : List Byte × State :=
  let d : Fin 2 := Fin.ofNat 2 (port / 32)
  let p := port % 32
  let far := (s.portLanes d p).all fun i => HLG.LANE_TEST.LOOPBACK.get (s.laneSt d i).test == 3
  if 4 * s.portsPerGroup d ≤ p then (l, s)
  else if far then (l, if s.runs (.hlg d (s.portGroup d p)) then s.emit (.hostLooped (Fin.ofNat 64 port) l) else s)
  else if s.portLooped d p then
    let x := s.portSt d p
    (x.loop.headD [], s.setPortSt d p { x with loop := x.loop.drop 1 })
  else ((if (s.portLanes d p).any (s.nearLane d) then [] else l), s)

/-- A frame that a port receives: length and check (R301), then what takes it. No frame at all is nothing. -/
def fromHost (s : State) (port : Nat) (l : List Byte) (f : State → State) : State :=
  let d : Fin 2 := Fin.ofNat 2 (port / 32)
  let p := port % 32
  if l = [] || !s.portLive port then s
  else
    let g := Page.hlg d (s.portGroup d p)
    let s := s.selfTest g 1 6
    if l.length < 64 then s.count g 26 1
    else if 9608 < l.length then s.count g 27 1
    else if !fcsOk l then (s.count g (p % s.portsPerGroup d) 1).raise g 5
    else
      let s := (s.countS (.hsc d) 0 1).countS (.hsc d) 1 l.length
      f s

/-! ## Delivery (R227, R259-R263) -/

/-- Cells held for a port (R261). -/
def portCells (s : State) (port : Nat) : Nat :=
  (List.range 8).foldl (fun a i => a + (s.delivery port i).foldl (fun b f => b + f.cells) 0) 0

/-- An ingress drop (R244, R270). -/
def dropIn (s : State) (reason where_ bytes : Nat) : State := (s.drop reason where_ bytes).raise .fct 4

/-- A delivered frame joins its delivery queue, or is dropped (R261, R263). -/
def enqueueIn (s : State) (port prio : Nat) (l : List Byte) : State :=
  let s := s.useFct 3 port
  if (s.wdogBits port).testBit prio then s.dropIn 11 port l.length
  else if ebits (s.fctEntry 3 port) 0 0 18 < s.portCells port + ceilDiv l.length 256 then s.dropIn 9 port l.length
  else s.setDelivery port prio (s.delivery port prio ++ [{ bytes := l, lenAdj := 0, bad := 0, steep := 0 }])

/-- A frame on a port's lanes (R205-R208, R260, R301, R304, R309): pause, steering, or traffic. -/
def hostFrame (s : State) (port : Nat) (bytes : List Byte) : State :=
  let d : Fin 2 := Fin.ofNat 2 (port / 32)
  let (l, s) := s.arrives port bytes
  s.fromHost port l fun s =>
    match pauseOp l with
    | some op => s.takePause port op l
    | none => if s.isSteer d (port % 32) l then s.takeSteer d l else s.parse port l

end State

/-! ## Meanings -/

/-- HOST_FRAME_RECEIVED (R205-R208, R242-R244, R301). -/
def execHostFrameReceived (port : Fin 64) (bytes : List Byte) (s : State) : Host.Outcome State Fault Refusal :=
  s.done fun s => s.hostFrame port.val bytes

/-- HOST_PAUSE_FRAME (R260): a frame that is no pause frame is not this event. -/
def execHostPauseFrame (port : Fin 64) (bytes : List Byte) (s : State) : Host.Outcome State Fault Refusal :=
  s.done fun s => if (State.pauseOp bytes).isSome then s.hostFrame port.val bytes else s

/-- HOST_PAUSE_EXPIRY (R260). -/
def execHostPauseExpiry (port : Fin 64) (prio : Fin 8) (s : State) : Host.Outcome State Fault Refusal :=
  s.done fun s => s.setHostPause port.val prio.val false

/-- PAUSE_WATCHDOG (R263). -/
def execPauseWatchdog (port : Fin 64) (prio : Fin 8) (s : State) : Host.Outcome State Fault Refusal :=
  s.done fun s =>
    let p := port.val
    if !(s.hostPausedBits p).testBit prio.val || (s.wdogBits p).testBit prio.val
        || State.ebits (s.fctEntry 3 p) 0 24 8 = 0 then s
    else
      let s := (s.delivery p prio.val).foldl (fun s f => s.dropIn 11 p f.bytes.length) s
      let s := s.setDelivery p prio.val []
      let s := s.updTm fun t => { t with wdog := t.wdog.set (fun _ => 0) p (putBit (s.wdogBits p) prio.val true) }
      (s.count .fct 5 1).raise .fct 3

/-- HOST_FRAME_TRANSMIT (R259, R260). -/
def execHostFrameTransmit (port : Fin 64) (prio : Fin 8) (s : State) : Host.Outcome State Fault Refusal :=
  s.done fun s =>
    match s.delivery port.val prio.val with
    | [] => s
    | f :: r =>
      if !s.portLive port.val || (s.hostPausedBits port.val).testBit prio.val then s
      else
        (s.setDelivery port.val prio.val r).portSend port.val (.hostFrame port f.bytes) f.bytes

/-- PFC_REFRESH_TIMER (R254): the port repeats its priority pause. -/
def execPfcRefreshTimer (port : Fin 64) (s : State) : Host.Outcome State Fault Refusal :=
  s.done fun s => s.sendPfc port.val (s.portPrios port.val) 0

/-- GP_REFRESH_TIMER (R255): the port repeats its asserted pause groups. -/
def execGpRefreshTimer (port : Fin 64) (s : State) : Host.Outcome State Fault Refusal :=
  s.done fun s =>
    s.sendGp port.val (State.gpEntries (s.portGroups port.val) [] (s.rd .fct FCT.FC_TIMING.GP_TIME)) 65

end Sys2Proof.Machine
end

