-- ==== Sys2Proof/Machine/Sched.lean ====
section
/-! DEFINITION. The scheduler of a conduit (R213-R222), cells dealt to its members, pages read back from DDR5 (R245-R252). -/
namespace Sys2Proof.Machine

open Sys2Proof Reg

/-- The shaping length of a frame (09 "Scheduling"). -/
def QFrame.shape (f : QFrame) : Nat := (max 1 ((f.bytes.length : Int) + f.lenAdj)).toNat

/-- Deficit round robin (R214, R215): the holder keeps its turn while its deficit covers its frame; else turns go round from the next
member, each adding its quantum. The answer is the member served and the deficits after the turns. -/
def drrTurns (ids : List Nat) (quantum need : Nat → Nat) (defs : SMap Int) (start fuel : Nat) : Option Nat × SMap Int :=
  match fuel with
  | 0 => (none, defs)
  | n + 1 =>
    match ids[start % max 1 ids.length]? with
    | none => (none, defs)
    | some x =>
      let d := defs.get (fun _ => 0) x + (quantum x : Int)
      let defs := defs.set (fun _ => 0) x d
      if (need x : Int) ≤ d then (some x, defs) else drrTurns ids quantum need defs (start + 1) n

/-- The choice of a round robin among rising identifiers. -/
def drr (cur : Option Nat) (ids : List Nat) (quantum need : Nat → Nat) (defs : SMap Int) : Option Nat × SMap Int :=
  let keep := match cur with
    | some c => ids.contains c && decide ((need c : Int) ≤ defs.get (fun _ => 0) c)
    | none => false
  if keep then (cur, defs)
  else
    let start := match cur with
      | some c => (ids.filter (· ≤ c)).length
      | none => 0
    drrTurns ids quantum need defs start (160 * (ids.length + 1))

/-- A charge of L bytes to a bucket that lacks debt of its burst: never more than one L below zero (R216). Both in bytes * 8000. -/
def chargeBucket (debt burst l : Nat) : Nat := min (debt + l) (max debt (burst + l))

/-- Rising order. -/
def riseInsert (x : Nat) (l : List Nat) : List Nat :=
  match l with
  | [] => [x]
  | y :: r => if x < y then x :: y :: r else if x = y then y :: r else y :: riseInsert x r
def rising (l : List Nat) : List Nat := l.foldl (fun a x => riseInsert x a) []

namespace State

/-! ## Leaving a queue (R224, R228, R231, R245, R251, R252) -/

/-- The head frame leaves a queue: its cells and its emptied pages are freed, and a group left without frames gives up its deficits. -/
def popHead (s : State) (i : Nat) : State :=
  let q := s.queue i
  match q.frames with
  | [] => s
  | f :: r =>
    let s := s.setQueue i { q with frames := r, segs := takeHead q.segs f.cells, deficit := if r = [] then 0 else q.deficit }
    s.restGroup (QCfg.group (s.qcfg i))

/-- The head frame of a queue lies on die whole (R246). -/
def headReady (s : State) (i : Nat) : Bool :=
  let q := s.queue i
  match q.frames with
  | [] => false
  | f :: _ => decide (f.cells ≤ q.headCells)

/-- The head frame holds a marked cell: it is dropped whole (R252). -/
def dropMarked (s : State) (i : Nat) : State :=
  match (s.queue i).frames with
  | [] => s
  | f :: _ =>
    let s := if f.bad = 2 then ((s.ue .bsc 0).rowUse .bsc 0 i true).raise .bsc 3
      else if f.bad = 4 then (((s.ue .stp 0).rowUse .stp 0 i true).raise .stp 5).count .stp 4 1 else s
    let s := (s.wr .stp STP.STP_LAST.QUEUE i).wr .stp STP.STP_LAST.WHERE (f.bad - 1)
    ((s.popHead i).dropQ i 8 f.bytes.length).raise .stp 3

/-- Frames known to hold a marked cell are dropped as they reach the head (R252): marks come with pages read from DDR5. -/
def dropHeads (s : State) (i fuel : Nat) : State :=
  match fuel with
  | 0 => s
  | n + 1 =>
    match (s.queue i).frames with
    | [] => s
    | f :: _ => if 2 < f.bad && s.headReady i then (s.dropMarked i).dropHeads i n else s

/-! ## Eligibility (R213-R216) -/

/-- Tokens of a queue are positive, or its profile is unshaped; a profile lost to an error holds its queues (R214, R238). -/
def shapeOk (s : State) (i : Nat) : Bool :=
  let p := QCfg.profile (s.qcfg i)
  let e := s.prof p
  !s.lost 2 p && (ebits e 0 0 26 == 0 || decide ((s.fillQueue i).debt < ebits e 1 0 24 * 8000))

/-- A queue may be served (R213, R214, R246): cells already queued leave a disabled queue too. A parked one waits for the slots of its two memory
operations (R228, R248). -/
def eligible (s : State) (i : Nat) : Bool :=
  s.headReady i && !(s.queue i).quarantined && s.shapeOk i && (!(s.queue i).parked || decide (s.tm.ops + 2 ≤ 40960))

/-- Length that the head frame of a queue is charged. -/
def headShape (s : State) (i : Nat) : Nat :=
  match (s.queue i).frames with
  | f :: _ => f.shape
  | [] => 0

/-- The queue that a group would serve next (R214): the highest band, round robin within it; with the queue deficits after the
turns taken. -/
def pickQueue (s : State) (qs : List Nat) (g : Nat) : Option (Nat × Nat × SMap Int) :=
  let band (i : Nat) : Nat := QCfg.band (s.qcfg i)
  match (List.range 8).find? fun b => qs.any fun i => band i == b with
  | none => none
  | some b =>
    let ids := qs.filter fun i => band i == b
    let defs := ids.foldl (fun (m : SMap Int) i => m.set (fun _ => 0) i (s.queue i).deficit) []
    match drr ((s.group g).last.getD b none) ids (fun i => QCfg.quantum (s.qcfg i)) s.headShape defs with
    | (some i, defs) => some (i, b, ids.foldl (fun (m : SMap Int) i => m.set (fun _ => 0) i (defs.get (fun _ => 0) i)) [])
    | (none, _) => none

/-- A group's pick: the group, its queue, the band, the deficits of the band's queues. -/
structure Pick where
  g : Nat
  q : Nat
  band : Nat
  ids : List Nat
  defs : SMap Int
  deriving DecidableEq, Repr

/-- What each enabled group of a conduit would serve. -/
def picks (s : State) (c : Nat) : List Pick :=
  let ready := rising (s.queues.filter s.eligible)
  (rising (s.groupsOf c)).filterMap fun g =>
    let qs := ready.filter fun i => QCfg.group (s.qcfg i) == g
    match s.pickQueue qs g with
    | some (i, b, defs) => some { g := g, q := i, band := b, ids := qs.filter (fun j => QCfg.band (s.qcfg j) == b), defs := defs }
    | none => none

/-- The tier of R215 that is served: its candidates; true for the MIN tier. -/
def tierOf (s : State) (ps : List Pick) : Option (Bool × List Pick) :=
  let full (g : Nat) : Nat := s.groupBurst g * 8000
  let mn := ps.filter fun p => GCfg.minRate (s.gcfg p.g) != 0 && decide ((s.fillGroup p.g).minDebt < full p.g)
  let mx := ps.filter fun p => GCfg.maxRate (s.gcfg p.g) == 0 || decide ((s.fillGroup p.g).maxDebt < full p.g)
  if mn ≠ [] then some (true, mn) else if mx ≠ [] then some (false, mx) else none

/-- The pick of a conduit (R215): the tier, the group's pick, the group deficits of the tier after the turns. -/
def choose (s : State) (c : Nat) : Option (Bool × Pick × List Nat × SMap Int) :=
  match s.tierOf (s.picks c) with
  | none => none
  | some (mn, ps) =>
    let t := s.txCon c
    let dget (g : Nat) : Int := if mn then (s.group g).defMin else (s.group g).defMax
    let ids := ps.map (·.g)
    let defs := ids.foldl (fun (m : SMap Int) g => m.set (fun _ => 0) g (dget g)) []
    let need (g : Nat) : Nat := match ps.find? fun p => p.g == g with
      | some p => s.headShape p.q
      | none => 0
    match drr (if mn then t.lastMin else t.lastMax) ids (fun g => GCfg.quantum (s.gcfg g)) need defs with
    | (some g, defs) =>
      match ps.find? fun p => p.g == g with
      | some p => some (mn, p, ids, defs)
      | none => none
    | (none, _) => none

/-! ## Cells to the members (R211, R219-R222) -/

/-- The members of a conduit that contribute capacity. -/
def activeTx (s : State) (c : Nat) : List (Fin 16) := (membersOf (s.txMembers c)).filter fun k => (s.car k).cap != 0

/-- Length of a member's cell slot, fs: 2,112 bits at its capacity less 3.90625 Mbit/s (R211). -/
def slotTime (cap : Nat) : Nat := 2112 * 10 ^ 14 / (cap * 100000 - 390625)

/-- Start of a member's next free slot, fs (R220). -/
def slotStart (s : State) (k : Fin 16) : Nat := max (s.tm.slot.get (fun _ => 0) k.val) (s.time.toNat * 1000000)

/-- The member whose next free slot begins earliest; ties go to the lowest index (R220). -/
def earliest (s : State) (ks : List (Fin 16)) : Option (Fin 16) :=
  ks.foldl (fun (a : Option (Fin 16)) k => match a with
    | none => some k
    | some m => if s.slotStart k < s.slotStart m then some k else a) none

/-- A cell takes the earliest slot of a conduit. -/
def deal (s : State) (ks : List (Fin 16)) (c : LineCell) : State :=
  match s.earliest ks with
  | none => s
  | some k =>
    let t := s.slotStart k + slotTime (s.car k).cap
    let s := s.updTm fun t' => { t' with slot := t'.slot.set (fun _ => 0) k.val t }
    (s.updCar k fun x => { x with txq := x.txq ++ [c] }).emit (.cell k c)

/-- The cells of a frame, from a cell on (R219, R239). -/
def frameCells (l : List Byte) (label seq : Nat) (first : Bool) (fuel : Nat) : List LineCell :=
  match fuel with
  | 0 => []
  | n + 1 =>
    let b := l.take 256
    let r := l.drop 256
    let h := cellHeader 1 first (r == []) (if r = [] then b.length - 1 else 255) label seq
    { header := h, body := b ++ List.replicate (256 - b.length) 0 } :: (if r = [] then [] else frameCells r label (seq + 1) false n)

/-- A frame as data cells with consecutive sequence numbers (R219, R220). -/
def sendCells (s : State) (c : Nat) (ks : List (Fin 16)) (f : QFrame) (label : Nat) : State :=
  let t := s.txCon c
  let cs := frameCells f.bytes label t.seq.toNat true f.cells
  let s := s.setTxCon c { t with seq := t.seq + BitVec.ofNat 24 cs.length }
  (cs.foldl (fun s x => s.deal ks x) s).countTx c 2 cs.length

/-- A frame goes to the line (R218-R222). -/
def serveFrame (s : State) (c : Nat) (f : QFrame) (label : Nat) : State :=
  let ks := s.activeTx c
  let s := (s.countTx c 0 1).countTx c 1 f.bytes.length
  match ks with
  | [k] =>
    if s.zr k then
      let t := s.slotStart k + (f.bytes.length + 20) * 10000
      let s := s.updTm fun t' => { t' with slot := t'.slot.set (fun _ => 0) k.val t }
      (s.updCar k fun c => { c with client := c.client ++ [f.bytes] }).emit (.clientFrame k f.bytes)
    else s.sendCells c ks f label
  | _ => s.sendCells c ks f label
/-- An idle cell in the earliest slot; in the 800ZR mode there are none (R215, R219, R222). -/
def sendIdle (s : State) (c : Nat) : State :=
  let ks := s.activeTx c
  if ks.any s.zr then s else (s.deal ks (idleCell (s.txCon c).seq.toNat)).countTx c 3 1

/-! ## A decision (R215) -/

/-- Charges of a frame of shaping length l served from a pick (R215, R216). -/
def charge (s : State) (c : Nat) (mn : Bool) (p : Pick) (ids : List Nat) (gdefs : SMap Int) (l : Nat) : State :=
  let s := p.ids.foldl (fun s i => s.setQueue i { s.queue i with deficit := p.defs.get (fun _ => 0) i }) s
  let s := ids.foldl (fun s g =>
    let x := s.group g
    let d := gdefs.get (fun _ => 0) g
    s.setGroup g (if mn then { x with defMin := d } else { x with defMax := d })) s
  let q := s.fillQueue p.q
  let e := s.prof (QCfg.profile (s.qcfg p.q))
  let s := s.setQueue p.q { q with
    deficit := q.deficit - (l : Int)
    debt := if ebits e 0 0 26 = 0 then q.debt else chargeBucket q.debt (ebits e 1 0 24 * 8000) (l * 8000) }
  let g := s.fillGroup p.g
  let b := s.groupBurst p.g * 8000
  let s := s.setGroup p.g { g with
    defMin := if mn then g.defMin - (l : Int) else g.defMin
    defMax := if mn then g.defMax else g.defMax - (l : Int)
    minDebt := chargeBucket g.minDebt b (l * 8000)
    maxDebt := chargeBucket g.maxDebt b (l * 8000)
    last := setAt g.last p.band (some p.q) }
  let t := s.txCon c
  s.setTxCon c (if mn then { t with lastMin := some p.g } else { t with lastMax := some p.g })

/-- The frame that a pick names is sent: statistics, cells, steep (R231, R245). -/
def serve (s : State) (c : Nat) (mn : Bool) (p : Pick) (ids : List Nat) (gdefs : SMap Int) : State :=
  match (s.queue p.q).frames with
  | [] => s
  | f :: _ =>
    let s := if f.bad = 1 then s.ce .bsc 0 else s
    let s := (s.parkedOps p.q).charge c mn p ids gdefs f.shape
    let s := s.popHead p.q
    let q := s.queue p.q
    let s := if s.ddrOn then s.setQueue p.q { q with
        packets := (q.packets + 1) % 2 ^ 64, bytes := (q.bytes + f.bytes.length) % 2 ^ 64
        steepBytes := (q.steepBytes + f.steep) % 2 ^ 64 } else s
    let s := (s.writeCtx p.q).serveFrame c f (GCfg.label (s.gcfg p.g))
    (s.dropHeads p.q 64).pumpAll

/-- One frame decision of a conduit. A queue whose context, links or pages prove uncorrectable is quarantined and a marked frame is
dropped, and the decision is made anew (R229, R252). -/
def decideFrame (s : State) (c fuel : Nat) : State :=
  match fuel with
  | 0 => s
  | n + 1 =>
    match s.choose c with
    | none => s.sendIdle c
    | some (mn, p, ids, gdefs) =>
      let t := s.useQueue p.q true
      if (t.queue p.q).quarantined then t.pumpAll.decideFrame c n
      else
        match (t.queue p.q).frames with
        | f :: _ => if 2 ≤ f.bad then (t.dropMarked p.q).pumpAll.decideFrame c n else t.serve c mn p ids gdefs
        | [] => t

/-- The entries that a decision reads are checked as they are used (R238): the conduit's, and those of its groups and profiles. -/
def useTables (s : State) (c : Nat) : State :=
  let (_, s) := s.useSch 1 (c + 0x1000)
  let s := (s.groupsOf c).foldl (fun s g => (s.useSch 0 g).2) s
  (s.queues.filter fun i => s.conduitOf i == c && (s.queue i).frames != []).foldl
    (fun s i => (s.useSch 2 (QCfg.profile (s.qcfg i))).2) s

/-- How often a decision can begin anew: each time a frame or a queue is lost. -/
def decideFuel (s : State) : Nat := s.tm.qs.foldl (fun a e => a + e.2.frames.length + 1) 1

/-- A frame decision of a conduit (R213, R215, 09 "The SCH page"): none while the page is off or in FAULT, while the conduit is disabled
or without capacity; under HOLD its members send idle cells. -/
def decision (s : State) (c : Nat) : State :=
  let st := s.pst .sch
  if !s.enabled .sch || st == 0 || st == 4 || !s.enabled .qsc || !s.enabled .bsc then s
  else
    let s := s.useTables c
    if !s.txOn c || s.conCap c == 0 then s
    else if s.bit .sch HDR.PAGE_CTRL.HOLD then s.sendIdle c
    else s.decideFrame c s.decideFuel

/-! ## DDR5 (R245, R248, R252) -/

/-- Cells of a queue are marked with what spoilt them, by their place after the head (R252). -/
def markCells (s : State) (i : Nat) (places : List Nat) (why : Nat) : State :=
  let h := (s.queue i).headCells
  places.foldl (fun s n =>
    let q := s.queue i
    s.setQueue i { q with frames := touchCells q.frames 0 (h + n) 1 fun f _ => { f with bad := max f.bad why } }) s

/-- A page read ahead arrives: its cells join the head (R245). Of them those are marked that a lost channel took, that this read or the bursts of the
page make uncorrectable, and the first where the staging area is damaged as it is written (R252, R268, R288, R290, R291). -/
def pageArrives (s : State) (i : Nat) (marked : BitVec 16) : State :=
  let q := s.queue i
  match q.mid with
  | [] => s
  | x :: rest =>
    if q.flying = 0 then s
    else
      let (spoilt, s) := s.readPage x.page
      let s := s.markCells i ((List.range 16).filter fun n => marked.getLsbD n || x.lost.testBit n || spoilt.contains n) 3
      let (sev, s) := s.armed .stp 0
      let s := if sev = 1 then s.ce .stp 0 else if sev = 2 then s.markCells i [0] 4 else s
      let q := s.queue i
      let s := s.setQueue i { q with mid := rest, flying := q.flying - 1, segs := q.segs ++ [(some x.page, 16)] }
      let s := (s.freeSlots 64).countS .bsc 4 4096
      ((if rest = [] then s.appendTail i else s).dropHeads i 64).pumpAll

/-- Operations of page reads in flight. -/
def readOps (s : State) : Nat := s.tm.qs.foldl (fun a e => a + 64 * e.2.flying) 0

end State

/-! ## Meanings -/

/-- SCHEDULE_DECISION (R213-R222). -/
def execScheduleDecision (c : Fin 64) (s : State) : Host.Outcome State Fault Refusal :=
  s.done fun s => s.decision c.val

/-- PAGE_READ_ARRIVAL (R245, R252). -/
def execPageReadArrival (q : Fin 1048576) (marked : BitVec 16) (s : State) : Host.Outcome State Fault Refusal :=
  s.done fun s => s.pageArrives q.val marked

/-- OPS_SLOT_FREE (R248): an operation other than a page read completes and its slot frees; what waited proceeds. The slots of a page read free
with its arrival. -/
def execOpsSlotFree (s : State) : Host.Outcome State Fault Refusal :=
  s.done fun s => if s.tm.ops ≤ s.readOps then s else (s.freeSlots 1).pumpAll

end Sys2Proof.Machine
end

