-- ==== Sys2Proof/Machine/Reasm.lean ====
section
/-! DEFINITION. Reassembly of a receive conduit: order, loss, skew, resynchronisation, rebuilt frames and their host ports
(R219, R221, R223-R227, R252, R261, R264). -/
namespace Sys2Proof.Machine

open Sys2Proof Reg

/-- Header fields of a cell (R219). -/
def cellKind (c : LineCell) : Nat := (c.header.extractLsb' 62 2).toNat
def cellSof (c : LineCell) : Bool := c.header.getLsbD 61
def cellEof (c : LineCell) : Bool := c.header.getLsbD 60
def cellValid (c : LineCell) : Nat := (c.header.extractLsb' 52 8).toNat
def cellLabel (c : LineCell) : Nat := (c.header.extractLsb' 44 8).toNat
def cellSeq (c : LineCell) : Nat := (c.header.extractLsb' 20 24).toNat
def cellOk (c : LineCell) : Bool := hcrc c.header == (c.header.extractLsb' 0 8).toNat

/-- SEQ a lies beyond SEQ b, modulo 2^24 over half the space (R223). -/
def seqAfter (a b : Nat) : Bool := let d := (a + 2 ^ 24 - b) % 2 ^ 24; d != 0 && decide (d < 2 ^ 23)

namespace State

/-- A member contributes: its carrier reports none of LOS, LOF, AIS, CRYPT and CRYPT_STALE (R223). A carrier whose receive engines are
not enabled reports nothing and contributes nothing (DEDUCED from the reset of CONTRIB, log 60). -/
def contributes (s : State) (k : Fin 16) : Bool :=
  s.enabled (.rxe k) && s.enabled (.lfe k) && s.enabled (.fcr k) && s.defects k &&& 0x37 == 0

/-- The contributing members of a receive conduit. -/
def contributors (s : State) (c : Nat) : List (Fin 16) := (membersOf (s.rxMembers c)).filter s.contributes

/-- SCH_LAST takes a cell: kind 1 lost, 2 late, 3 header check. -/
def schLast (s : State) (seq c kind : Nat) : State :=
  ((s.wr .sch SCH.SCH_LAST.SEQ seq).wr .sch SCH.SCH_LAST.CONDUIT c).wr .sch SCH.SCH_LAST.KIND kind

/-- The frame being rebuilt is given up; one already given up is not counted again (R224). -/
def dropPart (s : State) (c : Nat) : State :=
  let r := s.rxCon c
  match r.part with
  | none => s
  | some _ => (s.setRxCon c { r with part := none }).countRx c 2 1

/-- Bytes of the cells of a frame being rebuilt. -/
def partBytes (r : RxCon) : Nat := match r.part with
  | some l => 256 * l.length
  | none => 0

/-- The host port of the frame being rebuilt; 0 while none is known. -/
def partPort (s : State) (c : Nat) : Nat := match (s.rxCon c).part with
  | some (x :: _) => s.portOfLabel c (cellLabel x.cell)
  | _ => 0

/-- The next awaited SEQ is passed over as lost (R223, R224); a reason other than 0 is charged to the buffer section for its
frame (R244). -/
def lose (s : State) (c reason : Nat) : State :=
  let r := s.rxCon c
  match r.expected with
  | none => s
  | some e =>
    let s := if reason ≠ 0 && r.part.isSome then s.dropIn reason (64 * c + s.partPort c) (partBytes r) else s
    let s := s.dropPart c
    let s := s.setRxCon c { s.rxCon c with expected := some ((e + 1) % 2 ^ 24) }
    let s := (s.countRx c 3 1).schLast e c 1
    let s := match membersOf (s.rxMembers c) with
      | k :: _ => s.countS (.csc k) 3 1
      | [] => s
    s.raise .sch 1

/-- The bytes of a frame's cells: the last holds VALID + 1 (R219). -/
def frameBytes (l : List RxCell) : List Byte :=
  l.flatMap fun x => x.cell.body.take (if (cellEof x.cell) then (cellValid x.cell) + 1 else 256)

/-- A frame of a receive conduit is dropped for its host port (R227). -/
def mapDrop (s : State) : State := (s.count .sch 5 1).raise .sch 7

/-- A rebuilt frame is delivered (R227, R252, R261). -/
def deliver (s : State) (c label : Nat) (l : List RxCell) : State :=
  let b := frameBytes l
  let (bad, s) := s.useSch 3 (256 * c + label)
  let e := s.entry 1 5 (256 * c + label)
  let port := s.portOfLabel c label
  let s := l.foldl (fun s x => if x.bad = 1 then s.ce .bsc 1 else if x.bad = 2 then (s.ue .bsc 1).rowUse .bsc 1 c true else s) s
  if l.any fun x => x.bad == 2 then
    ((((s.raise .bsc 3).dropIn 8 port b.length).raise .stp 3)).countRx c 2 1
  else if !s.enabled .bsc then s.dropOff port b.length
  else if bad || ebits e 0 0 1 = 0 || !s.portLive port then s.mapDrop
  else ((s.countRx c 0 1).countRx c 1 b.length).enqueueIn port (ebits e 0 8 3) b

/-- A frame of the client stream of an 800ZR carrier is delivered by its conduit, with LABEL 0 (R221, R222). It enters the ingress part whole, in which
a test of the cell store damages what is written (R261, R266). -/
def clientIn (s : State) (k : Fin 16) (b : List Byte) : State :=
  match s.rxConduit k with
  | none => s
  | some c =>
    let (bad, s) := s.useSch 3 (256 * c)
    let e := s.entry 1 5 (256 * c)
    let port := s.portOfLabel c 0
    if !s.enabled .bsc then s.dropOff port b.length
    else if bad || ebits e 0 0 1 = 0 || !s.portLive port then s.mapDrop
    else if s.inSize < s.inUsed + ceilDiv b.length 256 then s.dropIn 10 port b.length
    else
      let (sev, s) := s.armed .bsc 1
      if sev = 2 then
        (((((s.ue .bsc 1).rowUse .bsc 1 c true).raise .bsc 3).dropIn 8 port b.length).raise .stp 3).countRx c 2 1
      else
        let s := if sev = 1 then s.ce .bsc 1 else s
        ((s.countRx c 0 1).countRx c 1 b.length).enqueueIn port (ebits e 0 8 3) b

/-- The cell of the next SEQ joins the frame being rebuilt (R224). -/
def takeCell (s : State) (c : Nat) (x : RxCell) : State :=
  let r := s.rxCon c
  let s := s.setRxCon c { r with expected := some ((x.seq + 1) % 2 ^ 24) }
  let open_ := match r.part with
    | some (_ :: _) => true
    | _ => false
  if x.bad = 3 then
    let s := if r.part.isSome || (cellSof x.cell) then s.dropIn 10 (s.portOfLabel c (cellLabel x.cell)) (partBytes r + 256) else s
    s.dropPart c
  else if (cellSof x.cell) then
    let s := if open_ then s.dropPart c else s
    if (cellEof x.cell) then (s.setRxCon c { s.rxCon c with part := some [] }).deliver c (cellLabel x.cell) [x]
    else s.setRxCon c { s.rxCon c with part := some [x] }
  else
    match r.part with
    | some (y :: l) =>
      let cells := y :: l ++ [x]
      if (cellEof x.cell) then (s.setRxCon c { s.rxCon c with part := some [] }).deliver c (cellLabel y.cell) cells
      else s.setRxCon c { s.rxCon c with part := some cells }
    | some [] =>
      let s := s.dropPart c
      if (cellEof x.cell) then s.setRxCon c { s.rxCon c with part := some [] } else s
    | none => if (cellEof x.cell) then s.setRxCon c { s.rxCon c with part := some [] } else s

/-- Every contributing member of a conduit has passed a SEQ (R223). -/
def allPast (s : State) (c e : Nat) : Bool :=
  let ks := s.contributors c
  let r := s.rxCon c
  ks != [] && ks.all fun k => match r.marks.getD k.val none with
    | some m => seqAfter m e
    | none => false

/-- The awaited SEQ of a conduit is there, or lost: a member that stops contributing leaves it passed by all others (R223). -/
def flowDue (s : State) (c : Nat) : Bool :=
  match (s.rxCon c).expected with
  | none => false
  | some e => ((s.rxCon c).store.any fun x => x.seq == e) || s.allPast c e

/-- Cells leave the reorder store while the awaited one is there, or is lost because every contributing member has passed it
(R223). -/
def advance (s : State) (c fuel : Nat) : State :=
  match fuel with
  | 0 => s
  | n + 1 =>
    let r := s.rxCon c
    match r.expected with
    | none => s
    | some e =>
      match r.store.find? fun x => x.seq == e with
      | some x => ((s.setRxCon c { r with store := r.store.filter fun y => y.seq != e }).takeCell c x).advance c n
      | none => if s.allPast c e then (s.lose c 0).advance c n else s

/-- Steps that an advance can take: the cells held, and the SEQ values the members have passed. -/
def reach (s : State) (c : Nat) : Nat :=
  let r := s.rxCon c
  match r.expected with
  | none => 0
  | some e => r.store.length + 2 + r.marks.foldl (fun a m => match m with
    | some m => max a (if seqAfter m e then (m + 2 ^ 24 - e) % 2 ^ 24 else 0)
    | none => a) 0

/-- Everything that is due leaves the reorder store. -/
def flow (s : State) (c : Nat) : State := s.advance c (s.reach c)

/-- The receive conduits in which something is due. -/
def dueFlows (s : State) : List Nat := if s.enabled .sch then (s.tm.rx.map (·.1)).filter s.flowDue else []

/-- WINDOW_US of a receive conduit. -/
def window (s : State) (c : Nat) : Nat := ebits (s.entry 1 3 c) 0 24 8

/-- Cells that the reorder store of a receive conduit may hold: REORDER_MAX (R264), and WINDOW_US of the conduit's capacity (R226), which is
taken from the receive maps in force of its members (log 107). -/
def reorderMax (s : State) (c : Nat) : Nat :=
  let cap := (membersOf (s.rxMembers c)).foldl (fun a k => a + (s.car k).rxMap.net) 0
  min (ebits (s.fctEntry 0 c) 3 14 18) (ceilDiv (cap * s.window c) 2112)

/-- The reorder store gives up awaited SEQ values while it holds more than it may (R226, R264). -/
def trim (s : State) (c fuel : Nat) : State :=
  match fuel with
  | 0 => s
  | n + 1 => if s.reorderMax c < rxHeld (s.rxCon c) && (s.rxCon c).expected.isSome then ((s.lose c 12).flow c).trim c n else s

/-- The receiver has no expected SEQ: it collects cells from now on (R225). -/
def collect (s : State) (c : Nat) : State :=
  let s := match (s.rxCon c).part with
    | some (_ :: _) => s.dropPart c
    | _ => s
  let r := s.rxCon c
  s.setRxCon c { r with expected := none, store := [], marks := List.replicate 16 none, part := some [], since := some s.time.toNat
                        hist := [] }

/-- Marks follow: a member that does not contribute has none (R223). -/
def mark (s : State) (c : Nat) (k : Fin 16) (seq : Nat) : State :=
  let r := s.rxCon c
  let up := match r.marks.getD k.val none with
    | some m => if seqAfter seq m then seq else m
    | none => seq
  let ms := (setAt r.marks k.val (some up)).mapIdx fun i m => if s.contributes (Fin.ofNat 16 i) then m else none
  s.setRxCon c { r with marks := ms }

/-- Skew shown by a cell, data or idle, late or not, that arrives after cells of later SEQ on other members (R226), ns. -/
def skewOf (s : State) (c : Nat) (k : Fin 16) (seq : Nat) : Nat :=
  (s.rxCon c).hist.foldl (fun a x => if x.1 ≠ k.val && seqAfter x.2.1 seq then max a (s.time.toNat - x.2.2) else a) 0

/-- A cell that arrives is measured (R226). What every contributing member has passed cannot show a skew any more. -/
def measure (s : State) (c : Nat) (k : Fin 16) (seq : Nat) : State :=
  let d := s.skewOf c k seq
  let s := s.raiseIf (decide (s.window c * 1000 < d)) .sch 3
  let r := s.rxCon c
  let ks := s.contributors c
  let due (x : Nat × Nat × Nat) : Bool := ks.any fun j => j.val != x.1 && match r.marks.getD j.val none with
    | some m => seqAfter x.2.1 m
    | none => true
  s.setRxCon c { r with skewNow := max r.skewNow d, hist := (r.hist ++ [(k.val, seq, s.time.toNat)]).filter due }

/-- A data cell enters the reorder store of its conduit (R223, R225, R261, R264). -/
def store (s : State) (c : Nat) (cell : LineCell) : State :=
  let r := s.rxCon c
  let late := match r.expected with
    | some e => seqAfter e (cellSeq cell)
    | none => false
  if late || r.store.any fun x => x.seq == (cellSeq cell) then
    (((s.count .sch 2 1).countRx c 3 1).schLast (cellSeq cell) c 2).raise .sch 2
  else
    let (sev, s) := s.armed .bsc 1
    let bad := if s.inSize ≤ s.inUsed then 3 else sev
    let x : RxCell := { seq := (cellSeq cell), cell := cell, arrived := s.time.toNat, bad := bad }
    if r.expected.isNone && decide (s.reorderMax c ≤ rxHeld r) then s
    else s.setRxCon c { r with store := r.store ++ [x] }

/-- The reassembly state of a conduit is used (R238): an uncorrectable word makes the conduit resynchronise. -/
def useReasm (s : State) (c : Nat) : State :=
  let (bad, s) := s.useOnce .sch 4 c 6 (some 7)
  let s := if bad then { s with damage := s.damage.set (fun _ => 0) (damageKey .sch 4 c) 0 } else s
  if bad then s.collect c else s

/-- A cell of a member (R221, R223). -/
def memberCell (s : State) (c : Nat) (k : Fin 16) (cell : LineCell) : State :=
  let s := s.useReasm c
  let s := if cellKind cell = 1 then s.countS (.csc k) 2 1 else s
  let s := s.useFct 0 c
  let s := (s.mark c k (cellSeq cell)).measure c k (cellSeq cell)
  let s := if cellKind cell = 1 then s.store c cell else s
  let s := s.flow c
  let s := s.trim c (s.reach c)
  s.protect .sch 4 c

/-- A line cell that a receiver extracts (R219, R221, R223): none without codeword lock or frame alignment (R151, R218), and none in the
800ZR mode. -/
def cellIn (s : State) (k : Fin 16) (cell : LineCell) : State :=
  if !s.enabled .sch || !s.enabled (.fcr k) || !s.enabled (.rxe k) || !s.ldUp k || s.zr k || !s.inFrame k
      || !s.bit (.lfe k) LFE.FEC_STATUS.CW_LOCK then s
  else
    let con := s.rxConduit k
    let s := match con with
      | some c => (s.useSch 1 (c + 0x2000)).2
      | none => s
    let con := s.rxConduit k
    if !(cellOk cell) then (s.count .sch 0 1).schLast (cellSeq cell) (con.getD 0) 3
    else if 2 ≤ (cellKind cell) then s.count .sch 1 1
    else match con with
      | some c => s.memberCell c k cell
      | none => if cellKind cell = 1 then (s.count .sch 4 1).raise .sch 5 else s

/-- Awaited SEQ values up to one that timed out are passed over (R223): those before it have waited as long. -/
def passTo (s : State) (c seq fuel : Nat) : State :=
  match fuel with
  | 0 => s
  | n + 1 =>
    match (s.rxCon c).expected with
    | none => s
    | some e => if e = seq || seqAfter seq e then ((s.lose c 0).flow c).passTo c seq n else s

/-- A SEQ has been awaited for WINDOW_US since a later one arrived (R223). -/
def timeout (s : State) (c seq : Nat) : State :=
  let r := s.rxCon c
  match r.expected with
  | none => s
  | some e =>
    let awaited := (e == seq || seqAfter seq e) && !(r.store.any fun x => x.seq == seq)
    let later := (r.store.any fun x => seqAfter x.seq seq) || r.marks.any fun m => match m with
      | some m => seqAfter m seq
      | none => false
    if awaited && later then s.passTo c seq ((seq + 2 ^ 24 - e) % 2 ^ 24 + 1) else s

/-- The lowest SEQ of the cells collected (R225). -/
def lowest (l : List RxCell) : Option Nat :=
  l.foldl (fun (a : Option Nat) x => match a with
    | none => some x.seq
    | some m => if seqAfter m x.seq then some x.seq else a) none

/-- The conduit adopts the lowest SEQ that it has collected (R225). -/
def resync (s : State) (c : Nat) : State :=
  let r := s.rxCon c
  if !s.rxOn c || r.expected.isSome then s
  else match lowest r.store with
    | none => s
    | some e =>
      let s := s.setRxCon c { r with expected := some e, since := none, part := some [] }
      ((s.count .sch 3 1).raise .sch 4).flow c

end State

/-! ## Meanings -/

/-- RX_FRAME_BOUNDARY (R112, R155, R157, R169-R175, R193): the frame, and the client frames of an 800ZR carrier. -/
def execRxFrameBoundary (k : Fin 16) (f : RxFrame) (s : State) : Host.Outcome State Fault Refusal :=
  s.done fun s =>
    let l := s.zrClient k f
    l.foldl (fun s b => if s.enabled .sch then s.clientIn k b else s) (s.rxFrame k f)

/-- LINE_CELL_RECEIVED (R218-R226, R264). -/
def execLineCellReceived (k : Fin 16) (cell : LineCell) (s : State) : Host.Outcome State Fault Refusal :=
  s.done fun s => s.cellIn k cell

/-- REORDER_TIMEOUT (R223). -/
def execReorderTimeout (c : Fin 64) (seq : BitVec 24) (s : State) : Host.Outcome State Fault Refusal :=
  s.done fun s => s.timeout c.val seq.toNat

/-- REASSEMBLY_RESYNC (R225). -/
def execReassemblyResync (c : Fin 64) (s : State) : Host.Outcome State Fault Refusal :=
  s.done fun s => s.resync c.val

/-- SKEW_REPORT (R226): the largest skew of the second. -/
def execSkewReport (c : Fin 64) (s : State) : Host.Outcome State Fault Refusal :=
  s.done fun s =>
    let r := s.rxCon c.val
    s.setRxCon c.val { r with skew := min 255 (r.skewNow / 1000), skewNow := 0 }

/-- REASSEMBLY_SYNC_LOST (R225): no member has contributed for more than WINDOW_US. -/
def execReassemblySyncLost (c : Fin 64) (s : State) : Host.Outcome State Fault Refusal :=
  s.done fun s => if s.rxOn c.val && s.contributors c.val == [] && (s.rxCon c.val).expected.isSome then s.collect c.val else s

end Sys2Proof.Machine
end

