-- ==== Sys2Proof/Machine/Caddy.lean ====
section
/-! DEFINITION. The caddy: tiles and reserve cells (R425, R426), laser procedures (R428-R431), firmware banks (R432, R433), the ledger
and its projections (R435-R437). -/
namespace Sys2Proof.Machine

open Sys2Proof Reg

/-- A tile of the kind stands in the engine of the page (R426). -/
def tileFits (p : Page) (t : TileKind) : Bool :=
  match p, t with
  | .txo _, .txoSubcarrier _ => true
  | .txo _, .txoDac => true
  | .rxe _, .rxeAdc => true
  | .rxe _, .rxeSubcarrier _ => true
  | .lfe _, .ldpcGroup => true
  | .lfe _, .encoder => true
  | .fcr _, .cipher => true
  | .bsc, .bufferBank _ => true
  | .qsc, .cacheBank => true
  | .sch, .schSlice => true
  | .hlg _ _, .laneSlice => true
  | .mch _, .ddrSlice => true
  | _, _ => false

/-- The line of least squares through points (hour, value): the hour at which it reaches 130, as a fraction's floor; none when it does
not rise or there are no two hours (R436). -/
def trendHour (l : List (Nat × Nat)) : Option Int :=
  let n : Int := l.length
  let sx : Int := l.foldl (fun (a : Int) p => a + p.1) 0
  let sy : Int := l.foldl (fun (a : Int) p => a + p.2) 0
  let sxx : Int := l.foldl (fun (a : Int) p => a + p.1 * p.1) 0
  let sxy : Int := l.foldl (fun (a : Int) p => a + p.1 * p.2) 0
  let num := n * sxy - sx * sy
  let den := n * sxx - sx * sx
  if den ≤ 0 || num ≤ 0 then none else some ((130 * n * den - sy * den + num * sx) / (n * num))

/-- The n-th smallest of some numbers, counted from 0. -/
def nthLeast (l : List Nat) (n : Nat) : Option Nat :=
  l.find? fun x => decide ((l.countP fun y => decide (y < x)) ≤ n) && decide (n < l.countP fun y => decide (y ≤ x))

namespace State

/-! ## Tiles (R425, R426) -/

/-- A tile's check finds a working cell faulty or worn: the reserve cell takes its place (R425). -/
def tileFound (s : State) (p : Page) (t : TileKind) : State :=
  let n := s.pst p
  if !tileFits p t || n = 0 || n = 4 then s else s.useReserve p 1

/-- What an engine's lost tiles take from it (R426), from when they are lost and at each start of it: subcarriers sent as zero or without SNR,
the cipher, banks of the buffer and of the context cache. -/
def applyLosses (s : State) (p : Page) : State :=
  let l := s.lostTiles p
  let subs (f : Fin 8 → TileKind) : Nat := (List.finRange 8).foldl (fun a i => if l.contains (f i) then a + 2 ^ i.val else a) 0
  if l = [] then s
  else match p with
    | .txo k => s.updCar k fun c => { c with txDead := subs .txoSubcarrier }
    | .rxe k =>
      let dead := subs .rxeSubcarrier
      let s := s.updCar k fun c => { c with rxDead := dead }
      let s := (List.range 8).foldl (fun s i =>
        if dead.testBit i then s.wr p (if i < 4 then ⟨0x03C, 8 * i, 8⟩ else ⟨0x040, 8 * (i - 4), 8⟩) 0 else s) s
      let s := s.wr p RXE.RX_STATUS.SNR_VALID (s.rd p RXE.RX_STATUS.SNR_VALID &&& (0xFF ^^^ dead))
      if s.broken p then s.rxRestart k false else s
    | .bsc => (s.updTm fun m => { m with inBanks := l.count (.bufferBank true), egBanks := l.count (.bufferBank false) }).retm
    | .qsc => (s.updTm fun m => { m with ctxBanks := l.count .cacheBank }).retm
    | _ => s

/-- A further cell of a tile is lost (R426): the engine reads FAULT or DEGRADED, and what the tile served is gone for good. -/
def cellLoss (s : State) (p : Page) (t : TileKind) : State :=
  if !tileFits p t then s
  else match p with
    | .mch c => (s.channelLost c).rememory
    | p =>
      let s := (s.updCad fun c => { c with losses := c.losses ++ [(p.base, t)] }).applyLosses p
      let n := s.pst p
      let m := s.runState p
      if m = 4 || n = 2 || n = 7 then s.setPst p m else s

/-! ## Laser commands (R428, R430, R431, R439) -/

/-- A write of LASER_CMD or CAD_CFG is refused or accepted. -/
def cadRej (s : State) (b : Bool) : State := s.wb .cad CAD.LASER_STATUS.CFG_REJECT b

/-- A write to LASER_CMD: two of SWAP, RETURN and ABORT together are ignored, MODE 3 is refused. -/
def effLaserCmd (v : Word) (s : State) : State :=
  let k : Fin 16 := Fin.ofNat 16 (CAD.LASER_CMD.CARRIER.get v)
  let mode := CAD.LASER_CMD.MODE.get v
  let ask (ret : Bool) : State :=
    if mode = 3 then s.cadRej true
    else (s.cadRej false).askLaser { k := k, mode := mode, ret := ret, fault := false, auto := false }
  match CAD.LASER_CMD.SWAP.get v, CAD.LASER_CMD.RETURN.get v, CAD.LASER_CMD.ABORT.get v with
  | 1, 0, 0 => ask false
  | 0, 1, 0 => ask true
  | 0, 0, 1 =>
    let s := s.cadRej false
    if s.cad.cur.isSome then s.updCad fun c => { c with touched := true } else s
  | _, _, _ => s

/-- A write to CAD_CFG. -/
def effCadCfg (v : Word) (s : State) : State :=
  let w := CAD.CAD_CFG.WARN_DAYS.get v
  if w = 0 || w = 65535 || CAD.CAD_CFG.FAR_WAIT.get v = 0 then s.cadRej true
  else ((s.cadRej false).plainWrite .cad 0x038 v).rewarn

/-- A laser that warms for a swap has not locked within 60 s (R440): the request ends, the procedure fails and gives back what it had
drained. -/
def lockTimeout (s : State) (k : Fin 16) : State :=
  let p := Page.txo k
  if !s.bit p TXO.TX_STATUS.SPARE_PENDING then s
  else
    let s := s.selectLaser k (s.bit p TXO.TX_STATUS.SPARE_IN_USE)
    match s.cad.cur with
    | some r =>
      if r.k = k then
        let s := if s.bit .cad CAD.LASER_STATUS.DRAINED_SWAP && !s.cad.touched then
            (s.wb (.csc k) CSC.CSC_CTRL.FORCE_RDI false).wb (.lfe k) HDR.PAGE_CTRL.DRAIN false
          else s
        s.procEnd false
      else s.raise .cad 5
    | none => s.raise .cad 5

/-! ## Firmware banks (R432, R433, R439) -/

/-- The bank that is not running; the one that is not preferred while none runs. -/
def loadBank (s : State) : Bool := match s.cad.running with
  | some b => !b
  | none => !s.cad.preferred

/-- STATE of the load, and the fields of FW_STATUS that follow the banks. -/
def fwState (s : State) (n : Nat) : State :=
  let s := s.wr .cad CAD.FW_STATUS.STATE n
  let o := if s.loadBank then s.cad.bank1 else s.cad.bank0
  let s := s.wr .cad CAD.FW_STATUS.VALID (s.cad.bank0.valid.toNat + 2 * s.cad.bank1.valid.toNat)
  s.wr .cad CAD.FW_STATUS.OTHER_VERSION (if o.valid then o.version.toNat / 0x10000 else 0)

/-- The bank that an image is loaded into takes a content. -/
def setLoad (s : State) (b : FwBank) : State :=
  let i := s.loadBank
  s.updCad fun c => if i then { c with bank1 := b } else { c with bank0 := b }

/-- A write of FW_CTRL or FW_PORT is refused or accepted. -/
def fwRej (s : State) (b : Bool) : State := s.wb .cad CAD.FW_STATUS.CFG_REJECT b

/-- A laser procedure under way, or a migration that firmware policy started, forbids activation (R433). -/
def fwBusy (s : State) : Bool :=
  let p := s.rd .cad CAD.LASER_STATUS.PROC_STATE
  let m := s.rd .msc MSC.MIG_STATUS.STATE
  (decide (1 ≤ p) && decide (p ≤ 4)) || ((m == 1 || m == 2) && s.mem.autoMig)

/-- A write to FW_CTRL (R432, R433): two of BEGIN, ACTIVATE and ABORT together are ignored. -/
def effFwCtrl (v : Word) (s : State) : State :=
  let st := s.rd .cad CAD.FW_STATUS.STATE
  match CAD.FW_CTRL.BEGIN.get v, CAD.FW_CTRL.ACTIVATE.get v, CAD.FW_CTRL.ABORT.get v with
  | 1, 0, 0 =>
    if st = 4 then s.fwRej true
    else (((s.fwRej false).setLoad { valid := false, version := 0 }).updCad fun c =>
      { c with fwImg := [], erasing := true }).fwState 0
  | 0, 1, 0 =>
    if st ≠ 3 then s.fwRej true
    else if s.fwBusy then (s.fwRej true).fwState 6
    else
      let b := s.loadBank
      let s := ((s.fwRej false).updCad fun c => { c with preferred := b }).wb .cad CAD.FW_STATUS.PREFERRED b
      (s.fwState 4).warmReset 3
  | 0, 0, 1 =>
    if st = 4 then s.fwRej true
    else
      let s := s.fwRej false
      let s := if s.cad.erasing || st = 1 || st = 2 || st = 3 || st = 6 then s.setLoad { valid := false, version := 0 } else s
      (s.updCad fun c => { c with fwImg := [], erasing := false }).fwState 0
  | _, _, _ => s

/-- A write to FW_PORT (R432): a dword, its most significant byte first. The header's first word is taken as the image's length in
bytes and its second as the version. -/
def effFwPort (v : Word) (s : State) : State :=
  if s.rd .cad CAD.FW_STATUS.STATE ≠ 1 then s.fwRej true
  else
    let img := s.cad.fwImg ++ bytesBE 4 v.toNat
    let len := natBE (img.take 4)
    let s := (s.fwRej false).updCad fun c => { c with fwImg := img }
    if 67108864 < len then (s.fwState 5).raise .cad 7
    else if 8 ≤ img.length && decide (len ≤ img.length) then s.fwState 2 else s

/-! ## Ledger and projections (R435-R437) -/

/-- Hours of the window (R436). -/
def windowHours (s : State) : Nat := min 4380 s.cad.history

/-- Spares of a pool consumed in the window. -/
def consumed (s : State) (p : Nat) : Nat :=
  let now := s.rd .cad CAD.LEDGER_TIME.POWERED_HOURS
  s.cad.ledger.countP fun e => e.pool == p && decide (now < e.hour + s.windowHours)

/-- EXHAUST_DAYS of a pool from what was consumed (R436). -/
def exhaustDays (s : State) (p : Nat) : Nat :=
  let r := s.poolRemain p
  let c := s.consumed p
  if r = 0 then 0
  else if c = 0 || s.cad.history < 720 then 0xFFFF
  else min 65534 (r * s.windowHours / (c * 24))

/-- Samples of the laser that a carrier has in use, in the window: hour and BIAS_PCT. -/
def biasOf (s : State) (k : Fin 16) : List (Nat × Nat) :=
  let now := s.rd .cad CAD.LEDGER_TIME.POWERED_HOURS
  let spare := (s.bit (.txo k) TXO.TX_STATUS.SPARE_IN_USE).toNat
  s.cad.bias.filterMap fun e =>
    let v := e.2.getD k.val 0
    if now < e.1 + s.windowHours && v / 4096 == spare && v % 4096 != 0 then some (e.1, v % 4096) else none

/-- The day on which a laser in use is projected to reach 130 % (R436). -/
def laserDay (s : State) (k : Fin 16) : Option Nat :=
  if s.cad.history < 720 then none
  else match trendHour (s.biasOf k) with
    | some h => some (min 65534 ((h - (s.rd .cad CAD.LEDGER_TIME.POWERED_HOURS : Int)).toNat / 24))
    | none => none

/-- The earliest day on which the demand of a group exceeds its free spare (R436). -/
def groupDay (s : State) (g : Nat) : Nat :=
  let days := (carriers.filter fun k => k.val / 4 == g).filterMap s.laserDay
  (nthLeast days ((s.rd .cad CAD.LASER_STATUS.SPARE_FREE).testBit g).toNat).getD 0xFFFF

/-- The projections of every pool (R436). -/
def project (s : State) : State :=
  let days := (List.range 16).map fun p =>
    let d := s.exhaustDays p
    if p = 2 then (List.range 4).foldl (fun a g => min a (s.groupDay g)) d else d
  let win := (List.range 16).map fun p => min 65535 (s.consumed p)
  (s.updCad fun c => { c with days := days, window := win }).rewarn

/-- Damaged words of the hub's copy of the ledger are found as firmware goes through it, and reloaded from flash (17 "The CAD
page"). -/
def ledgerCheck (s : State) : State :=
  let ks := (s.damage.filter fun e => e.1 / 0x100000000 == Page.cad.base * 0x10).map (·.1)
  ks.foldl (fun s k =>
    let (bad, s) := s.useManaged .cad 0 (k % 0x100000000)
    if bad then ({ s with damage := s.damage.set (fun _ => 0) k 0 }).raise .cad 9 else s) s

/-- Bias of the lasers in use, a sample of each: BIAS_PCT, and 4,096 more for a spare. -/
def biasSample (s : State) : List Nat :=
  carriers.map fun k =>
    if s.rd (.txo k) TXO.LASER_STATUS.TUNE_STATE = 0 then 0
    else s.rd (.txo k) TXO.LASER_BIAS.BIAS_PCT + 4096 * (s.bit (.txo k) TXO.TX_STATUS.SPARE_IN_USE).toNat

/-- A powered hour (R435, R436): the field island counts it while a feed is VALID; firmware writes the ledger, samples the lasers once
a day and projects. -/
def hour (s : State) : State :=
  let f := s.field.pub
  if !s.start.fieldUp || !(f.feedA.st == .valid || f.feedB.st == .valid) then s
  else let s := s.voteWord 3; match vote s.field.caddy with
    | none => s
    | some w =>
      let h := w % 2 ^ 32 + 1
      let run := s.hubAlive && s.host.fwUp
      let s := if s.hubAlive && s.hubEnd.up then s.wr .cad CAD.LEDGER_TIME.POWERED_HOURS h else s
      let w' := if run && s.hubEnd.up then s.caddyWord h else w / 2 ^ 32 * 2 ^ 32 + h % 2 ^ 32
      let s := s.setCaddy w'
      if !run then s
      else
        let s := s.updCad fun c => { c with
          history := c.history + 1, bias := if h % 24 = 0 then (h, s.biasSample) :: c.bias else c.bias }
        s.ledgerCheck.project

end State

/-! ## Meanings -/

/-- TILE_CHECK (R425): what the checks of a tile show; found when 2 of 3 disagree or a cell has crossed its wear limit. -/
def execTileCheck (p : Page) (t : TileKind) (found : Bool) (s : State) : Host.Outcome State Fault Refusal :=
  s.done fun s => if found then s.tileFound p t else s

/-- TILE_REPAIR_DONE (R425): the engine reads READY or DEGRADED. -/
def execTileRepairDone (p : Page) (s : State) : Host.Outcome State Fault Refusal :=
  s.done fun s => if s.pst p = 7 then s.setPst p (s.runState p) else s

/-- TILE_CELL_LOSS (R426). -/
def execTileCellLoss (p : Page) (t : TileKind) (s : State) : Host.Outcome State Fault Refusal :=
  s.done fun s => if s.pst p = 0 then s else s.cellLoss p t

/-- LASER_CMD_SWAP (R428). -/
def execLaserCmdSwap (v : Word) (s : State) : Host.Outcome State Fault Refusal :=
  let v := CAD.LASER_CMD.SWAP.put v 1
  s.done fun s => s.gateReg .cad 0x03C v (State.effLaserCmd v)

/-- LASER_CMD_RETURN (R431). -/
def execLaserCmdReturn (v : Word) (s : State) : Host.Outcome State Fault Refusal :=
  let v := CAD.LASER_CMD.RETURN.put v 1
  s.done fun s => s.gateReg .cad 0x03C v (State.effLaserCmd v)

/-- LASER_CMD_ABORT (R431). -/
def execLaserCmdAbort (v : Word) (s : State) : Host.Outcome State Fault Refusal :=
  let v := CAD.LASER_CMD.ABORT.put v 1
  s.done fun s => s.gateReg .cad 0x03C v (State.effLaserCmd v)

/-- FAR_WAIT_EXPIRY (R429). -/
def execFarWaitExpiry (s : State) : Host.Outcome State Fault Refusal :=
  s.done fun s => if s.cad.cur.isSome then s.updCad fun c => { c with farPassed := true } else s

/-- SPARE_LASER_LOCK_TIMEOUT (R440). -/
def execSpareLaserLockTimeout (k : Fin 16) (s : State) : Host.Outcome State Fault Refusal :=
  s.done fun s => s.lockTimeout k

/-- FW_BEGIN (R432). -/
def execFwBegin (s : State) : Host.Outcome State Fault Refusal :=
  s.done fun s => s.gateReg .cad 0x044 1 (State.effFwCtrl 1)

/-- FW_ERASE_DONE (R432). -/
def execFwEraseDone (s : State) : Host.Outcome State Fault Refusal :=
  s.done fun s => if s.cad.erasing then (s.updCad fun c => { c with erasing := false }).fwState 1 else s

/-- FW_PORT_WRITE (R432). -/
def execFwPortWrite (v : Word) (s : State) : Host.Outcome State Fault Refusal :=
  s.done fun s => s.gateReg .cad 0x048 v (State.effFwPort v)

/-- FW_VERIFY_DONE (R432). -/
def execFwVerifyDone (ok : Bool) (s : State) : Host.Outcome State Fault Refusal :=
  s.done fun s =>
    if s.rd .cad CAD.FW_STATUS.STATE ≠ 2 then s
    else if ok && Crypto.signed (s.cad.fwImg.take (natBE (s.cad.fwImg.take 4))) then
      ((s.setLoad { valid := true, version := BitVec.ofNat 32 (natBE ((s.cad.fwImg.drop 4).take 4)) }).fwState 3).raise .cad 6
    else (s.fwState 5).raise .cad 7

/-- FW_ACTIVATE (R433). -/
def execFwActivate (s : State) : Host.Outcome State Fault Refusal :=
  s.done fun s => s.gateReg .cad 0x044 2 (State.effFwCtrl 2)

/-- FW_ABORT (R439). -/
def execFwAbort (s : State) : Host.Outcome State Fault Refusal :=
  s.done fun s => s.gateReg .cad 0x044 4 (State.effFwCtrl 4)

/-- POWERED_HOUR (R435-R437). -/
def execPoweredHour (s : State) : Host.Outcome State Fault Refusal := s.done fun s => s.hour

end Sys2Proof.Machine
end

