-- ==== Sys2Proof/Machine/Tables.lean ====
section
/-! DEFINITION. The indirect tables of QSC, SCH and FCT (R209, R210, R212, R216, R229-R233, R253, R269) and the registers of the traffic
manager's pages (R265, R267, R269). -/
namespace Sys2Proof.Machine

open Sys2Proof Reg

namespace State

/-! ## Entries as they are read (R231, R233, R269) -/

/-- Four words as an entry. -/
def words4 (d0 d1 d2 d3 : Nat) : BitVec 128 :=
  BitVec.ofNat 128 (d0 % 2 ^ 32 + d1 % 2 ^ 32 * 2 ^ 32 + d2 % 2 ^ 32 * 2 ^ 64 + d3 % 2 ^ 32 * 2 ^ 96)

/-- State of a queue (QSC table 1): a quarantined one first, then a disabled one. -/
def queueState (s : State) (i : Nat) : Nat :=
  let q := s.queue i
  if q.quarantined then 4 else if !QCfg.enable (s.qcfg i) then 0 else if q.frames = [] then 1 else if q.steep then 3 else 2

def queueView (s : State) (i : Nat) : BitVec 128 :=
  let q := s.fillQueue i
  let tok : Int := (((ebits (s.prof (QCfg.profile (s.qcfg i))) 1 0 24 * 8000 : Nat) : Int) - (q.debt : Int)) / 8000
  words4 (q.depth + s.queueState i * 2 ^ 24 + q.parked.toNat * 2 ^ 27) (twos 32 q.deficit) (twos 32 tok) q.pages.length

/-- Statistics of a queue (R231): packets, bytes, drops, steep bytes. -/
def statView (s : State) (i : Nat) : BitVec 256 :=
  let q := s.queue i
  BitVec.ofNat 256 (q.packets + q.bytes * 2 ^ 64 + q.drops * 2 ^ 128 + q.steepBytes * 2 ^ 192)

/-- A statistics entry is poisoned (R281, R290). -/
def statPoisoned (s : State) (i : Nat) : Bool :=
  s.mem.statBad.contains i || (s.mem.statSlots.contains (i / 2 % 16) && !s.mem.statFixed.contains i)

/-- Group state: the deficit shown is that of the MAX tier. -/
def groupView (s : State) (g : Nat) : BitVec 128 := words4 (s.groupCells g) (twos 32 (s.group g).defMax) 0 0

/-- Pause state of a conduit: T in 10 us units. -/
def pauseView (s : State) (c : Nat) : BitVec 128 :=
  let p := s.causes c
  let cap := min (s.conCap c) (s.conCapNext c)
  let cells := s.conCells c
  let t := if cells = 0 then 0 else if cap = 0 then 2 ^ 32 - 1 else min (2 ^ 32 - 1) (cells * 2048 / (10 * cap))
  words4 ((s.pauseOf c).on.toNat + 2 * ConPauseCause p) t cells 0

/-- State of a pause group: asserted, and the lowest conduit that asserts it. -/
def pauseGroupView (s : State) (g : Nat) : BitVec 128 :=
  match (List.range 64).find? fun c => (s.pauseOf c).on && (s.groupsOf c).any fun x => GCfg.pauseGroup (s.gcfg x) == g with
  | some c => words4 (1 + 256 * c) 0 0 0
  | none => 0

/-- Flow control of a host port, with its host pause and its held cells. -/
def portFlowView (s : State) (p : Nat) : BitVec 128 :=
  words4 (ebits (s.fctEntry 3 p) 0 0 32) (s.hostPausedBits p + 256 * s.portCells p) 0 0

/-! ## Writes (R210, R212, R216, R229, R233, R253, R269): entries narrower than a 64-bit word go in by a merge (R278; log 127) -/

/-- A configuration write that is accepted; the queue's context is rebuilt when it was quarantined (R229). -/
def writeQueue (s : State) (i : Nat) (e : BitVec 128) : Nat × State :=
  let old := s.qcfg i
  let q := s.queue i
  let quantum := QCfg.quantum e
  if quantum < 64 then (4, s)
  else if (QCfg.group e ≠ QCfg.group old || QCfg.band e ≠ QCfg.band old) && (QCfg.enable old || q.depth ≠ 0) then (5, s)
  else
    let s := if QCfg.profile e = QCfg.profile old then s else s.reshape i (s.prof (QCfg.profile e))
    let s := s.useQueue i true
    let q := s.queue i
    let s := s.setEntry 0 0 i (words4 (ebits e 0 0 32) quantum (QCfg.maxDepth e) (QCfg.steepThresh e))
    let s := if q.quarantined then
        let s := (s.healCtx i).setQueue i { q with quarantined := false, deficit := 0, debt := 0, tokTime := s.time.toNat, parked := false,
                                                   ctxBad := 0, linkBad := 0, chainBad := 0 }
        if s.ddrOn && s.tm.cache.contains i then s.storeCtx i false else s
      else s
    (0, (s.writeCtx i).pumpAll)

/-- The host port table (R208). -/
def writeHostPort (s : State) (i : Nat) (e : BitVec 128) : Nat × State :=
  if ebits e 0 22 2 = 3 then (4, s) else (0, (s.setEntry 0 3 i (words4 (ebits e 0 0 24) 0 0 0)).mergeEntry .qsc 1 i 5 (some 24))

/-- The group table (R212, R216). -/
def writeGroup (s : State) (g : Nat) (e : BitVec 128) : Nat × State :=
  let old := s.gcfg g
  let mn := GCfg.minRate e
  let mx := GCfg.maxRate e
  if 51233600 < mn || 51233600 < mx || (mx ≠ 0 && mx < mn) || GCfg.quantum e < 64 || GCfg.burst e = 0 then (4, s)
  else if GCfg.conduit e ≠ GCfg.conduit old && (GCfg.enable old || s.groupCells g ≠ 0) then (5, s)
  else
    let x := s.fillGroup g
    let b := s.groupBurst g * 8000
    let n := GCfg.burst e * 1024 * 8000
    let s := s.setGroup g { x with minDebt := rebase x.minDebt (GCfg.minRate old) b n, maxDebt := rebase x.maxDebt (GCfg.maxRate old) b n }
    (0, (s.setEntry 1 0 g (words4 (ebits e 0 0 32 &&& 0xFF0FFF7F) mn mx (ebits e 3 0 32))).protect .sch 0 g)

/-- The carriers whose membership two entries give differently. -/
def moved (a b : Nat) : List (Fin 16) := membersOf (a ^^^ b)

/-- A carrier is or will be in the 800ZR mode (R210). -/
def zrCarrier (s : State) (k : Fin 16) : Bool := s.zr k || s.bit (.lfe k) LFE.FEC_CTRL.ZR_MODE

/-- Membership that R210 forbids: a carrier in another conduit of the direction, or an 800ZR carrier with company. -/
def membersRefused (s : State) (table c m : Nat) : Bool :=
  ((List.range 64).any fun x => x != c && ebits (s.entry 1 table x) 0 0 16 &&& m != 0)
    || (decide (1 < popCount 16 m) && (membersOf m).any s.zrCarrier)

/-- A transmit conduit (R210, R212, R220): SEQ starts at 0 when it is enabled. -/
def writeTx (s : State) (c : Nat) (e : BitVec 128) : Nat × State :=
  let old := s.entry 1 2 c
  let m := ebits e 0 0 16
  let was := ebits old 0 16 1 == 1
  if s.membersRefused 2 c m || (was && (moved m (ebits old 0 0 16)).any fun k => s.pst (.lfe k) != 6) then (5, s)
  else
    let on := ebits e 0 16 1
    let s := if on = 1 && !was then s.setTxCon c { s.txCon c with seq := 0 } else s
    (0, (s.setEntry 1 2 c (words4 (m + on * 0x10000) 0 0 0)).mergeEntry .sch 1 (c + 0x1000) 6 (some 7))

/-- A receive conduit (R210, R212, R223, R225). Whether the far end has drained a carrier is a free value: the spec gives the module no
sign of it. -/
def writeRx (s : State) (c : Nat) (e : BitVec 128) : Nat × State :=
  let old := s.entry 1 3 c
  let m := ebits e 0 0 16
  let w := ebits e 0 24 8
  let was := ebits old 0 16 1 == 1
  let busy := (moved m (ebits old 0 0 16)).any fun k =>
    let st := s.rd (.csc k) CSC.CSC_STATUS.STATE
    st == 5 || st == 6
  if w = 0 || 50 < w then (4, s)
  else if s.membersRefused 3 c m then (5, s)
  else
    let (i, s) := if was && busy then s.draw else (0, s)
    if was && busy && !Config.farDrained i then (5, s)
    else
      let on := ebits e 0 16 1
      let s := (s.setEntry 1 3 c (words4 (m + on * 0x10000 + w * 0x1000000) 0 0 0)).mergeEntry .sch 1 (c + 0x2000) 6 (some 7)
      let s := if on = 1 && !was then s.collect c
        else if on = 0 && was then s.setRxCon c { RxCon.reset with rf := (s.rxCon c).rf }
        else
          let r := s.rxCon c
          s.setRxCon c { r with marks := r.marks.mapIdx fun i x => if m.testBit i then x else none }
      (0, s)

/-- A profile (R216, R233). -/
def writeProfile (s : State) (i : Nat) (e : BitVec 128) : Nat × State :=
  if 51233600 < ebits e 0 0 26 || ebits e 1 0 24 = 0 then (4, s)
  else
    let s := s.queues.foldl (fun s j => if QCfg.profile (s.qcfg j) = i then s.reshape j e else s) s
    (0, (s.setEntry 1 4 i (words4 (ebits e 0 0 26) (ebits e 1 0 24) (ebits e 2 0 16) 0)).protect .sch 2 i)

/-- The ingress port map (R227). -/
def writeMap (s : State) (i : Nat) (e : BitVec 128) : Nat × State :=
  (0, (s.setEntry 1 5 i (words4 (ebits e 0 0 32 &&& 0x77F) 0 0 0)).mergeEntry .sch 3 i 6 (some 7))

/-- A conduit's flow control (R253). -/
def writeConFlow (s : State) (c : Nat) (e : BitVec 128) : Nat × State :=
  if ebits e 0 0 16 < ebits e 0 16 16 then (4, s)
  else (0, (s.setEntry 2 0 c (words4 (ebits e 0 0 32) (ebits e 1 0 32) (ebits e 2 0 32) (ebits e 3 0 32 &&& 0xFFFFC0FF))).protect
    .fct 0 c)

/-- A host port's flow control (R261, R263). -/
def writePortFlow (s : State) (p : Nat) (e : BitVec 128) : Nat × State :=
  (0, (s.setEntry 2 3 p (words4 (ebits e 0 0 32 &&& 0xFF1FFFFF) 0 0 0)).mergeEntry .fct 0 (2 ^ 24 * 3 + p) 6 none)

/-! ## Indirect commands (R230, R232) -/

/-- Entries of a table and the operations that it allows: read, write, clear (R232, R269). -/
def tableSpec (page table : Nat) : Option (Nat × List Nat) :=
  match page, table with
  | 0, 0 => some (1048576, [0, 1]) | 0, 1 => some (1048576, [0]) | 0, 2 => some (1048576, [0, 2]) | 0, 3 => some (64, [0, 1])
  | 1, 0 => some (65536, [0, 1]) | 1, 1 => some (65536, [0]) | 1, 2 => some (64, [0, 1]) | 1, 3 => some (64, [0, 1])
  | 1, 4 => some (4096, [0, 1]) | 1, 5 => some (16384, [0, 1])
  | 2, 0 => some (64, [0, 1]) | 2, 1 => some (64, [0]) | 2, 2 => some (4096, [0]) | 2, 3 => some (64, [0, 1])
  | _, _ => none

/-- The page and the window registers of a number: IND_ADDR's offset; IND_CMD and IND_DATA follow it. -/
def indPage (n : Nat) : Page := match n with
  | 0 => .qsc | 1 => .sch | _ => .fct
def indBase (n : Nat) : Nat := match n with
  | 0 => 0x028 | 1 => 0x024 | _ => 0x030
def indNum (p : IndPage) : Nat := match p with
  | .qsc => 0 | .sch => 1 | .fct => 2

def indWin (s : State) (n : Nat) : IndWin := match n with
  | 0 => s.tm.qsc | 1 => s.tm.sch | _ => s.tm.fct
def setIndWin (s : State) (n : Nat) (w : IndWin) : State :=
  s.updTm fun t => match n with
    | 0 => { t with qsc := w } | 1 => { t with sch := w } | _ => { t with fct := w }

/-- The data registers of a window. -/
def indData (s : State) (n : Nat) : BitVec 128 :=
  let w (i : Nat) : Nat := (s.word (indPage n) (indBase n + 8 + 4 * i)).toNat
  words4 (w 0) (w 1) (w 2) (w 3)
def setIndData (s : State) (n : Nat) (d : BitVec 128) : State :=
  (List.range 4).foldl (fun s i => s.setWord (indPage n) (indBase n + 8 + 4 * i) (BitVec.ofNat 32 (ebits d i 0 32))) s

/-- The half of a statistics entry that HALF selects. -/
def capHalf (s : State) (n : Nat) (v : BitVec 256) : BitVec 128 :=
  if getBits (s.word (indPage n) (indBase n)) 24 1 = 1 then v.extractLsb' 128 128 else v.extractLsb' 0 128

/-- RESULT and BUSY of a window's IND_CMD. -/
def setResult (s : State) (n r : Nat) : State :=
  s.wr (indPage n) ⟨indBase n + 4, 12, 4⟩ r
def setBusy (s : State) (n : Nat) (b : Bool) : State := s.wb (indPage n) ⟨indBase n + 4, 8, 1⟩ b

/-- A write to IND_CMD (R232): two of the commands together are ignored, one while BUSY is refused with RESULT 1. -/
def effInd (n : Nat) (v : Word) (s : State) : State :=
  let op := match v.toNat % 8 with
    | 1 => some 0 | 2 => some 1 | 4 => some 2 | _ => none
  match op with
  | none => s
  | some op =>
    let w := s.indWin n
    if w.busy.isSome then s.setResult n 1
    else
      let a := s.word (indPage n) (indBase n)
      let c : IndCmd := { op := op, table := getBits a 20 4, index := getBits a 0 20, data := s.indData n }
      (s.setIndWin n { w with busy := some c }).setBusy n true

/-- A write to IND_ADDR: a change of HALF shows the other half of a captured entry (R232). -/
def effIndAddr (n : Nat) (v : Word) (s : State) : State :=
  let old := s.word (indPage n) (indBase n)
  let s := s.plainWrite (indPage n) (indBase n) v
  match (s.indWin n).cap with
  | some x => if getBits old 24 1 = getBits v 24 1 then s else s.setIndData n (s.capHalf n x)
  | none => s

/-- A read of an entry uses the memory that holds it (R229, R232, R235, R238, R270): true where the word proves uncorrectable. A queue whose context
does is quarantined by it, which its state still shows. -/
def useEntry (s : State) (n table i : Nat) : Bool × State :=
  match n, table with
  | 0, 0 => let s := s.useQueue i false; (decide (3 ≤ (s.queue i).ctxBad), s)
  | 0, 1 => (false, s.useQueue i false)
  | 0, 3 => s.useOnce .qsc 1 i 5 (some 24)
  | 1, 0 => s.useSch 0 i
  | 1, 2 => s.useSch 1 (i + 0x1000)
  | 1, 3 => s.useSch 1 (i + 0x2000)
  | 1, 4 => s.useSch 2 i
  | 1, 5 => s.useSch 3 i
  | 2, 0 => s.useOnce .fct 0 i 6 none
  | 2, 3 => s.useOnce .fct 0 (2 ^ 24 * 3 + i) 6 none
  | _, _ => (false, s)

/-- The older state in which DDR5 shows a parked queue's context while its channel migrates (R489). -/
def oldCtx (s : State) (table i : Nat) : Option (BitVec 128) :=
  if (s.queue i).parked then (s.mem.ctxOld.find? (·.1 == i)).map fun x => Config.oldCtx x.2 i table else none

/-- A read of an entry that is no statistics entry. -/
def readEntry (s : State) (n table i : Nat) : BitVec 128 :=
  match n, table with
  | 0, 0 => (s.oldCtx 0 i).getD (s.entry 0 0 i)
  | 0, 1 => (s.oldCtx 1 i).getD (s.queueView i)
  | 1, 1 => s.groupView i
  | 2, 0 => s.fctEntry 0 i
  | 2, 1 => s.pauseView i
  | 2, 2 => s.pauseGroupView i
  | 2, 3 => s.portFlowView i
  | n, t => s.entry n t i

/-- A write of an entry: the RESULT, and the state after it. -/
def writeEntry (s : State) (n table i : Nat) (e : BitVec 128) : Nat × State :=
  match n, table with
  | 0, 0 => s.writeQueue i e
  | 0, 3 => s.writeHostPort i e
  | 1, 0 => s.writeGroup i e
  | 1, 2 => s.writeTx i e
  | 1, 3 => s.writeRx i e
  | 1, 4 => s.writeProfile i e
  | 1, 5 => s.writeMap i e
  | 2, 0 => s.writeConFlow i e
  | 2, 3 => s.writePortFlow i e
  | _, _ => (3, s)

/-- A statistics entry has been written whole: it is poisoned no more, and its burst is sound again once the entry beside it is (R279, R281). -/
def clearStat (s : State) (i : Nat) : State :=
  let bad := s.statPoisoned i
  let s := s.setQueue i { s.queue i with packets := 0, bytes := 0, drops := 0, steepBytes := 0 }
  let s := s.updMem fun m => { m with
    statBad := m.statBad.filter (· != i)
    statFixed := if bad then m.statFixed ++ [i] else m.statFixed
    statOld := m.statOld.filter (·.1 != i) }
  if bad && !s.statPoisoned (2 * (i / 2) + (1 - i % 2)) then
    let a := statAddr i
    let c := s.holder a
    let s := s.setStored c a Stored.sound
    if s.migrating c then s.setStored 16 a Stored.sound else s
  else s

/-- A statistics entry is read, and with CLEAR set to 0 in the same instant (R230, R231); a poisoned one reads 0 with RESULT 7 (R232) and is whole
again once CLEAR has written it, unless the merge buffer spoils the word (R291). The read costs one memory operation, CLEAR's partial
write two (R248, R277). -/
def statCmd (s : State) (clear : Bool) (i : Nat) : Nat × State :=
  let a := statAddr i
  let c := s.holder a
  let l := locOf c a
  let old := (s.mem.statOld.find? (·.1 == i)).map fun x => Config.oldStat x.2 i
  let was := s.statPoisoned i
  let v := old.getD (s.statView i)
  let (bad, s) :=
    if clear then
      let s := (s.rollSecond c).useRemap c l
      let e := s.withStored c l { cleanErr with poisoned := was || s.statPoisoned (2 * (i / 2) + (1 - i % 2)) }
      let bad := was || uncorrectable e (s.failedDev c l.sub)
      let (r, s) := s.merge c l e
      if r = 2 then (bad, s.setQueue i { s.queue i with packets := 0, bytes := 0, drops := 0, steepBytes := 0 }) else (bad, s.clearStat i)
    else
      let (bad, s) := (s.takeReads 1).readWord a
      (was || bad, s)
  let v := if bad then 0 else v
  (if bad then 7 else 0, (s.setIndWin 0 { s.indWin 0 with cap := some v }).setIndData 0 (s.capHalf 0 v))

/-- The result of an indirect command (R232): the table and its operation, the index, the service of DDR5, the entry. -/
def indRun (s : State) (n : Nat) (c : IndCmd) : Nat × State :=
  match tableSpec n c.table with
  | none => (3, s)
  | some (size, ops) =>
    if !ops.contains c.op then (3, s)
    else if size ≤ c.index then (2, s)
    else if n = 0 && !s.ddrOn && (c.table == 2 || (c.table != 3 && decide (131072 ≤ c.index))) then (6, s)
    else if n = 0 && c.table = 2 then s.statCmd (c.op == 2) c.index
    else if c.op = 1 then s.writeEntry n c.table c.index c.data
    else
      let (bad, s) := s.useEntry n c.table c.index
      let s := s.setIndWin n { s.indWin n with cap := none }
      if bad then (7, s.setIndData n 0) else (0, s.setIndData n (s.readEntry n c.table c.index))

/-- An indirect command completes. -/
def indDone (s : State) (n : Nat) : State :=
  match (s.indWin n).busy with
  | none => s
  | some c =>
    let s := (s.setIndWin n { s.indWin n with busy := none }).setBusy n false
    let (r, s) := s.indRun n c
    s.setResult n r

/-! ## Registers (R209, R265, R267, R269) -/

/-- A write to TAG_CFG (R209). -/
def effTagCfg (v : Word) (s : State) : State :=
  let e := QSC.TAG_CFG.ETYPE.get v
  if e < 0x600 || e = 0x8100 || e = 0x88A8 || e = 0x8808 then s.wb .qsc QSC.TAG_CFG.REJECT true
  else (s.wr .qsc QSC.TAG_CFG.ETYPE e).wb .qsc QSC.TAG_CFG.REJECT false

/-- A write to EG_HWM or IN_HWM (R265): CLEAR takes the present occupancy. -/
def effHwm (ingress : Bool) (v : Word) (s : State) : State :=
  if !v.getLsbD 31 then s
  else if ingress then s.wr .bsc BSC.IN_HWM.CELLS (s.rd .bsc BSC.IN_OCC.CELLS)
  else s.wr .bsc BSC.EG_HWM.CELLS (s.rd .bsc BSC.EG_OCC.CELLS)

/-- A write to BUF_CFG: RET_RESERVE 256-8,192 (R265). -/
def effBufCfg (v : Word) (s : State) : State :=
  let n := BSC.BUF_CFG.RET_RESERVE.get v
  if n < 256 || 8192 < n then s else s.wr .bsc BSC.BUF_CFG.RET_RESERVE n

/-- A write to an STP register (R250, R267): refused whole when a field is out of range; STEEP_EN takes no 1 without DDR5. -/
def effStp (off : Nat) (v : Word) (s : State) : State :=
  let ok :=
    match off with
    | 0x020 => STP.STP_CTRL.PF_DEPTH.get v != 0 && (s.ddrOn || STP.STP_CTRL.STEEP_EN.get v == 0)
    | 0x024 => decide (STP.GLOBAL_THRESH.CELLS.get v ≤ 655360)
    | 0x028 => decide (16 ≤ STP.GLOBAL_MIN.CELLS.get v)
    | 0x02C => decide (STP.ONDIE_PAUSE.CELLS.get v ≤ 327680)
    | 0x030 => decide (STP.DDR_PAUSE.PAGES.get v ≤ 58720256)
    | _ => true
  if ok then (s.plainWrite .stp off v).pumpAll else s

/-- A write to FC_CTRL or FC_TIMING (R269). -/
def effFc (off : Nat) (v : Word) (s : State) : State :=
  let ok :=
    if off = 0x020 then FCT.FC_CTRL.PAUSE_QUANTA.get v != 0
    else FCT.FC_TIMING.PFC_REFRESH.get v != 0 && FCT.FC_TIMING.GP_REFRESH.get v != 0
      && decide (10 * FCT.FC_TIMING.GP_REFRESH.get v < FCT.FC_TIMING.GP_TIME.get v)
  if ok then (s.plainWrite .fct off v).wb .fct FCT.FC_STATUS.CFG_REJECT false
  else s.wb .fct FCT.FC_STATUS.CFG_REJECT true

/-- A command written to a window's IND_CMD. -/
def indCmd (s : State) (n op : Nat) : State :=
  let v : Word := BitVec.ofNat 32 (2 ^ op)
  s.gateReg (indPage n) (indBase n + 4) v (effInd n v)

end State

/-! ## Meanings -/

/-- QSC_IND_READ (R232). -/
def execQscIndRead (s : State) : Host.Outcome State Fault Refusal := s.done fun s => s.indCmd 0 0

/-- QSC_IND_WRITE (R232). -/
def execQscIndWrite (s : State) : Host.Outcome State Fault Refusal := s.done fun s => s.indCmd 0 1

/-- QSC_IND_CLEAR (R230, R232). -/
def execQscIndClear (s : State) : Host.Outcome State Fault Refusal := s.done fun s => s.indCmd 0 2

/-- SCH_IND_READ (R232). -/
def execSchIndRead (s : State) : Host.Outcome State Fault Refusal := s.done fun s => s.indCmd 1 0

/-- SCH_IND_WRITE (R232). -/
def execSchIndWrite (s : State) : Host.Outcome State Fault Refusal := s.done fun s => s.indCmd 1 1

/-- FCT_IND_READ (R269). -/
def execFctIndRead (s : State) : Host.Outcome State Fault Refusal := s.done fun s => s.indCmd 2 0

/-- FCT_IND_WRITE (R269). -/
def execFctIndWrite (s : State) : Host.Outcome State Fault Refusal := s.done fun s => s.indCmd 2 1

/-- IND_COMMAND_DONE (R230, R232). -/
def execIndCommandDone (p : IndPage) (s : State) : Host.Outcome State Fault Refusal :=
  s.done fun s => s.indDone (State.indNum p)

/-- TAG_CFG_WRITE (R209). -/
def execTagCfgWrite (v : Word) (s : State) : Host.Outcome State Fault Refusal :=
  s.done fun s => s.gateReg .qsc 0x024 v (State.effTagCfg v)

/-- HWM_CLEAR (R265). -/
def execHwmClear (ingress : Bool) (s : State) : Host.Outcome State Fault Refusal :=
  s.done fun s => s.gateReg .bsc (if ingress then 0x030 else 0x028) 0x80000000 (State.effHwm ingress 0x80000000)

end Sys2Proof.Machine
end

