-- ==== Sys2Proof/Machine/Engine.lean ====
section
/-! DEFINITION. PAGE_CTRL (R37-R39, R501): engines switched on and off, held, drained, reinitialised. -/
namespace Sys2Proof.Machine

open Sys2Proof Reg

namespace State

/-! ## Classes of pages -/

/-- The mirror pages: PAGE_CTRL acts only through SOFT_RESET (14 "The FPW page"). -/
def isMirror (p : Page) : Bool := p.sec == 2

/-- The pages of the hub's management domain and of the section control engines. ENABLE governs what PAGE_STATE shows and whether the
other PAGE_CTRL fields act (R37, R39); what they do goes on (R184 for CSC; 13, 15 for TIM, TSN; of DEV, SES, LOG, CAD and VSQ no rule
says that it stops, log 56). -/
def isManagement (p : Page) : Bool :=
  match p.type with
  | .dev | .ses | .log | .cad | .tim | .vsq | .tsn | .csc => true
  | _ => false

/-- A write of ENABLE = 0 is ignored (11 "The MSC page", 13 "The TIM page"). -/
def stayOn (s : State) (p : Page) : Bool :=
  match p with
  | .tim | .msc => true
  | .mch _ => s.pst p == 2 || s.pst p == 3 || s.pst p == 7
  | _ => false

/-- A write of ENABLE = 1 is ignored in kettle mode (R447). -/
def kettleOff (s : State) (p : Page) : Bool :=
  s.start.kettle && match p.type with
    | .qsc | .bsc | .msc | .mch => true
    | _ => false

/-- HOLD and DRAIN act at the write: engines that have no boundary to wait for (R118, R250, 10 "The FCT page", R316, R324). -/
def actsAtOnce (s : State) (p : Page) : Bool :=
  match p with
  | .hlg _ _ | .vsq | .fct | .stp => true
  | .rxe k => !s.rxRuns k
  | _ => false

/-! ## Starting and stopping (R501) -/

/-- The load-map part stands on the base map, nothing announced and no capacity posted (R127, R142). -/
def freshMaps (s : State) (k : Fin 16) (st : Nat) : State :=
  let p := Page.lfe k
  let s := s.updCar k fun c =>
    { c with txMap := LMap.base, txAnn := none, waitProp := none, waitShed := none, waitBase := false, waitManual := none
             rxMap := LMap.base, rxAnn := none, lastProp := none, proposed := false, shedHold := [], probeNew := 0
             lmNow := s.word p 0x020, snrMin := List.replicate 8 none, undrain := false
             seen := List.replicate 5 none, imc := [], txJ := 0, coder := Coder.empty, client := [], cap := 0, posts := []
             negDone := false, hold := none, rxPart := none, offIn := 0, stepCd := 0 }
  let s := s.wb p LFE.LM_STATUS.ZR (s.zr k)
  let n := if s.zr k then 0 else st
  let s := ((s.setTxState k n).setRxState k n).wr p LFE.LM_STATUS.COUNTDOWN 0
  (s.dropCw k).lmSync k

/-- The laser of a TXO that starts begins to warm (R92, R93, R496); the tilts and SPEC_INV of its registers are in force. -/
def startLaser (s : State) (k : Fin 16) : State :=
  let p := Page.txo k
  let s := (s.wr p TXO.LASER_STATUS.TUNE_STATE 1).wb p TXO.TX_STATUS.LOCKED false
  let spare := s.bit p TXO.TX_STATUS.SPARE_IN_USE
  let inv := s.bit p TXO.TX_CTRL.SPEC_INV
  let t := (List.range 8).map (s.tiltSet k)
  let s := s.updCar k fun c => { c with ownOn := !spare, tiltNow := t, specInv := inv }
  s.selectLaser k (s.bit p TXO.TX_CTRL.LASER_SEL)

/-- The laser of a TXO that stops goes off; a switch under way ends with LASER_SEL back at the laser in use, FREQ_ERR keeps the last value
measured (the model's choices, log 99), and a COMMIT that waits takes effect (R81). -/
def stopLaser (s : State) (k : Fin 16) : State :=
  let p := Page.txo k
  let s := s.selectLaser k (s.bit p TXO.TX_STATUS.SPARE_IN_USE)
  let s := s.updCar k fun c => { c with ownOn := false, warming := false }
  let s := (s.wr p TXO.LASER_STATUS.TUNE_STATE 0).wb p TXO.TX_STATUS.LOCKED false
  let s := ((s.wr p TXO.LASER_BIAS.BIAS 0).wr p TXO.LASER_BIAS.BIAS_PCT 0).wb p TXO.LASER_BIAS.LIMIT false
  let s := if s.bit p TXO.COEF_CTRL.PENDING then s.coefExchange k else s
  ((s.wr p TXO.TX_TEST.MODE 0).updCar k fun c => { c with test := [] }).rxRestart k false

/-- Alignment starts again (R175); the counter value learnt from the far end is gone (R171). -/
def realign (s : State) (k : Fin 16) (n : Nat) : State :=
  let p := Page.fcr k
  let s := s.updCar k fun c =>
    { c with cands := [], misses := 0, fcHi := none, fcAlt := none, hold := none, rxPart := none, ksiMf := none, crcMf := 0 }
  ((s.wb p FCR.FR_STATUS.FC_VALID false).setFcRx k 0).setAlign k n

/-- Ports of a host die or of a group of it go down. -/
def portsDown (s : State) (d : Fin 2) (g : Option (Fin 4)) : State :=
  (((s.diePorts d).filter fun q => match g with
    | some g => s.portGroup d q == g
    | none => true).foldl (fun s q => s.portOff d q) s).reports d

/-- The working state of an engine as it begins (R501). A carrier negotiates anew from the enabling of each of its engines (R142, R184). -/
def beginWork (s : State) (p : Page) : State :=
  match p with
  | .txo k =>
    let s := ((List.range 37).foldl (fun s c => s.protect p 3 c) (s.startLaser k)).rxRestart k false
    s.updCar k fun c => { c with negDone := false }
  | .rxe k =>
    ((s.wb p RXE.RX_STATUS.SIGNAL false).rxRestart k false).updCar k fun c =>
      { c with failRaised := false, rxFrames := 0, negDone := false }
  | .lfe k => s.freshMaps k 1
  | .fcr k =>
    let s := ((s.zeroAll k).setFcTx k 0).wr p FCR.JUST_STATUS.BACKLOG 0
    (s.updCar k fun c => { c with txFirst := true, owed := 0, negDone := false }).realign k 1
  | .hsc d => (s.clearSteering d).portsDown d none
  | .hlg d g => s.portsDown d (some g)
  | _ => s

/-- The working state of an engine as it stands when it starts (R501), less what its lost tiles served (R426). -/
def initEngine (s : State) (p : Page) : State := (s.beginWork p).applyLosses p

/-- What an engine leaves when it stops, or its die loses its rails. Where FCR stops, no transmit multiframe boundary comes for an 800ZR
change that waits for one: it acts now (the model's choice, log 35). -/
def stopEngine (s : State) (p : Page) : State :=
  let s := s.setPst p 0
  match p with
  | .txo k => s.stopLaser k
  | .rxe k =>
    let s := (s.rxRestart k false).wb p RXE.RX_STATUS.SIGNAL false
    (s.wr p RXE.RX_STATUS.ACQ_STATE 0).updCar k fun c => { c with los := false }
  | .lfe k => s.freshMaps k 0
  | .fcr k =>
    let s := (((s.realign k 0).wb p FCR.FR_STATUS.LOF false).wb (.csc k) CSC.CSC_STATUS.RDI_TX false).updCar k fun c =>
      { c with lof := false, ais := false, rdi := false, aisRun := 0, rdiRun := 0, txq := [], txSent := 0, rdiTx := false
               pairOld := none, tag := none }
    match (s.car k).zrWait with
    | some b => s.zrChange k b
    | none => s
  | .hsc d => (s.portsDown d none).darkDie d
  | .hlg d g => (s.portsDown d (some g)).darkGroup d g
  | _ => s

/-- A domain that clocks an engine coasts (R329). -/
def coasts (s : State) (p : Page) : Bool :=
  (List.range 37).any fun n => s.dom n TIM.DOMn.COAST == 1 && (domEngines n).contains p

/-- An engine starts (R501): it reads STARTING, and READY or DEGRADED once it has initialised (State.startDone). An engine whose die is
not up stays OFF; one whose domain coasts reads FAULT (R329). -/
def startEngine (s : State) (p : Page) : State :=
  if !s.dieUp p then s
  else
    let s := (s.beginStarting p).initEngine p
    if s.coasts p then s.coastEngine p else s

/-- SOFT_RESET (R37, R501): the working state begins again; configuration, keys, frame counter, counters and what hangs on cells
already accepted stay where a rule keeps them (R164, R192). -/
def softReset (s : State) (p : Page) : State :=
  match p with
  | .txo k =>
    let s := s.wb p TXO.COEF_CTRL.PENDING false
    (s.startLaser k).rxRestart k false
  | .rxe k => s.rxRestart k false
  | .lfe k => s.freshMaps k 1
  | .fcr k => s.realign k 1
  | .qsc =>
    let qs := s.tm.qs.map fun e => (e.1, { e.2 with deficit := 0, debt := 0, tokTime := s.time.toNat })
    (s.updTm fun t => { t with qs := qs, qsc := { t.qsc with busy := none } }).setBusy 0 false
  | .sch =>
    let gs := s.tm.gs.map fun e => (e.1, { GState.reset with tokTime := s.time.toNat })
    let rx := s.tm.rx.map fun e => (e.1, { e.2 with expected := none, store := [], part := none, since := none, hist := [] })
    (s.updTm fun t => { t with
      gs := gs, rx := rx, sch := { t.sch with busy := none }
      tx := t.tx.map fun e => (e.1, { e.2 with lastMin := none, lastMax := none }) }).setBusy 1 false
  | .stp => (s.wr .stp STP.OPS_INFLIGHT.HWM (s.rd .stp STP.OPS_INFLIGHT.NOW)).wr .stp STP.STP_LAST.word 0
  | .fct =>
    (s.updTm fun t => { t with pause := [], hostPaused := [], wdog := [], fct := { t.fct with busy := none } }).setBusy 2 false
  | .hsc d => (s.setDie d { s.die d with exch := none, yielded := none, answered := [] }).wr p HSC.STEER_STATUS.STATE 0
  | .hlg d g => s.portsDown d (some g)
  | _ => s

/-! ## PAGE_CTRL (R37, R38, R501) -/

/-- An engine that acts at once follows HOLD and DRAIN. -/
def holdNow (s : State) (p : Page) : State :=
  let held := s.pst p == 5
  let s := s.leave p
  let s := match p with
    | .hlg d g => if held && s.pst p != 5 then s.adaptGroup d g else s
    | _ => s
  let run := s.pst p == 2 || s.pst p == 3 || s.pst p == 7 || s.pst p == 5
  let drained := match p with
    | .stp => s.tm.qs.all fun e => !e.2.steep
    | _ => true
  if run && canDrain p && s.bit p HDR.PAGE_CTRL.DRAIN && drained then s.setPst p 6
  else if run && canHold p && s.bit p HDR.PAGE_CTRL.HOLD && !(canDrain p && s.bit p HDR.PAGE_CTRL.DRAIN) then s.setPst p 5
  else s

/-- An engine has initialised (R501): it reads READY or DEGRADED, FAULT while a domain that clocks it coasts (R329), and HOLD and DRAIN are
looked at (R38). -/
def startDone (s : State) (p : Page) : State :=
  if s.pst p ≠ 1 then s
  else if s.coasts p then s.coastEngine p
  else
    let s := s.setPst p (s.runState p)
    if s.actsAtOnce p then s.holdNow p else s

/-- The engines whose time in STARTING is over. -/
def due (s : State) : List Page :=
  s.start.starting.filterMap fun e => if e.2 ≤ s.time.toNat then Page.ofAddr e.1 else none

/-- The engines whose time in STARTING is over have initialised. -/
def endStarts (s : State) : State :=
  s.due.foldl startDone
    { s with start := { s.start with starting := s.start.starting.filter fun e => decide (s.time.toNat < e.2) } }

/-- A nanosecond in which no command waits: time passes, a migration's copied burst is written (R287), what the end of a
member's contribution leaves due in a conduit follows (R223), and engines end their initialisation (R501). -/
def idle (s : State) : State :=
  let t := s.tick
  if t.due = [] && t.mem.lock = none && t.dueFlows = [] then t
  else settle t (endStarts (t.dueFlows.foldl flow { t with out := [] }.landCopy))

/-- PAGE_CTRL of a page whose work goes on whatever ENABLE says: ENABLE = 0 makes it read OFF and leaves the other fields no effect (R37,
R38); CSC's own fields have none at all, and its state follows its engines' (R184). -/
def manageCtrl (s : State) (p : Page) (was en soft : Bool) : State :=
  if p.type == .csc then s
  else if !en then s.setPst p 0
  else if !was || soft then ((if soft then s.setWord p 0x01C 0 else s).beginStarting p)
  else s.holdNow p

/-- A host write to PAGE_CTRL (R37, R38, R501): ENABLE = 0 overrides all; SOFT_RESET runs before HOLD and DRAIN are looked at; HOLD and
DRAIN take effect at the engine's boundary (ENGINE_HELD, ENGINE_DRAINED), or here where the engine has none. A host write of
LFE's DRAIN makes the drain a host drain and stops a laser procedure of the carrier (R182, R431). -/
def effPageCtrl (p : Page) (v : Word) (s : State) : State :=
  let soft := HDR.PAGE_CTRL.SOFT_RESET.get v == 1
  let ecc (s : State) : State := if soft then s.setWord p 0x01C 0 else s
  if isMirror p then ecc s
  else
    let was := s.enabled p
    let want := HDR.PAGE_CTRL.ENABLE.get v == 1
    let en := (want || s.stayOn p && was) && !(want && !was && s.kettleOff p)
    let s := s.setWord p 0x004 (HDR.PAGE_CTRL.ENABLE.put (v &&& 0xB) en.toNat)
    let s := match p with
      | .lfe k => (s.wb (.csc k) CSC.CSC_STATUS.AUTO_DRAINED false).touchProc k
      | _ => s
    if isManagement p then s.manageCtrl p was en soft
    else if !en then if was then s.stopEngine p else s
    else
      let s := ecc s
      let s := if !was then s.startEngine p
        else if soft && s.pst p != 0 then (s.softReset p).beginStarting p
        else s
      if s.pst p = 0 then s
      else if s.actsAtOnce p then
        let s := s.holdNow p
        match p with
        | .stp => s.pumpAll
        | _ => s
      else match p with
        | .sch => s.leave p
        | _ => s

/-- The word of a host write that changes one field of PAGE_CTRL; SOFT_RESET reads 0. -/
def ctrlWith (s : State) (p : Page) (f : Fld) (b : Bool) : Word := f.put (s.word p 0x004 &&& 0xB) b.toNat

/-- An engine stops at its safe boundary (R37, R38, R118): HOLD is set, DRAIN is not. -/
def engineHeld (s : State) (p : Page) : State :=
  let n := s.pst p
  if canHold p && s.bit p HDR.PAGE_CTRL.HOLD && !(canDrain p && s.bit p HDR.PAGE_CTRL.DRAIN) && (n == 2 || n == 3 || n == 7) then
    s.setPst p 5
  else s

/-- The work in flight is done: LFE posts 0 and it is in force (R142); no queue holds a frame (09 "The SCH page"); no queue
steeps (R250). -/
def drainedNow (s : State) (p : Page) : Bool :=
  match p with
  | .lfe k => (s.car k).cap == 0 && (s.car k).posts == []
  | .sch => s.tm.qs.all fun e => e.2.frames == []
  | .stp => s.tm.qs.all fun e => !e.2.steep
  | _ => true

/-- An engine that drains has drained (R37, R118, R142, R187, R250). -/
def engineDrained (s : State) (p : Page) : State :=
  let n := s.pst p
  if canDrain p && s.bit p HDR.PAGE_CTRL.DRAIN && (n == 2 || n == 3 || n == 5 || n == 7) && s.drainedNow p then s.setPst p 6 else s

/-! ## A die that gains or loses its rails (R384, R385, R441 step 10) -/

/-- The engine pages of a die; the hub's datapath sections for HB. -/
def diePages (d : Nat) : List Page :=
  if d < 4 then ((carriers.filter fun k => k.val / 4 == d).flatMap engines)
  else if d = 4 then [.qsc, .sch, .bsc, .stp, .fct, .msc] ++ (List.finRange 17).map Page.mch
  else .hsc (Fin.ofNat 2 (d - 5)) :: (List.finRange 4).map fun g => .hlg (Fin.ofNat 2 (d - 5)) g

/-- A die comes up: its enabled engines start. -/
def dieStarts (s : State) (d : Nat) : State :=
  let s := s.updStart fun x => { x with diesUp := putBit x.diesUp d true }
  (diePages d).foldl (fun s p => if s.enabled p then s.startEngine p else s) s

/-- A die loses its rails: its engines and its domains are off (R336), its keys are gone (R384, R450), and its governor no
longer runs. -/
def dieStops (s : State) (d : Nat) : State :=
  let s := ((diePages d).foldl stopEngine s).dieDomsOff d
  let s := if d < 4 then ((carriers.filter fun k => k.val / 4 == d).foldl zeroAll s).stopGovernor d else s
  s.updStart fun x => { x with diesUp := putBit x.diesUp d false }

/-- The counters and ECC_LOG of a die that restarts are cleared (R450). -/
def dieClear (s : State) (d : Nat) : State :=
  let secs := if d < 4 then (List.range 4).map fun i => 0x10 + 4 * d + i else [d + 1]
  let mine (a : Nat) : Bool := secs.any fun n => (diePages d).any fun p => p.sec == n && ctrBase p / 0x800 == a / 0x800
  let s := { s with ctr := s.ctr.filter fun e => !mine e.1 }
  (diePages d).foldl (fun s p => s.setWord p 0x01C 0) s

end State

/-! ## Meanings -/

/-- PAGE_ENABLE (R37, R38, R501). -/
def execPageEnable (p : Page) (on : Bool) (s : State) : Host.Outcome State Fault Refusal :=
  let v := s.ctrlWith p HDR.PAGE_CTRL.ENABLE on
  s.done fun s => s.gateReg p 0x004 v (State.effPageCtrl p v)

/-- PAGE_HOLD (R37, R38). -/
def execPageHold (p : Page) (on : Bool) (s : State) : Host.Outcome State Fault Refusal :=
  let v := s.ctrlWith p HDR.PAGE_CTRL.HOLD on
  s.done fun s => s.gateReg p 0x004 v (State.effPageCtrl p v)

/-- ENGINE_HELD (R37). -/
def execEngineHeld (p : Page) (s : State) : Host.Outcome State Fault Refusal :=
  s.done fun s => s.engineHeld p

/-- PAGE_SOFT_RESET (R37, R38). -/
def execPageSoftReset (p : Page) (s : State) : Host.Outcome State Fault Refusal :=
  let v := s.ctrlWith p HDR.PAGE_CTRL.SOFT_RESET true
  s.done fun s => s.gateReg p 0x004 v (State.effPageCtrl p v)

/-- PAGE_DRAIN (R37, R38). -/
def execPageDrain (p : Page) (on : Bool) (s : State) : Host.Outcome State Fault Refusal :=
  let v := s.ctrlWith p HDR.PAGE_CTRL.DRAIN on
  s.done fun s => s.gateReg p 0x004 v (State.effPageCtrl p v)

/-- ENGINE_DRAINED (R37). -/
def execEngineDrained (p : Page) (s : State) : Host.Outcome State Fault Refusal :=
  s.done fun s => s.engineDrained p

end Sys2Proof.Machine
end

