-- ==== Sys2Proof/Machine/RailPhy.lean ====
section
/-! DEFINITION. The rail channel's physical layer: what a frame puts on the tones (R390, R391, R394, R395), the strainer (R396), the
preamble (R392) and the margin of a capture (R400). -/
namespace Sys2Proof.Machine

open Sys2Proof

/-! ## Symbols sent -/

/-- Tones used, 16 to 111 (R390). -/
def railTones : Nat := 96

/-- Bits cut into groups of 48, the last filled up with zeros; each group in two symbols, on tones 16 + i and 64 + i (R391). -/
def robustSymbols (l : List Bool) : List (List Nat) :=
  (List.range (ceilDiv l.length 48)).flatMap fun g =>
    let half := (List.range 48).map fun i => (l.getD (48 * g + i) false).toNat
    [half ++ half, half ++ half]

/-- Bits of so many, from the generator of R75. -/
def prbsBits : Nat → BitVec 15 → List Bool
  | 0, _ => []
  | n + 1, r => let (b, r) := prbs15 r; b :: prbsBits n r

/-- The 8 symbols of a SOUND: BPSK on all tones (R395). -/
def soundSymbols : List (List Nat) :=
  let l := prbsBits (8 * railTones) 0x0001
  (List.range 8).map fun i => ((l.drop (railTones * i)).take railTones).map (·.toNat)

/-- Bits per tone of a code (R397). -/
def toneBits (c : Nat) : Nat := match c with
  | 1 => 1 | 2 => 2 | 3 => 4 | 4 => 6 | _ => 0

/-- Information bits of a codeword (R390). -/
def railInfo (rate : Bool) : Nat := if rate then 960 else 576

/-- Bits in whole codewords of 1,152: the last filled up with zeros, the parity after the information (R390, R394). -/
def railCoded (rate : Bool) (l : List Bool) : List Bool :=
  let n := railInfo rate
  (List.range (ceilDiv l.length n)).flatMap fun i =>
    let w := (List.range n).map fun j => l.getD (n * i + j) false
    w ++ (List.range (1152 - n)).map (Config.railParity rate w)

/-- A symbol under a map: the tones take their bits in ascending order; and the bits left. -/
def mappedSymbol (codes : List Nat) (l : List Bool) : List Nat × List Bool :=
  codes.foldl (fun (a : List Nat × List Bool) c =>
    let b := toneBits c
    let v := (List.range b).map fun i => a.2.getD i false
    (a.1 ++ [natBits v], a.2.drop b)) ([], l)

/-- n symbols under a map (R394). -/
def mappedSymbols (codes : List Nat) : Nat → List Bool → List (List Nat)
  | 0, _ => []
  | n + 1, l => let (x, r) := mappedSymbol codes l; x :: mappedSymbols codes n r

/-- Payload bits: the payload, its tag where the frame is tagged, and the check sequence over the payload bytes before it (R394). -/
def railBits (payload : List Byte) (tagged : Bool) (tag : BitVec 64) : List Bool :=
  let b := payload ++ (if tagged then bytesBE 8 tag.toNat else [])
  bitsBE (b ++ bytesBE 4 (State.frameCrc (bitsBE b)))

/-- The symbols of a frame after its preamble, tone by tone from 16: frame control in robust mode, and the payload (R391-R395). -/
def railSymbols (fc : BitVec 96) (payload : List Byte) (tag : BitVec 64) (map : Option ToneMap) : List (List Nat) :=
  let typ := fc.toNat / 2 ^ 52 % 16
  let bits := railBits payload (fc.toNat / 2 ^ 16 % 256 != 0) tag
  robustSymbols (bitsOf 96 fc.toNat) ++
    (if typ = 4 || typ = 5 then [] else if typ = 6 then soundSymbols
    else match map with
      | none => robustSymbols bits
      | some m =>
        let l := railCoded m.rate bits
        mappedSymbols m.codes (ceilDiv l.length m.nbps) l)

/-! ## The strainer (R396) -/

/-- One sample through the strainer: whether it is blanked, and the strainer after it. -/
def Strainer.step (k : Nat) (f : Strainer) (x : Int) : Bool × Strainer :=
  let lim : ℚ := (k : ℚ) ^ 2 * f.mean
  let sq : ℚ := (x : ℚ) ^ 2
  if f.blanking then
    let q := if sq < lim then f.quiet + 1 else 0
    (true, if q = 8 then { f with blanking := false, quiet := 0, frozen := 64 } else { f with quiet := q })
  else if lim < sq then (true, { f with blanking := true, quiet := 0 })
  else (false, if f.frozen = 0 then { f with mean := f.mean + (sq - f.mean) / 4096 } else { f with frozen := f.frozen - 1 })

/-- Samples through the strainer: the samples blanked are zero; which they are; the strainer after them. -/
def Strainer.run (k : Nat) : Strainer → List (BitVec 16) → List (Int × Bool) × Strainer
  | f, [] => ([], f)
  | f, x :: l =>
    let (b, f) := f.step k x.toInt
    let (r, f) := Strainer.run k f l
    ((if b then 0 else x.toInt, b) :: r, f)

/-- A symbol of 304 samples is erased: 103 or more of the 256 after the prefix are blanked. -/
def symbolErased (l : List (Int × Bool)) (i : Nat) : Bool := decide (103 ≤ ((l.drop (304 * i + 48)).take 256).countP (·.2))

/-- Symbols that are erased. -/
def erasedSymbols (l : List (Int × Bool)) : Nat := (List.range (l.length / 304)).countP (symbolErased l)

/-- The running RMS in whole decibels below full scale, 0 to 255 (RL_STRAIN). -/
def rmsCode (mean : ℚ) : Nat :=
  (List.range 256).countP (fun n => decide (mean ^ 10 * (10 : ℚ) ^ n ≤ ((2 : ℚ) ^ 15) ^ 20)) - 1

/-! ## Symbols received -/

/-- The soft value of a bit of a tone of a symbol; an erased symbol gives 0 (R394, R396). -/
def toneSoft (x : RailSoft) (erased : Nat → Bool) (sym tone bit : Nat) : Int :=
  if erased sym then 0 else ((x.soft.getD sym []).getD tone []).getD bit 0

/-- The bit that soft values decide together. -/
def softBit (v : Int) : Bool := if 0 < v then true else if v < 0 then false else Config.railZero

/-- Robust bit j of a field that begins at a symbol: the four copies add up, each by its weight (R391). -/
def robustBit (val : Nat → Nat → Nat → Int) (sym j : Nat) : Bool :=
  let a := sym + 2 * (j / 48)
  let i := j % 48
  softBit (val a i 0 + val a (i + 48) 0 + val (a + 1) i 0 + val (a + 1) (i + 48) 0)

/-- The information bits of a received codeword: those of the word that its signs spell where that is one, else what the decoder finds. -/
def railWord (rate : Bool) (w : List Int) : List Bool :=
  let n := railInfo rate
  let hard := w.map fun v => decide (0 < v)
  if w.all (· != 0) && hard.drop n == (List.range (1152 - n)).map (Config.railParity rate (hard.take n)) then hard.take n
  else (List.range n).map ((Config.railDecode rate w).getD · false)

/-- The soft values of so many payload symbols under a map, tone by tone, symbol by symbol (R394). -/
def mappedSoft (val : Nat → Nat → Nat → Int) (codes : List Nat) (nsym : Nat) : List Int :=
  (List.range nsym).flatMap fun k => codes.zipIdx.flatMap fun (c, i) => (List.range (toneBits c)).map (val (4 + k) i)

/-- The payload bits of a frame of so many symbols, under a map or in robust mode. -/
def payloadBits (val : Nat → Nat → Nat → Int) (nsym : Nat) : Option ToneMap → List Bool
  | none => (List.range (nsym / 2 * 48)).map (robustBit val 4)
  | some m =>
    let l := mappedSoft val m.codes nsym
    (List.range (l.length / 1152)).flatMap fun i => railWord m.rate ((l.drop (1152 * i)).take 1152)

/-- Bits as bytes, most significant first, and the bits left. -/
def byteList (l : List Bool) : List Byte := (List.range (l.length / 8)).map fun i => BitVec.ofNat 8 (natBits ((l.drop (8 * i)).take 8))

/-! ## The preamble (R392) -/

/-- A sample of the preamble: ten sync symbols, the eighth and the ninth inverted. -/
def preambleSample (i : Nat) : Int :=
  let v := (Config.railSync (i % 256)).toInt
  if i / 256 = 7 || i / 256 = 8 then -v else v

/-- Samples of the preamble, and those before its start mark, the start of the first inverted symbol. -/
def preambleLen : Nat := 2560
def markAt : Nat := 7 * 256

/-- The correlation of strained samples with the preamble from an offset on. -/
def correlation (l : List Int) (o : Nat) : Int :=
  (List.range preambleLen).foldl (fun a i => a + preambleSample i * l.getD (o + i) 0) 0

/-- The offset at which the preamble is found: of the greatest correlation, the first. -/
def preambleOffset (l : List Int) : Nat :=
  ((List.range (l.length + 1 - preambleLen)).foldl (fun (a : Nat × Int) o =>
    let c := correlation l o
    if a.2 < c then (o, c) else a) (0, correlation l 0)).1

/-- A frame's received power, 2,560 times the mean over the ten symbols. -/
def preamblePower (l : List Int) (o : Nat) : Nat :=
  ((List.range preambleLen).foldl (fun a i => a + l.getD (o + i) 0 ^ 2) 0).toNat

/-- A power exceeds another by so many decibels at least (R400). -/
def exceeds (q p margin : Nat) : Bool := decide (p ^ 10 * 10 ^ margin ≤ q ^ 10)

end Sys2Proof.Machine
end

