-- ==== Sys2Proof/Machine/Sense.lean ====
section
/-! DEFINITION. The field island's telemetry chain, the ripple reference, the FTL page (R366-R379, R386, R387, R494). -/
namespace Sys2Proof.Machine

open Sys2Proof Reg

namespace State

def tchan (s : State) (ch : Nat) : TChan := s.tele.chans.get (fun _ => TChan.reset) ch
def setTchan (s : State) (ch : Nat) (c : TChan) : State :=
  { s with tele := { s.tele with chans := s.tele.chans.set (fun _ => TChan.reset) ch c } }
def updTchan (s : State) (ch : Nat) (f : TChan → TChan) : State := s.setTchan ch (f (s.tchan ch))
def updTele (s : State) (f : Tele → Tele) : State := { s with tele := f s.tele }
def updSense (s : State) (f : Sense → Sense) : State := { s with sense := f s.sense }

/-- Offset of CHn. -/
def chOff (ch : Nat) : Nat := 0x20 + 4 * ch

/-- A field of a channel's CHn on the field side. -/
def chF (s : State) (ch : Nat) (f : Fld) : Nat := f.get (s.fieldWord .ftl (chOff ch))

/-! ## Stages (R369-R374) -/

/-- Rounding to 16 bits: convergent, saturating; true when it saturated (R374). -/
def requant (num : Int) (den : Nat) : Int × Bool :=
  let r := roundHalfEven num den
  if r < -32768 then (-32768, true) else if 32767 < r then (32767, true) else (r, false)

/-- The DC block on one sample (R370): the output, whether it saturated, and the channel with its new estimate. -/
def dcBlock (c : TChan) (x : Int) (frozen : Bool) : Int × Bool × TChan :=
  let c := if frozen then c else { c with dcNum := 1023 * c.dcNum + x * (2 ^ c.dcExp : Nat), dcExp := c.dcExp + 10 }
  let (y, o) := requant (x * (2 ^ c.dcExp : Nat) - c.dcNum) (2 ^ c.dcExp)
  (y, o, c)

/-- A coefficient as a signed Q1.15 number. -/
def coef (m : SMap Word) (a : Nat) : Int := signed 16 ((m.get (fun _ => 0) a).toNat % 65536)

/-- A FIR slot's output (R371): the sum over its taps, rounded. -/
def firOut (m : SMap Word) (d : FirSlot) (h : List Int) : Int × Bool :=
  requant ((List.range d.taps).foldl (fun a k => a + coef m (d.base + k) * h.getD k 0) 0) (2 ^ 15)

/-- A number put among rising ones. -/
def insertRising (x : Int) (l : List Int) : List Int :=
  match l with
  | [] => [x]
  | a :: r => if x ≤ a then x :: a :: r else a :: insertRising x r

/-- The r-th smallest of the last w samples (R372). -/
def rankOut (w r : Nat) (h : List Int) : Int := ((h.take w).foldr insertRising []).getD r 0

/-- Window of the rank filter (R386). -/
def rankWin (s : State) (ch : Nat) : Nat := 2 * s.chF ch FTL.CHn.RANK_WIN + 3

/-- The descriptor that a channel's FIR uses. -/
def firSlot (s : State) (ch : Nat) : Option FirSlot := s.tele.slots.get (fun _ => none) (s.chF ch FTL.CHn.SLOT)

/-- The DC block adapts: enabled and not frozen. -/
def dcAdapts (s : State) (ch : Nat) : Bool := s.chF ch FTL.CHn.DCB_EN == 1 && s.chF ch FTL.CHn.DCB_FREEZE == 0

/-- The settling length of a channel's stages (R369, R375). -/
def settleLen (s : State) (ch : Nat) : Nat :=
  (if s.dcAdapts ch then 9216 else 0) +
    match s.chF ch FTL.CHn.FILT with
    | 1 => match s.firSlot ch with
      | some d => d.taps
      | none => 0
    | 2 => s.rankWin ch
    | _ => 0

/-- Suppression starts or restarts (R375). -/
def startSettle (s : State) (ch : Nat) : State := s.updTchan ch fun c => { c with settle := some (s.settleLen ch) }

/-- The window in progress closes and its SUM and COUNT become the reported record (R376). -/
def closeWindow (s : State) (ch : Nat) : State :=
  let c := s.tchan ch
  let s := s.setTchan ch { c with
    recSum := c.sum, recCount := c.count, recSat := c.sat, recNew := true, sum := 0, count := 0, sat := false, periods := 0 }
  if c.sat then s.fcount .ftl 2 1 else s

/-! ## What the measurements are used for (R353, R355, R367) -/

/-- A sample in units of which the full scale holds so many. -/
def scaled (full : Nat) (z : Int) : Nat := (roundHalfEven (z * full) (8 * 4095)).toNat

/-- Share errors of the phases, percent of the working mean, from the currents of their pairs (R355, R362). -/
def reshare (s : State) : State :=
  let works (p : Phase) : Bool := p.st == .working || p.st == .rampIn || p.st == .rampOut
  let inPair (i : Nat) : Nat := (works (s.phase (2 * i))).toNat + (works (s.phase (2 * i + 1))).toNat
  let cur (i : Nat) : Int := ((s.tchan (12 + i)).value).getD 0
  let total : Int := (List.range 13).foldl (fun a i => if inPair i = 0 then a else a + cur i) 0
  let n : Nat := (List.range 13).foldl (fun a i => a + inPair i) 0
  s.updPub fun x => { x with phases := x.phases.mapIdx fun j p =>
    let c := inPair (j / 2);
    if (works p && decide (0 < total) && c != 0) = true then
      { p with share := max (-128) (min 127 (roundHalfEven (100 * (cur (j / 2) * n - total * c)) (total.toNat * c))) }
    else { p with share := 0 } }

/-- The reported values follow the chain's outputs (R353, R367, R378). A bus that a converter short of phases lets fall below 11.4 V stops
the host rails (R358). -/
def measured (s : State) (ch : Nat) (z : Int) : State :=
  match ch with
  | 0 => s.stepStores.setFeed .a { s.feed .a with volt := scaled 10000 z }
  | 1 => s.feedCurrent .a (scaled 5000 z)
  | 2 => s.stepStores.setFeed .b { s.feed .b with volt := scaled 10000 z }
  | 3 => s.feedCurrent .b (scaled 5000 z)
  | 4 =>
    let s := s.stepStores.updPub fun p => { p with busV := scaled 16000 z }
    if s.field.pub.short && decide (s.field.pub.busV < 11400) && decide (s.start.power ≠ .off) then s.railsFault else s
  | 5 => s.stepStores.updPub fun p => { p with busI := scaled 10000 z }
  | n => if 12 ≤ n && n ≤ 24 then s.reshare else s

/-! ## The chain (R369-R376) -/

/-- The window of a channel has had its 2^WIN output periods (R376). -/
def windowOver (s : State) (ch : Nat) : Bool := decide (2 ^ s.chF ch FTL.CHn.WIN ≤ (s.tchan ch).periods)

/-- A decimation instant's output: it belongs to a new window once the window in progress is over; suppression ends once its length has passed;
an accepted output enters the accumulator and the trackers while EN is 1. -/
def acceptOut (s : State) (ch : Nat) (z : Int) : State :=
  let s := if s.windowOver ch then s.closeWindow ch else s
  let s := s.updTchan ch fun c => { c with periods := c.periods + 1 }
  let c := s.tchan ch
  match c.settle with
  | some (_ + 1) => s
  | _ =>
    let c := { c with settle := none, value := some z }
    let c := if s.chF ch FTL.CHn.EN = 0 then c
      else { c with sum := c.sum + z, count := c.count + 1, min := some (min (c.min.getD z) z), max := some (max (c.max.getD z) z) }
    (s.setTchan ch c).measured ch z

/-- One sample of a channel passes through its stages. -/
def chain (s : State) (ch : Nat) (x : Int) : State :=
  let c := s.tchan ch
  let w := s.fieldWord .ftl (chOff ch)
  let (y, o1, c) := if FTL.CHn.DCB_EN.get w = 1 then dcBlock c x (FTL.CHn.DCB_FREEZE.get w == 1) else (x, false, c)
  let c := { c with hist := (y :: c.hist).take 256 }
  let (z, o2) := match FTL.CHn.FILT.get w with
    | 1 => match s.firSlot ch with
      | some d => firOut s.tele.coefs d c.hist
      | none => (y, false)
    | 2 => (rankOut (s.rankWin ch) (FTL.CHn.RANK.get w) c.hist, false)
    | _ => (y, false)
  let c := { c with sat := c.sat || o1 || o2, recent := if ch = 26 ∨ ch = 27 then (z :: c.recent).take 1250 else []
                    outs := c.outs + 1 }
  let d := FTL.CHn.DECIM.get w + 1
  let keep := decide (d ≤ c.phase + 1)
  let s := s.setTchan ch { c with phase := if keep then 0 else c.phase + 1 }
  let s := if keep then s.acceptOut ch z else s
  s.updTchan ch fun c => { c with settle := c.settle.map (· - 1) }

/-- A detected step (R375). -/
def stepSeen (s : State) (ch code : Nat) : Bool :=
  let th := s.fset .ftl FTL.FTL_CTRL.STEP_TH
  s.dcAdapts ch && match (s.tchan ch).last with
    | some p => decide (th < max p code - min p code)
    | none => false

/-! ## Ripple (R379) -/

/-- N when ten periods and the amplitude make the ripple valid, else 0: each period within 2 % of their mean, and 50 ms, 1,250 samples, an
integer number 5, 6, 15 or 18 of them, to the same 2 %. -/
def rippleN (periods : List ℚ) (recent : List Int) (minCodes : Nat) : Nat :=
  let sum := periods.foldl (· + ·) 0
  let steady := periods.length == 10 && periods.all fun p => decide (100 * |10 * p - sum| ≤ 2 * sum)
  let pp := recent.foldl max (-32768) - recent.foldl min 32767
  if steady && decide ((8 * minCodes : Nat) ≤ pp) then
    (([5, 6, 15, 18] : List Nat).find? fun n : Nat => decide (100 * |12500 - (n : ℚ) * sum| ≤ 2 * ((n : ℚ) * sum))).getD 0
  else 0

/-- The ripple found on a feed, on T26 for feed A and on T27 for feed B. -/
def ripple (s : State) (f : Feed) : Ripple := match f with
  | .a => s.tele.rippleA
  | .b => s.tele.rippleB

/-- The ripple channel of a feed. -/
def rippleCh (f : Feed) : Nat := match f with
  | .a => 26
  | .b => 27

/-- A feed's last crossing and periods, with N as the amplitude of the last 50 ms lets it be; only the feed to which the modem is coupled has
a valid ripple. -/
def setRipple (s : State) (f : Feed) (last : Option ℚ) (periods : List ℚ) : State :=
  let c := s.tchan (rippleCh f)
  let n := if s.rail.feed = f then rippleN periods c.recent (s.fset .ftl FTL.FTL_CTRL.RIPPLE_MIN) else 0
  let r : Ripple := { last := last, periods := periods, n := n }
  s.updTele fun t => match f with
    | .a => { t with rippleA := r }
    | .b => { t with rippleB := r }

/-- A new output of a ripple channel: the amplitude may have changed. -/
def reripple (s : State) (ch : Nat) : State :=
  match ch with
  | 26 => s.setRipple .a (s.ripple .a).last (s.ripple .a).periods
  | 27 => s.setRipple .b (s.ripple .b).last (s.ripple .b).periods
  | _ => s

/-- The instant of a rising zero crossing between the outputs so many samples ago and the one before, interpolated linearly (R379). It counts
once the channel has been a quarter of RIPPLE_MIN below zero since the last one (the model's reading of the hysteresis, log 123). -/
def crossingAt (s : State) (f : Feed) (back : Nat) : Option ℚ :=
  let c := s.tchan (rippleCh f)
  match c.recent[back]?, c.recent[back + 1]? with
  | some z, some y =>
    let t : ℚ := (c.outs : ℚ) - back - 1 + (-y : ℚ) / (z - y : ℚ)
    let since : Nat := match (s.ripple f).last with
      | some l => (t - l).ceil.toNat
      | none => c.recent.length
    let low : Int := -(2 * (s.fset .ftl FTL.FTL_CTRL.RIPPLE_MIN : Int))
    let new := match (s.ripple f).last with
      | some l => decide (l < t)
      | none => true
    if y < 0 && 0 ≤ z && new && ((c.recent.drop (back + 1)).take since).any fun x => decide (x ≤ low) then some t else none
  | _, _ => none

/-- A rising crossing of the ripple channel of the feed to which the modem is coupled: with the one before it gives a period. -/
def crossing (s : State) (f : Feed) (back : Nat) : State :=
  match s.crossingAt f back with
  | none => s
  | some t =>
    if s.rail.feed ≠ f then s
    else
      let r := s.ripple f
      s.setRipple f (some t) (match r.last with
        | some l => ((t - l) :: r.periods).take 10
        | none => r.periods)

/-! ## Conversions (R366-R368, R375) -/

/-- The channels of the 40 slots (R366). -/
def slotChans : List Nat :=
  [0, 1, 2, 3] ++ (List.range 9).map (· + 4) ++ [0, 1, 2, 3] ++ (List.range 9).map (· + 13) ++ [0, 1, 2, 3] ++ (List.range 10).map (· + 22)

/-- The sequence goes on past the slots that open-wire tests take. -/
def skipTests (t : Tele) (fuel : Nat) : Tele :=
  match fuel with
  | 0 => t
  | n + 1 =>
    let ch := slotChans.getD t.slot 0
    match t.testing.get (fun _ => 0) ch with
    | 0 => t
    | k + 1 => skipTests { t with slot := (t.slot + 1) % 40, testing := t.testing.set (fun _ => 0) ch k } n

/-- The channel that the converter converts next. -/
def nextChannel (s : State) : Nat := slotChans.getD (skipTests s.tele 120).slot 0

/-- The converter goes on to the slot after the next conversion. -/
def nextSlot (s : State) : State :=
  s.updTele fun t => let t := skipTests t 120; { t with slot := (t.slot + 1) % 40 }

/-- A conversion: step detection, SHORT after a test (R368), the chain. -/
def convert (s : State) (ch code : Nat) : State :=
  let s := if s.stepSeen ch code then (s.startSettle ch).fcount .ftl 3 1 else s
  let c := s.tchan ch
  let isTh := decide (6 ≤ ch) && decide (ch ≤ 11)
  let sh := if c.shortDue && isTh then decide (code < 4) else c.shrt
  let found := sh && c.shortDue && isTh
  let s := s.setTchan ch { c with last := some code, shortDue := false, shrt := sh }
  let s := if found then s.fcount .ftl 1 1 else s
  (s.chain ch (8 * code)).reripple ch

/-- The open-wire test (R368): its three samples never enter the chain, which takes the last normal sample instead. -/
def openWire (s : State) (ch up down : Nat) : State :=
  if s.chF ch FTL.CHn.OW_EN = 0 then s
  else
    let o := decide (3072 ≤ up) && decide (down ≤ 1024)
    let s := if o then s.fcount .ftl 0 1 else s
    let s := s.updTchan ch fun c => { c with opn := o, shortDue := true }
    let s := s.updTele fun t => { t with testing := t.testing.set (fun _ => 0) ch 3 }
    match (s.tchan ch).last with
    | none => s
    | some code => ((s.chain ch (8 * code)).chain ch (8 * code)).chain ch (8 * code)

/-! ## Settings of FTL (R347, R371, R372, R386) -/

/-- Bits of a CHn whose change starts suppression (R375), and whose change closes the window (R376). -/
def settleBits : Word := 0x007FFFCF
def windowBits : Word := 0x0FFFFFCF

/-- A CHn word that the field island accepts. -/
def chOk (s : State) (ch : Nat) (v : Word) : Bool :=
  let filt := FTL.CHn.FILT.get v
  let slot := FTL.CHn.SLOT.get v
  let shared := (List.range 32).any fun j => j != ch && s.chF j FTL.CHn.FILT == 1 && s.chF j FTL.CHn.SLOT == slot
  filt != 3 && (filt != 2 || decide (ch < 4))
    && (FTL.CHn.OW_EN.get v == 0 || (decide (6 ≤ ch) && decide (ch ≤ 11)) || decide (28 ≤ ch))
    && FTL.CHn.RANK_WIN.get v != 7 && decide (FTL.CHn.RANK.get v < 2 * FTL.CHn.RANK_WIN.get v + 3)
    && decide (FTL.CHn.WIN.get v ≤ 20)
    && (filt != 1 || ((s.tele.slots.get (fun _ => none) slot).isSome && !shared))

/-- The settings map of the field island with a register given a word. -/
def setSetting (s : State) (p : Page) (off : Nat) (w : Word) : State :=
  s.updPub fun x => { x with settings := x.settings.set (resetWord s.part) (p.base + off) w }

/-- CHn is applied: changes start suppression and close the window; CLR_MINMAX empties the trackers, but is lost while
outputs are suppressed (R494). -/
def applyCh (s : State) (ch : Nat) (v : Word) : State :=
  let old := s.fieldWord .ftl (chOff ch)
  let new := v &&& 0x0FFFFFFF
  let s := if FTL.CHn.CLR_MINMAX.get v = 1 && (s.tchan ch).settle.isNone then
      s.updTchan ch fun c => { c with min := none, max := none }
    else s
  let s := if (old ^^^ new) &&& windowBits = 0 then s else s.closeWindow ch
  let s := s.setSetting .ftl (chOff ch) new
  if (old ^^^ new) &&& settleBits = 0 then s else s.startSettle ch

/-- Every channel that uses a slot settles anew: a coefficient load (R371, R375). -/
def coefLoad (s : State) (slot : Nat) : State :=
  (List.range 32).foldl (fun s ch =>
    if s.chF ch FTL.CHn.FILT = 1 && s.chF ch FTL.CHn.SLOT = slot then s.startSettle ch else s) s

/-- The descriptor that a COEF_PORT word gives. -/
def descriptor (v : Word) : FirSlot :=
  { base := FTL.COEF_PORT.BASE.get v, taps := FTL.COEF_PORT.TAPS.get v + 1, minphase := FTL.COEF_PORT.MINPHASE.get v == 1 }

/-- COEF_PORT is applied; false when the word is refused (R371). -/
def applyCoef (s : State) (v : Word) : Bool × State :=
  if FTL.COEF_PORT.KIND.get v = 0 then
    let a := FTL.COEF_PORT.ADDR.get v
    let s := s.updTele fun t => { t with coefs := t.coefs.set (fun _ => 0) a (v &&& 0xFFFF) }
    (true, (List.range 16).foldl (fun s i => match s.tele.slots.get (fun _ => none) i with
      | some d => if d.base ≤ a && a < d.base + d.taps then s.coefLoad i else s
      | none => s) s)
  else
    let d := descriptor v
    let i := FTL.COEF_PORT.SLOT.get v
    if 4096 < d.base + d.taps then (false, s)
    else (true, (s.updTele fun t => { t with slots := t.slots.set (fun _ => none) i (some d) }).coefLoad i)

/-- The hub sends a COEF_PORT write on and keeps its own copy (R347, R377). -/
def effCoefPort (v : Word) (s : State) : State :=
  if !s.hubEnd.up then s.mirrorRefuse 1 0x0A4
  else
    let seq := seqOn s.hubEnd.txSeq (s.hubEnd.waiting.length + 1)
    let s := effMirror .ftl 0x0A4 v s
    if FTL.COEF_PORT.KIND.get v = 0 then
      s.updSense fun x => { x with coefs := x.coefs.set (fun _ => 0) (FTL.COEF_PORT.ADDR.get v) (v &&& 0xFFFF) }
    else
      let d := descriptor v
      s.updSense fun x => { x with
        slots := if 4096 < d.base + d.taps then x.slots else x.slots.set (fun _ => none) (FTL.COEF_PORT.SLOT.get v) (some d)
        slotSeqs := x.slotSeqs ++ [seq] }

/-! ## The view (R376, R377, R386) -/

/-- The group delay of a channel in 1/16 input samples, from the mirrored configuration (R377). -/
def groupDelay (s : State) (ch : Nat) : Int × State :=
  let w := s.word .ftl (chOff ch)
  match FTL.CHn.FILT.get w with
  | 1 => match s.sense.slots.get (fun _ => none) (FTL.CHn.SLOT.get w) with
    | none => (0, s)
    | some d =>
      if !d.minphase then (8 * (d.taps - 1 : Nat), s)
      else
        let sum := (List.range d.taps).foldl (fun a k => a + coef s.sense.coefs (d.base + k)) 0
        let mom := (List.range d.taps).foldl (fun a k => a + k * coef s.sense.coefs (d.base + k)) (0 : Int)
        if sum = 0 then
          let (i, s) := s.draw
          ((Config.groupDelay i).toNat, s)
        else (roundHalfEven (16 * mom * sum.sign) sum.natAbs, s)
  | 2 => (16 * (FTL.CHn.RANK_WIN.get w + 1 : Nat), s)
  | _ => (0, s)

/-- The word of the captured record that VIEW_DATA shows. -/
def viewWord (x : Sense) (n : Nat) : Nat :=
  let sum := twos 48 x.view.sum
  match n with
  | 0 => sum % 2 ^ 32
  | 1 => sum / 2 ^ 32 + x.viewWin * 2 ^ 16
  | 2 => twos 16 x.view.min + twos 16 x.view.max * 2 ^ 16
  | 3 => x.view.count
  | 4 => x.view.flags
  | 5 => twos 16 x.viewDelay
  | _ => 0

/-- The mirrored record of a channel. -/
def mirrored (s : State) (ch : Nat) : TelRec := s.sense.recs.get TelRec.empty ch

/-- A write to VIEW_CTRL: CH, WORD, and CAPTURE of the mirrored record, taken whole; a record whose word in the mirror store is lost reads
0 until the next batch (14 "The FPW page"). -/
def effViewCtrl (v : Word) (s : State) : State :=
  let ch := FTL.VIEW_CTRL.CH.get v
  let s := (s.wr .ftl FTL.VIEW_CTRL.CH ch).wr .ftl FTL.VIEW_CTRL.WORD (FTL.VIEW_CTRL.WORD.get v)
  let s := if FTL.VIEW_CTRL.CAPTURE.get v = 1 then
      let (g, s) := s.groupDelay ch
      let win := FTL.CHn.WIN.get (s.word .ftl (chOff ch))
      let (bad, s) := s.useProt .ftl 0 ch
      (s.updSense fun x => { x with view := if bad then TelRec.none else s.mirrored ch, viewWin := win, viewDelay := g }).wb .ftl FTL.VIEW_CTRL.CAPTURED true
    else s
  s.wr .ftl FTL.VIEW_DATA.word (viewWord s.sense (FTL.VIEW_CTRL.WORD.get v))

/-! ## Batches (R344, R376) -/

/-- A channel's record as a batch carries it. -/
def telRec (s : State) (ch : Nat) : TelRec :=
  let c := s.tchan ch
  { ch := ch
    flags := c.settle.isSome.toNat + 2 * c.opn.toNat + 4 * c.shrt.toNat + 8 * c.recNew.toNat + 16 * c.recSat.toNat
    min := c.min.getD 0x7FFF, max := c.max.getD (-0x8000), sum := c.recSum, count := c.recCount }

/-- A batch is put on the link: two messages of 16 records. -/
def sendBatch (s : State) : State :=
  let rs := (List.range 32).map s.telRec
  let s := (List.range 32).foldl (fun s ch => s.updTchan ch fun c => { c with recNew := false }) s
  let a := if s.rail.feed = .a then s.tele.rippleA.n else 0
  let b := if s.rail.feed = .b then s.tele.rippleB.n else 0
  let n := a + b
  (s.toHub (.telemetryBatch (rs.take 16) (a != 0) (b != 0) n)).toHub (.telemetryBatch (rs.drop 16) (a != 0) (b != 0) n)

/-- The mirrored channel records and flags take a batch; FTL events follow their onsets (R346, R387). -/
def applyBatch (s : State) (rs : List TelRec) (ra rb : Bool) (n : Nat) : State :=
  let s := rs.foldl (fun s r =>
    let w := s.word .ftl (chOff r.ch)
    let w' := FTL.CHn.SHORT.put (FTL.CHn.OPEN.put (FTL.CHn.SETTLING.put w r.flags) (r.flags / 2)) (r.flags / 4)
    let was := (s.mirrored r.ch).flags
    let s := s.setWord .ftl (chOff r.ch) w'
    let s := s.updSense fun x => { x with recs := x.recs.set TelRec.empty r.ch r }
    let s := s.raiseIf (r.flags.testBit 1 && !was.testBit 1) .ftl 0
    let s := s.raiseIf (r.flags.testBit 2 && !was.testBit 2) .ftl 1
    s.raiseIf (r.flags.testBit 3 && r.flags.testBit 4) .ftl 2) s
  let lost := (s.bit .ftl FTL.FTL_CTRL.RIPPLE_A && !ra) || (s.bit .ftl FTL.FTL_CTRL.RIPPLE_B && !rb)
  let found := (!s.bit .ftl FTL.FTL_CTRL.RIPPLE_A && ra) || (!s.bit .ftl FTL.FTL_CTRL.RIPPLE_B && rb)
  let s := (s.wb .ftl FTL.FTL_CTRL.RIPPLE_A ra).wb .ftl FTL.FTL_CTRL.RIPPLE_B rb
  let s := (s.wb .ftl FTL.FTL_CTRL.CYCLE_SRC (n == 0)).wr .ftl FTL.FTL_CTRL.RIPPLE_N n
  let s := (s.raiseIf lost .ftl 3).raiseIf found .ftl 4
  let s := match rs with
    | r :: _ => s.protect .ftl 0 r.ch
    | [] => s
  if rs.any (·.ch == 31) then (s.updMirror fun m => { m with needTelem := false, telemAt := some s.time.toNat }).restale else s

end State

/-! ## Meanings -/

/-- TELEMETRY_CONVERSION (R366, R367): the converter takes its slots in their order; it makes no conversion of another channel than the slot's. -/
def execTelemetryConversion (ch : Fin 32) (code : BitVec 12) (s : State) : Host.Outcome State Fault Refusal :=
  s.done fun s => if s.fieldAwake && s.nextChannel == ch.val then s.nextSlot.convert ch.val code.toNat else s

/-- OPEN_WIRE_TEST (R368). -/
def execOpenWireTest (ch : Fin 32) (up down : BitVec 12) (s : State) : Host.Outcome State Fault Refusal :=
  s.done fun s => if s.fieldAwake then s.openWire ch.val up.toNat down.toNat else s

/-- SETTLE_END (R375): the settling length has passed. -/
def execSettleEnd (ch : Fin 32) (s : State) : Host.Outcome State Fault Refusal :=
  s.done fun s => if s.fieldAwake then s.updTchan ch.val fun c => { c with settle := c.settle.map fun _ => 0 } else s

/-- ACCUM_WINDOW_CLOSE (R376): the window closes at its end of time, once its output periods have passed. -/
def execAccumWindowClose (ch : Fin 32) (s : State) : Host.Outcome State Fault Refusal :=
  s.done fun s => if s.fieldAwake && s.windowOver ch.val then s.closeWindow ch.val else s

/-- COEF_PORT_WRITE (R371, R347): the host's write; the field island applies it when its SETTING_WRITE arrives. -/
def execCoefPortWrite (v : Word) (s : State) : Host.Outcome State Fault Refusal :=
  s.done fun s => s.gateReg .ftl 0x0A4 v (State.effCoefPort v)

/-- CLR_MINMAX (R376, R494): the host writes a channel's mirrored CHn with CLR_MINMAX. -/
def execClrMinmax (ch : Fin 32) (s : State) : Host.Outcome State Fault Refusal :=
  let v := FTL.CHn.CLR_MINMAX.put (s.word .ftl (State.chOff ch.val) &&& 0x0FFFFFFF) 1
  s.done fun s => s.gateReg .ftl (State.chOff ch.val) v (State.effMirror .ftl (State.chOff ch.val) v)

/-- TELEM_VIEW_CAPTURE (R386). -/
def execTelemViewCapture (v : Word) (s : State) : Host.Outcome State Fault Refusal :=
  s.done fun s => s.gateReg .ftl 0x0A8 v (State.effViewCtrl v)

/-- RIPPLE_CROSSING (R379): the crossing lies so many samples back. -/
def execRippleCrossing (f : Feed) (back : Nat) (s : State) : Host.Outcome State Fault Refusal :=
  s.done fun s => if s.fieldAwake then s.crossing f back else s

end Sys2Proof.Machine
end

