-- ==== Sys2Proof/Machine/Sensor.lean ====
section
/-! DEFINITION. Ring-oscillator sensors, zones, bands (R380-R383, R388, R389). -/
namespace Sys2Proof.Machine

open Sys2Proof Reg

/-! ## Sensors and zones (R380, R381) -/

/-- The die of a zone (R380), numbered as ZONE_STATUS.DIE. -/
def zoneDie (z : Nat) : Nat := if z < 16 then z / 4 else if z < 28 then 4 else if z < 30 then 5 else 6

/-- The zones of a die. -/
def dieZones (d : Nat) : List Nat := (List.range 32).filter fun z => zoneDie z == d

/-- A sensor is BROKEN by its count (R380): 0, below 20 % or above 200 % of its count at 25 degrees. -/
def sensorBroken (i count : Nat) : Bool :=
  count == 0 || decide (5 * count < Config.trim25 i) || decide (2 * Config.trim25 i < count)

/-- A sensor's temperature in 0.5 degrees, linear through its trim points (R380). -/
def sensorTemp (i count : Nat) : Int :=
  let c25 : Int := Config.trim25 i
  let c105 : Int := Config.trim105 i
  let t := 50 + roundHalfEven (160 * ((count : Int) - c25) * (c105 - c25).sign) (c105 - c25).natAbs
  max (-512) (min 511 t)

/-- The median of three, one of them out of use: the hotter of the others; two or more out: 150 degrees (R381). -/
def zoneMedian (sensors : List Int) (out : Nat) : Int :=
  let live := ((List.range 3).filter fun j => !out.testBit j).map fun j => sensors.getD j 0
  match live with
  | [a, b, c] => max (min a b) (min (max a b) c)
  | [a, b] => max a b
  | _ => 300

/-- Lower bound of a band, degrees (R383). -/
def bandBound (b : Nat) : Int := match b with
  | 0 => -300
  | 1 => 50
  | 2 => 80
  | _ => 100

namespace State

def zone (s : State) (z : Nat) : Zone := s.sense.zones.get (fun _ => Zone.reset) z
def setZone (s : State) (z : Nat) (x : Zone) : State :=
  s.updSense fun q => { q with zones := q.zones.set (fun _ => Zone.reset) z x }

/-- A die's rails are on: the host side is powered for it, and no trip has removed them. -/
def railsOn (s : State) (d : Nat) : Bool :=
  (if d = 4 then decide (s.start.power ≠ .off) else decide (s.start.power = .all))
    && !(s.rd .tsn TSN.SHUTDOWN.OFF).testBit d

/-- A die's temperature: its hottest zone, lowest number first, in 0.5 degrees (R381). -/
def dieHot (s : State) (d : Nat) : Nat × Int :=
  (dieZones d).foldl (fun a z => let m := (s.zone z).median; if a.2 < m then (z, m) else a) ((dieZones d).headD 0, -1024)

/-- Whole degrees for DIE_TEMP: 0-255. -/
def wholeDeg (t : Int) : Nat := (min 255 (max 0 (t / 2))).toNat

/-- DIE_TEMP, HOTTEST, BROKEN_MAP and HOT_MAP follow the zones of the dies whose rails are on. -/
def rezone (s : State) : State :=
  let on := (List.range 32).filter fun z => s.railsOn (zoneDie z)
  let temp (d : Nat) : Nat := if s.railsOn d then wholeDeg (s.dieHot d).2 else 0
  let hottest := (on.foldl (fun (a : Nat × Int) z => let m := (s.zone z).median; if a.2 < m then (z, m) else a) (0, -1024)).1
  let bits (f : Zone → Bool) : Nat := on.foldl (fun a z => if f (s.zone z) then a + 2 ^ z else a) 0
  let s := s.wr .tsn TSN.DIE_TEMP_LO.word (temp 0 + temp 1 * 2 ^ 8 + temp 2 * 2 ^ 16 + temp 3 * 2 ^ 24)
  let s := (s.wr .tsn TSN.DIE_TEMP_HI.HB (temp 4)).wr .tsn TSN.DIE_TEMP_HI.HD0 (temp 5)
  let s := (s.wr .tsn TSN.DIE_TEMP_HI.HD1 (temp 6)).wr .tsn TSN.DIE_TEMP_HI.HOTTEST hottest
  (s.wr .tsn TSN.BROKEN_MAP.word (bits fun z => z.broken ||| z.disagree != 0)).wr .tsn TSN.HOT_MAP.word
    (bits fun z => decide (250 ≤ z.median))

/-- A sensor's new reading: its trim word is used (R389), and it is BROKEN by its count or by an uncorrectable trim. -/
def readSensor (s : State) (i count : Nat) : (Int × Bool) × State :=
  let (bad, s) := s.useProt .tsn 0 i
  if bad then ((300, true), s.protect .tsn 0 i)
  else if sensorBroken i count then ((300, true), s) else ((sensorTemp i count, false), s)

/-- A zone takes new readings (R380, R381). -/
def readZone (s : State) (z : Nat) (counts : List Nat) : State :=
  let old := s.zone z
  let (rs, s) := (List.range 3).foldl (fun (a : List (Int × Bool) × State) j =>
    let (r, s) := a.2.readSensor (3 * z + j) (counts.getD j 0)
    (a.1 ++ [r], s)) ([], s)
  let broken := (List.range 3).foldl (fun a j => if (rs.getD j (0, false)).2 then a + 2 ^ j else a) 0
  let temps := rs.map (·.1)
  let m := zoneMedian temps (broken ||| old.disagree)
  let s := s.setZone z { old with sensors := temps, broken := broken, median := m }
  let onsets := popCount 3 (broken &&& (7 ^^^ old.broken))
  if onsets = 0 then s else (s.count .tsn 0 onsets).raise .tsn 0

/-- A zone is evaluated and at or above WARN_TEMP (R388). -/
def warm (s : State) (z : Nat) : Bool :=
  s.railsOn (zoneDie z) && decide (2 * (s.rd .tsn TSN.TSN_CTRL.WARN_TEMP : Int) ≤ (s.zone z).median)

/-- HOT_WARN when a zone has come to WARN_TEMP since a state before, by its temperature or by the level itself (R388, R389). -/
def hotWarn (s0 s : State) : State := s.raiseIf ((List.range 32).any fun z => s.warm z && !s0.warm z) .tsn 2

/-- A window of all sensors; zones of a die without rails are not evaluated. -/
def senseWindow (s : State) (counts : List Nat) : State :=
  (hotWarn s ((List.range 32).foldl (fun s z =>
    if s.railsOn (zoneDie z) then s.readZone z ((counts.drop (3 * z)).take 3) else s) s)).rezone

/-- Two sensors agree within 15 degrees (R382). -/
def agree (a b : Int) : Bool := decide ((a - b).natAbs ≤ 30)

/-- A sensor begins or ceases to DISAGREE (R382). -/
def disagreeTurn (s : State) (z j : Nat) : State :=
  let x := s.zone z
  let me := x.sensors.getD j 0
  let a := x.sensors.getD ((j + 1) % 3) 0
  let b := x.sensors.getD ((j + 2) % 3) 0
  let flagged := x.disagree.testBit j
  let set (s : State) (on : Bool) : State :=
    let dg := putBit x.disagree j on
    (hotWarn s (s.setZone z { x with disagree := dg, median := zoneMedian x.sensors (x.broken ||| dg) })).rezone
  if !s.railsOn (zoneDie z) then s
  else if flagged then if agree me a || agree me b then set s false else s
  else if s.bit .tsn TSN.TSN_CTRL.XCHECK_EN && !agree me a && !agree me b && agree a b then
    ((set s true).count .tsn 1 1).raise .tsn 1
  else s

/-! ## Bands (R383, R324) -/

/-- The band of a die. -/
def band (s : State) (d : Nat) : Nat := s.rd .tsn TSN.BANDS.word / 4 ^ d % 4

/-- A die's band changes: its governor's cap (R324, R339), the D37 ceiling, THERMAL_NOTICE kind 2. -/
def setBand (s : State) (d b : Nat) : State :=
  let old := s.band d
  let s := s.wr .tsn TSN.BANDS.word (s.rd .tsn TSN.BANDS.word - old * 4 ^ d + b * 4 ^ d)
  let s := if d ≤ 4 then
      ((s.setGov d VSQ.GOV_LD0.BAND b).recap d).raiseIf (bandCap b < bandCap old) .vsq 4
    else s
  let s := if d = 4 then
      ((s.wr .vsq VSQ.GOV_STATUS.HB_BAND b).wr .vsq VSQ.MGMT_OP.CEILING (if b = 3 then 1 else 0)).moveOp
    else s
  let (z, t) := s.dieHot d
  ((s.count .tsn 3 1).raise .tsn 5).toField (.thermalNotice d z 2 b (5 * t))

end State

/-! ## Meanings -/

/-- SENSOR_WINDOW (R380, R381). -/
def execSensorWindow (readings : List Nat) (s : State) : Host.Outcome State Fault Refusal :=
  s.done fun s => if s.hubAlive then s.senseWindow readings else s

/-- DISAGREE_FLAG (R382). -/
def execDisagreeFlag (z : Fin 32) (sensor : Fin 3) (s : State) : Host.Outcome State Fault Refusal :=
  s.done fun s => if s.hubAlive then s.disagreeTurn z.val sensor.val else s

/-- BAND_RISE (R383): sixteen windows at or above the higher band's lower bound. -/
def execBandRise (die : Fin 7) (s : State) : Host.Outcome State Fault Refusal :=
  s.done fun s =>
    let b := s.band die.val
    if s.hubAlive && s.railsOn die.val && decide (b < 3) && decide (2 * bandBound (b + 1) ≤ (s.dieHot die.val).2) then
      s.setBand die.val (b + 1)
    else s

/-- BAND_FALL (R383): 1 s more than 3 degrees below the band's lower bound. -/
def execBandFall (die : Fin 7) (s : State) : Host.Outcome State Fault Refusal :=
  s.done fun s =>
    let b := s.band die.val
    if s.hubAlive && s.railsOn die.val && decide (0 < b) && decide ((s.dieHot die.val).2 < 2 * (bandBound b - 3)) then
      s.setBand die.val (b - 1)
    else s

end Sys2Proof.Machine
end

