-- ==== Sys2Proof/Machine/Setting.lean ====
section
/-! DEFINITION. What the field island does with a proof, a setting and a field image (R45-R48, R347, R361, R362, R422). -/
namespace Sys2Proof.Machine

open Sys2Proof Reg

namespace State

/-! ## Proofs (R45-R48) -/

/-- The 13-byte message of a proof (R45). -/
def proofMessage (nonce : BitVec 64) (role : Nat) (counter : BitVec 32) : List Byte :=
  bytesBE 8 nonce.toNat ++ [BitVec.ofNat 8 role] ++ bytesBE 4 counter.toNat

/-- A role key as bytes. -/
def keyBytes (k : BitVec 256) : List Byte := bytesBE 32 k.toNat

/-- A proof is right: a role key by vote, the stored counter, the MAC (R45, R293). -/
def proofRight (s : State) (role : Nat) (nonce : BitVec 64) (counter stored : BitVec 32) (proof : List Byte) : Bool :=
  match s.roleKey role with
  | none => false
  | some k => counter == stored && Crypto.hmac (keyBytes k) (proofMessage nonce role counter) == proof

/-- A failed proof on an interface (R48): the fifth in a row locks it, each time twice as long, up to 3,600 s. -/
def lockFail (l : Lock) : Lock :=
  if 4 ≤ l.failRun then { l with failRun := 0, remain := l.nextLen, nextLen := min (2 * l.nextLen) 3600 }
  else { l with failRun := l.failRun + 1 }

/-- A passed proof (R46, R48). -/
def lockPass (l : Lock) : Lock := { l with counter := l.counter + 1, failRun := 0, nextLen := 60 }

/-! ## Field images (R361, R364) -/

/-- The length and the version that the header of a field image states. -/
def imgLen (img : List Byte) : Nat := natBE (img.take 4)
def imgVer (img : List Byte) : Nat := natBE ((img.drop 4).take 2)

/-- An image chunk is stored (R361) at its place behind the bytes that came before; an image of more than 262,144 bytes fails; verification
starts once the stated length has arrived. -/
def takeChunk (s : State) (off : Nat) (bytes : List Byte) : State :=
  let f := s.field
  if f.pub.imgState ≠ 1 || off ≠ f.img.length then s
  else
    let img := f.img ++ bytes
    let st := if 262144 < imgLen img || 262144 + 3 < img.length then 5 else if imgLen img ≤ img.length then 2 else 1
    { s with field := { f with img := img, pub := { f.pub with imgState := st } } }

/-- The signature of the loaded image, over its stated length, verifies (R361). -/
def imageSigned (s : State) : Bool := Crypto.signed (s.field.img.take (imgLen s.field.img))

/-- IMAGE_CTRL on the field side: two of BEGIN, ACTIVATE and ABORT together are ignored. -/
def applyImageCtrl (s : State) (v : Word) : Nat × State :=
  match FBR.IMAGE_CTRL.BEGIN.get v, FBR.IMAGE_CTRL.ACTIVATE.get v, FBR.IMAGE_CTRL.ABORT.get v with
  | 1, 0, 0 => (0, s.updField fun f => { f with img := [], pub := { f.pub with imgState := 1, imgSpare := false } })
  | 0, 1, 0 =>
    if s.field.pub.imgState ≠ 3 then (2, s)
    else
      let s := s.updField fun f => { f with imgRestart := true, imgBeats := 3, pub := { f.pub with imgState := 4 } }
      (0, { s with rail := { s.rail with up := false } })
  | 0, 0, 1 =>
    if s.field.pub.imgState = 4 then (0, s)
    else (0, s.updField fun f => { f with
      img := [], pub := { f.pub with imgState := 0, imgSpare := f.pub.imgState = 0 && f.pub.imgSpare } })
  | _, _, _ => (0, s)

/-! ## Settings (R347, R362, R422) -/

/-- PHASE_CTRL on the field side: AUTO_SPARE, and REPLACE under reason 4; a refusal changes nothing (R347). -/
def applyPhaseCtrl (s : State) (v : Word) : Nat × State :=
  let i := FPW.PHASE_CTRL.PHASE.get v
  let free := (List.range 26).any fun j => (s.phase j).st == .spare
  let replace := FPW.PHASE_CTRL.REPLACE.get v == 1
  if replace && (!free || decide (26 ≤ i) || decide ((s.phase i).st ≠ .working)) then (2, s)
  else
    let s := s.setSetting .fpw 0x044 (FPW.PHASE_CTRL.AUTO_SPARE.put (s.fieldWord .fpw 0x044) (FPW.PHASE_CTRL.AUTO_SPARE.get v))
    (0, if replace then s.replacePhase i 4 else s)

/-- RL_CTRL, RL_NET and RL_TUNE values that the field island accepts (R422). -/
def railOk (off : Nat) (v : Word) : Bool :=
  match off with
  | 0x020 => FRL.RL_CTRL.ROLE.get v != 3 && FRL.RL_CTRL.WAKE_CYCLES.get v != 0
  | 0x024 => decide (1 ≤ FRL.RL_NET.NODE_ID.get v) && decide (FRL.RL_NET.NODE_ID.get v ≤ 0xFFE)
  | 0x028 => decide (2 ≤ FRL.RL_TUNE.STRAIN_K.get v) && decide (3 ≤ FRL.RL_TUNE.CAPTURE_MARGIN.get v)
      && decide (FRL.RL_TUNE.TM_MARGIN.get v ≤ 40) && decide (FRL.RL_TUNE.CS_LEVEL.get v ≤ 60)
  | _ => true

/-- A setting applied by the field island for a writer's role: 0, or the reason of refusal (R347, SETTING_STATUS). -/
def applySetting (s : State) (page role off : Nat) (v : Word) : Nat × State :=
  let keep (p : Page) (m : Word) : Nat × State :=
    (0, s.setSetting p off ((s.fieldWord p off &&& ~~~m) ||| (v &&& m)))
  match page, off with
  | 0, 0x044 => s.applyPhaseCtrl v
  | 0, 0x048 => (0, s.stepStores.setSetting .fpw 0x048 ((s.fieldWord .fpw 0x048 &&& ~~~3) ||| (v &&& 3)))
  | 1, 0x0A0 => keep .ftl 0x00FFFFFF
  | 1, 0x0A4 =>
    let (ok, s) := s.applyCoef v
    (if ok then 0 else 2, s)
  | 2, 0x020 => if railOk off v then keep .frl 0xFF1F else (2, s)
  | 2, 0x024 => if railOk off v then keep .frl 0x0FFFFFFF else (2, s)
  | 2, 0x028 => if railOk off v then keep .frl 0x00FFFFFF else (2, s)
  | 2, 0x058 => keep .frl 0x01000000
  | 3, 0x038 => if role < 3 then (1, s) else s.applyImageCtrl v
  | 1, o =>
    if 0x20 ≤ o && o < 0xA0 && o % 4 = 0 then
      if s.chOk ((o - 0x20) / 4) v then (0, s.applyCh ((o - 0x20) / 4) v) else (2, s)
    else (if (regRow .ftl o).isSome then 1 else 5, s)
  | 0, o => (if (regRow .fpw o).isSome then 1 else 5, s)
  | 2, o => (if (regRow .frl o).isSome then 1 else 5, s)
  | 3, o => (if (regRow .fbr o).isSome then 1 else 5, s)
  | _, _ => (5, s)

end State
end Sys2Proof.Machine
end

