-- ==== Sys2Proof/Machine/RailOps.lean ====
section
/-! DEFINITION. What the rail channel's commands share: frames, tags, the neighbour table, reception checks, the sequence
window, sessions and services (R390-R420, R500). -/
namespace Sys2Proof.Machine

open Sys2Proof Reg

/-! ## Frame control (R393) -/

/-- CRC-16, polynomial 0x1021, preset all ones, over the 80 bits [95:16]. -/
def fccs (fc : BitVec 96) : BitVec 16 :=
  (bitsOf 80 (fc.toNat / 65536)).foldl (fun c b =>
    let top := c.getLsbD 15 != b
    if top then (c <<< 1) ^^^ 0x1021 else c <<< 1) 0xFFFF

/-- Bits of a frame control field. -/
def fcBits (fc : BitVec 96) (lo w : Nat) : Nat := fc.toNat / 2 ^ lo % 2 ^ w

def fcNet (fc : BitVec 96) : Nat := fcBits fc 80 16
def fcSrc (fc : BitVec 96) : Nat := fcBits fc 68 12
def fcDst (fc : BitVec 96) : Nat := fcBits fc 56 12
def fcType (fc : BitVec 96) : Nat := fcBits fc 52 4
def fcTmi (fc : BitVec 96) : Nat := fcBits fc 48 4
def fcSeq (fc : BitVec 96) : Nat := fcBits fc 29 8
def fcAckReq (fc : BitVec 96) : Bool := fcBits fc 28 1 == 1
def fcMore (fc : BitVec 96) : Bool := fcBits fc 27 1 == 1
def fcHops (fc : BitVec 96) : Nat := fcBits fc 25 2
def fcKid (fc : BitVec 96) : Nat := fcBits fc 16 8

/-- A frame control field with its check. -/
def mkFc (net src dst typ tmi rate nsym seq ackReq more hops kid : Nat) : BitVec 96 :=
  let n := net % 65536 * 2 ^ 80 + src % 4096 * 2 ^ 68 + dst % 4096 * 2 ^ 56 + typ % 16 * 2 ^ 52 + tmi % 16 * 2 ^ 48
    + rate % 2 * 2 ^ 47 + nsym % 1024 * 2 ^ 37 + seq % 256 * 2 ^ 29 + ackReq % 2 * 2 ^ 28 + more % 2 * 2 ^ 27 + hops % 4 * 2 ^ 25
    + kid % 256 * 2 ^ 16
  BitVec.ofNat 96 (n + (fccs (BitVec.ofNat 96 n)).toNat)

/-- Payload symbols of so many bytes, tag and check included (R391, R394). -/
def symbols (bytes : Nat) (m : Option ToneMap) : Nat :=
  match m with
  | none => 2 * ceilDiv (8 * bytes) 48
  | some t => ceilDiv (ceilDiv (8 * bytes) (if t.rate then 960 else 576) * 1152) t.nbps

/-- The route header (R394). -/
def routeHeader (origin final hops : Nat) : List Byte :=
  bytesBE 4 (origin % 4096 * 2 ^ 20 + final % 4096 * 2 ^ 8 + hops % 4 * 2 ^ 6)

/-- The service header (R394). -/
def svcHeader (svc op flags msg : Nat) : List Byte :=
  [BitVec.ofNat 8 svc, BitVec.ofNat 8 op, BitVec.ofNat 8 flags, 0] ++ bytesBE 4 msg

/-- FINAL of a payload. -/
def finalOf (payload : List Byte) : Nat := natBE (payload.take 4) / 256 % 4096

/-- A byte of a list as a number. -/
def byteAt (l : List Byte) (i : Nat) : Nat := (l.getD i 0).toNat

/-! ## Tone maps (R397) -/

/-- Code of the best modulation for an SNR in 0.25 dB with a margin: thresholds of rate 1/2, or 3.5 dB more. -/
def toneCode (rate : Bool) (margin snr : Nat) : Nat :=
  let up := margin + if rate then 14 else 0
  if 72 + up ≤ snr then 4 else if 48 + up ≤ snr then 3 else if 24 + up ≤ snr then 2 else if 12 + up ≤ snr then 1 else 0

/-- The map derived from per-tone SNR, or none where it carries less than 24 bits a symbol (R397). -/
def deriveMap (margin tmi : Nat) (snr : List Nat) : Option ToneMap :=
  let mk (rate : Bool) : ToneMap :=
    let cs := (List.range 96).map fun i => toneCode rate margin (snr.getD i 0)
    { tmi := tmi, rate := rate, nbps := cs.foldl (fun a c => a + toneBits c) 0, codes := cs }
  let lo := mk false
  let hi := mk true
  let pick := if lo.nbps * 3 < hi.nbps * 5 then hi else lo
  if (if pick.rate then pick.nbps * 5 < 24 * 6 else pick.nbps < 48) then none else some pick

/-- NBPS x rate in quarters of a bit, as a report carries it (R411). -/
def mapRate (m : Option ToneMap) : Nat :=
  match m with
  | none => 6
  | some t => (if t.rate then t.nbps * 5 / 6 else t.nbps / 2) / 4

/-- TONE_MAP payload (R398). -/
def mapBytes (m : ToneMap) : List Byte :=
  let bits := m.codes.flatMap (bitsOf 3)
  [BitVec.ofNat 8 m.tmi, BitVec.ofNat 8 m.rate.toNat] ++ bytesBE 2 m.nbps
    ++ (List.range 36).map fun i => BitVec.ofNat 8 (natBits ((bits.drop (8 * i)).take 8))

/-- The map that a TONE_MAP payload spells. -/
def readMap (b : List Byte) : ToneMap :=
  let bits := bitsBE (b.drop 4)
  { tmi := byteAt b 0 % 16, rate := byteAt b 1 == 1, nbps := natBE ((b.drop 2).take 2),
    codes := (List.range 96).map fun i => natBits ((bits.drop (3 * i)).take 3) }

namespace State

def updRail (s : State) (f : Rail → Rail) : State := { s with rail := f s.rail }

/-- A rail counter goes up (R460, R461). -/
def rcount (s : State) (idx : Nat) : State :=
  s.updRail fun r => { r with cnt := r.cnt.set (fun _ => 0) idx (min (r.cnt.get (fun _ => 0) idx + 1) (2 ^ 40 - 1)) }

/-- An FRL event is shown in the next record (R423). -/
def railEvent (s : State) (b : Nat) : State := s.updRail fun r => { r with evts := putBit r.evts b true }

/-- An 8-bit count goes up, saturating. -/
def up8 (n : Nat) : Nat := min (n + 1) 255

def countStranger (s : State) : State := ((s.updRail fun r => { r with stranger := up8 r.stranger }).rcount 3).railEvent 6
def countReplay (s : State) : State := ((s.updRail fun r => { r with replay := up8 r.replay }).rcount 4).railEvent 7
def countSendLost (s : State) : State := ((s.updRail fun r => { r with sendLost := up8 r.sendLost }).rcount 13).railEvent 8

/-- The modem runs. -/
def modemOn (s : State) : Bool := s.start.fieldUp && s.rail.up

/-- NODE_ID in force, and the address used on a hop: 0x000 while this node is master. -/
def nodeId (s : State) : Nat := FRL.RL_NET.NODE_ID.get s.rail.net
def ownAddr (s : State) : Nat := if s.rail.acting = 0 then s.nodeId else 0

/-- The node is sleepy: its host side is off (R413). -/
def sleepy (s : State) : Bool := decide (s.start.power = .off) && s.rail.key.isSome

/-- The node is a member: it holds a network key (R408). -/
def member (s : State) : Bool := s.rail.key.isSome

/-! ## The neighbour table (R398) -/

def nbr (s : State) (i : Nat) : Option Nbr := s.rail.nbrs.get (fun _ => none) i
def setNbr (s : State) (i : Nat) (n : Option Nbr) : State :=
  s.updRail fun r => { r with nbrs := r.nbrs.set (fun _ => none) i n }

/-- The entry of a node. -/
def nbrOf (s : State) (node : Nat) : Option Nat :=
  (List.range 32).find? fun i => match s.nbr i with
    | some n => n.node == node
    | none => false

/-- An entry changed. -/
def updNbr (s : State) (i : Nat) (f : Nbr → Nbr) : State :=
  match s.nbr i with
  | some n => s.setNbr i (some (f n))
  | none => s

/-- The entry that a new neighbour takes: a free one, else the least recently heard that is neither parent nor child. -/
def victim (s : State) : Option Nat :=
  match (List.range 32).find? fun i => (s.nbr i).isNone with
  | some i => some i
  | none =>
    ((List.range 32).foldl (fun (a : Option (Nat × Nat)) i => match s.nbr i with
      | some n =>
        if n.node = s.rail.parent || s.rail.children.contains n.node then a
        else match a with
          | some (_, h) => if n.heardAt < h then some (i, n.heardAt) else a
          | none => some (i, n.heardAt)
      | none => a) none).map (·.1)

/-- A neighbour enters the table at first contact; both its sequence numbers start at 0 (R409). -/
def meetNbr (s : State) (node : Nat) : State :=
  if (s.nbrOf node).isSome then s
  else match s.victim with
    | some i => s.setNbr i (some (Nbr.reset node s.tele.now))
    | none => s

/-- The network key that a KID names. -/
def netKey (s : State) (kid : Nat) : Option (BitVec 256) :=
  match s.rail.key, s.rail.keyPrev with
  | some (k, v), p => if k = kid then some v else match p with
    | some (k', v') => if k' = kid then some v' else none
    | none => none
  | none, some (k', v') => if k' = kid then some v' else none
  | none, none => none

/-- The tag of a payload under a key: the first 8 bytes of its MAC (R408). -/
def tagOf (key : BitVec 256) (payload : List Byte) : BitVec 64 :=
  BitVec.ofNat 64 (natBE ((Crypto.hmac (keyBytes key) payload).take 8))

/-! ## Sending -/

/-- The payload, KID and tag of a frame of this node's own: 0 untagged, 1 under the network key, 2 under the session key. -/
def sealed (s : State) (key : Nat) (payload : List Byte) : Nat × BitVec 64 :=
  match key, s.rail.key, s.rail.session with
  | 1, some (kid, k), _ => (kid, tagOf k payload)
  | 2, _, some x => (255, tagOf x.key payload)
  | _, _, _ => (0, 0)

/-- A frame goes out on the coupled feed, and is counted. -/
def sendRail (s : State) (fc : BitVec 96) (payload : List Byte) (tag : BitVec 64) (map : Option ToneMap) : State :=
  (s.emit (.rail s.rail.feed fc payload tag (railSymbols fc payload tag map))).rcount 0

/-- A frame goes out on the coupled feed; robust frames and frames to a neighbour without a map use no map (R395, R398). -/
def railOut (s : State) (dst typ seq : Nat) (ack more : Bool) (key : Nat) (payload : List Byte) : State :=
  let robust := typ == 0 || typ == 1 || (4 ≤ typ && typ ≤ 7) || typ == 9
  let map := if robust then none else (s.nbrOf dst).bind fun i => (s.nbr i).bind (·.txMap)
  let (kid, tag) := s.sealed key payload
  let bytes := payload.length + (if kid = 0 then 0 else 8) + 4
  let nsym := if typ = 4 || typ = 5 then 0 else if typ = 6 then 8 else symbols bytes map
  let fc := mkFc (FRL.RL_NET.NET_ID.get s.rail.net) s.ownAddr dst typ ((map.map (·.tmi)).getD 0) ((map.map (·.rate.toNat)).getD 0)
    nsym seq ack.toNat more.toNat s.rail.hops kid
  s.sendRail fc payload tag map

/-- The neighbour to which a frame for a node goes first: the master sends along the member's route, others to their child or
parent (R404, R411, R412). -/
def nextHop (s : State) (final : Nat) : Nat :=
  if s.rail.acting ≠ 0 then
    match s.rail.members.find? (·.node == final) with
    | some m => m.route.headD final
    | none => final
  else if s.rail.children.contains final then final else s.rail.parent

/-- A frame of this node's own is sent to the next hop as its one unacknowledged frame there (R404). -/
def sendFrame (s : State) (f : RFrame) (more : Bool) : State :=
  let hop := s.nextHop f.final
  let s := s.meetNbr hop
  let payload := routeHeader s.ownAddr f.final 0 ++ f.body
  match s.nbrOf hop with
  | none => s.railOut hop f.typ 0 true more f.key payload
  | some i =>
    let seq := ((s.nbr i).map (·.txSeq)).getD 0
    let s := s.railOut hop f.typ seq true more f.key payload
    let s := s.updNbr i fun n => { n with txSeq := (seq + 1) % 256, unacked := some { frame := f, seq := seq, sends := 1 } }
    s.updRail fun r => { r with awaiting := some i }

/-- The unacknowledged frame of a neighbour is sent again under its SEQ. -/
def resendTo (s : State) (i : Nat) : State :=
  match s.nbr i with
  | some n => match n.unacked with
    | some u =>
      let s := (s.railOut n.node u.frame.typ u.seq true false u.frame.key
        (routeHeader s.ownAddr u.frame.final 0 ++ u.frame.body)).rcount 14
      let s := s.updNbr i fun n => { n with resends := up8 n.resends, unacked := some { u with sends := u.sends + 1 } }
      s.updRail fun r => { r with awaiting := some i }
    | none => s
  | none => s

/-- A message of this node's own waits for its next opportunity; host data beyond 16 frames is lost (R420). -/
def queueOut (s : State) (f : RFrame) : State :=
  if f.host && decide (16 ≤ s.rail.out.countP (·.host)) then s.countSendLost
  else s.updRail fun r => { r with out := r.out ++ [f] }

/-! ## Reports of this node (R411, R418) -/

/-- The content of a STATUS report (R418). -/
def statusBody (s : State) : List Byte :=
  let p := s.report
  let level := if s.start.power = .off then (if s.start.fieldUp then 1 else 0) else s.field.hostLevel
  let dev := if s.start.power = .off then 0xFF else if s.start.kettle then 3 else if s.start.attempt.isSome then 0
    else if level = 4 then 1 else if level = 3 then 2 else 5
  let flags := (s.start.kettle || s.start.deepKettle).toNat + 2 * s.fieldEnd.up.toNat + 4 * p.thermLocked.toNat + 8 * p.deep.toNat
  let va := p.feedA.st == .valid
  let vb := p.feedB.st == .valid
  let feedAlarm := (!va && !vb) || (va != vb && s.fset .fpw FPW.FEED_CFG.SINGLE_ALARM == 1)
  let alarm := (!s.fieldEnd.up).toNat + 2 * (decide (level ≤ 2)).toNat + 4 * (decide (s.tele.trips ≠ 0)).toNat + 8 * feedAlarm.toNat
    + 16 * s.start.kettle.toNat
  ([level, dev, p.cause + 128 * p.deep.toNat, p.attempts, alarm, feedCode p.feedA.st + 16 * feedCode p.feedB.st, convCode p.conv,
    workingPhases p.phases, sparesLeft p.phases, flags, p.noMajority, s.field.inputs,
    (match s.rail.feed with | .a => 0 | .b => 1)].map (BitVec.ofNat 8)) ++ bytesBE 2 s.rail.parent

/-- The number of this node's next message in the rail session, 0 outside one (R410). -/
def nextMsg (s : State) : Nat := (s.rail.session.map fun x => x.txMsg + 1).getD 0

/-- An unprompted STATUS report waits to be sent (R410, R418): to the session peer under the session key, else to the master. -/
def queueStatus (s : State) : State :=
  let b := s.statusBody
  let peer := (s.rail.session.map (·.peer)).getD 0
  let key := if s.rail.session.isSome then 2 else 1
  (s.queueOut { typ := 3, final := peer, key := key, host := false, body := svcHeader 1 2 0 s.nextMsg ++ b }).updRail fun r =>
    { r with lastStatus := b, statusAge := 0, session := r.session.map fun x => { x with txMsg := x.txMsg + 1 } }

/-- Mean received SNR of a neighbour. -/
def meanSnr (n : Nbr) : Nat := n.tones.foldl (· + ·) 0 / n.tones.length

/-- The report of a lost parent (R414): the cycles that the loss lasted, and the feed. -/
def lossBytes (s : State) : List Byte :=
  if s.rail.lossReport then bytesBE 2 s.rail.lossLen ++ [(match s.rail.feed with | .a => 0 | .b => 1 : Byte)] else []

/-- An LQR (R411): up to 32 neighbours heard in the last 20 cycles; the report of a lost parent stands after them. -/
def lqrBody (s : State) : List Byte :=
  ((((List.range 32).filterMap s.nbr).filter fun n => n.frames != 0 || n.errs != 0).flatMap fun n =>
    bytesBE 2 n.node ++ [BitVec.ofNat 8 (min (meanSnr n) 255), BitVec.ofNat 8 (min (mapRate n.rxMap) 255), BitVec.ofNat 8 (min n.frames 255),
      BitVec.ofNat 8 (min n.errs 255)]) ++ s.lossBytes

/-- The entries of an LQR payload. -/
def readLqr (b : List Byte) (n : Nat) : List LqrEntry :=
  (List.range n).map fun i =>
    let e := b.drop (6 * i)
    { node := natBE (e.take 2) % 4096, snr := byteAt e 2, rate := byteAt e 3, frames := byteAt e 4, errs := byteAt e 5 }

/-- The MAC state (RL_STATUS). -/
def macState (s : State) : Nat :=
  if !s.modemOn then 0
  else if s.rail.acting = 1 then 6 else if s.rail.acting = 2 then 7
  else if s.rail.parentLost then 5
  else if s.sleepy then 4
  else if s.member then 3
  else if s.rail.found then 2 else 1

/-! ## Reception (R390-R396, R399-R400, R407, R409) -/

/-- The map of a neighbour that a frame's control names; none in robust mode (R393, R398). -/
def mapNamed (s : State) (fc : BitVec 96) : Option ToneMap :=
  if fcTmi fc = 0 then none
  else ((s.nbrOf (fcSrc fc)).bind s.nbr).bind fun n => [n.rxMap, n.rxPrev].reduceOption.find? fun m => m.tmi == fcTmi fc

/-- The bytes of a payload, its tag among them, as its symbols show it: the longest that fills them, with its check sequence right and
zero bits after that (R393, R394; log 125). -/
def payloadOf (bits : List Bool) (nsym : Nat) (map : Option ToneMap) : Option (List Byte) :=
  let b := byteList bits
  ((List.range (b.length - 3)).reverse.find? fun n =>
    symbols (n + 4) map == nsym && (b.drop n).take 4 == bytesBE 4 (frameCrc (bitsBE (b.take n))) && !(bits.drop (8 * (n + 4))).contains true).map b.take

/-- A reception as this node reads it: the strainer's zeroes and erasures, frame control from its four copies, the payload under the map
that it names (R391, R393, R394, R396). A frame without payload symbols, or a SOUND, has no check sequence. -/
def demod (s : State) (x : RailSoft) : RailRx :=
  let l := (s.rail.strainer.run (FRL.RL_TUNE.STRAIN_K.get s.rail.tune) x.samples).1
  let val := toneSoft x (symbolErased l)
  let fc := BitVec.ofNat 96 (natBits ((List.range 96).map (robustBit val 0)))
  let nsym := fcBits fc 37 10
  if nsym = 0 || fcType fc = 6 then { fc := fc, payload := [], tag := 0, fcsOk := true }
  else match payloadOf (payloadBits val nsym (s.mapNamed fc)) nsym (s.mapNamed fc) with
    | none => { fc := fc, payload := [], tag := 0, fcsOk := false }
    | some b =>
      let n := if fcKid fc = 0 then 0 else 8
      { fc := fc, payload := b.take (b.length - n), tag := BitVec.ofNat 64 (natBE (b.drop (b.length - n))), fcsOk := decide (n ≤ b.length) }

/-- The node that a frame is for; a poll without payload is for the node that receives it (R394, R395). -/
def forNode (s : State) (r : RailRx) : Nat := if r.payload = [] && fcType r.fc == 2 then s.nodeId else finalOf r.payload

/-- The frame is for another node, so that this one would only forward it (R394, R412). -/
def transit (s : State) (r : RailRx) : Bool :=
  ([2, 3, 8, 10].contains (fcType r.fc)) && s.forNode r != s.nodeId && s.forNode r != s.ownAddr && s.forNode r != 0xFFF

/-- The receiver holds the map that a frame's control names (R398). -/
def mapHeld (s : State) (fc : BitVec 96) : Bool := fcTmi fc == 0 || (s.mapNamed fc).isSome

/-- A JOIN whose NODE_ID belongs to a member with another serial number (R408). -/
def wrongJoin (s : State) (r : RailRx) : Bool :=
  let data := r.payload.drop 12
  s.rail.acting != 0 && fcType r.fc == 9 && byteAt r.payload 5 == 1
    && s.rail.members.any fun m => m.node == natBE (data.take 2) % 4096 && m.serial != BitVec.ofNat 64 (natBE ((data.drop 2).take 8))

/-- Why a frame received on a feed is not taken: 0 taken, 1 frame control bad, 2 stranger, 3 check sequence bad, 4 not heard or not for
this node, 5 member whistle rule. -/
def railCheck (s : State) (feed : Feed) (r : RailRx) : Nat :=
  let fc := r.fc
  let typ := fcType fc
  let kid := fcKid fc
  let svc := byteAt r.payload 4
  let op := byteAt r.payload 5
  if !s.modemOn || (feed ≠ s.rail.feed && typ ≠ 0 && typ ≠ 1) then 4
  else if (fccs fc).toNat ≠ fcBits fc 0 16 then 1
  else if fcNet fc ≠ FRL.RL_NET.NET_ID.get s.rail.net || 0xA < typ then 2
  else if typ ≠ 0 && typ ≠ 1 && fcDst fc ≠ s.ownAddr && fcDst fc ≠ s.nodeId && fcDst fc ≠ 0xFFF then 4
  else if !(r.fcsOk && s.mapHeld fc) && typ ≠ 4 && typ ≠ 5 then 3
  else
    let tagOk :=
      if s.transit r then true
      else if kid = 0 then ([0, 1, 4, 5, 6, 7].contains typ) || (typ = 9 && op = 1) || ((typ = 2 || typ = 3) && svc = 2)
      else if kid = 255 then match s.rail.session with
        | some x => tagOf x.key r.payload == r.tag
        | none => false
      else match s.netKey kid with
        | some k => tagOf k r.payload == r.tag
        | none => false
    let joined := s.rail.acting = 0 || !([3, 5, 8, 9].contains typ) || (typ = 9 && op = 1) || (typ = 3 && svc = 2)
      || s.rail.members.any (·.node == fcSrc fc)
    if !tagOk || !joined || s.wrongJoin r then 2
    else if (typ = 0 || typ = 1) && kid = 0 && s.member && decide (s.rail.taggedAge < 6) then 5
    else 0

/-- Frames that pass the sequence window (R409): addressed frames that are new, not ACK, NULL or whistles. -/
def windowed (typ : Nat) : Bool := typ == 2 || typ == 3 || (6 ≤ typ && typ ≤ 10)

/-- An untagged numbered frame of this node to a neighbour. -/
def tellNbr (s : State) (i typ : Nat) (body : Option (List Byte)) : State :=
  match s.nbr i with
  | none => s
  | some n =>
    (s.updNbr i fun n => { n with txSeq := (n.txSeq + 1) % 256 }).railOut n.node typ n.txSeq false false 0 (match body with
      | some b => routeHeader s.ownAddr n.node 0 ++ svcHeader 0 0 0 0 ++ b
      | none => [])

/-- A TONE_MAP without a map, TMI 0: the map held so far is invalid, and the neighbour sends a SOUND where it is asked (R398; log 126). -/
def noMap (s : State) (i : Nat) (ask : Bool) : State := s.tellNbr i 7 (some [0, BitVec.ofNat 8 ask.toNat, 0, 0])

/-- A neighbour is asked for a SOUND where no map of it is valid and it has not been asked since one was (R398; log 126). -/
def askSound (s : State) (node : Nat) : State :=
  match s.nbrOf node with
  | none => s
  | some i => match s.nbr i with
    | some n => if n.rxMap.isSome || n.asked then s else (s.updNbr i fun n => { n with asked := true }).noMap i true
    | none => s

/-- The map that this node owns for a neighbour is made anew and sent (R397, R398). The old one is kept until the new one is used, unless
it has become invalid, which the sender is told; a map kept from before it goes. Where no map can be offered the sender is told so too. -/
def refreshMap (s : State) (i : Nat) (valid : Bool) : State :=
  match s.nbr i with
  | none => s
  | some n =>
    let tmi := ((n.rxMap.map (·.tmi)).getD ((n.rxPrev.map (·.tmi)).getD 0)) % 15 + 1
    let old := if valid then n.rxMap else none
    let new := deriveMap (FRL.RL_TUNE.TM_MARGIN.get s.rail.tune) tmi n.tones
    let s := if n.rxMap.isSome && (!valid || new.isNone) then s.noMap i false else s
    match new with
    | none => s.updNbr i fun n => { n with rxMap := none, rxPrev := old, asked := true }
    | some t => (s.updNbr i fun n => { n with rxMap := some t, rxPrev := old, mapAt := s.tele.now, asked := false }).tellNbr i 7 (some (mapBytes t))

/-- An errored frame from a neighbour (R398): the third in a row has its map refreshed and the old one marked invalid. -/
def erroredFrom (s : State) (node : Nat) : State :=
  match s.nbrOf node with
  | none => s
  | some i =>
    let s := s.updNbr i fun n => { n with errRun := up8 n.errRun, errs := n.errs + 1 }
    match s.nbr i with
    | some n => if n.errRun ≠ 3 then s else s.refreshMap i false
    | none => s

/-- Samples of a reception pass the strainer (R396): what they are then; what was blanked and erased is counted. -/
def strain (s : State) (symbols : Bool) (l : List (BitVec 16)) : List Int × State :=
  let (x, f) := s.rail.strainer.run (FRL.RL_TUNE.STRAIN_K.get s.rail.tune) l
  let b := x.countP (·.2)
  let e := if symbols then erasedSymbols x else 0
  let now := s.tele.now
  (x.map (·.1), s.updRail fun r => { r with
    strainer := f
    strained := if b = 0 && e = 0 then r.strained else (r.strained.filter fun t => decide (now < t.1 + 1000000000)) ++ [(now, b, e)]
    cnt := (r.cnt.set (fun _ => 0) 10 (min (r.cnt.get (fun _ => 0) 10 + b) (2 ^ 40 - 1))).set (fun _ => 0) 11
      (min (r.cnt.get (fun _ => 0) 11 + e) (2 ^ 40 - 1)) })

/-- A reception ends; its samples pass the strainer. -/
def endRx (s : State) (x : RailSoft) : State :=
  if !s.modemOn || x.feed ≠ s.rail.feed then s else ((s.strain true x.samples).2).updRail fun r => { r with rx := none }

/-- A frame is taken from its sender: the reception ends; the entry notes it; what is done with it passes the window when its type is
numbered. A sender of addressed frames of whom no map is held is asked for a SOUND after that. -/
def takeFrame (s : State) (x : RailSoft) (r : RailRx) (typ : Nat) (f : State → State) : State :=
  if fcType r.fc ≠ typ then s
  else
    let s := s.endRx x
    let src := fcSrc r.fc
    let f (s : State) : State := if [0, 1, 6, 7].contains typ then f s else (f s).askSound src
    match s.railCheck x.feed r with
    | 2 => s.countStranger
    | 3 => (((s.updRail fun x => { x with fcsFail := up8 x.fcsFail }).rcount 2).erroredFrom src)
    | 0 =>
      let s := (s.meetNbr src).rcount 1
      let s := match s.nbrOf src with
        | some i => s.updNbr i fun n =>
            { n with heardAt := s.tele.now, errRun := 0, frames := n.frames + 1, tones := if x.snr = [] then n.tones else x.snr,
                     rxPrev := if (n.rxMap.map (·.tmi)) = some (fcTmi r.fc) then none else n.rxPrev }
        | none => s
      let s := if fcMore r.fc && fcDst r.fc = s.nodeId then s.updRail fun x => { x with awake := 2 } else s
      if !windowed typ then f s
      else match s.nbrOf src with
        | none => f s
        | some i =>
          let last := ((s.nbr i).map (·.rxSeq)).getD 0
          let seq := fcSeq r.fc
          let d := (seq + 256 - last) % 256
          let ack (s : State) : State := if fcAckReq r.fc then s.railOut src 4 seq false false 0 [] else s
          if d = 0 then ((ack s).updRail fun x => { x with duplicate := up8 x.duplicate }).rcount 5
          else if d ≤ 32 then ack (f (s.updNbr i fun n => { n with rxSeq := seq }))
          else s.countReplay
    | _ => s

/-! ## Sessions and services (R417-R420, R500) -/

/-- An answer to a request waits to be sent: RESPONSE set, the request's OP unless another is given. -/
def railAnswer (s : State) (peer svc op msg key : Nat) (data : List Byte) : State :=
  s.queueOut { typ := 3, final := peer, key := key, host := false, body := svcHeader svc op 1 msg ++ data }

/-- The rail session ends (R417). -/
def endRailSession (s : State) : State :=
  if s.rail.session.isNone then s
  else ((s.updRail fun r => { r with session := none, out := r.out.filter fun f => f.key != 2 }).updPub fun p =>
    { p with railRole := 0, railPeer := 0 }).railEvent 4

/-- A session request (R417, R500): a fresh nonce bound to the role, answered with the rail counter. -/
def railRequest (s : State) (peer msg : Nat) (data : List Byte) : State :=
  let role := byteAt data 0
  if role = 0 || 3 < role then s
  else
    let (i, s) := (s.voteWord 4).draw
    let n := Config.nonce i
    let s := s.updRail fun r => { r with nonce := some { peer := peer, role := role, value := n } }
    s.railAnswer peer 2 2 msg 0 ([0] ++ bytesBE 8 n.toNat ++ bytesBE 4 s.lockWord.rail.counter.toNat)

/-- A proof over the rail (R417, R500): refused unchecked, or checked with its nonce used up. -/
def railProof (s : State) (peer msg : Nat) (proof : List Byte) : State :=
  let s := (s.voteWord 0).voteWord 4
  let w := s.lockWord
  let answer (s : State) (res reason : Nat) : State :=
    let l := s.lockWord.rail
    s.railAnswer peer 2 4 msg 0 ([BitVec.ofNat 8 res, BitVec.ofNat 8 reason, BitVec.ofNat 8 l.failRun] ++ bytesBE 2 l.remain)
  if w.rail.remain ≠ 0 then answer s 2 1
  else match s.rail.nonce with
    | none => answer s 2 2
    | some n =>
      if n.peer ≠ peer then answer s 2 2
      else if proof.length ≠ 32 then answer s 2 3
      else
        let s := s.updRail fun r => { r with nonce := none }
        let ctr := w.rail.counter
        if s.proofRight n.role n.value ctr ctr proof then
          let key := match s.roleKey n.role with
            | some k => BitVec.ofNat 256 (natBE (Crypto.hmac (keyBytes k) (proofMessage n.value n.role ctr ++ [0x53, 0x4B])))
            | none => 0
          let s := s.endRailSession
          let s := s.setLock { w with rail := lockPass w.rail }
          let s := s.updRail fun r => { r with session := some {
            peer := peer, role := n.role, key := key, lastMsg := 0, answer := none, txMsg := 0, lastAt := s.tele.now } }
          let s := (s.updPub fun p => { p with railRole := n.role, railPeer := peer }).railEvent 4
          answer s 0 0
        else
          let l := lockFail w.rail
          let s := s.setLock { w with rail := l }
          let s := if l.remain ≠ 0 then s.railEvent 5 else s
          answer s 1 0

/-- The session service (R417, R500): OP 1 request, 3 proof, 5 close, 6 keepalive. -/
def railSessionOp (s : State) (peer op msg : Nat) (data : List Byte) : State :=
  let mine := (s.rail.session.map (·.peer)) = some peer
  match op with
  | 1 => s.railRequest peer msg data
  | 3 => s.railProof peer msg data
  | 5 => if mine then s.endRailSession.railAnswer peer 2 5 msg 0 [0] else s
  | 6 =>
    if mine then
      (s.updRail fun r => { r with session := r.session.map fun x => { x with lastAt := s.tele.now } }).railAnswer peer 2 6 msg 0 [0]
    else s
  | _ => s

/-- A role key is replaced (R419): its verifier rewritten, which gives it a majority again (R293), every other open session of the role
closed. -/
def replaceKey (s : State) (role : Nat) (key : BitVec 256) : State :=
  (s.voteWord 0).updField fun f =>
    let k := f.keys
    { f with
      keys := match role with
        | 1 => { k with viewer := writeCopies k.viewer key }
        | 2 => { k with operator := writeCopies k.operator key }
        | _ => { k with custodian := writeCopies k.custodian key }
      pub := { f.pub with revoked := ((f.pub.revoked.1 + 1) % 65536, role) } }

/-- A request of the session peer in its role (R418): the result, the data of the answer after it, the state. -/
def railService (s : State) (role svc op : Nat) (data : List Byte) : Nat × State :=
  match svc, op with
  | 3, 1 =>
    if role < 3 then (1, s)
    else
      let (left, s) := s.kettleClear (byteAt data 0 % 2 == 1) true
      (if left then 0 else 3, s)
  | 3, 2 =>
    if role < 3 then (1, s)
    else if s.start.attempt.isSome || !s.field.pub.thermLocked then (3, s)
    else (0, (s.updPub fun p => { p with thermLocked := false, thermRestarts := 0 }).updTele fun t => { t with restarts := [] })
  | 3, 3 =>
    if role < 2 then (1, s)
    else
      let (why, s) := s.applySetting (byteAt data 0) role (natBE ((data.drop 2).take 2)) (BitVec.ofNat 32 (natBE ((data.drop 4).take 4)))
      (if why = 0 then 0 else 2, s)
  | 4, 1 =>
    if role < 3 then (1, s)
    else
      let r := byteAt data 0
      match s.roleKey 3, decide (1 ≤ r ∧ r ≤ 3) with
      | some k, true => match Crypto.unwrap (keyBytes k) ((data.drop 1).take 40) with
        | some b => (0, s.replaceKey r (BitVec.ofNat 256 (natBE b)))
        | none => (2, s)
      | _, _ => (2, s)
  | 4, 2 =>
    let kid := byteAt data 0
    match s.rail.session, decide (1 ≤ kid ∧ kid ≤ 254) with
    | some x, true => match Crypto.unwrap (keyBytes x.key) ((data.drop 1).take 40) with
      | some b => (0, s.updRail fun r => { r with key := some (kid, BitVec.ofNat 256 (natBE b)), keyPrev := r.key })
      | none => (2, s)
    | _, _ => (2, s)
  | 5, 1 =>
    if !s.fieldEnd.up then (2, s)
    else
      let src := (s.rail.session.map (·.peer)).getD 0
      (0, (s.updRail fun r => { r with delivered := up8 r.delivered }).toHub (.railDeliver src 5 0 data))
  | _, _ => (2, s)

/-- A message for this node (R410, R418): a service header and its data. Session messages stand by themselves; of the others
only those of the session peer are acted on, each MSG once. -/
def railMessage (s : State) (src : Nat) (body : List Byte) : State :=
  let svc := byteAt body 0
  let op := byteAt body 1
  let msg := natBE ((body.drop 4).take 4)
  let data := body.drop 8
  if byteAt body 2 % 2 = 1 then s
  else if svc = 2 then s.railSessionOp src op msg data
  else
    match s.rail.session with
    | some x =>
      if x.peer ≠ src then
        ((s.updRail fun r => { r with denied := r.denied + 1 }).railAnswer src svc op msg 0 [1])
      else if msg = x.lastMsg then match x.answer with
        | some a => s.queueOut a
        | none => s
      else if msg < x.lastMsg then s.countReplay
      else
        let now := s.tele.now
        let note (s : State) (a : Option RFrame) : State := s.updRail fun r => { r with session := r.session.map fun y =>
          { y with lastMsg := msg, answer := a, lastAt := now } }
        if svc = 1 then
          let a : RFrame := { typ := 3, final := src, key := 2, host := false, body := svcHeader 1 2 1 msg ++ [0] ++ s.statusBody }
          note (s.queueOut a) (some a)
        else
          let (res, s) := s.railService x.role svc op data
          let s := if res = 1 then s.updRail fun r => { r with denied := r.denied + 1 } else s
          let a : RFrame := { typ := 3, final := src, key := 2, host := false, body := svcHeader svc op 1 msg ++ [BitVec.ofNat 8 res] }
          note (s.queueOut a) (some a)
    | none => (s.updRail fun r => { r with denied := r.denied + 1 }).railAnswer src svc op msg 0 [1]

/-! ## Cycles, feeds, membership (R401-R416) -/

/-- Every tone map is discarded (R398, R416). -/
def dropMaps (s : State) : State :=
  (List.range 32).foldl (fun s i => s.updNbr i fun n => { n with rxMap := none, rxPrev := none, txMap := none, asked := false }) s

/-- The modem moves to the other feed (R416). -/
def failover (s : State) : State :=
  (s.dropMaps.updRail fun r => { r with feed := otherFeed r.feed, prefRun := 0, prefMiss := 0 }).railEvent 2

/-- Whistles heard on a feed in the last 6 cycles. -/
def heardOn (s : State) (f : Feed) : Nat := match f with
  | .a => s.rail.heardA
  | .b => s.rail.heardB

/-- The preferred feed. -/
def prefFeed (s : State) : Feed := if FRL.RL_CTRL.FEED_PREF.get s.rail.ctrl = 0 then .a else .b

/-- The feed rule at a cycle start (R416). -/
def feedRule (s : State) : State :=
  let f := s.rail.feed
  let o := otherFeed f
  if (s.feed f).st ≠ .valid && (s.feed o).st = .valid then s.failover
  else if 6 ≤ s.rail.missed && s.heardOn f % 64 = 0 && decide (2 ≤ popCount 6 (s.heardOn o)) then s.failover
  else if FRL.RL_CTRL.REVERT.get s.rail.ctrl = 1 && f ≠ s.prefFeed && decide (12000 ≤ s.rail.prefRun)
      && (s.feed s.prefFeed).st = .valid then s.failover
  else s

/-- Membership ends: keys, session, parent and children go, and the node joins again (R408, R422). -/
def leaveNet (s : State) : State :=
  let s := s.endRailSession
  s.updRail fun r => { r with key := none, keyPrev := none, found := false, parent := 0, hops := 0, children := [], relaySlot := 0,
                              parentLost := false, missed := 0, lossReport := false, contend := none, deferred := none, acting := 0, listen := 6, members := [], woken := [],
                              polled := none, pollQ := [], nbrs := [], out := [] }

/-- Settings of the rail take effect at a cycle start (R422). -/
def railSettings (s : State) : State :=
  let c := s.fieldWord .frl 0x020
  let n := s.fieldWord .frl 0x024
  let t := s.fieldWord .frl 0x028
  let moved := FRL.RL_CTRL.ROLE.get c ≠ FRL.RL_CTRL.ROLE.get s.rail.ctrl || n ≠ s.rail.net
  let s := if moved then s.leaveNet else s
  s.updRail fun r => { r with ctrl := c, net := n, tune := t }

/-- The rail channel starts with the field island, on the preferred feed, under the settings of the flash (R361, R416, R422). -/
def railStart (s : State) : State :=
  let s := { s with rail := Rail.reset }.railSettings
  s.updRail fun r => { r with feed := s.prefFeed }

/-- GEN a is later than b, modulo 256 over half the space (R415). -/
def genAfter (a b : Nat) : Bool := let d := (a + 256 - b) % 256; decide (0 < d) && decide (d < 128)

/-- This node becomes master: it whistles from the next cycle start with GEN one above any heard (R415). -/
def becomeMaster (s : State) (as : Nat) : State :=
  let s := s.updRail fun r => { r with acting := as, gen := (r.genSeen + 1) % 256, genSeen := (r.genSeen + 1) % 256, epoch := 65535,
                                       parent := 0, hops := 0, parentLost := false, relaySlot := 0, children := [] }
  let s := s.railEvent 3
  if as = 2 then s.railEvent 9 else s

/-- A master steps down and rejoins as a member (R415). -/
def stepDown (s : State) : State :=
  (s.updRail fun r => { r with acting := 0, members := [], woken := [], polled := none, pollQ := [], listen := 6 }).railEvent 3

/-- A whistle after a lost parent (R414): the loss is to be reported. -/
def parentFound (s : State) : State :=
  if !s.rail.parentLost then s
  else (s.updRail fun x => { x with parentLost := false, lossReport := true, lossLen := x.missed, lqrAge := 0 }).railEvent 1

/-- A whistle has been heard (R402, R403, R414, R415). -/
def hearWhistle (s : State) (feed : Feed) (r : RailRx) (relay : Bool) : State :=
  let b := r.payload
  let epoch := natBE (b.take 2)
  let gen := byteAt b 2
  let flags := byteAt b 3
  let node := natBE ((b.drop 4).take 2) % 4096
  let cfg := flags.testBit 2
  let s := s.updRail fun x => match feed with
    | .a => { x with heardA := putBit x.heardA 0 true }
    | .b => { x with heardB := putBit x.heardB 0 true }
  if feed ≠ s.rail.feed then s
  else
    let s := if s.rail.acting = 2 && cfg then s.stepDown
      else if s.rail.acting = 1 && cfg && decide (node < s.nodeId) then s.stepDown else s
    let fresh := s.rail.genAge ≤ 3
    if fresh && genAfter s.rail.genSeen gen then s
    else
      let follow := if s.rail.acting ≠ 0 then false else !fresh || gen == s.rail.genSeen || genAfter gen s.rail.genSeen
      let s := s.updRail fun x => { x with genSeen := gen, genAge := 0 }
      if !follow then s
      else
        let s := if s.rail.gen ≠ gen then s.railEvent 3 else s
        let s := s.parentFound
        let (i, s) := s.draw
        let s := s.updPub fun p => { p with residual := max (-100) (min 100 (signed 16 (Config.residual i).toNat)) }
        s.updRail fun x => { x with
          epoch := epoch, gen := gen, found := true, missed := 0, silent := 0, whistle := b, taggedAge := if fcKid r.fc = 0 then x.taggedAge else 0,
          sync := flags.testBit 0, parent := if x.parent = 0 && relay then fcSrc r.fc else x.parent,
          contend := if x.contend.isSome || s.member then (if s.sleepy then some (2, 0) else x.contend) else some (1, 0) }

/-- The cycle starts are anchored on ripple (R403): a master's own, or those of a node whose last whistle said so. -/
def anchored (s : State) : Bool :=
  let n := match s.rail.feed with | .a => s.tele.rippleA.n | .b => s.tele.rippleB.n
  n != 0 && (s.rail.acting != 0 || s.rail.sync)

/-- CYCLE_MARK of a cycle start (R403): source 0 from a ripple anchor, 1 from a whistle. -/
def cycleMark (s : State) : State :=
  let src := if s.anchored then 0 else 1
  (s.updRail fun r => { r with marks := (r.marks + 1) % 65536 }).toHub (.cycleMark s.rail.epoch (s.rail.marks % 65536) src)

end State
end Sys2Proof.Machine
end

