-- ==== Sys2Proof/Machine/Rail.lean ====
section
/-! DEFINITION. The commands of the rail channel (R398-R423, R487, R500). -/
namespace Sys2Proof.Machine

open Sys2Proof Reg

namespace State

/-! ## Polling (R404) -/

/-- The metric of a hop as its far end reports it. -/
def hopRate (s : State) (src dst : Nat) : Nat :=
  match s.rail.members.find? (·.node == dst) with
  | some m => ((m.lqr.find? (·.node == src)).map (·.rate)).getD 0
  | none => 0

/-- The metric of a route: the least over its hops. -/
def pathRate (s : State) (route : List Nat) (node : Nat) : Nat :=
  let stops := route ++ [node]
  ((0 :: route).zip stops).foldl (fun a h => min a (s.hopRate h.1 h.2)) 255

/-- The best route of at most 3 hops to a member: the first of the best metric, shorter first. -/
def bestRoute (s : State) (node : Nat) : List Nat :=
  let ms := (s.rail.members.map (·.node)).filter (· != node)
  let cands := [[]] ++ ms.map (fun a => [a]) ++ ms.flatMap fun a => (ms.filter (· != a)).map fun b => [a, b]
  (cands.foldl (fun (best : List Nat × Nat) c => let r := s.pathRate c node; if best.2 < r then (c, r) else best) ([], 0)).1

/-- A member that no route of at most 3 hops reaches, by its last report (R411). -/
def unreachable (s : State) (m : Member) : Bool := m.lqr != [] && s.pathRate (s.bestRoute m.node) m.node == 0

/-- The master's polling order: woken sleepy nodes, joiners, members that a route reaches. -/
def pollOrder (s : State) : List Nat :=
  let ms := s.rail.members.filter fun m => m.wait == 0 && !s.rail.woken.contains m.node && !s.unreachable m
  s.rail.woken ++ (ms.filter fun m => !m.admitted).map (·.node) ++ (ms.filter (·.admitted)).map (·.node)

/-- The next node of the order is polled, with data that is held for it. -/
def pollNow (s : State) : State :=
  match s.rail.pollQ with
  | [] => s.updRail fun r => { r with polled := none }
  | n :: q =>
    let s := s.updRail fun r => { r with pollQ := q, polled := some n, woken := r.woken.filter (· != n) }
    match s.nbrOf (s.nextHop n), s.rail.out.find? (·.final == n) with
    | some i, f =>
      if ((s.nbr i).bind (·.unacked)).isSome then s.resendTo i
      else match f with
        | some f => (s.updRail fun r => { r with out := r.out.erase f }).sendFrame { f with typ := 2 } false
        | none =>
          let seq := ((s.nbr i).map (·.txSeq)).getD 0
          let s := s.updNbr i fun n => { n with txSeq := (seq + 1) % 256 }
          s.railOut (s.nextHop n) 2 seq false false 1 (routeHeader s.ownAddr n 0)
    | none, some f => (s.updRail fun r => { r with out := r.out.erase f }).sendFrame { f with typ := 2 } false
    | none, none =>
      let s := s.meetNbr (s.nextHop n)
      s.railOut (s.nextHop n) 2 0 false false 1 (routeHeader s.ownAddr n 0)

/-- The next poll, which waits while a frame is being received (R405). -/
def pollNext (s : State) : State :=
  if s.rail.rx.isSome && s.rail.pollQ != [] then
    s.updRail fun r => { r with polled := none, deferred := some { kind := 0, energy := false } }
  else s.pollNow

/-- A member changed in the master's list. -/
def updMember (s : State) (node : Nat) (f : Member → Member) : State :=
  s.updRail fun r => { r with members := r.members.map fun m => if m.node = node then f m else m }

/-- The polled node has answered: its misses end, and the next is polled. -/
def pollAnswered (s : State) (r : RailRx) : State :=
  if s.rail.acting = 0 then s
  else
    let n := fcSrc r.fc
    let s := s.updMember n fun m => { m with missed := 0, wait := 0, admitted := m.admitted || fcKid r.fc != 0 }
    if s.rail.polled = some n then s.pollNext else s

/-- A report to the master is due (R411, R414). -/
def lqrDue (s : State) : Bool := s.rail.lossReport || decide (20 ≤ s.rail.lqrAge)

/-- A STATUS is due unprompted (R418): its content has changed, 20 cycles of a session have passed, or an input is held. -/
def statusDue (s : State) : Bool :=
  s.member && (decide (s.statusBody ≠ s.rail.lastStatus) || (s.rail.session.isSome && decide (20 ≤ s.rail.statusAge))
    || s.field.inputs.testBit 5)

/-- The answer to a poll (R404): the unacknowledged frame again, a report that is due, a waiting message, or NULL. -/
def answerPoll (s : State) (src : Nat) : State :=
  match s.nbrOf src with
  | none => s.railOut src 5 0 false false 0 []
  | some i =>
    if ((s.nbr i).bind (·.unacked)).isSome then s.resendTo i
    else if s.lqrDue then
      let s := s.sendFrame { typ := 8, final := 0, key := 1, host := false, body := svcHeader 0 0 0 0 ++ s.lqrBody } (s.rail.out != [])
      let s := (List.range 32).foldl (fun s i => s.updNbr i fun n => { n with frames := 0, errs := 0 }) s
      s.updRail fun r => { r with lqrAge := 0, lossReport := false }
    else
      let s := if s.rail.out = [] && s.statusDue then s.queueStatus else s
      match s.rail.out with
      | f :: q => (s.updRail fun r => { r with out := q }).sendFrame f (q != [])
      | [] => s.railOut src 5 ((s.nbr i).map (·.rxSeq) |>.getD 0) false false 0 []

/-! ## Forwarding (R412) -/

/-- This node relays: named by the master, enabled, its parent not lost. -/
def relaying (s : State) : Bool :=
  s.rail.relaySlot != 0 && FRL.RL_CTRL.RELAY_EN.get s.rail.ctrl == 1 && !s.rail.parentLost && s.member

/-- A frame of others is forwarded, or held for a sleepy child: at most 8 each. -/
def forward (s : State) (r : RailRx) : State :=
  let final := finalOf r.payload
  let src := fcSrc r.fc
  let down := src == s.rail.parent && s.rail.children.contains final
  let upw := s.rail.children.contains src && (final == 0 || final == s.rail.parent)
  if !s.relaying || !(down || upw) then s
  else if down && s.rail.sleepyKids.contains final then
    if 8 ≤ s.rail.held.countP (·.1 == final) then (s.updRail fun x => { x with dropped := up8 x.dropped }).rcount 8
    else s.updRail fun x => { x with held := x.held ++ [(final, r.fc, r.payload, r.tag, 3 * FRL.RL_CTRL.WAKE_CYCLES.get x.ctrl)] }
  else
    let hop := if down then final else s.rail.parent
    let s := s.meetNbr hop
    match s.nbrOf hop with
    | none => s
    | some i =>
      let n := (s.nbr i).getD (Nbr.reset hop 0)
      let fc := mkFc (fcNet r.fc) s.ownAddr hop (fcType r.fc) ((n.txMap.map (·.tmi)).getD 0) ((n.txMap.map (·.rate.toNat)).getD 0)
        (symbols (r.payload.length + (if fcKid r.fc = 0 then 0 else 8) + 4) n.txMap) n.txSeq (fcAckReq r.fc).toNat (fcMore r.fc).toNat
        (min 3 (s.rail.hops + if down then 1 else 0)) (fcKid r.fc)
      (s.updNbr i fun n => { n with txSeq := (n.txSeq + 1) % 256 }).sendRail fc r.payload r.tag n.txMap

/-- What is held for a child goes out when it wakes (R412, R413). -/
def releaseHeld (s : State) (child : Nat) : State :=
  let mine := s.rail.held.filter (·.1 == child)
  let s := s.updRail fun x => { x with held := x.held.filter (·.1 != child) }
  mine.foldl (fun s h =>
    let s := s.meetNbr child
    let (seq, m) := match (s.nbrOf child).bind s.nbr with
      | some n => (n.txSeq, n.txMap)
      | none => (0, none)
    let s := match s.nbrOf child with
      | some i => s.updNbr i fun n => { n with txSeq := (n.txSeq + 1) % 256 }
      | none => s
    let fc := mkFc (fcNet h.2.1) s.ownAddr child (fcType h.2.1) ((m.map (·.tmi)).getD 0) ((m.map (·.rate.toNat)).getD 0)
      (symbols (h.2.2.1.length + (if fcKid h.2.1 = 0 then 0 else 8) + 4) m) seq (fcAckReq h.2.1).toNat (fcMore h.2.1).toNat
      (min 3 (s.rail.hops + 1)) (fcKid h.2.1)
    s.sendRail fc h.2.2.1 h.2.2.2.1 m) s

/-! ## Contention (R406) -/

/-- The body of a CONTEND of a kind: JOIN carries NODE_ID, serial number, service level and kettle flag (R406); URGENT the STATUS report
and the report of a lost parent (R414, R418). -/
def contendBody (s : State) (kind : Nat) : List Byte :=
  svcHeader 0 kind 0 0 ++ if kind = 1 then
    bytesBE 2 s.nodeId ++ bytesBE 8 s.identWord.toNat
      ++ [BitVec.ofNat 8 s.field.hostLevel, BitVec.ofNat 8 (s.start.kettle || s.start.deepKettle).toNat]
  else if kind = 3 then s.statusBody ++ s.lossBytes
  else []

/-- A CONTEND is sent, again under its SEQ while it is not acknowledged; while another frame for that neighbour is unacknowledged none
is sent (R404). -/
def sendContend (s : State) (kind : Nat) : State :=
  let new := s.sendFrame { typ := 9, final := 0, key := if kind = 1 then 0 else 1, host := false, body := s.contendBody kind } false
  match s.nbrOf (s.nextHop 0) with
  | some i => match (s.nbr i).bind (·.unacked) with
    | some u => if u.frame.typ = 9 then s.resendTo i else s
    | none => new
  | none => new

/-- What waited for the end of a reception goes out (R405). -/
def undefer (s : State) : State :=
  match s.rail.deferred, s.rail.rx with
  | some d, none =>
    if d.energy then s
    else
      let s := s.updRail fun r => { r with deferred := none }
      if d.kind = 0 then (if s.rail.acting = 0 || s.rail.polled.isSome then s else s.pollNext) else s.sendContend d.kind
  | _, _ => s

/-- A frame is taken from its sender, and then what waited for the medium goes out. -/
def railRx (s : State) (x : RailSoft) (typ : Nat) (f : RailRx → State → State) : State :=
  let r := s.demod x
  let t := s.takeFrame x r typ (f r)
  if fcType r.fc = typ then t.undefer else t

/-- A CONTEND taken by a master or a parent. -/
def takeContend (s : State) (r : RailRx) : State :=
  let kind := byteAt r.payload 5
  let data := r.payload.drop 12
  let src := fcSrc r.fc
  match kind with
  | 1 =>
    if s.rail.acting = 0 then s
    else
      let node := natBE (data.take 2) % 4096
      let serial := BitVec.ofNat 64 (natBE ((data.drop 2).take 8))
      if s.rail.members.any (·.node == node) then s
      else s.updRail fun x => { x with members := x.members ++ [{
        node := node, serial := serial, missed := 0, wait := 0, admitted := false, lqr := [], route := [], better := none }] }
  | 2 =>
    let s := s.updRail fun x => { x with
      woken := if x.acting = 0 || x.woken.contains src then x.woken else x.woken ++ [src]
      sleepyKids := if x.sleepyKids.contains src then x.sleepyKids else x.sleepyKids ++ [src] }
    if s.rail.children.contains src then s.releaseHeld src else s
  | 3 => if s.rail.acting = 0 || s.rail.woken.contains src then s else s.updRail fun x => { x with woken := x.woken ++ [src] }
  | _ => s

/-! ## Routes (R411) -/

/-- Repeaters that the routes name. -/
def repeaters (s : State) : List Nat := (s.rail.members.flatMap (·.route)).eraseDups

/-- One member's route reassessed: changed when another exceeds it by 25 % twice running, or when it has failed; at most 4
repeaters. -/
def assess (s : State) (node : Nat) : State :=
  match s.rail.members.find? (·.node == node) with
  | none => s
  | some m =>
    let best := s.bestRoute node
    let cur := s.pathRate m.route node
    let new := s.pathRate best node
    let named := ((s.rail.members.filter (·.node != node)).flatMap (·.route) ++ best).eraseDups
    if best = m.route || 4 < named.length then s.updMember node fun m => { m with better := none }
    else if cur = 0 || (4 * new > 5 * cur && m.better.isSome) then
      let s := s.updMember node fun m => { m with route := best, better := none }
      let parent := best.getLastD 0
      let kids := (s.rail.members.filter fun k => k.route.getLast? == some node).map (·.node)
      let slot := match s.repeaters.findIdx? (· == node) with
        | some i => i + 1
        | none => 0
      s.queueOut { typ := 10, final := node, key := 1, host := false
                   body := svcHeader 0 0 0 0 ++ bytesBE 2 parent ++ [BitVec.ofNat 8 (best.length + 1), BitVec.ofNat 8 slot]
                     ++ kids.flatMap (bytesBE 2) }
    else if 4 * new > 5 * cur then s.updMember node fun m => { m with better := some best }
    else s.updMember node fun m => { m with better := none }

/-- A ROUTE frame's assignment. -/
def takeRoute (s : State) (r : RailRx) : State :=
  let d := r.payload.drop 12
  let parent := natBE (d.take 2) % 4096
  let kids := (List.range ((d.length - 4) / 2)).map fun i => natBE ((d.drop (4 + 2 * i)).take 2) % 4096
  let slot := byteAt d 3
  let changed := parent != s.rail.parent || kids != s.rail.children || slot != s.rail.relaySlot
  let s := s.updRail fun x => { x with parent := parent, hops := byteAt d 2 % 4, relaySlot := slot, children := kids }
  if changed then s.railEvent 10 else s

/-! ## The cycle (R401-R403, R413-R416) -/

/-- The whistle fields of this master (R402). -/
def whistleFields (s : State) : List Byte :=
  let n := match s.rail.feed with | .a => s.tele.rippleA.n | .b => s.tele.rippleB.n
  bytesBE 2 s.rail.epoch ++ [BitVec.ofNat 8 s.rail.gen,
    BitVec.ofNat 8 ((decide (n ≠ 0)).toNat + 2 * (decide (s.rail.acting = 2)).toNat + 4 * (decide (s.rail.acting = 1)).toNat)]
    ++ bytesBE 2 s.nodeId ++ [0, BitVec.ofNat 8 s.repeaters.length]

/-- A whistle of a master that outranks this one has been heard of late (R415). -/
def outranked (s : State) : Bool :=
  decide (s.rail.genAge < 6) && byteAt s.rail.whistle 3 / 4 % 2 == 1 && decide (natBE ((s.rail.whistle.drop 4).take 2) % 4096 < s.nodeId)

/-- What ages with a cycle. -/
def ageCycle (s : State) : State :=
  let p := s.heardOn s.prefFeed % 2 == 1
  let late := s.rail.held.countP fun h => h.2.2.2.2 ≤ 1
  s.updRail fun r => { r with
    cycle := r.cycle + 1, heardA := r.heardA * 2 % 64, heardB := r.heardB * 2 % 64,
    prefMiss := if p then 0 else r.prefMiss + 1, prefRun := if p || r.prefMiss + 1 ≤ 2 then r.prefRun + 1 else 0,
    taggedAge := up8 r.taggedAge, genAge := up8 r.genAge, lqrAge := up8 r.lqrAge, statusAge := up8 r.statusAge,
    awake := r.awake - 1, dropped := min 255 (r.dropped + late), silent := r.silent + 1, gotPoll := false, deferred := none,
    cnt := r.cnt.set (fun _ => 0) 8 (min (r.cnt.get (fun _ => 0) 8 + late) (2 ^ 40 - 1)),
    held := (r.held.filter fun h => decide (1 < h.2.2.2.2)).map fun h => (h.1, h.2.1, h.2.2.1, h.2.2.2.1, h.2.2.2.2 - 1),
    members := r.members.map fun m => { m with wait := m.wait - 1 } }

/-- A cycle starts: settings, feed, role; a master whistles and polls. -/
def startCycle (s : State) : State :=
  let s := s.railSettings.feedRule.ageCycle
  let s := if FRL.RL_CTRL.ROLE.get s.rail.ctrl = 1 && s.rail.acting = 0 then
      if s.rail.listen ≤ 1 && !s.outranked then s.becomeMaster 1
      else s.updRail fun r => { r with listen := r.listen - 1 }
    else s
  if s.rail.acting = 0 then s.cycleMark
  else
    let s := s.updRail fun r => { r with epoch := (r.epoch + 1) % 65536, genAge := 0, genSeen := r.gen,
                                         round := if r.pollQ = [] then 1 else up8 r.round }
    let s := s.railOut 0xFFF 0 0 false false 1 s.whistleFields
    let s := s.cycleMark
    (s.updRail fun r => { r with pollQ := s.pollOrder }).pollNext

/-- The guard of R413, us: 300 us and 100 ppm of the time since the last whistle, or since the last ripple anchor. -/
def guard (s : State) : Nat := 300 + (if s.anchored then 0 else 5 * s.rail.silent)

/-- A member's cycle (R413-R416, "MAC state machines"). -/
def runCycle (s : State) (heard : Bool) : State :=
  let wake := FRL.RL_CTRL.WAKE_CYCLES.get s.rail.ctrl
  if s.rail.acting ≠ 0 then s
  else if s.sleepy && decide (s.rail.cycle % wake ≠ 0) && s.rail.awake = 0 && !s.rail.parentLost && s.guard ≤ 25000 then s
  else if heard then
    let s := s.parentFound.updRail fun r => { r with missed := 0, silent := 0 }
    let changed := s.member && decide (s.statusBody ≠ s.rail.lastStatus) && !s.rail.gotPoll
    let s := if changed || (s.rail.lossReport && decide (20 ≤ s.rail.lqrAge)) then s.updRail fun r => { r with contend := some (3, 0) } else s
    if s.sleepy then s.updRail fun r => { r with contend := some (2, 0), awake := 1 } else s
  else
    let s := (s.updRail fun r => { r with missed := up8 r.missed }).rcount 12
    let s := if 3 ≤ s.rail.missed && !s.rail.parentLost && s.rail.found then
        (s.updRail fun r => { r with parentLost := true, relaySlot := 0 }).railEvent 0
      else s
    let silent := s.rail.heardA % 64 = 0 && s.rail.heardB % 64 = 0
    let s := if 6 ≤ s.rail.missed && silent && FRL.RL_CTRL.ROLE.get s.rail.ctrl = 2 then s.becomeMaster 2 else s
    s.feedRule

/-! ## Records to the hub (R421) -/

/-- The guard in microseconds, 0xFFFF while listening continuously, and the age of the last whistle in 10 ms (RL_GUARD). -/
def guardWord (s : State) : Nat :=
  let cont := s.rail.parentLost || decide (25000 < s.guard) || !s.sleepy
  (if cont then 0xFFFF else s.guard) + 65536 * min (5 * s.rail.silent) 0xFFFF

/-- RL_STATUS as the field island reports it. -/
def railStatusWord (s : State) : Nat :=
  let other := s.heardOn (otherFeed s.rail.feed) % 64 != 0
  s.macState + 8 * (decide (s.rail.feed = .b)).toNat + 16 * other.toNat + 32 * s.member.toNat + 64 * s.relaying.toNat
    + 128 * s.rail.sync.toNat + 256 * (s.rail.hops % 4) + 4096 * (s.rail.parent % 4096) + 2 ^ 24 * min s.rail.missed 255

/-- RL_STRAIN (R396, R422): samples blanked and symbols erased in the last second, saturating, and the running RMS. -/
def strainWord (s : State) : Nat :=
  let l := s.rail.strained.filter fun t => decide (s.tele.now < t.1 + 1000000000)
  min 65535 (l.foldl (fun a t => a + t.2.1) 0) + 65536 * min 255 (l.foldl (fun a t => a + t.2.2) 0)
    + 2 ^ 24 * rmsCode s.rail.strainer.mean

/-- The FRL record: the registers from RL_STATUS to RL_MASTER without the neighbour registers, the events, the counters. -/
def frlRecord (s : State) : List Byte :=
  let r := s.rail
  let l := s.lockWord.rail
  let host := r.out.countP (·.host)
  let ws : List Nat := [s.railStatusWord, r.epoch + 65536 * r.gen, s.guardWord,
    r.stranger + 256 * r.replay + 65536 * r.fcsFail + 2 ^ 24 * r.duplicate,
    r.preambleLost + 256 * r.captured + 65536 * r.dropped + 2 ^ 24 * r.deferCap, s.strainWord,
    (match r.session with
      | some x => x.role + 4 + 16 * x.peer
      | none => 0) + 8 * (decide (l.remain ≠ 0)).toNat + 65536 * min l.remain 4095,
    host + 256 * r.sendLost + 65536 * r.delivered,
    (r.members.countP (·.admitted)) + 4096 * min s.repeaters.length 4 + 65536 * min r.round 255, r.evts]
  ws.flatMap (bytesBE 4) ++ (List.range 15).flatMap fun i => bytesBE 5 (r.cnt.get (fun _ => 0) i)

/-- The words of a neighbour entry. -/
def nbrWords (s : State) (i : Nat) : List Nat :=
  match s.nbr i with
  | none => [0, 0, 0]
  | some n =>
    let age := min 255 ((s.tele.now - n.mapAt) / 1000000000)
    let rate (m : Option ToneMap) : Nat := match m with
      | some t => t.nbps + 1024 * t.rate.toNat
      | none => 0
    [n.node + 4096 + 8192 * n.txMap.isSome.toNat + 16384 * n.rxMap.isSome.toNat + 65536 * min (meanSnr n) 255 + 2 ^ 24 * age,
      rate n.txMap + 65536 * rate n.rxMap, n.txSeq + 256 * n.rxSeq + 65536 * n.errRun + 2 ^ 24 * n.resends]

/-- The FRL record, and every tenth time the neighbour entries in two messages. -/
def sendFrl (s : State) : State :=
  let s := (s.toHub (.railDeliver 0 0 0 s.frlRecord)).updRail fun r => { r with evts := 0, records := r.records + 1 }
  if s.rail.records % 10 ≠ 0 then s
  else
    let half (k : Nat) : List Byte := (List.range 16).flatMap fun i => (s.nbrWords (16 * k + i)).flatMap (bytesBE 4)
    (s.toHub (.railDeliver 0 0 1 (half 0))).toHub (.railDeliver 0 0 2 (half 1))

/-- The hub takes an FRL record or neighbour entries (R421-R423). -/
def applyFrl (s : State) (flags : Nat) (data : List Byte) : State :=
  let wordAt (i : Nat) : Nat := natBE ((data.drop (4 * i)).take 4)
  if flags = 0 then
    let offs : List Nat := [0x02C, 0x030, 0x034, 0x048, 0x04C, 0x050, 0x054]
    let s := (offs.zipIdx).foldl (fun s (e : Nat × Nat) => s.setWord .frl e.1 (BitVec.ofNat 32 (wordAt e.2))) s
    let en := s.rd .frl FRL.RL_HOST.HOST_EN
    let s := (s.setWord .frl 0x058 (BitVec.ofNat 32 (wordAt 7))).wr .frl FRL.RL_HOST.HOST_EN en
    let s := (s.setWord .frl 0x05C (BitVec.ofNat 32 (wordAt 8))).protect .frl 0 0x02C
    let ev := wordAt 9
    let s := (List.range 11).foldl (fun s b => s.raiseIf (ev.testBit b) .frl b) s
    let cs := data.drop 40
    (List.range 15).foldl (fun s i =>
      { s with ctr := s.ctr.set (fun _ => 0) (ctrBase .frl + 8 * i) (natBE ((cs.drop (5 * i)).take 5)) }) s
  else
    let base := if flags = 1 then 0 else 48
    (List.range 48).foldl (fun s i => s.updMirror fun m => { m with
      nbrs := m.nbrs.set (fun _ => 0) (base + i) (BitVec.ofNat 32 (wordAt i)) }) s

/-- A preamble in the samples received (R392): they pass the strainer, its start mark is found and its power taken. -/
def preamble (s : State) (r : RailSoft) : Reception × State :=
  let (x, s) := s.strain false r.samples
  let o := preambleOffset x
  ({ power := preamblePower x o, mark := s.tele.now - 400 * (x.length - (o + markAt)), captured := false }, s)

/-- The watch is blind for 243.2 us after the start mark of a frame that captured the receiver (R487). -/
def blind (s : State) (mark : Nat) : Bool :=
  match s.rail.rx with
  | some p => p.captured && decide (p.mark ≤ mark) && decide (mark < p.mark + 243200)
  | none => false

/-- A preamble that does not get the receiver is counted (R399, R487). -/
def preambleLost (s : State) : State := (s.updRail fun x => { x with preambleLost := up8 x.preambleLost }).rcount 6

/-- A service row's request: the header must be its service and OP. -/
def railRow (s : State) (svc op : Nat) (peer : BitVec 12) (body : List Byte) : State :=
  if s.modemOn && byteAt body 0 == svc && byteAt body 1 == op then s.railMessage peer.toNat body else s

end State

/-! ## Commands -/

/-- PREAMBLE_DETECTED (R392, R396, R399, R487): before frame control validates, the newest preamble has the receiver, but for the
243.2 us after the start mark of a frame that captured it. -/
def execPreambleDetected (r : RailSoft) (s : State) : Host.Outcome State Fault Refusal :=
  s.done fun s =>
    if !s.modemOn || r.feed ≠ s.rail.feed then s
    else
      let (p, s) := s.preamble r
      if s.blind p.mark then s.preambleLost else s.updRail fun x => { x with rx := some p }

/-- PREAMBLE_CAPTURE (R392, R396, R400, R487): during a payload, a preamble of enough more power takes the receiver. -/
def execPreambleCapture (r : RailSoft) (s : State) : Host.Outcome State Fault Refusal :=
  s.done fun s =>
    if !s.modemOn || r.feed ≠ s.rail.feed then s
    else match s.rail.rx with
      | none => s
      | some old =>
        let (p, s) := s.preamble r
        if s.blind p.mark || !exceeds p.power old.power (FRL.RL_TUNE.CAPTURE_MARGIN.get s.rail.tune) then s.preambleLost
        else (s.updRail fun x => { x with captured := State.up8 x.captured, rx := some { p with captured := true } }).rcount 7

/-- WHISTLE (R402, R403, R415). -/
def execWhistle (r : RailSoft) (s : State) : Host.Outcome State Fault Refusal :=
  s.done fun s => s.railRx r 0 fun w s => s.hearWhistle r.feed w false

/-- RELAY_WHISTLE (R402). -/
def execRelayWhistle (r : RailSoft) (s : State) : Host.Outcome State Fault Refusal :=
  s.done fun s => s.railRx r 1 fun w s => s.hearWhistle r.feed w true

/-- POLL (R404). -/
def execPoll (r : RailSoft) (s : State) : Host.Outcome State Fault Refusal :=
  s.done fun s => s.railRx r 2 fun r s =>
    if s.rail.acting ≠ 0 then s
    else if s.forNode r ≠ s.nodeId then s.forward r
    else
      let s := s.updRail fun x => { x with awake := max x.awake 1, gotPoll := true }
      let s := if 12 ≤ r.payload.length then s.railMessage (natBE (r.payload.take 4) / 2 ^ 20 % 4096) (r.payload.drop 4) else s
      s.answerPoll (fcSrc r.fc)

/-- DATA (R404, R409, R410, R412). -/
def execData (r : RailSoft) (s : State) : Host.Outcome State Fault Refusal :=
  s.done fun s => s.railRx r 3 fun r s =>
    let final := finalOf r.payload
    let s := if final = s.nodeId || final = s.ownAddr || final = 0xFFF then
        s.railMessage (natBE (r.payload.take 4) / 2 ^ 20 % 4096) (r.payload.drop 4)
      else s.forward r
    s.pollAnswered r

/-- ACK (R404). -/
def execAck (r : RailSoft) (s : State) : Host.Outcome State Fault Refusal :=
  s.done fun s => s.railRx r 4 fun r s =>
    match s.nbrOf (fcSrc r.fc) with
    | none => s
    | some i => match (s.nbr i).bind (·.unacked) with
      | none => s
      | some u =>
        if u.seq ≠ fcSeq r.fc then s
        else
          let s := s.updNbr i fun n => { n with unacked := none }
          s.updRail fun x => { x with awaiting := none, contend := if u.frame.typ = 9 then none else x.contend }

/-- NULL (R404). -/
def execNull (r : RailSoft) (s : State) : Host.Outcome State Fault Refusal :=
  s.done fun s => s.railRx r 5 fun r s => s.pollAnswered r

/-- SOUND (R398). -/
def execSound (r : RailSoft) (s : State) : Host.Outcome State Fault Refusal :=
  s.done fun s => s.railRx r 6 fun r s =>
    match s.nbrOf (fcSrc r.fc) with
    | some i => s.refreshMap i true
    | none => s

/-- TONE_MAP (R398): TMI 0 carries no map (log 126). -/
def execToneMap (r : RailSoft) (s : State) : Host.Outcome State Fault Refusal :=
  s.done fun s => s.railRx r 7 fun r s =>
    let m := readMap (r.payload.drop 12)
    match s.nbrOf (fcSrc r.fc) with
    | some i =>
      if m.tmi = 0 then
        let s := s.updNbr i fun n => { n with txMap := none }
        if m.rate then s.tellNbr i 6 none else s
      else if m.nbps = 0 then s
      else s.updNbr i fun n => { n with txMap := some m, mapAt := s.tele.now }
    | none => s

/-- LQR (R411). -/
def execLqr (r : RailSoft) (s : State) : Host.Outcome State Fault Refusal :=
  s.done fun s => s.railRx r 8 fun r s =>
    if s.rail.acting = 0 then (if finalOf r.payload = s.nodeId then s else s.forward r)
    else
      let d := r.payload.drop 12
      let origin := natBE (r.payload.take 4) / 2 ^ 20 % 4096
      (s.updMember origin fun m => { m with lqr := State.readLqr d (min 32 (d.length / 6)) }).pollAnswered r

/-- CONTEND (R406, R408, R413). -/
def execContend (r : RailSoft) (s : State) : Host.Outcome State Fault Refusal :=
  s.done fun s => s.railRx r 9 fun r s => s.takeContend r

/-- ROUTE (R411). -/
def execRoute (r : RailSoft) (s : State) : Host.Outcome State Fault Refusal :=
  s.done fun s => s.railRx r 10 fun r s =>
    if s.rail.acting ≠ 0 then s else if finalOf r.payload = s.nodeId then s.takeRoute r else s.forward r

/-- RAIL_FRAME_DISCARD (R395, R407, R409): ignored and counted by what is wrong with it. -/
def execRailFrameDiscard (r : RailSoft) (s : State) : Host.Outcome State Fault Refusal :=
  s.done fun s =>
    let x := r
    let r := s.demod x
    let s := s.endRx x
    State.undefer <| match s.railCheck x.feed r with
    | 2 => s.countStranger
    | 3 => (((s.updRail fun x => { x with fcsFail := State.up8 x.fcsFail }).rcount 2).erroredFrom (fcSrc r.fc))
    | 0 => match (s.nbrOf (fcSrc r.fc)).bind s.nbr with
      | some n => if State.windowed (fcType r.fc) && decide (32 < (fcSeq r.fc + 256 - n.rxSeq) % 256) then s.countReplay else s
      | none => s
    | _ => s

/-- CYCLE_START (R401-R403, R415). -/
def execCycleStart (s : State) : Host.Outcome State Fault Refusal :=
  s.done fun s => if s.modemOn then s.startCycle else s

/-- RELAY_WHISTLE_SLOT (R402, R412). -/
def execRelayWhistleSlot (s : State) : Host.Outcome State Fault Refusal :=
  s.done fun s =>
    if s.modemOn && s.relaying && s.rail.whistle.length = 8 then
      s.railOut 0xFFF 1 0 false false 1 (s.rail.whistle.set 6 (BitVec.ofNat 8 s.rail.relaySlot))
    else s

/-- CONTEND_SLOT (R405, R406). -/
def execContendSlot (busy : Bool) (s : State) : Host.Outcome State Fault Refusal :=
  s.done fun s =>
    match s.modemOn, s.rail.contend with
    | true, some (kind, _) =>
      let (i, s) := s.draw
      let s := s.updRail fun r => { r with contend := some (kind, (Config.backoff i).val) }
      if busy || s.rail.rx.isSome then s.updRail fun r => { r with deferred := some { kind := kind, energy := busy } }
      else s.sendContend kind
    | _, _ => s

/-- ACK_TIMEOUT (R404): held for resend; dropped after the fourth send; a poll without an answer is missed. -/
def execAckTimeout (s : State) : Host.Outcome State Fault Refusal :=
  s.done fun s =>
    if !s.modemOn then s
    else
      let s := match s.rail.awaiting with
        | none => s
        | some i =>
          let s := s.updRail fun r => { r with awaiting := none }
          match (s.nbr i).bind (·.unacked) with
          | none => s
          | some u =>
            if u.sends < 4 then s
            else
              let s := s.updNbr i fun n => { n with unacked := none }
              let s := (s.updRail fun r => { r with dropped := State.up8 r.dropped }).rcount 8
              if u.frame.host then s.countSendLost else s
      match s.rail.acting, s.rail.polled with
      | 0, _ => s
      | _, none => s
      | _, some n => (s.updMember n fun m => { m with missed := m.missed + 1, wait := if 3 ≤ m.missed + 1 then 20 else 0 }).pollNext

/-- DEFER_CAP_EXPIRY (R405). -/
def execDeferCapExpiry (s : State) : Host.Outcome State Fault Refusal :=
  s.done fun s =>
    match s.modemOn, s.rail.deferred with
    | true, some d =>
      let s := (s.updRail fun r => { r with deferred := none, deferCap := State.up8 r.deferCap }).rcount 9
      if d.kind = 0 then s.pollNow else s.sendContend d.kind
    | _, _ => s

/-- MEMBER_CYCLE (R413-R416). -/
def execMemberCycle (heard : Bool) (s : State) : Host.Outcome State Fault Refusal :=
  s.done fun s => if s.modemOn then s.runCycle heard else s

/-- TONE_MAP_REFRESH (R398). -/
def execToneMapRefresh (slot : Fin 32) (s : State) : Host.Outcome State Fault Refusal :=
  s.done fun s => if s.modemOn then s.refreshMap slot.val true else s

/-- TONE_MAP_EXPIRY (R398). -/
def execToneMapExpiry (slot : Fin 32) (s : State) : Host.Outcome State Fault Refusal :=
  s.done fun s => s.updNbr slot.val fun n => { n with txMap := none }

/-- ROUTE_ASSESS (R411). -/
def execRouteAssess (s : State) : Host.Outcome State Fault Refusal :=
  s.done fun s => if s.modemOn && s.rail.acting != 0 then (s.rail.members.map (·.node)).foldl State.assess s else s

/-- RAIL_SESSION_REQUEST (R417, R500): service 2, OP 1. -/
def execRailSessionRequest (peer : BitVec 12) (body : List Byte) (s : State) : Host.Outcome State Fault Refusal :=
  s.done fun s => s.railRow 2 1 peer body

/-- RAIL_SESSION_PROOF (R417, R500): OP 3. -/
def execRailSessionProof (peer : BitVec 12) (body : List Byte) (s : State) : Host.Outcome State Fault Refusal :=
  s.done fun s => s.railRow 2 3 peer body

/-- RAIL_SESSION_CLOSE (R417): OP 5. -/
def execRailSessionClose (peer : BitVec 12) (body : List Byte) (s : State) : Host.Outcome State Fault Refusal :=
  s.done fun s => s.railRow 2 5 peer body

/-- RAIL_SESSION_KEEPALIVE (R417): OP 6. -/
def execRailSessionKeepalive (peer : BitVec 12) (body : List Byte) (s : State) : Host.Outcome State Fault Refusal :=
  s.done fun s => s.railRow 2 6 peer body

/-- RAIL_NONCE_EXPIRY (R500). -/
def execRailNonceExpiry (s : State) : Host.Outcome State Fault Refusal :=
  s.done fun s => s.updRail fun r => { r with nonce := none }

/-- RAIL_SESSION_TIMEOUT (R417). -/
def execRailSessionTimeout (s : State) : Host.Outcome State Fault Refusal :=
  s.done fun s => s.endRailSession

/-- STATUS_REQUEST (R418): service 1, OP 1. -/
def execStatusRequest (peer : BitVec 12) (body : List Byte) (s : State) : Host.Outcome State Fault Refusal :=
  s.done fun s => s.railRow 1 1 peer body

/-- RAIL_KETTLE_CLEAR (R418, R449): service 3, OP 1. -/
def execRailKettleClear (peer : BitVec 12) (body : List Byte) (s : State) : Host.Outcome State Fault Refusal :=
  s.done fun s => s.railRow 3 1 peer body

/-- THERMAL_RELEASE (R418, R446): service 3, OP 2. -/
def execThermalRelease (peer : BitVec 12) (body : List Byte) (s : State) : Host.Outcome State Fault Refusal :=
  s.done fun s => s.railRow 3 2 peer body

/-- RAIL_SETTING (R418): service 3, OP 3. -/
def execRailSetting (peer : BitVec 12) (body : List Byte) (s : State) : Host.Outcome State Fault Refusal :=
  s.done fun s => s.railRow 3 3 peer body

/-- REPLACE_ROLE (R418, R419): service 4, OP 1. -/
def execReplaceRole (peer : BitVec 12) (body : List Byte) (s : State) : Host.Outcome State Fault Refusal :=
  s.done fun s => s.railRow 4 1 peer body

/-- NETWORK_KEY (R408, R418): service 4, OP 2. -/
def execNetworkKey (peer : BitVec 12) (body : List Byte) (s : State) : Host.Outcome State Fault Refusal :=
  s.done fun s => s.railRow 4 2 peer body

/-- HOST_DATA (R418, R420): service 5, OP 1. -/
def execHostData (peer : BitVec 12) (body : List Byte) (s : State) : Host.Outcome State Fault Refusal :=
  s.done fun s => s.railRow 5 1 peer body

/-- FRL_RECORD_TIMER (R421). -/
def execFrlRecordTimer (s : State) : Host.Outcome State Fault Refusal :=
  s.done fun s => if s.fieldAwake then s.sendFrl else s

end Sys2Proof.Machine
end

