-- ==== Sys2Proof/Machine/FieldLink.lean ====
section
/-! DEFINITION. The barrier link's frames, the field island's feeds, phases and images: what their commands share
(R340-R361). -/
namespace Sys2Proof.Machine

open Sys2Proof Reg

namespace State

/-! ## Delivery (R342) -/

/-- The hub delivers the next frame in order, when a test takes its message. -/
def hubTakes (s : State) (f : BMsg → Option (State → State)) : State :=
  if s.start.power = .off then s
  else match s.fieldEnd.unacked.find? fun x => x.seq == seqOn s.hubEnd.rxSeq 1 with
    | none => s
    | some x => match f x.msg with
      | some g => g { s with hubEnd := { s.hubEnd with rxSeq := x.seq } }
      | none => s

/-- A RAIL_SEND at the field island (R420): taken with service 0x05 for the session peer while HOST_EN is 1 and a session is open; otherwise
discarded and counted. -/
def takeRailSend (s : State) (dest svc flags : Nat) (data : List Byte) : State :=
  match s.rail.session with
  | none => s.countSendLost
  | some x =>
    if svc ≠ 5 || s.fset .frl FRL.RL_HOST.HOST_EN ≠ 1 || dest ≠ x.peer then s.countSendLost
    else
      let s := s.updRail fun r => { r with session := some { x with txMsg := x.txMsg + 1 } }
      s.queueOut { typ := 3, final := x.peer, key := 2, host := true, body := svcHeader 5 1 (flags / 2 * 2) (x.txMsg + 1) ++ data }

/-- The field island delivers the RAIL_SENDs that are next in order: no command of their own brings them there (log 121). -/
def takeSends (s : State) (fuel : Nat) : State :=
  match fuel with
  | 0 => s
  | n + 1 =>
    if !s.fieldAwake then s
    else match s.hubEnd.unacked.find? fun x => x.seq == seqOn s.fieldEnd.rxSeq 1 with
      | some ⟨seq, _, .railSend dest svc flags data⟩ =>
        (({ s with fieldEnd := { s.fieldEnd with rxSeq := seq } }).takeRailSend dest svc flags data).takeSends n
      | _ => s

/-- The field island delivers the next frame in order, when a test takes its message, and the RAIL_SENDs that follow it. -/
def fieldTakes (s : State) (f : BMsg → Option (State → State)) : State :=
  if !s.fieldAwake then s
  else match s.hubEnd.unacked.find? fun x => x.seq == seqOn s.fieldEnd.rxSeq 1 with
    | none => s
    | some x => match f x.msg with
      | some g => (g { s with fieldEnd := { s.fieldEnd with rxSeq := x.seq } }).takeSends 64
      | none => s

/-- An acknowledgement ends the frames up to its SEQ; waiting messages follow (R342). -/
def ackEnd (e : BEnd) (ack : Nat) : BEnd :=
  let u := match e.unacked.findIdx? fun x => x.seq == ack with
    | some i => e.unacked.drop (i + 1)
    | none => e.unacked
  let e := { e with unacked := u }
  let n := if e.up then min e.waiting.length (64 - u.length) else 0
  let now := e.waiting.take n
  now.foldl (fun e m => sendFrom e m) { e with waiting := [] } |> fun e' => { e' with waiting := e.waiting.drop n }

/-- The hub counts what it discards and resends (ERR_COUNTS). -/
def recountHub (s : State) : State :=
  let e := s.hubEnd
  let s := (s.wr .fbr FBR.ERR_COUNTS.CRC_ERR (min e.crcErr 255)).wr .fbr FBR.ERR_COUNTS.UNKNOWN (min e.unknown 255)
  (s.wr .fbr FBR.ERR_COUNTS.RESENDS (min e.resends 255)).wr .fbr FBR.ERR_COUNTS.DROPPED (min e.dropped 255)

/-! ## Reports -/

/-- A STATUS_REPORT is put on the link, with what the field island measures now (R344, R353). -/
def sendReport (s : State) : State :=
  let (i, s) := s.sweep.stepStores.draw
  let s := s.updPub fun p => { p with
    holdupTime := s.holdupTime
    phases := p.phases.mapIdx fun j x => { x with temp := signed 8 (Config.phaseTemp i j).toNat }
    permit := s.tele.permit
    thermRestarts := min 3 (s.tele.restarts.countP fun t => decide (s.tele.now < t + 86400000000000)) }
  let s := s.toHub (.statusReport s.report)
  s.updTele fun t => { t with permit := 0 }

/-- Both full reports (R348). -/
def sendFull (s : State) : State := (s.sendReport.sendBatch).updField fun f => { f with fullOwed := false }

/-! ## Link up (R343, R348) -/

/-- The hub's end comes up. -/
def hubLinkUp (s : State) : State :=
  let s := { s with hubEnd := { s.hubEnd with up := true } }
  let s := (s.raise .dev 2).log 6 0 0 2 0
  let s := if s.start.forceWindow && s.start.forceSince.isNone then
      (s.updStart fun x => { x with forceSince := some s.tele.now }).forceStart
    else s
  s.restale

/-- The field island's end comes up: full reports first; then what its hardware had to say while its image restarted, and a KETTLE_ENTER
that is owed. -/
def fieldLinkUp (s : State) : State :=
  let owed := s.fieldEnd.waiting
  let s := owed.foldl toHub ({ s with fieldEnd := { s.fieldEnd with up := true, waiting := [] } }).sendFull
  if s.start.kettleOwed then
    (s.toHub (.kettleEnter s.causeWord.cause s.attemptsWord)).updStart fun x => { x with kettleOwed := false }
  else s

/-- RESTART is seen: the SEQ expected is 1 again (R343), and this end drops what it had sent or had waiting and starts its own numbering anew
(the model's choice, log 93). -/
def peerRestarted (e : BEnd) : BEnd := { e with rxSeq := 0, txSeq := 0, unacked := [], waiting := [] }

/-- A HEARTBEAT is taken by the hub. -/
def hubBeat (s : State) (h : HeartB) : State :=
  let again := h.restart && !s.hubEnd.peerRestart
  let s := { s with hubEnd := { s.hubEnd with peerRestart := h.restart, hbRun := min 3 (s.hubEnd.hbRun + 1) }
                    fieldEnd := { s.fieldEnd with hb := none } }
  let s := if again && s.hubEnd.up then
      ({ s with hubEnd := peerRestarted s.hubEnd }).dropPending.proofLost.raise .fbr 0
    else if again then { s with hubEnd := peerRestarted s.hubEnd } else { s with hubEnd := ackEnd s.hubEnd h.ack }
  let s := (s.wr .fbr FBR.FAR_COUNTS.CRC_ERR h.crc).wr .fbr FBR.FAR_COUNTS.UNKNOWN h.unknown
  let s := s.wr .fbr FBR.LINK_STATUS.FIELD_STATE (if h.imageRestart then 3 else if h.kettle then 2 else if h.starting then 1 else 0)
  let s := s.updMirror fun m => { m with imgWait := h.imageRestart }
  (if s.hubEnd.hbRun = 3 && !s.hubEnd.up then s.hubLinkUp else s.restale).takeSends 64

/-- A HEARTBEAT is taken by the field island. -/
def fieldBeat (s : State) (h : HeartB) : State :=
  let again := h.restart && !s.fieldEnd.peerRestart
  let s := { s with fieldEnd := { s.fieldEnd with peerRestart := h.restart, hbRun := min 3 (s.fieldEnd.hbRun + 1) }
                    hubEnd := { s.hubEnd with hb := none } }
  let s := if again then { s with fieldEnd := peerRestarted s.fieldEnd } else { s with fieldEnd := ackEnd s.fieldEnd h.ack }
  if s.fieldEnd.hbRun = 3 && !s.fieldEnd.up then s.fieldLinkUp
  else if again && s.fieldEnd.up then s.sendFull else s

/-- A side sends its HEARTBEAT (R343, R344, R349). -/
def beat (s : State) (side : Side) : State :=
  match side with
  | .hub =>
    if s.start.power = .off || s.host.mgmt = .stopped then s
    else
      let e := s.hubEnd
      let h : HeartB := { ack := e.rxSeq, restart := decide (0 < e.restartLeft), imageRestart := false, kettle := s.start.kettle,
                          starting := s.start.attempt.isSome, crc := min e.crcErr 255, unknown := min e.unknown 255 }
      ({ s with hubEnd := { e with hb := some h, restartLeft := e.restartLeft - 1 } }).emit
        (.barrier .hub 1 0 (frameCode s.time 1 0 (beatPayload h (s.time.toNat / 1000000))))
  | .field =>
    if !s.fieldAwake then s
    else
      let e := s.fieldEnd
      let h : HeartB := { ack := e.rxSeq, restart := decide (0 < e.restartLeft), imageRestart := s.field.imgRestart,
                          kettle := s.start.kettle || s.start.deepKettle, starting := s.start.attempt.isSome,
                          crc := min e.crcErr 255, unknown := min e.unknown 255 }
      let s := s.updField fun f => { f with imgBeats := f.imgBeats - 1 }
      ({ s with fieldEnd := { e with hb := some h, restartLeft := e.restartLeft - 1 } }).emit
        (.barrier .field 1 0 (frameCode s.time 1 0 (beatPayload h (s.tele.now / 1000000))))

/-- What a message lost after four sends, or with the link, leaves behind (R342, R345, R347). -/
def messageLost (s : State) (m : BMsg) : State :=
  match m with
  | .settingWrite page _ off _ =>
    let i := s.mirror.pending.findIdx? fun (x : Nat × Nat × Nat) => x.2 == (page, off)
    let s := match i with
      | some i =>
        let q := (s.mirror.pending.getD i (0, 0, 0)).1
        ({ s with mirror := { s.mirror with pending := s.mirror.pending.eraseIdx i }
                  sense := { s.sense with slotSeqs := s.sense.slotSeqs.filter (· != q) } }).repend
      | none => s
    s.settingReject page off 4
  | .proofCheck .. | .proofResult .. => s.proofLost
  | _ => s

/-- The oldest unacknowledged frame of a side has waited 3 ms: all are sent again, or the oldest is dropped after its fourth send. -/
def resendSide (s : State) (side : Side) : State :=
  let e := match side with
    | .hub => s.hubEnd
    | .field => if s.imageGap then { s.fieldEnd with unacked := [] } else s.fieldEnd
  let put (s : State) (e : BEnd) : State := match side with
    | .hub => { s with hubEnd := e }
    | .field => { s with fieldEnd := e }
  match e.unacked with
  | [] => s
  | x :: r =>
    if 4 ≤ x.sends then
      let s := (put s { e with unacked := r, dropped := e.dropped + 1 }).messageLost x.msg
      match side with
      | .hub => (s.count .fbr 3 1).recountHub
      | .field => s
    else
      let s := put s { e with unacked := e.unacked.map fun y => { y with sends := y.sends + 1 }, resends := e.resends + e.unacked.length }
      match side with
      | .hub => (s.count .fbr 2 e.unacked.length).recountHub
      | .field => s

/-- A side has received no valid frame for 10 ms (R20, R349, R441). -/
def sideDown (s : State) (side : Side) : State :=
  match side with
  | .hub =>
    if s.mirror.imgWait then s.restale
    else if s.hubEnd.up then s.hubLinkDown true else { s with hubEnd := { s.hubEnd with hbRun := 0 } }
  | .field =>
    if s.imageGap then s
    else if !s.fieldEnd.up then { s with fieldEnd := { s.fieldEnd with hbRun := 0 } }
    else
      let s := s.fieldLinkDown
      match s.start.attempt with
      | some a => if 8 ≤ a.step && !s.pins.resetN.asserted then s.failAttempt 9 else s
      | none => s

/-! ## Feeds and stores (R350-R353, R445) -/

/-- The field island keeps through a loss of its power: the words, the phases, FPW_COUNTS, its images and the rail settings (R359, R362,
R422). -/
def FieldPub.keep (p : FieldPub) : FieldPub :=
  let frl := p.settings.filter fun e => e.1 / 0x1000 == 0x202
  { FieldPub.reset with
    feedA := p.feedA, feedB := p.feedB, phases := p.phases.map fun x => { x with temp := 0, share := 0 }
    feedLosses := p.feedLosses, phaseSwaps := p.phaseSwaps, ovEvents := p.ovEvents, clEvents := p.clEvents, settings := frl
    short := p.short, spared := p.spared, failed := p.failed, imgFails := p.imgFails
    imgSlot := p.imgSlot, imgSpare := p.imgSpare, imgVersion := p.imgVersion }

/-- The field island loses its power. -/
def fieldDown (s : State) : State :=
  { s with
    fieldEnd := BEnd.reset, tele := Tele.reset, rail := { Rail.reset with up := false }
    field := { Field.reset with pub := FieldPub.keep s.field.pub, keys := s.field.keys, attempts := s.field.attempts,
                                cause := s.field.cause, caddy := s.field.caddy, lock := s.field.lock, ident := s.field.ident
                                stores := { s.storesNow with time := 0 } }
    start := { Start.reset with power := s.start.power } }

/-- Neither feed has voltage. -/
def noFeed (s : State) : Bool :=
  let dead (f : FeedSt) : Bool := f.st == .absent || f.st == .reversed
  dead s.field.pub.feedA && dead s.field.pub.feedB

/-- The field island goes once its store is spent with no feed present. -/
def maybeFieldDown (s : State) : State := if s.start.fieldUp && s.start.spent && s.noFeed then s.fieldDown else s

/-- The stores are spent (R353, R445): the converter stops, the host side loses power, an attempt is not charged. -/
def storesSpent (s : State) : State :=
  let s := s.abandonAttempt.hostPowerDown
  let s := s.updPub fun p => { p with conv := .off, holdup := false, busV := 0, busI := 0 }
  let s := s.updField fun f => { f with bulk := false, stores := spendStores s.storesNow }
  let s := s.updStart fun x => { x with kettle := false, offWait := false, spent := true, forceWindow := false, kettleOwed := false }
  s.maybeFieldDown

/-- A FEED_LIMITS message shows its event (R344, R363): the reports that follow show nothing new of it. -/
def showFeed (s : State) (feed ev : Nat) : State :=
  s.updMirror fun m => { m with shown := m.shown.map fun x =>
    match ev with
    | 1 | 3 | 5 => if feed = 0 then { x with validA := false, limitA := false } else { x with validB := false, limitB := false }
    | 2 => if feed = 0 then { x with validA := true, limitA := false } else { x with validB := true, limitB := false }
    | 4 => if feed = 0 then { x with limitA := true } else { x with limitB := true }
    | 6 => { x with holdup := true }
    | 7 => { x with holdup := false }
    | _ => x }

/-- A PHASE_SPARE message shows its event likewise. -/
def showPhase (s : State) (failed : Bool) : State :=
  s.updMirror fun m => { m with shown := m.shown.map fun x =>
    if failed then { x with failed := x.failed + 1 } else { x with spared := x.spared + 1 } }

/-! ## Phases (R357, R358) -/

/-- A ramp ends: a spare works and the replaced phase ramps out; a phase that has ramped out is retired. -/
def rampDone (s : State) (i : Nat) : State :=
  let p := s.phase i
  match p.st with
  | .rampIn =>
    let s := s.setPhase i { p with st := .working }
    match s.field.swaps.find? fun (x : Nat × Option Nat × Nat) => x.2.1 == some i with
    | some x =>
      let s := s.updField fun f => { f with swaps := f.swaps.erase x }
      let q := s.phase x.1
      if q.st = .working then s.setPhase x.1 { q with st := .rampOut } else s.reshortConv
    | none => s
  | .rampOut => (s.setPhase i { p with st := .retired }).reshortConv
  | _ => s

/-! ## Field images, the hub's side (R364) -/

/-- The gathered dwords go to the field island. -/
def sendChunk (s : State) : State :=
  let m := s.mirror
  if m.chunk = [] then s
  else
    let bytes := m.chunk.flatMap fun w => bytesBE 4 w.toNat
    let left := if m.imgLen = 0 then bytes.length else m.imgLen - m.imgSent
    let bytes := bytes.mapIdx fun i b => if i < left then b else 0
    (s.toField (.imageChunk m.imgSent bytes)).updMirror fun x => { x with chunk := [], imgSent := x.imgSent + bytes.length }

/-- IMAGE_PORT (R364): a dword gathered, and a chunk sent at 62 dwords or at the stated length. -/
def effImagePort (v : Word) (s : State) : State :=
  if !s.hubEnd.up then s.mirrorRefuse 3 0x03C
  else if !s.mirror.imgOpen then s
  else
    let first := s.mirror.imgSent = 0 && s.mirror.chunk = []
    let s := s.updMirror fun m => { m with chunk := m.chunk ++ [v], imgLen := if first then v.toNat else m.imgLen }
    let m := s.mirror
    if m.chunk.length = 62 || (m.imgLen ≠ 0 && m.imgLen ≤ m.imgSent + 4 * m.chunk.length) then s.sendChunk else s

/-- IMAGE_CTRL (R364): BEGIN restarts the byte count; it is sent on as a setting. Two commands together are ignored. -/
def effImageCtrl (v : Word) (s : State) : State :=
  let b := FBR.IMAGE_CTRL.BEGIN.get v
  let a := FBR.IMAGE_CTRL.ACTIVATE.get v
  let c := FBR.IMAGE_CTRL.ABORT.get v
  if b + a + c ≠ 1 then s
  else
    let s := if s.hubEnd.up && a = 0 then
        s.updMirror fun m => { m with chunk := [], imgSent := 0, imgLen := 0, imgOpen := b == 1 }
      else s
    effMirror .fbr 0x038 v s

/-- PHASE_CTRL (R362): REPLACE without its CONFIRM is ignored and counted; the rest is sent on. -/
def effPhaseCtrl (v : Word) (s : State) : State :=
  if FPW.PHASE_CTRL.REPLACE.get v = 1 && FPW.PHASE_CTRL.CONFIRM.get v ≠ 0x5053 then
    effMirror .fpw 0x044 (FPW.PHASE_CTRL.REPLACE.put v 0) s.countMalformed
  else effMirror .fpw 0x044 v s

/-- A message of the field island's hardware, which goes on while its image restarts (R361). -/
def ofHardware (m : BMsg) : Bool := match m with
  | .phaseSpare .. | .feedLimits .. => true
  | _ => false

/-- The field island runs again after an image restart (R361): its end of the link, the rail node and its session, and the telemetry chains
start anew, and the counters of the aperture (R463); its settings, FPW_COUNTS and votes stay (the model's choice, log 52). An image that fails to boot leaves the old slot running. -/
def imageRestarted (s : State) (ok : Bool) : State :=
  let f := s.field
  let pub := { f.pub with
    imgState := if ok then 0 else 5, imgSlot := if ok then 1 - f.pub.imgSlot else f.pub.imgSlot, imgSpare := ok
    imgVersion := if ok then imgVer f.img else f.pub.imgVersion, imgFails := if ok then f.pub.imgFails else f.pub.imgFails + 1, lastSet := (0, 0, 0, 0), railRole := 0, railPeer := 0, cnt := [] }
  State.railStart { s with
    field := { f with pub := pub, imgRestart := false, imgBeats := 0, img := [] }
    fieldEnd := { BEnd.reset with downs := s.fieldEnd.downs, waiting := s.fieldEnd.waiting.filter ofHardware }
    tele := { s.tele with chans := [], slot := 0, testing := [], rippleA := Ripple.reset, rippleB := Ripple.reset } }

/-! ## Proofs across the barrier (R46, R71) -/

/-- PROOF_CHECK at the field island. -/
def checkHostProof (s : State) (role : Nat) (nonce : BitVec 64) (counter : BitVec 32) (proof : List Word) : State :=
  let s := (s.voteWord 0).voteWord 4
  let w := s.lockWord
  let send (s : State) (res : Nat) : State :=
    let l := s.lockWord.host
    s.toHub (.proofResult role res l.failRun l.remain l.counter)
  if w.host.remain ≠ 0 then send s 3
  else if s.proofRight role nonce counter w.host.counter (proof.flatMap fun x => bytesBE 4 x.toNat) then
    send (s.setLock { w with host := lockPass w.host }) 1
  else send (s.setLock { w with host := lockFail w.host }) 2

/-- PROOF_RESULT at the hub: a pass opens the session, unless a warm reset came between. -/
def takeProofResult (s : State) (role res failRun remain : Nat) : State :=
  let locks := decide (remain ≠ 0) && !s.bit .ses SES.SES_STATUS.LOCKED
  let s := (s.wr .ses SES.SES_STATUS.FAIL_RUN failRun).wb .ses SES.SES_STATUS.LOCKED (decide (remain ≠ 0))
  let s := s.wr .ses SES.SES_STATUS.LOCKOUT_REMAIN remain
  let s := if locks then ((s.sesEvent 3 role).raise .dev 8).count .ses 2 1 else s
  let s := if res = 1 then s.count .ses 0 1 else if res = 2 then s.count .ses 1 1 else s
  if s.ses.discard || !s.bit .ses SES.SES_STATUS.PROOF_PENDING then { s with ses := { s.ses with discard := false } }
  else
    let s := (s.wb .ses SES.SES_STATUS.PROOF_PENDING false).wr .ses SES.SES_STATUS.LAST_RESULT res
    if res = 1 then
      ({ s.wr .ses SES.SES_STATUS.ROLE role with ses := { s.ses with lastWrite := s.time } }).sesEvent 0 role
    else if res = 2 then s.sesEvent 2 role else s

end State
end Sys2Proof.Machine
end

