-- ==== Sys2Proof/Machine/Barrier.lean ====
section
/-! DEFINITION. The commands of the barrier link, the feeds, the converter and the field images, and the field island's timers
(R48, R292, R340-R365). -/
namespace Sys2Proof.Machine

open Sys2Proof Reg

/-- LOCKOUT_EXPIRY (R48). -/
def execLockoutExpiry (i : Iface) (s : State) : Host.Outcome State Fault Refusal :=
  s.done fun s =>
    if !s.fieldAwake then s
    else
      let w := s.lockWord
      match i with
      | .host => s.setLock { w with host := { w.host with remain := 0 } }
      | .rail => s.setLock { w with rail := { w.rail with remain := 0 } }

/-- LOCKOUT_SAVE_TICK (R48): each second the remaining time is written; it reads 0 only once the lockout has ended. -/
def execLockoutSaveTick (s : State) : Host.Outcome State Fault Refusal :=
  s.done fun s =>
    if !s.fieldAwake then s
    else
      let w := s.lockWord
      let down (l : Lock) : Lock := if 1 < l.remain then { l with remain := l.remain - 1 } else l
      s.setLock { host := down w.host, rail := down w.rail }

/-- VOTE_SWEEP (R292). -/
def execVoteSweep (s : State) : Host.Outcome State Fault Refusal :=
  s.done fun s => if s.fieldAwake then s.sweep else s

/-- HEARTBEAT (R342, R343): the side takes the HEARTBEAT that its peer sent last. -/
def execHeartbeat (side : Side) (s : State) : Host.Outcome State Fault Refusal :=
  s.done fun s => match side with
    | .hub => match s.fieldEnd.hb with
      | some h => if s.start.power = .off then s else s.hubBeat h
      | none => s
    | .field => match s.hubEnd.hb with
      | some h => if s.fieldAwake then s.fieldBeat h else s
      | none => s

/-- TELEMETRY_BATCH (R344, R376). -/
def execTelemetryBatch (s : State) : Host.Outcome State Fault Refusal :=
  s.done fun s => s.hubTakes fun m => match m with
    | .telemetryBatch rs a b n => some fun s => s.applyBatch rs a b n
    | _ => none

/-- RAIL_DELIVER (R420, R421). -/
def execRailDeliver (s : State) : Host.Outcome State Fault Refusal :=
  s.done fun s => s.hubTakes fun m => match m with
    | .railDeliver src svc flags data => some fun s => if svc = 0 then s.applyFrl flags data else s.emit (.railToHost src svc data)
    | _ => none

/-- RAIL_SEND (R344, R420): a numbered frame on the link, which the field island takes as soon as it is next in order. No frame holds more than
252 bytes of data. -/
def execRailSend (dest : BitVec 12) (svc flags : Byte) (data : List Byte) (s : State) : Host.Outcome State Fault Refusal :=
  s.done fun s =>
    if 252 < data.length then s else (s.toField (.railSend dest.toNat svc.toNat flags.toNat data)).takeSends 64

/-- PROOF_CHECK (R46, R48). -/
def execProofCheck (s : State) : Host.Outcome State Fault Refusal :=
  s.done fun s => s.fieldTakes fun m => match m with
    | .proofCheck role nonce counter proof => some fun s => s.checkHostProof role nonce counter proof
    | _ => none

/-- PROOF_RESULT (R46, R71). -/
def execProofResult (s : State) : Host.Outcome State Fault Refusal :=
  s.done fun s => s.hubTakes fun m => match m with
    | .proofResult role res failRun remain _ => some fun s => s.takeProofResult role res failRun remain
    | _ => none

/-- START_RESULT (R441-R443, R454). -/
def execStartResult (s : State) : Host.Outcome State Fault Refusal :=
  s.done fun s => s.fieldTakes fun m => match m with
    | .startResult outcome cause level stage => some fun s =>
      let s := s.updField fun f => { f with hostLevel := level }
      match outcome with
      | 0 => if stage = 0x10 then s.updField fun f => { f with inputs := cause } else s
      | 1 => s.succeedAttempt
      | _ => s.failAttempt cause
    | _ => none

/-- KETTLE_ENTER (R447, R63). -/
def execKettleEnter (s : State) : Host.Outcome State Fault Refusal :=
  s.done fun s => s.hubTakes fun m => match m with
    | .kettleEnter cause attempts => some fun s =>
      ((s.wr .dev DEV.KETTLE_CAUSE.CAUSE cause).wr .dev DEV.KETTLE_CAUSE.ATTEMPTS attempts).raise .dev 3
    | _ => none

/-- KETTLE_CLEAR (R449, R490): from the host, over the barrier. -/
def execKettleClear (s : State) : Host.Outcome State Fault Refusal :=
  s.done fun s => s.fieldTakes fun m => match m with
    | .kettleClear counter => some fun s => (s.kettleClear counter false).2
    | _ => none

/-- PHASE_SPARE (R357, R424): FPW events and the caddy's pool of phases; a phase out with no spare for it is no substitution. -/
def execPhaseSpare (s : State) : Host.Outcome State Fault Refusal :=
  s.done fun s => s.hubTakes fun m => match m with
    | .phaseSpare phase spare reason left => some fun s =>
      let s := ((s.showPhase (reason == 3)).raise .fpw (if reason = 3 then 4 else 3)).updMirror fun m => { m with sparesLeft := left }
      if spare = 0xFF then s else s.substitute 10 (match reason with | 3 => 6 | 4 => 4 | _ => 3) phase
    | _ => none

/-- FEED_LIMITS (R354, R363). -/
def execFeedLimits (s : State) : Host.Outcome State Fault Refusal :=
  s.done fun s => s.hubTakes fun m => match m with
    | .feedLimits feed ev _ _ => some fun s => match ev, s.showFeed feed ev with
      | 1, s => (s.raise .dev 5).raise .fpw 0
      | 2, s => (s.raise .dev 5).raise .fpw 1
      | 3, s => ((s.raise .dev 5).raise .fpw 0).raise .fpw 6
      | 4, s => s.raise .fpw 7
      | 5, s => ((s.raise .dev 5).raise .fpw 0).raise .fpw 7
      | 6, s => s.raise .fpw 2
      | _, s => s
    | _ => none

/-- THERMAL_NOTICE (R384, R385): kind 1 notes the trip for the restart. -/
def execThermalNotice (s : State) : Host.Outcome State Fault Refusal :=
  s.done fun s => s.fieldTakes fun m => match m with
    | .thermalNotice die _ kind _ _ => some fun s =>
      if kind = 1 then s.updTele fun t => { t with trips := putBit t.trips die true } else s
    | _ => none

/-- CYCLE_MARK (R344, R403): stamped with device time on arrival. -/
def execCycleMark (s : State) : Host.Outcome State Fault Refusal :=
  s.done fun s => s.hubTakes fun m => match m with
    | .cycleMark epoch index source => some fun s =>
      s.updMirror fun x => { x with mark := (epoch, index, source), markAt := s.time.toNat }
    | _ => none

/-- IMAGE_CHUNK (R361). -/
def execImageChunk (s : State) : Host.Outcome State Fault Refusal :=
  s.done fun s => s.fieldTakes fun m => match m with
    | .imageChunk off bytes => some fun s => s.takeChunk off bytes
    | _ => none

/-- SETTING_WRITE (R347): applied in order, or refused with a reason, which is reported at once, before another setting's result takes its
place in the report (log 70). -/
def execSettingWrite (s : State) : Host.Outcome State Fault Refusal :=
  s.done fun s => s.fieldTakes fun m => match m with
    | .settingWrite page role off v => some fun s =>
      let (why, s) := s.applySetting page role off v
      let s := s.updPub fun p => { p with lastSet := (s.fieldEnd.rxSeq, why, page, off) }
      if why ≠ 0 && s.fieldEnd.up then s.sendReport else s
    | _ => none

/-- BARRIER_FRAME_DISCARD (R341, R344): the bytes received between two delimiters are judged; a frame that is not valid is counted at the end
that received it, and breaks a run of HEARTBEATs there (R343). A valid one that comes here is not the next in order: it is not counted
(R342). -/
def execBarrierFrameDiscard (side : Side) (bytes : List Byte) (s : State) : Host.Outcome State Fault Refusal :=
  s.done fun s => match side, State.judgeMessage side bytes with
    | _, .good .. => s
    | .hub, .unknownType =>
      if s.start.power = .off then s
      else ((({ s with hubEnd := { s.hubEnd with unknown := s.hubEnd.unknown + 1, hbRun := 0 } }).count .fbr 1 1).raise .fbr 6).recountHub
    | .hub, .crcError =>
      if s.start.power = .off then s
      else (({ s with hubEnd := { s.hubEnd with crcErr := s.hubEnd.crcErr + 1, hbRun := 0 } }).count .fbr 0 1).recountHub
    | .field, .unknownType =>
      if !s.fieldAwake then s
      else ({ s with fieldEnd := { s.fieldEnd with unknown := s.fieldEnd.unknown + 1, hbRun := 0 } }).fcount .fbr 5 1
    | .field, .crcError =>
      if !s.fieldAwake then s
      else ({ s with fieldEnd := { s.fieldEnd with crcErr := s.fieldEnd.crcErr + 1, hbRun := 0 } }).fcount .fbr 4 1

/-- HEARTBEAT_INTERVAL (R342, R344). -/
def execHeartbeatInterval (side : Side) (s : State) : Host.Outcome State Fault Refusal :=
  s.done fun s => s.beat side

/-- BARRIER_RESEND_TIMER (R342). -/
def execBarrierResendTimer (side : Side) (s : State) : Host.Outcome State Fault Refusal :=
  s.done fun s => s.resendSide side

/-- BARRIER_LINK_DOWN (R20, R343). -/
def execBarrierLinkDown (side : Side) (s : State) : Host.Outcome State Fault Refusal :=
  s.done fun s => s.sideDown side

/-- STATUS_REPORT_TIMER (R344). -/
def execStatusReportTimer (s : State) : Host.Outcome State Fault Refusal :=
  s.done fun s => if s.fieldEnd.up && s.fieldAwake then s.sendReport else s

/-- TELEMETRY_BATCH_TIMER (R344). -/
def execTelemetryBatchTimer (s : State) : Host.Outcome State Fault Refusal :=
  s.done fun s => if s.fieldEnd.up && s.fieldAwake then s.sendBatch else s

/-- IMAGE_RESTART_TIMEOUT (R349). -/
def execImageRestartTimeout (s : State) : Host.Outcome State Fault Refusal :=
  s.done fun s => if s.mirror.imgWait then (s.updMirror fun m => { m with imgWait := false }).hubLinkDown true else s

/-- FEED_VALID (R350): with both feeds off before, a power-on start begins. A feed that is off for overvoltage or current comes back by
its own rule. -/
def execFeedValid (f : Feed) (volt : Nat) (s : State) : Host.Outcome State Fault Refusal :=
  s.done fun s =>
    if (s.feed f).st = .valid || (s.feed f).st = .ovOff || (s.feed f).st = .clOff then s
    else
      let cold := !s.start.fieldUp && !s.anyValid
      let s := s.feedOn f volt
      if cold then s.updStart fun x => { x with powerOn := true } else s

/-- FEED_UVLO_FALL (R350). -/
def execFeedUvloFall (f : Feed) (volt : Nat) (s : State) : Host.Outcome State Fault Refusal :=
  s.done fun s => s.feedLost f .belowUvlo volt 1

/-- FEED_OVLO (R350). -/
def execFeedOvlo (f : Feed) (volt : Nat) (s : State) : Host.Outcome State Fault Refusal :=
  s.done fun s => if (s.feed f).st = .ovOff then s else ((s.feedLost f .ovOff volt 3).updPub fun p => { p with ovEvents := min (p.ovEvents + 1) 255 }).fcount .fpw 18 1

/-- FEED_OVLO_RELEASE (R350). -/
def execFeedOvloRelease (f : Feed) (volt : Nat) (s : State) : Host.Outcome State Fault Refusal :=
  s.done fun s => if (s.feed f).st = .ovOff then s.feedOn f volt else s

/-- FEED_CURRENT_LIMIT_OFF (R351): the feed has sat at its limit, which is reported first where no measurement has shown it. -/
def execFeedCurrentLimitOff (f : Feed) (s : State) : Host.Outcome State Fault Refusal :=
  s.done fun s =>
    if (s.feed f).st ≠ .valid then s
    else (((s.limitFeed f).feedLost f .clOff (s.feed f).volt 5).updPub fun p => { p with clEvents := min (p.clEvents + 1) 255 }).fcount .fpw 19 1

/-- FEED_CL_RETRY (R351). -/
def execFeedClRetry (f : Feed) (s : State) : Host.Outcome State Fault Refusal :=
  s.done fun s => if (s.feed f).st = .clOff then s.feedOn f (s.feed f).volt else s

/-- FEED_REVERSED (R499). -/
def execFeedReversed (f : Feed) (s : State) : Host.Outcome State Fault Refusal :=
  s.done fun s => (s.feedLost f .reversed 0 1).maybeFieldDown

/-- FEED_ABSENT (R499). -/
def execFeedAbsent (f : Feed) (s : State) : Host.Outcome State Fault Refusal :=
  s.done fun s => (s.feedLost f .absent 0 1).maybeFieldDown

/-- BULK_CHARGED (R352): a converter in precharge goes on. -/
def execBulkCharged (s : State) : Host.Outcome State Fault Refusal :=
  s.done fun s =>
    if !s.anyValid then s
    else
      let s := s.updField fun f => { f with bulk := true }
      if s.field.pub.conv ≠ .precharge then s
      else if s.start.kettle then s.convOn else s.updPub fun p => { p with conv := .softStart }

/-- HOLDUP_ENTRY (R353). -/
def execHoldupEntry (s : State) : Host.Outcome State Fault Refusal :=
  s.done fun s =>
    if !s.start.fieldUp || s.anyValid || s.field.pub.holdup then s
    else ((s.updPub fun p => { p with holdup := true }).fcount .fpw 20 1).feedLimit .a 6

/-- HOLDUP_EXHAUSTED (R353, R445). -/
def execHoldupExhausted (s : State) : Host.Outcome State Fault Refusal :=
  s.done fun s => if !s.start.fieldUp || s.anyValid then s else s.storesSpent

/-- PHASE_SHARE_FAULT (R356): reason 1. -/
def execPhaseShareFault (p : Fin 26) (s : State) : Host.Outcome State Fault Refusal :=
  s.done fun s => if s.start.fieldUp then s.replacePhase p.val 1 else s

/-- PHASE_OVERTEMP (R356): reason 2. -/
def execPhaseOvertemp (p : Fin 26) (s : State) : Host.Outcome State Fault Refusal :=
  s.done fun s => if s.start.fieldUp then s.replacePhase p.val 2 else s

/-- PHASE_FAILED (R356, R357): reason 3. -/
def execPhaseFailed (p : Fin 26) (s : State) : Host.Outcome State Fault Refusal :=
  s.done fun s => if s.start.fieldUp then s.replacePhase p.val 3 else s

/-- PHASE_REPLACE (R356, R362): the host's write; the field island applies it when its SETTING_WRITE arrives. -/
def execPhaseReplace (v : Word) (s : State) : Host.Outcome State Fault Refusal :=
  s.done fun s => s.gateReg .fpw 0x044 v (State.effPhaseCtrl v)

/-- PHASE_RAMP_DONE (R357). -/
def execPhaseRampDone (p : Fin 26) (s : State) : Host.Outcome State Fault Refusal :=
  s.done fun s => if s.start.fieldUp then s.rampDone p.val else s

/-- IMAGE_BEGIN (R364). -/
def execImageBegin (s : State) : Host.Outcome State Fault Refusal :=
  s.done fun s => s.gateReg .fbr 0x038 1 (State.effImageCtrl 1)

/-- IMAGE_PORT_WRITE (R364). -/
def execImagePortWrite (v : Word) (s : State) : Host.Outcome State Fault Refusal :=
  s.done fun s => s.gateReg .fbr 0x03C v (State.effImagePort v)

/-- IMAGE_CHUNK_IDLE (R364). -/
def execImageChunkIdle (s : State) : Host.Outcome State Fault Refusal :=
  s.done fun s => if s.hubEnd.up then s.sendChunk else s

/-- IMAGE_VERIFY_DONE (R361): the image is ready when its signature verifies; the operand is false when its flash does not read back what was
received (log 122). -/
def execImageVerifyDone (ok : Bool) (s : State) : Host.Outcome State Fault Refusal :=
  s.done fun s =>
    if s.field.pub.imgState ≠ 2 then s
    else
      let good := ok && s.imageSigned
      s.updPub fun p => { p with
        imgState := if good then 3 else 5, imgSpare := good, imgFails := if good then p.imgFails else p.imgFails + 1 }

/-- IMAGE_ACTIVATE (R361, R364). -/
def execImageActivate (s : State) : Host.Outcome State Fault Refusal :=
  s.done fun s => s.gateReg .fbr 0x038 2 (State.effImageCtrl 2)

/-- IMAGE_ABORT (R364). -/
def execImageAbort (s : State) : Host.Outcome State Fault Refusal :=
  s.done fun s => s.gateReg .fbr 0x038 4 (State.effImageCtrl 4)

/-- FIELD_IMAGE_RESTART_DONE (R361). -/
def execFieldImageRestartDone (ok : Bool) (s : State) : Host.Outcome State Fault Refusal :=
  s.done fun s => if s.field.imgRestart then s.imageRestarted ok else s

end Sys2Proof.Machine
end

