-- ==== Sys2Proof/Machine/Thermal.lean ====
section
/-! DEFINITION. Thermal shutdown and restart, and the report that carries the permission (R346, R384, R385). -/
namespace Sys2Proof.Machine

open Sys2Proof Reg

namespace State

/-! ## Trip (R384) -/

/-- A trip is recorded on the TSN page and announced to the field island before the rails fall. -/
def recordTrip (s : State) (z d : Nat) : State :=
  let m := (s.zone z).median
  let s := (s.wr .tsn TSN.TRIP_LAST.ZONE z).wrI .tsn TSN.TRIP_LAST.TEMP m
  let s := (s.wr .tsn TSN.TRIP_TIME.word (s.time.toNat / 1000000000)).sat .tsn TSN.SHUTDOWN.TRIPS 1
  let s := s.wr .tsn TSN.SHUTDOWN.OFF (putBit (s.rd .tsn TSN.SHUTDOWN.OFF) d true)
  let s := ((s.count .tsn 2 1).raise .tsn 3).raise .dev 4
  s.toField (.thermalNotice d z 1 (s.band d) (5 * m))

/-- The frame that the hub has put on the link last goes out before its rails fall, and the field island takes it if it is next in order
(R384). -/
def lastWord (s : State) : State :=
  match s.hubEnd.unacked.getLast? with
  | none => s
  | some x =>
    let s := s.emit (.barrier .hub (msgType x.msg) x.seq (frameCode s.time (msgType x.msg) x.seq (payload x.msg)))
    if s.fieldAwake && x.seq == seqOn s.fieldEnd.rxSeq 1 then { s with fieldEnd := { s.fieldEnd with rxSeq := x.seq } } else s

/-- The hub loses every host-side rail: its notice has 20 us to go, and the field island, which sees the rails fall, charges an attempt
that runs with cause 0x08 (R441), or starts the host side again under R385. -/
def hubTrips (s : State) : State :=
  let s := if s.hubEnd.up then s.lastWord else s
  if s.start.attempt.isSome then s.failAttempt 8
  else
    let s := (s.hostPowerDown).updTele fun t => { t with trips := putBit t.trips 4 true }
    s.updStart fun x => { x with kettle := false, forceWindow := false, kettleOwed := false }

/-- A zone trips (R384). -/
def tripZone (s : State) (z : Nat) : State :=
  let d := zoneDie z
  if !s.hubAlive || !s.railsOn d || decide ((s.zone z).median < 250) then s
  else
    let s := s.recordTrip z d
    if d = 4 then s.hubTrips
    else
      let s := (s.dieStops d).rezone
      match s.start.attempt with
      | some a => s.toField (.startResult 2 8 (s.rd .dev DEV.STATUS.SVC_LEVEL) a.step)
      | none => s

/-! ## Restart (R385) -/

/-- The code that a thermistor of 60 degrees gives: 2,980.8 ohm at 100 uA of 2.5 V full scale (R367); cooler reads higher. -/
def coolCode : Nat := 489

/-- The thermistors that are neither OPEN nor SHORT (R368, R385). -/
def soundThermistors (s : State) : List Nat :=
  ((List.range 6).map (· + 6)).filter fun ch => !(s.tchan ch).opn && !(s.tchan ch).shrt

/-- The cooling condition (R385): at least four valid thermistors, each of which has read 60 degrees or below. -/
def cooled (s : State) : Bool :=
  decide (4 ≤ s.soundThermistors.length)
    && s.soundThermistors.all fun ch => match (s.tchan ch).last with
      | some c => decide (coolCode ≤ c)
      | none => false

/-- Automatic restarts of the last 24 h (R385). -/
def recentRestarts (s : State) : List Nat := s.tele.restarts.filter fun t => decide (s.tele.now < t + 86400000000000)

/-- One automatic restart is counted; the third in 24 h sets the lock (R385). -/
def countRestart (s : State) : State :=
  let r := s.recentRestarts ++ [s.tele.now]
  let s := s.updTele fun t => { t with restarts := r }
  s.updPub fun p => { p with thermRestarts := min 3 r.length, thermLocked := p.thermLocked || decide (3 ≤ r.length) }

/-- The field island restarts what a trip removed (R385): the host side from step 3, or a die by permission in the next report. A start that
waited for cooling under R446 begins without being counted. -/
def thermalRestart (s : State) : State :=
  if !s.fieldAwake || s.start.attempt.isSome || !s.cooled then s
  else if s.start.thermalWait then
    if s.start.offWait then s.updStart fun x => { x with thermalWait := false } else s.beginStart
  else if s.tele.trips = 0 || s.field.pub.thermLocked then s
  else
    let s := s.countRestart
    if s.tele.trips.testBit 4 then s.beginStart
    else s.updTele fun t => { t with permit := t.permit ||| t.trips, trips := 0 }

/-- A die whose restart a report permits (R385, R450): its rails return, its counters and ECC_LOG are cleared, its domains ramp (R332) and its
enabled engines start. -/
def restartDie (s : State) (d : Nat) : State :=
  let off := s.rd .tsn TSN.SHUTDOWN.OFF
  if !off.testBit d || d = 4 then s
  else
    let s := (s.wr .tsn TSN.SHUTDOWN.OFF (putBit off d false)).raise .tsn 4
    let s := (if s.start.datapath then (s.dieClear d).rampDie d else s.dieClear d).dieStarts d
    (if decide (d < 4) && s.start.datapath then s.startGovernor d else s).rezone

/-- A STATUS_REPORT is delivered (R344, R346, R385). -/
def takeReport (s : State) (r : FieldPub) : State :=
  let was := s.bit .tsn TSN.SHUTDOWN.LOCKED
  let s := s.applyReport r
  let s := s.raiseIf (r.thermLocked && !was) .tsn 6
  (List.range 7).foldl (fun s d => if r.permit.testBit d then s.restartDie d else s) s

end State

/-! ## Meanings -/

/-- STATUS_REPORT (R346). -/
def execStatusReport (s : State) : Host.Outcome State Fault Refusal :=
  s.done fun s => s.hubTakes fun m => match m with
    | .statusReport r => some fun s => s.takeReport r
    | _ => none

/-- THERMAL_TRIP (R384). -/
def execThermalTrip (z : Fin 32) (s : State) : Host.Outcome State Fault Refusal :=
  s.done fun s => s.tripZone z.val

/-- THERMAL_RESTART (R385). -/
def execThermalRestart (s : State) : Host.Outcome State Fault Refusal :=
  s.done fun s => s.thermalRestart

end Sys2Proof.Machine
end

