-- ==== Sys2Proof/Machine/Start.lean ====
section
/-! DEFINITION. The start sequence, kettle mode's timers, resets and the control inputs (R68-R70, R86, R274, R441-R456, R474). -/
namespace Sys2Proof.Machine

open Sys2Proof Reg

namespace State

/-! ## Steps of an attempt (R441) -/

/-- The attempt stands at a step, and the hub reports it (18 "The start sequence"). -/
def atStep (s : State) (n : Nat) : State :=
  let s := s.updStart fun x => { x with attempt := x.attempt.map fun a => { a with step := n, held := false } }
  s.toField (.startResult 0 0 (s.rd .dev DEV.STATUS.SVC_LEVEL) n)

/-- The hub reports the failure of the attempt; the field island acts on it (R443). -/
def hubFails (s : State) (cause step : Nat) : State := s.toField (.startResult 2 cause (s.rd .dev DEV.STATUS.SVC_LEVEL) step)

/-- A REFCLK is qualified (R326). -/
def refQual (s : State) : Bool := s.qual false || s.qual true

/-- Step 6: the converter runs and its bus is at 12 V (R355). -/
def converterUp (s : State) : State :=
  if !s.field.bulk then s else s.convOn.atStep 7

/-- Step 7: the rails are good. The host side is powered from off, or the kettle set is completed, or the rails were good (R449, R451).
With RESET_N asserted the start holds here. -/
def railsUp (s : State) : State :=
  let s := match s.start.power with
    | .off => s.hostPowerUp .all
    | _ => s.updStart fun x => { x with power := .all }
  if s.pins.resetN.asserted then
    s.updStart fun x => { x with attempt := x.attempt.map fun a => { a with held := true } }
  else (s.startD37).atStep 8

/-- Step 8: D37 runs on a loop, a REFCLK is qualified and the barrier link is up. -/
def linkStep (s : State) : State :=
  if s.hubEnd.up && s.fieldEnd.up && decide (s.host.mgmt = .running) && s.refQual then s.atStep 9 else s

/-- Step 9: firmware runs, or neither bank verifies (R434). Firmware that ran in kettle mode goes on (R449). -/
def firmwareStep (s : State) : State :=
  if s.host.fwUp then s.atStep 10
  else
    let s := s.bootWarm
    if s.host.fwUp then s.atStep 10 else s.hubFails 2 9

/-- Tiles repaired at earlier starts are repaired again by the self-test (R12, R425, R435): the ledger names their pages. -/
def repairTiles (s : State) : State :=
  (s.cad.ledger.map (·.unit)).eraseDups.foldl (fun s u =>
    match Page.ofAddr (u * 0x1000) with
    | some p => s.wr p HDR.PAGE_STATE.RESERVE_USED (min 255 (s.cad.ledger.countP fun r => r.pool == 0 && r.unit == u))
    | none => s) s

/-- The channels train, all but a retired MC16, and the memory pages are enabled and start (R274, R501). -/
def beginTraining (s : State) : State :=
  (List.finRange 17).foldl (fun s c =>
    let s := s.wb (.mch c) HDR.PAGE_CTRL.ENABLE true
    if s.mem.spareGone && c = 16 then s.wr (.mch c) MCH.CH_STATUS.STATE 6
    else (s.wr (.mch c) MCH.CH_STATUS.STATE 1).setPst (.mch c) 1) ((s.wb .msc HDR.PAGE_CTRL.ENABLE true).setPst .msc 1)

/-- Step 10: the dies' self-tests (R427). A die that a trip holds off has no rails (R385) and takes no part. -/
def selfTestStep (s : State) (f : StartFound) : State :=
  let ok (d : Nat) : Bool := f.dies.getLsbD d && !(s.rd .tsn TSN.SHUTDOWN.OFF).testBit d
  if !ok 4 then s.hubFails 4 10
  else if !(ok 0 || ok 1 || ok 2 || ok 3) then s.hubFails 0x0B 10
  else
    let s := s.repairTiles
    (((List.range 7).foldl (fun s d => if ok d then s.dieStarts d else s) s).beginTraining).atStep 11
/-- A channel carries data from now on. -/
def channelOn (s : State) (c : Fin 17) : State :=
  let s := ((s.wr (.mch c) MCH.CH_STATUS.STATE 2).wr (.mch c) MCH.CH_STATUS.LOGICAL c.val).setPst (.mch c) 2
  s.wr .msc MSC.MEM_STATUS.IN_SVC (putBit (s.rd .msc MSC.MEM_STATUS.IN_SVC) c.val true)

/-- Rows and devices of the repair list (R284): devices are marked again, rows are repaired by sPPR or remapped again. -/
def applyRepairs (s : State) (f : StartFound) : State :=
  let s := s.mem.repairDevs.foldl (fun s e =>
    s.wr (.mch (Fin.ofNat 17 e.1)) (if e.2 < 10 then MCH.CH_STATUS.FAIL_A else MCH.CH_STATUS.FAIL_B) (e.2 % 10 + 1)) s
  let rows := s.mem.repairRows
  let soft (n : Nat) : Bool := s.bit .msc MSC.MEM_CTRL.SPPR_EN && f.soft.getD n false
  let s := rows.foldl (fun (a : Nat × State) e =>
    let n := a.1
    let s := a.2
    let c : Fin 17 := Fin.ofNat 17 e.1
    let s := if soft n then
        (s.sat (.mch c) MCH.REMAP_STATUS.SPPR 1).sat .msc MSC.MEM_SUMMARY.SPPR 1
      else
        let x := s.chan c
        let s := s.setChan c { x with remap := x.remap ++ [e.2] }
        (s.showRemap c (x.remap.length + 1)).sat .msc MSC.MEM_SUMMARY.REMAPPED 1
    (n + 1, s)) (0, s)
  s.2

/-- What training shows of a channel: 0 trained, 1 with one device unusable, 2 failed. -/
def trained (f : StartFound) (c : Fin 17) : Nat := f.train.getD c.val 0

/-- The channels that cannot serve: those that fail training, and a retired MC16 (R274, R289). -/
def untrained (s : State) (f : StartFound) : List (Fin 17) :=
  (List.finRange 17).filter fun c => trained f c == 2 || (s.mem.spareGone && c == 16)

/-- Training's results are shown; a retired MC16 does not train. -/
def showTraining (s : State) (f : StartFound) : State :=
  (List.finRange 17).foldl (fun s c =>
    if s.mem.spareGone && c = 16 then s
    else
      let bad := trained f c == 2
      let s := s.wr (.mch c) MCH.CH_STATUS.TRAIN_RESULT (if bad then 2 else 1)
      if bad then s.raise (.mch c) 5
      else (s.setWord (.mch c) 0x034 (f.margin.getD c.val 0)).wr (.mch c) MCH.REFRESH.TREFI 39) s

/-- Step 11: all channels train (R274, R284). More than one failure is cause 0x03. MC16 takes the slot of the channel that
failed, or of the lowest with a device marked, or stands by. -/
def trainingStep (s : State) (f : StartFound) : State :=
  let s := s.showTraining f
  let bad := s.untrained f
  if 2 ≤ bad.length then s.hubFails 3 11
  else
    let s := (s.applyRepairs f).setPst .msc 2
    let s := (List.finRange 17).foldl (fun s c =>
      if trained f c = 1 && !bad.contains c then s.markDevice c (f.device.getD c.val 0).val 1 else s) s
    let s := ((List.finRange 17).filter fun c => c.val != 16 && !bad.contains c).foldl channelOn s
    let spare := !bad.contains 16
    let s := if spare then (s.wr (.mch 16) MCH.CH_STATUS.STATE 5).setPst (.mch 16) 2
      else if s.mem.spareGone then s else s.retireSpare
    let marked := (List.finRange 17).find? fun c =>
      c.val != 16 && (s.bit (.mch c) MCH.CH_STATUS.FAIL_A || s.bit (.mch c) MCH.CH_STATUS.FAIL_B)
    let s := if !spare then s
      else match bad, marked with
        | c :: _, _ => s.takeSlot c.val 7
        | [], some c => s.takeSlot c.val 7
        | [], none => s
    let s := ((List.range 7).filter s.start.diesUp.testBit).foldl rampDie s
    (s.rememory).atStep 12

/-- Step 12: the domains of the dies that are up have ramped, the governors run, the datapath is on (R329, R332, R338). -/
def domainsStep (s : State) : State :=
  let s := (List.range 37).foldl (fun s n =>
    if s.dom n TIM.DOMn.STATE = 2 then ((s.setDom n TIM.DOMn.STATE 3).setDom n TIM.DOMn.RAMP 15).portsStart n else s) s
  ((s.startGovernors).updStart fun x => { x with datapath := true }).atStep 13

/-- A step has met its condition (R441). In kettle mode, with no attempt, it is the boot of the management firmware (R447, R448). -/
def stepDone (f : StartFound) (s : State) : State :=
  match s.start.attempt with
  | none => if s.start.kettle && !s.host.fwUp && decide (s.host.mgmt = .running) && !s.host.window then s.bootWarm else s
  | some a =>
    if a.held || (decide (a.step ≤ 7) && s.imageGap) || (decide (8 ≤ a.step) && (s.inReset || decide (s.host.mgmt ≠ .running))) then s
    else match a.step with
      | 6 => s.converterUp
      | 7 => s.railsUp
      | 8 => s.linkStep
      | 9 => s.firmwareStep
      | 10 => s.selfTestStep f
      | 11 => s.trainingStep f
      | 12 => s.domainsStep
      | 13 => s.atStep 14
      | _ => s

/-- A step has not met its condition in time (R441): causes 0x07 and 0x09 the field island detects itself. -/
def stepLate (s : State) : State :=
  match s.start.attempt with
  | none => s
  | some a =>
    if a.held || s.imageGap || (decide (7 ≤ a.step) && s.inReset) then s
    else match a.step with
      | 6 | 7 => s.failAttempt 7
      | 8 => if !s.hubEnd.up || !s.fieldEnd.up then s.failAttempt 9 else if !s.refQual then s.hubFails 6 8 else s
      | 9 =>
        if s.host.fwUp then s
        else s.hubFails (if !s.cad.bank0.valid && !s.cad.bank1.valid then 2 else 1) 9
      | 10 => s.hubFails 4 10
      | 11 => s.hubFails 3 11
      | _ => s

/-- A start begins (R441 steps 2 to 5): the field island passes its self-test and runs, if it was not running. -/
def startBegins (s : State) : State :=
  if s.start.power ≠ .off || s.start.attempt.isSome || s.start.offWait || s.start.deepKettle || s.start.thermalWait || !s.anyValid
      || (s.start.fieldUp && !s.start.spent) || s.imageGap then s
  else
    let s := if s.start.fieldUp then s
      else
        ({ s with fieldEnd := BEnd.reset }.updStart fun x => { x with fieldUp := true }).railStart
    s.beginStart

/-- The pause of 5 s after a failed attempt is over (R443, R446). -/
def offDone (s : State) : State :=
  if !s.start.offWait || !s.fieldAwake then s
  else if s.start.thermalWait then s.updStart fun x => { x with offWait := false }
  else s.beginStart

/-- The kettle set has had 5 s (R448). -/
def kettleLate (s : State) : State :=
  if s.start.kettle && s.start.attempt.isNone && !s.imageGap && !(s.hubEnd.up && s.fieldEnd.up && decide (s.host.mgmt = .running)) then s.enterDeep else s

/-! ## Control inputs (R451-R455, R474) -/

/-- A control input's state. -/
def pin (s : State) (i : CtlInput) : Pin :=
  match i with
  | .resetN => s.pins.resetN | .quiesceN => s.pins.quiesceN | .inhibitTxN => s.pins.inhibitTxN | .forceStartN => s.pins.forceStartN

/-- A control input's state, replaced. -/
def setPin (s : State) (i : CtlInput) (p : Pin) : State :=
  { s with pins := match i with
    | .resetN => { s.pins with resetN := p } | .quiesceN => { s.pins with quiesceN := p }
    | .inhibitTxN => { s.pins with inhibitTxN := p } | .forceStartN => { s.pins with forceStartN := p } }

/-- Number of an input in LOG codes (R453). -/
def pinNo (i : CtlInput) : Nat := match i with
  | .resetN => 0 | .quiesceN => 1 | .inhibitTxN => 2 | .forceStartN => 3

/-- The debounced value of an input changes (R453), unless CHATTER has frozen it; what it does follows, and the hub reports it (R454). -/
def moveInput (s : State) (i : CtlInput) (b : Bool) (f : State → State) : State :=
  let p := s.pin i
  if p.chatter || p.asserted = b then s
  else
    let s := s.setPin i { p with asserted := b, held := if b then p.held else false }
    let s := f s
    if s.start.power = .off then s else s.reportInputs

/-- RESET_N holds the host-side dies (R451): an attempt past step 7 is abandoned uncharged. -/
def resetOn (s : State) : State :=
  if s.start.power = .off then s
  else
    let s := match s.start.attempt with
      | some a => if 8 ≤ a.step then s.abandonAttempt else s
      | none => s
    s.hubReset

/-- RESET_N is released (R450, R451, R474): the hub restarts its end of the link; the start held at step 7 goes on, or an attempt begins with the
rails good. -/
def resetOff (s : State) : State :=
  if s.start.power = .off then s
  else
    let s := s.hubEndRestart
    let s := match s.start.attempt with
      | some a => if a.held then (s.startD37).atStep 8 else s
      | none =>
        if s.start.power = HostPower.all then ((s.beginAttempt 7 false true).startD37) else s.startD37
    if s.host.perstOwed then
      ({ s with host := { s.host with perstOwed := false } }).warmReset 2
    else s

/-- INHIBIT_TX_N changes (R86): INHIBIT_CHANGE on every TXO; the count of assertions. -/
def inhibitChange (s : State) (on : Bool) : State :=
  if !s.hubAlive then s
  else carriers.foldl (fun s k => if on then (s.raise (.txo k) 3).count (.txo k) 4 1 else s.raise (.txo k) 3) s

/-- PERST_N (R474): the link goes down; configuration space and the MSI-X table are held in reset. A pending bit stands while its
condition does (R62). -/
def perstOn (s : State) : State :=
  { s with host := { s.host with perst := true, msixEnable := false, functionMask := false, msix := [], bars := [], held := [] } }

/-- Release of PERST_N (R474): a warm reset of kind 2, owed until the release of RESET_N while that holds the host side. -/
def perstOff (s : State) : State :=
  if !s.host.perst then s
  else
    let s := { s with host := { s.host with perst := false } }
    if s.start.power = .off then s
    else if s.inReset then { s with host := { s.host with perstOwed := true } }
    else if s.host.mgmt = .running then s.warmReset 2 else s

/-! ## Warm resets (R60, R68-R70) -/

/-- A write to DEV_CTRL (R60, R68). -/
def effDevCtrl (v : Word) (s : State) : State :=
  let s := s.wr .dev DEV.DEV_CTRL.INT_N_ENABLE (DEV.DEV_CTRL.INT_N_ENABLE.get v)
  if DEV.DEV_CTRL.WARM_RESET.get v = 1 && DEV.DEV_CTRL.CONFIRM.get v = 0x5752 then s.warmReset 1 else s

/-- The function-level reset of a configuration write (R68, R498). -/
def flr (s : State) : State :=
  if !s.linkUp then s
  else if s.host.mgmt = .changing then ({ s with host := { s.host with held := s.host.held ++ [HostReq.flr] } }).emit .held
  else s.warmReset 2

/-- The management watchdog expires (R68, R441 step 9): armed once firmware runs; during an attempt it is charged too. -/
def watchdog (s : State) : State :=
  if !s.hubAlive || s.host.mgmt ≠ .running || !s.host.fwUp then s
  else
    let s := s.warmReset 4
    match s.start.attempt with
    | some a => s.hubFails 5 a.step
    | none => s

/-- The interval of a warm reset ends (R69, R70). -/
def windowEnds (s : State) : State :=
  if s.host.window then ({ s with host := { s.host with window := false } }).restale else s

/-- Firmware runs again after a warm reset (R69, R434). -/
def warmDone (s : State) : State :=
  let kind := s.rd .dev DEV.RESET_HISTORY.LAST_KIND
  if s.host.window || s.host.fwUp || s.host.mgmt ≠ .running || !s.hubAlive || kind = 0 || 5 ≤ kind then s
  else s.bootWarm

end State

/-! ## Meanings -/

/-- WARM_RESET (R60, R68): a write of DEV_CTRL. -/
def execWarmReset (v : Word) (s : State) : Host.Outcome State Fault Refusal :=
  s.done fun s => s.gateReg .dev 0x04C v (State.effDevCtrl v)

/-- FUNCTION_LEVEL_RESET (R68). -/
def execFunctionLevelReset (s : State) : Host.Outcome State Fault Refusal := s.done fun s => s.flr

/-- MGMT_WATCHDOG_EXPIRY (R68). -/
def execMgmtWatchdogExpiry (s : State) : Host.Outcome State Fault Refusal := s.done fun s => s.watchdog

/-- WARM_RESET_END (R69). -/
def execWarmResetEnd (s : State) : Host.Outcome State Fault Refusal := s.done fun s => s.windowEnds

/-- WARM_RESET_DONE (R69). -/
def execWarmResetDone (s : State) : Host.Outcome State Fault Refusal := s.done fun s => s.warmDone

/-- INHIBIT_TX_ASSERT (R86). -/
def execInhibitTxAssert (s : State) : Host.Outcome State Fault Refusal :=
  s.done fun s => s.moveInput .inhibitTxN true fun s => s.inhibitChange true

/-- INHIBIT_TX_RELEASE (R86). -/
def execInhibitTxRelease (s : State) : Host.Outcome State Fault Refusal :=
  s.done fun s => s.moveInput .inhibitTxN false fun s => s.inhibitChange false

/-- START_ATTEMPT (R441). -/
def execStartAttempt (s : State) : Host.Outcome State Fault Refusal := s.done fun s => s.startBegins

/-- START_STEP_DONE (R441). -/
def execStartStepDone (f : StartFound) (s : State) : Host.Outcome State Fault Refusal := s.done (State.stepDone f)

/-- START_STEP_TIMEOUT (R441). -/
def execStartStepTimeout (s : State) : Host.Outcome State Fault Refusal := s.done fun s => s.stepLate

/-- START_WATCHDOG_EXPIRY (R443, R454): suspended while RESET_N is held. -/
def execStartWatchdogExpiry (s : State) : Host.Outcome State Fault Refusal :=
  s.done fun s => if s.pins.resetN.asserted || s.imageGap then s else s.failAttempt 5

/-- ATTEMPT_OFF_TIMER (R443). -/
def execAttemptOffTimer (s : State) : Host.Outcome State Fault Refusal := s.done fun s => s.offDone

/-- DEEP_KETTLE_TIMEOUT (R448). -/
def execDeepKettleTimeout (s : State) : Host.Outcome State Fault Refusal := s.done fun s => s.kettleLate

/-- RESET_N_ASSERT (R450, R451). -/
def execResetNAssert (s : State) : Host.Outcome State Fault Refusal :=
  s.done fun s => s.moveInput .resetN true fun s => s.resetOn

/-- RESET_N_RELEASE (R450, R451). -/
def execResetNRelease (s : State) : Host.Outcome State Fault Refusal :=
  s.done fun s => s.moveInput .resetN false fun s => s.resetOff

/-- QUIESCE_ASSERT (R455): capacity 0 follows at each carrier's next boundaries. -/
def execQuiesceAssert (s : State) : Host.Outcome State Fault Refusal := s.done fun s => s.moveInput .quiesceN true fun s => s

/-- QUIESCE_RELEASE (R455). -/
def execQuiesceRelease (s : State) : Host.Outcome State Fault Refusal := s.done fun s => s.moveInput .quiesceN false fun s => s

/-- FORCE_START_ASSERT (R452). -/
def execForceStartAssert (s : State) : Host.Outcome State Fault Refusal :=
  s.done fun s => s.moveInput .forceStartN true fun s => s.forceStart

/-- INPUT_CHATTER (R453). -/
def execInputChatter (i : CtlInput) (s : State) : Host.Outcome State Fault Refusal :=
  s.done fun s =>
    if s.start.power = .off || (s.pin i).chatter then s
    else ((s.setPin i { s.pin i with chatter := true }).log 0 0 0 (0x100 + State.pinNo i) 0).reportInputs

/-- INPUT_HELD (R454). -/
def execInputHeld (i : CtlInput) (s : State) : Host.Outcome State Fault Refusal :=
  s.done fun s =>
    if s.start.power = .off || !(s.pin i).asserted || (s.pin i).held then s
    else ((s.setPin i { s.pin i with held := true }).log 0 0 0 (0x110 + State.pinNo i) 0).reportInputs

/-- INPUT_CHATTER_END (R453): from here on the debounced value follows the input again, by its own commands. -/
def execInputChatterEnd (i : CtlInput) (s : State) : Host.Outcome State Fault Refusal :=
  s.done fun s =>
    if !(s.pin i).chatter then s
    else
      let s := s.setPin i { s.pin i with chatter := false }
      if s.start.power = .off then s else s.reportInputs

/-- PERST_N_ASSERT (R474). -/
def execPerstNAssert (s : State) : Host.Outcome State Fault Refusal := s.done fun s => s.perstOn

/-- PERST_N_RELEASE (R474). -/
def execPerstNRelease (s : State) : Host.Outcome State Fault Refusal := s.done fun s => s.perstOff

end Sys2Proof.Machine
end

