-- ==== Sys2Proof/Machine/View.lean ====
section
/-! DEFINITION. What a register of BAR0 shows: the stored word, with the fields that follow the state beside the registers or
that a selector chooses (R6, R7, R61). -/
namespace Sys2Proof.Machine

open Sys2Proof Reg

namespace State

/-- A word from fields: each value in its place, cut to its width. -/
def packed (w : Word) (l : List (Fld × Nat)) : Word := l.foldl (fun a x => x.1.put a x.2) w

/-- The pages that have SEC_SUMMARY at 0x020 (R61). -/
def isSecPage (t : PageType) : Bool :=
  match t with
  | .dev | .tim | .fpw | .qsc | .bsc | .msc | .hsc | .csc => true
  | _ => false

/-- IDLE_REMAIN (R49, R51): whole seconds to the close by inactivity. -/
def idleRemain (s : State) : Nat :=
  if s.role = 0 then 0 else (600000000000 - (s.time.toNat - s.ses.lastWrite.toNat)) / 1000000000

/-- DEV and SES. -/
def viewHost (s : State) (p : Page) (off : Nat) : Word :=
  match p, off with
  | .dev, 0x040 => s.summary
  | .ses, 0x03C => BitVec.ofNat 32 s.idleRemain
  | p, off => s.word p off

/-- CAD: the pool that POOL_SEL names (R424, R436, R437). -/
def viewCad (s : State) (off : Nat) : Word :=
  let p := s.rd .cad CAD.POOL_SEL.POOL
  match off with
  | 0x028 => packed 0 [(CAD.POOL_TOTAL.TOTAL, s.poolTotal p), (CAD.POOL_TOTAL.BRINGER, poolBringer p)]
  | 0x02C => packed 0 [(CAD.POOL_USED.USED, s.poolUsed p)]
  | 0x030 => packed 0 [(CAD.POOL_REMAIN.REMAIN, s.poolRemain p), (CAD.POOL_REMAIN.WARN, (s.cad.warn.testBit p).toNat)]
  | 0x034 => packed 0 [(CAD.POOL_PROJECT.EXHAUST_DAYS, s.cad.days.getD p 0xFFFF),
      (CAD.POOL_PROJECT.USED_WINDOW, min (s.cad.window.getD p 0) 0xFFFF)]
  | off => s.word .cad off

/-- The lowest PACE of a governor over the last whole second (R338). -/
def paceLow (s : State) (g : Nat) : Nat :=
  let n := s.time.toNat / 1000000000
  if n = s.clock.lowSec then s.clock.lowLast.getD g 0
  else if n = s.clock.lowSec + 1 then s.clock.lowNow.getD g 0 else 0

/-- TIM and VSQ (R336, R338): a governor that has not run reads 0. -/
def viewTime (s : State) (p : Page) (off : Nat) : Word :=
  match p, off with
  | .tim, 0x024 => s.time.extractLsb' 0 32
  | .tim, 0x028 => s.time.extractLsb' 32 32
  | .vsq, 0x03C => packed (s.word .vsq 0x03C) [(VSQ.PACE_VIEW.LOW, s.paceLow (s.rd .vsq VSQ.PACE_VIEW.SEL))]
  | p, off =>
    if p = .vsq && decide (0x028 ≤ off) && decide (off < 0x03C) then
      let w := s.word .vsq off
      if VSQ.GOV_LD0.LIMIT.get w = 0 then 0 else w
    else s.word p off

/-- TSN: the zone that ZONE_SEL names (R380-R382, R388). -/
def viewTsn (s : State) (off : Nat) : Word :=
  let n := s.rd .tsn TSN.ZONE_SEL.ZONE
  let z := s.zone n
  let t (i : Nat) : Nat := twos 10 (z.sensors.getD i 0)
  match off with
  | 0x028 => packed 0 [(TSN.ZONE_SENSORS.A, t 0), (TSN.ZONE_SENSORS.B, t 1), (TSN.ZONE_SENSORS.C, t 2)]
  | 0x02C => packed 0 [(TSN.ZONE_STATUS.MEDIAN, twos 10 z.median), (TSN.ZONE_STATUS.BROKEN, z.broken),
      (TSN.ZONE_STATUS.DISAGREE, z.disagree), (TSN.ZONE_STATUS.DIE, zoneDie n),
      (TSN.ZONE_STATUS.HOT, (decide (250 ≤ z.median)).toNat), (TSN.ZONE_STATUS.DIE_OFF, (!s.railsOn (zoneDie n)).toNat)]
  | off => s.word .tsn off

/-- Milliseconds since an instant of device time, saturating; none reads all ones (MIRROR_AGE). -/
def ageMs (s : State) (t : Option Nat) : Nat :=
  match t with
  | some t => min ((s.time.toNat - t) / 1000000) 0xFFFF
  | none => 0xFFFF

/-- The mirror pages: what the last reports carried, and the hub-local fields as they stand (R346). -/
def viewMirror (s : State) (p : Page) (off : Nat) : Word :=
  match p, off with
  | .fpw, 0x040 =>
    let w := s.word .fpw 0x040
    match s.mirror.statusAt, s.mirror.phases[FPW.PHASE_VIEW.SEL.get w]? with
    | some _, some x => packed w [(FPW.PHASE_VIEW.TEMP, twos 8 x.temp), (FPW.PHASE_VIEW.SHARE_ERR, twos 8 x.share),
        (FPW.PHASE_VIEW.STATE, phaseCode x.st)]
    | _, _ => w
  | .fbr, 0x020 => packed (s.word .fbr 0x020) [(FBR.LINK_STATUS.UP, s.hubEnd.up.toNat),
      (FBR.LINK_STATUS.TX_SEQ, s.hubEnd.txSeq), (FBR.LINK_STATUS.RX_SEQ, s.hubEnd.rxSeq)]
  | .fbr, 0x024 => packed 0 [(FBR.MIRROR_AGE.STATUS_MS, s.ageMs s.mirror.statusAt), (FBR.MIRROR_AGE.TELEM_MS, s.ageMs s.mirror.telemAt)]
  | .frl, 0x03C => s.mirror.nbrs.get (fun _ => 0) (3 * s.rd .frl FRL.NBR_SEL.SLOT)
  | .frl, 0x040 => s.mirror.nbrs.get (fun _ => 0) (3 * s.rd .frl FRL.NBR_SEL.SLOT + 1)
  | .frl, 0x044 => s.mirror.nbrs.get (fun _ => 0) (3 * s.rd .frl FRL.NBR_SEL.SLOT + 2)
  | p, off => s.word p off

/-- Carriers as bits. -/
def carBits (l : List (Fin 16)) : Nat := l.foldl (fun a k => a + 2 ^ k.val) 0

/-- SCH: the conduit that SCH_CTRL.VIEW names (R236). -/
def viewSch (s : State) (off : Nat) : Word :=
  let c := s.rd .sch SCH.SCH_CTRL.VIEW
  let r := s.rxCon c
  match off with
  | 0x03C => packed 0 [(SCH.TX_CAP.CAP, s.conCap c)]
  | 0x040 => packed 0 [(SCH.TX_CAP_NEXT.NEXT, s.conCapNext c), (SCH.TX_CAP_NEXT.PENDING, (s.conPending c).toNat)]
  | 0x044 => packed 0 [(SCH.TX_STATUS.ACTIVE, if s.txOn c then carBits (s.activeTx c) else 0),
      (SCH.TX_STATUS.MIN_SHORT, (s.txCon c).short.toNat), (SCH.TX_STATUS.ENABLED, (s.txOn c).toNat)]
  | 0x048 => packed 0 [(SCH.RX_STATUS.CONTRIB, if s.rxOn c then carBits (s.contributors c) else 0),
      (SCH.RX_STATUS.SYNCED, r.expected.isSome.toNat), (SCH.RX_STATUS.SKEW, min r.skew 255)]
  | off => s.word .sch off

/-- STP: STEEP_EN, which reads 0 without DDR5 (R250), and the channels that carry the packet region (STP_STATUS). -/
def viewStp (s : State) (off : Nat) : Word :=
  let w := s.word .stp off
  match off with
  | 0x020 => if s.ddrOn then w else packed w [(STP.STP_CTRL.STEEP_EN, 0)]
  | 0x03C => packed w [(STP.STP_STATUS.CHANNELS, if s.ddrOn then 16 - s.mem.lostSlots.length else 0)]
  | _ => w

/-- MCH: corrected symbols of the selected device in the last whole second (DEV_VIEW). -/
def viewMch (s : State) (c : Fin 17) (off : Nat) : Word :=
  let w := s.word (.mch c) off
  if off = 0x028 then
    let x := (s.rollSecond c).chan c
    packed w [(MCH.DEV_VIEW.SYM_ERR, min (x.last.getD (MCH.DEV_VIEW.SEL.get w) 0) 0xFFFF)]
  else w

/-- HSC: the spare that SPARE_VIEW names (R304-R308, R314). -/
def viewHsc (s : State) (d : Fin 2) (off : Nat) : Word :=
  let w := s.word (.hsc d) off
  if off = 0x030 then
    let x := s.spareSt d (HSC.SPARE_VIEW.DIR_SEL.get w == 1) (HSC.SPARE_VIEW.SEL.get w)
    packed w [(HSC.SPARE_VIEW.LANE, x.lane.getD 0), (HSC.SPARE_VIEW.IN_USE, x.lane.isSome.toNat), (HSC.SPARE_VIEW.LOOPBACK, x.loop),
      (HSC.SPARE_VIEW.PRBS, x.prbs), (HSC.SPARE_VIEW.PRBS_LOCK, x.lock.toNat), (HSC.SPARE_VIEW.SIGNAL, x.signal.toNat)]
  else w

/-- HLG: the port and the lane that PORT_SEL and LANE_SEL name (R183, R316). -/
def viewHlg (s : State) (d : Fin 2) (g : Fin 4) (off : Nat) : Word :=
  match off with
  | 0x02C => (s.portSt d (s.selPort d g)).ctrl
  | 0x030 =>
    let q := s.selPort d g
    let x := s.portSt d q
    let late := match x.uncorr with
      | some t => decide (s.time.toNat < t + 1000000)
      | none => false
    packed x.status [(HLG.PORT_STATUS.RF_TX, (s.faultSent d q || s.portRf (32 * d.val + q)).toNat), (HLG.PORT_STATUS.FEC_UNCORR, late.toNat)]
  | 0x038 => (s.laneSt d (s.selLane d g)).txEq
  | 0x03C => (s.laneSt d (s.selLane d g)).rxEq
  | 0x040 => (s.laneSt d (s.selLane d g)).test
  | 0x044 =>
    let l := s.selLane d g
    let w := (s.laneSt d l).status
    packed w [(HLG.LANE_STATUS.RX_SNR, if HLG.LANE_STATUS.CDR_LOCK.get w = 1 then (Config.laneSnr d.val l (s.laneSt d l).ffe s.time).toNat else 0)]
  | off => s.word (.hlg d g) off

/-- TXO: TX_STATUS and SC_VIEW (R74, R76, R85, R90). While TXO is OFF no subcarrier is on. -/
def viewTxo (s : State) (k : Fin 16) (off : Nat) : Word :=
  let w := s.word (.txo k) off
  let m := (s.car k).txMap
  match off with
  | 0x024 =>
    let idle := s.pst (.txo k) == 0
    packed w [(TXO.TX_STATUS.INHIBITED, s.inhibited.toNat), (TXO.TX_STATUS.SPARE_BUSY, (s.spareBusy k).toNat),
      (TXO.TX_STATUS.PILOT_DENSITY, if s.zr k then 3 else m.dens), (TXO.TX_STATUS.SC_ON, if idle then 0 else m.on)]
  | 0x04C =>
    let i := TXO.SC_VIEW.SEL.get w
    let c := m.codes.getD i 0x3F
    packed w [(TXO.SC_VIEW.CODE, c), (TXO.SC_VIEW.TILT_NOW, if m.on.testBit i then twos 8 ((s.car k).tiltNow.getD i 0) else 0)]
  | _ => w

/-- RXE: CAL_AGE (R99). -/
def viewRxe (s : State) (k : Fin 16) (off : Nat) : Word :=
  let w := s.word (.rxe k) off
  if off = 0x050 && s.pst (.rxe k) != 0 then
    packed w [(RXE.ADC_CAL.CAL_AGE, min ((s.time.toNat - (s.car k).calAt) / 1000000000) 255)]
  else w

/-- The map that LM_STAGE.VIEW names (R146). -/
def viewedMap (s : State) (k : Fin 16) : Option LMap :=
  let c := s.car k
  match s.rd (.lfe k) LFE.LM_STAGE.VIEW with
  | 0 => some c.txMap
  | 1 => some c.rxMap
  | 2 => c.txAnn.map (·.map)
  | _ => c.lastProp

/-- Four codes of a map from a subcarrier on, as LM_MAP holds them. -/
def mapWord (m : LMap) (i : Nat) : Nat := (List.range 4).foldl (fun a j => a + m.codes.getD (i + j) 0 % 64 * 256 ^ j) 0

/-- LFE: the staged code and the viewed map (R128, R142, R146). -/
def viewLfe (s : State) (k : Fin 16) (off : Nat) : Word :=
  let w := s.word (.lfe k) off
  let c := s.car k
  let idle := s.pst (.lfe k) == 0
  match off with
  | 0x028 => BitVec.ofNat 32 (match s.viewedMap k with | some m => mapWord m 0 | none => 0)
  | 0x02C => BitVec.ofNat 32 (match s.viewedMap k with | some m => mapWord m 4 | none => 0)
  | 0x030 => packed w [(LFE.LM_STAGE.CODE, c.staged.codes.getD (LFE.LM_STAGE.SEL.get w) 0), (LFE.LM_STAGE.DENSITY, c.staged.dens)]
  | 0x034 =>
    let posted := (!idle && c.cap == 0).toNat
    match s.viewedMap k with
    | some m => packed 0 [(LFE.LM_NET.NET, if idle then 0 else m.net), (LFE.LM_NET.DENSITY, m.dens), (LFE.LM_NET.POSTED_ZERO, posted)]
    | none => packed 0 [(LFE.LM_NET.POSTED_ZERO, posted)]
  | _ => w

/-- The key slots that hold a key (CR_STATUS.LOADED). -/
def loadedSlots (s : State) (k : Fin 16) : Nat := (List.range 4).foldl (fun a i => if (s.slot k i).loaded then a + 2 ^ i else a) 0

/-- FCR: CW_WAIT, LOADED and the ages of the active slots (R176, R195, R200). -/
def viewFcr (s : State) (k : Fin 16) (off : Nat) : Word :=
  let p := Page.fcr k
  let w := s.word p off
  let age (i : Nat) : Nat := if (s.slot k i).loaded then min (s.slotAge k i / 2 ^ 20) 0xFFFF else 0
  match off with
  | 0x024 => packed w [(FCR.FR_STATUS.CW_WAIT, (s.runs p && !s.bit (.lfe k) LFE.FEC_STATUS.CW_LOCK).toNat)]
  | 0x044 => packed w [(FCR.CR_STATUS.LOADED, s.loadedSlots k)]
  | 0x050 => packed 0 [(FCR.KEY_AGE.TX_AGE, match (s.car k).txKey with | some i => age i | none => 0),
      (FCR.KEY_AGE.RX_AGE, age (2 + s.rd p FCR.CR_STATUS.RX_ACTIVE))]
  | _ => w

/-- The present value of a register: 0 at a reserved offset (R7). -/
def live (s : State) (p : Page) (off : Nat) : Word :=
  if (regRow p.type off).isNone then 0
  else if off = 0x020 && isSecPage p.type then s.secSummary p.sec
  else if off < 0x020 then s.word p off
  else match p with
    | .dev | .ses => s.viewHost p off
    | .cad => s.viewCad off
    | .tim | .vsq => s.viewTime p off
    | .tsn => s.viewTsn off
    | .fpw | .ftl | .frl | .fbr => s.viewMirror p off
    | .sch => s.viewSch off
    | .stp => s.viewStp off
    | .mch c => s.viewMch c off
    | .hsc d => s.viewHsc d off
    | .hlg d g => s.viewHlg d g off
    | .txo k => s.viewTxo k off
    | .rxe k => s.viewRxe k off
    | .lfe k => s.viewLfe k off
    | .fcr k => s.viewFcr k off
    | .csc k => if off = 0x038 then BitVec.ofNat 32 (s.rdiSrc k) else s.word p off
    | .log | .qsc | .bsc | .fct | .msc => s.word p off

end State
end Sys2Proof.Machine
end

