-- ==== Sys2Proof/Machine/Access.lean ====
section
/-! DEFINITION. Host requests: configuration, reads of BAR0 and BAR2, writes of BAR4, a write to a register with no row of
its own, and the restart of D37, which answers the requests that waited (R6-R8, R28-R33, R43, R44, R69, R331, R457-R459, R498). -/
namespace Sys2Proof.Machine

open Sys2Proof Reg

namespace State

/-! ## SNAP pairs (R8) -/

/-- The low register of a SNAP pair; its high register is the next dword. -/
def snapLow (t : PageType) (off : Nat) : Bool :=
  match t with
  | .ses | .dev => off == 0x028
  | .tim => off == 0x024
  | .msc => off == 0x040
  | .csc => off == 0x030
  | .fcr => off == 0x028 || off == 0x030
  | _ => false

/-- The hold register of the pair whose high register lies at an offset of a page. -/
def hold (s : State) (p : Page) (off : Nat) : Word := s.host.holds.get (fun _ => 0) (p.base + off)

/-- The high register of a pair, captured as it now stands. -/
def capture (s : State) (p : Page) (off : Nat) : State :=
  { s with host := { s.host with holds := s.host.holds.set (fun _ => 0) (p.base + off) (s.live p off) } }

/-! ## Reads of one register -/

/-- A read of COEF_DATA (R81, R82): the word of the bank that BANK_READ names, corrected on use; a word that is lost reads 0. -/
def readCoef (s : State) (k : Fin 16) : Word × State :=
  let p := Page.txo k
  let t := s.rd p TXO.COEF_ADDR.TABLE
  let i := s.rd p TXO.COEF_ADDR.INDEX
  let act := s.bit p TXO.COEF_ADDR.BANK_READ
  let b := if act then s.coefActive k else !s.coefActive k
  if !coefHas t i then (0, s.coefStep k)
  else
    let s := if act then s.coefUse k t i else (s.useProt p t (coefIdx b t i)).2
    let bad := s.damage.get (fun _ => 0) (damageKey p t (coefIdx b t i)) == 3
    (if bad then 0 else (s.coefWord k b t i).setWidth 32, s.coefStep k)

/-- A read of EQ_VIEW_DATA (R106, R120): four coefficients stand in a word of the view buffer, which reads 0 where it is lost. After word
255 INDEX goes on at 0 (the model's choice, log 104). -/
def readEqView (s : State) (k : Fin 16) : Word × State :=
  let p := Page.rxe k
  let i := s.rd p RXE.EQ_VIEW_ADDR.INDEX
  let held := s.bit p RXE.EQ_VIEW_ADDR.CAPTURED && decide (i < 248)
  let new := held && s.damage.get (fun _ => 0) (damageKey p 4 (i / 4)) == 2
  let (bad, s) := if held then s.useProt p 4 (i / 4) else (false, s)
  let s := s.raiseIf new p 9
  let w := if held && !bad then (s.car k).view.getD i 0 else 0
  (w.setWidth 32, if s.bit p RXE.EQ_VIEW_ADDR.AUTO_INC then s.wr p RXE.EQ_VIEW_ADDR.INDEX (i + 1) else s)

/-- The first register of a mirror page's content in its mirror store, where an armed test meets the store's next write: FPW 0x024, FRL
and FBR 0x02C (R346; the telemetry records are taken whole by VIEW_CTRL). -/
def mirrorWord (p : Page) (off : Nat) : Bool :=
  match p with
  | .fpw => off == 0x024
  | .frl | .fbr => off == 0x02C
  | _ => false

/-- A read of a register that the role may read: the value, and what the read itself changes (R8, R81, R106, R347). -/
def readReg (s : State) (p : Page) (off : Nat) : Word × State :=
  if mirrorWord p off then
    let (bad, s) := s.useProt p 0 off
    (if bad then 0 else s.live p off, s)
  else if snapLow p.type off then (s.live p off, s.capture p (off + 4))
  else if 4 ≤ off && snapLow p.type (off - 4) then (s.hold p off, s)
  else match p, off with
    | .txo k, 0x044 => s.readCoef k
    | .rxe k, 0x04C => s.readEqView k
    | .fbr, 0x034 => (s.live .fbr 0x034, s.wb .fbr FBR.SETTING_STATUS.REJECT false)
    | p, off => (s.live p off, s)

/-- One dword read of BAR0 (R31, R33, R43, R44). -/
def readDword (s : State) (addr : Nat) : Word × State :=
  match s.pageAt addr with
  | none => (0, s.countUnmapped)
  | some p => if mayRead s.role p then s.readReg p (addr % 0x1000) else (0, s.deny false false addr)

/-- Dwords of BAR0 in ascending order (R31). -/
def readDwords (s : State) (addr n : Nat) : List Word × State :=
  match n with
  | 0 => ([], s)
  | n + 1 =>
    let (w, s) := s.readDword addr
    let (ws, s) := s.readDwords (addr + 4) n
    (w :: ws, s)

/-- A read of the counter aperture, dword by dword from an address (R457, R458). -/
def readSlots (s : State) (addr n : Nat) : List Word × State :=
  let slot := s.ctrNow (addr / 8 * 8)
  match n with
  | 0 => ([], s)
  | 1 =>
    if addr % 8 = 0 then
      ([BitVec.ofNat 32 slot], { s with host := { s.host with hold2 := BitVec.ofNat 32 (slot / 2 ^ 32) } })
    else ([s.host.hold2], s)
  | n + 2 =>
    if addr % 8 = 0 then
      let (ws, s) := s.readSlots (addr + 8) n
      (BitVec.ofNat 32 slot :: BitVec.ofNat 32 (slot / 2 ^ 32) :: ws, s)
    else
      let (ws, s) := s.readSlots (addr + 4) (n + 1)
      (s.host.hold2 :: ws, s)

/-! ## Requests (R31, R69, R458, R498) -/

/-- A request to the endpoint (R498): no completion while the link is down; held while D37 changes source. -/
def request (s : State) (r : HostReq) (f : State → State) : State :=
  if !s.linkUp then s.emit .noCompletion
  else if s.host.mgmt = .changing then ({ s with host := { s.host with held := s.host.held ++ [r] } }).emit .held
  else f s

/-- A BAR0 read of n dwords (R31, R69). -/
def read0 (addr n : Nat) (s : State) : State :=
  if s.host.window then s.emit (.completion (List.replicate n 0xFFFFFFFF))
  else if 16 < n then s.emit .abort
  else
    let (ws, s) := s.readDwords (addr / 4 * 4) n
    s.emit (.completion ws)

/-- BAR2 may be read (R43, R459). -/
def mayCount (s : State) : Bool := s.bit .dev DEV.COUNTER_POLICY.APERTURE_OPEN || decide (1 ≤ s.role)

/-- A BAR2 read of n dwords (R69, R458, R459). -/
def read2 (addr n : Nat) (s : State) : State :=
  let a := addr / 4 * 4
  if s.host.window then s.emit (.completion (List.replicate n 0xFFFFFFFF))
  else if 16 < n then s.emit .abort
  else if n = 2 && a % 8 ≠ 0 then s.countMalformed.emit .abort
  else if !s.mayCount then (s.deny true false a).emit (.completion (List.replicate n 0))
  else
    let (ws, s) := s.readSlots a n
    s.emit (.completion ws)

/-- A BAR4 write (R29, R62): the MSI-X table; the pending-bit array is read-only. -/
def write4 (off : Nat) (v : Word) (s : State) : State :=
  if off < 0x200 && off % 4 = 0 then
    { s with host := { s.host with msix := s.host.msix.set msixDefault off (if off % 16 = 12 then v &&& 1 else v) } }
  else s

/-- A dword of the base address registers (R29): bits of the base that the size leaves, and in the low dword of each of the three
64-bit memory BARs the type, not prefetchable: BAR0 32 MiB, BAR2 64 KiB, BAR4 16 KiB. There is no I/O BAR. -/
def barWord (s : State) (i : Nat) : Word :=
  let v := s.host.bars.get (fun _ => 0) i
  match i with
  | 0 => (v &&& 0xFE000000) ||| 4
  | 2 => (v &&& 0xFFFF0000) ||| 4
  | 4 => (v &&& 0xFFFFC000) ||| 4
  | _ => v

/-- What a dword of BAR4 shows (R29, R62): the MSI-X table of 32 entries, and the pending-bit array at 0x2000. The table has no row for a
read of BAR4, so no command returns it. -/
def bar4Word (s : State) (off : Nat) : Word :=
  if off < 0x200 then s.host.msix.get msixDefault (off / 4 * 4)
  else if off / 4 * 4 = 0x2000 then s.host.pba
  else 0

/-- A configuration read (R28, R29, R498): the identity, the base address registers, Interrupt Pin 0, and a free value for what the spec
does not give. -/
def configRead (s : State) (off : Nat) : Word × State :=
  match off / 4 * 4 with
  | 0x00 => ((match s.part with | .ec => 0x56320000 | .el => 0x56330000) ||| 0x1D3F, s)
  | 0x08 => (0x028000B1, s)
  | o =>
    if 0x10 ≤ o && o < 0x28 then (s.barWord ((o - 0x10) / 4), s)
    else
    let (i, s) := s.draw
    (if o = 0x3C then Config.configWord o i &&& 0xFFFF00FF else Config.configWord o i, s)

/-- A configuration request (R498). -/
def config (r : CfgReq) (s : State) : State :=
  match r with
  | .read off =>
    let (w, s) := s.configRead off
    s.emit (.config w)
  | .msixControl e m => { s with host := { s.host with msixEnable := e, functionMask := m } }
  | .bar i v => { s with host := { s.host with bars := s.host.bars.set (fun _ => 0) i.val v } }

/-! ## A write to a register -/

/-- Registers of the die sections, the traffic manager and the memory that act when written. -/
def effShared (p : Page) (off : Nat) (v : Word) (s : State) : State :=
  match p, off with
  | .qsc, 0x024 => effTagCfg v s
  | .qsc, 0x028 => effIndAddr 0 v s
  | .qsc, 0x02C => effInd 0 v s
  | .sch, 0x024 => effIndAddr 1 v s
  | .sch, 0x028 => effInd 1 v s
  | .bsc, 0x028 => effHwm false v s
  | .bsc, 0x030 => effHwm true v s
  | .bsc, 0x034 => effBufCfg v s
  | .stp, off => if 0x020 ≤ off && off ≤ 0x030 then effStp off v s else s
  | .fct, 0x020 => effFc 0x020 v s
  | .fct, 0x024 => effFc 0x024 v s
  | .fct, 0x030 => effIndAddr 2 v s
  | .fct, 0x034 => effInd 2 v s
  | .msc, 0x02C => effMigCtrl v s
  | .msc, 0x034 => effPatrolCtrl v s
  | .msc, 0x03C => effDevFailCfg v s
  | .mch c, 0x020 => effChCtrl c v s
  | .mch c, 0x028 => effDevView c v s
  | .hsc d, 0x024 => effHostCtrl d v s
  | .hsc d, 0x028 => effSteerCmd d v s
  | .hsc d, 0x030 => effSpareView d v s
  | .hlg d g, 0x020 => effGrpCtrl d g v s
  | .hlg d g, 0x028 => effPortSel d g v s
  | .hlg d g, 0x02C => effPortCtrl d g v s
  | .hlg d g, 0x034 => effLaneSel d g v s
  | .hlg d g, 0x038 => effTxEq d g v s
  | .hlg d g, 0x03C => effRxEq d g v s
  | .hlg d g, 0x040 => effLaneTest d g v s
  | p, off => s.plainWrite p off v

/-- Registers of the carriers that act when written. -/
def effCarrier (p : Page) (off : Nat) (v : Word) (s : State) : State :=
  match p, off with
  | .csc k, 0x024 => effCscCtrl k v s
  | .txo k, 0x020 => effTxCtrl k v s
  | .txo k, 0x028 => effLaserFreq k v s
  | .txo k, 0x030 => effTxPower k v s
  | .txo k, 0x038 => effTilt k false v s
  | .txo k, 0x03C => effTilt k true v s
  | .txo k, 0x044 => effCoefData k v s
  | .txo k, 0x048 => effCoefCtrl k v s
  | .txo k, 0x054 => effTxTest k v s
  | .rxe k, 0x020 => effRx k .rxCtrl v s
  | .rxe k, 0x028 => effRx k .rxPower v s
  | .rxe k, 0x02C => effRx k .cdCfg v s
  | .rxe k, 0x044 => effEqCtrl k v s
  | .rxe k, 0x048 => effEqView k v s
  | .rxe k, 0x050 => effAdcCal k v s
  | .rxe k, 0x054 => effRxTest k v s
  | .lfe k, 0x020 => effLmCtrl k v s
  | .lfe k, 0x030 => effLmStage k v s
  | .lfe k, 0x040 => effFecCtrl k v s
  | .fcr k, 0x020 => effFrCtrl k v s
  | .fcr k, 0x040 => effCrCtrl k v s
  | .fcr k, 0x048 => effKeyPort k v s
  | .fcr k, 0x04C => effKeySalt k v s
  | p, off => s.plainWrite p off v

/-- A write to TSN_CTRL (R382, R388): WARN_TEMP outside 50-124 is refused. -/
def effTsnCtrl (v : Word) (s : State) : State :=
  let t := TSN.TSN_CTRL.WARN_TEMP.get v
  if t < 50 || 124 < t then s else hotWarn s (s.plainWrite .tsn 0x020 v)

/-- Registers of the management pages that act when written. -/
def effMgmt (p : Page) (off : Nat) (v : Word) (s : State) : State :=
  match p, off with
  | .dev, 0x03C => effKettleCtrl v s
  | .dev, 0x044 => effSectionMask v s
  | .dev, 0x04C => effDevCtrl v s
  | .ses, 0x024 => effSesCtrl v s
  | .ses, 0x034 => effProofPort v s
  | .log, 0x020 => effLogCtrl v s
  | .cad, 0x038 => effCadCfg v s
  | .cad, 0x03C => effLaserCmd v s
  | .cad, 0x044 => effFwCtrl v s
  | .cad, 0x048 => effFwPort v s
  | .tim, 0x02C => effRefCtrl v s
  | .tim, off => if 0x030 ≤ off && off < 0x0D0 then effDom ((off - 0x030) / 4) v s else s
  | .vsq, 0x020 => effGovCtrl v s
  | .vsq, 0x03C => effPaceView v s
  | .vsq, 0x040 => effMgmtOp v s
  | .tsn, 0x020 => effTsnCtrl v s
  | p, off => s.plainWrite p off v

/-- Registers of the mirror pages (R346, R347): hub-local selectors take the value, the others become settings. -/
def effMirrored (p : Page) (off : Nat) (v : Word) (s : State) : State :=
  match p, off with
  | .fpw, 0x040 => if 25 < FPW.PHASE_VIEW.SEL.get v then s else s.plainWrite .fpw 0x040 v
  | .fpw, 0x044 => effPhaseCtrl v s
  | .fpw, 0x048 => effMirror .fpw 0x048 v s
  | .ftl, 0x0A4 => effCoefPort v s
  | .ftl, 0x0A8 => effViewCtrl v s
  | .ftl, off => if (0x020 ≤ off && off < 0x0A0) || off = 0x0A0 then effMirror .ftl off v s else s
  | .frl, 0x038 => s.plainWrite .frl 0x038 v
  | .frl, off => if [0x020, 0x024, 0x028, 0x058].contains off then effMirror .frl off v s else s
  | .fbr, 0x038 => effImageCtrl v s
  | .fbr, 0x03C => effImagePort v s
  | _, _ => s

/-- The effect of a whole write to a register of a page, by its access code (R6, R35): the header of every page, then the page's
own registers. A read-only register and a reserved offset ignore it. -/
def effReg (p : Page) (off : Nat) (v : Word) (s : State) : State :=
  match off with
  | 0x004 => effPageCtrl p v s
  | 0x00C => effEvent p v 0 s
  | 0x010 => effEventEnable p v s
  | 0x014 => effEventForce p v s
  | 0x018 => effFlip p v s
  | off =>
    if off < 0x020 then s
    else match p with
      | .dev | .ses | .log | .cad | .tim | .vsq | .tsn => effMgmt p off v s
      | .fpw | .ftl | .frl | .fbr => effMirrored p off v s
      | .csc _ | .txo _ | .rxe _ | .lfe _ | .fcr _ => effCarrier p off v s
      | _ => effShared p off v s

/-- A host write to BAR0 at an address. -/
def write0 (addr : Nat) (v : Word) (be : BitVec 4) (s : State) : State :=
  s.gateWrite addr v be fun s =>
    match Page.ofAddr addr with
    | some p => effReg p (addr % 0x1000) v s
    | none => s

/-! ## D37 runs again (R498) -/

/-- A request that waited is served. -/
def serveReq (s : State) (r : HostReq) : State :=
  match r with
  | .config r => s.config r
  | .read0 a n => s.read0 a n
  | .read2 a n => s.read2 a n
  | .write4 o v => s.write4 o v
  | .write0 a v be => s.write0 a v be
  | .flr => s.flr

/-- The requests that waited are served in their order. -/
def serveHeld (s : State) : State :=
  let l := s.host.held
  l.foldl serveReq { s with host := { s.host with held := [] } }

/-- A domain restarts on its new source; D37 answers the requests it held. -/
def restartDomain (n : Fin 40) (lost : Nat) (s : State) : State :=
  let s := switchDomain n lost s
  if n.val = 37 && decide (s.host.mgmt = .running) then s.serveHeld else s

/-- The address of the low register of a SNAP pair (R51, R54, R186, R188, R295, R336). -/
def snapAddr (p : SnapPair) : Nat :=
  match p with
  | .nonce => Page.ses.base + 0x028
  | .serial => Page.dev.base + 0x028
  | .time => Page.tim.base + 0x024
  | .errAddr => Page.msc.base + 0x040
  | .stateTime k => (Page.csc k).base + 0x030
  | .fcTx k => (Page.fcr k).base + 0x028
  | .fcRx k => (Page.fcr k).base + 0x030

end State

/-! ## Meanings -/

/-- CONFIG_REQUEST (R28, R498). -/
def execConfigRequest (r : CfgReq) (s : State) : Host.Outcome State Fault Refusal :=
  s.done fun s => s.request (.config r) (State.config r)

/-- BAR0_READ (R31). -/
def execBar0Read (addr n : Nat) (s : State) : Host.Outcome State Fault Refusal :=
  s.done fun s => s.request (.read0 addr n) (State.read0 addr n)

/-- SNAP_LOW_READ (R8): a read of the low register captures the high one. -/
def execSnapLowRead (p : SnapPair) (s : State) : Host.Outcome State Fault Refusal :=
  s.done fun s => s.request (.read0 (State.snapAddr p) 1) (State.read0 (State.snapAddr p) 1)

/-- BAR2_READ (R458). -/
def execBar2Read (addr n : Nat) (s : State) : Host.Outcome State Fault Refusal :=
  s.done fun s => s.request (.read2 addr n) (State.read2 addr n)

/-- BAR4_WRITE (R62). -/
def execBar4Write (off : Nat) (v : Word) (s : State) : Host.Outcome State Fault Refusal :=
  s.done fun s => if s.linkUp then s.request (.write4 off v) (State.write4 off v) else s

/-- REGISTER_WRITE (R6, R43). -/
def execRegisterWrite (addr : Nat) (v : Word) (be : BitVec 4) (s : State) : Host.Outcome State Fault Refusal :=
  s.done fun s => s.write0 addr v be

/-- DOMAIN_SOURCE_SWITCH (R331, R498). -/
def execDomainSourceSwitch (n : Fin 40) (lost : Nat) (s : State) : Host.Outcome State Fault Refusal :=
  s.done fun s => s.restartDomain n lost

end Sys2Proof.Machine
end

