-- ==== Sys2Proof/Machine/Dispatch.lean ====
section
/-! DEFINITION. exec: one arm per command, each one call of its meaning. -/
namespace Sys2Proof.Machine

def exec (i : Instr) (s : State) : Host.Outcome State Fault Refusal :=
  match i with
  | .configRequest r => Sys2Proof.Machine.execConfigRequest r s
  | .bar0Read addr n => Sys2Proof.Machine.execBar0Read addr n s
  | .snapLowRead p => Sys2Proof.Machine.execSnapLowRead p s
  | .bar2Read addr n => Sys2Proof.Machine.execBar2Read addr n s
  | .bar4Write off v => Sys2Proof.Machine.execBar4Write off v s
  | .registerWrite addr v be => Sys2Proof.Machine.execRegisterWrite addr v be s
  | .pageEnable p on => Sys2Proof.Machine.execPageEnable p on s
  | .pageHold p on => Sys2Proof.Machine.execPageHold p on s
  | .engineHeld p => Sys2Proof.Machine.execEngineHeld p s
  | .pageSoftReset p => Sys2Proof.Machine.execPageSoftReset p s
  | .pageDrain p on => Sys2Proof.Machine.execPageDrain p on s
  | .engineDrained p => Sys2Proof.Machine.execEngineDrained p s
  | .eventW1c p bits same => Sys2Proof.Machine.execEventW1c p bits same s
  | .eventEnableWrite p v => Sys2Proof.Machine.execEventEnableWrite p v s
  | .eventForce p v => Sys2Proof.Machine.execEventForce p v s
  | .flipMaskWrite p v => Sys2Proof.Machine.execFlipMaskWrite p v s
  | .sectionMaskWrite v => Sys2Proof.Machine.execSectionMaskWrite v s
  | .sessionRequest role => Sys2Proof.Machine.execSessionRequest role s
  | .proofPortWrite v => Sys2Proof.Machine.execProofPortWrite v s
  | .sessionSubmit => Sys2Proof.Machine.execSessionSubmit s
  | .sessionClose => Sys2Proof.Machine.execSessionClose s
  | .sessionKeepalive => Sys2Proof.Machine.execSessionKeepalive s
  | .nonceExpiry => Sys2Proof.Machine.execNonceExpiry s
  | .sessionInactivityTimeout => Sys2Proof.Machine.execSessionInactivityTimeout s
  | .lockoutExpiry x => Sys2Proof.Machine.execLockoutExpiry x s
  | .lockoutSaveTick => Sys2Proof.Machine.execLockoutSaveTick s
  | .kettleCtrlClear v => Sys2Proof.Machine.execKettleCtrlClear v s
  | .warmReset v => Sys2Proof.Machine.execWarmReset v s
  | .functionLevelReset => Sys2Proof.Machine.execFunctionLevelReset s
  | .mgmtWatchdogExpiry => Sys2Proof.Machine.execMgmtWatchdogExpiry s
  | .warmResetEnd => Sys2Proof.Machine.execWarmResetEnd s
  | .warmResetDone => Sys2Proof.Machine.execWarmResetDone s
  | .logCapture => Sys2Proof.Machine.execLogCapture s
  | .logAdvance => Sys2Proof.Machine.execLogAdvance s
  | .logClear => Sys2Proof.Machine.execLogClear s
  | .laserFreqWrite k v => Sys2Proof.Machine.execLaserFreqWrite k v s
  | .tunePhaseDone k freqErr => Sys2Proof.Machine.execTunePhaseDone k freqErr s
  | .laserLockTimeout k => Sys2Proof.Machine.execLaserLockTimeout k s
  | .laserLockLoss k => Sys2Proof.Machine.execLaserLockLoss k s
  | .freqDev k freqErr => Sys2Proof.Machine.execFreqDev k freqErr s
  | .txPowerWrite k v => Sys2Proof.Machine.execTxPowerWrite k v s
  | .powerRampDone k measured => Sys2Proof.Machine.execPowerRampDone k measured s
  | .powerDev k measured => Sys2Proof.Machine.execPowerDev k measured s
  | .tiltWrite k hi v => Sys2Proof.Machine.execTiltWrite k hi v s
  | .outputEnableWrite k on => Sys2Proof.Machine.execOutputEnableWrite k on s
  | .spareLaserRequest k => Sys2Proof.Machine.execSpareLaserRequest k s
  | .spareLaserRelease k => Sys2Proof.Machine.execSpareLaserRelease k s
  | .spareSwitch k => Sys2Proof.Machine.execSpareSwitch k s
  | .coefDataWrite k v => Sys2Proof.Machine.execCoefDataWrite k v s
  | .coefCommit k v => Sys2Proof.Machine.execCoefCommit k v s
  | .coefCopy k => Sys2Proof.Machine.execCoefCopy k s
  | .coefFactory k => Sys2Proof.Machine.execCoefFactory k s
  | .biasLimit k bias pct => Sys2Proof.Machine.execBiasLimit k bias pct s
  | .inhibitTxAssert => Sys2Proof.Machine.execInhibitTxAssert s
  | .inhibitTxRelease => Sys2Proof.Machine.execInhibitTxRelease s
  | .txTestWrite k v => Sys2Proof.Machine.execTxTestWrite k v s
  | .txFrameStart k dt drive => Sys2Proof.Machine.execTxFrameStart k dt drive s
  | .signalLoss k power => Sys2Proof.Machine.execSignalLoss k power s
  | .signalReturn k power => Sys2Proof.Machine.execSignalReturn k power s
  | .acqStepDone k found cd freq clock => Sys2Proof.Machine.execAcqStepDone k found cd freq clock s
  | .acqTimeout k => Sys2Proof.Machine.execAcqTimeout k s
  | .holdoverEntry k cause => Sys2Proof.Machine.execHoldoverEntry k cause s
  | .holdoverExit k => Sys2Proof.Machine.execHoldoverExit k s
  | .lockLost k => Sys2Proof.Machine.execLockLost k s
  | .phaseBlockResolved k sc b => Sys2Proof.Machine.execPhaseBlockResolved k sc b s
  | .eqRestart k bits => Sys2Proof.Machine.execEqRestart k bits s
  | .eqRestartDone k bits => Sys2Proof.Machine.execEqRestartDone k bits s
  | .eqViewCapture k => Sys2Proof.Machine.execEqViewCapture k s
  | .eqCaptureDone k words => Sys2Proof.Machine.execEqCaptureDone k words s
  | .adcBackgroundCal k slicesAtEnd => Sys2Proof.Machine.execAdcBackgroundCal k slicesAtEnd s
  | .rxFrameBoundary k f => Sys2Proof.Machine.execRxFrameBoundary k f s
  | .rxCtrlWrite k r v => Sys2Proof.Machine.execRxCtrlWrite k r v s
  | .rxTestWrite k v => Sys2Proof.Machine.execRxTestWrite k v s
  | .lmRefresh k switch60 probe60 => Sys2Proof.Machine.execLmRefresh k switch60 probe60 s
  | .proposeReceived k msg => Sys2Proof.Machine.execProposeReceived k msg s
  | .announceReceived k msg => Sys2Proof.Machine.execAnnounceReceived k msg s
  | .rejectReceived k msg => Sys2Proof.Machine.execRejectReceived k msg s
  | .shedReceived k msg => Sys2Proof.Machine.execShedReceived k msg s
  | .resyncReceived k msg => Sys2Proof.Machine.execResyncReceived k msg s
  | .proposalTimeout k => Sys2Proof.Machine.execProposalTimeout k s
  | .shedWindowEnd k snr => Sys2Proof.Machine.execShedWindowEnd k snr s
  | .shedHoldExpiry k => Sys2Proof.Machine.execShedHoldExpiry k s
  | .negTimeout k => Sys2Proof.Machine.execNegTimeout k s
  | .manualAnnounce k v => Sys2Proof.Machine.execManualAnnounce k v s
  | .codewordDecode k x => Sys2Proof.Machine.execCodewordDecode k x s
  | .zrModeWrite k v => Sys2Proof.Machine.execZrModeWrite k v s
  | .alignMissTick k => Sys2Proof.Machine.execAlignMissTick k s
  | .losDeclare k => Sys2Proof.Machine.execLosDeclare k s
  | .losClear k => Sys2Proof.Machine.execLosClear k s
  | .lofDeclare k => Sys2Proof.Machine.execLofDeclare k s
  | .lofClear k => Sys2Proof.Machine.execLofClear k s
  | .hypothesisChange k => Sys2Proof.Machine.execHypothesisChange k s
  | .lofMapLost k => Sys2Proof.Machine.execLofMapLost k s
  | .autoDrain k => Sys2Proof.Machine.execAutoDrain k s
  | .autoUndrain k => Sys2Proof.Machine.execAutoUndrain k s
  | .remoteFaultStart c => Sys2Proof.Machine.execRemoteFaultStart c s
  | .crSelect k v => Sys2Proof.Machine.execCrSelect k v s
  | .keyPortWrite k v => Sys2Proof.Machine.execKeyPortWrite k v s
  | .keySaltWrite k v => Sys2Proof.Machine.execKeySaltWrite k v s
  | .keySwitch k => Sys2Proof.Machine.execKeySwitch k s
  | .keyZeroize k => Sys2Proof.Machine.execKeyZeroize k s
  | .keyAgeWarn k rx slot => Sys2Proof.Machine.execKeyAgeWarn k rx slot s
  | .keyRetired k rx slot => Sys2Proof.Machine.execKeyRetired k rx slot s
  | .hostFrameReceived port bytes => Sys2Proof.Machine.execHostFrameReceived port bytes s
  | .scheduleDecision c => Sys2Proof.Machine.execScheduleDecision c s
  | .pageReadArrival q marked => Sys2Proof.Machine.execPageReadArrival q marked s
  | .opsSlotFree => Sys2Proof.Machine.execOpsSlotFree s
  | .lineCellReceived k cell => Sys2Proof.Machine.execLineCellReceived k cell s
  | .reorderTimeout c seq => Sys2Proof.Machine.execReorderTimeout c seq s
  | .reassemblyResync c => Sys2Proof.Machine.execReassemblyResync c s
  | .skewReport c => Sys2Proof.Machine.execSkewReport c s
  | .qscIndRead => Sys2Proof.Machine.execQscIndRead s
  | .qscIndWrite => Sys2Proof.Machine.execQscIndWrite s
  | .qscIndClear => Sys2Proof.Machine.execQscIndClear s
  | .schIndRead => Sys2Proof.Machine.execSchIndRead s
  | .schIndWrite => Sys2Proof.Machine.execSchIndWrite s
  | .fctIndRead => Sys2Proof.Machine.execFctIndRead s
  | .fctIndWrite => Sys2Proof.Machine.execFctIndWrite s
  | .indCommandDone p => Sys2Proof.Machine.execIndCommandDone p s
  | .tagCfgWrite v => Sys2Proof.Machine.execTagCfgWrite v s
  | .pfcRefreshTimer port => Sys2Proof.Machine.execPfcRefreshTimer port s
  | .gpRefreshTimer port => Sys2Proof.Machine.execGpRefreshTimer port s
  | .hostPauseFrame port bytes => Sys2Proof.Machine.execHostPauseFrame port bytes s
  | .hostPauseExpiry port prio => Sys2Proof.Machine.execHostPauseExpiry port prio s
  | .pauseWatchdog port prio => Sys2Proof.Machine.execPauseWatchdog port prio s
  | .hostFrameTransmit port prio => Sys2Proof.Machine.execHostFrameTransmit port prio s
  | .hwmClear ingress => Sys2Proof.Machine.execHwmClear ingress s
  | .refreshRatePoll ch rates => Sys2Proof.Machine.execRefreshRatePoll ch rates s
  | .backgroundCalibration ch => Sys2Proof.Machine.execBackgroundCalibration ch s
  | .patrolRead ch loc err => Sys2Proof.Machine.execPatrolRead ch loc err s
  | .ddrReadReturn ch loc err => Sys2Proof.Machine.execDdrReadReturn ch loc err s
  | .rowCopyDone ch => Sys2Proof.Machine.execRowCopyDone ch s
  | .markFail ch v => Sys2Proof.Machine.execMarkFail ch v s
  | .migStart v => Sys2Proof.Machine.execMigStart v s
  | .migAbort => Sys2Proof.Machine.execMigAbort s
  | .migCopyBurst ue => Sys2Proof.Machine.execMigCopyBurst ue s
  | .migSwitch => Sys2Proof.Machine.execMigSwitch s
  | .channelLost ch => Sys2Proof.Machine.execChannelLost ch s
  | .spareChannelLost => Sys2Proof.Machine.execSpareChannelLost s
  | .voteSweep => Sys2Proof.Machine.execVoteSweep s
  | .portModeWrite d v => Sys2Proof.Machine.execPortModeWrite d v s
  | .portEnable d g v => Sys2Proof.Machine.execPortEnable d g v s
  | .linkUp d port => Sys2Proof.Machine.execLinkUp d port s
  | .linkDown d port cause => Sys2Proof.Machine.execLinkDown d port cause s
  | .txEqWrite d g v => Sys2Proof.Machine.execTxEqWrite d g v s
  | .loopbackWrite d t v => Sys2Proof.Machine.execLoopbackWrite d t v s
  | .prbsWrite d t v => Sys2Proof.Machine.execPrbsWrite d t v s
  | .laneSleep d g rx => Sys2Proof.Machine.execLaneSleep d g rx s
  | .laneWake d g rx => Sys2Proof.Machine.execLaneWake d g rx s
  | .wakeDone d g => Sys2Proof.Machine.execWakeDone d g s
  | .steerRequest d m => Sys2Proof.Machine.execSteerRequest d m s
  | .steerAccept d m => Sys2Proof.Machine.execSteerAccept d m s
  | .steerRefuse d m => Sys2Proof.Machine.execSteerRefuse d m s
  | .steerBridged d m => Sys2Proof.Machine.execSteerBridged d m s
  | .steerSwitched d m => Sys2Proof.Machine.execSteerSwitched d m s
  | .steerDone d m => Sys2Proof.Machine.execSteerDone d m s
  | .steerMsgDrop d => Sys2Proof.Machine.execSteerMsgDrop d s
  | .spareLaneLocked d => Sys2Proof.Machine.execSpareLaneLocked d s
  | .spareLockTimeout d => Sys2Proof.Machine.execSpareLockTimeout d s
  | .steerResendTimer d => Sys2Proof.Machine.execSteerResendTimer d s
  | .steerRetryTimer d => Sys2Proof.Machine.execSteerRetryTimer d s
  | .autoSteerTrigger d lane => Sys2Proof.Machine.execAutoSteerTrigger d lane s
  | .steerCmdStart d v => Sys2Proof.Machine.execSteerCmdStart d v s
  | .steerCmdRelease d v => Sys2Proof.Machine.execSteerCmdRelease d v s
  | .paceSample g ports => Sys2Proof.Machine.execPaceSample g ports s
  | .refclkTrip x => Sys2Proof.Machine.execRefclkTrip x s
  | .refclkQualified x => Sys2Proof.Machine.execRefclkQualified x s
  | .backstopQualified => Sys2Proof.Machine.execBackstopQualified s
  | .qualTimeout => Sys2Proof.Machine.execQualTimeout s
  | .domainSourceSwitch n lost => Sys2Proof.Machine.execDomainSourceSwitch n lost s
  | .loopRelock n => Sys2Proof.Machine.execLoopRelock n s
  | .dividerRampStep n => Sys2Proof.Machine.execDividerRampStep n s
  | .backstopTrim => Sys2Proof.Machine.execBackstopTrim s
  | .timeRefPulse interval => Sys2Proof.Machine.execTimeRefPulse interval s
  | .timeRefTimeout => Sys2Proof.Machine.execTimeRefTimeout s
  | .mgmtOpRequest v => Sys2Proof.Machine.execMgmtOpRequest v s
  | .opMoveDone => Sys2Proof.Machine.execOpMoveDone s
  | .domainSrcSelect n v => Sys2Proof.Machine.execDomainSrcSelect n v s
  | .heartbeat side => Sys2Proof.Machine.execHeartbeat side s
  | .statusReport => Sys2Proof.Machine.execStatusReport s
  | .telemetryBatch => Sys2Proof.Machine.execTelemetryBatch s
  | .railDeliver => Sys2Proof.Machine.execRailDeliver s
  | .railSend dest svc flags data => Sys2Proof.Machine.execRailSend dest svc flags data s
  | .proofCheck => Sys2Proof.Machine.execProofCheck s
  | .proofResult => Sys2Proof.Machine.execProofResult s
  | .startResult => Sys2Proof.Machine.execStartResult s
  | .kettleEnter => Sys2Proof.Machine.execKettleEnter s
  | .kettleClear => Sys2Proof.Machine.execKettleClear s
  | .phaseSpare => Sys2Proof.Machine.execPhaseSpare s
  | .feedLimits => Sys2Proof.Machine.execFeedLimits s
  | .thermalNotice => Sys2Proof.Machine.execThermalNotice s
  | .cycleMark => Sys2Proof.Machine.execCycleMark s
  | .imageChunk => Sys2Proof.Machine.execImageChunk s
  | .settingWrite => Sys2Proof.Machine.execSettingWrite s
  | .barrierFrameDiscard side bytes => Sys2Proof.Machine.execBarrierFrameDiscard side bytes s
  | .heartbeatInterval side => Sys2Proof.Machine.execHeartbeatInterval side s
  | .barrierResendTimer side => Sys2Proof.Machine.execBarrierResendTimer side s
  | .barrierLinkDown side => Sys2Proof.Machine.execBarrierLinkDown side s
  | .statusReportTimer => Sys2Proof.Machine.execStatusReportTimer s
  | .telemetryBatchTimer => Sys2Proof.Machine.execTelemetryBatchTimer s
  | .imageRestartTimeout => Sys2Proof.Machine.execImageRestartTimeout s
  | .feedValid f volt => Sys2Proof.Machine.execFeedValid f volt s
  | .feedUvloFall f volt => Sys2Proof.Machine.execFeedUvloFall f volt s
  | .feedOvlo f volt => Sys2Proof.Machine.execFeedOvlo f volt s
  | .feedOvloRelease f volt => Sys2Proof.Machine.execFeedOvloRelease f volt s
  | .feedCurrentLimitOff f => Sys2Proof.Machine.execFeedCurrentLimitOff f s
  | .feedClRetry f => Sys2Proof.Machine.execFeedClRetry f s
  | .feedReversed f => Sys2Proof.Machine.execFeedReversed f s
  | .feedAbsent f => Sys2Proof.Machine.execFeedAbsent f s
  | .bulkCharged => Sys2Proof.Machine.execBulkCharged s
  | .holdupEntry => Sys2Proof.Machine.execHoldupEntry s
  | .holdupExhausted => Sys2Proof.Machine.execHoldupExhausted s
  | .phaseShareFault p => Sys2Proof.Machine.execPhaseShareFault p s
  | .phaseOvertemp p => Sys2Proof.Machine.execPhaseOvertemp p s
  | .phaseFailed p => Sys2Proof.Machine.execPhaseFailed p s
  | .phaseReplace v => Sys2Proof.Machine.execPhaseReplace v s
  | .phaseRampDone p => Sys2Proof.Machine.execPhaseRampDone p s
  | .imageBegin => Sys2Proof.Machine.execImageBegin s
  | .imagePortWrite v => Sys2Proof.Machine.execImagePortWrite v s
  | .imageChunkIdle => Sys2Proof.Machine.execImageChunkIdle s
  | .imageVerifyDone ok => Sys2Proof.Machine.execImageVerifyDone ok s
  | .imageActivate => Sys2Proof.Machine.execImageActivate s
  | .imageAbort => Sys2Proof.Machine.execImageAbort s
  | .fieldImageRestartDone ok => Sys2Proof.Machine.execFieldImageRestartDone ok s
  | .telemetryConversion ch code => Sys2Proof.Machine.execTelemetryConversion ch code s
  | .openWireTest ch up down => Sys2Proof.Machine.execOpenWireTest ch up down s
  | .settleEnd ch => Sys2Proof.Machine.execSettleEnd ch s
  | .accumWindowClose ch => Sys2Proof.Machine.execAccumWindowClose ch s
  | .coefPortWrite v => Sys2Proof.Machine.execCoefPortWrite v s
  | .clrMinmax ch => Sys2Proof.Machine.execClrMinmax ch s
  | .telemViewCapture v => Sys2Proof.Machine.execTelemViewCapture v s
  | .rippleCrossing f back => Sys2Proof.Machine.execRippleCrossing f back s
  | .sensorWindow readings => Sys2Proof.Machine.execSensorWindow readings s
  | .disagreeFlag z sensor => Sys2Proof.Machine.execDisagreeFlag z sensor s
  | .bandRise die => Sys2Proof.Machine.execBandRise die s
  | .bandFall die => Sys2Proof.Machine.execBandFall die s
  | .thermalTrip z => Sys2Proof.Machine.execThermalTrip z s
  | .thermalRestart => Sys2Proof.Machine.execThermalRestart s
  | .preambleDetected r => Sys2Proof.Machine.execPreambleDetected r s
  | .preambleCapture r => Sys2Proof.Machine.execPreambleCapture r s
  | .whistle r => Sys2Proof.Machine.execWhistle r s
  | .relayWhistle r => Sys2Proof.Machine.execRelayWhistle r s
  | .poll r => Sys2Proof.Machine.execPoll r s
  | .data r => Sys2Proof.Machine.execData r s
  | .ack r => Sys2Proof.Machine.execAck r s
  | .null r => Sys2Proof.Machine.execNull r s
  | .sound r => Sys2Proof.Machine.execSound r s
  | .toneMap r => Sys2Proof.Machine.execToneMap r s
  | .lqr r => Sys2Proof.Machine.execLqr r s
  | .contend r => Sys2Proof.Machine.execContend r s
  | .route r => Sys2Proof.Machine.execRoute r s
  | .railFrameDiscard r => Sys2Proof.Machine.execRailFrameDiscard r s
  | .cycleStart => Sys2Proof.Machine.execCycleStart s
  | .relayWhistleSlot => Sys2Proof.Machine.execRelayWhistleSlot s
  | .contendSlot busy => Sys2Proof.Machine.execContendSlot busy s
  | .ackTimeout => Sys2Proof.Machine.execAckTimeout s
  | .deferCapExpiry => Sys2Proof.Machine.execDeferCapExpiry s
  | .memberCycle heard => Sys2Proof.Machine.execMemberCycle heard s
  | .toneMapRefresh slot => Sys2Proof.Machine.execToneMapRefresh slot s
  | .toneMapExpiry slot => Sys2Proof.Machine.execToneMapExpiry slot s
  | .routeAssess => Sys2Proof.Machine.execRouteAssess s
  | .railSessionRequest peer body => Sys2Proof.Machine.execRailSessionRequest peer body s
  | .railSessionProof peer body => Sys2Proof.Machine.execRailSessionProof peer body s
  | .railSessionClose peer body => Sys2Proof.Machine.execRailSessionClose peer body s
  | .railSessionKeepalive peer body => Sys2Proof.Machine.execRailSessionKeepalive peer body s
  | .railNonceExpiry => Sys2Proof.Machine.execRailNonceExpiry s
  | .railSessionTimeout => Sys2Proof.Machine.execRailSessionTimeout s
  | .statusRequest peer body => Sys2Proof.Machine.execStatusRequest peer body s
  | .railKettleClear peer body => Sys2Proof.Machine.execRailKettleClear peer body s
  | .thermalRelease peer body => Sys2Proof.Machine.execThermalRelease peer body s
  | .railSetting peer body => Sys2Proof.Machine.execRailSetting peer body s
  | .replaceRole peer body => Sys2Proof.Machine.execReplaceRole peer body s
  | .networkKey peer body => Sys2Proof.Machine.execNetworkKey peer body s
  | .hostData peer body => Sys2Proof.Machine.execHostData peer body s
  | .frlRecordTimer => Sys2Proof.Machine.execFrlRecordTimer s
  | .tileCheck p t found => Sys2Proof.Machine.execTileCheck p t found s
  | .tileRepairDone p => Sys2Proof.Machine.execTileRepairDone p s
  | .tileCellLoss p t => Sys2Proof.Machine.execTileCellLoss p t s
  | .laserCmdSwap v => Sys2Proof.Machine.execLaserCmdSwap v s
  | .laserCmdReturn v => Sys2Proof.Machine.execLaserCmdReturn v s
  | .laserCmdAbort v => Sys2Proof.Machine.execLaserCmdAbort v s
  | .farWaitExpiry => Sys2Proof.Machine.execFarWaitExpiry s
  | .fwBegin => Sys2Proof.Machine.execFwBegin s
  | .fwEraseDone => Sys2Proof.Machine.execFwEraseDone s
  | .fwPortWrite v => Sys2Proof.Machine.execFwPortWrite v s
  | .fwVerifyDone ok => Sys2Proof.Machine.execFwVerifyDone ok s
  | .fwActivate => Sys2Proof.Machine.execFwActivate s
  | .fwAbort => Sys2Proof.Machine.execFwAbort s
  | .poweredHour => Sys2Proof.Machine.execPoweredHour s
  | .startAttempt => Sys2Proof.Machine.execStartAttempt s
  | .startStepDone f => Sys2Proof.Machine.execStartStepDone f s
  | .startStepTimeout => Sys2Proof.Machine.execStartStepTimeout s
  | .startWatchdogExpiry => Sys2Proof.Machine.execStartWatchdogExpiry s
  | .attemptOffTimer => Sys2Proof.Machine.execAttemptOffTimer s
  | .deepKettleTimeout => Sys2Proof.Machine.execDeepKettleTimeout s
  | .resetNAssert => Sys2Proof.Machine.execResetNAssert s
  | .resetNRelease => Sys2Proof.Machine.execResetNRelease s
  | .quiesceAssert => Sys2Proof.Machine.execQuiesceAssert s
  | .quiesceRelease => Sys2Proof.Machine.execQuiesceRelease s
  | .forceStartAssert => Sys2Proof.Machine.execForceStartAssert s
  | .inputChatter x => Sys2Proof.Machine.execInputChatter x s
  | .inputHeld x => Sys2Proof.Machine.execInputHeld x s
  | .perstNAssert => Sys2Proof.Machine.execPerstNAssert s
  | .perstNRelease => Sys2Proof.Machine.execPerstNRelease s
  | .spareLaserLockTimeout k => Sys2Proof.Machine.execSpareLaserLockTimeout k s
  | .inputChatterEnd x => Sys2Proof.Machine.execInputChatterEnd x s
  | .reassemblySyncLost c => Sys2Proof.Machine.execReassemblySyncLost c s

end Sys2Proof.Machine
end

