-- ==== Sys2Proof/Safety.lean ====
section
/-! DEFINITION. The terms in which statements about the block are made: safe runs, accepted host writes, what a command answers, and
what it leaves unchanged. -/
namespace Sys2Proof

/-- A number of steps in a row all answer next states. -/
def safeRun (n : Nat) (s : Machine.State) : Prop := ∃ t, core.run n s = .next t

namespace Machine

open Reg

/-- The parts of the state beside the registers. -/
inductive StatePart where
  | time | fresh | damage | ctr | host | ses | logRing | hubEnd | fieldEnd | mirror | field | start | pins | cars | tm | cad | mem
  | lanes | sense | tele | rail | clock
  deriving DecidableEq, Repr

namespace State

/-- A part of the state is the same in two states. -/
def samePart (s u : State) (p : StatePart) : Prop :=
  match p with
  | .time => u.time = s.time | .fresh => u.fresh = s.fresh | .damage => u.damage = s.damage | .ctr => u.ctr = s.ctr
  | .host => u.host = s.host | .ses => u.ses = s.ses | .logRing => u.logRing = s.logRing | .hubEnd => u.hubEnd = s.hubEnd
  | .fieldEnd => u.fieldEnd = s.fieldEnd | .mirror => u.mirror = s.mirror | .field => u.field = s.field
  | .start => u.start = s.start | .pins => u.pins = s.pins | .cars => u.cars = s.cars | .tm => u.tm = s.tm | .cad => u.cad = s.cad
  | .mem => u.mem = s.mem | .lanes => u.lanes = s.lanes | .sense => u.sense = s.sense | .tele => u.tele = s.tele
  | .rail => u.rail = s.rail | .clock => u.clock = s.clock

/-- The frame of a change from s to u: every register but those named reads as before (where the log ring may have changed, the
LOG page is not spoken of), and every part of the state but those named is as before. The queue and the part number of the
module never change; the output list is each command's own. -/
structure Frame (s u : State) (regs : List (Page × Nat)) (parts : List StatePart) : Prop where
  reg : ∀ q i, i < 0x1000 → (q ≠ .log ∨ .logRing ∉ parts) → (q, i) ∉ regs → u.word q i = s.word q i
  same : ∀ p, p ∉ parts → s.samePart u p
  part : u.part = s.part
  pending : u.pending = s.pending

/-- What an event leaves behind beside its EVENT bit: in the interval of a warm reset a LOG entry (R70). -/
def eventParts : List StatePart := [.ctr, .logRing, .damage]

/-- A whole write to a register of a page goes through to the register's effect: the link is up, D37 runs and no warm-reset interval
is open, the page is present, and the role of the open session may write the register (R6, R31, R33, R43, R44, R69, R498). -/
def accepts (s : State) (p : Page) (off : Nat) : Bool :=
  s.linkUp && decide (s.host.mgmt = .running) && !s.host.window && !(s.start.kettle && decide (6 ≤ p.sec))
    && State.mayWrite s.role p off

/-- The state on which a command's effect works: what the command before sent is gone. -/
def silent (s : State) : State := { s with out := [] }

/-- The memory requests of the host reach the register space: the link is up and D37 runs (R498). -/
def answering (s : State) : Bool := s.linkUp && decide (s.host.mgmt = .running)

/-- The registers of the block types that are stored words and nothing else: a write to one acts through its access codes alone
(R6, R7). -/
def plainRegs : List (PageType × Nat) :=
  [(.dev, 0x048), (.dev, 0x05C), (.cad, 0x024), (.tsn, 0x024), (.frl, 0x038), (.qsc, 0x030), (.qsc, 0x034), (.qsc, 0x038),
   (.qsc, 0x03C), (.sch, 0x020), (.sch, 0x02C), (.sch, 0x030), (.sch, 0x034), (.sch, 0x038), (.fct, 0x028), (.fct, 0x02C),
   (.fct, 0x038), (.fct, 0x03C), (.fct, 0x040), (.fct, 0x044), (.msc, 0x024), (.csc, 0x02C), (.csc, 0x03C), (.txo, 0x040),
   (.txo, 0x04C)]

/-- The LAST_DENIED word of a denied access (R44, R51): the offset, bit 30 BAR2, bit 31 a write. -/
def deniedWord (bar2 write : Bool) (addr : Nat) : Nat :=
  addr % 2 ^ 25 + (if bar2 then 2 ^ 30 else 0) + (if write then 2 ^ 31 else 0)

/-- What a denied access does (R43, R44): SES.DENIED counts it by direction, SES.LAST_DENIED records it, a denied access to the
register space counts in DEV counter 18; the first in a second of device time takes the second and raises DEV ACCESS_DENIED, with
a LOG entry of kind 3. Nothing else changes. -/
structure Denied (s u : State) (bar2 write : Bool) (addr : Nat) : Prop where
  count : u.word .ses 0x040 = (if write then SES.DENIED.WRITES else SES.DENIED.READS).put (s.word .ses 0x040)
    (min (s.rd .ses (if write then SES.DENIED.WRITES else SES.DENIED.READS) + 1) 0xFFFF)
  last : u.word .ses 0x044 = BitVec.ofNat 32 (deniedWord bar2 write addr)
  first : s.ses.deniedSecond ≠ some (s.time.toNat / 1000000000) →
    u.ses = { s.ses with deniedSecond := some (s.time.toNat / 1000000000) } ∧ (u.word .dev 0x00C).getLsbD 9 = true
    ∧ u.ctr.get (fun _ => 0) (ctrSlot 0 2 0) = min (s.ctr.get (fun _ => 0) (ctrSlot 0 2 0) + 1) (2 ^ 40 - 1)
    ∧ u.logRing.get (fun _ => 0) ((s.rd .log LOG.LOG_CTRL.TAIL + s.rd .log LOG.LOG_CTRL.UNREAD) % 4096)
        = logEntry s.time 3 0 0 9 (deniedWord bar2 write addr)
  counter : u.ctr.get (fun _ => 0) (ctrSlot 0 0 18)
    = if bar2 then s.ctr.get (fun _ => 0) (ctrSlot 0 0 18) else min (s.ctr.get (fun _ => 0) (ctrSlot 0 0 18) + 1) (2 ^ 40 - 1)
  later : s.ses.deniedSecond = some (s.time.toNat / 1000000000) →
    s.Frame u [(.ses, 0x040), (.ses, 0x044)] [.ctr] ∧ (bar2 = true → u.ctr = s.ctr)
  frame : s.Frame u [(.ses, 0x040), (.ses, 0x044), (.dev, 0x00C)] [.ctr, .ses, .logRing, .damage]

/-- The registers in which an engine shows its working state: what starting, stopping or reinitialising it may change (with the
receiver of a carrier whose laser is no longer locked, the caddy's count of spare lasers, and what a change of the 800ZR mode that waited
for FCR shows). -/
def engineRegs (p : Page) : List (Page × Nat) :=
  let rx (k : Fin 16) : List (Page × Nat) :=
    [(.rxe k, 0x024), (.rxe k, 0x03C), (.rxe k, 0x040), (.rxe k, 0x044), (.lfe k, 0x044), (.lfe k, 0x00C)]
  match p with
  | .txo k => [(p, 0x008), (p, 0x00C), (p, 0x020), (p, 0x024), (p, 0x02C), (p, 0x048), (p, 0x050), (p, 0x054), (.cad, 0x040)] ++ rx k
  | .rxe k => (p, 0x008) :: rx k
  | .lfe k => [(p, 0x008), (p, 0x00C), (p, 0x024), (p, 0x044)]
  | .fcr k => [(p, 0x008), (p, 0x024), (p, 0x028), (p, 0x02C), (p, 0x030), (p, 0x034), (p, 0x044), (.lfe k, 0x024)] ++ rx k
  | .hsc d => [(p, 0x008), (p, 0x02C), (p, 0x034), (p, 0x03C)] ++ (List.finRange 4).flatMap fun g => [(.hlg d g, 0x024), (.hlg d g, 0x00C)]
  | .hlg d _ => [(p, 0x008), (.hsc d, 0x03C)] ++ (List.finRange 4).flatMap fun g => [(.hlg d g, 0x024), (.hlg d g, 0x00C)]
  | .qsc => [(p, 0x008), (p, 0x02C)]
  | .sch => [(p, 0x008), (p, 0x028)]
  | .fct => [(p, 0x008), (p, 0x034)]
  | .stp => [(p, 0x008), (p, 0x040), (p, 0x044)]
  | _ => [(p, 0x008)]

/-- The parts of the state beside the registers that go with them. -/
def engineParts (p : Page) : List StatePart :=
  match p with
  | .txo _ | .rxe _ | .lfe _ | .fcr _ => [.cars, .ctr, .logRing, .damage, .cad]
  | .hsc _ | .hlg _ _ => [.lanes, .ctr, .logRing, .damage]
  | .qsc | .sch | .fct | .stp => [.tm]
  | _ => []

/-- The host write to a register that a named command is: page, offset and word (R6, R30). None for a command that is no write, for
EVENT_W1C that an event meets in the same cycle, and for SESSION_KEEPALIVE, a write that changes no register. -/
def hostWrite (s : State) (c : Instr) : Option (Page × Nat × Word) :=
  match c with
  | .pageEnable p on => some (p, 0x004, s.ctrlWith p HDR.PAGE_CTRL.ENABLE on)
  | .pageHold p on => some (p, 0x004, s.ctrlWith p HDR.PAGE_CTRL.HOLD on)
  | .pageSoftReset p => some (p, 0x004, s.ctrlWith p HDR.PAGE_CTRL.SOFT_RESET true)
  | .pageDrain p on => some (p, 0x004, s.ctrlWith p HDR.PAGE_CTRL.DRAIN on)
  | .eventW1c p bits same => if same = 0 then some (p, 0x00C, bits) else none
  | .eventEnableWrite p v => some (p, 0x010, v)
  | .eventForce p v => some (p, 0x014, v)
  | .flipMaskWrite p v => some (p, 0x018, v)
  | .sectionMaskWrite v => some (.dev, 0x044, v)
  | .sessionRequest role => some (.ses, 0x024, BitVec.ofNat 32 (0x10 + role.toNat))
  | .proofPortWrite v => some (.ses, 0x034, v)
  | .sessionSubmit => some (.ses, 0x024, 0x20)
  | .sessionClose => some (.ses, 0x024, 0x40)
  | .kettleCtrlClear v => some (.dev, 0x03C, v)
  | .warmReset v => some (.dev, 0x04C, v)
  | .logCapture => some (.log, 0x020, 0x80000000)
  | .logAdvance => some (.log, 0x020, 0x40000000)
  | .logClear => some (.log, 0x020, 0x20000000)
  | .laserFreqWrite k v => some (.txo k, 0x028, v)
  | .txPowerWrite k v => some (.txo k, 0x030, v)
  | .tiltWrite k hi v => some (.txo k, if hi then 0x03C else 0x038, v)
  | .outputEnableWrite k on => some (.txo k, 0x020, TXO.TX_CTRL.OUTPUT_EN.put (s.word (.txo k) 0x020) on.toNat)
  | .spareLaserRequest k => some (.txo k, 0x020, TXO.TX_CTRL.LASER_SEL.put (s.word (.txo k) 0x020) 1)
  | .spareLaserRelease k => some (.txo k, 0x020, TXO.TX_CTRL.LASER_SEL.put (s.word (.txo k) 0x020) 0)
  | .coefDataWrite k v => some (.txo k, 0x044, v)
  | .coefCommit k v => some (.txo k, 0x048, TXO.COEF_CTRL.COMMIT.put v 1)
  | .coefCopy k => some (.txo k, 0x048, TXO.COEF_CTRL.COPY.put (s.word (.txo k) 0x048) 1)
  | .coefFactory k => some (.txo k, 0x048, TXO.COEF_CTRL.FACTORY.put (s.word (.txo k) 0x048) 1)
  | .txTestWrite k v => some (.txo k, 0x054, v)
  | .rxCtrlWrite k r v => some (.rxe k, match r with | .rxCtrl => 0x020 | .cdCfg => 0x02C | .rxPower => 0x028, v)
  | .rxTestWrite k v => some (.rxe k, 0x054, v)
  | .eqRestart k bits => some (.rxe k, 0x044, RXE.EQ_CTRL.RESTART.put (s.word (.rxe k) 0x044) bits.toNat)
  | .eqViewCapture k => some (.rxe k, 0x048, RXE.EQ_VIEW_ADDR.CAPTURE.put (s.word (.rxe k) 0x048) 1)
  | .manualAnnounce k v => some (.lfe k, 0x030, LFE.LM_STAGE.ANNOUNCE.put v 1)
  | .zrModeWrite k v => some (.lfe k, 0x040, v)
  | .crSelect k v => some (.fcr k, 0x040, v)
  | .keyPortWrite k v => some (.fcr k, 0x048, v)
  | .keySaltWrite k v => some (.fcr k, 0x04C, v)
  | .keySwitch k => some (.fcr k, 0x040, FCR.CR_CTRL.SWITCH.put (s.word (.fcr k) 0x040) 1)
  | .keyZeroize k => some (.fcr k, 0x040, FCR.CR_CTRL.ZEROIZE.put (s.word (.fcr k) 0x040) 1)
  | .tagCfgWrite v => some (.qsc, 0x024, v)
  | .hwmClear ingress => some (.bsc, if ingress then 0x030 else 0x028, 0x80000000)
  | .markFail ch v => some (.mch ch, 0x020, v)
  | .migStart v => some (.msc, 0x02C, v ||| 0x100)
  | .migAbort => some (.msc, 0x02C, s.word .msc 0x02C ||| 0x200)
  | .portModeWrite d v => some (.hsc d, 0x024, v)
  | .portEnable d g v => some (.hlg d g, 0x02C, v)
  | .txEqWrite d g v => some (.hlg d g, 0x038, v)
  | .loopbackWrite d t v | .prbsWrite d t v => match t with
    | .group g => some (.hlg d g, 0x040, v)
    | .spare => some (.hsc d, 0x030, v)
  | .laneSleep d g rx => some (.hlg d g, 0x020, s.word (.hlg d g) 0x020 ||| (if rx then 2 else 1))
  | .laneWake d g rx => some (.hlg d g, 0x020, s.word (.hlg d g) 0x020 &&& (if rx then 1 else 2))
  | .steerCmdStart d v => some (.hsc d, 0x028, (v ||| 0x4000) &&& 0xFFFF7FFF)
  | .steerCmdRelease d v => some (.hsc d, 0x028, (v ||| 0x8000) &&& 0xFFFFBFFF)
  | .mgmtOpRequest v => some (.vsq, 0x040, v)
  | .domainSrcSelect n v => some (.tim, 0x030 + 4 * n.val, v)
  | .phaseReplace v => some (.fpw, 0x044, v)
  | .imageBegin => some (.fbr, 0x038, 1)
  | .imagePortWrite v => some (.fbr, 0x03C, v)
  | .imageActivate => some (.fbr, 0x038, 2)
  | .imageAbort => some (.fbr, 0x038, 4)
  | .coefPortWrite v => some (.ftl, 0x0A4, v)
  | .clrMinmax ch => some (.ftl, State.chOff ch.val, FTL.CHn.CLR_MINMAX.put (s.word .ftl (State.chOff ch.val) &&& 0x0FFFFFFF) 1)
  | .telemViewCapture v => some (.ftl, 0x0A8, v)
  | .laserCmdSwap v => some (.cad, 0x03C, CAD.LASER_CMD.SWAP.put v 1)
  | .laserCmdReturn v => some (.cad, 0x03C, CAD.LASER_CMD.RETURN.put v 1)
  | .laserCmdAbort v => some (.cad, 0x03C, CAD.LASER_CMD.ABORT.put v 1)
  | .fwBegin => some (.cad, 0x044, 1)
  | .fwPortWrite v => some (.cad, 0x048, v)
  | .fwActivate => some (.cad, 0x044, 2)
  | .fwAbort => some (.cad, 0x044, 4)
  | _ => none

/-- What holds between commands: DEV.STATUS and ALARM_CAUSE show the level of service that the working parts give (R26, R57, R60), INT_N has the value of its
condition unless a warm-reset window holds it (R60, R68), a pending bit stands only for a condition that holds, and none is
left that may send (R62, R63). -/
structure Inv (s : State) : Prop where
  level : s.hubAlive = true → s.rd .dev DEV.STATUS.SVC_LEVEL = s.level
  devState : s.hubAlive = true → s.rd .dev DEV.STATUS.DEV_STATE = s.devState s.level
  ready : s.hubAlive = true → s.bit .dev DEV.STATUS.READY
    = (decide (3 ≤ s.level) && (s.devState s.level == 1 || s.devState s.level == 2 || s.devState s.level == 4))
  alarm : s.hubAlive = true → s.rd .dev DEV.ALARM_CAUSE.word = s.alarmCause s.level
  intN : s.host.window = false → s.host.intN = (s.hubAlive && s.bit .dev DEV.DEV_CTRL.INT_N_ENABLE && s.asks != 0)
  pba : s.host.pba &&& ~~~s.asks = 0
  sent : s.sendable s.host.pba = []

end State

/-- The command answers a next state: the state u that its own effect makes of s, with what follows every command carried out
(State.settle: levels, lines, messages and the other values that follow their inputs), and P holds of u. -/
def Answers (c : Instr) (s : State) (P : State → Prop) : Prop :=
  ∃ u, Machine.exec c s = .next (State.settle s u) ∧ P u

end Machine
end Sys2Proof
end

