-- ==== Sys2Proof/Certificates/Slice0/Obligations.lean ====
section
/-! DEFINITION. The statements for the provers: what the spec's rules say of each command, each kind of state and the step. A statement
of the form Answers c s P says that the command c answers a next state on s, and what it made of s. -/

section
open Sys2Proof Sys2Proof.Machine Reg

/-- The block's step (the task's form of R32: writes take effect in the order in which they arrive): the command at the front of the
queue runs on the state with the rest of the queue. -/
def Obligations.stepRunsFront : Prop :=
  ∀ (c : Instr) (r : List Instr) (s : State), step { s with pending := c :: r } = exec c { s with pending := r }

/-- The model's choice (log 1): with no command waiting, one nanosecond passes. Device time counts while the hub has power, and RESET_N
does not touch it (R334, R450); the field island's own time while it has power. An engine whose time in STARTING is
over then reads READY or DEGRADED, or FAULT with a loss that it cannot do without (R501, R426; log 57); the burst that a migration has read
is written (R287), and what the end of a member's contribution leaves due in a conduit follows (R223). Nothing else changes. -/
def Obligations.emptyQueueTicks : Prop :=
  ∀ s : State, s.pending = [] →
    let t := s.tick
    t.time = (if s.start.power ≠ .off then s.time + 1 else s.time)
    ∧ t.tele.now = (if s.start.fieldUp then s.tele.now + 1 else s.tele.now)
    ∧ { t with time := s.time, tele := { t.tele with now := s.tele.now } } = s
    ∧ (t.due = [] → t.mem.lock = none → t.dueFlows = [] → step s = .next t)
    ∧ (t.due ≠ [] → t.mem.lock = none → t.dueFlows = [] → (∀ p ∈ t.due, s.bit p HDR.PAGE_CTRL.HOLD = false ∧ s.bit p HDR.PAGE_CTRL.DRAIN = false) →
      ∃ u, step s = .next (State.settle t u)
        ∧ (∀ p ∈ t.due, u.pst p = if s.pst p = 1 then s.runState p else s.pst p)
        ∧ u.start = { s.start with starting := s.start.starting.filter fun e => decide (t.time.toNat < e.2) }
        ∧ u.out = [] ∧ t.Frame u (t.due.map fun p => (p, 0x008)) [.start])
    -- R287: the burst that a migration copies is written; R223: what a member that stopped contributing leaves due in a conduit follows
    ∧ (∀ k, t.due = [] → t.mem.lock = some k → t.dueFlows = [] →
      ∃ u, step s = .next (State.settle t u) ∧ u.mem.lock = none ∧ (k.dropped = true → u.chan 16 = t.chan 16)
        ∧ (k.dropped = false → k.poison = true → ((u.chan 16).stored.get (fun _ => Stored.sound) (k.addr / 64)).err.poisoned = true)
        ∧ u.out = [] ∧ t.Frame u [(.msc, 0x00C), (.msc, 0x030), (.msc, 0x048), (.mch 16, 0x018)] (.mem :: State.eventParts))
    ∧ (t.due = [] → t.mem.lock = none → t.dueFlows ≠ [] →
      step s = .next (State.settle t (t.dueFlows.foldl State.flow { t with out := [] })))

/-- What follows a command (the state that Answers speaks of, made the next state): it appends messages, pause frames and the end of
Remote Fault to what the command sends, and beside the log and the counters it changes only what follows its inputs: the section control engines with the
states, the light and the limits of the carriers, the buffers with their flags and pause, the pools and the laser procedure that
runs, the level of service with STATUS and ALARM_CAUSE, and the lines to the host. Every other register and part stays. -/
def Obligations.settleFrame : Prop :=
  ∀ s u : State, u.pending = s.pending →
    let carrier (k : Fin 16) : List (Page × Nat) :=
      [(.csc k, 0x008), (.csc k, 0x00C), (.csc k, 0x024), (.csc k, 0x028), (.csc k, 0x02C), (.csc k, 0x030), (.csc k, 0x034), (.csc k, 0x038),
       (.txo k, 0x008), (.txo k, 0x020), (.txo k, 0x024), (.txo k, 0x02C), (.txo k, 0x034), (.rxe k, 0x008), (.lfe k, 0x004), (.lfe k, 0x008),
       (.lfe k, 0x00C), (.lfe k, 0x044), (.fcr k, 0x008), (.fcr k, 0x044)]
    let shared : List (Page × Nat) :=
      [(.bsc, 0x00C), (.bsc, 0x024), (.bsc, 0x028), (.bsc, 0x02C), (.bsc, 0x030), (.bsc, 0x038), (.stp, 0x00C), (.stp, 0x020), (.stp, 0x034),
       (.stp, 0x038), (.stp, 0x03C), (.stp, 0x040), (.sch, 0x00C), (.fct, 0x00C), (.fct, 0x048), (.fct, 0x04C), (.cad, 0x008), (.cad, 0x00C),
       (.cad, 0x018), (.cad, 0x020), (.cad, 0x040), (.cad, CAD.CAD_LAST.POOL.off), (.dev, 0x00C), (.dev, 0x034), (.dev, 0x050)]
    let t := State.settle s u
    u.Frame t ((List.finRange 16).flatMap carrier ++ shared)
      (.host :: .hubEnd :: .start :: .cars :: .tm :: .cad :: State.eventParts)
    ∧ ∃ l, t.out = u.out ++ l
      ∧ ∀ o ∈ l, (∃ v, o = .msi v) ∨ (∃ side type seq code, o = .barrier side type seq code) ∨ (∃ port bytes, o = .pauseFrame port bytes)
          ∨ ∃ port, o = .remoteFault port false

/-- R35, R36, R65: every page's header after reset, and what is empty then. -/
def Obligations.resetState : Prop :=
  (∀ p : Page,
    State.reset.word p 0x000 = BitVec.ofNat 32 (0x1000000 * p.type.code + 0x10000 * p.sec + 0x100 * p.index + 1)
    ∧ State.reset.word p 0x004 = 0 ∧ State.reset.word p 0x008 = 0 ∧ State.reset.word p 0x00C = 0 ∧ State.reset.word p 0x018 = 0
    ∧ State.reset.word p 0x01C = 0)
  ∧ State.reset.word .dev 0x000 = 0x01000001 ∧ State.reset.word (.lfe 7) 0x000 = 0x53170301
  ∧ State.reset.word .dev 0x010 = 0x000003FF ∧ State.reset.word .dev 0x044 = 0x00FFFFFF
  ∧ State.reset.level = 0 ∧ State.reset.role = 0 ∧ State.reset.linkUp = false ∧ State.reset.readyPin = false
  ∧ State.reset.alarmN = true ∧ State.reset.pending = []

/-- R36, R57, R60: the invariant of stepKeepsInv holds after reset. -/
def Obligations.resetInv : Prop := State.reset.Inv

/-- From every state, not only from those that a run reaches, a step leaves a state in which DEV.STATUS, ALARM_CAUSE, INT_N and the
pending bits follow their conditions (R26, R57, R60, R62, R63, R456). -/
def Obligations.stepKeepsInv : Prop :=
  ∀ s t : State, s.Inv → step s = .next t → t.Inv

/-- R30: the byte address of a register is (section << 20) | (page << 12) | offset, and it names that page and offset alone; with
the rule's two examples, FLIP_MASK of C7.LFE and the page of MC12. -/
def Obligations.registerAddresses : Prop :=
  (∀ (p : Page) (off : Nat), off < 0x1000 → p.base + off = (p.sec <<< 20 ||| p.index <<< 12 ||| off) ∧ p.sec ≤ 0x1F ∧ p.index ≤ 0xFF
    ∧ Page.ofAddr (p.base + off) = some p ∧ (p.base + off) % 0x1000 = off)
  ∧ (Page.lfe 7).base + 0x018 = 0x01703018 ∧ (Page.mch 12).base = 0x0050D000

/-- R6, R30: a command that is a write to a register is the write of that word at the register's address. What befalls a host write
on its way (registerAccessPath) so befalls every one of them. -/
def Obligations.namedWritesAreRegisterWrites : Prop :=
  ∀ (c : Instr) (s : State) (p : Page) (off : Nat) (v : Word), s.hostWrite c = some (p, off, v) →
    exec c s = exec (.registerWrite (p.base + off) v 15) s

/-- R44 (with R43): what a denied access does, for a write, a one-dword read of the register space and a read of the counter
aperture. -/
def Obligations.deniedAccess : Prop :=
  ∀ (s : State) (addr : Nat) (v : Word) (p : Page), s.answering = true → s.host.window = false →
    (addr % 4 = 0 → s.pageAt addr = some p → State.mayWrite s.role p (addr % 0x1000) = false →
      Answers (.registerWrite addr v 15) s fun u => s.touch.Denied u false true addr ∧ u.out = [])
    ∧ (addr % 4 = 0 → s.pageAt addr = some p → State.mayRead s.role p = false →
      Answers (.bar0Read addr 1) s fun u => s.Denied u false false addr ∧ u.out = [.completion [0]])
    ∧ (addr % 4 = 0 → State.mayCount s = false →
      Answers (.bar2Read addr 1) s fun u => s.Denied u true false addr ∧ u.out = [.completion [0]])

/-- R31, R33, R49, R69, R498: where a host write to a register does not reach its register. R31, R33, R34, R69, R498: reads of the
register space. -/
def Obligations.registerAccessPath : Prop :=
  (∀ (s : State) (addr : Nat) (v : Word) (be : BitVec 4),
      -- no link (the host side without power or in reset, D37 stopped for good): nothing happens
      (s.linkUp = false → Answers (.registerWrite addr v be) s fun u => u = s.silent)
      -- D37 changes its source: the request is held
      ∧ (s.linkUp = true → s.host.mgmt = .changing → Answers (.registerWrite addr v be) s fun u =>
          u.host = { s.host with held := s.host.held ++ [.write0 addr v be] } ∧ u.out = [.held] ∧ s.Frame u [] [.host])
      -- in the interval of a warm reset writes are discarded
      ∧ (s.answering = true → s.host.window = true → Answers (.registerWrite addr v be) s fun u => u = s.silent)
      -- partial byte enables, or an address off a dword: discarded and counted in MALFORMED
      ∧ (s.answering = true → s.host.window = false → be ≠ 15 ∨ addr % 4 ≠ 0 → Answers (.registerWrite addr v be) s fun u =>
          u.word .dev 0x054 = DEV.ACCESS_ERR.MALFORMED.put (s.word .dev 0x054) (min (s.rd .dev DEV.ACCESS_ERR.MALFORMED + 1) 0xFFFF)
          ∧ s.touch.Frame u [(.dev, 0x054)] [])
      -- outside the directory, or on a page that kettle mode takes away: ignored and counted in UNMAPPED
      ∧ (s.answering = true → s.host.window = false → be = 15 → addr % 4 = 0 → s.pageAt addr = none →
          Answers (.registerWrite addr v be) s fun u =>
            u.word .dev 0x054 = DEV.ACCESS_ERR.UNMAPPED.put (s.word .dev 0x054) (min (s.rd .dev DEV.ACCESS_ERR.UNMAPPED + 1) 0xFFFF)
            ∧ s.touch.Frame u [(.dev, 0x054)] []))
  ∧ (∀ (s : State) (addr n : Nat),
      (s.linkUp = false → Answers (.bar0Read addr n) s fun u => u.out = [.noCompletion] ∧ s.Frame u [] [])
      ∧ (s.linkUp = true → s.host.mgmt = .changing → Answers (.bar0Read addr n) s fun u =>
          u.out = [.held] ∧ u.host = { s.host with held := s.host.held ++ [.read0 addr n] } ∧ s.Frame u [] [.host])
      ∧ (s.answering = true → s.host.window = true → Answers (.bar0Read addr n) s fun u =>
          u.out = [.completion (List.replicate n 0xFFFFFFFF)] ∧ s.Frame u [] [])
      ∧ (s.answering = true → s.host.window = false → 16 < n → Answers (.bar0Read addr n) s fun u => u.out = [.abort] ∧ s.Frame u [] [])
      ∧ (s.answering = true → s.host.window = false → s.pageAt (addr / 4 * 4) = none → Answers (.bar0Read addr 1) s fun u =>
          u.out = [.completion [0]] ∧ s.Frame u [(.dev, 0x054)] []
          ∧ u.word .dev 0x054 = DEV.ACCESS_ERR.UNMAPPED.put (s.word .dev 0x054) (min (s.rd .dev DEV.ACCESS_ERR.UNMAPPED + 1) 0xFFFF)))

/-- R6, R7: a whole write, by a session that may write, to a register that is a stored word: its RW bits take the written bits, each
W1C bit written as 1 clears, every other bit and every other register keeps its value. -/
def Obligations.plainRegisterWrite : Prop :=
  ∀ (s : State) (p : Page) (off : Nat) (v : Word) (r : RegRow), (p.type, off) ∈ State.plainRegs → regRow p.type off = some r →
    s.accepts p off = true → Answers (.registerWrite (p.base + off) v 15) s fun u =>
      u.word p off = ((s.word p off &&& ~~~(BitVec.ofNat 32 r.rw)) ||| (v &&& BitVec.ofNat 32 r.rw)) &&& ~~~(v &&& BitVec.ofNat 32 r.w1c)
      ∧ u.out = [] ∧ s.touch.Frame u [(p, off)] []

/-- R31, R35: a read by a role that may read the page, of consecutive header registers or of one register that is a stored word, is
served dword by dword in ascending order with the words that stand there, and changes nothing. R457, R458: reads of the counter
aperture. -/
def Obligations.servedReads : Prop :=
  (∀ (s : State) (p : Page), s.answering = true → s.host.window = false → s.pageAt p.base = some p → State.mayRead s.role p = true →
      (∀ i n, i + n ≤ 8 → Answers (.bar0Read (p.base + 4 * i) n) s fun u =>
        u.out = [.completion ((List.range n).map fun j => s.word p (4 * (i + j)))] ∧ s.Frame u [] [])
      ∧ (∀ off, (p.type, off) ∈ State.plainRegs → (p.type, off) ≠ (.txo, 0x04C) → Answers (.bar0Read (p.base + off) 1) s fun u =>
        u.out = [.completion [s.word p off]] ∧ s.Frame u [] []))
  ∧ (∀ (s : State) (slot : Nat), s.answering = true → s.host.window = false → State.mayCount s = true →
      let w := s.ctrNow (8 * slot)
      -- a qword read takes the whole counter at one instant and leaves the hold register
      Answers (.bar2Read (8 * slot) 2) s (fun u =>
        u.out = [.completion [BitVec.ofNat 32 w, BitVec.ofNat 32 (w / 2 ^ 32)]] ∧ s.Frame u [] [])
      -- a dword read of a low half captures the high half
      ∧ Answers (.bar2Read (8 * slot) 1) s (fun u =>
        u.out = [.completion [BitVec.ofNat 32 w]] ∧ u.host = { s.host with hold2 := BitVec.ofNat 32 (w / 2 ^ 32) } ∧ s.Frame u [] [.host])
      -- a dword read of a high half returns what was captured
      ∧ Answers (.bar2Read (8 * slot + 4) 1) s (fun u => u.out = [.completion [s.host.hold2]] ∧ s.Frame u [] [])
      -- a misaligned qword read is completed with Completer Abort and counted
      ∧ Answers (.bar2Read (8 * slot + 4) 2) s (fun u => u.out = [.abort] ∧ s.Frame u [(.dev, 0x054)] []
          ∧ u.word .dev 0x054 = DEV.ACCESS_ERR.MALFORMED.put (s.word .dev 0x054) (min (s.rd .dev DEV.ACCESS_ERR.MALFORMED + 1) 0xFFFF))
      -- so is one of more than 16 dwords, without a count
      ∧ ∀ n, 16 < n → Answers (.bar2Read (8 * slot) n) s fun u => u.out = [.abort] ∧ s.Frame u [] [])

/-- R8, R335: a read of the low register of a SNAP pair returns it and captures the high register; a read of the high register
returns what was captured. -/
def Obligations.snapPairs : Prop :=
  ∀ (s : State) (x : SnapPair) (p : Page) (off : Nat), State.snapAddr x = p.base + off → off < 0x1000 →
    s.answering = true → s.host.window = false → s.pageAt (p.base + off) = some p → State.mayRead s.role p = true →
      Answers (.snapLowRead x) s (fun u =>
        u.out = [.completion [s.live p off]] ∧ u.hold p (off + 4) = s.live p (off + 4)
        ∧ (∀ q j, (q, j) ≠ (p, off + 4) → j < 0x1000 → u.hold q j = s.hold q j)
        ∧ (x = .time → u.out = [.completion [s.time.extractLsb' 0 32]] ∧ u.hold p (off + 4) = s.time.extractLsb' 32 32)
        ∧ u.host = { s.host with holds := u.host.holds } ∧ s.Frame u [] [.host])
      ∧ Answers (.bar0Read (p.base + off + 4) 1) s fun u => u.out = [.completion [s.hold p (off + 4)]] ∧ s.Frame u [] []

/-- R28, R29, R49, R498: configuration requests, writes of the MSI-X table, the write that only keeps a session open. -/
def Obligations.configurationAndTable : Prop :=
  ∀ (s : State) (off : Nat) (v : Word) (e m : Bool),
    (s.answering = true → Answers (.configRequest (.read 0)) s fun u =>
        u.out = [.config (match s.part with | .ec => 0x56321D3F | .el => 0x56331D3F)] ∧ s.Frame u [] [])
    ∧ (s.answering = true → Answers (.configRequest (.read 8)) s fun u => u.out = [.config 0x028000B1] ∧ s.Frame u [] [])
    ∧ (s.answering = true → Answers (.configRequest (.read 0x3C)) s fun u =>
        (∃ w : Word, u.out = [.config w] ∧ w.extractLsb' 8 8 = 0) ∧ u.fresh = s.fresh + 1 ∧ s.Frame u [] [.fresh])
    ∧ (s.answering = true → Answers (.configRequest (.msixControl e m)) s fun u =>
        u.host = { s.host with msixEnable := e, functionMask := m } ∧ u.out = [] ∧ s.Frame u [] [.host])
    ∧ (s.answering = true → off < 0x200 → off % 4 = 0 → Answers (.bar4Write off v) s fun u =>
        u.host.msix.get msixDefault off = (if off % 16 = 12 then v &&& 1 else v)
        ∧ (∀ o, o ≠ off → u.host.msix.get msixDefault o = s.host.msix.get msixDefault o)
        ∧ u.host = { s.host with msix := u.host.msix } ∧ u.out = [] ∧ s.Frame u [] [.host])
    ∧ (s.answering = true → 0x200 ≤ off → Answers (.bar4Write off v) s fun u => u.out = [] ∧ s.Frame u [] [])
    ∧ (s.accepts .ses 0x038 = true → Answers .sessionKeepalive s fun u =>
        (s.role ≠ 0 → u.ses = { s.ses with lastWrite := s.time }) ∧ (s.role = 0 → u.ses = s.ses) ∧ u.out = [] ∧ s.Frame u [] [.ses])

/-- R6, R62, R63, R64: writes to the EVENT registers of a page, and to SECTION_MASK. R41: a write to FLIP_MASK with BIT_A or BIT_B
above 71, or with a TARGET that the engine does not have, is refused whole (a DDR5 channel's own code has 20 symbols, BIT_A 0-19 for
its target 2, by the owning chapter); any other value is taken. -/
def Obligations.eventRegisters : Prop :=
  (∀ (s : State) (p : Page) (v same : Word),
      -- a 1 clears its bit, unless the event occurs in the same cycle; a section or vector 24 that still asks sends again
      (s.accepts p 0x00C = true → Answers (.eventW1c p v same) s fun u =>
        u.word p 0x00C = (s.word p 0x00C &&& ~~~v) ||| (same &&& v &&& BitVec.ofNat 32 p.type.eventBits)
        ∧ (∀ n, u.host.pba.getLsbD n = (s.host.pba.getLsbD n || (decide (n = (if p.sec < 8 then p.sec else p.sec - 8))
            && s.asks.getLsbD n && u.asks.getLsbD n) || (decide (p = .dev) && decide (n = 24) && s.asks.getLsbD n && u.asks.getLsbD n)))
        ∧ u.host = { s.host with pba := u.host.pba } ∧ u.out = [] ∧ s.touch.Frame u [(p, 0x00C)] [.host])
      -- the enables take the written bits; an enable that newly shows a critical event sends vector 24
      ∧ (s.accepts p 0x010 = true → Answers (.eventEnableWrite p v) s fun u =>
        u.word p 0x010 = v &&& BitVec.ofNat 32 p.type.eventBits
        ∧ u.host.pba = (if p = .dev ∧ s.word p 0x00C &&& (v &&& BitVec.ofNat 32 p.type.eventBits) &&& ~~~(s.word p 0x010) &&& critBits ≠ 0
            then s.host.pba ||| BitVec.ofNat 32 (2 ^ 24) else s.host.pba)
        ∧ u.host = { s.host with pba := u.host.pba } ∧ u.out = [] ∧ s.touch.Frame u [(p, 0x010)] [.host])
      -- a 1 sets the matching EVENT bit as though the event had occurred
      ∧ (s.accepts p 0x014 = true → Answers (.eventForce p v) s fun u =>
        u.word p 0x00C = s.word p 0x00C ||| (v &&& BitVec.ofNat 32 p.type.eventBits) ∧ u.out = [] ∧ s.touch.Frame u [(p, 0x00C)] [])
      ∧ (s.accepts .dev 0x044 = true → Answers (.sectionMaskWrite v) s fun u =>
        u.word .dev 0x044 = v &&& 0x00FFFFFF ∧ u.out = [] ∧ s.touch.Frame u [(.dev, 0x044)] []))
  ∧ (∀ (s : State) (p : Page) (v : Word), s.accepts p 0x018 = true → Answers (.flipMaskWrite p v) s fun u =>
      u.out = [] ∧ s.touch.Frame u [(p, 0x018)] []
      ∧ (71 < HDR.FLIP_MASK.BIT_A.get v ∨ 71 < HDR.FLIP_MASK.BIT_B.get v ∨ p.type.flipTargets ≤ HDR.FLIP_MASK.TARGET.get v →
          u.word p 0x018 = s.word p 0x018)
      ∧ (HDR.FLIP_MASK.BIT_A.get v ≤ 71 → HDR.FLIP_MASK.BIT_B.get v ≤ 71 → HDR.FLIP_MASK.TARGET.get v < p.type.flipTargets →
          p.type ≠ .mch → u.word p 0x018 = v &&& 0xFFFFFF00)
      ∧ (HDR.FLIP_MASK.BIT_B.get v ≤ 71 → HDR.FLIP_MASK.TARGET.get v < p.type.flipTargets → p.type = .mch →
          HDR.FLIP_MASK.BIT_A.get v ≤ (if HDR.FLIP_MASK.TARGET.get v = 2 then 19 else 71) → u.word p 0x018 = v &&& 0xFFFFFF00))

/-- R37, R38: HOLD and DRAIN of an engine that is enabled. The bit takes its value; an engine with a boundary to wait for stops
there (ENGINE_HELD) or when its work is done (ENGINE_DRAINED), one without acts at once; DRAIN takes precedence. R37, R38, R142,
R250: an engine reaches the boundary at which HOLD stops it, or has drained. Any other state leaves it as it is. -/
def Obligations.holdAndDrain : Prop :=
  (∀ (s : State) (p : Page) (on : Bool), p.sec ≠ 2 → s.enabled p = true →
      let own : List (Page × Nat) := match p with | .lfe k => [(.csc k, CSC.CSC_STATUS.AUTO_DRAINED.off)] | _ => []
      -- the steep transitions that a hold or drain of STP delayed go on with its end (R245)
      let steeps : List (Page × Nat) := match p with
        | .stp => [(.stp, 0x00C), (.stp, 0x018)] ++ (List.finRange 17).map fun i => (Page.mch i, 0x018)
        | _ => []
      let part : List StatePart := match p with | .lfe _ => [.cad] | .stp => .tm :: .mem :: State.eventParts | _ => []
      (s.accepts p 0x004 = true → Answers (.pageHold p on) s fun u =>
        u.word p 0x004 = HDR.PAGE_CTRL.HOLD.put (s.word p 0x004 &&& 0xB) on.toNat ∧ u.out = []
        ∧ s.touch.Frame u ((p, 0x004) :: (p, 0x008) :: own ++ steeps) part
        ∧ (State.canHold p = true → s.actsAtOnce p = true → (State.canDrain p && s.bit p HDR.PAGE_CTRL.DRAIN) = false → on = true →
            s.pst p = 2 ∨ s.pst p = 3 ∨ s.pst p = 7 → u.pst p = 5)
        ∧ (State.canHold p = true → s.actsAtOnce p = true → s.bit p HDR.PAGE_CTRL.DRAIN = false → on = false → s.pst p = 5 →
            u.pst p = s.runState p)
        ∧ (State.isManagement p = false → s.actsAtOnce p = false → p ≠ .sch → u.word p 0x008 = s.word p 0x008))
      ∧ (s.accepts p 0x004 = true → Answers (.pageDrain p on) s fun u =>
        u.word p 0x004 = HDR.PAGE_CTRL.DRAIN.put (s.word p 0x004 &&& 0xB) on.toNat ∧ u.out = []
        ∧ s.touch.Frame u ((p, 0x004) :: (p, 0x008) :: own ++ steeps) part
        ∧ (State.canDrain p = true → s.actsAtOnce p = true → (p = .stp → s.tm.qs.all (fun e => !e.2.steep) = true) → on = true →
            s.pst p = 2 ∨ s.pst p = 3 ∨ s.pst p = 7 → u.pst p = 6)
        ∧ (State.isManagement p = false → s.actsAtOnce p = false → p ≠ .sch → u.word p 0x008 = s.word p 0x008)))
  ∧ (∀ (s : State) (p : Page),
      (State.canHold p = true → s.bit p HDR.PAGE_CTRL.HOLD = true → (State.canDrain p && s.bit p HDR.PAGE_CTRL.DRAIN) = false →
        s.pst p = 2 ∨ s.pst p = 3 ∨ s.pst p = 7 →
        Answers (.engineHeld p) s fun u => u.word p 0x008 = HDR.PAGE_STATE.STATE.put (s.word p 0x008) 5 ∧ u.out = []
          ∧ s.Frame u [(p, 0x008)] [])
      ∧ (s.bit p HDR.PAGE_CTRL.HOLD = false ∨ s.bit p HDR.PAGE_CTRL.DRAIN = true ∧ State.canDrain p = true ∨ s.pst p < 2 →
        Answers (.engineHeld p) s fun u => u.out = [] ∧ s.Frame u [] [])
      ∧ (State.canDrain p = true → s.bit p HDR.PAGE_CTRL.DRAIN = true → s.pst p = 2 ∨ s.pst p = 3 ∨ s.pst p = 5 ∨ s.pst p = 7 →
        (∀ k, p = .lfe k → (s.car k).cap = 0 ∧ (s.car k).posts = []) →
        (p = .sch → s.tm.qs.all (fun e => decide (e.2.frames = [])) = true) → (p = .stp → s.tm.qs.all (fun e => !e.2.steep) = true) →
        Answers (.engineDrained p) s fun u => u.word p 0x008 = HDR.PAGE_STATE.STATE.put (s.word p 0x008) 6 ∧ u.out = []
          ∧ s.Frame u [(p, 0x008)] [])
      ∧ (s.bit p HDR.PAGE_CTRL.DRAIN = false ∨ s.pst p < 2 →
        Answers (.engineDrained p) s fun u => u.out = [] ∧ s.Frame u [] []))

/-- R37, R93, R501: an engine is switched on, its die running, no clock domain of it coasting, HOLD and DRAIN clear. It reads
STARTING while it initialises, RXE, LFE and FCR for at most 1 ms, and TXO until its laser locks; emptyQueueTicks says what it reads then.
Its working state is as it begins; nothing outside the engine changes. R37: ENABLE = 0 holds the engine OFF, whatever the other fields say, but
where a page ignores it (TIM, MSC, a channel in service). -/
def Obligations.engineSwitch : Prop :=
  -- until when an engine reads STARTING: TXO until its laser locks, the others until a time that the spec bounds for three of them
  let starts (s u : State) (p : Page) : Prop :=
    match p with
    | .txo _ => u.start = s.start
    | p => ∃ n, u.start = { s.start with starting := s.start.starting.set (fun _ => 0) p.base (s.time.toNat + 1 + n) }
        ∧ (p.type ∈ [.rxe, .lfe, .fcr] → n ≤ 1000000)
  (∀ (s : State) (p : Page), p.sec ≠ 2 → State.isManagement p = false → s.enabled p = false → s.dieUp p = true → s.kettleOff p = false →
      s.bit p HDR.PAGE_CTRL.HOLD = false → s.bit p HDR.PAGE_CTRL.DRAIN = false → s.coasts p = false → s.accepts p 0x004 = true →
      Answers (.pageEnable p true) s fun u =>
        u.word p 0x004 = HDR.PAGE_CTRL.ENABLE.put (s.word p 0x004 &&& 0xB) 1
        ∧ u.pst p = 1 ∧ starts s u p
        ∧ (∀ k, p = .txo k → u.rd p TXO.LASER_STATUS.TUNE_STATE = 1 ∧ u.bit p TXO.TX_STATUS.LOCKED = false)
        ∧ (∀ k, p = .rxe k → u.bit p RXE.RX_STATUS.SIGNAL = false ∧ u.bit p RXE.RX_STATUS.LOCKED = false
            ∧ (s.broken p = false → u.rd p RXE.RX_STATUS.ACQ_STATE = if s.bit (.txo k) TXO.TX_STATUS.LOCKED then 1 else 10))
        ∧ (∀ k, p = .lfe k → (u.car k).txMap = LMap.base ∧ (u.car k).rxMap = LMap.base ∧ (u.car k).cap = 0 ∧ (u.car k).negDone = false
            ∧ u.bit p LFE.FEC_STATUS.CW_LOCK = false)
        ∧ (∀ k, p = .fcr k → u.rd p FCR.FR_STATUS.ALIGN = 1 ∧ u.bit p FCR.FR_STATUS.FC_VALID = false ∧ u.fcTx k = 0 ∧ (u.car k).txKey = none)
        ∧ s.touch.Frame u ((p, 0x004) :: State.engineRegs p ++ (match p with | .lfe k => [(.csc k, 0x028)] | _ => []))
            (.start :: State.engineParts p))
  ∧ (∀ (s : State) (p : Page), p.sec ≠ 2 → State.isManagement p = false → s.enabled p = true → s.stayOn p = false → s.accepts p 0x004 = true →
      Answers (.pageEnable p false) s fun u =>
        u.enabled p = false ∧ u.pst p = 0
        ∧ (∀ k, p = .txo k → u.rd p TXO.LASER_STATUS.TUNE_STATE = 0 ∧ u.bit p TXO.TX_STATUS.LOCKED = false)
        ∧ (∀ k, p = .rxe k → u.rd p RXE.RX_STATUS.ACQ_STATE = 0 ∧ u.bit p RXE.RX_STATUS.LOCKED = false)
        ∧ (∀ k, p = .lfe k → (u.car k).txMap = LMap.base ∧ (u.car k).cap = 0)
        ∧ (∀ k, p = .fcr k → u.rd p FCR.FR_STATUS.ALIGN = 0)
        ∧ s.touch.Frame u ((p, 0x004) :: State.engineRegs p ++ (match p with | .lfe k => [(.csc k, 0x028)] | _ => [])) (State.engineParts p))

/-- R37, R42, R346, R501: SOFT_RESET of an engine that runs reinitialises its working state, in STARTING, and clears ECC_LOG; PAGE_CTRL
and, of FCR, the frame counter and the keys keep their values. A page whose work goes on whatever ENABLE says does the same without a
working state to reinitialise, but with ENABLE = 0 and on CSC it does nothing; on a mirror page ECC_LOG is all that it clears. -/
def Obligations.engineSoftReset : Prop :=
  ∀ (s : State) (p : Page), s.accepts p 0x004 = true →
    (p.sec = 2 → Answers (.pageSoftReset p) s fun u => u.word p 0x01C = 0 ∧ s.touch.Frame u [(p, 0x01C)] [])
    ∧ (State.isManagement p = true → p.type ≠ .csc → s.enabled p = true → Answers (.pageSoftReset p) s fun u =>
        u.word p 0x01C = 0 ∧ u.pst p = 1 ∧ s.touch.Frame u [(p, 0x004), (p, 0x008), (p, 0x01C)] [.start])
    ∧ (State.isManagement p = true → p.type = .csc ∨ s.enabled p = false → Answers (.pageSoftReset p) s fun u =>
        u.word p 0x01C = s.word p 0x01C ∧ s.touch.Frame u [(p, 0x004), (p, 0x008)] [])
    ∧ (p.sec ≠ 2 → State.isManagement p = false → s.enabled p = true → s.bit p HDR.PAGE_CTRL.HOLD = false →
        s.bit p HDR.PAGE_CTRL.DRAIN = false → s.pst p ≠ 0 → s.pst p ≠ 4 → Answers (.pageSoftReset p) s fun u =>
        u.word p 0x01C = 0 ∧ u.word p 0x004 = s.word p 0x004 &&& 0xB ∧ u.pst p = 1
        ∧ (∀ k, p = .txo k → u.rd p TXO.LASER_STATUS.TUNE_STATE = 1 ∧ u.bit p TXO.COEF_CTRL.PENDING = false)
        ∧ (∀ k, p = .rxe k → u.bit p RXE.RX_STATUS.LOCKED = false)
        ∧ (∀ k, p = .lfe k → (u.car k).txMap = LMap.base ∧ (u.car k).rxMap = LMap.base ∧ (u.car k).cap = 0)
        ∧ (∀ k, p = .fcr k → u.rd p FCR.FR_STATUS.ALIGN = 1 ∧ u.fcTx k = s.fcTx k ∧ (u.car k).slots = (s.car k).slots)
        ∧ (p = .stp → u.rd p STP.OPS_INFLIGHT.HWM = s.rd p STP.OPS_INFLIGHT.NOW)
        ∧ s.touch.Frame u ((p, 0x004) :: (p, 0x01C) :: State.engineRegs p ++ (match p with | .lfe k => [(.csc k, 0x028)] | _ => []))
            (.start :: State.engineParts p))

/-- R45, R47, R49, R53: the host's part in opening and closing a session. -/
def Obligations.hostSession : Prop :=
  ∀ (s : State) (role : BitVec 2) (v : Word),
    -- REQUEST: a fresh nonce (a free value: no clause rests on which), valid, the lockout word's counter loaded, no proof words
    (role ≠ 0 → s.bit .ses SES.SES_STATUS.PROOF_PENDING = false → s.accepts .ses 0x024 = true → Answers (.sessionRequest role) s fun u =>
      u.bit .ses SES.SES_STATUS.NONCE_VALID = true ∧ u.ses.proof = [] ∧ u.ses.reqRole = role.toNat
      ∧ u.word .ses 0x028 = u.ses.nonce.extractLsb' 0 32 ∧ u.word .ses 0x02C = u.ses.nonce.extractLsb' 32 32
      ∧ u.word .ses 0x030 = BitVec.ofNat 32 s.lockWord.host.counter.toNat ∧ u.fresh = s.fresh + 1 ∧ u.out = []
      ∧ s.touch.Frame u [(.ses, 0x020), (.ses, 0x028), (.ses, 0x02C), (.ses, 0x030)] [.ses, .fresh])
    -- with no role, or while a proof is pending, nothing
    ∧ (role = 0 ∨ s.bit .ses SES.SES_STATUS.PROOF_PENDING = true → s.accepts .ses 0x024 = true → Answers (.sessionRequest role) s fun u =>
      u.out = [] ∧ s.touch.Frame u [] [])
    -- the first eight words since the REQUEST form the proof
    ∧ (s.accepts .ses 0x034 = true → Answers (.proofPortWrite v) s fun u =>
      u.ses = (if s.ses.proof.length < 8 then { s.touch.ses with proof := s.ses.proof ++ [v] } else s.touch.ses) ∧ u.out = []
      ∧ s.touch.Frame u [] [.ses])
    -- SUBMIT: PROOF_CHECK goes to the field island, PROOF_PENDING sets and NONCE_VALID clears
    ∧ (s.bit .ses SES.SES_STATUS.PROOF_PENDING = false → s.hubEnd.up = true → s.bit .ses SES.SES_STATUS.LOCKED = false →
        s.bit .ses SES.SES_STATUS.NONCE_VALID = true → s.ses.proof.length = 8 → s.accepts .ses 0x024 = true →
        Answers .sessionSubmit s fun u =>
          u.bit .ses SES.SES_STATUS.PROOF_PENDING = true ∧ u.bit .ses SES.SES_STATUS.NONCE_VALID = false
          ∧ u.hubEnd = State.sendFrom s.hubEnd (.proofCheck s.ses.reqRole s.ses.nonce (s.word .ses 0x030) s.ses.proof)
          ∧ u.out = [] ∧ s.touch.Frame u [(.ses, 0x020)] [.ses, .hubEnd])
    -- SUBMIT refused, in the order of R47: the nonce, its validity and the proof words stay
    ∧ (s.bit .ses SES.SES_STATUS.PROOF_PENDING = false → s.accepts .ses 0x024 = true →
        (s.hubEnd.up && !s.bit .ses SES.SES_STATUS.LOCKED && s.bit .ses SES.SES_STATUS.NONCE_VALID && decide (8 ≤ s.ses.proof.length)) = false →
        Answers .sessionSubmit s fun u =>
          u.word .ses 0x020 = SES.SES_STATUS.LAST_RESULT.put (s.word .ses 0x020)
            (if s.hubEnd.up = false then 5 else if s.bit .ses SES.SES_STATUS.LOCKED then 3
             else if s.bit .ses SES.SES_STATUS.NONCE_VALID = false then 4 else 7)
          ∧ u.out = [] ∧ s.touch.Frame u [(.ses, 0x020)] [])
    -- CLOSE: no role is open, the close is an event and a LOG entry of kind 2
    ∧ (s.role ≠ 0 → s.accepts .ses 0x024 = true → Answers .sessionClose s fun u =>
        u.role = 0 ∧ (u.word .ses 0x00C).getLsbD 1 = true ∧ u.out = []
        ∧ s.touch.Frame u [(.ses, 0x020), (.ses, 0x00C)] [.ctr, .logRing, .damage])
    -- a nonce is valid for a limited time
    ∧ Answers .nonceExpiry s fun u => u.bit .ses SES.SES_STATUS.NONCE_VALID = false ∧ u.out = [] ∧ s.Frame u [(.ses, 0x020)] []

/-- R46, R49, R58, R59: the session closed for inactivity, the lockout's countdown (two of three copies, R292), KETTLE_CTRL. -/
def Obligations.lockoutAndKettleClear : Prop :=
  ∀ (s : State) (v : Word),
    (s.role ≠ 0 → Answers .sessionInactivityTimeout s fun u =>
      u.role = 0 ∧ u.rd .ses SES.SES_STATUS.LAST_RESULT = 6 ∧ (u.word .ses 0x00C).getLsbD 1 = true ∧ u.out = []
      ∧ s.Frame u [(.ses, 0x020), (.ses, 0x00C)] [.ctr, .logRing, .damage])
    -- (nothing counts down while the field island is off or its image restarts: log 52)
    ∧ (s.fieldAwake = false → ∀ i, Answers (.lockoutExpiry i) s (fun u => u.out = [] ∧ s.Frame u [] [])
        ∧ Answers .lockoutSaveTick s fun u => u.out = [] ∧ s.Frame u [] [])
    ∧ (s.fieldAwake = true → Answers (.lockoutExpiry .host) s fun u =>
      u.lockWord = { s.lockWord with host := { s.lockWord.host with remain := 0 } } ∧ u.out = [] ∧ s.Frame u [] [.field])
    ∧ (s.fieldAwake = true → Answers (.lockoutExpiry .rail) s fun u =>
      u.lockWord = { s.lockWord with rail := { s.lockWord.rail with remain := 0 } } ∧ u.out = [] ∧ s.Frame u [] [.field])
    ∧ (s.fieldAwake = true → Answers .lockoutSaveTick s fun u =>
      u.lockWord.host.remain = (if 1 < s.lockWord.host.remain then s.lockWord.host.remain - 1 else s.lockWord.host.remain)
      ∧ u.lockWord.rail.remain = (if 1 < s.lockWord.rail.remain then s.lockWord.rail.remain - 1 else s.lockWord.rail.remain)
      ∧ u.out = [] ∧ s.Frame u [] [.field])
    -- KETTLE_CTRL: CONFIRM must be 0x4B43, else the write is ignored and counted; CLEAR sends KETTLE_CLEAR, with COUNTER as written
    ∧ (s.accepts .dev 0x03C = true → DEV.KETTLE_CTRL.CONFIRM.get v = 0x4B43 → DEV.KETTLE_CTRL.CLEAR.get v = 1 →
        Answers (.kettleCtrlClear v) s fun u =>
          u.hubEnd = State.sendFrom s.hubEnd (.kettleClear (DEV.KETTLE_CTRL.COUNTER.get v == 1)) ∧ u.out = [] ∧ s.touch.Frame u [] [.hubEnd])
    ∧ (s.accepts .dev 0x03C = true → DEV.KETTLE_CTRL.CONFIRM.get v = 0x4B43 → DEV.KETTLE_CTRL.CLEAR.get v = 0 →
        Answers (.kettleCtrlClear v) s fun u => u.out = [] ∧ s.touch.Frame u [] [])
    ∧ (s.accepts .dev 0x03C = true → DEV.KETTLE_CTRL.CONFIRM.get v ≠ 0x4B43 → Answers (.kettleCtrlClear v) s fun u =>
        u.word .dev 0x054 = DEV.ACCESS_ERR.MALFORMED.put (s.word .dev 0x054) (min (s.rd .dev DEV.ACCESS_ERR.MALFORMED + 1) 0xFFFF)
        ∧ u.out = [] ∧ s.touch.Frame u [(.dev, 0x054)] [])

/-- R65, R67: the log ring as the host reads it. -/
def Obligations.logReadout : Prop :=
  (∀ s : State, s.accepts .log 0x020 = true → s.rd .log LOG.LOG_CTRL.UNREAD = 0 →
    Answers .logCapture s (fun u => u.out = [] ∧ s.touch.Frame u [] []) ∧ Answers .logAdvance s fun u => u.out = [] ∧ s.touch.Frame u [] [])
  ∧ ∀ s : State, s.accepts .log 0x020 = true → s.rd .log LOG.LOG_CTRL.UNREAD ≠ 0 →
    let tail := s.rd .log LOG.LOG_CTRL.TAIL
    let unread := s.rd .log LOG.LOG_CTRL.UNREAD
    -- CAPTURE: the entry at TAIL, a sound one, stands in LOG_ENTRY0-3
    (s.damage.get (fun _ => 0) (State.damageKey .log 0 tail) = 0 → Answers .logCapture s fun u =>
      let e := s.logRing.get (fun _ => 0) tail
      u.word .log 0x028 = e.extractLsb' 0 32 ∧ u.word .log 0x02C = e.extractLsb' 32 32 ∧ u.word .log 0x030 = e.extractLsb' 64 32
      ∧ u.word .log 0x034 = e.extractLsb' 96 32 ∧ u.out = []
      ∧ s.touch.Frame u [(.log, 0x028), (.log, 0x02C), (.log, 0x030), (.log, 0x034)] [])
    -- an uncorrectable entry reads with kind 15, the rest 0
    ∧ (s.damage.get (fun _ => 0) (State.damageKey .log 0 tail) = 2 → Answers .logCapture s fun u =>
      u.word .log 0x028 = 0 ∧ u.word .log 0x02C = 0 ∧ u.word .log 0x030 = 0xF0000000 ∧ u.word .log 0x034 = 0
      ∧ u.rd .log HDR.ECC_LOG.UE_COUNT = min (s.rd .log HDR.ECC_LOG.UE_COUNT + 1) 255)
    -- ADVANCE
    ∧ (Answers .logAdvance s fun u => u.rd .log LOG.LOG_CTRL.TAIL = (tail + 1) % 4096 ∧ u.rd .log LOG.LOG_CTRL.UNREAD = unread - 1
      ∧ u.out = [] ∧ s.touch.Frame u [(.log, 0x020)] [])
    -- CLEAR
    ∧ Answers .logClear s fun u => u.rd .log LOG.LOG_CTRL.TAIL = (tail + unread) % 4096 ∧ u.rd .log LOG.LOG_CTRL.UNREAD = 0
      ∧ u.out = [] ∧ s.touch.Frame u [(.log, 0x020)] []

/-- R83, R87, R93, R96, R496: the tuning of a carrier's laser. R93, R428: a laser fault. A lock that takes too long, one that is
lost and a deviation beyond 1.5 GHz all raise LASER_FAULT: TUNE_STATE 6, TXO reads FAULT; a deviation raises FREQ_DEV too. A laser
that is not locked, or not locking, is not affected. -/
def Obligations.laserTuning : Prop :=
  (∀ (s : State) (k : Fin 16) (v : Word) (e : Int),
      let p := Page.txo k
      let n := TXO.LASER_FREQ.GRID_N.getI v
      let t := s.rd p TXO.LASER_STATUS.TUNE_STATE
      -- a frequency outside the part's range is refused
      (s.accepts p 0x028 = true → n < s.gridLow ∨ s.gridLow + 750 < n → Answers (.laserFreqWrite k v) s fun u =>
        u.word p 0x02C = TXO.LASER_STATUS.FREQ_REJECT.put (s.word p 0x02C) 1 ∧ u.out = [] ∧ s.touch.Frame u [(p, 0x02C)] [])
      -- one in range is taken; a laser that was locked, or locking, retunes
      ∧ (s.accepts p 0x028 = true → s.gridLow ≤ n → n ≤ s.gridLow + 750 → t ≠ 3 → t ≠ 4 → Answers (.laserFreqWrite k v) s fun u =>
        u.rdI p TXO.LASER_FREQ.GRID_N = n ∧ u.word p 0x02C = TXO.LASER_STATUS.FREQ_REJECT.put (s.word p 0x02C) 0 ∧ u.out = []
        ∧ s.touch.Frame u [(p, 0x028), (p, 0x02C)] [])
      ∧ (s.accepts p 0x028 = true → s.gridLow ≤ n → n ≤ s.gridLow + 750 → t = 3 ∨ t = 4 → Answers (.laserFreqWrite k v) s fun u =>
        u.rdI p TXO.LASER_FREQ.GRID_N = n ∧ u.rd p TXO.LASER_STATUS.TUNE_STATE = 5 ∧ u.bit p TXO.TX_STATUS.LOCKED = false
        ∧ s.touch.Frame u ((p, 0x028) :: State.engineRegs p) (State.engineParts p))
      -- the phases: warm-up, thermal settling, frequency search, lock within 1.5 GHz
      ∧ (s.enabled p = true → t = 1 ∨ t = 2 ∨ t = 5 → Answers (.tunePhaseDone k e) s fun u =>
        u.word p 0x02C = TXO.LASER_STATUS.TUNE_STATE.put (s.word p 0x02C) (if t = 1 then 2 else 3) ∧ u.out = [] ∧ s.Frame u [(p, 0x02C)] [])
      ∧ (s.enabled p = true → t = 3 → e.natAbs ≤ 150 → Answers (.tunePhaseDone k e) s fun u =>
        u.rd p TXO.LASER_STATUS.TUNE_STATE = 4 ∧ u.bit p TXO.TX_STATUS.LOCKED = true ∧ u.rdI p TXO.LASER_STATUS.FREQ_ERR = e
        ∧ (s.pst p = 1 → s.txCoasts k = false → u.pst p = s.runState p)
        ∧ s.Frame u ((.cad, 0x00C) :: State.engineRegs p) (.fresh :: State.engineParts p))
      ∧ (s.enabled p = true → t = 3 → 150 < e.natAbs → Answers (.tunePhaseDone k e) s fun u => u.out = [] ∧ s.Frame u [] []))
  ∧ (∀ (s : State) (k : Fin 16) (e : Int),
      let p := Page.txo k
      let t := s.rd p TXO.LASER_STATUS.TUNE_STATE
      let fault (u : State) : Prop := u.rd p TXO.LASER_STATUS.TUNE_STATE = 6 ∧ u.bit p TXO.TX_STATUS.LOCKED = false ∧ u.pst p = 4
        ∧ (u.word p 0x00C).getLsbD 1 = true ∧ s.Frame u ((.cad, 0x00C) :: State.engineRegs p) (State.engineParts p)
      (s.enabled p = true → t = 1 ∨ t = 2 ∨ t = 3 ∨ t = 5 → Answers (.laserLockTimeout k) s fault)
      ∧ (s.bit p TXO.TX_STATUS.LOCKED = true → Answers (.laserLockLoss k) s fault)
      ∧ (s.bit p TXO.TX_STATUS.LOCKED = true → 150 < e.natAbs → Answers (.freqDev k e) s fun u => fault u ∧ (u.word p 0x00C).getLsbD 8 = true)
      ∧ (t = 0 ∨ t = 4 ∨ t = 6 → Answers (.laserLockTimeout k) s fun u => u.out = [] ∧ s.Frame u [] [])
      ∧ (s.bit p TXO.TX_STATUS.LOCKED = false → Answers (.laserLockLoss k) s fun u => u.out = [] ∧ s.Frame u [] [])
      ∧ (s.bit p TXO.TX_STATUS.LOCKED = false ∨ e.natAbs ≤ 150 → Answers (.freqDev k e) s fun u => u.out = [] ∧ s.Frame u [] []))

/-- R78, R89: output power and spectral tilt. R91, R95, R122: the bias limit of a laser, the transmit test signal. -/
def Obligations.outputPower : Prop :=
  (∀ (s : State) (k : Fin 16) (v : Word) (hi : Bool) (m : Int),
      let p := Page.txo k
      let n := TXO.TX_POWER.SETPOINT.getI v
      -- -10.00 to +1.00 dBm
      (s.accepts p 0x030 = true → n < -1000 ∨ 100 < n → Answers (.txPowerWrite k v) s fun u =>
        u.word p 0x024 = TXO.TX_STATUS.CFG_REJECT.put (s.word p 0x024) 1 ∧ u.out = [] ∧ s.touch.Frame u [(p, 0x024)] [])
      ∧ (s.accepts p 0x030 = true → -1000 ≤ n → n ≤ 100 → Answers (.txPowerWrite k v) s fun u =>
        u.rdI p TXO.TX_POWER.SETPOINT = n ∧ u.bit p TXO.TX_STATUS.CFG_REJECT = false
        ∧ ((s.car k).shutter = true → n ≠ s.rdI p TXO.TX_POWER.SETPOINT → (u.car k).ramp = true ∧ u.bit p TXO.TX_STATUS.LIGHT = false)
        ∧ ((s.car k).shutter = false → u.cars = s.cars) ∧ u.out = [] ∧ s.touch.Frame u [(p, 0x024), (p, 0x030)] [.cars])
      -- the ramp ends: light at the setpoint
      ∧ ((s.car k).shutter = true → (s.car k).ramp = true → m ≤ 3000 → Answers (.powerRampDone k m) s fun u =>
        u.bit p TXO.TX_STATUS.LIGHT = true ∧ (u.car k).ramp = false ∧ u.rdI p TXO.TX_POWER_MON.MEASURED = max m (-4000) ∧ u.out = []
        ∧ s.Frame u [(p, 0x024), (p, 0x034)] [.cars])
      -- a deviation of more than 1.0 dB while light is expected
      ∧ (s.mayShine k = true → 100 < (m - s.rdI p TXO.TX_POWER.SETPOINT).natAbs → m ≤ 3000 → Answers (.powerDev k m) s fun u =>
        (u.word p 0x00C).getLsbD 2 = true ∧ u.rdI p TXO.TX_POWER_MON.MEASURED = max m (-4000) ∧ u.out = []
        ∧ s.Frame u [(p, 0x00C), (p, 0x034)] [.ctr, .logRing, .damage])
      -- tilt of four subcarriers, each -6.0 to +6.0 dB
      ∧ (s.accepts p (if hi then 0x03C else 0x038) = true → State.tiltOk v = false → Answers (.tiltWrite k hi v) s fun u =>
        u.word p 0x024 = TXO.TX_STATUS.CFG_REJECT.put (s.word p 0x024) 1 ∧ u.out = [] ∧ s.touch.Frame u [(p, 0x024)] [])
      ∧ (s.accepts p (if hi then 0x03C else 0x038) = true → State.tiltOk v = true → Answers (.tiltWrite k hi v) s fun u =>
        u.word p (if hi then 0x03C else 0x038) = v ∧ u.bit p TXO.TX_STATUS.CFG_REJECT = false
        ∧ (s.pst p ≠ 0 → u.cars = s.cars) ∧ u.out = [] ∧ s.touch.Frame u [(p, 0x024), (p, if hi then 0x03C else 0x038)] [.cars]))
  ∧ (∀ (s : State) (k : Fin 16) (v : Word) (bias pct : Nat),
      let p := Page.txo k
      let m := TXO.TX_TEST.MODE.get v
      (s.rd p TXO.LASER_STATUS.TUNE_STATE ≠ 0 → 130 ≤ pct → bias < 65536 → pct < 256 → Answers (.biasLimit k bias pct) s fun u =>
        u.rd p TXO.LASER_BIAS.BIAS = bias % 2 ^ TXO.LASER_BIAS.BIAS.w ∧ u.rd p TXO.LASER_BIAS.BIAS_PCT = pct ∧ u.bit p TXO.LASER_BIAS.LIMIT = true
        ∧ (s.bit p TXO.LASER_BIAS.LIMIT = false → (u.word p 0x00C).getLsbD 4 = true) ∧ u.out = []
        ∧ s.Frame u [(p, 0x050), (p, 0x00C), (.cad, 0x00C)] [.ctr, .logRing, .damage, .cad])
      ∧ (s.rd p TXO.LASER_STATUS.TUNE_STATE = 0 ∨ pct < 130 → Answers (.biasLimit k bias pct) s fun u => u.out = [] ∧ s.Frame u [] [])
      -- a test signal needs a drained engine; mode 0 ends it
      ∧ (s.accepts p 0x054 = true → m < 4 → m = 0 ∨ s.pst p = 6 → Answers (.txTestWrite k v) s fun u =>
        u.rd p TXO.TX_TEST.MODE = m ∧ u.rd p TXO.TX_TEST.SC = TXO.TX_TEST.SC.get v ∧ u.out = [] ∧ s.touch.Frame u [(p, 0x054)] [])
      ∧ (s.accepts p 0x054 = true → 4 ≤ m ∨ (m ≠ 0 ∧ s.pst p ≠ 6) → Answers (.txTestWrite k v) s fun u => u.out = [] ∧ s.touch.Frame u [] []))

/-- R85, R90, R91, R435: the output enable and the spare laser of a group. -/
def Obligations.spareLaser : Prop :=
  ∀ (s : State) (k : Fin 16) (on : Bool),
    let p := Page.txo k
    let own : List (Page × Nat) := [(p, 0x020), (p, 0x024), (.cad, 0x040)]
    (s.accepts p 0x020 = true → s.pst p ≠ 0 → Answers (.outputEnableWrite k on) s fun u =>
      u.word p 0x020 = TXO.TX_CTRL.OUTPUT_EN.put (s.word p 0x020) on.toNat ∧ u.out = [] ∧ s.touch.Frame u [(p, 0x020)] [])
    -- a request for a free spare: LASER_SEL sets and the spare warms, held by the carrier
    ∧ (s.accepts p 0x020 = true → s.pst p ≠ 0 → s.bit p TXO.TX_CTRL.LASER_SEL = false → s.bit p TXO.TX_STATUS.SPARE_IN_USE = false →
        s.bit p TXO.TX_STATUS.SPARE_PENDING = false → s.spareBusy k = false → Answers (.spareLaserRequest k) s fun u =>
        u.bit p TXO.TX_CTRL.LASER_SEL = true ∧ u.bit p TXO.TX_STATUS.SPARE_PENDING = true ∧ (u.car k).warming = true
        ∧ (u.rd .cad CAD.LASER_STATUS.SPARE_FREE).testBit (k.val / 4) = false ∧ u.out = [] ∧ s.touch.Frame u own [.cars, .cad])
    -- a request for a spare that another carrier of the group holds or waits for is refused
    ∧ (s.accepts p 0x020 = true → s.bit p TXO.TX_CTRL.LASER_SEL = false → s.bit p TXO.TX_STATUS.SPARE_IN_USE = false →
        s.bit p TXO.TX_STATUS.SPARE_PENDING = false → s.spareBusy k = true → Answers (.spareLaserRequest k) s fun u =>
        u.out = [] ∧ s.touch.Frame u [] [])
    -- a release while the spare carries: the own laser warms, the spare stays held until the switch
    ∧ (s.accepts p 0x020 = true → s.pst p ≠ 0 → s.bit p TXO.TX_CTRL.LASER_SEL = true → s.bit p TXO.TX_STATUS.SPARE_IN_USE = true →
        s.bit p TXO.TX_STATUS.SPARE_PENDING = false → Answers (.spareLaserRelease k) s fun u =>
        u.bit p TXO.TX_CTRL.LASER_SEL = false ∧ u.bit p TXO.TX_STATUS.SPARE_PENDING = true ∧ u.word .cad 0x040 = s.word .cad 0x040
        ∧ u.out = [] ∧ s.touch.Frame u own [.cars, .cad])
    -- the optical switch
    ∧ (s.bit p TXO.TX_STATUS.SPARE_PENDING = true → Answers (.spareSwitch k) s fun u =>
        u.bit p TXO.TX_STATUS.SPARE_PENDING = false ∧ u.bit p TXO.TX_STATUS.SPARE_IN_USE = s.bit p TXO.TX_CTRL.LASER_SEL
        ∧ (u.car k).warming = false ∧ (u.car k).ownOn = !s.bit p TXO.TX_CTRL.LASER_SEL ∧ Output.opticalSwitch k ∈ u.out
        ∧ (u.word p 0x00C).getLsbD 6 = true
        ∧ s.Frame u ([(.cad, 0x00C), (.cad, 0x018), (.cad, CAD.CAD_LAST.POOL.off)] ++ State.engineRegs p) (.fresh :: State.engineParts p))
    ∧ (s.bit p TXO.TX_STATUS.SPARE_PENDING = false → Answers (.spareSwitch k) s fun u => u.out = [] ∧ s.Frame u [] [])

/-- R77, R79-R82: the coefficient store. -/
def Obligations.coefficientStore : Prop :=
  ∀ (s : State) (k : Fin 16) (v : Word),
    let p := Page.txo k
    let t := s.rd p TXO.COEF_ADDR.TABLE
    let i := s.rd p TXO.COEF_ADDR.INDEX
    let pending := s.bit p TXO.COEF_CTRL.PENDING
    let taps := 8 ≤ TXO.COEF_CTRL.PF_TAPS.get v ∧ TXO.COEF_CTRL.PF_TAPS.get v ≤ 64 ∧ TXO.COEF_CTRL.PE_TAPS.get v ≠ 0
    -- COEF_DATA: to the shadow bank; INDEX advances with AUTO_INC
    (s.accepts p 0x044 = true → pending = false → State.coefHas t i = true → Answers (.coefDataWrite k v) s fun u =>
      u.coefWord k (!s.coefActive k) t i = BitVec.ofNat 16 (if t = 1 then v.toNat % 256 else v.toNat)
      ∧ (∀ t' i', u.coefWord k (s.coefActive k) t' i' = s.coefWord k (s.coefActive k) t' i')
      ∧ u.rd p TXO.COEF_ADDR.INDEX = (if s.bit p TXO.COEF_ADDR.AUTO_INC then (i + 1) % 2 ^ TXO.COEF_ADDR.INDEX.w else i)
      ∧ u.out = [] ∧ s.touch.Frame u [(p, 0x018), (p, 0x040)] [.cars, .damage])
    -- while a COMMIT is pending it is refused, as are COMMIT, COPY and FACTORY
    ∧ (s.accepts p 0x044 = true → pending = true → Answers (.coefDataWrite k v) s fun u =>
      u.word p 0x048 = TXO.COEF_CTRL.REJECT.put (s.word p 0x048) 1 ∧ u.out = [] ∧ s.touch.Frame u [(p, 0x048)] [])
    ∧ (s.accepts p 0x048 = true → pending = true → Answers (.coefCommit k v) s fun u =>
      u.word p 0x048 = TXO.COEF_CTRL.REJECT.put (s.word p 0x048) 1 ∧ u.out = [] ∧ s.touch.Frame u [(p, 0x048)] [])
    -- COMMIT of an engine that runs waits for a frame boundary, with tap counts in range
    ∧ (s.accepts p 0x048 = true → pending = false → taps → s.pst p ≠ 0 → TXO.COEF_CTRL.COPY.get v = 0 → TXO.COEF_CTRL.FACTORY.get v = 0 →
        Answers (.coefCommit k v) s fun u =>
        u.bit p TXO.COEF_CTRL.PENDING = true ∧ u.bit p TXO.COEF_CTRL.REJECT = false
        ∧ u.rd p TXO.COEF_CTRL.PF_TAPS = TXO.COEF_CTRL.PF_TAPS.get v ∧ u.rd p TXO.COEF_CTRL.PE_TAPS = TXO.COEF_CTRL.PE_TAPS.get v
        ∧ u.out = [] ∧ s.touch.Frame u [(p, 0x048)] [])
    -- of one that is OFF it takes effect at once: the banks change places
    ∧ (s.accepts p 0x048 = true → pending = false → taps → s.pst p = 0 → TXO.COEF_CTRL.COPY.get v = 0 → TXO.COEF_CTRL.FACTORY.get v = 0 →
        Answers (.coefCommit k v) s fun u =>
        u.coefActive k = !s.coefActive k ∧ u.bit p TXO.COEF_CTRL.PENDING = false ∧ (u.word p 0x00C).getLsbD 5 = true
        ∧ (u.car k).pfTaps = TXO.COEF_CTRL.PF_TAPS.get v ∧ (u.car k).peTaps = TXO.COEF_CTRL.PE_TAPS.get v
        ∧ s.touch.Frame u [(p, 0x048), (p, 0x00C)] [.cars, .ctr, .logRing, .damage])
    -- FACTORY: the shadow bank holds the power-on content; COPY: what the active bank holds, where it is sound
    ∧ (s.accepts p 0x048 = true → pending = false → TXO.COEF_CTRL.COMMIT.get (s.word p 0x048) = 0 → TXO.COEF_CTRL.COPY.get (s.word p 0x048) = 0 →
        8 ≤ s.rd p TXO.COEF_CTRL.PF_TAPS → s.rd p TXO.COEF_CTRL.PF_TAPS ≤ 64 → s.rd p TXO.COEF_CTRL.PE_TAPS ≠ 0 →
        Answers (.coefFactory k) s fun u =>
        (∀ t' i', u.coefWord k (!s.coefActive k) t' i' = State.coefFactory k t' i')
        ∧ (∀ t' i', u.coefWord k (s.coefActive k) t' i' = s.coefWord k (s.coefActive k) t' i')
        ∧ s.touch.Frame u [(p, 0x018), (p, 0x048)] [.cars, .damage])
    ∧ (s.accepts p 0x048 = true → pending = false → TXO.COEF_CTRL.COMMIT.get (s.word p 0x048) = 0 → TXO.COEF_CTRL.FACTORY.get (s.word p 0x048) = 0 →
        8 ≤ s.rd p TXO.COEF_CTRL.PF_TAPS → s.rd p TXO.COEF_CTRL.PF_TAPS ≤ 64 → s.rd p TXO.COEF_CTRL.PE_TAPS ≠ 0 →
        s.coefDamaged k (s.coefActive k) = [] → Answers (.coefCopy k) s fun u =>
        (∀ t' i', u.coefWord k (!s.coefActive k) t' i' = s.coefWord k (s.coefActive k) t' i')
        ∧ (∀ t' i', u.coefWord k (s.coefActive k) t' i' = s.coefWord k (s.coefActive k) t' i')
        ∧ s.touch.Frame u [(p, 0x018), (p, 0x048)] [.cars, .damage])

/-- R100, R114, R115: the signal indication of a receiver. It clears below LOS_LEVEL and sets above LOS_LEVEL + 1.0 dB; in steps 2-7
of an acquisition a loss returns to step 1 and counts no failure, in LOCKED it begins a holdover; a return goes on to step 2. R101,
R113, R114, R115: the steps of an acquisition. Each goes on to the next on its condition; step 3 finds the dispersion, under CD_MODE
or, at a fast restart, around the last estimate; with no pilot correlation, or no lock within 1 s, the attempt fails: ACQ_FAILS
counts, saturating, and the next attempt starts at step 2; the first failure since ENABLE or a loss of lock is reported. -/
def Obligations.acquisition : Prop :=
  (∀ (s : State) (k : Fin 16) (m : Int),
      let p := Page.rxe k
      let n := s.rd p RXE.RX_STATUS.ACQ_STATE
      (s.enabled p = true → s.bit p RXE.RX_STATUS.SIGNAL = true → m < (s.car k).losNow → m ≤ 3000 → Answers (.signalLoss k m) s fun u =>
        u.bit p RXE.RX_STATUS.SIGNAL = false ∧ u.rdI p RXE.RX_POWER.MEASURED = max m (-4000) ∧ (u.word p 0x00C).getLsbD 0 = true
        ∧ u.rd p RXE.RX_STATUS.ACQ_STATE = (if 2 ≤ n ∧ n ≤ 7 then 1 else if n = 8 then 9 else n)
        ∧ u.bit p RXE.RX_STATUS.LOCKED = (s.bit p RXE.RX_STATUS.LOCKED && decide (n ≠ 8))
        ∧ u.rd p RXE.RX_STATUS.ACQ_FAILS = s.rd p RXE.RX_STATUS.ACQ_FAILS ∧ u.out = []
        ∧ s.Frame u [(p, 0x00C), (p, 0x024), (p, 0x028)] State.eventParts)
      ∧ (s.enabled p = true → s.bit p RXE.RX_STATUS.SIGNAL = false → (s.car k).losNow + 100 < m → m ≤ 3000 →
        Answers (.signalReturn k m) s fun u =>
        u.bit p RXE.RX_STATUS.SIGNAL = true ∧ u.rdI p RXE.RX_POWER.MEASURED = max m (-4000) ∧ (u.word p 0x00C).getLsbD 1 = true
        ∧ u.rd p RXE.RX_STATUS.ACQ_STATE = (if n = 1 then 2 else n) ∧ u.out = []
        ∧ s.Frame u [(p, 0x00C), (p, 0x024), (p, 0x028)] State.eventParts)
      ∧ (s.bit p RXE.RX_STATUS.SIGNAL = false ∨ (s.car k).losNow ≤ m → Answers (.signalLoss k m) s fun u => u.out = [] ∧ s.Frame u [] [])
      ∧ (s.bit p RXE.RX_STATUS.SIGNAL = true ∨ m ≤ (s.car k).losNow + 100 →
        Answers (.signalReturn k m) s fun u => u.out = [] ∧ s.Frame u [] []))
  ∧ (∀ (s : State) (k : Fin 16) (cd freq clock : Int),
      let p := Page.rxe k
      let n := s.rd p RXE.RX_STATUS.ACQ_STATE
      let goes (found : Bool) (P : State → Prop) : Prop := Answers (.acqStepDone k found cd freq clock) s P
      let failed (u : State) : Prop := u.rd p RXE.RX_STATUS.ACQ_STATE = 2
        ∧ u.rd p RXE.RX_STATUS.ACQ_FAILS = min (s.rd p RXE.RX_STATUS.ACQ_FAILS + 1) 255
        ∧ ((s.car k).failRaised = false → (u.word p 0x00C).getLsbD 3 = true)
        ∧ ((s.car k).failRaised = true → u.word p 0x00C = s.word p 0x00C)
        ∧ u.car k = { s.car k with failRaised := true, fast := false } ∧ u.out = []
        ∧ s.Frame u [(p, 0x00C), (p, 0x024)] (.cars :: State.eventParts)
      (n = 1 → s.bit p RXE.RX_STATUS.SIGNAL = true → goes true fun u =>
        u.rd p RXE.RX_STATUS.ACQ_STATE = 2 ∧ u.out = [] ∧ s.Frame u [(p, 0x024)] [])
      ∧ (n = 1 → s.bit p RXE.RX_STATUS.SIGNAL = false → goes true fun u => u.out = [] ∧ s.Frame u [] [])
      -- the search takes its settings as it begins
      ∧ (n = 2 → goes true fun u => u.rd p RXE.RX_STATUS.ACQ_STATE = 3
        ∧ u.car k = { s.car k with cdMode := s.rd p RXE.RX_CTRL.CD_MODE, cdHint := s.rdI p RXE.CD_CFG.CD_HINT, cdWin := s.rd p RXE.CD_CFG.WINDOW }
        ∧ u.out = [] ∧ s.Frame u [(p, 0x024)] [.cars])
      ∧ (n = 3 → s.cdFound k cd ≠ none → goes true fun u =>
        u.rd p RXE.RX_STATUS.ACQ_STATE = 4 ∧ some (u.rdI p RXE.CD_EST.EST) = s.cdFound k cd ∧ u.bit p RXE.CD_EST.VALID = false
        ∧ u.bit p RXE.RX_STATUS.CD_AT_LIMIT = decide (s.cdFound k cd = some 50000 ∨ s.cdFound k cd = some (-50000)) ∧ u.out = []
        ∧ s.Frame u [(p, 0x00C), (p, 0x018), (p, 0x01C), (p, 0x024), (p, 0x030)] (.cad :: State.eventParts))
      ∧ (n = 4 → freq.natAbs ≤ 3500 → goes true fun u =>
        u.rd p RXE.RX_STATUS.ACQ_STATE = 5 ∧ u.rdI p RXE.CARRIER_OFS.FREQ_OFS = freq ∧ u.out = [] ∧ s.Frame u [(p, 0x024), (p, 0x034)] [])
      ∧ (n = 4 → 3500 < freq.natAbs → goes true fun u => u.out = [] ∧ s.Frame u [] [])
      ∧ (n = 5 → clock.natAbs ≤ 20000 → goes true fun u =>
        u.rd p RXE.RX_STATUS.ACQ_STATE = 6 ∧ u.rdI p RXE.CARRIER_OFS.CLOCK_OFS = clock
        ∧ u.car k = { s.car k with eqs := List.replicate 8 eqStart } ∧ u.out = [] ∧ s.Frame u [(p, 0x024), (p, 0x034)] [.cars])
      ∧ (n = 5 → 20000 < clock.natAbs → goes true fun u => u.out = [] ∧ s.Frame u [] [])
      ∧ (n = 6 → goes true fun u => u.rd p RXE.RX_STATUS.ACQ_STATE = 7 ∧ u.out = []
        ∧ s.Frame u [(p, 0x00C), (p, 0x018), (p, 0x01C), (p, 0x024)] (.cad :: State.eventParts))
      ∧ (n = 7 → goes true fun u =>
        u.rd p RXE.RX_STATUS.ACQ_STATE = 8 ∧ u.bit p RXE.RX_STATUS.LOCKED = true ∧ u.rd p RXE.RX_STATUS.ACQ_FAILS = 0
        ∧ (u.word p 0x00C).getLsbD 2 = true ∧ u.bit p RXE.CD_EST.VALID = true ∧ u.out = []
        ∧ s.Frame u [(p, 0x00C), (p, 0x024), (p, 0x030), (p, 0x044)] (.cars :: State.eventParts))
      ∧ (3 ≤ n → n ≤ 7 → goes false failed)
      ∧ (n = 3 → s.cdFound k cd = none → goes true failed)
      ∧ (2 ≤ n → n ≤ 7 → Answers (.acqTimeout k) s failed)
      ∧ (n < 2 ∨ 7 < n → Answers (.acqTimeout k) s fun u => u.out = [] ∧ s.Frame u [] [])
      -- what step 3 finds
      ∧ s.cdFound k cd = (
          let near (c w : Int) : Option Int := if c - w ≤ cd ∧ cd ≤ c + w ∧ -50000 ≤ cd ∧ cd ≤ 50000 then some cd else none
          let hint := (s.car k).cdHint
          if (s.car k).fast then near (s.rdI p RXE.CD_EST.EST) 500
          else if (s.car k).cdMode = 0 then near 0 50000
          else if (s.car k).cdMode = 1 then near hint (500 * ((s.car k).cdWin + 1))
          else if hint - 1000 ≤ cd ∧ cd ≤ hint + 1000 then some hint else none))

/-- R109, R115: holdover, loss of lock and phase slips. At the end of a holdover the frequency offset is estimated anew (a free value: no
clause says which). A block whose tracked phase comes a quadrant or more off the closing pilot is a slip: it counts, and its soft
values are zero; the phase is anchored on the pilot. -/
def Obligations.holdoverAndSlips : Prop :=
  ∀ (s : State) (k : Fin 16) (c : HoldoverCause) (sc : Fin 8) (b : PhaseBlock),
    let p := Page.rxe k
    let n := s.rd p RXE.RX_STATUS.ACQ_STATE
    let on := (s.rxOnMask k).testBit sc.val
    -- the phase tracked over the block starts from the pilot that anchored it last, or else from its own opening pilot
    let offset : Int := (((s.car k).phase.getD sc.val none).getD b.opening + b.drift - b.closing + 512) % 1024 - 512
    -- soft values that are all zero; so are those of a matcher block that began before (one never waits whole)
    let zeros (u : State) : Prop := ∀ o ∈ u.out, ∃ signs amps, o = .soft k sc signs amps ∧ (∀ x ∈ signs, x = 0)
      ∧ (((s.car k).demap.getD sc.val []).length < blockLen → ∀ x ∈ amps, x = 0)
    let slips (u : State) : Nat := u.ctr.get (fun _ => 0) (ctrBase p + 8)
    (n = 8 → c = .signal → s.bit p RXE.RX_STATUS.SIGNAL = false → Answers (.holdoverEntry k c) s fun u =>
      u.rd p RXE.RX_STATUS.ACQ_STATE = 9 ∧ u.bit p RXE.RX_STATUS.LOCKED = false ∧ u.out = [] ∧ s.Frame u [(p, 0x024)] [.ctr])
    ∧ (n = 8 → c ≠ .signal → Answers (.holdoverEntry k c) s fun u =>
      u.rd p RXE.RX_STATUS.ACQ_STATE = 9 ∧ u.bit p RXE.RX_STATUS.LOCKED = false ∧ u.out = [] ∧ s.Frame u [(p, 0x024)] [.ctr])
    ∧ (n ≠ 8 → Answers (.holdoverEntry k c) s fun u => u.out = [] ∧ s.Frame u [] [])
    ∧ (n = 9 → Answers (.holdoverExit k) s fun u =>
      u.rd p RXE.RX_STATUS.ACQ_STATE = 8 ∧ u.bit p RXE.RX_STATUS.LOCKED = true
      ∧ u.rd p RXE.CARRIER_OFS.CLOCK_OFS = s.rd p RXE.CARRIER_OFS.CLOCK_OFS ∧ u.fresh = s.fresh + 1 ∧ u.out = []
      -- the phase too is estimated anew, from the next pilot of each subcarrier
      ∧ u.car k = { s.car k with phase := List.replicate 8 none }
      ∧ s.Frame u [(p, 0x024), (p, 0x034)] [.fresh, .cars])
    ∧ (n = 9 → Answers (.lockLost k) s fun u =>
      u.rd p RXE.RX_STATUS.ACQ_STATE = (if s.runs p then if s.bit (.txo k) TXO.TX_STATUS.LOCKED then
          if s.bit p RXE.RX_STATUS.SIGNAL then 2 else 1 else 10 else 0)
      ∧ (u.word p 0x00C).getLsbD 4 = true ∧ (u.car k).fast = s.bit p RXE.RX_CTRL.REACQ_FAST ∧ (u.car k).failRaised = false
      ∧ u.rd p RXE.RX_STATUS.SNR_VALID = 0 ∧ u.rd p RXE.EQ_CTRL.CONVERGED = 0
      ∧ s.Frame u ((p, 0x00C) :: State.engineRegs p) [.cars, .ctr, .logRing, .damage])
    ∧ (n ≠ 9 → Answers (.holdoverExit k) s (fun u => u.out = [] ∧ s.Frame u [] [])
        ∧ Answers (.lockLost k) s (fun u => u.out = [] ∧ s.Frame u [] []))
    ∧ (s.rxRuns k = true → on = true → s.bit p RXE.RX_STATUS.LOCKED = true → 256 ≤ offset.natAbs →
      Answers (.phaseBlockResolved k sc b) s fun u =>
      (u.word p 0x00C).getLsbD 5 = true ∧ slips u = min (slips s + 1) (2 ^ 40 - 1)
      ∧ (u.car k).phase = (s.car k).phase.set sc.val (some (b.closing % 1024)) ∧ zeros u
      ∧ s.Frame u [(p, 0x00C)] (.cars :: State.eventParts))
    ∧ (s.rxRuns k = true → on = true → s.bit p RXE.RX_STATUS.LOCKED = true → offset.natAbs < 256 →
      Answers (.phaseBlockResolved k sc b) s fun u =>
      (u.car k).phase = (s.car k).phase.set sc.val (some (b.closing % 1024)) ∧ s.Frame u [] [.cars])
    -- in HOLDOVER the soft values are zero
    ∧ (s.rxRuns k = true → on = true → s.bit p RXE.RX_STATUS.LOCKED = false → Answers (.phaseBlockResolved k sc b) s fun u =>
      (u.car k).phase = (s.car k).phase ∧ zeros u ∧ s.Frame u [] [.cars])
    ∧ (s.rxRuns k = false ∨ on = false → Answers (.phaseBlockResolved k sc b) s fun u => u.out = [] ∧ s.Frame u [] [])

/-- R98, R99, R104, R106, R119, R122: equalizers, the view buffer, background calibration, the settings and the test of a receiver.
-/
def Obligations.receiverSettings : Prop :=
  ∀ (s : State) (k : Fin 16) (r : RxReg) (v : Word) (bits : BitVec 8) (words : List (BitVec 16)) (n : Nat),
    let p := Page.rxe k
    let off : Nat := match r with | .rxCtrl => 0x020 | .cdCfg => 0x02C | .rxPower => 0x028
    let bad : Prop := match r with
      | .rxCtrl => RXE.RX_CTRL.CD_MODE.get v = 3 ∨ RXE.RX_CTRL.TRACK_SPEED.get v = 3 ∨ RXE.RX_CTRL.TIMING_BW.get v = 3
      | .cdCfg => RXE.CD_CFG.CD_HINT.getI v < -50000 ∨ 50000 < RXE.CD_CFG.CD_HINT.getI v
      | .rxPower => RXE.RX_POWER.LOS_LEVEL.getI v < -3000 ∨ -1000 < RXE.RX_POWER.LOS_LEVEL.getI v
    let mem : List (Page × Nat) := [(p, 0x00C), (p, 0x018), (p, 0x01C)]
    let m := RXE.RX_TEST.MODE.get v
    let acq := s.rd p RXE.RX_STATUS.ACQ_STATE
    -- RESTART returns equalizers to the centre tap; they track again when it is done
    (s.accepts p 0x044 = true → Answers (.eqRestart k bits) s fun u =>
      u.rd p RXE.EQ_CTRL.CONVERGED = (if bits = 0 then s.rd p RXE.EQ_CTRL.CONVERGED
        else s.rd p RXE.EQ_CTRL.CONVERGED &&& (0xFF ^^^ bits.toNat))
      ∧ u.rd p RXE.EQ_CTRL.FREEZE = s.rd p RXE.EQ_CTRL.FREEZE
      ∧ (∀ i, i < 8 → (u.car k).eqs.getD i [] = if bits.getLsbD i then eqStart else (s.car k).eqs.getD i []) ∧ u.out = []
      ∧ s.touch.Frame u ((p, 0x044) :: mem) (.cars :: .cad :: State.eventParts))
    ∧ (s.rxRuns k = true → Answers (.eqRestartDone k bits) s fun u =>
      u.rd p RXE.EQ_CTRL.CONVERGED = s.rd p RXE.EQ_CTRL.CONVERGED ||| (bits.toNat &&& s.rxOnMask k)
      ∧ u.car k = { s.car k with eqRestart := (s.car k).eqRestart &&& (0xFF ^^^ bits.toNat) } ∧ u.out = [] ∧ s.Frame u [(p, 0x044)] [.cars])
    -- CAPTURE; one in progress is left as it is
    ∧ (s.accepts p 0x048 = true → s.bit p RXE.EQ_VIEW_ADDR.CAPTURING = false → Answers (.eqViewCapture k) s fun u =>
      let sc := s.rd p RXE.EQ_VIEW_ADDR.SC
      u.bit p RXE.EQ_VIEW_ADDR.CAPTURING = true ∧ u.bit p RXE.EQ_VIEW_ADDR.CAPTURED = false
      -- the words of an equalizer that stands still are those it holds
      ∧ u.car k = { s.car k with view := if (s.eqLive k).testBit sc then [] else (s.car k).eqs.getD sc [] } ∧ u.out = []
      ∧ s.touch.Frame u [(p, 0x048)] [.cars])
    ∧ (s.accepts p 0x048 = true → s.bit p RXE.EQ_VIEW_ADDR.CAPTURING = true → Answers (.eqViewCapture k) s fun u =>
      u.bit p RXE.EQ_VIEW_ADDR.CAPTURING = true ∧ u.bit p RXE.EQ_VIEW_ADDR.CAPTURED = s.bit p RXE.EQ_VIEW_ADDR.CAPTURED
      ∧ u.out = [] ∧ s.touch.Frame u [(p, 0x048)] [])
    ∧ (s.bit p RXE.EQ_VIEW_ADDR.CAPTURING = true → Answers (.eqCaptureDone k words) s fun u =>
      u.bit p RXE.EQ_VIEW_ADDR.CAPTURING = false ∧ u.bit p RXE.EQ_VIEW_ADDR.CAPTURED = true
      ∧ u.car k = { s.car k with view := if (s.car k).view = [] then words.take 248 else (s.car k).view }
      ∧ u.out = [] ∧ s.Frame u [(p, 0x018), (p, 0x048)] [.cars, .damage])
    ∧ (s.bit p RXE.EQ_VIEW_ADDR.CAPTURING = false → Answers (.eqCaptureDone k words) s fun u => u.out = [] ∧ s.Frame u [] [])
    -- background calibration: it is made on live light and does not interrupt the signal; a slice at its end uses a reserve cell
    ∧ (s.enabled p = true → s.bit p RXE.ADC_CAL.BG_EN = true → s.pst p ≠ 5 → s.bit p RXE.RX_STATUS.SIGNAL = true → 2 ≤ acq → acq ≤ 9 →
      Answers (.adcBackgroundCal k n) s fun u =>
      u.word p 0x024 = s.word p 0x024 ∧ (u.car k).calAt = s.time.toNat
      ∧ (n = 0 → u.word p 0x008 = s.word p 0x008 ∧ u.cad.cells = s.cad.cells) ∧ u.cad.cells = s.cad.cells + n
      ∧ s.Frame u ([(p, 0x008), (.cad, 0x00C), (.cad, 0x018), (.cad, CAD.CAD_LAST.POOL.off)] ++ mem) [.cars, .cad, .fresh, .ctr, .logRing, .damage])
    ∧ (s.bit p RXE.ADC_CAL.BG_EN = false ∨ s.bit p RXE.RX_STATUS.SIGNAL = false ∨ acq < 2 ∨ 9 < acq → Answers (.adcBackgroundCal k n) s fun u => u.out = [] ∧ s.Frame u [] [])
    -- a setting with a field out of range is refused whole
    ∧ (s.accepts p off = true → bad → Answers (.rxCtrlWrite k r v) s fun u =>
      u.bit p RXE.RX_STATUS.CFG_REJECT = true ∧ u.out = [] ∧ s.touch.Frame u [(p, 0x024)] [])
    ∧ (s.accepts p off = true → ¬bad → (r = .rxCtrl → RXE.RX_CTRL.SPEC_INV.get v = s.rd p RXE.RX_CTRL.SPEC_INV) →
      Answers (.rxCtrlWrite k r v) s fun u =>
      u.bit p RXE.RX_STATUS.CFG_REJECT = false
      ∧ (match r with
          | .rxCtrl => u.rd p RXE.RX_CTRL.CD_MODE = RXE.RX_CTRL.CD_MODE.get v ∧ u.rd p RXE.RX_CTRL.CD_TRACK = RXE.RX_CTRL.CD_TRACK.get v
              ∧ u.rd p RXE.RX_CTRL.TRACK_SPEED = RXE.RX_CTRL.TRACK_SPEED.get v ∧ u.rd p RXE.RX_CTRL.TIMING_BW = RXE.RX_CTRL.TIMING_BW.get v
              ∧ u.rd p RXE.RX_CTRL.REACQ_FAST = RXE.RX_CTRL.REACQ_FAST.get v
          | .cdCfg => u.rd p RXE.CD_CFG.CD_HINT = RXE.CD_CFG.CD_HINT.get v ∧ u.rd p RXE.CD_CFG.WINDOW = RXE.CD_CFG.WINDOW.get v
          | .rxPower => u.rd p RXE.RX_POWER.LOS_LEVEL = RXE.RX_POWER.LOS_LEVEL.get v ∧ u.rd p RXE.RX_POWER.MEASURED = s.rd p RXE.RX_POWER.MEASURED
              ∧ (u.car k).losNow = (if s.rxRuns k then (s.car k).losNow else RXE.RX_POWER.LOS_LEVEL.getI v))
      ∧ u.out = [] ∧ s.touch.Frame u [(p, off), (p, 0x024)] [.cars])
    ∧ (s.accepts p 0x054 = true → m = 0 ∨ (m = 2 ∨ m = 3) ∧ s.pst p = 6 → Answers (.rxTestWrite k v) s fun u =>
      u.rd p RXE.RX_TEST.MODE = m ∧ u.rd p RXE.RX_TEST.SC = RXE.RX_TEST.SC.get v ∧ u.bit p RXE.RX_TEST.PRBS_LOCK = false ∧ u.out = []
      ∧ s.touch.Frame u [(p, 0x054)] [])
    ∧ (s.accepts p 0x054 = true → m = 1 ∨ 4 ≤ m ∨ m ≠ 0 ∧ s.pst p ≠ 6 → Answers (.rxTestWrite k v) s fun u => u.out = [] ∧ s.touch.Frame u [] [])

/-- R131-R134, R136, R139, R484: the load-map messages that reach a carrier's receiver. A message counts in a frame that stands in
its place, by its type, at the first copy of its SEQ (here with a sound message buffer). PROPOSE, SHED and RESYNC go to the
transmitter of the paired carrier m, ANNOUNCE and REJECT to the receiver itself. -/
def Obligations.loadMapMessages : Prop :=
  ∀ (s : State) (k : Fin 16) (msg : List Byte),
    let m := s.pair k
    let p := Page.lfe m
    let q := Page.lfe k
    let b := msgByte msg
    let ok : Prop := b 1 = 1 ∧ (msgCodes msg).all codeOk = true
    let first (t : Nat) : Prop := b 0 = t ∧ s.inFrame k = true ∧ s.bit q LFE.FEC_STATUS.CW_LOCK = true
      ∧ (s.car k).seen.getD (t - 0x10) none ≠ some (b 2) ∧ s.bit q HDR.FLIP_MASK.ARM = false
    let keep (u : State) : Prop := u.out = [] ∧ s.Frame u [] [.damage]
    let busy : Prop := (s.txState m ≠ 1 ∧ s.txState m ≠ 2) ∨ (s.car m).waitProp.isSome = true ∨ (s.car m).waitShed.isSome = true
      ∨ (s.car m).waitBase = true ∨ b 23 ≠ (s.car m).txMap.id
    let reason (r : Nat) : Prop :=
      (r = 1 ∧ ¬(ok ∧ b 5 ≤ 2)) ∨ (ok ∧ b 5 ≤ 2 ∧ ((r = 4 ∧ s.zr m = true) ∨ (s.zr m = false ∧ ((r = 6 ∧ s.pst p = 5) ∨ (s.pst p ≠ 5 ∧
        ((r = 2 ∧ s.lm m LFE.LM_CTRL.NEG_EN = 0) ∨ (s.lm m LFE.LM_CTRL.NEG_EN ≠ 0 ∧
          ((r = 5 ∧ (s.car m).waitManual ≠ none) ∨ ((s.car m).waitManual = none ∧ ((r = 3 ∧ busy) ∨ (r = 0 ∧ ¬busy)))))))))))
    -- PROPOSE: accepted, it waits for the next boundary; else REJECT with the first reason of 1, 4, 6, 2, 5, 3
    (first 0x10 → s.runs p = true → reason 0 → Answers (.proposeReceived k msg) s fun u =>
      (u.car m).waitProp = some ({ codes := msgCodes msg, dens := b 5, id := 0 }, b 4) ∧ (u.car m).imc = (s.car m).imc
      ∧ (u.car k).seen = (s.car k).seen.set 0 (some (b 2)) ∧ u.out = [] ∧ s.Frame u [] [.cars, .damage])
    ∧ (∀ r, r ≠ 0 → first 0x10 → s.runs p = true → reason r → Answers (.proposeReceived k msg) s fun u =>
      (u.car m).waitProp = (s.car m).waitProp ∧ (u.car m).imc = (s.car m).imc ++ [(pad64 [0x12, 1, (s.car m).nextSeq, 0, b 4, r], 8)]
      ∧ (u.car k).seen = (s.car k).seen.set 0 (some (b 2)) ∧ u.out = [] ∧ s.Frame u [] [.cars, .damage, .ctr])
    -- ANNOUNCE: the receiver holds it; in a multiframe in which a SHED was sent the first copy is lost (KL-01)
    ∧ (first 0x11 → s.runs q = true → s.zr k = false → ok → b 5 ≤ 2 → b 15 ≤ 3 → (s.car k).shedMf = false →
      Answers (.announceReceived k msg) s fun u =>
      (u.car k).rxAnn = some { map := { codes := msgCodes msg, dens := b 5, id := b 4 }, kind := b 15, answered := b 14
                               eff := natBE ((msg.drop 16).take 5) }
      ∧ (u.car k).proposed = ((s.car k).proposed && !(b 15 == 0 && b 14 == (s.car k).propId))
      ∧ u.rxState k = (if s.rxState k = 6 then 6 else 4) ∧ u.out = [] ∧ s.Frame u [(q, 0x024)] [.cars, .damage])
    ∧ (first 0x11 → s.runs q = true → s.zr k = false → (s.car k).shedMf = true ∨ ¬ok ∨ 2 < b 5 ∨ 3 < b 15 →
      Answers (.announceReceived k msg) s fun u =>
      (u.car k).rxAnn = (s.car k).rxAnn ∧ (u.car k).proposed = (s.car k).proposed ∧ u.out = [] ∧ s.Frame u [] [.cars, .damage])
    -- REJECT of the proposal under way
    ∧ (first 0x12 → s.runs q = true → s.zr k = false → b 1 = 1 → (s.car k).proposed = true → b 4 = (s.car k).propId →
      Answers (.rejectReceived k msg) s fun u =>
      (u.car k).proposed = false ∧ (u.word q 0x00C).getLsbD 4 = true
      ∧ u.rxState k = (if s.rxState k = 3 then if (s.car k).rxMap.id = 0 then 1 else 2 else s.rxState k) ∧ u.out = []
      ∧ s.Frame u [(q, 0x00C), (q, 0x024)] (.cars :: State.eventParts))
    -- SHED: it waits, merged with one that waits; a countdown not yet at 1 is cancelled
    ∧ (first 0x13 → s.runs p = true → ok → s.zr m = false → Answers (.shedReceived k msg) s fun u =>
      (u.car m).waitShed = some (match (s.car m).waitShed with
        | some w => List.zipWith lowerCode w.1 (msgCodes msg)
        | none => msgCodes msg, b 4)
      ∧ (u.word p 0x00C).getLsbD 3 = true ∧ u.txState m = (if s.txState m = 5 then 5 else 4)
      ∧ (1 < s.rd p LFE.LM_STATUS.COUNTDOWN → (s.car m).txAnn ≠ none → (u.car m).txAnn = none ∧ u.rd p LFE.LM_STATUS.COUNTDOWN = 0)
      ∧ (s.rd p LFE.LM_STATUS.COUNTDOWN ≤ 1 → (u.car m).txAnn = (s.car m).txAnn
          ∧ u.rd p LFE.LM_STATUS.COUNTDOWN = s.rd p LFE.LM_STATUS.COUNTDOWN)
      ∧ u.out = [] ∧ s.Frame u [(p, 0x00C), (p, 0x024)] (.cars :: State.eventParts))
    -- RESYNC: the base map is announced next
    ∧ (first 0x14 → s.runs p = true → b 1 = 1 → s.zr m = false → s.txState m ≠ 5 → Answers (.resyncReceived k msg) s fun u =>
      (u.car m).waitBase = true ∧ (u.car m).waitShed = none ∧ (u.car m).waitProp = none ∧ u.txState m = 5
      ∧ (1 < s.rd p LFE.LM_STATUS.COUNTDOWN → (s.car m).txAnn ≠ none → (u.car m).txAnn = none ∧ u.rd p LFE.LM_STATUS.COUNTDOWN = 0)
      ∧ u.out = [] ∧ s.Frame u [(p, 0x024)] [.cars, .damage])
    -- a later copy, a message outside a frame, one without codeword lock
    ∧ ((s.car k).seen.getD (b 0 - 0x10) none = some (b 2) ∧ s.bit q HDR.FLIP_MASK.ARM = false ∨ s.inFrame k = false
        ∨ s.bit q LFE.FEC_STATUS.CW_LOCK = false →
      Answers (.proposeReceived k msg) s keep ∧ Answers (.announceReceived k msg) s keep ∧ Answers (.rejectReceived k msg) s keep
      ∧ Answers (.shedReceived k msg) s keep ∧ Answers (.resyncReceived k msg) s keep)

/-- R129, R130, R138, R140, R142, R154: the proposer of load maps: its codes, its refresh, a proposal's 1 s, a shed, the hold after
it, and the wait for a PROPOSE. -/
def Obligations.loadMapProposer : Prop :=
  ∀ (s : State) (k : Fin 16) (switch60 probe60 : BitVec 8) (fast : List Nat),
    let q := Page.lfe k
    let m := s.pair k
    let c := s.car k
    let n := s.rxState k
    let margin := s.lm k LFE.LM_CTRL.MARGIN
    let cap := s.lm k LFE.LM_CTRL.CODE_CAP
    -- off for 60 s: since it was switched off, and since its last probe failed
    let off60 := switch60 &&& probe60
    -- a refresh works with LM_CTRL as the register holds it
    let t := s.setCar k { c with lmNow := s.word q 0x020 }
    let map : LMap := { codes := (List.range 8).map fun i => t.refreshCode k i (s.lowSnr k i) (off60.getLsbD i)
                        dens := s.rd q LFE.LM_CTRL.DENSITY, id := 0 }
    let runs : Prop := s.enabled q = true ∧ s.pst q ≠ 5 ∧ s.bit q LFE.LM_CTRL.NEG_EN = true ∧ s.zr k = false ∧ s.inFrame k = true
    let sends : Prop := map.same c.rxMap = false ∧ c.proposed = false ∧ s.rd (.fcr k) FCR.OH_VIEW.LM_CD = 0
    let fails (i : Nat) : Prop := c.rxMap.codes.getD i 0x3F ≤ 36 ∧ ((s.rd (.rxe k) RXE.RX_STATUS.SNR_VALID).testBit i = false
      ∨ fast.getD i 0 < reqSnr (c.rxMap.codes.getD i 0x3F) + s.penalty k)
    -- the highest code up to a cap that a SNR carries with a margin
    (∀ cap margin x y, bestCode cap margin x = some y ↔ y ≤ cap ∧ reqSnr y + margin ≤ x ∧ ∀ z, y < z → z ≤ cap → x < reqSnr z + margin)
    -- the codes of R129 and R130
    ∧ (∀ i x off, s.refreshCode k i x off =
        (let cur := c.rxMap.codes.getD i 0x3F
         let keep := x.bind (bestCode cap (margin + s.penalty k))
         let up := x.bind (bestCode cap (margin + s.penalty k + 4))
         if cur = 0x3F then if off = true ∧ s.lm k LFE.LM_CTRL.PROBE_EN ≠ 0 then 0x3E else 0x3F
         else if cur = 0x3E ∧ c.probeNew.testBit i = true then 0x3E
         else if keep = none then 0x3F
         else if cur = 0x3E then up.getD 0x3F
         else if s.lm k LFE.LM_CTRL.RAISE_EN ≠ 0 ∧ (∀ held ∈ c.shedHold, held.testBit i = false) ∧ up ≠ none ∧ cur < up.getD 0 then up.getD 0
         else min (keep.getD 0) cur))
    -- a refresh that finds another map proposes it on the paired transmitter
    ∧ (runs → sends → Answers (.lmRefresh k switch60 probe60) s fun u =>
      (u.car k).proposed = true ∧ (u.car k).lastProp = some map ∧ (u.car k).propId = (if c.propId = 255 then 1 else c.propId + 1)
      ∧ (u.car k).lmNow = s.word q 0x020 ∧ (u.car k).probeNew = 0 ∧ (u.car k).snrMin = List.replicate 8 none
      ∧ u.rxState k = (if n = 6 then 6 else 3)
      ∧ (u.car m).imc = (s.car m).imc ++ [(pad64 ([0x10, 1, (s.car m).nextSeq, 0, (u.car k).propId, map.dens] ++ map.codes
          ++ ((List.range 8).map fun i => State.snrByte (c.rxMap.codes.getD i 0x3F) (s.lowSnr k i))
          ++ [s.rd q LFE.LM_CTRL.MARGIN, c.rxMap.id]), 8)]
      ∧ u.out = [] ∧ s.Frame u [(q, 0x024)] [.cars, .ctr])
    -- any other begins a new interval with LM_CTRL applied
    ∧ (s.enabled q = true → ¬(runs ∧ sends) → Answers (.lmRefresh k switch60 probe60) s fun u =>
      u.car k = { c with lmNow := s.word q 0x020, probeNew := 0, snrMin := List.replicate 8 none } ∧ (u.car m).imc = (s.car m).imc
      ∧ u.out = [] ∧ s.Frame u [] [.cars])
    ∧ (s.enabled q = false → Answers (.lmRefresh k switch60 probe60) s fun u => u.out = [] ∧ s.Frame u [] [])
    -- 1 s without an answer
    ∧ (c.proposed = true → Answers (.proposalTimeout k) s fun u =>
      u.car k = { c with proposed := false } ∧ u.rxState k = (if n = 3 then if c.rxMap.id = 0 then 1 else 2 else n) ∧ u.out = []
      ∧ s.Frame u [(q, 0x024)] [.cars, .ctr])
    ∧ (c.proposed = false → Answers (.proposalTimeout k) s fun u => u.out = [] ∧ s.Frame u [] [])
    -- a loaded subcarrier below REQ of its code at the end of a window: SHED
    ∧ (s.enabled q = true → s.bit q LFE.LM_CTRL.SHED_EN = true → s.zr k = false → s.rxRuns k = true →
      (∃ i, i < 8 ∧ fails i) → Answers (.shedWindowEnd k fast) s fun u =>
      u.rxState k = (if n = 6 then 6 else 5) ∧ (u.word q 0x00C).getLsbD 2 = true ∧ (u.car k).shedId = (if c.shedId = 255 then 1 else c.shedId + 1)
      ∧ (u.car k).shedCodes = (List.range 8).map (fun i => s.shedCode k i (fast.getD i 0))
      -- it leaves in the next frame, ahead of what waits
      ∧ (u.car m).imc = (pad64 ([0x13, 1, (s.car m).nextSeq, 0, (u.car k).shedId, 0] ++ (u.car k).shedCodes
          ++ ((List.range 8).map fun i => State.snrByte (c.rxMap.codes.getD i 0x3F) (some (min (fast.getD i 0) 255))) ++ [margin, c.rxMap.id]), 8)
          :: (s.car m).imc
      -- the subcarriers that it lowers are held
      ∧ (∃ held, (u.car k).shedHold = c.shedHold ++ [held] ∧ ∀ i, i < 8 →
          (held.testBit i = true ↔ codeRank (s.shedCode k i (fast.getD i 0)) < codeRank (c.rxMap.codes.getD i 0x3F)))
      ∧ u.out = [] ∧ s.Frame u [(q, 0x00C), (q, 0x024)] (.cars :: State.eventParts))
    ∧ (∀ i, 36 < c.rxMap.codes.getD i 0x3F → s.shedCode k i (fast.getD i 0) = c.rxMap.codes.getD i 0x3F)
    ∧ (∀ i, c.rxMap.codes.getD i 0x3F ≤ 36 →
        codeRank (s.shedCode k i (fast.getD i 0)) ≤ codeRank (c.rxMap.codes.getD i 0x3F)
        ∧ ((s.rd (.rxe k) RXE.RX_STATUS.SNR_VALID).testBit i = false → s.shedCode k i (fast.getD i 0) = 0x3F))
    ∧ (s.enabled q = false ∨ s.bit q LFE.LM_CTRL.SHED_EN = false ∨ s.zr k = true ∨ s.rxRuns k = false ∨ (∀ i, i < 8 → ¬fails i) →
      Answers (.shedWindowEnd k fast) s fun u => u.out = [] ∧ s.Frame u [] [])
    -- the hold of the oldest shed ends
    ∧ Answers (.shedHoldExpiry k) s (fun u => u.car k = { c with shedHold := c.shedHold.drop 1 } ∧ u.out = [] ∧ s.Frame u [] [.cars])
    ∧ (s.txState k = 1 → s.inFrame k = true → Answers (.negTimeout k) s fun u =>
      (u.word q 0x00C).getLsbD 6 = true ∧ u.out = [] ∧ s.Frame u [(q, 0x00C)] State.eventParts)
    ∧ (s.txState k ≠ 1 ∨ s.inFrame k = false → Answers (.negTimeout k) s fun u => u.out = [] ∧ s.Frame u [] [])

/-- R137, R146, R152, R159: a manual announcement and the FEC settings with the 800ZR mode. -/
def Obligations.loadMapSettings : Prop :=
  ∀ (s : State) (k : Fin 16) (v : Word),
    let q := Page.lfe k
    let c := s.car k
    let code := LFE.LM_STAGE.CODE.get v
    let dens := LFE.LM_STAGE.DENSITY.get v
    let staged : LMap := { codes := c.staged.codes.set (LFE.LM_STAGE.SEL.get v) code, dens := dens, id := 0 }
    let i := LFE.FEC_CTRL.ITER_CEIL.get v
    let z := LFE.FEC_CTRL.ZR_MODE.get v
    let change : Prop := z ≠ s.rd q LFE.FEC_CTRL.ZR_MODE
    let bonded : Prop := s.bondedTx k = true ∨ s.bondedRx k = true
    (s.accepts q 0x030 = true → codeOk code = false ∨ dens = 3 ∨ s.zr k = true ∨ staged.same c.txMap = true →
      Answers (.manualAnnounce k v) s fun u =>
      u.bit q LFE.LM_STATUS.CFG_REJECT = true ∧ u.car k = c ∧ u.out = [] ∧ s.touch.Frame u [(q, 0x024)] [])
    -- an accepted announcement waits for its boundary; one made in COUNTDOWN or SHED_PENDING, or while LFE is HELD, is held; in OFF there
    -- is nothing to announce to (the model's choice, log 105)
    ∧ (s.accepts q 0x030 = true → codeOk code = true → dens ≠ 3 → s.zr k = false → staged.same c.txMap = false →
      Answers (.manualAnnounce k v) s fun u =>
      u.bit q LFE.LM_STATUS.CFG_REJECT = false
      ∧ u.car k = { c with staged := staged
                           waitManual := if s.txState k = 0 then c.waitManual else some (staged, s.txState k == 3 || s.txState k == 4) }
      ∧ (s.txState k ≠ 0 → u.bit q LFE.LM_STATUS.HELD = decide (s.txState k = 3 ∨ s.txState k = 4 ∨ s.pst q = 5)) ∧ u.out = []
      ∧ s.touch.Frame u [(q, 0x024), (q, 0x030)] [.cars])
    ∧ (s.accepts q 0x040 = true → i < 2 ∨ 12 < i ∨ change ∧ s.pst q ≠ 0 ∧ s.pst q ≠ 6 ∨ change ∧ z = 1 ∧ bonded →
      Answers (.zrModeWrite k v) s fun u =>
      u.bit q LFE.FEC_STATUS.CFG_REJECT = true ∧ u.out = [] ∧ s.touch.Frame u [(q, 0x044)] [])
    ∧ (s.accepts q 0x040 = true → 2 ≤ i → i ≤ 12 → ¬change → Answers (.zrModeWrite k v) s fun u =>
      u.bit q LFE.FEC_STATUS.CFG_REJECT = false ∧ u.rd q LFE.FEC_CTRL.ITER_CEIL = i ∧ u.rd q LFE.FEC_CTRL.ET_EN = LFE.FEC_CTRL.ET_EN.get v
      ∧ u.rd q LFE.FEC_CTRL.PENALTY_EN = LFE.FEC_CTRL.PENALTY_EN.get v ∧ u.out = [] ∧ s.touch.Frame u [(q, 0x040), (q, 0x044)] [])
    -- OFF or DRAINED: the change waits for the next transmit multiframe boundary; where FCR does not run none comes, and it acts at once
    -- (the model's choice, log 35)
    ∧ (s.accepts q 0x040 = true → 2 ≤ i → i ≤ 12 → change → s.pst q = 0 ∨ s.pst q = 6 → z = 0 ∨ ¬bonded → s.runs (.fcr k) = true →
      Answers (.zrModeWrite k v) s fun u =>
      u.rd q LFE.FEC_CTRL.ZR_MODE = z ∧ u.rd q LFE.FEC_CTRL.ITER_CEIL = i ∧ u.bit q LFE.FEC_STATUS.CFG_REJECT = false
      ∧ u.car k = { c with zrWait := some (z == 1) } ∧ u.out = [] ∧ s.touch.Frame u [(q, 0x040), (q, 0x044)] [.cars])
    ∧ (s.accepts q 0x040 = true → 2 ≤ i → i ≤ 12 → change → s.pst q = 0 ∨ s.pst q = 6 → z = 0 ∨ ¬bonded → s.runs (.fcr k) = false →
      Answers (.zrModeWrite k v) s fun u =>
      u.rd q LFE.FEC_CTRL.ZR_MODE = z ∧ u.zr k = (z == 1) ∧ (u.word q 0x00C).getLsbD 13 = true ∧ u.bit q LFE.LM_STATUS.ZR = (z == 1)
      ∧ (u.car k).txMap = LMap.base ∧ (u.car k).rxMap = LMap.base
      ∧ s.touch.Frame u ((q, 0x040) :: (State.engineRegs q ++ State.engineRegs (.rxe k))) [.cars, .ctr, .logRing, .damage])

/-- R151, R152, R156: a codeword is decoded, under the effective ceiling (here with sound memories): the running counts, and the
lock on a codeword phase, found after 8 codewords and lost after 64. With ET_EN 0 every codeword takes the ceiling's iterations. -/
def Obligations.codewords : Prop :=
  ∀ (s : State) (k : Fin 16) (x : CwIn),
    let q := Page.lfe k
    let c := s.car k
    let eff := s.rd q LFE.FEC_STATUS.ITER_EFF
    let d := s.decodeCw k false false x
    let r := d.r
    let hit := (decide (eff ≤ r.iters) && !r.clean).toNat
    let count (u : State) (i n : Nat) : Prop := u.ctr.get (fun _ => 0) (ctrBase q + 8 * i)
      = min (s.ctr.get (fun _ => 0) (ctrBase q + 8 * i) + n) (2 ^ 40 - 1)
    let good : Prop := cwUnsat (s.zr k) x < 1296 ∧ x.othersHigh = true
    let zero := mostlyZero x.soft
    (r.iters ≤ eff ∧ (s.bit q LFE.FEC_CTRL.ET_EN = false → r.iters = eff))
    ∧ (s.enabled q = true → s.rxRuns k = true → s.bit q LFE.FEC_STATUS.CW_LOCK = true → s.bit q HDR.FLIP_MASK.ARM = false →
      r.mostlyZero = true ∨ r.unsat ≤ 1296 ∨ c.cwBad < 63 → Answers (.codewordDecode k x) s fun u =>
      count u 0 1 ∧ count u 1 r.corr ∧ count u 2 r.outerCorr ∧ count u 3 hit ∧ count u 4 d.bad.length
      ∧ (u.car k).mfCw = c.mfCw + 1 ∧ (u.car k).mfCeil = c.mfCeil + hit ∧ (u.car k).mfIter = c.mfIter + r.iters
      ∧ (u.car k).mfUeb = c.mfUeb + d.bad.length ∧ (u.car k).mfCorr = c.mfCorr + r.corr ∧ (u.car k).ueBlocks = c.ueBlocks ++ d.bad
      ∧ (u.car k).outer = d.outer
      ∧ (u.car k).cwBad = (if r.mostlyZero then c.cwBad else if 1296 < r.unsat then c.cwBad + 1 else 0)
      ∧ u.bit q LFE.FEC_STATUS.CW_LOCK = true ∧ u.out = [] ∧ s.Frame u [] [.cars, .ctr, .damage])
    -- the 64th bad codeword in a row
    ∧ (s.enabled q = true → s.rxRuns k = true → s.bit q LFE.FEC_STATUS.CW_LOCK = true → s.bit q HDR.FLIP_MASK.ARM = false →
      s.dieUp q = true → r.mostlyZero = false → 1296 < r.unsat → c.cwBad = 63 → Answers (.codewordDecode k x) s fun u =>
      u.bit q LFE.FEC_STATUS.CW_LOCK = false ∧ (u.word q 0x00C).getLsbD 11 = true ∧ (u.car k).cwBad = 0 ∧ (u.car k).cwGood = 0
      ∧ u.out = [] ∧ s.Frame u [(q, 0x00C), (q, 0x044)] (.cars :: State.eventParts))
    -- the search: the 8th good codeword in a row locks
    ∧ (s.enabled q = true → s.bit (.rxe k) RXE.RX_STATUS.LOCKED = true → s.rd (.rxe k) RXE.RX_STATUS.ACQ_STATE = 8 →
      s.bit q LFE.FEC_STATUS.CW_LOCK = false → zero = false → good → 7 ≤ c.cwGood → Answers (.codewordDecode k x) s fun u =>
      u.bit q LFE.FEC_STATUS.CW_LOCK = true ∧ (u.word q 0x00C).getLsbD 12 = true ∧ (u.car k).cwBad = 0
      ∧ (u.car k).outer = Outer.empty ∧ u.out = []
      ∧ s.Frame u [(q, 0x00C), (q, 0x044)] (.cars :: State.eventParts))
    ∧ (s.enabled q = true → s.bit (.rxe k) RXE.RX_STATUS.LOCKED = true → s.rd (.rxe k) RXE.RX_STATUS.ACQ_STATE = 8 →
      s.bit q LFE.FEC_STATUS.CW_LOCK = false → zero = false → ¬good ∨ c.cwGood < 7 → Answers (.codewordDecode k x) s fun u =>
      (good → (u.car k).cwGood = c.cwGood + 1) ∧ (¬good → (u.car k).cwGood = 0) ∧ u.out = [] ∧ s.Frame u [] [.cars])
    -- a codeword more than half of whose soft values are zero does not count toward the search
    ∧ (s.bit q LFE.FEC_STATUS.CW_LOCK = false → zero = true → Answers (.codewordDecode k x) s fun u => u.out = [] ∧ s.Frame u [] [])
    ∧ (s.enabled q = false ∨ s.rxRuns k = false → Answers (.codewordDecode k x) s fun u => u.out = [] ∧ s.Frame u [] [])

/-- R177, R178: raw defects and map hypotheses. LOS after SIGNAL clear, and its end after SIGNAL set; LOF out of frame, and its end
in frame; while out of frame with HYP_EN the next hypothesis is tried (the map in force, an announced map, the base map); LOF
without one that fits loses the map. R182, R183, R186: the hardware drain of a bonded carrier that receives RDI, and Remote Fault
toward the host ports of a conduit. -/
def Obligations.defectsAndActions : Prop :=
  (∀ (s : State) (k : Fin 16),
      let r := Page.rxe k
      let f := Page.fcr k
      let q := Page.lfe k
      let same (u : State) : Prop := u.out = [] ∧ s.Frame u [] []
      (s.runs r = true → s.bit r RXE.RX_STATUS.SIGNAL = false → Answers (.losDeclare k) s fun u =>
        u.car k = { s.car k with los := true } ∧ u.out = [] ∧ s.Frame u [] [.cars])
      ∧ (s.bit r RXE.RX_STATUS.SIGNAL = true → Answers (.losClear k) s fun u =>
        u.car k = { s.car k with los := false } ∧ u.out = [] ∧ s.Frame u [] [.cars])
      ∧ (s.bit f FCR.FR_STATUS.OOF = true → Answers (.lofDeclare k) s fun u =>
        u.car k = { s.car k with lof := true } ∧ u.bit f FCR.FR_STATUS.LOF = true ∧ u.out = [] ∧ s.Frame u [(f, 0x024)] [.cars])
      ∧ (s.inFrame k = true → Answers (.lofClear k) s fun u =>
        u.car k = { s.car k with lof := false } ∧ u.bit f FCR.FR_STATUS.LOF = false ∧ u.out = [] ∧ s.Frame u [(f, 0x024)] [.cars])
      ∧ (s.bit f FCR.FR_STATUS.OOF = true → s.bit f FCR.FR_CTRL.HYP_EN = true → s.zr k = false → Answers (.hypothesisChange k) s fun u =>
        u.rd f FCR.FR_STATUS.HYP = (match s.rd f FCR.FR_STATUS.HYP with
          | 0 => if (s.car k).rxAnn = none then 2 else 1
          | 1 => 2
          | _ => 0) ∧ u.out = [] ∧ s.Frame u [(f, 0x024)] [])
      ∧ ((s.car k).lof = true → s.bit f FCR.FR_STATUS.OOF = true → s.runs q = true → s.zr k = false → Answers (.lofMapLost k) s fun u =>
        u.rxState k = 6 ∧ (s.rxState k ≠ 6 → (u.word q 0x00C).getLsbD 5 = true) ∧ u.out = []
        ∧ s.Frame u [(q, 0x00C), (q, 0x024)] State.eventParts)
      ∧ (s.bit r RXE.RX_STATUS.SIGNAL = true → Answers (.losDeclare k) s same)
      ∧ (s.bit r RXE.RX_STATUS.SIGNAL = false → Answers (.losClear k) s same)
      ∧ (s.bit f FCR.FR_STATUS.OOF = false → Answers (.lofDeclare k) s same ∧ Answers (.hypothesisChange k) s same ∧ Answers (.lofMapLost k) s same)
      ∧ (s.inFrame k = false → Answers (.lofClear k) s same)
      ∧ (s.bit f FCR.FR_CTRL.HYP_EN = false → Answers (.hypothesisChange k) s same)
      ∧ ((s.car k).lof = false → Answers (.lofMapLost k) s same))
  ∧ (∀ (s : State) (k : Fin 16) (c : Fin 64),
      let q := Page.lfe k
      let e := Page.csc k
      let rdi := (s.defects k).testBit 3
      let csc : List (Page × Nat) := (List.finRange 16).flatMap fun m => [(Page.csc m, 0x00C), (Page.csc m, 0x028)]
      (rdi = true → s.bit e CSC.CSC_CTRL.RDI_DRAIN = true → s.bondedTx k = true → s.mateClear k = true → s.runs q = true →
        s.bit q HDR.PAGE_CTRL.DRAIN = false → Answers (.autoDrain k) s fun u =>
        u.bit q HDR.PAGE_CTRL.DRAIN = true ∧ u.bit e CSC.CSC_STATUS.AUTO_DRAINED = true ∧ (u.word e 0x00C).getLsbD 3 = true ∧ u.out = []
        ∧ s.Frame u [(q, 0x004), (e, 0x00C), (e, 0x028)] State.eventParts)
      -- a carrier that is not bonded, one whose mates all report RDI, and one that host software drains, are left alone
      ∧ (rdi = false ∨ s.bit e CSC.CSC_CTRL.RDI_DRAIN = false ∨ s.bondedTx k = false ∨ s.mateClear k = false
          ∨ s.bit q HDR.PAGE_CTRL.DRAIN = true → Answers (.autoDrain k) s fun u => u.out = [] ∧ s.Frame u [] [])
      ∧ (s.bit e CSC.CSC_STATUS.AUTO_DRAINED = true → rdi = false → Answers (.autoUndrain k) s fun u =>
        u.bit q HDR.PAGE_CTRL.DRAIN = false ∧ u.bit e CSC.CSC_STATUS.AUTO_DRAINED = false ∧ (u.word e 0x00C).getLsbD 3 = true ∧ u.out = []
        ∧ s.Frame u [(q, 0x004), (e, 0x00C), (e, 0x028)] State.eventParts)
      ∧ (s.bit e CSC.CSC_STATUS.AUTO_DRAINED = false ∨ rdi = true → Answers (.autoUndrain k) s fun u => u.out = [] ∧ s.Frame u [] [])
      ∧ ((s.rxCon c.val).rf = false → s.rfHolds c.val = true → Answers (.remoteFaultStart c) s fun u =>
        (u.rxCon c.val).rf = true ∧ (∀ m, (s.rxMembers c.val).testBit m.val = true → u.bit (.csc m) CSC.CSC_STATUS.RF_ACTIVE = true
          ∧ (s.bit (.csc m) CSC.CSC_STATUS.RF_ACTIVE = false → (u.word (.csc m) 0x00C).getLsbD 4 = true))
        ∧ u.out = ((s.portsOf c.val).filter fun q => !s.portRf q).map (fun q => .remoteFault (Fin.ofNat 64 q) true)
        ∧ s.Frame u csc (.tm :: State.eventParts))
      ∧ ((s.rxCon c.val).rf = true ∨ s.rfHolds c.val = false → Answers (.remoteFaultStart c) s fun u => u.out = [] ∧ s.Frame u [] []))

/-- R195, R196, R199, R201: CR_CTRL and the loading of keys. A write of CR_CTRL is refused whole when it changes MODE of an engine
that runs, switches with no loaded other slot, with a switch pending or while HELD, or zeroizes the active transmit slot; one taken
discards the key words entered. KEY_SALT completes a load of eight words into the selected slot, or is refused. R200: the age of a
key slot. At 2^34 frames an active slot is reported once; at 2^36 frames a transmit slot is zeroized, which leaves its direction
without a key if it was active, and a receive slot retires. -/
def Obligations.keys : Prop :=
  (∀ (s : State) (k : Fin 16) (v : Word),
      let p := Page.fcr k
      let c := s.car k
      let w := s.word p 0x040
      let sel (v : Word) : Nat := 2 * FCR.CR_CTRL.SEL_DIR.get v + FCR.CR_CTRL.SEL_SLOT.get v
      let noSwitch : Prop := c.switchWait = true ∨ s.pst p = 5 ∨ (s.slot k (1 - s.rd p FCR.CR_STATUS.TX_ACTIVE)).loaded = false
      let refused (v : Word) : Prop := (FCR.CR_CTRL.MODE.get v ≠ s.rd p FCR.CR_CTRL.MODE ∧ s.pst p ≠ 0 ∧ s.pst p ≠ 6)
        ∨ (FCR.CR_CTRL.SWITCH.get v = 1 ∧ noSwitch) ∨ (FCR.CR_CTRL.ZEROIZE.get v = 1 ∧ c.txKey = some (sel v))
      let rejects (u : State) : Prop := u.bit p FCR.CR_STATUS.CFG_REJECT = true ∧ u.out = [] ∧ s.touch.Frame u [(p, 0x044)] []
      let i := sel w
      let recent : Prop := ∃ t, (s.slot k i).lastOk = some t ∧ s.time.toNat - t ≤ 1049000
      let noLoad : Prop := c.words.length < 8 ∨ c.txKey = some i ∨ (2 ≤ i ∧ recent) ∨ s.pst p = 5
      (s.accepts p 0x040 = true → refused v → Answers (.crSelect k v) s rejects)
      ∧ (s.accepts p 0x040 = true → ¬refused v → FCR.CR_CTRL.SWITCH.get v = 0 → FCR.CR_CTRL.ZEROIZE.get v = 0 →
        Answers (.crSelect k v) s fun u =>
        u.rd p FCR.CR_CTRL.MODE = FCR.CR_CTRL.MODE.get v ∧ u.rd p FCR.CR_CTRL.SEL_DIR = FCR.CR_CTRL.SEL_DIR.get v
        ∧ u.rd p FCR.CR_CTRL.SEL_SLOT = FCR.CR_CTRL.SEL_SLOT.get v ∧ u.bit p FCR.CR_STATUS.CFG_REJECT = false
        ∧ u.rd p FCR.CR_STATUS.KEY_WORDS = 0 ∧ u.car k = { c with words := [] } ∧ u.out = [] ∧ s.touch.Frame u [(p, 0x040), (p, 0x044)] [.cars])
      -- SWITCH waits for the next transmit multiframe boundary
      ∧ (s.accepts p 0x040 = true → noSwitch → Answers (.keySwitch k) s rejects)
      ∧ (s.accepts p 0x040 = true → ¬noSwitch → FCR.CR_CTRL.ZEROIZE.get w = 0 → Answers (.keySwitch k) s fun u =>
        u.bit p FCR.CR_STATUS.SWITCH_PENDING = true ∧ u.car k = { c with words := [], switchWait := true } ∧ u.out = []
        ∧ s.touch.Frame u [(p, 0x040), (p, 0x044)] [.cars])
      -- ZEROIZE of any slot but the active transmit slot
      ∧ (s.accepts p 0x040 = true → c.txKey = some i → Answers (.keyZeroize k) s rejects)
      ∧ (s.accepts p 0x040 = true → c.txKey ≠ some i → FCR.CR_CTRL.SWITCH.get w = 0 → Answers (.keyZeroize k) s fun u =>
        u.slot k i = { KeySlot.empty with lastOk := (s.slot k i).lastOk } ∧ (∀ j, j ≠ i → u.slot k j = s.slot k j) ∧ (u.car k).txKey = c.txKey ∧ u.out = []
        ∧ s.touch.Frame u [(p, 0x040), (p, 0x044)] [.cars, .damage])
      -- the key's words
      ∧ (s.accepts p 0x048 = true → c.words.length < 8 → Answers (.keyPortWrite k v) s fun u =>
        u.car k = { c with words := c.words ++ [v] } ∧ u.rd p FCR.CR_STATUS.KEY_WORDS = c.words.length + 1 ∧ u.out = []
        ∧ s.touch.Frame u [(p, 0x044)] [.cars])
      ∧ (s.accepts p 0x048 = true → 8 ≤ c.words.length → Answers (.keyPortWrite k v) s fun u => u.out = [] ∧ s.touch.Frame u [] [])
      -- the load
      ∧ (s.accepts p 0x04C = true → noLoad → Answers (.keySaltWrite k v) s fun u =>
        u.bit p FCR.CR_STATUS.CFG_REJECT = true ∧ (u.word p 0x00C).getLsbD 15 = true ∧ u.cars = s.cars ∧ u.out = []
        ∧ s.touch.Frame u [(p, 0x00C), (p, 0x044)] State.eventParts)
      ∧ (s.accepts p 0x04C = true → ¬noLoad → Answers (.keySaltWrite k v) s fun u =>
        u.car k = { c with slots := c.slots.set i { KeySlot.empty with
                             loaded := true, salt := v, key := BitVec.ofNat 256 (c.words.foldl (fun a w => a * 0x100000000 + w.toNat) 0) }
                           words := [], waitKey := if i < 2 ∧ c.txKey = none then some i else c.waitKey }
        ∧ u.rd p FCR.CR_STATUS.KEY_WORDS = 0 ∧ u.bit p FCR.CR_STATUS.CFG_REJECT = false ∧ u.out = []
        ∧ s.touch.Frame u [(p, 0x018), (p, 0x044)] [.cars, .damage]))
  ∧ (∀ (s : State) (k : Fin 16) (rx slot : Bool),
      let p := Page.fcr k
      let c := s.car k
      let i := 2 * rx.toNat + slot.toNat
      let x := s.slot k i
      let active : Prop := if rx then s.rd p FCR.CR_STATUS.RX_ACTIVE = slot.toNat else c.txKey = some i
      let warn := if rx then FCR.CR_STATUS.RX_WARN else FCR.CR_STATUS.TX_WARN
      (x.loaded = true → 2 ^ 34 ≤ s.slotAge k i → active → s.bit p warn = false → Answers (.keyAgeWarn k rx slot) s fun u =>
        u.bit p warn = true ∧ (u.word p 0x00C).getLsbD 10 = true ∧ u.out = [] ∧ s.Frame u [(p, 0x00C), (p, 0x044)] State.eventParts)
      ∧ (x.loaded = false ∨ s.slotAge k i < 2 ^ 34 ∨ ¬active ∨ s.bit p warn = true →
        Answers (.keyAgeWarn k rx slot) s fun u => u.out = [] ∧ s.Frame u [] [])
      ∧ (x.loaded = true → 2 ^ 36 ≤ s.slotAge k i → Answers (.keyRetired k rx slot) s fun u =>
        (u.car k).slots = c.slots.set i { KeySlot.empty with retired := rx, lastOk := x.lastOk }
        ∧ (u.car k).txKey = (if c.txKey = some i then none else c.txKey) ∧ (u.word p 0x00C).getLsbD 11 = true ∧ u.out = []
        ∧ s.Frame u [(p, 0x00C), (p, 0x044)] (.cars :: State.eventParts))
      ∧ (x.loaded = false ∨ s.slotAge k i < 2 ^ 36 → Answers (.keyRetired k rx slot) s fun u => u.out = [] ∧ s.Frame u [] []))

/-- R163, R164, R167, R173, R175: a frame start of a transmitter: the frame counter advances by one, but not at the first since
ENABLE; the justification count is the rounded backlog, clamped; a transmitter that shines sends a frame that begins with FAS and
MFI. R75, R94, R157, R193: frames of the 800ZR agreement, test signals, and a frame period without a frame. -/
def Obligations.transmittedFrame : Prop :=
  ∀ (s : State) (k : Fin 16) (dt drive : Nat),
    let o := Page.txo k
    let f := Page.fcr k
    let q := Page.lfe k
    let c := s.car k
    let fc := if c.txFirst then s.fcTx k else (s.fcTx k + 1) % 2 ^ 48
    let p := c.txMap.bitAt c.txJ 72 - c.txMap.bitAt c.txJ 1
    let owed := c.owed + ((twoK c.txMap.dens * c.txMap.sum * 71 * dt : Nat) : Int)
    let lim : Int := s.rd f FCR.FR_CTRL.JUST_LIMIT
    let want := roundHalfEven ((p * 589824000 : Nat) - owed) (512 * 589824000)
    let regs : List (Page × Nat) :=
      [(o, 0x008), (o, 0x00C), (o, 0x018), (o, 0x01C), (o, 0x048), (o, 0x054), (f, 0x008), (f, 0x00C), (f, 0x018), (f, 0x01C), (f, 0x020),
       (f, 0x024), (f, 0x028), (f, 0x02C), (f, 0x038), (f, 0x044), (q, 0x008), (q, 0x00C), (q, 0x018), (q, 0x01C), (q, 0x024), (q, 0x044),
       (.rxe k, 0x024), (.rxe k, 0x03C), (.rxe k, 0x040), (.rxe k, 0x044), (.csc k, 0x028)]
    (s.runs f = true → Answers (.txFrameStart k dt drive) s fun u =>
      u.fcTx k = fc ∧ (u.car k).txFirst = false ∧ s.Frame u regs (.cars :: .cad :: State.eventParts))
    ∧ (s.runs f = true → fc % 256 ≠ 0 → s.runs q = true → s.codingCoasts = false → s.zr k = false → s.bit f HDR.PAGE_CTRL.DRAIN = false →
      Answers (.txFrameStart k dt drive) s fun u =>
      u.rdI f FCR.JUST_STATUS.TX_J = (if lim < want then lim else if want < -lim then -lim else want)
      ∧ u.bit f FCR.FR_STATUS.JUST_SAT = (decide (lim < want) || decide (want < -lim))
      ∧ (s.runs o = true → s.pst o ≠ 5 → c.shutter = true → s.rd o TXO.TX_TEST.MODE = 0 → ∃ line symbols dac,
          u.out = [.lineFrame k line symbols dac] ∧ line.take 72 = bitsOf 64 0x5A3CF1E096C72B4D ++ bitsOf 8 (fc % 256))
      ∧ (s.runs o = false ∨ c.shutter = false → u.out = []))
    -- a frame of the 800ZR agreement carries the client frames that wait, none while TXO is DRAINED
    ∧ (s.runs f = true → fc % 256 ≠ 0 → s.runs q = true → s.codingCoasts = false → s.zr k = true → Answers (.txFrameStart k dt drive) s fun u =>
      (u.car k).client = []
      ∧ (s.runs o = true → s.pst o ≠ 5 → s.pst o ≠ 6 → c.shutter = true → s.rd o TXO.TX_TEST.MODE = 0 → ∃ ais rdi symbols dac,
          u.out = [.zrFrame k c.client ais rdi symbols dac]))
    -- a test signal, which DRAIN permits, goes out whether frames are built or not, mode 1 without modulation
    ∧ (s.runs o = true → s.pst o ≠ 5 → c.shutter = true → s.bit o HDR.PAGE_CTRL.DRAIN = true → s.rd o TXO.TX_TEST.MODE ≠ 0 → Answers (.txFrameStart k dt drive) s fun u =>
      ∃ symbols dac, u.out = [.testLight k (s.rd o TXO.TX_TEST.MODE) symbols dac] ∧ (s.rd o TXO.TX_TEST.MODE = 1 → symbols = [] ∧ dac = []))
    -- no frame, no RDI, no tag
    ∧ (s.runs f = false → s.runs o = false → Answers (.txFrameStart k dt drive) s fun u =>
      u.bit (.csc k) CSC.CSC_STATUS.RDI_TX = false ∧ (u.car k).tag = none ∧ u.fcTx k = s.fcTx k ∧ u.out = []
      ∧ s.Frame u [(.csc k, CSC.CSC_STATUS.RDI_TX.off)] [.cars])

/-- R118, R155, R157, R167, R169, R171, R174-R176, R187, R218: the receiver at a frame boundary. Out of frame it keeps up to 8 candidates; in frame it
counts misses of the alignment signal and goes out of frame at the fifth in a row; 4.096 us without codeword lock are one miss. A
frame that fails its check is counted, and its payload goes on nevertheless; that of an uncorrectable frame is discarded. -/
def Obligations.receivedFrame : Prop :=
  ∀ (s : State) (k : Fin 16) (f : RxFrame),
    let p := Page.fcr k
    let q := Page.lfe k
    let r := Page.rxe k
    let c := s.car k
    let ok := fasOk f.oh
    let raw := (f.oh.extractLsb' 952 8).toNat
    let at' := c.cands.find? fun x => x.pos == f.pos
    let hears : Prop := s.rxRuns k = true ∧ s.enabled p = true ∧ s.bit q LFE.FEC_STATUS.CW_LOCK = true ∧ s.codingCoasts = false
    let listens : Prop := hears ∧ s.zr k = false
    -- what the receiver shows at the boundary of a frame, and at the end of a multiframe of its own count
    let rx : List (Page × Nat) :=
      [(r, 0x008), (r, 0x00C), (r, 0x018), (r, 0x01C), (r, 0x024), (r, 0x028), (r, 0x034), (r, 0x054), (r, 0x030), (r, 0x038), (r, 0x03C),
       (r, 0x040), (r, 0x044)]
    let edge : List (Page × Nat) := rx ++ [(p, 0x00C), (p, 0x024), (p, 0x030), (p, 0x034)]
    let lostFrame (mfi : Nat) (u : State) : Prop := u.rd p FCR.FR_STATUS.ALIGN = 2 ∧ u.bit p FCR.FR_STATUS.OOF = true
      ∧ u.bit p FCR.FR_STATUS.FC_VALID = false ∧ u.fcRx k = 0 ∧ (u.car k).cands = [{ pos := c.pos, count := 0, mfi := mfi }]
      ∧ (u.car k).misses = 0 ∧ (u.car k).hold = none ∧ (u.car k).rxPart = none ∧ (u.word p 0x00C).getLsbD 0 = true
    let predicted := if s.bit p FCR.FR_STATUS.FC_VALID then (s.fcRx k + 1) % 2 ^ 48 else s.fcRx k
    let keep := if s.bit p FCR.FR_STATUS.FC_VALID then predicted else c.fcKeep
    -- the received MFI is the index of the frame, whatever is predicted
    let mfi := raw
    let l := ohBits f.oh mfi
    let crcBad : Prop := State.frameCrc ((l.drop 64).take 928) ≠ ohField l 992 32
    let own : List (Page × Nat) := [(p, 0x018), (p, 0x01C), (p, 0x038), (p, 0x03C), (p, 0x044), (q, 0x00C), (q, 0x054)]
    let vote := (voteJ (ohField l 83 5) (ohField l 88 5) (ohField l 93 5)).1
    let body := xorBits f.body ((scrambleSeq mfi (f.len0 - 72 + f.body.length)).drop (f.len0 - 72))
    let ue := c.ueBlocks.any fun b => decide (f.first ≤ b) && decide (b ≤ f.last)
    -- out of frame: a new candidate, one that goes on, one that fails, and no room or no signal
    (listens → s.inFrame k = false → at' = none → ok = true → c.cands.length < 8 → Answers (.rxFrameBoundary k f) s fun u =>
      (u.car k).cands = c.cands ++ [{ pos := f.pos, count := 1, mfi := raw }] ∧ u.rd p FCR.FR_STATUS.ALIGN = 2
      ∧ u.rd p FCR.FR_STATUS.CANDIDATES = c.cands.length + 1 ∧ u.out = [] ∧ s.Frame u edge (.cars :: .cad :: State.eventParts))
    ∧ (listens → s.inFrame k = false → at' = none → ok = false ∨ 8 ≤ c.cands.length → Answers (.rxFrameBoundary k f) s fun u =>
      (u.car k).cands = c.cands ∧ u.word p 0x024 = s.word p 0x024 ∧ u.out = [] ∧ s.Frame u edge (.cars :: .cad :: State.eventParts))
    ∧ (∀ x, listens → s.inFrame k = false → at' = some x → ok = true → raw = (x.mfi + 1) % 256 ∨ x.count = 0 → x.count < 2 →
      Answers (.rxFrameBoundary k f) s fun u =>
      (u.car k).cands = c.cands.map (fun y => if y.pos = f.pos then { y with count := y.count + 1, mfi := raw } else y)
      ∧ u.rd p FCR.FR_STATUS.ALIGN = 2 ∧ u.out = [] ∧ s.Frame u edge (.cars :: .cad :: State.eventParts))
    ∧ (∀ x, listens → s.inFrame k = false → at' = some x → ok = false ∨ raw ≠ (x.mfi + 1) % 256 ∧ x.count ≠ 0 →
      Answers (.rxFrameBoundary k f) s fun u =>
      (u.car k).cands = c.cands.filter (fun y => y.pos != f.pos)
      ∧ u.rd p FCR.FR_STATUS.ALIGN = (if (u.car k).cands = [] then 1 else 2) ∧ u.out = []
      ∧ s.Frame u edge (.cars :: .cad :: State.eventParts))
    -- in frame: the fifth miss in a row
    ∧ (listens → s.inFrame k = true → f.pos = c.pos → ok = false → 4 ≤ c.misses → Answers (.rxFrameBoundary k f) s fun u =>
      lostFrame (s.rd p FCR.OH_VIEW.MFI) u ∧ u.out = [] ∧ s.Frame u edge (.cars :: .cad :: State.eventParts))
    -- a frame in its place whose check fails: uncorrectable, or released with J bits of 512 less (in mode 0, FCR not drained)
    ∧ (listens → s.inFrame k = true → f.pos = c.pos → ok = true ∨ c.misses < 4 → mfi ≠ 0 → crcBad → c.hold = none → ue = true →
      s.bit p HDR.FLIP_MASK.ARM = false → Answers (.rxFrameBoundary k f) s fun u =>
      (u.car k).misses = (if ok then 0 else c.misses + 1) ∧ u.rd p FCR.OH_VIEW.MFI = mfi ∧ (u.word p 0x00C).getLsbD 4 = true
      ∧ (u.word q 0x00C).getLsbD 8 = true ∧ (u.car k).crcMf = c.crcMf + 1 ∧ (u.car k).mfUef = c.mfUef + 1 ∧ u.out = []
      ∧ s.Frame u (edge ++ own) (.cars :: .cad :: State.eventParts))
    ∧ (∀ j, listens → s.inFrame k = true → f.pos = c.pos → ok = true → mfi ≠ 0 → crcBad → c.hold = none → ue = false →
      s.mapIsLost k = false → s.bit p HDR.FLIP_MASK.ARM = false → s.encrypted k = false → s.pst p ≠ 6 → vote = some j → j ≤ 8 →
      512 * j < body.length → Answers (.rxFrameBoundary k f) s fun u =>
      (u.car k).misses = 0 ∧ u.rd p FCR.OH_VIEW.MFI = mfi ∧ (u.word p 0x00C).getLsbD 4 = true
      ∧ (let data := body.take (body.length - 512 * j)
         u.out = [.released k data, .extracted k (takeCells c.rxPart data).1] ∧ (u.car k).rxPart = some (takeCells c.rxPart data).2)
      ∧ s.Frame u (edge ++ own) (.cars :: .cad :: State.eventParts))
    -- no frame is taken
    ∧ (s.rxRuns k = false → Answers (.rxFrameBoundary k f) s fun u => u.out = [] ∧ s.Frame u [] [])
    ∧ (s.rxRuns k = true → s.enabled p = false ∨ s.bit q LFE.FEC_STATUS.CW_LOCK = false ∨ s.codingCoasts = true
        ∨ s.zr k = false ∧ s.inFrame k = true ∧ f.pos ≠ c.pos → Answers (.rxFrameBoundary k f) s fun u =>
      u.out = [] ∧ s.Frame u rx (.cars :: .cad :: State.eventParts))
    -- a frame of the 800ZR agreement: its alignment and its defect indications
    ∧ (hears → s.zr k = true → f.zr.aligned = false → Answers (.rxFrameBoundary k f) s fun u =>
      u.rd p FCR.FR_STATUS.ALIGN = 1 ∧ (s.inFrame k = true → (u.word p 0x00C).getLsbD 0 = true) ∧ u.out = []
      ∧ s.Frame u edge (.cars :: .cad :: State.eventParts))
    ∧ (hears → s.zr k = true → f.zr.aligned = true → f.zr.start = false → f.zr.client = [] → Answers (.rxFrameBoundary k f) s fun u =>
      u.rd p FCR.FR_STATUS.ALIGN = (if s.inFrame k then s.rd p FCR.FR_STATUS.ALIGN else 3)
      ∧ (u.car k).ais = (State.runOf c.ais f.zr.ldi c.aisRun).2 ∧ (u.car k).rdi = (State.runOf c.rdi f.zr.rdi c.rdiRun).2 ∧ u.out = []
      ∧ s.Frame u (edge ++ own) (.cars :: .cad :: State.eventParts))
    -- 4.096 us without codeword lock
    ∧ (s.runs p = true → s.bit q LFE.FEC_STATUS.CW_LOCK = false → s.inFrame k = true → c.misses < 4 → Answers (.alignMissTick k) s fun u =>
      u.car k = { c with misses := c.misses + 1, hold := none, rxPart := none, fcKeep := keep } ∧ u.fcRx k = predicted ∧ u.out = []
      ∧ s.Frame u [(p, 0x030), (p, 0x034)] [.cars])
    ∧ (s.runs p = true → s.bit q LFE.FEC_STATUS.CW_LOCK = false → s.inFrame k = true → 4 ≤ c.misses → Answers (.alignMissTick k) s fun u =>
      lostFrame (s.rd p FCR.OH_VIEW.MFI) u ∧ u.out = []
      ∧ s.Frame u [(p, 0x00C), (p, 0x024), (p, 0x030), (p, 0x034)] (.cars :: State.eventParts))
    ∧ (s.runs p = true → s.bit q LFE.FEC_STATUS.CW_LOCK = false → s.inFrame k = false → Answers (.alignMissTick k) s fun u =>
      u.car k = { c with cands := [], hold := none, rxPart := none, fcKeep := keep } ∧ u.rd p FCR.FR_STATUS.ALIGN = 1 ∧ u.out = []
      ∧ s.Frame u [(p, 0x024), (p, 0x030), (p, 0x034)] [.cars])
    ∧ (s.runs p = false ∨ s.bit q LFE.FEC_STATUS.CW_LOCK = true → Answers (.alignMissTick k) s fun u => u.out = [] ∧ s.Frame u [] [])

/-- R205-R208, R242-R244, R301: a frame that a host port receives. A runt, an oversize frame and one whose check fails are counted;
an invalid tag, and an untagged frame where none is allowed, are dropped; any other frame is for a queue, without its tag and with a
new check, and is admitted or dropped as a whole with the first reason that holds (here with sound memories). -/
def Obligations.hostFrames : Prop :=
  ∀ (s : State) (port : Fin 64) (l : List Byte),
    let d : Fin 2 := Fin.ofNat 2 (port.val / 32)
    let g := Page.hlg d (s.portGroup d (port.val % 32))
    let own : List (Page × Nat) := [(g, 0x00C), (g, 0x018), (g, 0x01C)]
    -- the port's lanes; none of them in a loopback (R304)
    let lanes := s.portLanes d (port.val % 32)
    let loopOf (ln : Nat) : Nat := HLG.LANE_TEST.LOOPBACK.get (s.laneSt d ln).test
    let open_ : Prop := ∀ ln ∈ lanes, loopOf ln = 0
    let live : Prop := s.portLive port.val = true ∧ open_
    let good : Prop := live ∧ 64 ≤ l.length ∧ l.length ≤ 9608 ∧ fcsOk l = true ∧ s.bit g HDR.FLIP_MASK.ARM = false
    let data : Prop := good ∧ State.pauseOp l = none ∧ s.isSteer d (port.val % 32) l = false
    let e := s.entry 0 3 port.val
    let tagged : Prop := State.ebits e 0 20 1 = 1
    let ours : Prop := beAt l 12 2 = s.rd .qsc QSC.TAG_CFG.ETYPE
    let t := tagOf l
    let i := if ours then t.queue else State.ebits e 0 0 20
    let dp := if ours then t.dp else State.ebits e 0 22 2
    let body := if ours then untag l else l
    let sound : Prop := s.damage.get (fun _ => 0) (State.damageKey .qsc 1 port.val) = 0
    let soundQ : Prop := s.damage.get (fun _ => 0) (State.damageKey .sch 2 (QCfg.profile (s.qcfg i))) = 0 ∧ (s.queue i).ctxBad = 0
      ∧ (s.queue i).linkBad = 0 ∧ (s.queue i).chainBad = 0 ∧ s.bit .bsc HDR.FLIP_MASK.ARM = false ∧ s.bit .qsc HDR.FLIP_MASK.ARM = false
      -- the context is cached, or it comes from a sound burst of DDR5 into a cache that has room (R228)
      ∧ (s.queue i).parked = false
      ∧ (i ∈ s.tm.cache ∨ (s.tm.cache.length < s.cacheRoom ∧ s.ctxLost i = false ∧ ∀ c : Fin 17, (s.chan c).stored = []
          ∧ s.bit (.mch c) HDR.FLIP_MASK.ARM = false))
    let taken : Prop := (ours ∧ tagged ∧ t.version = 1 ∧ t.dp ≠ 3) ∨ (¬ours ∧ (¬tagged ∨ State.ebits e 0 21 1 = 1))
    let kept (u : State) : Prop := u.tm = s.tm ∧ u.out = []
    let r := s.refusal i dp (ceilDiv body.length 256)
    -- the cells of the frame stand in the assembly area: the high-water mark sees them
    let held (u : State) : Prop := (i ∈ s.tm.cache → u.mem = s.mem) ∧ i ∈ u.tm.cache
    let hwm (u : State) : Prop :=
      let n := s.egUsed + ceilDiv body.length 256
      u.rd .bsc BSC.EG_HWM.CELLS = if s.rd .bsc BSC.EG_HWM.CELLS < n then min n 655360 else s.rd .bsc BSC.EG_HWM.CELLS
    (s.portLive port.val = false → open_ → Answers (.hostFrameReceived port l) s fun u => u.out = [] ∧ s.Frame u [] [])
    -- in near-end loopback of its lanes the port receives what it sent, in order; in far-end loopback the frame goes back (R304)
    ∧ ((∃ ln ∈ lanes, loopOf ln = 1 ∨ loopOf ln = 2) → (s.portSt d (port.val % 32)).loop = [] →
      Answers (.hostFrameReceived port l) s fun u => u.out = [] ∧ s.Frame u [] [])
    ∧ (∀ f r, port.val % 32 < 4 * s.portsPerGroup d → (∀ ln ∈ lanes, loopOf ln = 1 ∨ loopOf ln = 2) → (s.portSt d (port.val % 32)).loop = f :: r →
      s.portLive port.val = true → f ≠ [] → f.length < 64 ∨ 9608 < f.length ∨ fcsOk f = false → Answers (.hostFrameReceived port l) s fun u =>
      (u.portSt d (port.val % 32)).loop = r ∧ (64 ≤ f.length → f.length ≤ 9608 → (u.word g 0x00C).getLsbD 5 = true)
      ∧ kept u ∧ s.Frame u own (.lanes :: .cad :: State.eventParts))
    ∧ (port.val % 32 < 4 * s.portsPerGroup d → (∀ ln ∈ lanes, loopOf ln = 3) → s.portLive port.val = false → s.runs g = true →
      Answers (.hostFrameReceived port l) s fun u => u.out = [.hostLooped port l] ∧ s.Frame u [] [])
    ∧ (live → l ≠ [] → l.length < 64 ∨ 9608 < l.length → Answers (.hostFrameReceived port l) s fun u =>
      kept u ∧ s.Frame u own (.cad :: State.eventParts))
    ∧ (live → 64 ≤ l.length → l.length ≤ 9608 → fcsOk l = false → Answers (.hostFrameReceived port l) s fun u =>
      kept u ∧ (u.word g 0x00C).getLsbD 5 = true ∧ s.Frame u own (.cad :: State.eventParts))
    -- dropped by a queue section that is switched off; an invalid tag; an untagged frame where only tagged ones are allowed
    ∧ (data → s.enabled .qsc = false → Answers (.hostFrameReceived port l) s fun u =>
      kept u ∧ (u.word .bsc 0x00C).getLsbD 2 = true ∧ s.Frame u [(.bsc, 0x00C)] State.eventParts)
    ∧ (data → s.enabled .qsc = true → sound → ours → ¬tagged ∨ t.version ≠ 1 ∨ t.dp = 3 → Answers (.hostFrameReceived port l) s fun u =>
      kept u ∧ (u.word .qsc 0x00C).getLsbD 0 = true ∧ s.Frame u [(.qsc, 0x00C)] State.eventParts)
    ∧ (data → s.enabled .qsc = true → sound → ¬ours → tagged → State.ebits e 0 21 1 = 0 → Answers (.hostFrameReceived port l) s fun u =>
      kept u ∧ (u.word .qsc 0x00C).getLsbD 1 = true ∧ s.Frame u [(.qsc, 0x00C)] State.eventParts)
    -- dropped with a reason
    ∧ (data → s.enabled .qsc = true → s.enabled .bsc = true → sound → soundQ → taken → body.length ≤ 9600 → i < 131072 ∨ s.ddrOn = true →
      r ≠ 0 → Answers (.hostFrameReceived port l) s fun u =>
      u.rd .bsc BSC.DROP_LAST.REASON = r ∧ u.rd .bsc BSC.DROP_LAST.WHERE = i ∧ (u.word .bsc 0x00C).getLsbD 2 = true
      ∧ (∀ j, (u.queue j).frames = (s.queue j).frames) ∧ hwm u ∧ held u ∧ u.out = []
      ∧ s.Frame u [(.bsc, 0x00C), (.bsc, BSC.EG_HWM.CELLS.off), (.bsc, BSC.DROP_LAST.REASON.off)] (.tm :: .mem :: State.eventParts))
    -- admitted (here with no steep queue and no steeping): last in its queue
    ∧ (data → s.enabled .qsc = true → s.enabled .bsc = true → sound → soundQ → taken → body.length ≤ 9600 → i < 131072 ∨ s.ddrOn = true →
      r = 0 → s.steepOpen = false → (∀ j, (s.queue j).steep = false) → Answers (.hostFrameReceived port l) s fun u =>
      (u.queue i).frames = (s.queue i).frames ++ [{ bytes := body, lenAdj := if ours then t.lenAdj else 0, bad := 0, steep := 0 }]
      ∧ (∀ j, j ≠ i → (u.queue j).frames = (s.queue j).frames) ∧ hwm u ∧ held u ∧ u.out = []
      ∧ s.Frame u [(.qsc, 0x00C), (.bsc, BSC.EG_HWM.CELLS.off)] (.tm :: .mem :: State.eventParts))
    -- the reasons
    ∧ (∀ n, s.refusal i dp n = (
        let q := s.queue i
        let lim := QCfg.maxDepth (s.qcfg i)
        let share := if s.lost 2 (QCfg.profile (s.qcfg i)) then 0 else State.ebits (s.prof (QCfg.profile (s.qcfg i))) 2 (8 * (dp - 1)) 8
        if QCfg.enable (s.qcfg i) = false then 1
        else if q.quarantined = true then 6
        else if s.enabled .sch = true ∧ s.bit .sch HDR.PAGE_CTRL.DRAIN = true then 7
        else if lim < q.depth + n then 2
        else if 0 < dp ∧ lim * share / 256 < q.depth + n then 3
        else if s.egFree < n then (if q.steep then 5 else 4)
        else if q.steep = true ∧ s.ddrFree < (q.tail + n) / 16 then 5 else 0))

/-- R254, R255, R259, R260, R263: pause. A priority pause frame pauses and releases the priorities that its vector names; a port's
own 802.3 pause frames are counted; a pause ends at its time; a priority paused too long loses what it holds; a delivery queue is
sent in order while its priority is not paused, its codewords lane by lane (R300); a port repeats its pause. -/
def Obligations.hostPause : Prop :=
  ∀ (s : State) (port : Fin 64) (prio : Fin 8) (l : List Byte),
    let p := port.val
    let d : Fin 2 := Fin.ofNat 2 (p / 32)
    let g := Page.hlg d (s.portGroup d (p % 32))
    -- no lane of the port in a loopback (R304)
    let open_ : Prop := ∀ ln ∈ s.portLanes d (p % 32), HLG.LANE_TEST.LOOPBACK.get (s.laneSt d ln).test = 0
    let good : Prop := open_ ∧ s.portLive p = true ∧ 64 ≤ l.length ∧ l.length ≤ 9608 ∧ fcsOk l = true ∧ s.bit g HDR.FLIP_MASK.ARM = false
      ∧ s.damage.get (fun _ => 0) (State.damageKey .fct 0 (2 ^ 24 * 3 + p)) = 0
    let honours : Prop := s.bit .fct FCT.FC_CTRL.HONOUR_EN = true ∧ State.ebits (s.fctEntry 3 p) 0 18 1 ≠ 0
    let v := beAt l 16 2
    let paused := (s.hostPausedBits p).testBit prio.val
    -- what leaves when a frame is sent: its event, and the codewords that it completes; the coder goes on from there
    let coded (u : State) (o : Output) (frame : List Byte) : Prop :=
      let x := s.portSt d (p % 32)
      let y := x.coder.take (s.lanesPerPort d) frame
      -- a lane that a generator or a loopback drives carries none of it, and a port in near-end loopback takes its own frame (R304, R305)
      let driven := (s.portLanes d (p % 32)).map (s.drivenLane d)
      u.out = (if driven.any id then [] else [o])
          ++ y.1.map (fun c => .hostCode port (List.zipWith (fun b l => if b then [] else l) driven c))
        ∧ u.portSt d (p % 32) = { x with coder := y.2, loop := if s.portLooped d (p % 32) then x.loop ++ [frame] else x.loop }
    (∀ c, c = .hostPauseFrame port l ∨ c = .hostFrameReceived port l → good → State.pauseOp l = some 0x0101 → honours → Answers c s fun u =>
      (∀ i, i < 8 → (u.hostPausedBits p).testBit i
        = if v.testBit i then decide (beAt l (18 + 2 * i) 2 ≠ 0) else (s.hostPausedBits p).testBit i)
      ∧ (∀ i, i < 8 → v.testBit i = true → beAt l (18 + 2 * i) 2 ≠ 0 → (s.hostPausedBits p).testBit i = false →
          (u.word .fct 0x00C).getLsbD 2 = true)
      ∧ u.out = [] ∧ s.Frame u [(.fct, 0x00C)] (.tm :: State.eventParts))
    ∧ (∀ c, c = .hostPauseFrame port l ∨ c = .hostFrameReceived port l → good → State.pauseOp l = some 0x0101 → ¬honours → Answers c s fun u =>
      u.tm = s.tm ∧ u.out = [] ∧ s.Frame u [] [.ctr, .damage])
    ∧ (∀ c, c = .hostPauseFrame port l ∨ c = .hostFrameReceived port l → good → State.pauseOp l = some 1 → Answers c s fun u =>
      u.tm = s.tm ∧ (u.word .fct 0x00C).getLsbD 5 = true ∧ u.out = [] ∧ s.Frame u [(.fct, 0x00C)] State.eventParts)
    ∧ (State.pauseOp l = none → Answers (.hostPauseFrame port l) s fun u => u.out = [] ∧ s.Frame u [] [])
    -- the pause time ends
    ∧ Answers (.hostPauseExpiry port prio) s (fun u =>
      (u.hostPausedBits p).testBit prio.val = false ∧ (u.wdogBits p).testBit prio.val = false
      ∧ u.tm = { s.tm with hostPaused := u.tm.hostPaused, wdog := u.tm.wdog } ∧ u.out = [] ∧ s.Frame u [] [.tm])
    -- the watchdog
    ∧ (paused = true → (s.wdogBits p).testBit prio.val = false → State.ebits (s.fctEntry 3 p) 0 24 8 ≠ 0 →
      Answers (.pauseWatchdog port prio) s fun u =>
      (u.wdogBits p).testBit prio.val = true ∧ u.delivery p prio.val = [] ∧ (∀ i, i ≠ p * 8 + prio.val → u.tm.dq.get (fun _ => []) i
          = s.tm.dq.get (fun _ => []) i) ∧ (u.word .fct 0x00C).getLsbD 3 = true ∧ u.out = []
      ∧ s.Frame u [(.fct, 0x00C), (.bsc, 0x00C), (.bsc, BSC.DROP_LAST.REASON.off)] (.tm :: State.eventParts))
    ∧ (paused = false ∨ (s.wdogBits p).testBit prio.val = true ∨ State.ebits (s.fctEntry 3 p) 0 24 8 = 0 →
      Answers (.pauseWatchdog port prio) s fun u => u.out = [] ∧ s.Frame u [] [])
    -- a frame goes out
    ∧ (∀ f r, s.delivery p prio.val = f :: r → s.portLive p = true → paused = false → Answers (.hostFrameTransmit port prio) s fun u =>
      u.delivery p prio.val = r ∧ u.tm = { s.tm with dq := u.tm.dq } ∧ coded u (.hostFrame port f.bytes) f.bytes ∧ s.Frame u [] [.tm, .lanes, .ctr])
    ∧ (s.delivery p prio.val = [] ∨ s.portLive p = false ∨ paused = true → Answers (.hostFrameTransmit port prio) s fun u =>
      u.out = [] ∧ s.Frame u [] [])
    -- pause frames repeated
    ∧ (s.portLive p = true → s.portPrios p ≠ 0 → Answers (.pfcRefreshTimer port) s fun u =>
      let b := State.pfcFrame p (s.portPrios p) 0 (s.rd .fct FCT.FC_CTRL.PAUSE_QUANTA)
      coded u (.pauseFrame port b) (b ++ ethFcs b) ∧ s.Frame u [] [.lanes, .ctr])
    ∧ (s.portLive p = false ∨ s.portPrios p = 0 → Answers (.pfcRefreshTimer port) s fun u => u.out = [] ∧ s.Frame u [] [])
    ∧ (s.portLive p = true → s.portGroups p ≠ [] → (s.portGroups p).length ≤ 64 → Answers (.gpRefreshTimer port) s fun u =>
      let seq := (s.tm.gpSeq.get (fun _ => 0) p + 1) % 256
      let b := s.gpFrame p seq (State.gpEntries (s.portGroups p) [] (s.rd .fct FCT.FC_TIMING.GP_TIME))
      coded u (.pauseFrame port b) (b ++ ethFcs b)
      ∧ u.tm.gpSeq.get (fun _ => 0) p = seq ∧ u.tm = { s.tm with gpSeq := u.tm.gpSeq } ∧ s.Frame u [] [.tm, .lanes, .ctr])
    ∧ (s.portLive p = false ∨ s.portGroups p = [] → Answers (.gpRefreshTimer port) s fun u => u.out = [] ∧ s.Frame u [] [])

/-- R213-R220, R222, R231, R245: a frame decision of a conduit. The queue that it serves is eligible, in the highest band of its
group with an eligible queue, in the MIN tier if any group may be served there; its head frame leaves as cells with consecutive SEQ
over the members with capacity, the first in the earliest slot; with nothing to serve, or under HOLD, an idle cell with the next SEQ
is sent. -/
def Obligations.frameDecision : Prop :=
  ∀ (s : State) (con : Fin 64),
    let c := con.val
    let ks := s.activeTx c
    let works : Prop := s.enabled .sch = true ∧ s.pst .sch ≠ 0 ∧ s.pst .sch ≠ 4 ∧ s.enabled .qsc = true ∧ s.enabled .bsc = true
    let open_ : Prop := works ∧ s.damage = [] ∧ s.txOn c = true ∧ s.conCap c ≠ 0
    let free : Prop := open_ ∧ s.bit .sch HDR.PAGE_CTRL.HOLD = false
    let seq := (s.txCon c).seq
    let idle (u : State) : Prop := u.txCon c = s.txCon c ∧ (∀ i, u.queue i = s.queue i)
      ∧ (if ks.any s.zr then u.out = [] else ∃ k, s.earliest ks = some k ∧ u.out = [.cell k (idleCell seq.toNat)])
      ∧ s.Frame u [] [.cars, .tm, .ctr]
    let mch : List (Page × Nat) := (List.finRange 17).map fun i => (Page.mch i, 0x018)
    let regs : List (Page × Nat) :=
      [(.sch, 0x008), (.sch, 0x00C), (.sch, 0x01C), (.qsc, 0x008), (.qsc, 0x00C), (.qsc, 0x018), (.qsc, 0x01C), (.bsc, 0x008),
       (.bsc, 0x00C), (.bsc, 0x01C), (.bsc, 0x03C), (.fct, 0x008), (.stp, 0x00C), (.stp, 0x018), (.stp, 0x01C), (.stp, STP.STP_LAST.QUEUE.off)] ++ mch
    (¬works → Answers (.scheduleDecision con) s fun u => u.out = [] ∧ s.Frame u [] [])
    ∧ (works → Answers (.scheduleDecision con) s fun u => s.Frame u regs (.tm :: .mem :: .cars :: .cad :: .fresh :: State.eventParts))
    ∧ (works → s.damage = [] → s.txOn c = false ∨ s.conCap c = 0 → Answers (.scheduleDecision con) s fun u => u.out = [] ∧ s.Frame u [] [])
    ∧ (open_ → s.bit .sch HDR.PAGE_CTRL.HOLD = true → Answers (.scheduleDecision con) s idle)
    ∧ (free → s.choose c = none → Answers (.scheduleDecision con) s idle)
    -- the frame that leaves (of a queue whose memories are sound)
    ∧ (∀ mn p ids d f r, free → s.choose c = some (mn, p, ids, d) → (s.queue p.q).frames = f :: r → (∀ x ∈ f :: r, x.bad = 0) →
      (s.queue p.q).ctxBad = 0 → (s.queue p.q).linkBad = 0 → (s.queue p.q).chainBad = 0 → s.ctxLost p.q = false → Answers (.scheduleDecision con) s fun u =>
      (u.queue p.q).frames.map (·.bytes) = r.map (·.bytes)
      ∧ (∀ j, j ≠ p.q → (u.queue j).frames.map (·.bytes) = (s.queue j).frames.map (·.bytes))
      ∧ (u.queue p.q).deficit = (if r = [] then 0 else p.defs.get (fun _ => 0) p.q - (f.shape : Int))
      ∧ (∀ k, ks = [k] → s.zr k = true → u.out = [.clientFrame k f.bytes] ∧ (u.txCon c).seq = seq)
      ∧ ((∀ k, ks = [k] → s.zr k = false) → (u.txCon c).seq = seq + BitVec.ofNat 24 f.cells
        ∧ ∃ ms : List (Fin 16), ms.length = (State.frameCells f.bytes (GCfg.label (s.gcfg p.g)) seq.toNat true f.cells).length
          ∧ (∀ k ∈ ms, k ∈ ks) ∧ (∀ k, ms.head? = some k → s.earliest ks = some k)
          ∧ u.out = (ms.zip (State.frameCells f.bytes (GCfg.label (s.gcfg p.g)) seq.toNat true f.cells)).map fun x => .cell x.1 x.2))
    -- the choice
    ∧ (∀ mn p ids d, s.choose c = some (mn, p, ids, d) → s.eligible p.q = true ∧ p.g ∈ s.groupsOf c
      ∧ QCfg.group (s.qcfg p.q) = p.g ∧ QCfg.band (s.qcfg p.q) = p.band
      ∧ (∀ j, s.eligible j = true → QCfg.group (s.qcfg j) = p.g → p.band ≤ QCfg.band (s.qcfg j))
      ∧ (mn = true → GCfg.minRate (s.gcfg p.g) ≠ 0 ∧ (s.fillGroup p.g).minDebt < s.groupBurst p.g * 8000)
      ∧ (mn = false → (GCfg.maxRate (s.gcfg p.g) = 0 ∨ (s.fillGroup p.g).maxDebt < s.groupBurst p.g * 8000)
          ∧ ∀ x ∈ s.picks c, GCfg.minRate (s.gcfg x.g) = 0 ∨ s.groupBurst x.g * 8000 ≤ (s.fillGroup x.g).minDebt))

/-- R245, R246, R248, R252: pages read ahead and slots of memory operations. A page that arrives joins the head of its queue and
frees 64 slots, each cell marked that this read, the bursts stored there or a lost channel make uncorrectable; then the queues follow
the transitions that are open. -/
def Obligations.pagesRead : Prop :=
  ∀ (s : State) (q : Fin 1048576) (marked : BitVec 16),
    let i := q.val
    let x := s.queue i
    let mch : List (Page × Nat) := (List.finRange 17).map fun i => (Page.mch i, 0x018)
    let regs : List (Page × Nat) :=
      [(.bsc, 0x00C), (.bsc, 0x01C), (.bsc, 0x03C), (.stp, 0x00C), (.stp, 0x018), (.stp, 0x01C), (.stp, STP.STP_LAST.QUEUE.off)] ++ mch
    -- what an error found in a read may write
    let errs : List (Page × Nat) := [(.msc, 0x00C), (.msc, 0x018), (.msc, 0x01C), (.msc, 0x040), (.msc, 0x044), (.msc, 0x04C)]
      ++ (List.finRange 17).flatMap fun i => [(Page.mch i, 0x00C), (Page.mch i, 0x01C), (Page.mch i, 0x028), (Page.mch i, 0x02C), (Page.mch i, 0x030)]
    let quiet : Prop := s.steepOpen = false ∧ ∀ j, (s.queue j).steep = false ∧ (s.queue j).parked = false
    (x.flying = 0 ∨ x.mid = [] → Answers (.pageReadArrival q marked) s fun u => u.out = [] ∧ s.Frame u [] [])
    -- the page's cells are the newest of the head, its 64 slots free; then heads that hold a marked cell are dropped, and every queue
    -- follows its transitions
    ∧ (∀ pg rest, x.flying ≠ 0 → x.mid = pg :: rest → s.bit .stp HDR.FLIP_MASK.ARM = false → Answers (.pageReadArrival q marked) s fun u =>
      let r := s.silent.readPage pg.page
      let cells := (List.range 16).filter fun n => marked.getLsbD n || pg.lost.testBit n || r.1.contains n
      let v := ((r.2.setQueue i { x with
            frames := cells.foldl (fun fs n => touchCells fs 0 (x.headCells + n) 1 fun f _ => { f with bad := max f.bad 3 }) x.frames
            mid := rest, flying := x.flying - 1, segs := x.segs ++ [(some pg.page, 16)] }).freeSlots 64).countS .bsc 4 4096
      u = ((if rest = [] then v.appendTail i else v).dropHeads i 64).pumpAll
      -- a channel that holds no burst in error spoils no cell
      ∧ ((s.chan (s.holder (4096 * pg.page))).stored = [] → s.damage = [] → s.bit .msc HDR.FLIP_MASK.ARM = false → r = ([], s.silent))
      ∧ u.out = [] ∧ s.Frame u (regs ++ errs) (.mem :: .tm :: .cad :: .fresh :: State.eventParts))
    -- an operation other than a page read ends: one that waits takes its slot
    ∧ (s.tm.ops ≤ s.readOps → Answers .opsSlotFree s fun u => u.out = [] ∧ s.Frame u [] [])
    ∧ (s.readOps < s.tm.ops → quiet → Answers .opsSlotFree s fun u =>
      u.tm = (if s.tm.opsWait = 0 then { s.tm with ops := s.tm.ops - 1 } else { s.tm with opsWait := s.tm.opsWait - 1 })
      ∧ u.out = [] ∧ s.Frame u [] [.tm])
    ∧ (s.readOps < s.tm.ops → Answers .opsSlotFree s fun u =>
      u.out = [] ∧ s.Frame u ([(.stp, 0x00C), (.stp, 0x018)] ++ mch) (.tm :: .fresh :: State.eventParts))
    -- transitions: a queue within its threshold goes back on die, an unmarked head is not dropped
    ∧ (∀ f r, x.frames = f :: r → f.bad ≤ 2 → s.dropHeads i 64 = s)
    ∧ (∀ f r, x.frames = f :: r → x.steep = true → x.mid = [] → x.onDie ≤ QCfg.steepThresh (s.qcfg i) / 2 →
      s.egUsed ≤ s.rd .stp STP.GLOBAL_THRESH.CELLS → ((s.leaveSteep i).queue i).steep = false)

/-- R219, R221, R223-R227, R261: reassembly. A cell whose check fails, one of an unknown kind and one of a carrier in no conduit are
discarded; a cell of the awaited SEQ that is a whole frame goes to its host port; a cell ahead of the awaited one waits; a SEQ that
is given up is reported. -/
def Obligations.reassembly : Prop :=
  ∀ (s : State) (k : Fin 16) (cell : LineCell) (con : Fin 64) (w : BitVec 24),
    let c := con.val
    let r := s.rxCon c
    let q := cellSeq cell
    -- the carrier is in frame, with codeword lock
    let listens : Prop := s.enabled .sch = true ∧ s.enabled (.fcr k) = true ∧ s.enabled (.rxe k) = true ∧ s.ldUp k = true ∧ s.zr k = false
      ∧ s.inFrame k = true ∧ s.bit (.lfe k) LFE.FEC_STATUS.CW_LOCK = true
    let sound : Prop := listens ∧ s.damage = [] ∧ s.bit .sch HDR.FLIP_MASK.ARM = false ∧ s.bit .bsc HDR.FLIP_MASK.ARM = false
    let data : Prop := sound ∧ cellOk cell = true ∧ cellKind cell = 1 ∧ s.rxConduit k = some c ∧ s.inUsed < s.inSize
      ∧ s.contributes k = true ∧ 16 ≤ r.marks.length
    let regs : List (Page × Nat) :=
      [(.sch, 0x008), (.sch, 0x00C), (.sch, 0x018), (.sch, 0x01C), (.sch, 0x04C), (.bsc, 0x008), (.bsc, 0x00C), (.bsc, 0x018), (.bsc, 0x01C),
       (.bsc, 0x03C), (.fct, 0x008), (.fct, 0x00C), (.fct, 0x01C), (.qsc, 0x008), (.stp, 0x00C)]
    let label := cellLabel cell
    let e := s.entry 1 5 (256 * c + label)
    let port := s.portOfLabel c label
    let prio := State.ebits e 0 8 3
    let bytes := cell.body.take (cellValid cell + 1)
    let goes : Prop := s.enabled .bsc = true ∧ State.ebits e 0 0 1 = 1 ∧ s.portLive port = true ∧ (s.wdogBits port).testBit prio = false
      ∧ s.portCells port + ceilDiv bytes.length 256 ≤ State.ebits (s.fctEntry 3 port) 0 0 18
    -- some contributing member has not passed a SEQ
    let waits (v : Nat) : Prop := s.contributors c = [] ∨ ∃ m ∈ s.contributors c, ∀ x, r.marks.getD m.val none = some x → seqAfter x v = false
    (¬listens → Answers (.lineCellReceived k cell) s fun u => u.out = [] ∧ s.Frame u [] [])
    ∧ (listens → Answers (.lineCellReceived k cell) s fun u => u.out = [] ∧ s.Frame u regs (.tm :: .cad :: State.eventParts))
    ∧ (sound → cellOk cell = false → Answers (.lineCellReceived k cell) s fun u =>
      u.rd .sch SCH.SCH_LAST.SEQ = q ∧ u.rd .sch SCH.SCH_LAST.KIND = 3 ∧ u.tm = s.tm ∧ u.out = [] ∧ s.Frame u [(.sch, 0x04C)] [.ctr])
    ∧ (sound → cellOk cell = true → 2 ≤ cellKind cell → Answers (.lineCellReceived k cell) s fun u => u.out = [] ∧ s.Frame u [] [.ctr])
    ∧ (sound → cellOk cell = true → cellKind cell = 1 → s.rxConduit k = none → Answers (.lineCellReceived k cell) s fun u =>
      (u.word .sch 0x00C).getLsbD 5 = true ∧ u.tm = s.tm ∧ u.out = [] ∧ s.Frame u [(.sch, 0x00C)] State.eventParts)
    -- a whole frame in the cell awaited
    ∧ (data → goes → r.expected = some q → r.store = [] → r.part = some [] → cellSof cell = true → cellEof cell = true →
      (∀ x, r.marks.getD k.val none = some x → seqAfter q x = true ∨ x = q) → Answers (.lineCellReceived k cell) s fun u =>
      u.delivery port prio = s.delivery port prio ++ [{ bytes := bytes, lenAdj := 0, bad := 0, steep := 0 }]
      ∧ (u.rxCon c).expected = some ((q + 1) % 2 ^ 24) ∧ (u.rxCon c).store = [] ∧ (u.rxCon c).part = some [] ∧ u.out = [])
    -- a cell ahead of the awaited one, which another member may still bring
    ∧ (∀ v m, data → r.expected = some v → seqAfter q v = true → (∀ x ∈ r.store, x.seq ≠ v ∧ x.seq ≠ q) →
      m ∈ s.contributors c → m ≠ k → (∀ x, r.marks.getD m.val none = some x → seqAfter x v = false) →
      State.rxHeld r < s.reorderMax c → Answers (.lineCellReceived k cell) s fun u =>
      (u.rxCon c).expected = some v
      ∧ (u.rxCon c).store = r.store ++ [{ seq := q, cell := cell, arrived := s.time.toNat, bad := 0 }] ∧ u.tm.dq = s.tm.dq ∧ u.out = [])
    -- a late cell
    ∧ (∀ v, data → r.expected = some v → seqAfter v q = true → Answers (.lineCellReceived k cell) s fun u =>
      (u.word .sch 0x00C).getLsbD 2 = true ∧ u.out = [])
    -- a SEQ awaited too long, the next one still out
    ∧ (∀ v, r.expected = some v → w.toNat = v → (∀ x ∈ r.store, x.seq ≠ v ∧ x.seq ≠ (v + 1) % 2 ^ 24) →
      (∃ x ∈ r.store, seqAfter x.seq v = true) → waits ((v + 1) % 2 ^ 24) → Answers (.reorderTimeout con w) s fun u =>
      (u.word .sch 0x00C).getLsbD 1 = true ∧ u.rd .sch SCH.SCH_LAST.SEQ = v ∧ u.rd .sch SCH.SCH_LAST.CONDUIT = c
      ∧ u.rd .sch SCH.SCH_LAST.KIND = 1 ∧ u.rxCon c = { r with expected := some ((v + 1) % 2 ^ 24), part := none } ∧ u.out = []
      ∧ s.Frame u [(.sch, 0x00C), (.sch, 0x04C)] (.tm :: State.eventParts))
    ∧ (r.expected = none ∨ (∃ v, r.expected = some v ∧ w.toNat ≠ v ∧ seqAfter w.toNat v = false)
        ∨ (∃ x ∈ r.store, x.seq = w.toNat) → Answers (.reorderTimeout con w) s fun u => u.out = [] ∧ s.Frame u [] [])
    -- resynchronisation
    ∧ (∀ v, s.rxOn c = true → r.expected = none → State.lowest r.store = some v → Answers (.reassemblyResync con) s fun u =>
      -- the lowest SEQ collected is adopted, and what is due leaves the store
      let t := ((s.silent.setRxCon c { r with expected := some v, since := none, part := some [] }).count .sch 3 1).raise .sch 4
      u = t.flow c ∧ (u.word .sch 0x00C).getLsbD 4 = true ∧ u.out = [])
    ∧ (s.rxOn c = false ∨ r.expected ≠ none ∨ r.store = [] → Answers (.reassemblyResync con) s fun u => u.out = [] ∧ s.Frame u [] [])
    ∧ Answers (.skewReport con) s (fun u => u.rxCon c = { r with skew := min 255 (r.skewNow / 1000), skewNow := 0 }
      ∧ u.tm = { s.tm with rx := u.tm.rx } ∧ u.out = [] ∧ s.Frame u [] [.tm])
    ∧ (s.rxOn c = true → s.contributors c = [] → r.expected ≠ none → Answers (.reassemblySyncLost con) s fun u =>
      u.rxCon c = { r with expected := none, store := [], marks := List.replicate 16 none, part := some [], since := some s.time.toNat, hist := [] }
      ∧ u.tm = { s.tm with rx := u.tm.rx } ∧ u.out = [] ∧ s.Frame u [] [.tm, .ctr])
    ∧ (s.rxOn c = false ∨ s.contributors c ≠ [] ∨ r.expected = none → Answers (.reassemblySyncLost con) s fun u =>
      u.out = [] ∧ s.Frame u [] [])

/-- R230-R232, R269: the indirect windows of QSC, SCH and FCT. A command takes the address and the data registers as they stand and
sets BUSY; one written while BUSY is ignored with RESULT 1. When it completes BUSY is 0 and RESULT says why it was refused, or a
READ has loaded the entry; statistics are captured whole, and CLEAR sets them to 0 in the same instant; a poisoned entry reads 0
with RESULT 7. -/
def Obligations.indirectCommands : Prop :=
  ∀ (s : State) (win : IndPage),
    let n := State.indNum win
    let p := State.indPage n
    let b := State.indBase n
    let a := s.word p b
    let w := s.indWin n
    let busy (u : State) : Prop := getBits (u.word p (b + 4)) 8 1 = 1
    let result (u : State) : Nat := getBits (u.word p (b + 4)) 12 4
    let cmds : List (Instr × IndPage × Nat) := [(.qscIndRead, .qsc, 0), (.qscIndWrite, .qsc, 1), (.qscIndClear, .qsc, 2),
      (.schIndRead, .sch, 0), (.schIndWrite, .sch, 1), (.fctIndRead, .fct, 0), (.fctIndWrite, .fct, 1)]
    let done (u : State) (r : Nat) : Prop := ¬busy u ∧ result u = r ∧ u.out = []
    let data : List (Page × Nat) := [(p, b + 4), (p, b + 8), (p, b + 12), (p, b + 16), (p, b + 20)]
    (∀ c op, (c, win, op) ∈ cmds → s.accepts p (b + 4) = true → w.busy = none → Answers c s fun u =>
      u.indWin n = { w with busy := some { op := op, table := getBits a 20 4, index := getBits a 0 20, data := s.indData n } }
      ∧ busy u ∧ u.out = [] ∧ s.touch.Frame u [(p, b + 4)] [.tm])
    ∧ (∀ c op, (c, win, op) ∈ cmds → s.accepts p (b + 4) = true → w.busy ≠ none → Answers c s fun u =>
      result u = 1 ∧ u.out = [] ∧ s.touch.Frame u [(p, b + 4)] [])
    -- completion
    ∧ (w.busy = none → Answers (.indCommandDone win) s fun u => u.out = [] ∧ s.Frame u [] [])
    ∧ (∀ c, w.busy = some c → State.tableSpec n c.table = none → Answers (.indCommandDone win) s fun u =>
      done u 3 ∧ u.indWin n = { w with busy := none } ∧ s.Frame u [(p, b + 4)] [.tm])
    ∧ (∀ c size ops, w.busy = some c → State.tableSpec n c.table = some (size, ops) → c.op ∉ ops →
      Answers (.indCommandDone win) s fun u => done u 3 ∧ u.indWin n = { w with busy := none } ∧ s.Frame u [(p, b + 4)] [.tm])
    ∧ (∀ c size ops, w.busy = some c → State.tableSpec n c.table = some (size, ops) → c.op ∈ ops → size ≤ c.index →
      Answers (.indCommandDone win) s fun u => done u 2 ∧ u.indWin n = { w with busy := none } ∧ s.Frame u [(p, b + 4)] [.tm])
    ∧ (∀ c size ops, w.busy = some c → State.tableSpec n c.table = some (size, ops) → c.op ∈ ops → c.index < size → n = 0 →
      s.ddrOn = false → c.table = 2 ∨ (c.table ≠ 3 ∧ 131072 ≤ c.index) → Answers (.indCommandDone win) s fun u =>
      done u 6 ∧ u.indWin n = { w with busy := none } ∧ s.Frame u [(p, b + 4)] [.tm])
    ∧ (∀ c size ops, w.busy = some c → State.tableSpec n c.table = some (size, ops) → c.op ∈ ops → c.index < size → c.op = 0 →
      (n = 0 → c.table ≠ 2 ∧ (s.ddrOn = true ∨ c.table = 3 ∨ c.index < 131072)) → Answers (.indCommandDone win) s fun u =>
      done u 0 ∧ u.indData n = s.readEntry n c.table c.index ∧ u.indWin n = { busy := none, cap := none } ∧ s.Frame u data [.tm])
    -- statistics of a queue
    ∧ (∀ c, w.busy = some c → n = 0 → c.table = 2 → c.op = 0 ∨ c.op = 2 → c.index < 1048576 → s.ddrOn = true →
      let bad := s.statPoisoned c.index
      let v := if bad then 0 else s.statView c.index
      Answers (.indCommandDone win) s fun u =>
      done u (if bad then 7 else 0) ∧ u.indWin 0 = { busy := none, cap := some v }
      ∧ u.indData 0 = (if getBits a 24 1 = 1 then v.extractLsb' 128 128 else v.extractLsb' 0 128)
      ∧ (c.op = 0 → (∀ i, u.queue i = s.queue i) ∧ u.mem = s.mem)
      ∧ (c.op = 2 → u.queue c.index = { s.queue c.index with packets := 0, bytes := 0, drops := 0, steepBytes := 0 }
          ∧ u.statPoisoned c.index = false ∧ ∀ i, i ≠ c.index → u.queue i = s.queue i ∧ u.statPoisoned i = s.statPoisoned i)
      ∧ s.Frame u data [.tm, .mem])
    -- the tables: entries and operations
    ∧ State.tableSpec 0 0 = some (1048576, [0, 1]) ∧ State.tableSpec 0 1 = some (1048576, [0]) ∧ State.tableSpec 0 2 = some (1048576, [0, 2])
    ∧ State.tableSpec 0 3 = some (64, [0, 1]) ∧ State.tableSpec 1 0 = some (65536, [0, 1]) ∧ State.tableSpec 1 1 = some (65536, [0])
    ∧ State.tableSpec 1 2 = some (64, [0, 1]) ∧ State.tableSpec 1 3 = some (64, [0, 1]) ∧ State.tableSpec 1 4 = some (4096, [0, 1])
    ∧ State.tableSpec 1 5 = some (16384, [0, 1]) ∧ State.tableSpec 2 0 = some (64, [0, 1]) ∧ State.tableSpec 2 1 = some (64, [0])
    ∧ State.tableSpec 2 2 = some (4096, [0]) ∧ State.tableSpec 2 3 = some (64, [0, 1])

/-- R209, R210, R212, R216, R229, R232, R233, R253, R265: what a WRITE of a table entry does. A field out of range is RESULT 4, what
R210 and R212 forbid is RESULT 5, and a refused one changes no entry; one accepted stores the fields that the layout lists. A
queue's entry ends its quarantine. TAG_CFG refuses reserved EtherTypes; a high-water mark starts again at the present occupancy. -/
def Obligations.tableWrites : Prop :=
  ∀ (s : State) (win : IndPage) (c : IndCmd) (v : Word) (ingress : Bool),
    let n := State.indNum win
    let p := State.indPage n
    let b := State.indBase n
    let i := c.index
    let e := c.data
    let f := State.ebits e
    let old := s.entry n c.table i
    let o := State.ebits old
    let m := f 0 0 16
    let writes (size : Nat) : Prop := (s.indWin n).busy = some c ∧ c.op = 1 ∧ i < size
    let done (r : Nat) (u : State) : Prop := getBits (u.word p (b + 4)) 8 1 = 0 ∧ getBits (u.word p (b + 4)) 12 4 = r
      ∧ (u.indWin n).busy = none ∧ u.out = []
    let refused (r : Nat) (u : State) : Prop := done r u ∧ u.tm.tabs = s.tm.tabs ∧ s.Frame u [(p, b + 4)] [.tm]
    let mch : List (Page × Nat) := (List.finRange 17).map fun i => (Page.mch i, 0x018)
    let regs : List (Page × Nat) := [(p, b + 4), (p, 0x018), (.qsc, 0x008), (.sch, 0x008), (.bsc, 0x008), (.fct, 0x008), (.stp, 0x00C), (.stp, 0x018)] ++ mch
    let stored (x : BitVec 128) (u : State) : Prop := done 0 u ∧ u.entry n c.table i = x
      ∧ (∀ k, k ≠ 0x1000000 * (16 * n + c.table) + i → u.tm.tabs.get entryReset k = s.tm.tabs.get entryReset k)
      ∧ s.Frame u regs (.tm :: .fresh :: State.eventParts)
    let w4 := State.words4
    let moved : List (Fin 16) := State.membersOf (m ^^^ o 0 0 16)
    let forbidden (t : Nat) : Prop := (∃ x, x < 64 ∧ x ≠ i ∧ State.ebits (s.entry 1 t x) 0 0 16 &&& m ≠ 0)
      ∨ (1 < popCount 16 m ∧ ∃ k ∈ State.membersOf m, s.zr k = true ∨ s.bit (.lfe k) LFE.FEC_CTRL.ZR_MODE = true)
    let runs (r : Prop) (q : State → Prop) : Prop := r → Answers (.indCommandDone win) s q
    -- a queue
    (let at' : Prop := writes 1048576 ∧ n = 0 ∧ c.table = 0 ∧ (s.ddrOn = true ∨ i < 131072)
      let moves : Prop := (f 0 0 16 ≠ o 0 0 16 ∨ f 0 16 3 ≠ o 0 16 3) ∧ (o 0 19 1 = 1 ∨ (s.queue i).depth ≠ 0)
      runs (at' ∧ f 1 0 18 < 64) (refused 4)
      ∧ runs (at' ∧ 64 ≤ f 1 0 18 ∧ moves) (refused 5)
      ∧ runs (at' ∧ 64 ≤ f 1 0 18 ∧ ¬moves) fun u => stored (w4 (f 0 0 32) (f 1 0 18) (f 2 0 24) (f 3 0 24)) u
          ∧ (u.queue i).quarantined = false)
    -- a host port of the queue section
    ∧ (let at' : Prop := writes 64 ∧ n = 0 ∧ c.table = 3
      runs (at' ∧ f 0 22 2 = 3) (refused 4) ∧ runs (at' ∧ f 0 22 2 ≠ 3) (stored (w4 (f 0 0 24) 0 0 0)))
    -- a group
    ∧ (let at' : Prop := writes 65536 ∧ n = 1 ∧ c.table = 0
      let bad : Prop := 51233600 < f 1 0 26 ∨ 51233600 < f 2 0 26 ∨ (f 2 0 26 ≠ 0 ∧ f 2 0 26 < f 1 0 26) ∨ f 3 0 18 < 64 ∨ f 3 18 14 = 0
      let moves : Prop := f 0 0 6 ≠ o 0 0 6 ∧ (o 0 6 1 = 1 ∨ s.groupCells i ≠ 0)
      runs (at' ∧ bad) (refused 4) ∧ runs (at' ∧ ¬bad ∧ moves) (refused 5)
      ∧ runs (at' ∧ ¬bad ∧ ¬moves) (stored (w4 (f 0 0 32 &&& 0xFF0FFF7F) (f 1 0 26) (f 2 0 26) (f 3 0 32))))
    -- a transmit conduit: a member leaves or joins an enabled one only while its encoder is drained
    ∧ (let at' : Prop := writes 64 ∧ n = 1 ∧ c.table = 2
      let bad : Prop := forbidden 2 ∨ (o 0 16 1 = 1 ∧ ∃ k ∈ moved, s.pst (.lfe k) ≠ 6)
      runs (at' ∧ bad) (refused 5)
      ∧ runs (at' ∧ ¬bad) fun u => stored (w4 (m + f 0 16 1 * 0x10000) 0 0 0) u
          ∧ (f 0 16 1 = 1 → o 0 16 1 = 0 → (u.txCon i).seq = 0))
    -- a receive conduit (here with no carrier in service moved from an enabled one)
    ∧ (let at' : Prop := writes 64 ∧ n = 1 ∧ c.table = 3
      let st (k : Fin 16) := s.rd (.csc k) CSC.CSC_STATUS.STATE
      runs (at' ∧ (f 0 24 8 = 0 ∨ 50 < f 0 24 8)) (refused 4)
      ∧ runs (at' ∧ 1 ≤ f 0 24 8 ∧ f 0 24 8 ≤ 50 ∧ forbidden 3) (refused 5)
      ∧ runs (at' ∧ 1 ≤ f 0 24 8 ∧ f 0 24 8 ≤ 50 ∧ ¬forbidden 3 ∧ (o 0 16 1 = 0 ∨ ∀ k ∈ moved, st k ≠ 5 ∧ st k ≠ 6)) fun u =>
          stored (w4 (m + f 0 16 1 * 0x10000 + f 0 24 8 * 0x1000000) 0 0 0) u
          ∧ (f 0 16 1 = 1 → o 0 16 1 = 0 → (u.rxCon i).expected = none ∧ (u.rxCon i).store = []))
    -- a profile, an entry of the ingress port map
    ∧ (let at' : Prop := writes 4096 ∧ n = 1 ∧ c.table = 4
      runs (at' ∧ (51233600 < f 0 0 26 ∨ f 1 0 24 = 0)) (refused 4)
      ∧ runs (at' ∧ f 0 0 26 ≤ 51233600 ∧ f 1 0 24 ≠ 0) (stored (w4 (f 0 0 26) (f 1 0 24) (f 2 0 16) 0)))
    ∧ runs (writes 16384 ∧ n = 1 ∧ c.table = 5) (stored (w4 (f 0 0 32 &&& 0x77F) 0 0 0))
    -- flow control of a conduit, of a host port
    ∧ (let at' : Prop := writes 64 ∧ n = 2 ∧ c.table = 0
      runs (at' ∧ f 0 0 16 < f 0 16 16) (refused 4)
      ∧ runs (at' ∧ f 0 16 16 ≤ f 0 0 16) (stored (w4 (f 0 0 32) (f 1 0 32) (f 2 0 32) (f 3 0 32 &&& 0xFFFFC0FF))))
    ∧ runs (writes 64 ∧ n = 2 ∧ c.table = 3) (stored (w4 (f 0 0 32 &&& 0xFF1FFFFF) 0 0 0))
    -- TAG_CFG and the high-water marks
    ∧ (let y := v.toNat % 2 ^ 16
      let bad : Prop := y < 0x600 ∨ y = 0x8100 ∨ y = 0x88A8 ∨ y = 0x8808
      s.accepts .qsc 0x024 = true → Answers (.tagCfgWrite v) s fun u =>
      (bad → u.rd .qsc QSC.TAG_CFG.ETYPE = s.rd .qsc QSC.TAG_CFG.ETYPE ∧ u.bit .qsc QSC.TAG_CFG.REJECT = true)
      ∧ (¬bad → u.rd .qsc QSC.TAG_CFG.ETYPE = y ∧ u.bit .qsc QSC.TAG_CFG.REJECT = false)
      ∧ u.out = [] ∧ s.touch.Frame u [(.qsc, 0x024)] [])
    ∧ (let g := if ingress then 0x030 else 0x028
      s.accepts .bsc g = true → Answers (.hwmClear ingress) s fun u =>
      (if ingress then u.rd .bsc BSC.IN_HWM.CELLS = s.rd .bsc BSC.IN_OCC.CELLS else u.rd .bsc BSC.EG_HWM.CELLS = s.rd .bsc BSC.EG_OCC.CELLS)
      ∧ u.out = [] ∧ s.touch.Frame u [(.bsc, g)] [])

/-- R272, R275, R277-R283: reads of DDR5. An uncorrectable burst is counted and located, with kind 2 in a merge (which stores it
poisoned), 3 in a read and 5 in patrol, which poisons it; its owner acts: a context's queue is quarantined, the statistics entries
of the burst read RESULT 7. A correctable one is counted; the 16th of a second in a row has the row copied; a device with its share
of the errors is marked. (The codes of mode register 4 are the model's: log 42.) -/
def Obligations.memoryReads : Prop :=
  ∀ (s : State) (ch : Fin 17) (loc : BurstLoc) (e0 : BurstErr) (rates : List Nat),
    let p := Page.mch ch
    -- the errors of the read, with those that the burst holds
    let e := s.withStored ch loc e0
    let sub := loc.sub.toNat
    let x := s.chan ch
    let f := s.failedDev ch loc.sub
    let a := loc.addr.toNat
    let r := State.rowKey loc
    let errs := ((List.range 10).filter fun d => f != some d).foldl (fun n d => n + e.perDevice.getD d 0) 0
    let lost : Prop := e.poisoned = true ∨ 16 < 2 * errs + (if f.isSome then 8 else 0)
    let st := s.rd p MCH.CH_STATUS.STATE
    let answers : Prop := (st = 2 ∧ s.pst p ≠ 4) ∨ st = 3
    let sound : Prop := s.damage = [] ∧ s.bit .msc HDR.FLIP_MASK.ARM = false ∧ s.bit p HDR.FLIP_MASK.ARM = false
    let clean : Prop := ¬lost ∧ ∀ n ∈ e.perDevice, n = 0
    let spoilt : Prop := ¬lost ∧ ¬clean
    let ev (u : State) (q : Page) (b : Nat) : Prop := (u.word q 0x00C).getLsbD b = true
    let at' (u : State) (kind : Nat) : Prop := u.rd .msc MSC.ERR_ADDR_HI.KIND = kind ∧ u.rd .msc MSC.ERR_ADDR_HI.CHANNEL = ch.val
      ∧ u.rd .msc MSC.ERR_ADDR_LO.word = a % 2 ^ 32 ∧ u.rd .msc MSC.ERR_ADDR_HI.ADDR_HI = a / 2 ^ 32
      ∧ u.rd .msc MSC.ERR_ADDR_HI.REGION = State.region a
    let q := State.queueAt a
    let owner (u : State) : Prop := (State.region a = 1 → q < 1048576 → (u.queue q).quarantined = true ∧ (u.queue q).frames = [] ∧ ev u .qsc 3)
      ∧ (State.region a = 2 → q < 1048576 → u.statPoisoned q = true)
    let busy : Bool := (s.rd .msc MSC.PATROL_CTRL.PAUSE).testBit ch.val
    let patrols : Prop := s.bit .msc MSC.MEM_CTRL.PATROL_EN = true ∧ busy = false ∧ answers ∧ State.region a ≠ 0 ∧ s.tm.ops < 40960
    let pages : List (Page × Nat) := (List.finRange 17).map fun i => (Page.mch i, 0x008)
    let regs : List (Page × Nat) :=
      [(p, 0x00C), (p, 0x018), (p, 0x01C), (p, 0x024), (p, 0x02C), (p, 0x030), (.mch 16, 0x024), (.msc, 0x008), (.msc, 0x00C), (.msc, 0x018),
       (.msc, 0x01C), (.msc, 0x028), (.msc, 0x030), (.msc, 0x034), (.msc, 0x038), (.msc, 0x040), (.msc, 0x044), (.msc, 0x048), (.msc, 0x04C),
       (.cad, CAD.CAD_LAST.POOL.off), (.cad, 0x018), (.qsc, 0x00C), (.bsc, 0x00C), (.bsc, 0x03C), (.stp, STP.OPS_INFLIGHT.HWM.off)] ++ pages
    let parts : List StatePart := .mem :: .tm :: .cad :: State.eventParts
    -- a read
    (¬answers → Answers (.ddrReadReturn ch loc e0) s fun u => u.out = [] ∧ s.Frame u [] [])
    ∧ (answers → Answers (.ddrReadReturn ch loc e0) s fun u => u.out = [] ∧ s.Frame u regs parts)
    ∧ (answers → lost → State.region a ≠ 2 → Answers (.ddrReadReturn ch loc e0) s fun u => at' u 3 ∧ ev u p 3 ∧ owner u)
    ∧ (answers → lost → State.region a = 2 → Answers (.ddrReadReturn ch loc e0) s fun u =>
      at' u 2 ∧ ev u p 3 ∧ ev u .msc 1 ∧ owner u
      ∧ u.rd .msc MSC.POISON_COUNT.COUNT = min (s.rd .msc MSC.POISON_COUNT.COUNT + 1) (2 ^ 32 - 1))
    ∧ (answers → spoilt → sound → State.region a = 2 → Answers (.ddrReadReturn ch loc e0) s fun u => at' u 1 ∧ ev u p 6)
    ∧ (answers → clean → sound → Answers (.ddrReadReturn ch loc e0) s fun u =>
      -- the read and the write of a merge take an operation slot each
      u.tm = (if State.region a = 2 then ((s.takeReads 1).takeWrites 1).tm else s.tm)
      ∧ s.Frame u (pages ++ [(.msc, 0x008), (.msc, 0x00C), (.msc, 0x028)]) (.mem :: .tm :: State.eventParts))
    -- the 16th corrected burst of a row, the share of a device
    ∧ (answers → spoilt → sound → x.second = s.time.toNat / 1000000000 → x.rowHits.get (fun _ => 0) r = 15 →
      s.bit .msc MSC.MEM_CTRL.REMAP_EN = true → r ∉ x.remap → r ∉ x.copying → x.remap.length + x.copying.length < 1024 →
      State.region a ≠ 2 → Answers (.ddrReadReturn ch loc e0) s fun u => r ∈ (u.chan ch).copying)
    ∧ (∀ d, answers → spoilt → sound → State.region a ≠ 2 → x.second = s.time.toNat / 1000000000 → f = none → d < 10 → x.bursts.length = 2 →
      x.syms.length = 20 → (∀ i, i < 10 → i ≠ d → e.perDevice.getD i 0 = 0 ∧ x.syms.getD (10 * sub + i) 0 = 0) →
      s.bit .msc MSC.MEM_CTRL.AUTO_DEV_FAIL = true → s.rd .msc MSC.DEV_FAIL_CFG.BURSTS ≤ x.bursts.getD sub 0 →
      1 ≤ s.rd .msc MSC.DEV_FAIL_CFG.SHARE → s.rd .msc MSC.DEV_FAIL_CFG.SHARE ≤ 100 → e.perDevice.length ≤ 10 →
      Answers (.ddrReadReturn ch loc e0) s fun u =>
      u.rd p (if loc.sub then MCH.CH_STATUS.FAIL_B else MCH.CH_STATUS.FAIL_A) = d + 1 ∧ ev u p 0
      ∧ (ch.val, 10 * sub + d) ∈ u.mem.repairDevs)
    -- patrol
    ∧ (¬patrols → Answers (.patrolRead ch loc e0) s fun u => u.out = [] ∧ s.Frame u [] [])
    ∧ (patrols → Answers (.patrolRead ch loc e0) s fun u => u.out = [] ∧ s.Frame u regs parts)
    ∧ (patrols → lost → Answers (.patrolRead ch loc e0) s fun u => at' u 5 ∧ ev u .msc 1 ∧ ev u p 3 ∧ owner u)
    ∧ (patrols → spoilt → Answers (.patrolRead ch loc e0) s fun u => at' u 4 ∧ (x.patPos + 1 ≠ 2 ^ 26 → r ∈ (u.chan ch).patNow))
    ∧ (patrols → Answers (.patrolRead ch loc e0) s fun u =>
      (u.chan ch).patPos = (if x.patPos + 1 = 2 ^ 26 then 0 else x.patPos + 1)
      ∧ (u.chan ch).passes = (if x.patPos + 1 = 2 ^ 26 then x.passes + 1 else x.passes))
    -- mode register 4; calibration in the background
    ∧ (answers ∨ st = 4 ∨ st = 5 → rates.length ≤ 20 → (∀ n ∈ rates, n < 8) → Answers (.refreshRatePoll ch rates) s fun u =>
      u.rd p MCH.REFRESH.RATE = rates.foldl max 0 ∧ u.rd p MCH.REFRESH.TREFI = (if ∃ n ∈ rates, 3 ≤ n then 19 else 39)
      ∧ u.rd p MCH.REFRESH.HOT = rates.countP (fun n => decide (5 ≤ n)) ∧ (u.bit p MCH.CH_STATUS.DRAM_HOT = true ↔ ∃ n ∈ rates, 5 ≤ n)
      ∧ ((∃ n ∈ rates, 5 ≤ n) → s.bit p MCH.CH_STATUS.DRAM_HOT = false → ev u p 4)
      ∧ u.out = [] ∧ s.Frame u [(p, 0x00C), (p, 0x024), (p, 0x038)] State.eventParts)
    ∧ (¬answers → st ≠ 4 → st ≠ 5 → Answers (.refreshRatePoll ch rates) s fun u => u.out = [] ∧ s.Frame u [] [])
    ∧ Answers (.backgroundCalibration ch) s (fun u => u.out = [] ∧ s.Frame u [] [])

/-- R282, R283, R285, R286, R288-R290: device marks, row copies, and the migration of a channel to MC16: how it starts or is
refused, each burst copied, the switch, an abort, and the loss of a channel, of the source, or of MC16. -/
def Obligations.channelSparing : Prop :=
  ∀ (s : State) (ch : Fin 17) (v : Word) (err : BurstErr),
    let p := Page.mch ch
    let sp := Page.mch 16
    let st (q : Page) := s.rd q MCH.CH_STATUS.STATE
    let x := s.chan ch
    let mig := s.rd .msc MSC.MIG_STATUS.STATE
    let src := s.rd .msc MSC.MIG_STATUS.SOURCE
    let slot := s.rd .msc MSC.MEM_STATUS.SPARE_FOR
    let svc := s.rd .msc MSC.MEM_STATUS.IN_SVC
    let ev (u : State) (q : Page) (b : Nat) : Prop := (u.word q 0x00C).getLsbD b = true
    let pages : List (Page × Nat) := (List.finRange 17).map fun i => (Page.mch i, 0x008)
    let chans : List (Page × Nat) := (List.finRange 17).map fun i => (Page.mch i, 0x024)
    let shown : List (Page × Nat) := pages ++ [(.msc, 0x008), (.msc, 0x00C), (.msc, 0x028)]
    let cad : List (Page × Nat) := [(.cad, CAD.CAD_LAST.POOL.off), (.cad, 0x018)]
    let errs : List (Page × Nat) := [(.msc, 0x018), (.msc, 0x01C), (.msc, 0x034), (.msc, 0x038), (.msc, 0x040), (.msc, 0x044), (.msc, 0x048), (.msc, 0x04C)]
      ++ (List.finRange 17).flatMap fun i => [(Page.mch i, 0x00C), (Page.mch i, 0x018), (Page.mch i, 0x01C), (Page.mch i, 0x024), (Page.mch i, 0x028),
        (Page.mch i, 0x02C), (Page.mch i, 0x030)]
    let gone : List (Page × Nat) := shown ++ chans ++ cad ++ [(.msc, 0x030), (.msc, 0x048), (.qsc, 0x00C), (.bsc, 0x00C), (.bsc, 0x03C)]
    let parts : List StatePart := .mem :: .tm :: .cad :: State.eventParts
    -- CH_CTRL
    let dev := v.toNat % 32
    let fail := if dev < 10 then MCH.CH_STATUS.FAIL_A else MCH.CH_STATUS.FAIL_B
    let marks : Prop := v.toNat / 2 ^ 16 = 0x4D46 ∧ v.getLsbD 5 = true ∧ dev < 20 ∧ s.rd p fail = 0
    let ready (n : Nat) : Prop := st sp = 5 ∧ mig ≠ 1 ∧ mig ≠ 2 ∧ n < 16 ∧ st (.mch (Fin.ofNat 17 n)) = 2 ∧ svc.testBit n = true
    let auto : Prop := s.bit .msc MSC.MEM_CTRL.AUTO_MIG = true ∧ ready ch.val
    let markRegs := shown ++ cad ++ [(p, 0x00C), (p, 0x024), (sp, 0x024), (.msc, 0x030), (.msc, 0x034)]
    let started (u : State) (n : Nat) : Prop := u.rd .msc MSC.MIG_STATUS.STATE = 1 ∧ u.rd .msc MSC.MIG_STATUS.SOURCE = n
      ∧ u.rd .msc MSC.MIG_STATUS.PROGRESS = 0 ∧ u.rd (.mch (Fin.ofNat 17 n)) MCH.CH_STATUS.STATE = 3 ∧ u.rd sp MCH.CH_STATUS.STATE = 4
      ∧ u.mem.copied = 0 ∧ ev u .msc 2
    (s.accepts p 0x020 = true → marks → Answers (.markFail ch v) s fun u =>
      u.rd p fail = dev % 10 + 1 ∧ ev u p 0 ∧ u.mem.repairDevs = s.mem.repairDevs ++ [(ch.val, dev)]
      ∧ (auto → started u ch.val ∧ (u.rd .msc MSC.PATROL_CTRL.PAUSE).testBit ch.val = true)
      ∧ (¬auto → u.rd .msc MSC.MIG_STATUS.word = s.rd .msc MSC.MIG_STATUS.word) ∧ u.out = [] ∧ s.touch.Frame u markRegs parts)
    ∧ (s.accepts p 0x020 = true → v.toNat / 2 ^ 16 = 0x4D46 → ¬marks → Answers (.markFail ch v) s fun u =>
      u.rd p fail = s.rd p fail ∧ u.mem = s.mem ∧ u.out = [] ∧ s.touch.Frame u shown State.eventParts)
    ∧ (s.accepts p 0x020 = true → v.toNat / 2 ^ 16 ≠ 0x4D46 → Answers (.markFail ch v) s fun u =>
      u.rd .dev DEV.ACCESS_ERR.MALFORMED = min (s.rd .dev DEV.ACCESS_ERR.MALFORMED + 1) (2 ^ DEV.ACCESS_ERR.MALFORMED.w - 1) ∧ u.out = []
      ∧ s.touch.Frame u [(.dev, DEV.ACCESS_ERR.MALFORMED.off)] [])
    -- a row's copy ends
    ∧ (∀ r rest, x.copying = r :: rest → x.remap.length < 1024 → Answers (.rowCopyDone ch) s fun u =>
      u.chan ch = { x with copying := rest, remap := x.remap ++ [r], stored := (u.chan ch).stored } ∧ u.rd p MCH.REMAP_STATUS.USED = x.remap.length + 1
      ∧ u.rd p MCH.REMAP_LAST.LOCATION = r % 2 ^ 23 ∧ u.mem.repairRows = (if (ch.val, r) ∈ s.mem.repairRows then s.mem.repairRows else s.mem.repairRows ++ [(ch.val, r)]) ∧ ev u p 1 ∧ u.out = []
      ∧ s.Frame u (shown ++ cad ++ [(p, 0x00C), (p, 0x018), (p, 0x02C), (p, 0x03C), (.msc, 0x04C)]) (.mem :: .cad :: State.eventParts))
    ∧ (x.copying = [] → Answers (.rowCopyDone ch) s fun u => u.out = [] ∧ s.Frame u [] [])
    -- MIG_CTRL
    ∧ (let n := v.toNat % 32
      let ok : Prop := v.toNat / 2 ^ 16 % 256 ≠ 0 ∧ n < 16 ∧ v.getLsbD 9 = false
      (s.accepts .msc 0x02C = true → ok → ready n → Answers (.migStart v) s fun u =>
        started u n ∧ u.rd .msc MSC.MIG_CTRL.SOURCE = n ∧ u.rd .msc MSC.MIG_CTRL.PACE = v.toNat / 2 ^ 16 % 256
        ∧ u.bit .msc MSC.MIG_STATUS.CFG_REJECT = false ∧ u.out = []
        ∧ u.mem = { s.mem with chans := u.mem.chans, copied := 0, lock := none, mirrored := [], autoMig := false }
        ∧ u.chan 16 = { s.chan 16 with stored := [] } ∧ u.tm = { s.tm with qs := u.tm.qs }
        ∧ s.touch.Frame u [(.msc, 0x00C), (.msc, 0x02C), (.msc, 0x030), (.mch (Fin.ofNat 17 n), 0x024), (sp, 0x024)] (.mem :: .tm :: State.eventParts))
      ∧ (s.accepts .msc 0x02C = true → ¬(ok ∧ ready n) → Answers (.migStart v) s fun u =>
        u.bit .msc MSC.MIG_STATUS.CFG_REJECT = true ∧ u.rd .msc MSC.MIG_STATUS.STATE = mig ∧ (¬ok → u.word .msc 0x02C = s.word .msc 0x02C)
        ∧ u.out = [] ∧ s.touch.Frame u [(.msc, 0x02C), (.msc, 0x030)] []))
    ∧ (s.accepts .msc 0x02C = true → s.rd .msc MSC.MIG_CTRL.PACE ≠ 0 → s.rd .msc MSC.MIG_CTRL.SOURCE < 16 →
      s.bit .msc MSC.MIG_CTRL.START = false → Answers .migAbort s fun u =>
      (mig = 1 → u.rd .msc MSC.MIG_STATUS.STATE = 4 ∧ u.rd sp MCH.CH_STATUS.STATE = 5
        ∧ (src < 16 → u.rd (.mch (Fin.ofNat 17 src)) MCH.CH_STATUS.STATE = 2))
      ∧ (mig ≠ 1 → u.rd .msc MSC.MIG_STATUS.STATE = mig ∧ u.mem = s.mem ∧ u.tm = s.tm)
      -- the source serves on with what it holds, of some statistics an older merge (KL-06)
      ∧ (mig = 1 → u.mem = { s.mem with statOld := [], ctxOld := [], lock := none }
        ∧ ∀ i, (∀ y ∈ s.mem.statOld, y.1 ≠ i) → u.queue i = s.queue i) ∧ u.out = []
      ∧ s.touch.Frame u [(.msc, 0x02C), (.msc, 0x030), (.mch (Fin.ofNat 17 src), 0x024), (sp, 0x024)] [.mem, .tm])
    -- the copy, the switch
    ∧ (let b := s.mem.copied
      let c : Fin 17 := Fin.ofNat 17 src
      let l := State.locOf c (State.burstAddr src b)
      let e := s.withStored c l err
      let ue := State.uncorrectable e (s.failedDev c l.sub)
      let last : Prop := s.mem.lock ≠ none ∧ b = 536870912
      -- the next burst is read under a lock of its address, and will be written poisoned where it reads uncorrectable
      (mig = 1 → ¬last → src < 16 → s.tm.ops + 2 ≤ 40960 → s.damage = [] → Answers (.migCopyBurst err) s fun u =>
        u.mem.copied = b + 1 ∧ u.mem.lock = some { addr := State.burstAddr src b, poison := ue, dropped := false }
        ∧ u.tm.ops = s.tm.ops + 2 ∧ u.rd .msc MSC.MIG_STATUS.PROGRESS = min ((b + 1) * 65536 / 536870912) 0xFFFF
        ∧ u.rd .msc MSC.MIG_STATUS.STATE = 1
        ∧ (ue = true → u.rd .msc MSC.ERR_ADDR_HI.KIND = 6 ∧ u.rd .msc MSC.ERR_ADDR_HI.CHANNEL = src
            ∧ u.rd .msc MSC.ERR_ADDR_LO.word = State.burstAddr src b % 2 ^ 32 ∧ ev u (.mch c) 3) ∧ u.out = [])
      -- the burst read before is written, unless a mirrored write fell between
      ∧ (∀ k, mig = 1 → s.mem.lock = some k → k.dropped = false → k.poison = true → src < 16 → Answers (.migCopyBurst err) s fun u =>
        ((u.chan 16).stored.get (fun _ => Stored.sound) (k.addr / 64)).err.poisoned = true ∧ ev u .msc 1 ∧ u.out = [])
      ∧ (∀ k, s.mem.lock = some k → k.dropped = true → s.tm.ops + 2 > 40960 → Answers (.migCopyBurst err) s fun u =>
        u.chan 16 = s.chan 16 ∧ u.out = [])
      -- with the last one the switch is due
      ∧ (mig = 1 → last → Answers (.migCopyBurst err) s fun u => u.rd .msc MSC.MIG_STATUS.STATE = 2 ∧ u.mem.lock = none ∧ u.mem.copied = b ∧ u.out = [])
      ∧ Answers (.migCopyBurst err) s (fun u => u.out = []
        ∧ s.Frame u (shown ++ cad ++ errs ++ [(sp, 0x018), (.msc, 0x030)]) (.mem :: .tm :: .cad :: State.eventParts))
      ∧ (mig ≠ 1 ∨ 40960 < s.tm.ops + 2 → s.mem.lock = none → Answers (.migCopyBurst err) s fun u => u.out = [] ∧ s.Frame u [] []))
    ∧ (mig = 2 → src < 16 → Answers .migSwitch s fun u =>
      let c := Page.mch (Fin.ofNat 17 src)
      u.rd .msc MSC.MIG_STATUS.STATE = 3 ∧ u.rd .msc MSC.MEM_STATUS.SPARE_FOR = src ∧ u.bit .msc MSC.MEM_STATUS.SPARE_USED = true
      ∧ u.rd c MCH.CH_STATUS.STATE = 6 ∧ u.pst c = 0 ∧ u.rd sp MCH.CH_STATUS.STATE = 2 ∧ u.rd sp MCH.CH_STATUS.LOGICAL = src
      ∧ (u.rd .msc MSC.MEM_STATUS.IN_SVC).testBit src = false ∧ (u.rd .msc MSC.MEM_STATUS.IN_SVC).testBit 16 = true ∧ ev u .msc 3
      -- patrol of the slot goes on where it stood, and a burst that was copied poisoned is the slot's
      ∧ u.chan 16 = { s.chan 16 with patPos := (s.chan (Fin.ofNat 17 src)).patPos, passes := (s.chan (Fin.ofNat 17 src)).passes }
      ∧ u.mem.statOld = [] ∧ u.mem.ctxOld = [] ∧ u.mem.lock = none ∧ u.mem.copied = s.mem.copied
      ∧ (∀ e ∈ (s.chan 16).stored, e.2.err.poisoned = true → State.region (64 * e.1) = 2 → State.queueAt (64 * e.1) < 1048576 →
        u.statPoisoned (State.queueAt (64 * e.1)) = true) ∧ u.out = []
      ∧ s.Frame u (shown ++ chans ++ cad ++ [(.msc, 0x030)]) (.mem :: .cad :: State.eventParts))
    ∧ (mig ≠ 2 → Answers .migSwitch s fun u => u.out = [] ∧ s.Frame u [] [])
    -- a channel stops answering
    ∧ Answers (.channelLost ch) s (fun u => u.out = [] ∧ s.Frame u gone (.fresh :: parts))
    ∧ (st p = 3 → ch.val < 16 → Answers (.channelLost ch) s fun u =>
      u.rd .msc MSC.MIG_STATUS.STATE = 5 ∧ ev u .msc 4 ∧ ev u .msc 5 ∧ u.rd p MCH.CH_STATUS.STATE = 6 ∧ u.rd sp MCH.CH_STATUS.STATE = 2
      ∧ u.rd .msc MSC.MEM_STATUS.SPARE_FOR = ch.val
      ∧ ∀ i, i < 1048576 → i / 2 % 16 = ch.val → s.mem.copied ≤ 469827584 + i / 32 → u.statPoisoned i = true)
    ∧ (st p = 2 → s.pst p ≠ 4 → ch.val ≠ 16 → st sp = 5 → Answers (.channelLost ch) s fun u =>
      u.rd .msc MSC.MEM_STATUS.SPARE_FOR = ch.val ∧ u.rd sp MCH.CH_STATUS.STATE = 2 ∧ u.rd p MCH.CH_STATUS.STATE = 6 ∧ ev u .msc 5
      ∧ ∀ i, i < 1048576 → i / 2 % 16 = ch.val → u.statPoisoned i = true)
    ∧ (st p = 2 → s.pst p ≠ 4 → ch.val = 16 ∨ st sp ≠ 5 → Answers (.channelLost ch) s fun u =>
      let n := if ch.val = 16 then slot else ch.val
      n ∈ u.mem.lostSlots ∧ u.pst p = 4 ∧ (u.rd .msc MSC.MEM_STATUS.IN_SVC).testBit ch.val = false ∧ ev u .msc 5
      ∧ (∀ i, i < 1048576 → i / 2 % 16 = n → u.statPoisoned i = true)
      ∧ ∀ i, (s.queue i).parked = true → i % 16 = n → i ∉ s.tm.cache → (u.queue i).quarantined = true)
    ∧ (st p = 5 ∨ st p = 4 → Answers (.channelLost ch) s fun u => u.rd sp MCH.CH_STATUS.STATE = 6 ∧ u.pst sp = 0)
    ∧ (st sp = 4 → src < 16 → Answers .spareChannelLost s fun u =>
      u.rd sp MCH.CH_STATUS.STATE = 6 ∧ u.pst sp = 0 ∧ u.rd (.mch (Fin.ofNat 17 src)) MCH.CH_STATUS.STATE = 2
      ∧ u.rd .msc MSC.MIG_STATUS.STATE = 5 ∧ ev u .msc 4 ∧ u.mem = { s.mem with statOld := [], ctxOld := [], lock := none, spareGone := true } ∧ u.out = []
      ∧ s.Frame u (shown ++ chans ++ cad ++ [(.msc, 0x030)]) parts)
    ∧ (st sp ≠ 4 → Answers .spareChannelLost s fun u => u.out = [] ∧ s.Frame u [] [])

/-- R298, R299, R301-R306: ports and lanes of a host die. The port mode changes only while every port is disabled, and frees every
spare; a port is enabled only while its lanes are awake; a group sleeps only while none of its ports is enabled, and wakes with an
event; a write out of range is refused. A port that loses its alignment, that receives Local Fault, or whose codewords are uncorrectable
sends Remote Fault. (Which bits a LINK_DOWN cause leaves in PORT_STATUS, and which lanes a lost alignment loses, is the model's reading
of R301: log 18.) -/
def Obligations.portsAndLanes : Prop :=
  ∀ (s : State) (d : Fin 2) (g : Fin 4) (v : Word) (port : Fin 32) (rx : Bool) (cause : LinkCause),
    let h := Page.hsc d
    let p := Page.hlg d g
    let ev (u : State) (q : Page) (b : Nat) : Prop := (u.word q 0x00C).getLsbD b = true
    let ups : List (Page × Nat) := (h, 0x03C) :: (List.finRange 4).map fun i => (Page.hlg d i, 0x024)
    let refused (u : State) : Prop := u.bit p HLG.GRP_STATUS.CFG_REJECT = true ∧ u.out = [] ∧ s.touch.Frame u [(p, 0x024)] []
    let taken (u : State) : Prop := u.bit p HLG.GRP_STATUS.CFG_REJECT = false ∧ u.out = []
    -- HOST_CTRL
    (let mode := v.toNat % 2
      let th := v.toNat / 2 ^ 16
      let some1 : Prop := ∃ q ∈ s.diePorts d, s.portEnabled d q = true
      let busy : Prop := mode ≠ s.rd h HSC.HOST_CTRL.PORT_MODE ∧ some1
      (s.accepts h 0x024 = true → busy → Answers (.portModeWrite d v) s fun u =>
        u.bit h HSC.HD_STATUS.MODE_REJECT = true ∧ u.bit h HSC.STEER_STATUS.CFG_REJECT = true ∧ u.out = []
        ∧ s.touch.Frame u [(h, 0x02C), (h, 0x03C)] [])
      ∧ (s.accepts h 0x024 = true → ¬busy → th = 0 → Answers (.portModeWrite d v) s fun u =>
        u.bit h HSC.STEER_STATUS.CFG_REJECT = true ∧ u.out = [] ∧ s.touch.Frame u [(h, 0x02C)] [])
      ∧ (s.accepts h 0x024 = true → th ≠ 0 → mode = s.rd h HSC.HOST_CTRL.PORT_MODE ∨ ¬some1 → Answers (.portModeWrite d v) s fun u =>
        u.rd h HSC.HOST_CTRL.PORT_MODE = mode ∧ u.rd h HSC.HOST_CTRL.STEER_TH = th
        ∧ u.bit h HSC.HOST_CTRL.AUTO_STEER = v.getLsbD 3 ∧ u.bit h HSC.HD_STATUS.MODE_REJECT = false
        ∧ u.bit h HSC.STEER_STATUS.CFG_REJECT = false ∧ u.out = []
        ∧ (mode = s.rd h HSC.HOST_CTRL.PORT_MODE → s.touch.Frame u [(h, 0x024), (h, 0x02C), (h, 0x03C)] [])
        ∧ (mode ≠ s.rd h HSC.HOST_CTRL.PORT_MODE → (∀ dir i, i < 8 → (u.spareSt d dir i).lane = none) ∧ (u.die d).exch = none
            ∧ u.rd h HSC.HD_STATUS.RX_SPARES_FREE = 8 ∧ u.rd h HSC.HD_STATUS.TX_SPARES_FREE = 8
            ∧ s.touch.Frame u ([(h, 0x024), (h, 0x02C), (h, 0x034)] ++ ups) [.lanes])))
    -- PORT_CTRL of the selected port
    ∧ (let q := s.selPort d g
      let en := v.getLsbD 0
      let st := v.getLsbD 1
      let bad : Prop := (en = true ∧ (s.bit p HLG.GRP_STATUS.TX_ASLEEP = true ∨ s.bit p HLG.GRP_STATUS.RX_ASLEEP = true))
        ∨ (s.portEnabled d q = true ∧ st ≠ s.portSteerable d q)
      let off : Prop := s.portEnabled d q = true ∧ en = false
      (s.accepts p 0x02C = true → bad → Answers (.portEnable d g v) s refused)
      ∧ (s.accepts p 0x02C = true → ¬bad → Answers (.portEnable d g v) s fun u =>
        taken u ∧ u.portEnabled d q = en ∧ u.portSteerable d q = st
        ∧ (¬off → st = true → (u.portSt d q).status = (s.portSt d q).status ∧ s.touch.Frame u [(p, 0x024)] [.lanes])
        ∧ (off → st = true → (u.portSt d q).status = (s.portSt d q).status &&& 0xF00 ∧ s.touch.Frame u ((p, 0x00C) :: ups) (.lanes :: State.eventParts))
        ∧ (off → s.portUp d q = true → ev u p 1)
        -- no spare serves a port that is not steerable; the others serve on
        ∧ (st = false → ∀ dir i l, (u.spareSt d dir i).lane = some l → i < 8 → s.portOfLane d l ≠ q)
        ∧ (∀ dir i l, (s.spareSt d dir i).lane = some l → s.portOfLane d l ≠ q → (u.spareSt d dir i).lane = some l)
        ∧ s.touch.Frame u ([(p, 0x00C), (h, 0x00C), (h, 0x02C), (h, 0x034)] ++ ups) (.lanes :: State.eventParts)))
    -- a link comes up, goes down
    ∧ (let q := port.val
      let y := Page.hlg d (s.portGroup d q)
      let here : Prop := s.enabled h = true ∧ s.dieUp h = true ∧ q ∈ s.diePorts d ∧ s.runs y = true ∧ s.portEnabled d q = true
      let n := s.lanesPerPort d
      let base := (s.portSt d q).status &&& 0xF00
      -- a port that has some of its lanes in near-end loopback does not align (R304)
      let torn : Prop := (∃ l ∈ s.portLanes d q, s.nearLane d l = true) ∧ ∃ l ∈ s.portLanes d q, s.nearLane d l = false
      (here → ¬torn → Answers (.linkUp d port) s fun u =>
        (u.portSt d q).status = base ||| 3 ∧ u.portUp d q = true ∧ u.faultSent d q = false ∧ ev u y 0
        -- its lanes have acquired, but one whose place a spare takes
        ∧ (∀ i, i < n → s.ownLane d (q * n + i) = true →
            HLG.LANE_STATUS.CDR_LOCK.get (u.laneSt d (q * n + i)).status = 1 ∧ HLG.LANE_STATUS.SIGNAL.get (u.laneSt d (q * n + i)).status = 1)
        ∧ u.rd h HSC.HD_STATUS.PORTS_UP = (u.diePorts d).countP (fun i => u.portUp d i) ∧ u.out = []
        ∧ s.Frame u ([(y, 0x00C), (y, 0x018), (y, 0x01C), (h, 0x034)] ++ ups) (.lanes :: .fresh :: .cad :: State.eventParts))
      ∧ (¬here ∨ torn → Answers (.linkUp d port) s fun u => u.out = [] ∧ s.Frame u [] [])
      ∧ (here → Answers (.linkDown d port cause) s fun u =>
        u.portUp d q = false ∧ (s.portUp d q = true → ev u y 1) ∧ u.faultSent d q = decide (cause ≠ .remoteFault)
        ∧ (u.portSt d q).status = base ||| (match cause with | .localFault => 0x06 | .remoteFault => 0x0A | .alignment | .fecUncorr => 0)
        ∧ (cause = .fecUncorr → (u.portSt d q).uncorr = some s.time.toNat ∧ ev u y 3)
        ∧ (cause ≠ .alignment → ∀ l, l < 128 → u.laneSt d l = s.laneSt d l)
        ∧ (∀ l, l < 128 → s.portOfLane d l ≠ q → u.laneSt d l = s.laneSt d l)
        ∧ u.rd h HSC.HD_STATUS.PORTS_UP = (u.diePorts d).countP (fun i => u.portUp d i) ∧ u.out = []
        ∧ s.Frame u ((y, 0x00C) :: ups) (.lanes :: .fresh :: State.eventParts))
      ∧ (¬here → Answers (.linkDown d port cause) s fun u => u.out = [] ∧ s.Frame u [] []))
    -- the transmit equalizer of the selected lane
    ∧ (let l := 32 * g.val + s.rd p HLG.LANE_SEL.LANE
      let pre := v.toNat % 32
      let post := v.toNat / 2 ^ 8 % 32
      (s.accepts p 0x038 = true → 16 < pre ∨ 24 < post → Answers (.txEqWrite d g v) s refused)
      ∧ (s.accepts p 0x038 = true → pre ≤ 16 → post ≤ 24 → Answers (.txEqWrite d g v) s fun u =>
        taken u ∧ HLG.TX_EQ.PRE.get (u.laneSt d l).txEq = pre ∧ HLG.TX_EQ.POST.get (u.laneSt d l).txEq = post
        ∧ (pre + post ≠ 0 → HLG.TX_EQ.MAIN.get (u.laneSt d l).txEq = 64 - pre - post) ∧ HLG.TX_EQ.POL_INV.get (u.laneSt d l).txEq = v.toNat / 2 ^ 24 % 2
        ∧ (∀ m, m < 128 → m ≠ l → u.laneSt d m = s.laneSt d m) ∧ s.touch.Frame u [(p, 0x024)] [.lanes]))
    -- loopbacks and patterns of a working lane
    ∧ (let l := 32 * g.val + s.rd p HLG.LANE_SEL.LANE
      let pr := v.toNat / 4 % 4
      let bad : Prop := pr = 3 ∨ ((v.toNat % 4 ≠ 0 ∨ pr ≠ 0) ∧ s.portEnabled d (s.portOfLane d l) = true)
      ∀ c, c = .loopbackWrite d (.group g) v ∨ c = .prbsWrite d (.group g) v →
      (s.accepts p 0x040 = true → bad → Answers c s refused)
      ∧ (s.accepts p 0x040 = true → ¬bad → Answers c s fun u =>
        u.bit p HLG.GRP_STATUS.CFG_REJECT = false ∧ HLG.LANE_TEST.LOOPBACK.get (u.laneSt d l).test = v.toNat % 4
        ∧ HLG.LANE_TEST.PRBS.get (u.laneSt d l).test = pr
        -- the pattern starts or stops on the lane
        ∧ u.out = (if pr = HLG.LANE_TEST.PRBS.get (s.laneSt d l).test then [] else [.lanePattern d l pr])
        ∧ (∀ m, m < 128 → m ≠ l → u.laneSt d m = s.laneSt d m) ∧ s.touch.Frame u [(p, 0x024)] [.lanes, .fresh, .ctr]))
    -- those of a spare: near-end parallel loopback is refused
    ∧ (let i := v.toNat % 8
      let dir := v.getLsbD 3
      let lp := v.toNat / 2 ^ 16 % 4
      let pr := v.toNat / 2 ^ 18 % 4
      let bad : Prop := lp = 2 ∨ pr = 3 ∨ ((s.spareSt d dir i).lane.isSome = true ∧ (lp ≠ 0 ∨ pr ≠ 0))
      ∀ c, c = .loopbackWrite d .spare v ∨ c = .prbsWrite d .spare v →
      (s.accepts h 0x030 = true → bad → Answers c s fun u =>
        u.bit h HSC.STEER_STATUS.CFG_REJECT = true ∧ u.out = [] ∧ s.touch.Frame u [(h, 0x02C)] [])
      ∧ (s.accepts h 0x030 = true → ¬bad → Answers c s fun u =>
        (u.spareSt d dir i).loop = lp ∧ (u.spareSt d dir i).prbs = pr ∧ (u.spareSt d dir i).lane = (s.spareSt d dir i).lane
        ∧ u.rd h HSC.SPARE_VIEW.SEL = i ∧ u.bit h HSC.SPARE_VIEW.DIR_SEL = dir ∧ u.bit h HSC.STEER_STATUS.CFG_REJECT = false
        ∧ u.out = (if pr = (s.spareSt d dir i).prbs then [] else [.lanePattern d (128 + i) pr])
        ∧ s.touch.Frame u [(h, 0x02C), (h, 0x030)] [.lanes, .fresh, .ctr]))
    -- sleep and wake
    ∧ (let f := if rx then HLG.GRP_CTRL.RX_SLEEP else HLG.GRP_CTRL.TX_SLEEP
      let a := if rx then HLG.GRP_STATUS.RX_ASLEEP else HLG.GRP_STATUS.TX_ASLEEP
      let n := s.portsPerGroup d
      let bad : Prop := s.bit p f = false ∧ ∃ i, i < n ∧ s.portEnabled d (g.val * n + i) = true
      let x := s.hgrp d g
      (s.accepts p 0x020 = true → bad → Answers (.laneSleep d g rx) s refused)
      ∧ (s.accepts p 0x020 = true → ¬bad → Answers (.laneSleep d g rx) s fun u =>
        taken u ∧ u.bit p f = true ∧ u.bit p a = true
        ∧ (rx = true → ∀ i, i < 32 → HLG.LANE_STATUS.SIGNAL.get (u.laneSt d (32 * g.val + i)).status = 0
            ∧ HLG.LANE_STATUS.CDR_LOCK.get (u.laneSt d (32 * g.val + i)).status = 0)
        ∧ s.touch.Frame u [(p, 0x020), (p, 0x024)] [.lanes, .ctr])
      ∧ (s.accepts p 0x020 = true → Answers (.laneWake d g rx) s fun u =>
        taken u ∧ u.bit p f = false ∧ u.bit p a = s.bit p a ∧ (s.bit p f = true → u.bit p HLG.GRP_STATUS.WAKING = true)
        ∧ s.touch.Frame u [(p, 0x020), (p, 0x024)] [.lanes])
      ∧ (x.wakeTx = true ∨ x.wakeRx = true → Answers (.wakeDone d g) s fun u =>
        u.bit p HLG.GRP_STATUS.WAKING = false ∧ (x.wakeTx = true → u.bit p HLG.GRP_STATUS.TX_ASLEEP = false)
        ∧ (x.wakeRx = true → u.bit p HLG.GRP_STATUS.RX_ASLEEP = false) ∧ u.hgrp d g = { x with wakeTx := false, wakeRx := false }
        ∧ ev u p 4 ∧ u.out = [] ∧ s.Frame u [(p, 0x00C), (p, 0x024)] (.lanes :: State.eventParts))
      ∧ (x.wakeTx = false → x.wakeRx = false → Answers (.wakeDone d g) s fun u => u.out = [] ∧ s.Frame u [] []))

/-- R307-R310, R312, R314: the steering exchange. A REQUEST is accepted, refused with its reason, answered again when repeated, and
takes the place of the module's own unanswered one; the transmitting end bridges, the receiving end switches once the spare has
locked or refuses with reason 5; at the end the spare serves the lane or is free. An end that waits sends again, ten times in all;
then it gives up, and the selection goes back. Beside its messages a port sends only their codewords. (Log 79: STEER_CMD with both
of its bits, the reasons of a refusal, what a yielded request shows.) -/
def Obligations.steering : Prop :=
  ∀ (s : State) (d : Fin 2) (m : SteerMsg) (v : Word) (lane : Fin 128),
    let h := Page.hsc d
    let x := s.die d
    let up : Prop := (s.steerPort d).isSome = true
    let sends (l : List Output) : List Output := if (s.steerPort d).isSome then l else []
    -- what is said beside the codewords, where no generator or far-end loopback drives the lanes of the port that carries it (R304, R305)
    let said (u : State) (l : List Output) : Prop :=
      (∀ q, s.steerPort d = some q → ∀ ln ∈ s.portLanes d q, s.drivenLane d ln = false) → l = u.out.filter fun o => match o with
        | .hostCode .. => false
        | _ => true
    let regs : List (Page × Nat) := [(h, 0x00C), (h, 0x018), (h, 0x01C), (h, 0x02C), (h, 0x034), (h, 0x038), (h, 0x03C),
      (.cad, CAD.CAD_LAST.POOL.off), (.cad, 0x018)] ++ (List.finRange 4).flatMap fun g => [(Page.hlg d g, 0x00C), (.hlg d g, 0x018), (.hlg d g, 0x01C)]
    let near (u : State) : Prop := s.Frame u regs (.lanes :: .cad :: .fresh :: State.eventParts)
    let free (u : State) : Prop := s.Frame u [(h, 0x00C), (h, 0x02C), (h, 0x038)] (.lanes :: State.eventParts)
      ∧ ∀ dir i, (u.spareSt d dir i).lane = (s.spareSt d dir i).lane
    let idle (u : State) : Prop := u.out = [] ∧ s.Frame u [(h, 0x038)] [.ctr]
    let state (u : State) : Nat := u.rd h HSC.STEER_STATUS.STATE
    let ev (u : State) (b : Nat) : Prop := (u.word h 0x00C).getLsbD b = true
    let moved (m : SteerMsg) (u : State) : Prop :=
      (u.spareSt d m.dir m.spare.val).lane = (if m.release then none else some m.lane.val)
      ∧ (∀ dir i, dir ≠ m.dir ∨ i ≠ m.spare.val → (u.spareSt d dir i).lane = (s.spareSt d dir i).lane)
      ∧ (∀ i, i < 8 → (u.rd h (if m.dir then HSC.SPARE_USE.TX_IN_USE else HSC.SPARE_USE.RX_IN_USE)).testBit i
          = (u.spareSt d m.dir i).lane.isSome)
    let ended (u : State) (st b : Nat) : Prop := (u.die d).exch = none ∧ state u = st ∧ ev u b
    let new (k : Nat) : Prop := ∀ y ∈ x.answered, y.1 ≠ k ∨ y.2.1 ≠ m
    -- an answer given since the exchange was accepted is remembered, and no other one is forgotten for it
    let told (u : State) (k ak : Nat) (a : SteerMsg) : Prop := (k, m, ak, a) ∈ (u.die d).answered
      ∧ ∀ y ∈ x.answered, y.1 ≠ k ∨ y.2.1.seq ≠ m.seq → y ∈ (u.die d).answered
    let r := s.steerReason d m
    let m0 : SteerMsg := { m with reason := 0 }
    -- no message arrives where no steerable port is up
    (∀ c, (c = .steerRequest d m ∨ c = .steerAccept d m ∨ c = .steerRefuse d m ∨ c = .steerBridged d m ∨ c = .steerSwitched d m
        ∨ c = .steerDone d m ∨ c = .steerMsgDrop d) → ¬up → Answers c s fun u => u.out = [] ∧ s.Frame u [] [])
    -- REQUEST
    ∧ (∀ c k ak a, (c, k) ∈ [(Instr.steerRequest d m, 1), (.steerBridged d m, 4), (.steerSwitched d m, 5)] → up →
      x.answered.find? (fun y => y.1 == k && y.2.1 == m) = some (k, m, ak, a) → Answers c s fun u => said u [.steer d ak a] ∧ s.Frame u [(h, 0x038)] [.ctr, .lanes])
    ∧ (up → new 1 → x.exch = none → r ≠ 0 → Answers (.steerRequest d m) s fun u =>
      said u [.steer d 3 { m with reason := BitVec.ofNat 8 r }] ∧ u.rd h HSC.STEER_STATUS.REASON = r ∧ (u.die d).exch = none
      ∧ told u 1 3 { m with reason := BitVec.ofNat 8 r } ∧ free u)
    ∧ (up → new 1 → x.exch = none → r = 0 → Answers (.steerRequest d m) s fun u =>
      said u (if m.dir then [.steer d 2 m0, .steer d 4 m0] else [.steer d 2 m0]) ∧ state u = (if m.dir then 2 else 1)
      ∧ u.rd h HSC.STEER_STATUS.SEQ = m.seq.toNat ∧ (u.spareSt d m.dir m.spare.val).woken = true
      ∧ (u.die d).exch = some { msg := m0, own := false, last := if m.dir then 4 else 2, sends := 1, waits := true, accepted := true, why := 3 }
      ∧ (u.die d).answered = [(1, m, 2, m0)] ∧ free u)
    ∧ (∀ e, up → new 1 → x.exch = some e → e.own = false ∨ e.accepted = true → Answers (.steerRequest d m) s fun u =>
      said u [.steer d 3 { m with reason := 4 }] ∧ u.rd h HSC.STEER_STATUS.REASON = 4 ∧ (u.die d).exch = some e ∧ told u 1 3 { m with reason := 4 } ∧ free u)
    ∧ (∀ e, up → new 1 → x.exch = some e → e.own = true → e.accepted = false → Answers (.steerRequest d m) s fun u =>
      (u.die d).yielded = some e
      ∧ (r = 0 → ∃ f, (u.die d).exch = some f ∧ f.own = false ∧ f.msg = m0)
      ∧ (r ≠ 0 → (u.die d).exch = none ∧ state u = 0 ∧ said u [.steer d 3 { m with reason := BitVec.ofNat 8 r }]) ∧ free u)
    -- the reasons
    ∧ r = (let q := s.portOfLane d m.lane.val
      if s.portSteerable d q = false ∨ s.portEnabled d q = false then 2
      else if m.release then (if (s.spareSt d m.dir m.spare.val).lane = some m.lane.val then 0 else 3)
      else if (s.spareSt d m.dir m.spare.val).lane.isSome then 1 else 0)
    -- ACCEPT, REFUSE
    ∧ (∀ e, up → x.exch = some e → e.own = true → e.last = 1 → e.msg.seq = m.seq → Answers (.steerAccept d m) s fun u =>
      (u.die d).exch = some (if e.msg.dir then { e with accepted := true, last := 4, sends := 1, waits := true }
        else { e with accepted := true, sends := 1 })
      ∧ said u (if e.msg.dir then [.steer d 4 e.msg] else []) ∧ (e.msg.dir = true → state u = 2) ∧ free u)
    ∧ (up → (∀ e, x.exch = some e → e.own = false ∨ e.last ≠ 1 ∨ e.msg.seq ≠ m.seq) → Answers (.steerAccept d m) s idle)
    ∧ (∀ e, up → x.exch = some e → e.msg.seq = m.seq → (e.own = true ∧ e.last = 1) ∨ e.last = 4 → Answers (.steerRefuse d m) s fun u =>
      ended u 5 2 ∧ u.rd h HSC.STEER_STATUS.REASON = m.reason.toNat ∧ u.out = [] ∧ free u)
    ∧ (up → (∀ e, x.exch = some e → e.msg.seq ≠ m.seq ∨ ((e.own = false ∨ e.last ≠ 1) ∧ e.last ≠ 4)) → Answers (.steerRefuse d m) s idle)
    -- BRIDGED, SWITCHED, DONE
    ∧ (∀ e, up → new 4 → x.exch = some e → e.msg.seq = m.seq → e.msg.dir = false → e.last ≠ 5 → Answers (.steerBridged d m) s fun u =>
      (u.die d).exch = some { e with accepted := true, waits := false } ∧ state u = 2 ∧ u.out = [] ∧ free u)
    ∧ (∀ e, up → new 4 → x.exch = some e → e.msg.seq = m.seq → e.msg.dir = false → e.last = 5 → Answers (.steerBridged d m) s fun u =>
      said u [.steer d 5 e.msg] ∧ s.Frame u [(h, 0x038)] [.ctr, .lanes])
    ∧ (up → new 4 → (∀ e, x.exch = some e → e.msg.seq ≠ m.seq ∨ e.msg.dir = true) → Answers (.steerBridged d m) s idle)
    ∧ (∀ e, up → new 5 → x.exch = some e → e.msg.seq = m.seq → e.msg.dir = true → e.last = 4 → Answers (.steerSwitched d m) s fun u =>
      moved e.msg u ∧ ended u 4 0 ∧ said u [.steer d 6 e.msg] ∧ told u 5 6 e.msg ∧ near u)
    ∧ (up → new 5 → (∀ e, x.exch = some e → e.msg.seq ≠ m.seq ∨ e.msg.dir = false ∨ e.last ≠ 4) → Answers (.steerSwitched d m) s idle)
    ∧ (∀ e, up → x.exch = some e → e.msg.seq = m.seq → e.last = 5 → Answers (.steerDone d m) s fun u =>
      ended u 4 0 ∧ (e.msg.release = true → moved e.msg u)
      ∧ (e.msg.release = false → ∀ dir i, (u.spareSt d dir i).lane = (s.spareSt d dir i).lane)
      -- what is no longer driven goes to electrical idle
      ∧ (e.msg.dir = false → e.msg.release = true → (u.spareSt d false e.msg.spare.val).signal = false)
      ∧ (e.msg.dir = false → e.msg.release = false → HLG.LANE_STATUS.SIGNAL.get (u.laneSt d e.msg.lane.val).status = 0)
      ∧ u.out = [] ∧ near u)
    ∧ (up → (∀ e, x.exch = some e → e.msg.seq ≠ m.seq ∨ e.last ≠ 5) → Answers (.steerDone d m) s idle)
    -- a message out of range
    ∧ (up → Answers (.steerMsgDrop d) s fun u =>
      ev u 3 ∧ u.rd h HSC.STEER_MSG.DROPPED = min (s.rd h HSC.STEER_MSG.DROPPED + 1) 255 ∧ u.out = []
      ∧ s.Frame u [(h, 0x00C), (h, 0x038)] State.eventParts)
    -- the spare locks, or does not
    ∧ (∀ e, x.exch = some e → e.msg.dir = false → s.rd h HSC.STEER_STATUS.STATE = 2 → e.last ≠ 5 → Answers (.spareLaneLocked d) s fun u =>
      -- a spare that is released is in use until the exchange ends
      (u.spareSt d false e.msg.spare.val).lane = (if e.msg.release then (s.spareSt d false e.msg.spare.val).lane else some e.msg.lane.val)
      ∧ (u.spareSt d false e.msg.spare.val).back = e.msg.release ∧ state u = 3 ∧ (u.die d).exch = some { e with last := 5, sends := 1, waits := true } ∧ said u (sends [.steer d 5 e.msg])
      ∧ near u)
    ∧ (∀ e, x.exch = some e → e.msg.dir = false → s.rd h HSC.STEER_STATUS.STATE = 2 → e.last ≠ 5 → Answers (.spareLockTimeout d) s fun u =>
      ended u 5 2 ∧ u.rd h HSC.STEER_STATUS.REASON = 5 ∧ said u (sends [.steer d 3 { e.msg with reason := 5 }]) ∧ free u)
    ∧ (∀ c, (c = .spareLaneLocked d ∨ c = .spareLockTimeout d) →
      (∀ e, x.exch = some e → e.msg.dir = true ∨ s.rd h HSC.STEER_STATUS.STATE ≠ 2 ∨ e.last = 5) →
      Answers c s fun u => u.out = [] ∧ s.Frame u [] [])
    -- repeats
    ∧ (∀ e, x.exch = some e → e.waits = true → e.sends < 10 → Answers (.steerResendTimer d) s fun u =>
      (u.die d).exch = some { e with sends := e.sends + 1 } ∧ said u (sends [.steer d e.last e.msg]) ∧ free u)
    ∧ (∀ e, x.exch = some e → e.waits = true → 10 ≤ e.sends → e.last ≠ 5 → Answers (.steerResendTimer d) s fun u =>
      ended u 6 1 ∧ u.out = [] ∧ free u)
    ∧ (∀ e, x.exch = some e → e.waits = true → 10 ≤ e.sends → e.last = 5 → Answers (.steerResendTimer d) s fun u =>
      moved { e.msg with release := !e.msg.release } u ∧ ended u 6 1 ∧ u.out = [] ∧ near u)
    ∧ ((∀ e, x.exch = some e → e.waits = false) → Answers (.steerResendTimer d) s fun u => u.out = [] ∧ s.Frame u [] [])
    ∧ (∀ y, x.yielded = some y → x.exch = none → s.steerReason d y.msg = 0 → Answers (.steerRetryTimer d) s fun u =>
      (u.die d).yielded = none
      ∧ (u.die d).exch = some { msg := y.msg, own := true, last := 1, sends := 1, waits := true, accepted := false, why := y.why }
      ∧ state u = 1 ∧ said u (sends [.steer d 1 y.msg]) ∧ free u)
    ∧ (∀ y, x.yielded = some y → x.exch = none → s.steerReason d y.msg ≠ 0 → Answers (.steerRetryTimer d) s fun u =>
      u.die d = { x with yielded := none } ∧ u.out = [] ∧ free u)
    ∧ (x.yielded = none ∨ x.exch ≠ none → Answers (.steerRetryTimer d) s fun u => u.out = [] ∧ s.Frame u [] [])
    -- requests of the module: automatic, and by STEER_CMD
    ∧ (let q := s.portOfLane d lane.val
      let on : Prop := s.enabled h = true ∧ s.dieUp h = true ∧ s.bit h HSC.HOST_CTRL.AUTO_STEER = true ∧ s.portEnabled d q = true
        ∧ s.portSteerable d q = true ∧ x.exch = none
      let pick := (List.finRange 8).find? fun i => (s.spareSt d false i.val).lane.isNone
      (∀ i, on → pick = some i → Answers (.autoSteerTrigger d lane) s fun u =>
        let y : SteerMsg := { seq := BitVec.ofNat 8 x.nextSeq, release := false, dir := false, lane := lane, spare := i, reason := 0 }
        (u.die d).exch = some { msg := y, own := true, last := 1, sends := 1, waits := true, accepted := false, why := 3 } ∧ state u = 1
        ∧ said u (sends [.steer d 1 y]) ∧ free u)
      ∧ (¬on ∨ pick = none → Answers (.autoSteerTrigger d lane) s fun u => u.out = [] ∧ s.Frame u [] []))
    ∧ (∀ c rel, (c, rel) ∈ [(Instr.steerCmdStart d v, false), (.steerCmdRelease d v, true)] → s.accepts h 0x028 = true →
      let y : SteerMsg := { seq := BitVec.ofNat 8 x.nextSeq, release := rel, dir := v.getLsbD 12, lane := Fin.ofNat 128 (v.toNat % 128)
                            spare := Fin.ofNat 8 (v.toNat / 2 ^ 8 % 8), reason := 0 }
      (x.exch = none → s.steerReason d y = 0 → Answers c s fun u =>
        (u.die d).exch = some { msg := y, own := true, last := 1, sends := 1, waits := true, accepted := false, why := 4 } ∧ state u = 1
        ∧ u.bit h HSC.STEER_STATUS.CFG_REJECT = false ∧ said u (sends [.steer d 1 y])
        ∧ s.touch.Frame u [(h, 0x02C), (h, 0x038)] [.lanes, .ctr])
      ∧ (x.exch ≠ none ∨ s.steerReason d y ≠ 0 → Answers c s fun u =>
        u.bit h HSC.STEER_STATUS.CFG_REJECT = true ∧ u.out = [] ∧ s.touch.Frame u [(h, 0x02C)] []))

/-- R326-R332, R336, R337: clock sources and domains. A trip moves a loop to the other REFCLK without leaving lock, or lets it coast
with its engines in FAULT; D37 goes to its loop or the backstop, or is held stopped; a switch costs 32 cycles and up to 2 more and
is written to LOG; a coasting loop with an input ramps through 16 ratios and its engines resume from STARTING; D39 falls back to the
backstop. -/
def Obligations.clockSources : Prop :=
  ∀ (s : State) (i : Bool) (n : Fin 40) (lost : Nat) (v : Word),
    let ev (u : State) (b : Nat) : Prop := (u.word .tim 0x00C).getLsbD b = true
    let q := if i then TIM.REF_CTRL.B_QUAL else TIM.REF_CTRL.A_QUAL
    let doms : List (Page × Nat) := (List.range 40).map fun n => (Page.tim, 0x030 + 4 * n)
    let engs : List (Page × Nat) := (List.range 37).flatMap fun n => (State.domEngines n).map fun p => (p, 0x008)
    let rx : List (Page × Nat) := (List.finRange 16).flatMap fun k =>
      [(.rxe k, 0x024), (.rxe k, 0x03C), (.rxe k, 0x040), (.rxe k, 0x044), (.lfe k, 0x044), (.lfe k, 0x00C)]
    let moves : List (Page × Nat) := doms ++ engs ++ rx ++ [(.tim, 0x00C), (.tim, 0x02C), (.vsq, 0x040)]
    let parts : List StatePart := .clock :: .host :: .cars :: State.eventParts
    let on : Prop := s.start.power ≠ .off
    let starts : Prop := s.host.mgmt = .off ∧ on ∧ s.pins.resetN.asserted = false
    let pages : List (Page × Nat) := [Page.dev, .ses, .log, .cad, .tim, .vsq, .tsn].map fun p => (p, 0x008)
    let st (u : State) (n : Nat) := u.dom n TIM.DOMn.STATE
    let now (u : State) (n : Nat) := u.dom n TIM.DOMn.SRC_NOW
    let same (u : State) (n : Nat) : Prop := u.word .tim (0x030 + 4 * n) = s.word .tim (0x030 + 4 * n)
    let coasts (u : State) (n : Nat) : Prop := st u n = 4 ∧ u.dom n TIM.DOMn.COAST = 1 ∧ now u n = 3 ∧ ev u 3
      ∧ ∀ p ∈ State.domEngines n, s.pst p ≠ 0 → u.pst p = 4
    -- D37 starts: it ramps on a REFCLK, and has no divider to ramp on the backstop; the management pages that are enabled read READY
    let up (u : State) : Prop := u.host.mgmt = .running ∧ st u 37 = (if u.mgmtSource = some 2 then 3 else 2) ∧ some (now u 37) = u.mgmtSource
      ∧ ∀ p ∈ [Page.dev, .ses, .log, .cad, .tim, .vsq, .tsn], s.enabled p = true → u.pst p = 2
    -- a REFCLK trips
    (s.qual i = false → Answers (.refclkTrip i) s fun u => u.out = [] ∧ s.Frame u [] [])
    ∧ (s.qual i = true → Answers (.refclkTrip i) s fun u =>
      let other (n : Nat) : Prop := s.admits n (!i) = true ∧ s.qual (!i) = true
      u.bit .tim q = false ∧ ev u 0
      ∧ (∀ n, n < 37 → 2 ≤ st s n → st s n ≠ 4 → other n → now u n = (!i).toNat ∧ st u n = st s n)
      ∧ (∀ n, n < 37 → 2 ≤ st s n → st s n ≠ 4 → ¬other n → coasts u n)
      ∧ (∀ n, n < 37 → st s n < 2 ∨ st s n = 4 → same u n)
      ∧ (2 ≤ st s 39 → ¬other 39 → now u 39 = 2)
      ∧ (s.host.mgmt = .running → now s 37 < 2 → other 37 → now u 37 = (!i).toNat ∧ u.host = s.host)
      ∧ (s.host.mgmt = .running → now s 37 < 2 → ¬other 37 → u.host.mgmt = .changing ∧ st u 37 = (if s.backstopQual then 5 else 1))
      -- the voltage sequencer is on its way to point 2
      ∧ (s.host.mgmt = .running → now s 37 < 2 → ¬other 37 → s.rd .vsq VSQ.MGMT_OP.NOW ≠ 2 →
          u.rd .vsq VSQ.MGMT_OP.NOW = s.rd .vsq VSQ.MGMT_OP.NOW ∧ u.bit .vsq VSQ.MGMT_OP.BUSY = true ∧ u.clock.target = some 2)
      ∧ u.out = [] ∧ s.Frame u moves parts)
    -- one qualifies
    ∧ (¬on ∨ s.qual i = true → Answers (.refclkQualified i) s fun u => u.out = [] ∧ s.Frame u [] [])
    ∧ (on → s.qual i = false → Answers (.refclkQualified i) s fun u =>
      u.bit .tim q = true ∧ ev u 1
      ∧ (∀ n, n < 37 → 2 ≤ st s n → st s n ≠ 4 → s.admits n i = true → s.bit .tim TIM.REF_CTRL.PREFER = i →
          s.bit .tim TIM.REF_CTRL.REVERT = true → now u n = i.toNat ∧ st u n = st s n)
      ∧ (∀ n, n < 37 → 2 ≤ st s n → st s n ≠ 4 → s.bit .tim TIM.REF_CTRL.REVERT = false → now s n = (!i).toNat →
          s.admits n (!i) = true → s.qual (!i) = true → same u n)
      ∧ (∀ n, n < 37 → st s n < 2 ∨ st s n = 4 → same u n)
      ∧ (starts → s.admits 37 i = true → up u)
      ∧ u.out = [] ∧ s.Frame u (pages ++ moves) parts)
    ∧ (¬on → Answers .backstopQualified s fun u => u.out = [] ∧ s.Frame u [] [])
    ∧ (on → Answers .backstopQualified s fun u =>
      u.backstopQual = true
      ∧ (starts → up u)
      ∧ (s.host.mgmt = .changing → s.loopInput 37 = none → st u 37 = 5)
      ∧ u.out = [] ∧ s.Frame u (pages ++ moves) parts)
    -- no source for 2 ms
    ∧ (s.host.mgmt = .changing → s.mgmtSource = none → Answers .qualTimeout s fun u =>
      ev u 8 ∧ u.host = { s.host with mgmt := .stopped, held := [], fwUp := false } ∧ st u 37 = 1
      -- the device section fails (R330)
      ∧ (∀ p ∈ [Page.dev, .ses, .log, .cad], s.enabled p = true → u.pst p = 4)
      ∧ (s.start.attempt = none → u.hubEnd = s.hubEnd)
      ∧ (s.start.attempt ≠ none → u.hubEnd = State.sendFrom s.hubEnd (.startResult 2 0x06 0 8))
      ∧ u.out = []
      ∧ s.Frame u [(.tim, 0x00C), (.tim, 0x030 + 4 * 37), (.dev, 0x008), (.ses, 0x008), (.log, 0x008), (.cad, 0x008)] (.host :: .hubEnd :: State.eventParts))
    ∧ (s.host.mgmt ≠ .changing ∨ s.mgmtSource ≠ none → Answers .qualTimeout s fun u => u.out = [] ∧ s.Frame u [] [])
    -- the switch
    ∧ (∀ m, (if n.val = 37 then s.mgmtSource else (s.loopInput n.val).map (·.toNat)) = some m →
      (if n.val = 37 then s.host.mgmt = .changing ∧ s.host.held = [] else st s n.val = 5) → Answers (.domainSourceSwitch n lost) s fun u =>
      now u n.val = m % 4 ∧ st u n.val = 3 ∧ u.dom n.val TIM.DOMn.LOST_CYCLES = 32 + min lost 2
      ∧ u.dom n.val TIM.DOMn.SWITCHES = min (s.dom n.val TIM.DOMn.SWITCHES + 1) 255 ∧ ev u 2
      ∧ u.logRing.get (fun _ => 0) ((s.rd .log LOG.LOG_CTRL.TAIL + s.rd .log LOG.LOG_CTRL.UNREAD) % 4096)
          = State.logEntry s.time 0 1 0 2 (n.val + 256 * (32 + min lost 2))
      ∧ (n.val = 37 → u.host.mgmt = .running) ∧ u.out = []
      ∧ s.Frame u ([(.tim, 0x00C), (.vsq, 0x040)] ++ doms) (.clock :: .host :: State.eventParts))
    ∧ (∀ m, n.val = 37 → s.mgmtSource = some m → s.host.mgmt = .changing → Answers (.domainSourceSwitch n lost) s fun u =>
      ∃ w : State, w.host = { s.host with mgmt := .running, held := [] } ∧ now w 37 = m % 4 ∧ st w 37 = 3
        ∧ u = s.host.held.foldl State.serveReq w)
    ∧ ((n.val ≠ 37 → st s n.val ≠ 5) → (n.val = 37 → s.host.mgmt = .stopped ∨ s.host.mgmt = .off) →
      Answers (.domainSourceSwitch n lost) s fun u => u.out = [] ∧ s.Frame u [] [])
    -- coasting ends
    ∧ (∀ j, st s n.val = 4 → s.loopInput n.val = some j → Answers (.loopRelock n) s fun u =>
      st u n.val = 2 ∧ u.dom n.val TIM.DOMn.RAMP = 0 ∧ now u n.val = j.toNat ∧ ev u 4 ∧ u.out = []
      ∧ s.Frame u [(.tim, 0x00C), (.tim, 0x030 + 4 * n.val)] State.eventParts)
    ∧ (st s n.val ≠ 4 ∨ s.loopInput n.val = none → Answers (.loopRelock n) s fun u => u.out = [] ∧ s.Frame u [] [])
    ∧ (let r := s.dom n.val TIM.DOMn.RAMP
      (st s n.val = 2 → r < 15 → Answers (.dividerRampStep n) s fun u =>
        u.dom n.val TIM.DOMn.RAMP = r + 1 ∧ st u n.val = 2 ∧ u.out = [] ∧ s.Frame u [(.tim, 0x030 + 4 * n.val)] [])
      ∧ (st s n.val = 2 → r = 15 → Answers (.dividerRampStep n) s fun u =>
        st u n.val = 3 ∧ u.dom n.val TIM.DOMn.COAST = 0
        ∧ (∀ p ∈ State.domEngines n.val, s.dom n.val TIM.DOMn.COAST = 1 → s.pst p = 4 →
            (∀ m, m < 37 → m ≠ n.val → p ∈ State.domEngines m → s.dom m TIM.DOMn.COAST = 0) →
            (∀ k, p ≠ .txo k) → u.pst p = 1)
        ∧ u.out = [] ∧ s.Frame u (doms ++ engs ++ rx) (.cars :: .clock :: .start :: State.eventParts))
      ∧ (st s n.val ≠ 2 → Answers (.dividerRampStep n) s fun u => u.out = [] ∧ s.Frame u [] []))
    -- a domain is restricted to a source
    ∧ (let sel := v.toNat % 4
      let bad : Prop := n.val = 38 ∨ (sel = 3 ∧ n.val ≠ 37 ∧ n.val ≠ 39)
      (s.accepts .tim (0x030 + 4 * n.val) = true → bad → Answers (.domainSrcSelect n v) s fun u => u.out = [] ∧ s.touch.Frame u [] [])
      ∧ (s.accepts .tim (0x030 + 4 * n.val) = true → ¬bad → Answers (.domainSrcSelect n v) s fun u =>
        u.dom n.val TIM.DOMn.SRC_SEL = sel ∧ (v.getLsbD 15 = true → u.dom n.val TIM.DOMn.SLIP = 0)
        ∧ (n.val < 37 → 2 ≤ st s n.val → st s n.val ≠ 4 → (sel = 1 ∧ s.qual false = false) ∨ (sel = 2 ∧ s.qual true = false) → coasts u n.val)
        ∧ u.out = [] ∧ s.touch.Frame u moves parts))

/-- R318, R319, R322-R325, R333, R334: a PACE sample and what its governor does with it (KL-05: the sample after a step reads 0 and
is ignored); a port that loses more words than it holds slips (log 50: the domain of a port). The operating point in force is the
slowest of three. ADJ is steered by pulses within tolerance, the 16th in a row sets TREF_LOCK, and a missing one clears it. -/
def Obligations.governorsAndTime : Prop :=
  ∀ (s : State) (g : Fin 5) (ports : List PortSample) (v : Word) (interval : Int),
    let doms : List (Page × Nat) := (List.range 40).map fun n => (Page.tim, 0x030 + 4 * n)
    let ev (u : State) (p : Page) (b : Nat) : Prop := (u.word p 0x00C).getLsbD b = true
    let runs : Prop := s.start.datapath = true ∧ (g.val < 4 → s.start.diesUp.testBit g.val = true)
    -- the ports that the governor weighs: those within its domains' sections that asked for something (R319)
    let act := ((List.range ports.length).filter (State.paced g.val)).filterMap fun i => ports[i]?.filter fun p => p.q != 0
    let pace := if s.clock.stepped.getD g.val false = true ∨ act = [] then 0 else act.foldl (fun a x => min a (State.portPace x)) 1023
    let x := s.gov g.val VSQ.GOV_LD0.VCORE
    let lim := s.gov g.val VSQ.GOV_LD0.LIMIT
    let band := s.gov g.val VSQ.GOV_LD0.BAND
    let cap := if band < 2 then 172 else if band = 2 then 168 else 164
    let high := s.clock.high.getD g.val 0
    let x' := if pace ≤ 266 ∧ x < cap then x + 1 else if 276 ≤ pace ∧ 124 < x then x - 1 else x
    let low : Prop := x' = cap ∧ pace ≤ 261 ∧ s.bit .vsq VSQ.GOV_CTRL.CEIL_EN = true
    let lim' := if low then max (lim - 1) 4 else if 282 < pace ∧ 100000 ≤ high + 1 ∧ lim < 12 then lim + 1 else lim
    let regs : List (Page × Nat) := [(.vsq, 0x00C), (.vsq, 0x024), (.vsq, 0x028 + 4 * g.val), (.tim, 0x00C)] ++ doms
    (¬runs → Answers (.paceSample g ports) s fun u => u.out = [] ∧ s.Frame u [] [])
    ∧ (runs → Answers (.paceSample g ports) s fun u =>
      u.gov g.val VSQ.GOV_LD0.PACE = pace ∧ (pace = 0 → u.gov g.val VSQ.GOV_LD0.VCORE = x ∧ u.gov g.val VSQ.GOV_LD0.LIMIT = lim
        ∧ u.word .vsq 0x024 = s.word .vsq 0x024)
      -- the ports: what a port holds, of 64; with a pace below 256 it loses words, and those that it does not hold are slips
      ∧ (∀ i y, ports[i]? = some y →
          let fill := s.clock.fill.get (fun _ => 32) (1024 * g.val + i)
          let lost := if State.portPace y < 256 then y.q - y.m else 0
          u.clock.fill.get (fun _ => 32) (1024 * g.val + i)
            = (if y.q = 0 then fill else if lost = 0 then min 64 (fill + (y.m - y.q)) else fill - lost)
          ∧ (fill < lost → u.dom (State.portDom g.val i) TIM.DOMn.SLIP = 1
              ∧ (s.dom (State.portDom g.val i) TIM.DOMn.SLIP = 0 → ev u .tim 5)))
      ∧ u.out = [] ∧ s.Frame u regs (.clock :: .cars :: State.eventParts))
    ∧ (runs → pace ≠ 0 → lim ≠ 0 → lim ≤ 12 → x ≤ cap → (s.rd .vsq VSQ.GOV_CTRL.GOV_EN).testBit g.val = true → s.pst .vsq ≠ 5 →
      s.clock.high.length = 5 → s.clock.stepped.length = 5 → Answers (.paceSample g ports) s fun u =>
      u.gov g.val VSQ.GOV_LD0.VCORE = x' ∧ u.gov g.val VSQ.GOV_LD0.LIMIT = lim'
      ∧ u.clock.high.getD g.val 0 = (if low then 0 else if 282 < pace then min (high + 1) 100000 else 0)
      ∧ u.clock.stepped.getD g.val false = decide (x' ≠ x)
      ∧ ((u.rd .vsq VSQ.GOV_STATUS.AT_CAP).testBit g.val = decide (x' = cap))
      ∧ (x' ≠ x → x' = cap → ev u .vsq 2) ∧ (lim' < lim → lim = 12 → ev u .vsq 0)
      ∧ (lim' ≠ lim → (u.rd .vsq VSQ.GOV_STATUS.LIMITED).testBit g.val = decide (lim' < 12)))
    -- under HOLD, or with GOV_EN 0 at the cap, no step is taken and the limit still moves
    ∧ (runs → pace ≠ 0 → lim ≠ 0 → lim ≤ 12 → x ≤ cap → s.pst .vsq = 5 ∨ ((s.rd .vsq VSQ.GOV_CTRL.GOV_EN).testBit g.val = false ∧ x = cap) →
      Answers (.paceSample g ports) s fun u =>
      u.gov g.val VSQ.GOV_LD0.VCORE = x
      ∧ (x = cap → pace ≤ 261 → s.bit .vsq VSQ.GOV_CTRL.CEIL_EN = true → u.gov g.val VSQ.GOV_LD0.LIMIT = max (lim - 1) 4))
    -- the operating point of D37
    ∧ (let req := v.toNat % 4
      let p := if s.dom 37 TIM.DOMn.SRC_NOW < 2 then max req (s.rd .vsq VSQ.MGMT_OP.CEILING) else 2
      (s.accepts .vsq 0x040 = true → req = 3 → Answers (.mgmtOpRequest v) s fun u => u.out = [] ∧ s.touch.Frame u [] [])
      ∧ (s.accepts .vsq 0x040 = true → req ≠ 3 → Answers (.mgmtOpRequest v) s fun u =>
        u.rd .vsq VSQ.MGMT_OP.REQ = req ∧ u.rd .vsq VSQ.MGMT_OP.NOW = s.rd .vsq VSQ.MGMT_OP.NOW
        ∧ (s.rd .vsq VSQ.MGMT_OP.NOW ≠ p → u.bit .vsq VSQ.MGMT_OP.BUSY = true ∧ u.clock.target = some p)
        ∧ (s.rd .vsq VSQ.MGMT_OP.NOW = p → u.clock.target = none) ∧ u.out = [] ∧ s.touch.Frame u [(.vsq, 0x040)] [.clock]))
    ∧ (∀ p, s.clock.target = some p → p < 4 → Answers .opMoveDone s fun u =>
      u.rd .vsq VSQ.MGMT_OP.NOW = p ∧ ev u .vsq 3 ∧ (p = s.opPoint → u.clock.target = none ∧ u.bit .vsq VSQ.MGMT_OP.BUSY = false)
      ∧ (p ≠ s.opPoint → u.clock.target = some s.opPoint ∧ u.bit .vsq VSQ.MGMT_OP.BUSY = true) ∧ u.out = []
      ∧ s.Frame u [(.vsq, 0x00C), (.vsq, 0x040)] (.clock :: State.eventParts))
    ∧ (s.clock.target = none → Answers .opMoveDone s fun u => u.out = [] ∧ s.Frame u [] [])
    -- the backstop's trim; TIME_REF
    ∧ (let on : Prop := s.start.power ≠ .off
      let trims : Prop := s.backstopQual = true ∧ (s.qual false = true ∨ s.qual true = true)
      let far : Prop := interval < 999900000 ∨ 1000100000 < interval
      let ref : Prop := on ∧ s.bit .tim TIM.REF_CTRL.TREF_EN = true
      let n := s.clock.pulses + 1
      (¬on → ∀ c, c = .backstopTrim ∨ c = .timeRefPulse interval → Answers c s fun u => u.out = [] ∧ s.Frame u [] [])
      ∧ (on → Answers .backstopTrim s fun u =>
        (u.bit .tim TIM.REF_CTRL.BACKSTOP_TRIMMED = true ↔ trims) ∧ u.out = [] ∧ s.Frame u [(.tim, 0x02C)] [])
      ∧ (¬ref → Answers (.timeRefPulse interval) s fun u => u.out = [] ∧ s.Frame u [] [])
      ∧ (ref → far → Answers (.timeRefPulse interval) s fun u =>
        u.clock = { s.clock with pulses := 0 } ∧ u.out = [] ∧ s.Frame u [] [.clock, .ctr])
      ∧ (ref → ¬far → Answers (.timeRefPulse interval) s fun u =>
        u.rdI .tim TIM.REF_CTRL.ADJ = max (-32767) (min 32767 (1000000000 - interval)) ∧ u.clock = { s.clock with pulses := min n 16 }
        ∧ u.bit .tim TIM.REF_CTRL.TREF_LOCK = (s.bit .tim TIM.REF_CTRL.TREF_LOCK || decide (16 ≤ n))
        ∧ (16 ≤ n → s.bit .tim TIM.REF_CTRL.TREF_LOCK = false → ev u .tim 7) ∧ u.out = []
        ∧ s.Frame u [(.tim, 0x00C), (.tim, 0x02C)] (.clock :: State.eventParts))
      ∧ Answers .timeRefTimeout s (fun u =>
        u.bit .tim TIM.REF_CTRL.TREF_LOCK = false ∧ u.rd .tim TIM.REF_CTRL.ADJ = s.rd .tim TIM.REF_CTRL.ADJ
        ∧ u.clock = { s.clock with pulses := 0 } ∧ (s.bit .tim TIM.REF_CTRL.TREF_LOCK = true → ev u .tim 6) ∧ u.out = []
        ∧ s.Frame u [(.tim, 0x00C), (.tim, 0x02C)] (.clock :: State.eventParts)))

/-- R20, R341-R345, R348, R349: the two ends of the barrier link. HEARTBEAT acknowledges, restarts and, three in a row, brings an
end up; a resend sends every unacknowledged frame again, the oldest no more than four times; an end that goes down drops what is
unacknowledged; the hub waits longer for a field image that restarts. -/
def Obligations.barrierLink : Prop :=
  ∀ (s : State) (bytes : List Byte),
    let e := s.hubEnd
    let f := s.fieldEnd
    let on : Prop := s.start.power ≠ .off
    let ev (u : State) (p : Page) (b : Nat) : Prop := (u.word p 0x00C).getLsbD b = true
    let nothing (c : Instr) : Prop := Answers c s fun u => u.out = [] ∧ s.Frame u [] []
    let stale : List (Page × Nat) := [(.fbr, 0x020), (.dev, 0x034), (.fpw, 0x008), (.ftl, 0x008), (.frl, 0x008), (.fbr, 0x008)]
    let shown (u : State) : Prop := u.bit .fbr FBR.LINK_STATUS.STALE = true ∧ u.bit .dev DEV.STATUS.MIRROR_STALE = true
    let mirror := { s.mirror with needStatus := true, needTelem := true, pending := [] }
    let unproved (u : State) : Prop := u.bit .ses SES.SES_STATUS.PROOF_PENDING = false
      ∧ (s.bit .ses SES.SES_STATUS.PROOF_PENDING = true → u.rd .ses SES.SES_STATUS.LAST_RESULT = 5)
    let down := { e with up := false, unacked := [], waiting := [], hbRun := 0, downs := e.downs + 1 }
    let acked (x y : BEnd) (n : Nat) : Prop :=
      (x.waiting = [] → y.unacked = (match x.unacked.findIdx? fun z => z.seq == n with | some i => x.unacked.drop (i + 1) | none => x.unacked))
      ∧ (x.unacked.findIdx? (fun z => z.seq == n) = none → y.unacked.take x.unacked.length = x.unacked) ∧ y.rxSeq = x.rxSeq
    let anew (y : BEnd) : Prop := y.txSeq = 0 ∧ y.rxSeq = 0 ∧ y.unacked = [] ∧ y.waiting = []
    -- HEARTBEAT is sent
    -- (a hub whose device section has no clock sends none: R330)
    (¬on ∨ s.host.mgmt = .stopped → nothing (.heartbeatInterval .hub))
    ∧ (on → s.host.mgmt ≠ .stopped → Answers (.heartbeatInterval .hub) s fun u =>
      u.hubEnd = { e with restartLeft := e.restartLeft - 1, hb := some {
        ack := e.rxSeq, restart := decide (0 < e.restartLeft), imageRestart := false, kettle := s.start.kettle
        starting := s.start.attempt.isSome, crc := min e.crcErr 255, unknown := min e.unknown 255 } }
      ∧ (∃ code, u.out = [.barrier .hub 1 0 code]) ∧ s.Frame u [] [.hubEnd])
    -- (the field island stands still while its image restarts, but for two last HEARTBEATs: R349, R361)
    ∧ (s.fieldAwake = true ↔ s.start.fieldUp = true ∧ (s.field.imgRestart = false ∨ s.field.imgBeats ≠ 0))
    ∧ (s.fieldAwake = false → nothing (.heartbeatInterval .field))
    ∧ (s.fieldAwake = true → Answers (.heartbeatInterval .field) s fun u =>
      u.fieldEnd = { f with restartLeft := f.restartLeft - 1, hb := some {
        ack := f.rxSeq, restart := decide (0 < f.restartLeft), imageRestart := s.field.imgRestart
        kettle := s.start.kettle || s.start.deepKettle
        starting := s.start.attempt.isSome, crc := min f.crcErr 255, unknown := min f.unknown 255 } }
      ∧ u.field = { s.field with imgBeats := s.field.imgBeats - 1 } ∧ (∃ code, u.out = [.barrier .field 1 0 code]) ∧ s.Frame u [] [.fieldEnd, .field])
    -- HEARTBEAT is taken
    ∧ (¬on ∨ f.hb = none → nothing (.heartbeat .hub))
    ∧ (∀ h, on → f.hb = some h → Answers (.heartbeat .hub) s fun u =>
      let again : Prop := h.restart = true ∧ e.peerRestart = false
      let comes : Prop := e.up = false ∧ 2 ≤ e.hbRun
      -- the RAIL_SENDs that are now next in order reach the field island
      u.fieldEnd = { f with hb := none, rxSeq := u.fieldEnd.rxSeq }
      ∧ ((∀ m ∈ e.unacked.map (·.msg) ++ e.waiting, State.msgType m ≠ 5) → u.fieldEnd.rxSeq = f.rxSeq ∧ u.rail = s.rail)
      ∧ u.hubEnd.peerRestart = h.restart ∧ u.hubEnd.hbRun = min 3 (e.hbRun + 1)
      ∧ (u.hubEnd.up = true ↔ e.up = true ∨ comes) ∧ (again → anew u.hubEnd) ∧ (¬again → acked e u.hubEnd h.ack)
      ∧ u.rd .fbr FBR.FAR_COUNTS.CRC_ERR = h.crc % 256 ∧ u.rd .fbr FBR.FAR_COUNTS.UNKNOWN = h.unknown % 256
      ∧ u.rd .fbr FBR.LINK_STATUS.FIELD_STATE = (if h.imageRestart then 3 else if h.kettle then 2 else if h.starting then 1 else 0)
      ∧ u.mirror.imgWait = h.imageRestart ∧ (h.imageRestart = true → shown u)
      ∧ (again → e.up = true → u.mirror = { mirror with imgWait := h.imageRestart } ∧ shown u ∧ ev u .fbr 0 ∧ unproved u)
      ∧ (comes → ev u .dev 2 ∧ u.bit .fbr FBR.LINK_STATUS.UP = true)
      ∧ u.out = []
      ∧ s.Frame u ([(.fbr, 0x00C), (.fbr, 0x02C), (.fbr, 0x034), (.dev, 0x00C), (.dev, DEV.RESET_HISTORY.LAST_KIND.off), (.ses, 0x020)] ++ stale)
          (.hubEnd :: .fieldEnd :: .mirror :: .start :: .field :: .sense :: .rail :: State.eventParts))
    ∧ (s.fieldAwake = false ∨ e.hb = none → nothing (.heartbeat .field))
    ∧ (∀ h, s.fieldAwake = true → e.hb = some h → Answers (.heartbeat .field) s fun u =>
      let again : Prop := h.restart = true ∧ f.peerRestart = false
      let comes : Prop := f.up = false ∧ 2 ≤ f.hbRun
      u.hubEnd = { e with hb := none } ∧ u.fieldEnd.peerRestart = h.restart ∧ u.fieldEnd.hbRun = min 3 (f.hbRun + 1)
      ∧ (u.fieldEnd.up = true ↔ f.up = true ∨ comes) ∧ (again → f.up = false → ¬comes → anew u.fieldEnd)
      ∧ (¬again → ¬comes → acked f u.fieldEnd h.ack)
      -- both full reports first, then a KETTLE_ENTER that is owed
      ∧ ((again ∧ f.up = true) ∨ (comes ∧ (again ∨ (f.unacked = [] ∧ f.waiting = []))) →
          u.fieldEnd.unacked.map (fun x => State.msgType x.msg) = [2, 3, 3] ++ (if f.up = false ∧ s.start.kettleOwed = true then [9] else [])
          ∧ u.field.fullOwed = false)
      ∧ (comes → u.start = { s.start with kettleOwed := false })
      ∧ (¬comes → u.start = s.start)
      ∧ u.out = [] ∧ s.Frame u [] [.hubEnd, .fieldEnd, .field, .tele, .start, .fresh])
    -- 3 ms without acknowledgement
    ∧ (e.unacked = [] → nothing (.barrierResendTimer .hub)) ∧ (f.unacked = [] ∨ s.imageGap = true → nothing (.barrierResendTimer .field))
    ∧ (∀ x r, e.unacked = x :: r → x.sends < 4 → Answers (.barrierResendTimer .hub) s fun u =>
      u.hubEnd = { e with unacked := (x :: r).map fun y => { y with sends := y.sends + 1 }, resends := e.resends + (r.length + 1) }
      ∧ u.rd .fbr FBR.ERR_COUNTS.RESENDS = min (e.resends + (r.length + 1)) 255 ∧ u.out = [] ∧ s.Frame u [(.fbr, 0x028)] [.hubEnd, .ctr])
    ∧ (∀ x r, e.unacked = x :: r → 4 ≤ x.sends → Answers (.barrierResendTimer .hub) s fun u =>
      u.hubEnd = { e with unacked := r, dropped := e.dropped + 1 } ∧ u.rd .fbr FBR.ERR_COUNTS.DROPPED = min (e.dropped + 1) 255
      ∧ (∀ page role off v, x.msg = .settingWrite page role off v → u.bit .fbr FBR.SETTING_STATUS.REJECT = true
          ∧ u.rd .fbr FBR.SETTING_STATUS.PAGE = page % 4 ∧ u.rd .fbr FBR.SETTING_STATUS.OFFSET = off % 4096
          ∧ u.rd .fbr FBR.SETTING_STATUS.REASON = 4 ∧ ev u .fbr 3)
      ∧ u.out = [] ∧ s.Frame u [(.fbr, 0x028), (.fbr, 0x034), (.fbr, 0x00C), (.ses, 0x020)] (.hubEnd :: .mirror :: .sense :: State.eventParts))
    ∧ (∀ x r, s.imageGap = false → f.unacked = x :: r → x.sends < 4 → Answers (.barrierResendTimer .field) s fun u =>
      u.fieldEnd = { f with unacked := (x :: r).map fun y => { y with sends := y.sends + 1 }, resends := f.resends + (r.length + 1) }
      ∧ u.out = [] ∧ s.Frame u [] [.fieldEnd])
    ∧ (∀ x r, s.imageGap = false → f.unacked = x :: r → 4 ≤ x.sends → State.msgType x.msg < 16 → Answers (.barrierResendTimer .field) s fun u =>
      u.fieldEnd = { f with unacked := r, dropped := f.dropped + 1 } ∧ u.out = [] ∧ s.Frame u [(.ses, 0x020)] [.fieldEnd])
    -- 10 ms without a valid frame
    ∧ (s.mirror.imgWait = false → e.up = false → Answers (.barrierLinkDown .hub) s fun u =>
      u.hubEnd = { e with hbRun := 0 } ∧ u.out = [] ∧ s.Frame u [] [.hubEnd])
    ∧ (s.mirror.imgWait = true → Answers (.barrierLinkDown .hub) s fun u => shown u ∧ u.out = [] ∧ s.Frame u stale [])
    ∧ (s.mirror.imgWait = false → e.up = true → Answers (.barrierLinkDown .hub) s fun u =>
      u.hubEnd = down ∧ u.mirror = mirror ∧ u.sense = { s.sense with slotSeqs := [] } ∧ shown u ∧ ev u .dev 1 ∧ unproved u ∧ u.out = []
      ∧ s.Frame u ([(.fbr, 0x034), (.dev, 0x00C), (.ses, 0x020)] ++ stale) (.hubEnd :: .mirror :: .sense :: State.eventParts))
    ∧ (s.mirror.imgWait = false → nothing .imageRestartTimeout)
    ∧ (s.mirror.imgWait = true → e.up = true → Answers .imageRestartTimeout s fun u =>
      u.hubEnd = down ∧ u.mirror = { mirror with imgWait := false } ∧ u.sense = { s.sense with slotSeqs := [] } ∧ shown u ∧ ev u .dev 1
      ∧ unproved u ∧ u.out = []
      ∧ s.Frame u ([(.fbr, 0x034), (.dev, 0x00C), (.ses, 0x020)] ++ stale) (.hubEnd :: .mirror :: .sense :: State.eventParts))
    ∧ (s.imageGap = true → nothing (.barrierLinkDown .field))
    ∧ (f.up = false → s.imageGap = false → Answers (.barrierLinkDown .field) s fun u =>
      u.fieldEnd = { f with hbRun := 0 } ∧ u.out = [] ∧ s.Frame u [] [.fieldEnd])
    ∧ (f.up = true → s.imageGap = false → Answers (.barrierLinkDown .field) s fun u =>
      let charged (a : Attempt) : Prop := 8 ≤ a.step ∧ s.pins.resetN.asserted = false
      ((∀ a, s.start.attempt = some a → ¬charged a) →
        u.fieldEnd = { f with up := false, unacked := [], waiting := [], hbRun := 0, downs := min (f.downs + 1) 255 } ∧ s.Frame u [] [.fieldEnd])
      ∧ (∀ a, s.start.attempt = some a → charged a → a.fromKettle = false ∨ a.counterBefore < 3 →
          u.causeWord = { cause := 9, deep := s.causeWord.deep } ∧ u.start.power = .off ∧ u.start.offWait = true ∧ u.start.attempt = none
          ∧ s.Frame u [] [.fieldEnd, .hubEnd, .host, .start, .field])
      ∧ u.fieldEnd.up = false ∧ u.out = [])
    -- the bytes between two delimiters are judged: a bad CRC or length, an unknown type or a violated layout; the run of HEARTBEATs is
    -- broken by what is discarded
    ∧ (let body := bytes.take (bytes.length - 4)
      let field (i n : Nat) : Nat := natBE ((body.drop i).take n)
      let bad : Prop := bytes.length < 8 ∨ natBE (bytes.drop (bytes.length - 4)) ≠ State.frameCrc (bitsBE body) ∨ 256 < field 2 2
        ∨ field 2 2 ≠ body.length - 4
      let strange (side : Side) : Prop := ¬bad ∧ (field 0 1 < 1 ∨ 16 < field 0 1 ∨ State.layoutOk side (field 0 1) (body.drop 4) = false)
      (¬on → nothing (.barrierFrameDiscard .hub bytes)) ∧ (s.fieldAwake = false → nothing (.barrierFrameDiscard .field bytes))
      ∧ (on → bad → Answers (.barrierFrameDiscard .hub bytes) s fun u =>
        u.hubEnd = { e with crcErr := e.crcErr + 1, hbRun := 0 } ∧ u.rd .fbr FBR.ERR_COUNTS.CRC_ERR = min (e.crcErr + 1) 255 ∧ u.out = []
        ∧ s.Frame u [(.fbr, 0x028)] [.hubEnd, .ctr])
      ∧ (on → strange .hub → Answers (.barrierFrameDiscard .hub bytes) s fun u =>
        u.hubEnd = { e with unknown := e.unknown + 1, hbRun := 0 } ∧ u.rd .fbr FBR.ERR_COUNTS.UNKNOWN = min (e.unknown + 1) 255 ∧ ev u .fbr 6
        ∧ u.out = [] ∧ s.Frame u [(.fbr, 0x028), (.fbr, 0x00C)] (.hubEnd :: State.eventParts))
      ∧ (s.fieldAwake = true → bad → Answers (.barrierFrameDiscard .field bytes) s fun u =>
        u.fieldEnd = { f with crcErr := f.crcErr + 1, hbRun := 0 } ∧ u.out = [] ∧ s.Frame u [] [.fieldEnd, .field])
      ∧ (s.fieldAwake = true → strange .field → Answers (.barrierFrameDiscard .field bytes) s fun u =>
        u.fieldEnd = { f with unknown := f.unknown + 1, hbRun := 0 } ∧ u.out = [] ∧ s.Frame u [] [.fieldEnd, .field])
      ∧ (∀ side, ¬bad → ¬strange side → nothing (.barrierFrameDiscard side bytes)))
    -- what is sent every 10 ms; the vote
    ∧ (f.up = false ∨ s.fieldAwake = false → nothing .statusReportTimer ∧ nothing .telemetryBatchTimer)
    ∧ (f.up = true → s.fieldAwake = true → Answers .statusReportTimer s fun u =>
      (∃ r, u.fieldEnd = State.sendFrom f (.statusReport r) ∧ r.feedA = s.field.pub.feedA ∧ r.feedB = s.field.pub.feedB
        ∧ r.conv = s.field.pub.conv ∧ r.phases.map (·.st) = s.field.pub.phases.map (·.st) ∧ r.settings = s.field.pub.settings
        ∧ r.lastSet = s.field.pub.lastSet ∧ r.noMajority = s.noMajority ∧ r.attempts = s.attemptsWord ∧ r.cause = s.causeWord.cause
        ∧ r.hostRemain = s.lockWord.host.remain ∧ r.railRemain = s.lockWord.rail.remain ∧ r.serial = s.identWord
        ∧ (s.field.bulk = false → r.holdupTime = 0))
      ∧ u.out = [] ∧ s.Frame u [] [.fieldEnd, .field, .tele, .fresh])
    ∧ (f.up = true → s.fieldAwake = true → Answers .telemetryBatchTimer s fun u =>
      -- only the feed to which the modem is coupled has a valid ripple
      let a := decide (s.rail.feed = .a ∧ s.tele.rippleA.n ≠ 0)
      let b := decide (s.rail.feed = .b ∧ s.tele.rippleB.n ≠ 0)
      let n := if s.rail.feed = .a then s.tele.rippleA.n else s.tele.rippleB.n
      let rs := (List.range 32).map s.telRec
      u.fieldEnd = State.sendFrom (State.sendFrom f (.telemetryBatch (rs.take 16) a b n)) (.telemetryBatch (rs.drop 16) a b n)
      ∧ u.out = [] ∧ s.Frame u [] [.fieldEnd, .tele])
    ∧ (s.fieldAwake = false → nothing .voteSweep)
    ∧ (s.fieldAwake = true → Answers .voteSweep s fun u =>
      let k := s.field.keys
      let fixes := State.mended k.viewer + State.mended k.operator + State.mended k.custodian + State.mended s.field.attempts
        + State.mended s.field.cause + State.mended s.field.caddy + State.mended s.field.lock + State.mended s.field.ident
      -- the verifiers of the three roles, each for itself
      (∀ x, State.vote k.viewer = some x → u.field.keys.viewer = ⟨x, x, x⟩) ∧ (∀ x, State.vote k.operator = some x → u.field.keys.operator = ⟨x, x, x⟩)
      ∧ (∀ x, State.vote k.custodian = some x → u.field.keys.custodian = ⟨x, x, x⟩)
      ∧ (State.vote k.viewer = none → u.field.keys.viewer = k.viewer) ∧ (∀ n, State.vote s.field.attempts = some n → u.field.attempts = ⟨n, n, n⟩)
      ∧ (∀ c, State.vote s.field.cause = some c → u.field.cause = ⟨c, c, c⟩) ∧ (∀ n, State.vote s.field.caddy = some n → u.field.caddy = ⟨n, n, n⟩)
      ∧ (∀ w, State.vote s.field.lock = some w → u.field.lock = ⟨w, w, w⟩) ∧ (∀ n, State.vote s.field.ident = some n → u.field.ident = ⟨n, n, n⟩)
      ∧ u.field.pub.dissent = s.field.pub.dissent ||| s.dissenting ∧ u.noMajority = s.noMajority
      ∧ (s.field.pub.repairs ≤ 0xFFFF → u.field.pub.repairs = min (s.field.pub.repairs + fixes) 0xFFFF)
      ∧ u.out = [] ∧ s.Frame u [] [.field])

/-- R46, R48, R71, R342, R344, R346-R348, R357, R403, R420, R421: what the hub does with the next message in order. Nothing when no
frame of the command's type is the next one. -/
def Obligations.messagesToHub : Prop :=
  ∀ (s : State),
    let next := (s.fieldEnd.unacked.find? fun x => x.seq == State.seqOn s.hubEnd.rxSeq 1).map (·.msg)
    let on : Prop := s.start.power ≠ .off
    let ev (u : State) (p : Page) (b : Nat) : Prop := (u.word p 0x00C).getLsbD b = true
    let got (u : State) : Prop := u.hubEnd = { s.hubEnd with rxSeq := State.seqOn s.hubEnd.rxSeq 1 } ∧ u.out = []
    let stale : List (Page × Nat) := [(.fbr, 0x020), (.dev, 0x034), (.fpw, 0x008), (.ftl, 0x008), (.frl, 0x008), (.fbr, 0x008)]
    (∀ c t, (c, t) ∈ [(Instr.statusReport, 2), (.telemetryBatch, 3), (.railDeliver, 4), (.proofResult, 7), (.kettleEnter, 9), (.phaseSpare, 11),
      (.feedLimits, 12), (.cycleMark, 14)] → ¬on ∨ (∀ m, next = some m → State.msgType m ≠ t) → Answers c s fun u => u.out = [] ∧ s.Frame u [] [])
    -- STATUS_REPORT
    ∧ (∀ r, on → next = some (.statusReport r) → r.permit = 0 → Answers .statusReport s fun u =>
      let taken := s.mirror.pending.findIdx? fun (x : Nat × Nat × Nat) => x.1 == r.lastSet.1 && x.2.1 == r.lastSet.2.2.1 && x.2.2 == r.lastSet.2.2.2
      let n := State.workingPhases r.phases
      -- the mirror pages, by firmware, which stops where no bank runs
      (s.cad.noBank = false →
      u.rd .fpw FPW.FEED_A.VOLTAGE = r.feedA.volt % 65536 ∧ u.rd .fpw FPW.FEED_B.CURRENT = r.feedB.cur % 65536
      ∧ u.rd .fpw FPW.FEED_STATUS.A_STATE = State.feedCode r.feedA.st ∧ u.rd .fpw FPW.FEED_STATUS.B_STATE = State.feedCode r.feedB.st
      ∧ u.bit .fpw FPW.FEED_STATUS.A_CARRYING = State.carrying r.feedA r.feedB ∧ u.bit .fpw FPW.FEED_STATUS.HOLDUP = r.holdup
      ∧ u.rd .fpw FPW.FEED_STATUS.HOLDUP_TIME = r.holdupTime % 65536 ∧ u.rd .fpw FPW.BUS.VOLTAGE = r.busV % 65536
      ∧ u.rd .fpw FPW.CONV_STATUS.STATE = State.convCode r.conv ∧ u.rd .fpw FPW.CONV_STATUS.WORKING = n % 32
      ∧ u.bit .fpw FPW.CONV_STATUS.SHORT = r.short ∧ u.rd .fpw FPW.CONV_STATUS.RATING = 50 * n % 65536
      ∧ u.rd .fpw FPW.FPW_COUNTS.FEED_LOSSES = r.feedLosses % 256 ∧ u.rd .fpw FPW.FPW_COUNTS.CL_EVENTS = r.clEvents % 256
      ∧ u.rd .fbr FBR.VOTE_STATUS.NO_MAJORITY = r.noMajority % 64 ∧ u.rd .fbr FBR.VOTE_STATUS.REPAIRS = r.repairs % 65536
      ∧ u.rd .fbr FBR.IMAGE_CTRL.STATE = r.imgState % 8 ∧ u.rd .fbr FBR.IMAGE_CTRL.VERSION = r.imgVersion % 65536
      ∧ u.rd .fpw FPW.PHASE_CTRL.AUTO_SPARE
          = FPW.PHASE_CTRL.AUTO_SPARE.get (r.settings.get (resetWord s.part) (Page.fpw.base + 0x044))
      ∧ u.rd .fbr FBR.FAR_COUNTS.LINK_DOWNS = min r.downs 255
      ∧ (s.rd .fbr FBR.VOTE_STATUS.REPAIRS < r.repairs → ev u .fbr 1)
      ∧ (∀ o, s.mirror.shown = some o →
          (o.validA = true ∧ r.feedA.st ≠ .valid ∨ o.validB = true ∧ r.feedB.st ≠ .valid → ev u .dev 5 ∧ ev u .fpw 0)
          ∧ (o.validA = false ∧ r.feedA.st = .valid ∨ o.validB = false ∧ r.feedB.st = .valid → ev u .dev 5 ∧ ev u .fpw 1)
          ∧ (o.validA = true ∧ r.feedA.st = .ovOff ∨ o.validB = true ∧ r.feedB.st = .ovOff → ev u .fpw 6)
          ∧ (o.limitA = false ∧ r.feedA.limited = true ∨ o.limitB = false ∧ r.feedB.limited = true → ev u .fpw 7)
          ∧ (r.holdup = true → o.holdup = false → ev u .fpw 2)
          ∧ (o.spared ≠ r.spared → ev u .fpw 3) ∧ (o.failed ≠ r.failed → ev u .fpw 4) ∧ (o.imgFails ≠ r.imgFails → ev u .fbr 5)))
      ∧ (s.cad.noBank = true → ∀ o, 0x00C ≤ o → u.word .fpw o = s.word .fpw o)
      ∧ u.rd .dev DEV.KETTLE_CAUSE.CAUSE = r.cause % 128 ∧ u.rd .dev DEV.KETTLE_CAUSE.ATTEMPTS = r.attempts % 256
      ∧ u.bit .ses SES.SES_STATUS.LOCKED = decide (r.hostRemain ≠ 0) ∧ u.rd .ses SES.SES_STATUS.LOCKOUT_REMAIN = r.hostRemain % 4096
      ∧ u.rd .tsn TSN.SHUTDOWN.RESTARTS = r.thermRestarts % 4 ∧ u.bit .tsn TSN.SHUTDOWN.LOCKED = r.thermLocked
      ∧ u.mirror = { (if s.cad.noBank then s.mirror else { s.mirror with
            phases := r.phases, statusAt := some s.time.toNat, sparesLeft := State.sparesLeft r.phases, imgSpare := r.imgSpare
            shown := some { validA := decide (r.feedA.st = .valid), validB := decide (r.feedB.st = .valid), limitA := r.feedA.limited
                            limitB := r.feedB.limited, holdup := r.holdup, spared := r.spared, failed := r.failed, imgFails := r.imgFails } }) with
          seen := true, needStatus := false, railLocked := decide (r.railRemain ≠ 0), revokeSeen := r.revoked.1
          pending := match taken with | some i => s.mirror.pending.drop (i + 1) | none => s.mirror.pending }
      ∧ (∀ i, taken = some i → r.lastSet.2.1 ≠ 0 → u.bit .fbr FBR.SETTING_STATUS.REJECT = true
          ∧ u.rd .fbr FBR.SETTING_STATUS.PAGE = r.lastSet.2.2.1 % 4 ∧ u.rd .fbr FBR.SETTING_STATUS.OFFSET = r.lastSet.2.2.2 % 4096
          ∧ u.rd .fbr FBR.SETTING_STATUS.REASON = r.lastSet.2.1 % 16 ∧ ev u .fbr 3)
      ∧ (u.bit .fbr FBR.LINK_STATUS.STALE = true ↔ s.hubEnd.up = false ∨ s.mirror.needTelem = true ∨ s.mirror.imgWait = true)
      ∧ (r.hostRemain ≠ 0 → s.bit .ses SES.SES_STATUS.LOCKED = false → ev u .ses 3 ∧ ev u .dev 8)
      ∧ (r.thermLocked = true → s.bit .tsn TSN.SHUTDOWN.LOCKED = false → ev u .tsn 6)
      ∧ (r.revoked.1 ≠ s.mirror.revokeSeen → r.revoked.2 = s.role → s.role ≠ 0 → u.role = 0 ∧ ev u .ses 1)
      ∧ got u
      ∧ s.Frame u ([(.fpw, 0x00C), (.fpw, 0x018), (.fpw, 0x024), (.fpw, 0x028), (.fpw, 0x02C), (.fpw, 0x030), (.fpw, 0x034), (.fpw, 0x038),
            (.fpw, 0x03C), (.fpw, 0x04C), (.fbr, 0x00C), (.fbr, 0x02C), (.fbr, 0x030), (.fbr, 0x034), (.fbr, 0x038), (.tim, 0x0C8),
            (.dev, 0x00C), (.dev, 0x038), (.dev, DEV.SERIAL_LO.word.off), (.dev, DEV.SERIAL_HI.word.off), (.ses, 0x00C), (.ses, 0x020),
            (.tsn, 0x00C), (.tsn, 0x044), (.cad, 0x050)] ++ State.settingRegs ++ stale)
          (.hubEnd :: .mirror :: .field :: State.eventParts))
    -- TELEMETRY_BATCH: the records of its channels, the ripple; stale no longer for want of it with channel 31
    ∧ (∀ rs a b n, on → next = some (.telemetryBatch rs a b n) → (rs.map (·.ch)).Nodup → (∀ r ∈ rs, r.ch < 32) → Answers .telemetryBatch s fun u =>
      let last : Prop := ∃ r ∈ rs, r.ch = 31
      (∀ r ∈ rs, u.mirrored r.ch = r ∧ FTL.CHn.SETTLING.get (u.word .ftl (State.chOff r.ch)) = r.flags % 2
        ∧ FTL.CHn.OPEN.get (u.word .ftl (State.chOff r.ch)) = r.flags / 2 % 2 ∧ FTL.CHn.SHORT.get (u.word .ftl (State.chOff r.ch)) = r.flags / 4 % 2
        ∧ (r.flags.testBit 1 = true → (s.mirrored r.ch).flags.testBit 1 = false → ev u .ftl 0)
        ∧ (r.flags.testBit 2 = true → (s.mirrored r.ch).flags.testBit 2 = false → ev u .ftl 1)
        ∧ (r.flags.testBit 3 = true → r.flags.testBit 4 = true → ev u .ftl 2))
      ∧ (∀ ch, (∀ r ∈ rs, r.ch ≠ ch) → u.mirrored ch = s.mirrored ch ∧ (ch < 32 → u.word .ftl (State.chOff ch) = s.word .ftl (State.chOff ch)))
      ∧ u.bit .ftl FTL.FTL_CTRL.RIPPLE_A = a ∧ u.bit .ftl FTL.FTL_CTRL.RIPPLE_B = b ∧ u.rd .ftl FTL.FTL_CTRL.RIPPLE_N = n % 32
      ∧ u.bit .ftl FTL.FTL_CTRL.CYCLE_SRC = decide (n = 0)
      ∧ ((s.bit .ftl FTL.FTL_CTRL.RIPPLE_A = true ∧ a = false) ∨ (s.bit .ftl FTL.FTL_CTRL.RIPPLE_B = true ∧ b = false) → ev u .ftl 3)
      ∧ ((s.bit .ftl FTL.FTL_CTRL.RIPPLE_A = false ∧ a = true) ∨ (s.bit .ftl FTL.FTL_CTRL.RIPPLE_B = false ∧ b = true) → ev u .ftl 4)
      ∧ (last → u.mirror = { s.mirror with needTelem := false, telemAt := some s.time.toNat })
      ∧ (¬last → u.mirror = s.mirror) ∧ got u
      ∧ s.Frame u ([(.ftl, 0x00C), (.ftl, 0x018), (.ftl, 0x0A0)] ++ (rs.map fun r => (Page.ftl, State.chOff r.ch)) ++ stale)
          (.hubEnd :: .mirror :: .sense :: State.eventParts))
    -- RAIL_DELIVER: a message for the host; an FRL record; neighbour entries
    ∧ (∀ src svc flags data, on → next = some (.railDeliver src svc flags data) → svc ≠ 0 → Answers .railDeliver s fun u =>
      u.hubEnd = { s.hubEnd with rxSeq := State.seqOn s.hubEnd.rxSeq 1 } ∧ u.out = [.railToHost src svc data] ∧ s.Frame u [] [.hubEnd])
    ∧ (∀ src data, on → next = some (.railDeliver src 0 0 data) → Answers .railDeliver s fun u =>
      let w (i : Nat) : Nat := natBE ((data.drop (4 * i)).take 4)
      u.word .frl 0x02C = BitVec.ofNat 32 (w 0) ∧ u.word .frl 0x030 = BitVec.ofNat 32 (w 1) ∧ u.word .frl 0x034 = BitVec.ofNat 32 (w 2)
      ∧ u.word .frl 0x048 = BitVec.ofNat 32 (w 3) ∧ u.word .frl 0x04C = BitVec.ofNat 32 (w 4) ∧ u.word .frl 0x050 = BitVec.ofNat 32 (w 5)
      ∧ u.word .frl 0x054 = BitVec.ofNat 32 (w 6) ∧ u.word .frl 0x05C = BitVec.ofNat 32 (w 8)
      ∧ u.word .frl 0x058 = FRL.RL_HOST.HOST_EN.put (BitVec.ofNat 32 (w 7)) (s.rd .frl FRL.RL_HOST.HOST_EN)
      ∧ (∀ b, b < 11 → (w 9).testBit b = true → ev u .frl b) ∧ got u
      ∧ s.Frame u ((.frl, 0x00C) :: [0x02C, 0x030, 0x034, 0x048, 0x04C, 0x050, 0x054, 0x058, 0x05C].map fun o => (Page.frl, o))
          (.hubEnd :: State.eventParts))
    ∧ (∀ src flags data, on → next = some (.railDeliver src 0 flags data) → flags ≠ 0 → Answers .railDeliver s fun u =>
      (∀ i, i < 48 → u.mirror.nbrs.get (fun _ => 0) ((if flags = 1 then 0 else 48) + i) = BitVec.ofNat 32 (natBE ((data.drop (4 * i)).take 4)))
      ∧ u.mirror = { s.mirror with nbrs := u.mirror.nbrs } ∧ got u ∧ s.Frame u [] [.hubEnd, .mirror])
    -- PROOF_RESULT
    ∧ (∀ role res fails remain counter, on → next = some (.proofResult role res fails remain counter) → Answers .proofResult s fun u =>
      let waits : Prop := s.ses.discard = false ∧ s.bit .ses SES.SES_STATUS.PROOF_PENDING = true
      u.rd .ses SES.SES_STATUS.FAIL_RUN = fails % 8 ∧ u.bit .ses SES.SES_STATUS.LOCKED = decide (remain ≠ 0)
      ∧ u.rd .ses SES.SES_STATUS.LOCKOUT_REMAIN = remain % 4096
      ∧ (remain ≠ 0 → s.bit .ses SES.SES_STATUS.LOCKED = false → ev u .ses 3 ∧ ev u .dev 8)
      ∧ (waits → u.bit .ses SES.SES_STATUS.PROOF_PENDING = false ∧ u.rd .ses SES.SES_STATUS.LAST_RESULT = res % 8
        ∧ (res = 1 → u.role = role % 4 ∧ u.ses = { s.ses with lastWrite := s.time } ∧ ev u .ses 0)
        ∧ (res ≠ 1 → u.role = s.role ∧ u.ses = s.ses) ∧ (res = 2 → ev u .ses 2))
      ∧ (¬waits → u.role = s.role ∧ u.ses = { s.ses with discard := false })
      ∧ got u ∧ s.Frame u [(.ses, 0x020), (.ses, 0x00C), (.dev, 0x00C)] (.hubEnd :: .ses :: State.eventParts))
    -- KETTLE_ENTER, PHASE_SPARE, FEED_LIMITS, CYCLE_MARK
    ∧ (∀ cause n, on → next = some (.kettleEnter cause n) → Answers .kettleEnter s fun u =>
      u.rd .dev DEV.KETTLE_CAUSE.CAUSE = cause % 128 ∧ u.rd .dev DEV.KETTLE_CAUSE.ATTEMPTS = n % 256 ∧ ev u .dev 3 ∧ got u
      ∧ s.Frame u [(.dev, 0x038), (.dev, 0x00C)] (.hubEnd :: State.eventParts))
    ∧ (∀ phase spare reason left, on → next = some (.phaseSpare phase spare reason left) → Answers .phaseSpare s fun u =>
      -- a phase out with no spare for it is no substitution
      ev u .fpw (if reason = 3 then 4 else 3)
      -- the reports that follow show nothing new of it
      ∧ u.mirror = { s.mirror with sparesLeft := left, shown := s.mirror.shown.map fun x =>
          if reason = 3 then { x with failed := x.failed + 1 } else { x with spared := x.spared + 1 } }
      ∧ (spare ≠ 0xFF → u.rd .cad CAD.CAD_LAST.POOL = 10
        ∧ u.rd .cad CAD.CAD_LAST.UNIT = phase % 2 ^ 20 ∧ u.rd .cad CAD.CAD_LAST.REASON = (if reason = 3 then 6 else if reason = 4 then 4 else 3)
        ∧ (s.host.fwUp = true → u.cad.ledger = s.cad.ledger ++
            [⟨10, phase, if reason = 3 then 6 else if reason = 4 then 4 else 3, s.rd .cad CAD.LEDGER_TIME.POWERED_HOURS⟩])
        ∧ (s.host.fwUp = false → u.cad = s.cad))
      ∧ (spare = 0xFF → u.cad = s.cad ∧ u.word .cad 0x054 = s.word .cad 0x054) ∧ got u
      ∧ s.Frame u [(.fpw, 0x00C), (.cad, 0x054), (.cad, 0x018)] (.hubEnd :: .mirror :: .cad :: State.eventParts))
    ∧ (∀ feed e volt cur, on → next = some (.feedLimits feed e volt cur) → Answers .feedLimits s fun u =>
      (e = 1 ∨ e = 3 ∨ e = 5 → ev u .dev 5 ∧ ev u .fpw 0) ∧ (e = 2 → ev u .dev 5 ∧ ev u .fpw 1) ∧ (e = 3 → ev u .fpw 6)
      ∧ (e = 4 ∨ e = 5 → ev u .fpw 7) ∧ (e = 6 → ev u .fpw 2)
      -- the reports that follow show nothing new of it
      ∧ u.mirror = { s.mirror with shown := s.mirror.shown.map fun x =>
          let ends : Prop := e = 1 ∨ e = 2 ∨ e = 3 ∨ e = 5
          { x with
            validA := if feed = 0 ∧ ends then decide (e = 2) else x.validA
            validB := if feed ≠ 0 ∧ ends then decide (e = 2) else x.validB
            limitA := if feed = 0 ∧ (ends ∨ e = 4) then decide (e = 4) else x.limitA
            limitB := if feed ≠ 0 ∧ (ends ∨ e = 4) then decide (e = 4) else x.limitB
            holdup := if e = 6 ∨ e = 7 then decide (e = 6) else x.holdup } }
      ∧ got u ∧ s.Frame u [(.dev, 0x00C), (.fpw, 0x00C)] (.hubEnd :: .mirror :: State.eventParts))
    ∧ (∀ epoch index source, on → next = some (.cycleMark epoch index source) → Answers .cycleMark s fun u =>
      u.mirror = { s.mirror with mark := (epoch, index, source), markAt := s.time.toNat } ∧ got u ∧ s.Frame u [] [.hubEnd, .mirror])

/-- R46, R48, R71, R347, R361, R362, R384, R422, R441-R443, R449: what the field island does with the next message in order. Nothing
when no frame of the command's type is the next one. -/
def Obligations.messagesToField : Prop :=
  ∀ (s : State),
    let next := (s.hubEnd.unacked.find? fun x => x.seq == State.seqOn s.fieldEnd.rxSeq 1).map (·.msg)
    -- the field island has power and its image is not restarting; no RAIL_SEND follows, which would be taken with it (railServices)
    let on : Prop := s.fieldAwake = true ∧ ∀ x ∈ s.hubEnd.unacked, State.msgType x.msg ≠ 5
    let e := { s.fieldEnd with rxSeq := State.seqOn s.fieldEnd.rxSeq 1 }
    let only (u : State) (parts : List StatePart) : Prop := u.out = [] ∧ s.Frame u [] parts
    let had := s.start.attempt
    let l := s.lockWord.host
    (∀ c t, (c, t) ∈ [(Instr.proofCheck, 6), (.startResult, 8), (.kettleClear, 10), (.thermalNotice, 13), (.imageChunk, 15), (.settingWrite, 16)] →
      s.fieldAwake = false ∨ (∀ m, next = some m → State.msgType m ≠ t) → Answers c s fun u => only u [])
    -- PROOF_CHECK
    ∧ (∀ role nonce counter proof, on → next = some (.proofCheck role nonce counter proof) →
      let right : Prop := ∃ k, s.roleKey role = some k ∧ counter = l.counter
        ∧ Crypto.hmac (State.keyBytes k) (State.proofMessage nonce role counter) = proof.flatMap fun x => bytesBE 4 x.toNat
      let result (u : State) (res : Nat) : Prop :=
        u.fieldEnd = State.sendFrom e (.proofResult role res u.lockWord.host.failRun u.lockWord.host.remain u.lockWord.host.counter)
      (l.remain ≠ 0 → Answers .proofCheck s fun u => result u 3 ∧ u.lockWord = s.lockWord ∧ only u [.fieldEnd, .field])
      ∧ (l.remain = 0 → right → Answers .proofCheck s fun u =>
        u.lockWord = { s.lockWord with host := { l with counter := l.counter + 1, failRun := 0, nextLen := 60 } } ∧ result u 1
        ∧ only u [.fieldEnd, .field])
      ∧ (l.remain = 0 → ¬right → Answers .proofCheck s fun u =>
        u.lockWord = { s.lockWord with host :=
          if 4 ≤ l.failRun then { l with failRun := 0, remain := l.nextLen, nextLen := min (2 * l.nextLen) 3600 }
          else { l with failRun := l.failRun + 1 } }
        ∧ result u 2 ∧ only u [.fieldEnd, .field]))
    -- START_RESULT: a stage reached, success, failure
    ∧ (∀ cause level stage, on → next = some (.startResult 0 cause level stage) → Answers .startResult s fun u =>
      u.field = { s.field with hostLevel := level, inputs := if stage = 0x10 then cause else s.field.inputs } ∧ u.fieldEnd = e
      ∧ only u [.fieldEnd, .field])
    ∧ (∀ cause level stage, on → next = some (.startResult 1 cause level stage) → had ≠ none → Answers .startResult s fun u =>
      u.attemptsWord = 0 ∧ u.causeWord = { cause := 0, deep := s.causeWord.deep } ∧ u.start = { s.start with attempt := none, powerOn := false }
      ∧ u.field.hostLevel = level ∧ u.fieldEnd = e ∧ only u [.fieldEnd, .field, .start])
    ∧ (∀ outcome cause level stage a, on → 2 ≤ outcome → next = some (.startResult outcome cause level stage) → had = some a →
      a.fromKettle = false ∨ a.counterBefore < 3 → Answers .startResult s fun u =>
      u.causeWord = { cause := cause, deep := s.causeWord.deep } ∧ u.attemptsWord = s.attemptsWord ∧ u.start.power = .off ∧ u.start.attempt = none
      ∧ u.start.offWait = true ∧ u.start.thermalWait = (s.start.thermalWait || decide (cause = 8)) ∧ u.host.mgmt = .off
      ∧ u.hubEnd.up = false ∧ u.fieldEnd.up = false ∧ only u [.fieldEnd, .hubEnd, .host, .field, .start])
    ∧ (∀ outcome cause level stage a, on → 2 ≤ outcome → next = some (.startResult outcome cause level stage) → had = some a →
      a.fromKettle = true → 3 ≤ a.counterBefore → Answers .startResult s fun u =>
      u.causeWord = { cause := cause, deep := s.causeWord.deep } ∧ u.start.kettle = true ∧ u.start.power = .kettleSet ∧ u.start.attempt = none
      ∧ u.start.datapath = false ∧ u.out = [])
    ∧ (∀ outcome cause level stage, on → outcome ≠ 0 → next = some (.startResult outcome cause level stage) → had = none →
      Answers .startResult s fun u => u.field = { s.field with hostLevel := level } ∧ u.fieldEnd = e ∧ only u [.fieldEnd, .field])
    -- KETTLE_CLEAR from the host leaves kettle mode, with its COUNTER option; deep kettle only the rail can end
    ∧ (∀ c, on → next = some (.kettleClear c) → had = none → s.start.kettle = true → Answers .kettleClear s fun u =>
      let n := if c then 0 else s.attemptsWord
      u.start.attempt = some {
        step := 7, fromKettle := true, fromReset := false, counterBefore := n, causeBefore := s.causeWord, held := false, watchdog := true
        reported := false }
      ∧ u.attemptsWord = min (n + 1) 255 ∧ u.causeWord = s.causeWord ∧ u.start.kettle = false ∧ u.start.power = s.start.power
      ∧ u.fieldEnd = e ∧ only u [.fieldEnd, .field, .start])
    ∧ (∀ c, on → next = some (.kettleClear c) → had ≠ none ∨ s.start.kettle = false → Answers .kettleClear s fun u =>
      u.fieldEnd = e ∧ only u [.fieldEnd])
    -- THERMAL_NOTICE
    ∧ (∀ die zone kind band temp, on → next = some (.thermalNotice die zone kind band temp) → Answers .thermalNotice s fun u =>
      u.tele = (if kind = 1 then { s.tele with trips := putBit s.tele.trips die true } else s.tele) ∧ u.fieldEnd = e ∧ only u [.fieldEnd, .tele])
    -- IMAGE_CHUNK: in order, no more than 262,144 bytes
    ∧ (∀ off bytes, on → next = some (.imageChunk off bytes) → s.field.pub.imgState ≠ 1 ∨ off ≠ s.field.img.length → Answers .imageChunk s fun u =>
      u.fieldEnd = e ∧ only u [.fieldEnd])
    ∧ (∀ off bytes, on → next = some (.imageChunk off bytes) → s.field.pub.imgState = 1 → off = s.field.img.length → Answers .imageChunk s fun u =>
      let img := s.field.img ++ bytes
      -- its first bytes state how long it is
      let len := natBE (img.take 4)
      let got := img.length
      u.field.img = img ∧ u.field.pub.imgState = (if 262144 < len ∨ 262147 < got then 5 else if len ≤ got then 2 else 1) ∧ u.fieldEnd = e
      ∧ only u [.fieldEnd, .field])
    -- SETTING_WRITE: what is applied, what is refused and why; a refusal changes nothing but the report of it
    ∧ (∀ page role off v, on → next = some (.settingWrite page role off v) →
      -- a refusal is reported at once while the link is up
      let told (u : State) (why : Nat) : Prop :=
        (why ≠ 0 → e.up = true → u.fieldEnd = State.sendFrom e (.statusReport u.report) ∧ u.field.pub.permit = s.tele.permit
          ∧ u.tele = { s.tele with permit := 0 })
        ∧ (why = 0 ∨ e.up = false → u.fieldEnd = e ∧ u.tele = s.tele)
      let last (u : State) (why : Nat) : Prop := u.field.pub.lastSet = (e.rxSeq, why, page, off) ∧ told u why ∧ u.out = []
      let plain (p : Page) (m : Word) : Prop := Answers .settingWrite s fun u =>
        u.fieldWord p off = (s.fieldWord p off &&& ~~~m) ||| (v &&& m)
        ∧ (∀ a, a ≠ p.base + off → u.field.pub.settings.get (resetWord s.part) a = s.field.pub.settings.get (resetWord s.part) a)
        ∧ last u 0 ∧ s.Frame u [] [.fieldEnd, .field]
      let refused (why : Nat) : Prop := Answers .settingWrite s fun u =>
        -- nothing but the report, and the repair of copies that a vote finds apart (R360)
        u.field.pub.settings = s.field.pub.settings ∧ u.field.pub.phases.map (·.st) = s.field.pub.phases.map (·.st) ∧ u.field.swaps = s.field.swaps
        ∧ u.field.pub.imgState = s.field.pub.imgState ∧ u.field.img = s.field.img ∧ u.field.pub.conv = s.field.pub.conv
        ∧ u.field.pub.feedA = s.field.pub.feedA ∧ u.field.pub.feedB = s.field.pub.feedB ∧ u.lockWord = s.lockWord
        ∧ u.attemptsWord = s.attemptsWord ∧ u.causeWord = s.causeWord ∧ (∀ r, u.roleKey r = s.roleKey r)
        ∧ (why = 0 ∨ e.up = false → u.field.pub = { s.field.pub with lastSet := (e.rxSeq, why, page, off) })
        ∧ last u why ∧ s.Frame u [] [.fieldEnd, .field, .tele, .fresh]
      let railOk : Prop := (off = 0x020 → FRL.RL_CTRL.ROLE.get v ≠ 3 ∧ FRL.RL_CTRL.WAKE_CYCLES.get v ≠ 0)
        ∧ (off = 0x024 → 1 ≤ FRL.RL_NET.NODE_ID.get v ∧ FRL.RL_NET.NODE_ID.get v ≤ 0xFFE)
        ∧ (off = 0x028 → 2 ≤ FRL.RL_TUNE.STRAIN_K.get v ∧ 3 ≤ FRL.RL_TUNE.CAPTURE_MARGIN.get v ∧ FRL.RL_TUNE.TM_MARGIN.get v ≤ 40
            ∧ FRL.RL_TUNE.CS_LEVEL.get v ≤ 60)
      let begins := FBR.IMAGE_CTRL.BEGIN.get v
      let activates := FBR.IMAGE_CTRL.ACTIVATE.get v
      let aborts := FBR.IMAGE_CTRL.ABORT.get v
      let phase := FPW.PHASE_CTRL.PHASE.get v
      -- the spare of the lowest number
      let free := (List.range 26).find? fun j => (s.phase j).st == .spare
      (page = 0 → off = 0x048 → plain .fpw 3) ∧ (page = 1 → off = 0x0A0 → plain .ftl 0x00FFFFFF) ∧ (page = 2 → off = 0x058 → plain .frl 0x01000000)
      ∧ (page = 2 → off = 0x020 → railOk → plain .frl 0xFF1F) ∧ (page = 2 → off = 0x024 → railOk → plain .frl 0x0FFFFFFF)
      ∧ (page = 2 → off = 0x028 → railOk → plain .frl 0x00FFFFFF) ∧ (page = 2 → off ∈ [0x020, 0x024, 0x028] → ¬railOk → refused 2)
      ∧ (page = 0 → off = 0x044 → FPW.PHASE_CTRL.REPLACE.get v = 0 → plain .fpw 0x40)
      ∧ (page = 0 → off = 0x044 → FPW.PHASE_CTRL.REPLACE.get v = 1 → phase < 26 → (s.phase phase).st = .working →
          s.beingReplaced phase = false → ∀ j, free = some j → Answers .settingWrite s fun u =>
          (u.phase j).st = .rampIn ∧ (∀ k, k ≠ j → u.phase k = s.phase k) ∧ u.field.swaps = (s.field.swaps.filter fun x => x.2.1 != some phase) ++ [(phase, some j, 4)]
          ∧ u.fieldEnd = State.sendFrom e (.phaseSpare phase j 4 (State.sparesLeft u.field.pub.phases))
          ∧ u.field.pub.lastSet = (e.rxSeq, 0, page, off) ∧ u.out = [] ∧ s.Frame u [] [.fieldEnd, .field])
      ∧ (page = 0 → off = 0x044 → FPW.PHASE_CTRL.REPLACE.get v = 1 → (26 ≤ phase ∨ (s.phase phase).st ≠ .working ∨
          free = none) → Answers .settingWrite s fun u =>
          u.field.pub.phases.map (·.st) = s.field.pub.phases.map (·.st) ∧ last u 2 ∧ s.Frame u [] [.fieldEnd, .field, .tele, .fresh])
      -- the field image
      ∧ (page = 3 → off = 0x038 → role < 3 → refused 1)
      ∧ (page = 3 → off = 0x038 → 3 ≤ role → begins = 1 → activates = 0 → aborts = 0 → Answers .settingWrite s fun u =>
          u.field.img = [] ∧ u.field.pub.imgSpare = false ∧ u.field.pub.imgState = 1 ∧ last u 0 ∧ s.Frame u [] [.fieldEnd, .field])
      ∧ (page = 3 → off = 0x038 → 3 ≤ role → begins = 0 → activates = 1 → aborts = 0 → s.field.pub.imgState ≠ 3 → refused 2)
      ∧ (page = 3 → off = 0x038 → 3 ≤ role → begins = 0 → activates = 1 → aborts = 0 → s.field.pub.imgState = 3 → Answers .settingWrite s fun u =>
          u.field.imgRestart = true ∧ u.field.imgBeats = 3 ∧ u.field.pub.imgState = 4 ∧ u.rail.up = false ∧ last u 0
          ∧ s.Frame u [] [.fieldEnd, .field, .rail])
      ∧ (page = 3 → off = 0x038 → 3 ≤ role → begins = 0 → activates = 0 → aborts = 1 → s.field.pub.imgState ≠ 4 → Answers .settingWrite s fun u =>
          u.field.img = [] ∧ u.field.pub.imgState = 0 ∧ last u 0 ∧ s.Frame u [] [.fieldEnd, .field])
      ∧ (page = 3 → off = 0x038 → 3 ≤ role → 2 ≤ begins + activates + aborts → refused 0)
      -- registers that take no setting, offsets without a register
      ∧ (page = 0 → off ∉ [0x044, 0x048] → refused (if (regRow .fpw off).isSome then 1 else 5))
      ∧ (page = 2 → off ∉ [0x020, 0x024, 0x028, 0x058] → refused (if (regRow .frl off).isSome then 1 else 5))
      ∧ (page = 3 → off ≠ 0x038 → refused (if (regRow .fbr off).isSome then 1 else 5)) ∧ (4 ≤ page → refused 5))

/-- R350-R355, R445, R499: the feeds, the bulk capacitance, hold-up and the end of the stores. -/
def Obligations.feedsAndStores : Prop :=
  ∀ (s : State) (f : Feed) (volt : Nat),
    let p := s.field.pub
    let x := s.feed f
    let no := match f with | .a => 0 | .b => 1
    let other := match f with | .a => p.feedB | .b => p.feedA
    let otherKept (u : State) : Prop := (match f with | .a => u.field.pub.feedB | .b => u.field.pub.feedA) = other
    let only (u : State) (parts : List StatePart) : Prop := u.out = [] ∧ s.Frame u [] parts
    let nothing (c : Instr) : Prop := Answers c s fun u => only u []
    let on : Prop := s.start.fieldUp = true
    let dead (y : FeedSt) : Prop := y.st = .absent ∨ y.st = .reversed
    -- the restored feed of FEED_LIMITS 2, and 7 once hold-up ends
    let valid (u : State) (v : Nat) : Prop := u.feed f = { x with st := .valid, volt := v, limited := false } ∧ otherKept u ∧ u.field.pub.holdup = false
      ∧ u.fieldEnd = (let t := s.toHub (.feedLimits no 2 v x.cur)
          if p.holdup then t.toHub (.feedLimits no 7 v x.cur) else t).fieldEnd
    -- a VALID feed that leaves VALID is counted and reported
    let lost (u : State) (st : FeedState) (v k : Nat) : Prop := u.feed f = { st := st, volt := v, cur := 0, limited := false } ∧ otherKept u
      ∧ (x.st = .valid → u.field.pub.feedLosses = min (p.feedLosses + 1) 255 ∧ u.fieldEnd = (s.toHub (.feedLimits no k v 0)).fieldEnd)
      ∧ (x.st ≠ .valid → u.field.pub.feedLosses = p.feedLosses ∧ u.fieldEnd = s.fieldEnd)
    -- a feed that is off for overvoltage or current comes back by its own rule
    (x.st = .valid ∨ x.st = .ovOff ∨ x.st = .clOff → nothing (.feedValid f volt))
    ∧ (x.st ≠ .valid → x.st ≠ .ovOff → x.st ≠ .clOff → Answers (.feedValid f volt) s fun u =>
      valid u volt ∧ u.start = { s.start with
        powerOn := s.start.powerOn || (!s.start.fieldUp && decide (p.feedA.st ≠ .valid) && decide (p.feedB.st ≠ .valid)) }
      ∧ only u [.field, .fieldEnd, .start])
    ∧ Answers (.feedUvloFall f volt) s (fun u => lost u .belowUvlo volt 1 ∧ only u [.field, .fieldEnd])
    ∧ (x.st = .ovOff → nothing (.feedOvlo f volt))
    ∧ (x.st ≠ .ovOff → Answers (.feedOvlo f volt) s fun u =>
      lost u .ovOff volt 3 ∧ u.field.pub.ovEvents = min (p.ovEvents + 1) 255 ∧ only u [.field, .fieldEnd])
    ∧ (x.st ≠ .ovOff → nothing (.feedOvloRelease f volt))
    ∧ (x.st = .ovOff → Answers (.feedOvloRelease f volt) s fun u => valid u volt ∧ only u [.field, .fieldEnd])
    ∧ (x.st ≠ .valid → nothing (.feedCurrentLimitOff f))
    ∧ (x.st = .valid → Answers (.feedCurrentLimitOff f) s fun u =>
      u.feed f = { st := .clOff, volt := x.volt, cur := 0, limited := false } ∧ otherKept u
      ∧ u.field.pub.feedLosses = min (p.feedLosses + 1) 255 ∧ u.field.pub.clEvents = min (p.clEvents + 1) 255
      -- a feed that was not known to sit at its limit is reported there first
      ∧ u.fieldEnd = (let t := if x.limited then s else s.toHub (.feedLimits no 4 x.volt x.cur)
          t.toHub (.feedLimits no 5 x.volt 0)).fieldEnd ∧ only u [.field, .fieldEnd])
    ∧ (x.st ≠ .clOff → nothing (.feedClRetry f))
    ∧ (x.st = .clOff → Answers (.feedClRetry f) s fun u => valid u x.volt ∧ only u [.field, .fieldEnd])
    -- a feed reversed or absent; the field island goes with its last feed once the stores are spent
    ∧ (∀ c st, (c, st) ∈ [(Instr.feedReversed f, FeedState.reversed), (.feedAbsent f, .absent)] →
      (¬on ∨ s.start.spent = false ∨ ¬dead other → Answers c s fun u => lost u st 0 1 ∧ only u [.field, .fieldEnd])
      ∧ (on → s.start.spent = true → dead other → Answers c s fun u =>
        u.start.fieldUp = false ∧ u.fieldEnd.up = false ∧ u.rail.up = false ∧ u.field.keys = s.field.keys ∧ u.lockWord = s.lockWord
        ∧ u.attemptsWord = s.attemptsWord ∧ u.causeWord = s.causeWord ∧ u.feed f = { st := st, volt := 0, cur := 0, limited := false } ∧ u.start.power = s.start.power
        ∧ u.field.pub.phases.map (·.st) = p.phases.map (·.st) ∧ only u [.field, .fieldEnd, .tele, .rail, .start]))
    -- the bulk capacitance
    ∧ (p.feedA.st ≠ .valid → p.feedB.st ≠ .valid → nothing .bulkCharged)
    ∧ (p.feedA.st = .valid ∨ p.feedB.st = .valid → Answers .bulkCharged s fun u =>
      -- a converter in precharge goes on
      u.field.bulk = true ∧ (p.conv ≠ .precharge → u.field = { s.field with bulk := true } ∧ only u [.field])
      ∧ (p.conv = .precharge → s.start.kettle = false →
          u.field = { s.field with bulk := true, pub := { p with conv := .softStart } } ∧ only u [.field])
      ∧ (p.conv = .precharge → s.start.kettle = true → u.field.pub.phases.map (·.st) = p.phases.map (·.st)
          ∧ u.field.pub.conv = (if State.workingPhases p.phases < 22 then .currentLimit else .running)))
    -- hold-up
    ∧ (¬on ∨ p.feedA.st = .valid ∨ p.feedB.st = .valid ∨ p.holdup = true → nothing .holdupEntry)
    ∧ (on → p.feedA.st ≠ .valid → p.feedB.st ≠ .valid → p.holdup = false → Answers .holdupEntry s fun u =>
      u.field.pub.holdup = true ∧ u.fieldEnd = (s.toHub (.feedLimits 0 6 p.feedA.volt p.feedA.cur)).fieldEnd
      ∧ only u [.field, .fieldEnd])
    -- the stores are spent: the converter and the host side stop, an attempt that runs is not charged
    ∧ (¬on ∨ p.feedA.st = .valid ∨ p.feedB.st = .valid → nothing .holdupExhausted)
    ∧ (on → p.feedA.st ≠ .valid → p.feedB.st ≠ .valid → ¬(dead p.feedA ∧ dead p.feedB) → Answers .holdupExhausted s fun u =>
      u.start.power = .off ∧ u.start.spent = true ∧ u.start.kettle = false ∧ u.start.attempt = none ∧ u.host.mgmt = .off
      ∧ u.field.pub.conv = .off ∧ u.field.pub.holdup = false ∧ u.field.bulk = false ∧ u.hubEnd.up = false ∧ u.fieldEnd.up = false
      ∧ (∀ a, s.start.attempt = some a → a.counterBefore ≤ 255 → u.attemptsWord = a.counterBefore ∧ u.causeWord = a.causeBefore)
      ∧ (s.start.attempt = none → u.attemptsWord = s.attemptsWord ∧ u.causeWord = s.causeWord)
      ∧ only u [.field, .fieldEnd, .hubEnd, .host, .start])
    ∧ (on → dead p.feedA → dead p.feedB → Answers .holdupExhausted s fun u =>
      u.start.power = .off ∧ u.start.fieldUp = false ∧ u.host.mgmt = .off ∧ u.hubEnd.up = false ∧ u.fieldEnd.up = false ∧ u.rail.up = false
      ∧ (∀ a, s.start.attempt = some a → a.counterBefore ≤ 255 → u.attemptsWord = a.counterBefore ∧ u.causeWord = a.causeBefore)
      ∧ only u [.field, .fieldEnd, .hubEnd, .host, .start, .tele, .rail])

/-- R356-R358, R361, R362, R364: phases and their spares; field images from the host's side, their verification and the restart. -/
def Obligations.phasesAndImages : Prop :=
  ∀ (s : State) (i : Fin 26) (v : Word) (ok : Bool),
    let p := s.field.pub
    let only (u : State) (parts : List StatePart) : Prop := u.out = [] ∧ s.Frame u [] parts
    let nothing (c : Instr) : Prop := Answers c s fun u => only u []
    let on : Prop := s.start.fieldUp = true
    let auto : Prop := s.fset .fpw FPW.PHASE_CTRL.AUTO_SPARE = 1
    let x := s.phase i.val
    let spare (j : Nat) : Prop := j < 26 ∧ (s.phase j).st = .spare ∧ ∀ k, k < j → (s.phase k).st ≠ .spare
    let none' : Prop := ∀ k, k < 26 → (s.phase k).st ≠ .spare
    let short (u : State) : Prop := u.field.pub.short = decide (State.workingPhases u.field.pub.phases < 22)
    let m := s.mirror
    let sends (u : State) (page off : Nat) (w : Word) : Prop :=
      u.hubEnd = State.sendFrom s.hubEnd (.settingWrite page s.role off w)
      ∧ u.mirror.pending = m.pending ++ [(State.seqOn s.hubEnd.txSeq (s.hubEnd.waiting.length + 1), page, off)]
    let turned (u : State) (page off : Nat) : Prop := u.bit .fbr FBR.SETTING_STATUS.REJECT = true ∧ u.rd .fbr FBR.SETTING_STATUS.PAGE = page
      ∧ u.rd .fbr FBR.SETTING_STATUS.OFFSET = off ∧ u.rd .fbr FBR.SETTING_STATUS.REASON = 3 ∧ (u.word .fbr 0x00C).getLsbD 3 = true
    let counted (u : State) : Prop := u.mirror = { m with refused := m.refused + 1 }
    let setting : List (Page × Nat) := [(.fbr, 0x034), (.fbr, 0x00C)]
    s.field.pub.phases.length = 26 →
    -- a phase is replaced: reasons 1 and 2 only with AUTO_SPARE, and only by a spare
    (∀ c r, (c, r) ∈ [(Instr.phaseShareFault i, 1), (.phaseOvertemp i, 2), (.phaseFailed i, 3)] →
      -- a working phase with no replacement under way; a spare that fails as it ramps in
      let goes : Prop := x.st = .working ∧ s.beingReplaced i.val = false ∨ r = 3 ∧ x.st = .rampIn
      -- only out: a phase that fails as it ramps out, or while its spare ramps in
      let quits : Prop := r = 3 ∧ (x.st = .rampOut ∨ x.st = .working ∧ s.beingReplaced i.val = true)
      let swaps := s.field.swaps.filter fun y => y.2.1 != some i.val
      (¬on ∨ ¬(goes ∨ quits) ∨ (r ≠ 3 ∧ ¬auto) → nothing c)
      ∧ (on → r ≠ 3 → auto → goes → none' → Answers c s fun u => u.field = { s.field with swaps := swaps } ∧ only u [.field])
      ∧ (on → quits → Answers c s fun u =>
        (u.phase i.val).st = .retired ∧ (∀ k, k ≠ i.val → u.phase k = s.phase k) ∧ short u ∧ u.field.swaps = s.field.swaps
        ∧ u.fieldEnd = (s.toHub (.phaseSpare i.val 0xFF 3 (State.sparesLeft u.field.pub.phases))).fieldEnd ∧ only u [.field, .fieldEnd])
      ∧ (∀ j, on → goes → (r = 3 ∨ auto) → spare j → Answers c s fun u =>
        (u.phase j).st = .rampIn ∧ (u.phase i.val).st = (if r = 3 then .retired else .working)
        ∧ (∀ k, k ≠ j → k ≠ i.val → u.phase k = s.phase k) ∧ u.field.swaps = swaps ++ [(i.val, some j, r)]
        ∧ u.field.pub.phaseSwaps = min (p.phaseSwaps + 1) 255 ∧ short u
        ∧ u.fieldEnd = (s.toHub (.phaseSpare i.val j r (State.sparesLeft u.field.pub.phases))).fieldEnd ∧ only u [.field, .fieldEnd])
      ∧ (on → goes → r = 3 → none' → Answers c s fun u =>
        (u.phase i.val).st = .retired ∧ (∀ k, k ≠ i.val → u.phase k = s.phase k) ∧ short u ∧ u.field.swaps = swaps
        ∧ u.fieldEnd = (s.toHub (.phaseSpare i.val 0xFF 3 0)).fieldEnd ∧ only u [.field, .fieldEnd]))
    -- ramps
    ∧ (¬on ∨ (x.st ≠ .rampIn ∧ x.st ≠ .rampOut) → nothing (.phaseRampDone i))
    ∧ (on → x.st = .rampOut → Answers (.phaseRampDone i) s fun u =>
      (u.phase i.val).st = .retired ∧ (∀ k, k ≠ i.val → u.phase k = s.phase k) ∧ short u ∧ only u [.field])
    ∧ (on → x.st = .rampIn → Answers (.phaseRampDone i) s fun u =>
      ((∀ y, y ∈ s.field.swaps → y.1 ≠ i.val) → (u.phase i.val).st = .working)
      ∧ (∀ y, s.field.swaps.find? (fun (z : Nat × Option Nat × Nat) => z.2.1 == some i.val) = some y → y.1 ≠ i.val → y.1 < 26 →
          (s.phase y.1).st = .working → (u.phase y.1).st = .rampOut ∧ u.field.swaps = s.field.swaps.erase y)
      ∧ only u [.field])
    -- the host's registers: a setting sent on, or turned away while the link is down
    ∧ (s.accepts .fpw 0x044 = true → s.hubEnd.up = false → Answers (.phaseReplace v) s fun u =>
      turned u 0 0x044 ∧ counted u ∧ u.out = [] ∧ s.touch.Frame u ((.dev, 0x054) :: setting) (.mirror :: State.eventParts))
    ∧ (s.accepts .fpw 0x044 = true → s.hubEnd.up = true → Answers (.phaseReplace v) s fun u =>
      let bare : Prop := FPW.PHASE_CTRL.REPLACE.get v = 1 ∧ FPW.PHASE_CTRL.CONFIRM.get v ≠ 0x5053
      (bare → sends u 0 0x044 (v &&& 0xFFFFFFDF) ∧ u.rd .dev DEV.ACCESS_ERR.MALFORMED = min (s.rd .dev DEV.ACCESS_ERR.MALFORMED + 1) 0xFFFF)
      ∧ (¬bare → sends u 0 0x044 v ∧ u.word .dev 0x054 = s.word .dev 0x054)
      ∧ u.out = [] ∧ s.touch.Frame u [(.dev, 0x054), (.fbr, 0x034)] [.hubEnd, .mirror])
    ∧ (∀ c w, (c, w) ∈ [(Instr.imageBegin, (1 : Word)), (.imageActivate, 2), (.imageAbort, 4)] → s.accepts .fbr 0x038 = true →
      (s.hubEnd.up = false → Answers c s fun u =>
        turned u 3 0x038 ∧ counted u ∧ u.out = [] ∧ s.touch.Frame u setting (.mirror :: State.eventParts))
      ∧ (s.hubEnd.up = true → Answers c s fun u =>
        sends u 3 0x038 w
        ∧ u.mirror = (if w = 2 then { m with pending := u.mirror.pending } else
            { m with chunk := [], imgSent := 0, imgLen := 0, imgOpen := decide (w = 1), pending := u.mirror.pending })
        ∧ u.out = [] ∧ s.touch.Frame u setting [.hubEnd, .mirror]))
    -- dwords gathered, 62 to a chunk
    ∧ (s.accepts .fbr 0x03C = true → s.hubEnd.up = false → Answers (.imagePortWrite v) s fun u =>
      turned u 3 0x03C ∧ counted u ∧ u.out = [] ∧ s.touch.Frame u setting (.mirror :: State.eventParts))
    ∧ (s.accepts .fbr 0x03C = true → s.hubEnd.up = true → m.imgOpen = false → Answers (.imagePortWrite v) s fun u =>
      u.out = [] ∧ s.touch.Frame u [] [])
    ∧ (s.accepts .fbr 0x03C = true → s.hubEnd.up = true → m.imgOpen = true → Answers (.imagePortWrite v) s fun u =>
      let len := if m.imgSent = 0 ∧ m.chunk = [] then v.toNat else m.imgLen
      let full : Prop := m.chunk.length + 1 = 62 ∨ (len ≠ 0 ∧ len ≤ m.imgSent + 4 * (m.chunk.length + 1))
      (¬full → u.mirror = { m with chunk := m.chunk ++ [v], imgLen := len } ∧ u.hubEnd = s.hubEnd)
      ∧ (full → u.mirror = { m with chunk := [], imgLen := len, imgSent := m.imgSent + 4 * (m.chunk.length + 1) }
        ∧ (len = 0 ∨ m.imgSent + 4 * (m.chunk.length + 1) ≤ len →
            u.hubEnd = State.sendFrom s.hubEnd (.imageChunk m.imgSent ((m.chunk ++ [v]).flatMap fun w => bytesBE 4 w.toNat))))
      ∧ u.out = [] ∧ s.touch.Frame u [] [.mirror, .hubEnd])
    ∧ (s.hubEnd.up = false ∨ m.chunk = [] → nothing .imageChunkIdle)
    ∧ (s.hubEnd.up = true → m.chunk ≠ [] → Answers .imageChunkIdle s fun u =>
      u.mirror = { m with chunk := [], imgSent := m.imgSent + 4 * m.chunk.length }
      ∧ (m.imgLen = 0 ∨ m.imgSent + 4 * m.chunk.length ≤ m.imgLen →
          u.hubEnd = State.sendFrom s.hubEnd (.imageChunk m.imgSent (m.chunk.flatMap fun w => bytesBE 4 w.toNat)))
      ∧ u.out = [] ∧ s.Frame u [] [.mirror, .hubEnd])
    -- verification and restart
    ∧ (p.imgState ≠ 2 → nothing (.imageVerifyDone ok))
    ∧ (p.imgState = 2 → Answers (.imageVerifyDone ok) s fun u =>
      -- ready where the flash reads back what was received and the signature over the stated length verifies
      let good := ok && Crypto.signed (s.field.img.take (natBE (s.field.img.take 4)))
      u.field = { s.field with pub := { p with
        imgState := if good then 3 else 5, imgSpare := good, imgFails := p.imgFails + (if good then 0 else 1) } } ∧ only u [.field])
    ∧ (s.field.imgRestart = false → nothing (.fieldImageRestartDone ok))
    ∧ (s.field.imgRestart = true → Answers (.fieldImageRestartDone ok) s fun u =>
      u.field.pub.imgState = (if ok then 0 else 5) ∧ u.field.pub.imgSlot = (if ok then 1 - p.imgSlot else p.imgSlot)
      ∧ u.field.pub.imgVersion = (if ok then natBE ((s.field.img.drop 4).take 2) else p.imgVersion) ∧ u.field.imgRestart = false
      ∧ u.field.pub.imgSpare = ok ∧ u.field.pub.imgFails = p.imgFails + (if ok then 0 else 1)
      -- its end of the link starts anew, with what its hardware had to say
      ∧ u.fieldEnd = { BEnd.reset with
          downs := s.fieldEnd.downs
          waiting := s.fieldEnd.waiting.filter fun m => match m with | .phaseSpare .. | .feedLimits .. => true | _ => false }
      ∧ u.field.keys = s.field.keys ∧ u.field.lock = s.field.lock
      ∧ u.field.attempts = s.field.attempts ∧ u.field.cause = s.field.cause ∧ u.field.pub.conv = p.conv ∧ u.field.pub.phases = p.phases
      ∧ u.start = s.start ∧ u.rail.session = none ∧ u.out = [] ∧ s.Frame u [] [.field, .fieldEnd, .tele, .rail])

/-- R347, R368-R379, R386, R494: a telemetry channel's conversion through its stages, the open-wire test, the window and its record,
the settings of a channel; the ripple; the coefficients and the captured record on the hub's side. -/
def Obligations.telemetryChain : Prop :=
  ∀ (s : State) (ch : Fin 32) (code up down : BitVec 12) (v : Word) (f : Feed) (back : Nat),
    let c := s.tchan ch.val
    let w := s.fieldWord .ftl (State.chOff ch.val)
    let on : Prop := s.fieldAwake = true
    let only (u : State) (parts : List StatePart) : Prop := u.out = [] ∧ s.Frame u [] parts
    let nothing (c : Instr) : Prop := Answers c s fun u => only u []
    let others (u : State) : Prop := ∀ j, j ≠ ch.val → u.tchan j = s.tchan j
    let x : Int := 8 * code.toNat
    let stepTh := s.fset .ftl FTL.FTL_CTRL.STEP_TH
    let adapts : Prop := FTL.CHn.DCB_EN.get w = 1 ∧ FTL.CHn.DCB_FREEZE.get w = 0
    let jump : Prop := adapts ∧ ∃ p, c.last = some p ∧ stepTh < max p code.toNat - min p code.toNat
    let hist := (x :: c.hist).take 256
    -- the output of the filter stage, with the DC block off
    let z : Int := match FTL.CHn.FILT.get w with
      | 1 => (match s.tele.slots.get (fun _ => none) (FTL.CHn.SLOT.get w) with | some d => (State.firOut s.tele.coefs d hist).1 | none => x)
      | 2 => State.rankOut (2 * FTL.CHn.RANK_WIN.get w + 3) (FTL.CHn.RANK.get w) hist
      | _ => x
    let keep : Prop := FTL.CHn.DECIM.get w ≤ c.phase
    let en : Prop := FTL.CHn.EN.get w = 1
    let heldBack : Prop := ∃ n, c.settle = some (n + 1)
    -- the window in progress has had its 2^WIN output periods: the next output begins a new one
    let full : Prop := 2 ^ FTL.CHn.WIN.get w ≤ c.periods
    let b := if keep ∧ full then { c with sum := 0, count := 0, sat := false, periods := 0 } else c
    let slot := s.tele.slot
    let turn : Prop := s.nextChannel = ch.val
    let plain : Prop := FTL.CHn.DCB_EN.get w = 0
    (¬on → nothing (.telemetryConversion ch code) ∧ nothing (.openWireTest ch up down) ∧ nothing (.settleEnd ch)
      ∧ nothing (.accumWindowClose ch) ∧ nothing (.rippleCrossing f back))
    -- a conversion: the channel of the slot, in the order of the 40 slots
    ∧ (s.tele.testing = [] → s.nextChannel = if slot < 13 then slot else if slot < 17 then slot - 13 else if slot < 26 then slot - 4
        else if slot < 30 then slot - 26 else if slot < 40 then slot - 8 else 0)
    ∧ (¬turn → nothing (.telemetryConversion ch code))
    ∧ (on → turn → Answers (.telemetryConversion ch code) s fun u =>
      let t := u.tchan ch.val
      t.last = some code.toNat ∧ t.shortDue = false ∧ t.opn = c.opn ∧ others u ∧ (s.tele.testing = [] → u.tele.slot = (slot + 1) % 40)
      ∧ t.shrt = (if c.shortDue = true ∧ 6 ≤ ch.val ∧ ch.val ≤ 11 then decide (code.toNat < 4) else c.shrt)
      ∧ (plain → t.hist = hist ∧ t.phase = (if keep then 0 else c.phase + 1) ∧ t.periods = b.periods + (if keep then 1 else 0))
      ∧ (keep → full → t.recNew = true ∧ t.recSum = c.sum ∧ t.recCount = c.count)
      ∧ (plain → keep → ¬heldBack → t.value = some z ∧ t.settle = none)
      ∧ (plain → keep → ¬heldBack → en → t.sum = b.sum + z ∧ t.count = b.count + 1
          ∧ t.min = some (min (c.min.getD z) z) ∧ t.max = some (max (c.max.getD z) z))
      ∧ (plain → ¬keep ∨ heldBack ∨ ¬en → t.sum = b.sum ∧ t.count = b.count ∧ t.min = c.min ∧ t.max = c.max)
      ∧ (plain → keep → ¬heldBack → ch.val = 0 → u.field.pub.feedA.volt = (roundHalfEven (z * 10000) 32760).toNat)
      -- the DC block's estimate moves by 1/1024 of the difference, and stays while frozen; a detected step starts suppression
      ∧ (adapts → t.dcExp = c.dcExp + 10 ∧ t.dcNum = 1023 * c.dcNum + x * (2 ^ c.dcExp : Nat))
      ∧ (FTL.CHn.DCB_EN.get w = 1 → ¬adapts → t.dcExp = c.dcExp ∧ t.dcNum = c.dcNum)
      ∧ (jump → t.settle = some (s.settleLen ch.val - 1) ∧ t.sum = b.sum ∧ t.count = b.count ∧ t.min = c.min ∧ t.max = c.max ∧ t.value = c.value)
      ∧ (¬jump → ∀ n, c.settle = some (n + 1) → t.settle = some n ∧ t.value = c.value)
      ∧ only u [.tele, .field])
    -- the open-wire test
    ∧ (FTL.CHn.OW_EN.get w = 0 → nothing (.openWireTest ch up down))
    ∧ (on → FTL.CHn.OW_EN.get w = 1 → Answers (.openWireTest ch up down) s fun u =>
      let t := u.tchan ch.val
      t.opn = decide (3072 ≤ up.toNat ∧ down.toNat ≤ 1024) ∧ t.shortDue = true ∧ t.last = c.last ∧ others u
      -- its three samples take the place of as many conversions of the channel
      ∧ u.tele.testing.get (fun _ => 0) ch.val = 3
      ∧ (c.last = none → t = { c with opn := t.opn, shortDue := true }) ∧ only u [.tele, .field])
    -- the settling length is over; the window closes
    ∧ (on → Answers (.settleEnd ch) s fun u => u.tchan ch.val = { c with settle := c.settle.map fun _ => 0 } ∧ others u ∧ only u [.tele])
    ∧ (¬full → nothing (.accumWindowClose ch))
    ∧ (on → full → Answers (.accumWindowClose ch) s fun u =>
      u.tchan ch.val = { c with
        recSum := c.sum, recCount := c.count, recSat := c.sat, recNew := true, sum := 0, count := 0, sat := false, periods := 0 }
      ∧ others u ∧ only u [.tele, .field])
    -- a channel's word: what is refused; the window closes when a bit of its part changes, and suppression starts; CLR_MINMAX
    ∧ (∀ role off, (s.hubEnd.unacked.find? fun x => x.seq == State.seqOn s.fieldEnd.rxSeq 1).map (·.msg)
        = some (.settingWrite 1 role off v) → on → off = State.chOff ch.val →
      let filt := FTL.CHn.FILT.get v
      let slot := FTL.CHn.SLOT.get v
      let ok : Prop := filt ≠ 3 ∧ (filt = 2 → ch.val < 4) ∧ (FTL.CHn.OW_EN.get v = 1 → (6 ≤ ch.val ∧ ch.val ≤ 11) ∨ 28 ≤ ch.val)
        ∧ FTL.CHn.RANK_WIN.get v ≠ 7 ∧ FTL.CHn.RANK.get v < 2 * FTL.CHn.RANK_WIN.get v + 3 ∧ FTL.CHn.WIN.get v ≤ 20
        ∧ (filt = 1 → (∃ d, s.tele.slots.get (fun _ => none) slot = some d)
            ∧ ∀ j, j < 32 → j ≠ ch.val → ¬(s.chF j FTL.CHn.FILT = 1 ∧ s.chF j FTL.CHn.SLOT = slot))
      let new := v &&& 0x0FFFFFFF
      (¬ok → Answers .settingWrite s fun u => u.field.pub.lastSet.2.1 = 2 ∧ u.tele = { s.tele with permit := u.tele.permit }
        ∧ u.field.pub.settings = s.field.pub.settings ∧ u.out = [] ∧ s.Frame u [] [.fieldEnd, .field, .tele, .fresh])
      ∧ (ok → Answers .settingWrite s fun u =>
        let t := u.tchan ch.val
        u.fieldWord .ftl off = new ∧ u.field.pub.lastSet.2.1 = 0 ∧ others u
        ∧ ((w ^^^ new) &&& 0x0FFFFFCF = 0 → t.sum = c.sum ∧ t.count = c.count ∧ t.recNew = c.recNew)
        ∧ ((w ^^^ new) &&& 0x0FFFFFCF ≠ 0 → t.sum = 0 ∧ t.count = 0 ∧ t.recNew = true ∧ t.recSum = c.sum)
        ∧ ((w ^^^ new) &&& 0x007FFFCF = 0 → t.settle = c.settle)
        ∧ ((w ^^^ new) &&& 0x007FFFCF ≠ 0 → t.settle = some (u.settleLen ch.val))
        ∧ (t.min = if FTL.CHn.CLR_MINMAX.get v = 1 ∧ c.settle = none then none else c.min)
        ∧ u.out = [] ∧ s.Frame u [] [.fieldEnd, .field, .tele]))
    -- the ripple of the feed to which the modem is coupled: a rising zero crossing between two outputs, interpolated; ten steady periods
    -- that divide 50 ms, and enough amplitude (log 123: the hysteresis)
    ∧ (let r (s : State) : Ripple := match f with | .a => s.tele.rippleA | .b => s.tele.rippleB
      let n := s.tchan (match f with | .a => 26 | .b => 27)
      (∀ z y, n.recent[back]? = some z → n.recent[back + 1]? = some y → 0 ≤ y ∨ z < 0 → nothing (.rippleCrossing f back))
      ∧ (s.rail.feed ≠ f ∨ n.recent.length ≤ back + 1 → nothing (.rippleCrossing f back))
      ∧ (∀ z y, on → s.rail.feed = f → n.recent[back]? = some z → n.recent[back + 1]? = some y → y < 0 → 0 ≤ z →
        let t : ℚ := (n.outs : ℚ) - back - 1 + (-y : ℚ) / (z - y : ℚ)
        let since := match (r s).last with
          | some l => (t - l).ceil.toNat
          | none => n.recent.length
        (∃ x ∈ (n.recent.drop (back + 1)).take since, x ≤ -(2 * (s.fset .ftl FTL.FTL_CTRL.RIPPLE_MIN : Int))) →
        (∀ l, (r s).last = some l → l < t) → Answers (.rippleCrossing f back) s fun u =>
        let ps := match (r s).last with
          | some l => ((t - l) :: (r s).periods).take 10
          | none => (r s).periods
        let sum := ps.foldl (· + ·) 0
        let steady : Prop := ps.length = 10 ∧ ∀ p ∈ ps, 100 * |10 * p - sum| ≤ 2 * sum
        let big : Prop := ((8 * s.fset .ftl FTL.FTL_CTRL.RIPPLE_MIN : Nat) : Int) ≤ n.recent.foldl max (-32768) - n.recent.foldl min 32767
        let fits (k : Nat) : Prop := 100 * |12500 - (k : ℚ) * sum| ≤ 2 * ((k : ℚ) * sum)
        (r u).last = some t ∧ (r u).periods = ps ∧ (¬(steady ∧ big) → (r u).n = 0)
        ∧ (∀ k, k ∈ [5, 6, 15, 18] → steady → big → fits k → (∀ m, m ∈ [5, 6, 15, 18] → m < k → ¬fits m) → (r u).n = k)
        ∧ ((∀ k, k ∈ [5, 6, 15, 18] → ¬fits k) → (r u).n = 0) ∧ only u [.tele]))
    -- the host's side
    ∧ (let turned (u : State) (off : Nat) : Prop := u.bit .fbr FBR.SETTING_STATUS.REJECT = true ∧ u.rd .fbr FBR.SETTING_STATUS.PAGE = 1
        ∧ u.rd .fbr FBR.SETTING_STATUS.OFFSET = off ∧ u.rd .fbr FBR.SETTING_STATUS.REASON = 3 ∧ u.out = []
        ∧ u.mirror = { s.mirror with refused := s.mirror.refused + 1 }
        ∧ s.touch.Frame u [(.fbr, 0x034), (.fbr, 0x00C)] (.mirror :: State.eventParts)
      let off := State.chOff ch.val
      let cleared := (s.word .ftl off &&& 0x0FFFFFFF) ||| 0x40000000
      (s.accepts .ftl off = true → s.hubEnd.up = false → Answers (.clrMinmax ch) s fun u => turned u off)
      ∧ (s.accepts .ftl off = true → s.hubEnd.up = true → Answers (.clrMinmax ch) s fun u =>
        u.hubEnd = State.sendFrom s.hubEnd (.settingWrite 1 s.role off cleared) ∧ u.out = []
        ∧ s.touch.Frame u [(.fbr, 0x034), (.fbr, 0x00C)] [.hubEnd, .mirror])
      ∧ (s.accepts .ftl 0x0A4 = true → s.hubEnd.up = false → Answers (.coefPortWrite v) s fun u => turned u 0x0A4)
      ∧ (s.accepts .ftl 0x0A4 = true → s.hubEnd.up = true → Answers (.coefPortWrite v) s fun u =>
        u.hubEnd = State.sendFrom s.hubEnd (.settingWrite 1 s.role 0x0A4 v)
        ∧ (FTL.COEF_PORT.KIND.get v = 0 → ∀ a, u.sense.coefs.get (fun _ => 0) a
            = if a = FTL.COEF_PORT.ADDR.get v then v &&& 0xFFFF else s.sense.coefs.get (fun _ => 0) a)
        ∧ (FTL.COEF_PORT.KIND.get v = 1 → FTL.COEF_PORT.BASE.get v + FTL.COEF_PORT.TAPS.get v + 1 ≤ 4096 →
            u.sense.slots.get (fun _ => none) (FTL.COEF_PORT.SLOT.get v) = some {
              base := FTL.COEF_PORT.BASE.get v, taps := FTL.COEF_PORT.TAPS.get v + 1, minphase := decide (FTL.COEF_PORT.MINPHASE.get v = 1) })
        ∧ u.out = [] ∧ s.touch.Frame u [(.fbr, 0x034), (.fbr, 0x00C)] [.hubEnd, .mirror, .sense])
      ∧ (s.accepts .ftl 0x0A8 = true → Answers (.telemViewCapture v) s fun u =>
        let n := FTL.VIEW_CTRL.WORD.get v
        let r := s.mirrored (FTL.VIEW_CTRL.CH.get v)
        let q := if FTL.VIEW_CTRL.CAPTURE.get v = 1 then r else s.sense.view
        u.rd .ftl FTL.VIEW_CTRL.CH = FTL.VIEW_CTRL.CH.get v ∧ u.rd .ftl FTL.VIEW_CTRL.WORD = n ∧ u.sense.view = q
        ∧ (FTL.VIEW_CTRL.CAPTURE.get v = 1 → u.bit .ftl FTL.VIEW_CTRL.CAPTURED = true
            ∧ u.sense.viewWin = FTL.CHn.WIN.get (s.word .ftl (State.chOff (FTL.VIEW_CTRL.CH.get v))))
        ∧ (n = 0 → (u.word .ftl 0x0AC).toNat = (q.sum % 2 ^ 32).toNat)
        ∧ (n = 2 → (u.word .ftl 0x0AC).toNat = (q.min % 65536).toNat + (q.max % 65536).toNat * 65536)
        ∧ (n = 3 → (u.word .ftl 0x0AC).toNat = q.count % 2 ^ 32) ∧ (n = 4 → (u.word .ftl 0x0AC).toNat = q.flags % 2 ^ 32)
        ∧ u.out = [] ∧ s.touch.Frame u [(.ftl, 0x0A8), (.ftl, 0x0AC)] [.sense, .fresh]))

/-- R324, R380-R385, R389, R446, R450: ring-oscillator sensors and their zones, thermal bands, trips and restarts. -/
def Obligations.thermalProtection : Prop :=
  ∀ (s : State) (z : Fin 32) (j : Fin 3) (die : Fin 7) (counts : List Nat),
    let d := zoneDie z.val
    let alive : Prop := s.hubAlive = true
    let ev (u : State) (p : Page) (b : Nat) : Prop := (u.word p 0x00C).getLsbD b = true
    let only (u : State) (parts : List StatePart) : Prop := u.out = [] ∧ s.Frame u [] parts
    let nothing (c : Instr) : Prop := Answers c s fun u => only u []
    let maps : List (Page × Nat) := [(.tsn, 0x030), (.tsn, 0x034), (.tsn, 0x03C), (.tsn, 0x040)]
    let off := s.rd .tsn TSN.SHUTDOWN.OFF
    let had := s.start.attempt
    -- a window: here with sound trim words
    (¬alive → nothing (.sensorWindow counts) ∧ nothing (.disagreeFlag z j) ∧ nothing (.bandRise die) ∧ nothing (.bandFall die) ∧ nothing (.thermalTrip z))
    ∧ (alive → Answers (.sensorWindow counts) s fun u =>
      let old := s.zone z.val
      let n (k : Nat) : Nat := counts.getD (3 * z.val + k) 0
      let bad (k : Nat) : Bool := sensorBroken (3 * z.val + k) (n k)
      let t (k : Nat) : Int := if bad k then 300 else sensorTemp (3 * z.val + k) (n k)
      let b := (bad 0).toNat + 2 * (bad 1).toNat + 4 * (bad 2).toNat
      let m := zoneMedian [t 0, t 1, t 2] (b ||| old.disagree)
      let warn : Int := 2 * s.rd .tsn TSN.TSN_CTRL.WARN_TEMP
      (s.railsOn d = false → u.zone z.val = old)
      ∧ (s.railsOn d = true → (∀ k, k < 3 → s.damage.get (fun _ => 0) (State.damageKey .tsn 0 (3 * z.val + k)) = 0) →
        u.zone z.val = { sensors := [t 0, t 1, t 2], median := m, broken := b, disagree := old.disagree }
        ∧ (b &&& (7 ^^^ old.broken) ≠ 0 → ev u .tsn 0) ∧ (warn ≤ m → old.median < warn → ev u .tsn 2)
        ∧ (u.rd .tsn TSN.HOT_MAP.word).testBit z.val = decide (250 ≤ m))
      ∧ (s.railsOn d = false → (u.rd .tsn TSN.HOT_MAP.word).testBit z.val = false) ∧ u.out = []
      ∧ s.Frame u ([(.tsn, 0x00C), (.tsn, 0x018), (.tsn, 0x01C)] ++ maps) (.sense :: .cad :: State.eventParts))
    -- a sensor that disagrees with two that agree
    ∧ (let x := s.zone z.val
      let near (k : Nat) : Prop := (x.sensors.getD j.val 0 - x.sensors.getD ((j.val + k) % 3) 0).natAbs ≤ 30
      let pair : Prop := (x.sensors.getD ((j.val + 1) % 3) 0 - x.sensors.getD ((j.val + 2) % 3) 0).natAbs ≤ 30
      let flagged : Prop := x.disagree.testBit j.val = true
      let begins : Prop := ¬flagged ∧ s.bit .tsn TSN.TSN_CTRL.XCHECK_EN = true ∧ ¬near 1 ∧ ¬near 2 ∧ pair
      let ends : Prop := flagged ∧ (near 1 ∨ near 2)
      (s.railsOn d = false ∨ (¬begins ∧ ¬ends) → nothing (.disagreeFlag z j))
      ∧ (alive → s.railsOn d = true → begins ∨ ends → Answers (.disagreeFlag z j) s fun u =>
        let dg := putBit x.disagree j.val (decide (¬flagged))
        u.zone z.val = { x with disagree := dg, median := zoneMedian x.sensors (x.broken ||| dg) }
        ∧ (∀ k, k ≠ z.val → u.zone k = s.zone k) ∧ (begins → ev u .tsn 1) ∧ u.out = []
        ∧ s.Frame u ((.tsn, 0x00C) :: maps) (.sense :: State.eventParts)))
    -- bands
    ∧ (let b := s.band die.val
      let t := (s.dieHot die.val).2
      let gone : Prop := s.railsOn die.val = false
      let up : Prop := b < 3 ∧ 2 * bandBound (b + 1) ≤ t
      let down : Prop := 0 < b ∧ t < 2 * (bandBound b - 3)
      let turns (u : State) (b' : Nat) : Prop :=
        u.band die.val = b' ∧ (∀ k, k < 7 → k ≠ die.val → u.band k = s.band k) ∧ ev u .tsn 5
        ∧ u.hubEnd = State.sendFrom s.hubEnd (.thermalNotice die.val (s.dieHot die.val).1 2 b' (5 * t))
        ∧ (die.val ≤ 4 → u.gov die.val VSQ.GOV_LD0.BAND = b')
        ∧ (die.val ≤ 4 → s.gov die.val VSQ.GOV_LD0.LIMIT ≠ 0 → u.gov die.val VSQ.GOV_LD0.VCORE ≤ (if b' < 2 then 172 else if b' = 2 then 168 else 164))
        ∧ (die.val ≤ 4 → State.bandCap b' < State.bandCap b → ev u .vsq 4)
        ∧ (die.val = 4 → u.rd .vsq VSQ.GOV_STATUS.HB_BAND = b' ∧ u.rd .vsq VSQ.MGMT_OP.CEILING = (if b' = 3 then 1 else 0))
        ∧ u.out = []
        ∧ s.Frame u [(.tsn, 0x00C), (.tsn, 0x038), (.vsq, 0x00C), (.vsq, 0x024), (.vsq, 0x028 + 4 * die.val), (.vsq, 0x040)] (.clock :: .hubEnd :: State.eventParts)
      (gone ∨ ¬up → nothing (.bandRise die)) ∧ (gone ∨ ¬down → nothing (.bandFall die))
      ∧ (alive → ¬gone → up → Answers (.bandRise die) s fun u => turns u (b + 1))
      ∧ (alive → ¬gone → down → Answers (.bandFall die) s fun u => turns u (b - 1)))
    -- a trip at 125 degrees
    ∧ (s.railsOn d = false ∨ (s.zone z.val).median < 250 → nothing (.thermalTrip z))
    ∧ (let m := (s.zone z.val).median
      let tripped (u : State) : Prop := u.rd .tsn TSN.TRIP_LAST.ZONE = z.val ∧ u.word .tsn 0x04C = BitVec.ofNat 32 (s.time.toNat / 1000000000)
        ∧ u.rd .tsn TSN.SHUTDOWN.TRIPS = min (s.rd .tsn TSN.SHUTDOWN.TRIPS + 1) 65535 ∧ u.rd .tsn TSN.SHUTDOWN.OFF = putBit off d true
        ∧ ev u .tsn 3 ∧ ev u .dev 4
      let regs : List (Page × Nat) := [(.tsn, 0x00C), (.tsn, 0x044), (.tsn, 0x048), (.tsn, 0x04C), (.dev, 0x00C)]
      (alive → s.railsOn d = true → 250 ≤ m → d ≠ 4 → had = none → Answers (.thermalTrip z) s fun u =>
        tripped u ∧ u.hubEnd = State.sendFrom s.hubEnd (.thermalNotice d z.val 1 (s.band d) (5 * m)) ∧ u.start.diesUp.testBit d = false
        ∧ (∀ p ∈ State.diePages d, p ≠ .msc → u.pst p = 0)
        ∧ (∀ k : Fin 16, k.val / 4 = d → ∀ i, i < 4 → u.slot k i = { KeySlot.empty with lastOk := (s.slot k i).lastOk }) ∧ u.out = []
        -- its domains are off, and its governor no longer runs
        ∧ (∀ n, n < 37 → State.domDie n = d → u.dom n TIM.DOMn.STATE = 0) ∧ u.gov d VSQ.GOV_LD0.LIMIT = 0
        ∧ s.Frame u (regs ++ maps ++ [(.vsq, 0x024), (.vsq, 0x028 + 4 * d)] ++ ((List.range 37).map fun n => (.tim, 0x030 + 4 * n))
              ++ ((State.diePages d).flatMap fun p => State.engineRegs p)
              ++ (List.finRange 16).flatMap fun k => [(.csc k, 0x028), (.fcr k, 0x044)])
            (.hubEnd :: .start :: .cars :: .lanes :: .cad :: State.eventParts))
      ∧ (alive → s.railsOn d = true → 250 ≤ m → d = 4 → had = none → Answers (.thermalTrip z) s fun u =>
        tripped u ∧ u.start.power = .off ∧ u.start.kettle = false ∧ u.host.mgmt = .off ∧ u.hubEnd.up = false ∧ u.fieldEnd.up = false
        ∧ u.tele = { s.tele with trips := putBit s.tele.trips 4 true }
        -- the notice leaves before the rails fall
        ∧ (s.hubEnd.up = false → s.hubEnd.unacked = [] → u.out = [])
        ∧ (s.hubEnd.up = true → s.hubEnd.unacked.length < 64 → s.hubEnd.waiting = [] →
            ∃ code, u.out = [.barrier .hub 13 (State.sendFrom s.hubEnd (.thermalNotice d z.val 1 (s.band d) (5 * m))).txSeq code])
        ∧ s.Frame u regs (.hubEnd :: .fieldEnd :: .host :: .start :: .tele :: State.eventParts)))
    -- restarts, once at least four valid thermistors are at 60 degrees or below
    ∧ (let sound := ((List.range 6).map (· + 6)).filter fun ch => !(s.tchan ch).opn && !(s.tchan ch).shrt
      let cool : Prop := 4 ≤ sound.length ∧ ∀ ch ∈ sound, ∃ c, (s.tchan ch).last = some c ∧ 489 ≤ c
      let able : Prop := s.fieldAwake = true ∧ had = none ∧ cool
      let waits := s.start.thermalWait
      let recent := (s.tele.restarts.filter fun t => decide (s.tele.now < t + 86400000000000)) ++ [s.tele.now]
      let counted (u : State) : Prop := u.tele.restarts = recent ∧ u.field.pub.thermRestarts = min 3 recent.length
        ∧ u.field.pub.thermLocked = decide (3 ≤ recent.length)
      let begins (u : State) : Prop := u.start.attempt = some {
          step := 6, fromKettle := false, fromReset := false, counterBefore := s.attemptsWord, causeBefore := s.causeWord, held := false
          watchdog := true, reported := false }
        ∧ u.attemptsWord = min (s.attemptsWord + 1) 255 ∧ u.start.thermalWait = false ∧ u.tele.trips = 0
      let clear : Prop := s.noMajority = 0 ∧ s.causeWord.deep = false ∧ s.attemptsWord < 3
      (¬able ∨ (waits = false ∧ (s.tele.trips = 0 ∨ s.field.pub.thermLocked = true)) → nothing .thermalRestart)
      ∧ (able → waits = true → s.start.offWait = true → Answers .thermalRestart s fun u =>
        u.start = { s.start with thermalWait := false } ∧ only u [.start])
      ∧ (able → waits = true → s.start.offWait = false → clear → Answers .thermalRestart s fun u =>
        begins u ∧ u.tele.restarts = s.tele.restarts ∧ only u [.start, .field, .tele])
      ∧ (able → waits = false → s.tele.trips ≠ 0 → s.field.pub.thermLocked = false → s.tele.trips.testBit 4 = true → clear →
        Answers .thermalRestart s fun u => begins u ∧ counted u ∧ only u [.start, .field, .tele])
      ∧ (able → waits = false → s.tele.trips ≠ 0 → s.field.pub.thermLocked = false → s.tele.trips.testBit 4 = false →
        Answers .thermalRestart s fun u =>
          counted u ∧ u.tele.permit = s.tele.permit ||| s.tele.trips ∧ u.tele.trips = 0 ∧ u.start = s.start ∧ only u [.field, .tele])
      -- a die that the next report permits comes back, its counters and ECC_LOG cleared
      ∧ (∀ r, s.start.power ≠ .off → (s.fieldEnd.unacked.find? fun x => x.seq == State.seqOn s.hubEnd.rxSeq 1).map (·.msg)
          = some (.statusReport r) → r.permit.testBit die.val = true → off.testBit die.val = true → die.val ≠ 4 →
        Answers .statusReport s fun u =>
          (u.rd .tsn TSN.SHUTDOWN.OFF).testBit die.val = false ∧ ev u .tsn 4 ∧ u.start.diesUp.testBit die.val = true
          ∧ (∀ p ∈ State.diePages die.val, u.word p 0x01C = 0) ∧ u.out = []))

/-- R393, R395, R398-R416: the rail modem's frames and cycles. A frame that fails its checks is ignored and counted; a numbered
frame passes the sequence window; then each type does its part. With the preamble that the samples hold, the timers of the cycle,
contention, acknowledgement and tone maps. (What waits for the medium while a reception lasts, and what a poll then asks, is the model's
reading of R405: log 110.) -/
def Obligations.railFrames : Prop :=
  ∀ (s : State) (y : RailSoft) (slot : Fin 32) (flag : Bool),
    let x := s.rail
    -- the reception as this node reads it
    let r := s.demod y
    let fc := r.fc
    let src := fcSrc fc
    let tune := x.tune
    let only (u : State) (parts : List StatePart) : Prop := u.out = [] ∧ s.Frame u [] parts
    let quiet (u : State) : Prop := only u [.rail]
    let nothing (c : Instr) : Prop := Answers c s fun u => only u []
    let shown (u : State) (b : Nat) : Prop := u.rail.evts.testBit b = true
    let runs : Prop := s.start.fieldUp = true ∧ x.up = true
    let master : Prop := x.acting ≠ 0
    -- nothing waits for the reception to end
    let calm : Prop := ∀ d, x.deferred = some d → d.energy = true
    let here : Prop := runs ∧ y.feed = x.feed
    let taken (t : Nat) : Prop := fcType fc = t ∧ s.railCheck y.feed r = 0 ∧ calm
    let known (i : Nat) (n : Nbr) : Prop := i < 32 ∧ s.nbrOf src = some i ∧ s.nbr i = some n
    let d (n : Nbr) : Nat := (fcSeq fc + 256 - n.rxSeq) % 256
    let fresh (n : Nbr) : Prop := 1 ≤ d n ∧ d n ≤ 32 ∧ fcAckReq fc = false
    -- a map of the neighbour is held, or it has been asked for a SOUND since one was
    let sure (n : Nbr) : Prop := n.rxMap.isSome = true ∨ n.asked = true
    let sent (u : State) (t dst : Nat) (pay : List Byte) : Prop := ∃ f tag m, u.out = [.rail x.feed f pay tag (railSymbols f pay tag m)]
      ∧ fcType f = t ∧ fcDst f = dst % 4096
      ∧ fcSrc f = s.ownAddr % 4096 ∧ fcNet f = FRL.RL_NET.NET_ID.get x.net
    let all : List (Instr × Nat) := [(.whistle y, 0), (.relayWhistle y, 1), (.poll y, 2), (.data y, 3), (.ack y, 4), (.null y, 5), (.sound y, 6),
      (.toneMap y, 7), (.lqr y, 8), (.contend y, 9), (.route y, 10)]
    let numbered : List Nat := [2, 3, 6, 7, 8, 9, 10]
    -- the checks, in their order
    (∀ c t, (c, t) ∈ all →
      (fcType fc ≠ t → nothing c)
      ∧ (fcType fc = t → calm → s.railCheck y.feed r = 2 → Answers c s fun u => u.rail.stranger = min (x.stranger + 1) 255 ∧ shown u 6 ∧ quiet u)
      ∧ (fcType fc = t → calm → s.railCheck y.feed r = 3 → Answers c s fun u => u.rail.fcsFail = min (x.fcsFail + 1) 255 ∧ s.Frame u [] [.rail])
      ∧ (fcType fc = t → calm → s.railCheck y.feed r ∉ [0, 2, 3] → Answers c s fun u => u.rail = (s.endRx y).rail ∧ quiet u)
      -- its reception ends, and what waited for that goes out
      ∧ (fcType fc = t → here → Answers c s fun u => u.rail.rx = none ∧ (¬calm → u.rail.deferred = none))
      ∧ (∀ i n, taken t → t ∈ numbered → known i n → 32 < d n → Answers c s fun u => u.rail.replay = min (x.replay + 1) 255 ∧ shown u 7 ∧ quiet u)
      ∧ (∀ i n, taken t → t ∈ numbered → known i n → d n = 0 → Answers c s fun u => u.rail.duplicate = min (x.duplicate + 1) 255
          ∧ (fcAckReq fc = true → sent u 4 src []) ∧ (fcAckReq fc = false → u.out = []) ∧ s.Frame u [] [.rail]))
    ∧ (¬runs → s.railCheck y.feed r = 4)
    ∧ (runs → y.feed = x.feed → (fccs fc).toNat ≠ fcBits fc 0 16 → s.railCheck y.feed r = 1)
    ∧ (runs → y.feed = x.feed → (fccs fc).toNat = fcBits fc 0 16 → fcNet fc ≠ FRL.RL_NET.NET_ID.get x.net ∨ 0xA < fcType fc → s.railCheck y.feed r = 2)
    -- the samples of a reception pass the strainer, and what it blanked and erased is counted
    ∧ (let f := x.strainer.run (FRL.RL_TUNE.STRAIN_K.get tune) y.samples
      let b := f.1.countP (·.2)
      (¬here → s.endRx y = s)
      ∧ (here → (s.endRx y).rail.strainer = f.2 ∧ (s.endRx y).rail.rx = none
          ∧ (b = 0 → (s.endRx y).rail.strained = x.strained)
          ∧ (0 < b → (s.endRx y).rail.strained.getLast? = some (s.tele.now, b, erasedSymbols f.1))
          ∧ (s.endRx y).rail.cnt.get (fun _ => 0) 10 = min (x.cnt.get (fun _ => 0) 10 + b) (2 ^ 40 - 1)
          ∧ (s.endRx y).rail.cnt.get (fun _ => 0) 11 = min (x.cnt.get (fun _ => 0) 11 + erasedSymbols f.1) (2 ^ 40 - 1)))
    -- RAIL_FRAME_DISCARD counts by the same checks
    ∧ (calm → s.railCheck y.feed r = 2 → Answers (.railFrameDiscard y) s fun u => u.rail.stranger = min (x.stranger + 1) 255 ∧ shown u 6 ∧ quiet u)
    ∧ (calm → s.railCheck y.feed r = 3 → Answers (.railFrameDiscard y) s fun u => u.rail.fcsFail = min (x.fcsFail + 1) 255 ∧ s.Frame u [] [.rail])
    ∧ (∀ i n, calm → s.railCheck y.feed r = 0 → known i n → State.windowed (fcType fc) = true → 32 < d n → Answers (.railFrameDiscard y) s fun u =>
      u.rail.replay = min (x.replay + 1) 255 ∧ quiet u)
    ∧ (calm → s.railCheck y.feed r ∉ [0, 2, 3] → Answers (.railFrameDiscard y) s fun u => u.rail = (s.endRx y).rail ∧ quiet u)
    -- preambles: found where the strained samples match it best, its power that of its ten symbols, its time that of its start mark; the
    -- watch is blind for 243.2 us after the start mark of a frame that captured the receiver
    ∧ (¬here → nothing (.preambleDetected y) ∧ nothing (.preambleCapture y))
    ∧ (let l := (x.strainer.run (FRL.RL_TUNE.STRAIN_K.get tune) y.samples).1.map (·.1)
      let o := preambleOffset l
      let power := preamblePower l o
      let mark := s.tele.now - 400 * (l.length - (o + markAt))
      let blind : Prop := ∃ p, x.rx = some p ∧ p.captured = true ∧ p.mark ≤ mark ∧ mark < p.mark + 243200
      let lost (u : State) : Prop := u.rail.preambleLost = min (x.preambleLost + 1) 255 ∧ u.rail.rx = x.rx ∧ u.rail.captured = x.captured
      (here → Answers (.preambleDetected y) s fun u =>
        (blind → lost u)
        ∧ (¬blind → u.rail.rx = some { power := power, mark := mark, captured := false } ∧ u.rail.preambleLost = x.preambleLost)
        ∧ quiet u)
      ∧ (x.rx = none → nothing (.preambleCapture y))
      ∧ (∀ p, here → x.rx = some p →
        let strong : Prop := p.power ^ 10 * 10 ^ FRL.RL_TUNE.CAPTURE_MARGIN.get tune ≤ power ^ 10
        Answers (.preambleCapture y) s fun u =>
          (blind ∨ ¬strong → lost u)
          ∧ (¬blind → strong → u.rail.captured = min (x.captured + 1) 255
              ∧ u.rail.rx = some { power := power, mark := mark, captured := true } ∧ u.rail.preambleLost = x.preambleLost)
          ∧ quiet u))
    -- whistles
    ∧ (∀ c t, (c, t) ∈ [(Instr.whistle y, 0), (.relayWhistle y, 1)] → taken t →
      let b := r.payload
      let flags := (b.getD 3 0).toNat
      let gen := (b.getD 2 0).toNat
      let node := natBE ((b.drop 4).take 2) % 4096
      let late : Prop := x.genAge ≤ 3 ∧ State.genAfter x.genSeen gen = true
      let yields : Prop := flags.testBit 2 = true ∧ (x.acting = 2 ∨ (x.acting = 1 ∧ node < s.nodeId))
      (y.feed ≠ x.feed → Answers c s fun u => u.rail.epoch = x.epoch ∧ u.rail.gen = x.gen ∧ u.rail.acting = x.acting ∧ u.rail.missed = x.missed ∧ quiet u)
      ∧ (y.feed = x.feed → late → Answers c s fun u => u.rail.epoch = x.epoch ∧ u.rail.gen = x.gen ∧ quiet u)
      ∧ (y.feed = x.feed → ¬late → ¬master ∨ yields → 3 < x.genAge ∨ gen = x.genSeen ∨ State.genAfter gen x.genSeen = true → Answers c s fun u =>
        u.rail.epoch = natBE (b.take 2) ∧ u.rail.gen = gen ∧ u.rail.genSeen = gen ∧ u.rail.genAge = 0 ∧ u.rail.found = true
        ∧ u.rail.missed = 0 ∧ u.rail.silent = 0 ∧ u.rail.parentLost = false ∧ u.rail.whistle = b ∧ u.rail.sync = flags.testBit 0
        ∧ u.rail.parent = (if t = 1 ∧ x.parent = 0 then src else x.parent) ∧ u.rail.acting = 0
        ∧ (x.parentLost = true → shown u 1 ∧ u.rail.lossReport = true ∧ u.rail.lossLen = x.missed) ∧ (x.gen ≠ gen → shown u 3) ∧ (s.rail.key = none → x.contend = none → u.rail.contend = some (1, 0))
        ∧ only u [.rail, .field, .fresh])
      ∧ (y.feed = x.feed → master → ¬yields → Answers c s fun u => u.rail.acting = x.acting ∧ u.rail.epoch = x.epoch ∧ u.rail.gen = x.gen ∧ quiet u))
    -- POLL: the frame not acknowledged again, a message that waits, or NULL
    ∧ (∀ i n, taken 2 → known i n → fresh n → sure n → master → Answers (.poll y) s fun u => (∃ n', u.nbr i = some n' ∧ n'.rxSeq = fcSeq fc) ∧ quiet u)
    ∧ (∀ i n, taken 2 → known i n → fresh n → sure n → ¬master → finalOf r.payload = s.nodeId → r.payload.length < 12 →
      Answers (.poll y) s fun u =>
        u.rail.awake = (if fcMore fc = true ∧ fcDst fc = s.nodeId then 2 else max x.awake 1) ∧ u.rail.gotPoll = true
        ∧ (∀ q, n.unacked = some q → sent u q.frame.typ n.node (routeHeader s.ownAddr q.frame.final 0 ++ q.frame.body) ∨ 16 ≤ q.frame.typ)
        ∧ (∀ f q, n.unacked = none → x.lossReport = false → x.lqrAge < 20 → x.out = f :: q → f.typ < 16 → u.rail.out = q
            ∧ sent u f.typ (s.nextHop f.final) (routeHeader s.ownAddr f.final 0 ++ f.body))
        ∧ (n.unacked = none → x.lossReport = false → x.lqrAge < 20 → x.out = [] → s.statusDue = false → sent u 5 src [])
        ∧ s.Frame u [] [.rail])
    -- DATA for another node that this one does not forward; forwarded to a child or the parent as it came
    ∧ (∀ i n, taken 3 → known i n → fresh n → sure n → ¬master → finalOf r.payload ∉ [s.nodeId, 0xFFF] →
      let final := finalOf r.payload
      let down : Prop := src = x.parent ∧ final ∈ x.children
      let up : Prop := src ∈ x.children ∧ (final = 0 ∨ final = x.parent)
      (s.relaying = false ∨ (¬down ∧ ¬up) → Answers (.data y) s fun u => u.rail.out = x.out ∧ quiet u)
      ∧ (s.relaying = true → down → final ∉ x.sleepyKids → (s.nbrOf final).isSome = true → Answers (.data y) s fun u =>
          (∃ f m, u.out = [.rail x.feed f r.payload r.tag (railSymbols f r.payload r.tag m)] ∧ fcType f = 3 ∧ fcDst f = final % 4096
            ∧ fcKid f = fcKid fc) ∧ s.Frame u [] [.rail])
      ∧ (s.relaying = true → down → final ∈ x.sleepyKids → Answers (.data y) s fun u =>
          (x.held.countP (·.1 == final) < 8 → u.rail.held = x.held ++ [(final, fc, r.payload, r.tag, 3 * FRL.RL_CTRL.WAKE_CYCLES.get x.ctrl)])
          ∧ (8 ≤ x.held.countP (·.1 == final) → u.rail.held = x.held ∧ u.rail.dropped = min (x.dropped + 1) 255) ∧ quiet u))
    -- ACK, NULL
    ∧ (∀ i n q, taken 4 → known i n → sure n → n.unacked = some q → Answers (.ack y) s fun u =>
      (q.seq = fcSeq fc → (∃ n', u.nbr i = some n' ∧ n'.unacked = none) ∧ u.rail.awaiting = none ∧ (q.frame.typ = 9 → u.rail.contend = none))
      ∧ (q.seq ≠ fcSeq fc → (∃ n', u.nbr i = some n' ∧ n'.unacked = some q) ∧ u.rail.awaiting = x.awaiting) ∧ quiet u)
    ∧ (∀ i n, taken 5 → known i n → sure n → ¬master → Answers (.null y) s fun u => (∃ n', u.nbr i = some n' ∧ n'.heardAt = s.tele.now ∧ n'.errRun = 0) ∧ quiet u)
    ∧ (∀ i n, taken 5 → known i n → sure n → master → x.polled ≠ some src → Answers (.null y) s fun u =>
      (∀ m ∈ x.members, m.node = src → { m with missed := 0, wait := 0, admitted := m.admitted || decide (fcKid fc ≠ 0) } ∈ u.rail.members) ∧ quiet u)
    -- SOUND and TONE_MAP
    -- (a neighbour of whom no map is valid is asked for a SOUND, once: log 126)
    ∧ (let tell (u : State) (b : List Byte) : Prop := ∃ f tag m rest, u.out = .rail x.feed f b tag (railSymbols f b tag m) :: rest ∧ fcType f = 7
        ∧ fcDst f = src % 4096 ∧ fcSrc f = s.ownAddr % 4096
      let bare (k : Nat) : List Byte := routeHeader s.ownAddr src 0 ++ svcHeader 0 0 0 0 ++ [0, BitVec.ofNat 8 k, 0, 0]
      (∀ c t, (c, t) ∈ [(Instr.ack y, 4), (.null y, 5)] → taken t → here → ¬master →
        s.nbrOf src = none ∨ (∃ i n, known i n ∧ n.node = src ∧ n.rxMap = none ∧ n.asked = false) → Answers c s fun u => tell u (bare 1)
          ∧ ∀ i n', s.nbrOf src = some i → u.nbr i = some n' → n'.asked = true)
      -- the third errored frame in a row makes the map invalid, and the sender is told so
      ∧ (∀ c t i n m, (c, t) ∈ all → fcType fc = t → here → calm → s.railCheck y.feed r = 3 → known i n → n.node = src → n.errRun = 2 →
        n.rxMap = some m → Answers c s fun u => tell u (bare 0) ∧ ∃ n', u.nbr i = some n' ∧ n'.rxPrev = none ∧ n'.rxMap ≠ some m))
    ∧ (∀ i n, taken 6 → known i n → fresh n → Answers (.sound y) s fun u =>
      let tones := if y.snr = [] then n.tones else y.snr
      let n0 := if (n.rxMap.map (·.tmi)) = some (fcTmi fc) then none else n.rxPrev
      let tmi := ((n.rxMap.map (·.tmi)).getD ((n0.map (·.tmi)).getD 0)) % 15 + 1
      (∀ m, deriveMap (FRL.RL_TUNE.TM_MARGIN.get tune) tmi tones = some m →
        (∃ n', u.nbr i = some n' ∧ n'.rxMap = some m ∧ n'.rxPrev = n.rxMap ∧ n'.mapAt = s.tele.now ∧ n'.asked = false)
        ∧ sent u 7 n.node (routeHeader s.ownAddr n.node 0 ++ svcHeader 0 0 0 0 ++ mapBytes m))
      ∧ (deriveMap (FRL.RL_TUNE.TM_MARGIN.get tune) tmi tones = none → (∃ n', u.nbr i = some n' ∧ n'.rxMap = none ∧ n'.asked = true)
          ∧ (n.rxMap = none → u.out = [])
          ∧ (n.rxMap ≠ none → sent u 7 n.node (routeHeader s.ownAddr n.node 0 ++ svcHeader 0 0 0 0 ++ [0, 0, 0, 0]))) ∧ s.Frame u [] [.rail])
    ∧ (∀ i n, taken 7 → known i n → fresh n → Answers (.toneMap y) s fun u =>
      let m := readMap (r.payload.drop 12)
      -- without a map the sender falls back to robust mode, and sends a SOUND where it is asked
      (∃ n', u.nbr i = some n' ∧ n'.txMap = (if m.tmi = 0 then none else if m.nbps = 0 then n.txMap else some m))
      ∧ (m.tmi = 0 → m.rate = true → sent u 6 n.node []) ∧ (m.tmi ≠ 0 ∨ m.rate = false → u.out = []) ∧ s.Frame u [] [.rail])
    -- LQR, CONTEND, ROUTE
    ∧ (∀ i n, taken 8 → known i n → fresh n → sure n → master → x.polled ≠ some src → Answers (.lqr y) s fun u =>
      let data := r.payload.drop 12
      let origin := natBE (r.payload.take 4) / 2 ^ 20 % 4096
      (∀ m ∈ u.rail.members, m.node = origin → m.lqr = State.readLqr data (min 32 (data.length / 6))) ∧ quiet u)
    ∧ (∀ i n, taken 9 → known i n → fresh n → sure n →
      let data := r.payload.drop 12
      let node := natBE (data.take 2) % 4096
      let serial := BitVec.ofNat 64 (natBE ((data.drop 2).take 8))
      let kind := (r.payload.getD 5 0).toNat
      (kind = 1 → ¬master → Answers (.contend y) s fun u => u.rail.members = x.members ∧ quiet u)
      ∧ (kind = 1 → master → (∀ m ∈ x.members, m.node ≠ node) → Answers (.contend y) s fun u =>
        u.rail.members = x.members ++ [{
          node := node, serial := serial, missed := 0, wait := 0, admitted := false, lqr := [], route := [], better := none }] ∧ quiet u)
      ∧ (kind = 1 → master → (∃ m ∈ x.members, m.node = node) → Answers (.contend y) s fun u => u.rail.members = x.members ∧ quiet u)
      ∧ (kind = 2 → src ∉ x.children → Answers (.contend y) s fun u =>
        (master → src ∈ u.rail.woken) ∧ src ∈ u.rail.sleepyKids ∧ quiet u)
      ∧ (kind = 3 → Answers (.contend y) s fun u => (master → src ∈ u.rail.woken) ∧ (¬master → u.rail.woken = x.woken) ∧ quiet u))
    -- a JOIN under the NODE_ID of a member with another serial number is a stranger's
    ∧ (∀ m, here → (fccs fc).toNat = fcBits fc 0 16 → fcNet fc = FRL.RL_NET.NET_ID.get x.net → fcType fc = 9 → fcDst fc = s.ownAddr → r.fcsOk = true →
      fcTmi fc = 0 → master → r.payload.getD 5 0 = 1 → m ∈ x.members → m.node = natBE ((r.payload.drop 12).take 2) % 4096 →
      m.serial ≠ BitVec.ofNat 64 (natBE ((r.payload.drop 14).take 8)) → s.railCheck y.feed r = 2)
    ∧ (∀ i n, taken 10 → known i n → fresh n → sure n → ¬master → finalOf r.payload = s.nodeId → Answers (.route y) s fun u =>
      let a := r.payload.drop 12
      u.rail.parent = natBE (a.take 2) % 4096 ∧ u.rail.hops = (a.getD 2 0).toNat % 4 ∧ u.rail.relaySlot = (a.getD 3 0).toNat
      ∧ u.rail.children.length = (a.length - 4) / 2
      ∧ (u.rail.parent ≠ x.parent ∨ u.rail.children ≠ x.children ∨ u.rail.relaySlot ≠ x.relaySlot → shown u 10) ∧ quiet u)
    ∧ (∀ i n, taken 10 → known i n → fresh n → sure n → master → Answers (.route y) s fun u => u.rail.parent = x.parent ∧ quiet u)
    -- a cycle starts: the settings take effect, CYCLE_MARK goes out, a master whistles
    ∧ (¬runs → nothing .cycleStart ∧ nothing .relayWhistleSlot ∧ nothing (.contendSlot flag) ∧ nothing .ackTimeout ∧ nothing .deferCapExpiry
        ∧ nothing (.memberCycle flag) ∧ nothing (.toneMapRefresh slot) ∧ nothing .routeAssess)
    ∧ (runs → Answers .cycleStart s fun u =>
      u.rail.ctrl = s.fieldWord .frl 0x020 ∧ u.rail.net = s.fieldWord .frl 0x024 ∧ u.rail.tune = s.fieldWord .frl 0x028
      ∧ u.rail.cycle = x.cycle + 1 ∧ u.rail.marks = (x.marks + 1) % 65536
      ∧ (∃ src, src < 2 ∧ u.fieldEnd = (s.toHub (.cycleMark u.rail.epoch (x.marks % 65536) src)).fieldEnd)
      ∧ (u.rail.acting = 0 → u.out = [])
      ∧ (u.rail.acting ≠ 0 → ∃ f tag rest, u.out = .rail u.rail.feed f u.whistleFields tag (railSymbols f u.whistleFields tag none) :: rest
          ∧ fcType f = 0 ∧ fcDst f = 0xFFF)
      ∧ (master → u.rail.net = x.net → FRL.RL_CTRL.ROLE.get u.rail.ctrl = FRL.RL_CTRL.ROLE.get x.ctrl → u.rail.epoch = (x.epoch + 1) % 65536
          ∧ u.rail.acting = x.acting)
      ∧ (FRL.RL_CTRL.ROLE.get u.rail.ctrl ≠ 1 → ¬master → u.rail.acting = 0)
      ∧ s.Frame u [] [.rail, .fieldEnd, .field])
    ∧ (s.relaying = false ∨ x.whistle.length ≠ 8 → nothing .relayWhistleSlot)
    ∧ (runs → s.relaying = true → x.whistle.length = 8 → Answers .relayWhistleSlot s fun u =>
      sent u 1 0xFFF (x.whistle.set 6 (BitVec.ofNat 8 x.relaySlot)) ∧ s.Frame u [] [.rail])
    -- contention, the deferral cap
    ∧ (x.contend = none → nothing (.contendSlot flag)) ∧ (x.deferred = none → nothing .deferCapExpiry)
    ∧ (∀ kind k, runs → x.contend = some (kind, k) → Answers (.contendSlot true) s fun u =>
      (∃ b, b < 8 ∧ u.rail.contend = some (kind, b)) ∧ u.rail.deferred = some { kind := kind, energy := true } ∧ only u [.rail, .fresh])
    ∧ (∀ kind k, runs → x.contend = some (kind, k) → x.rx ≠ none → Answers (.contendSlot false) s fun u =>
      (∃ b, b < 8 ∧ u.rail.contend = some (kind, b)) ∧ u.rail.deferred = some { kind := kind, energy := false } ∧ only u [.rail, .fresh])
    ∧ (let waits (q : Sent) : Prop := ((s.nbrOf (s.nextHop 0)).bind s.nbr).bind (·.unacked) = some q
      let contends (u : State) : Prop := ∃ f p tag m, u.out = [.rail x.feed f p tag (railSymbols f p tag m)] ∧ fcType f = 9
        ∧ fcDst f = s.nextHop 0 % 4096
      (∀ kind k, runs → x.contend = some (kind, k) → x.rx = none → Answers (.contendSlot false) s fun u =>
        ((∀ q, waits q → q.frame.typ = 9) → contends u) ∧ (∀ q, waits q → q.frame.typ ≠ 9 → u.out = []) ∧ s.Frame u [] [.rail, .fresh])
      ∧ (∀ f, runs → x.deferred = some f → f.kind ≠ 0 → Answers .deferCapExpiry s fun u =>
        u.rail.deferred = none ∧ u.rail.deferCap = min (x.deferCap + 1) 255
        ∧ ((∀ q, waits q → q.frame.typ = 9) → contends u) ∧ (∀ q, waits q → q.frame.typ ≠ 9 → u.out = []) ∧ s.Frame u [] [.rail]))
    ∧ (∀ f, runs → x.deferred = some f → f.kind = 0 → Answers .deferCapExpiry s fun u =>
      u.rail.deferred = none ∧ u.rail.deferCap = min (x.deferCap + 1) 255
      ∧ (x.pollQ = [] → u.rail.polled = none ∧ u.out = [])
      ∧ (∀ n q, x.pollQ = n :: q → u.rail.polled = some n ∧ u.rail.pollQ = q
          ∧ ((∀ i y, s.nbrOf (s.nextHop n) = some i → s.nbr i = some y → y.unacked = none) →
            ∃ g p tag m, u.out = [.rail x.feed g p tag (railSymbols g p tag m)] ∧ fcType g = 2 ∧ fcDst g = s.nextHop n % 4096))
      ∧ s.Frame u [] [.rail])
    -- no acknowledgement; the fourth send is the last
    ∧ (runs → ¬master → x.awaiting = none → nothing .ackTimeout)
    ∧ (∀ i n q, runs → ¬master → x.awaiting = some i → s.nbr i = some n → n.unacked = some q → Answers .ackTimeout s fun u =>
      u.rail.awaiting = none
      ∧ (q.sends < 4 → u.nbr i = some n ∧ u.rail.dropped = x.dropped)
      ∧ (4 ≤ q.sends → u.nbr i = some { n with unacked := none } ∧ u.rail.dropped = min (x.dropped + 1) 255
        ∧ u.rail.sendLost = (if q.frame.host then min (x.sendLost + 1) 255 else x.sendLost))
      ∧ quiet u)
    ∧ (∀ m, runs → master → x.polled = some m → x.pollQ = [] → x.awaiting = none → Answers .ackTimeout s fun u =>
      u.rail.members = x.members.map (fun y => if y.node = m then { y with missed := y.missed + 1, wait := if 3 ≤ y.missed + 1 then 20 else 0 } else y)
      ∧ u.rail.polled = none ∧ quiet u)
    -- a member's cycle, with a whistle or without
    ∧ (let sleeps : Prop := s.sleepy = true ∧ x.cycle % FRL.RL_CTRL.WAKE_CYCLES.get x.ctrl ≠ 0 ∧ x.awake = 0 ∧ x.parentLost = false
        ∧ s.guard ≤ 25000
      (master ∨ sleeps → nothing (.memberCycle flag))
      ∧ (runs → ¬master → ¬sleeps → Answers (.memberCycle true) s fun u =>
        u.rail.missed = 0 ∧ u.rail.silent = 0 ∧ u.rail.parentLost = false
        ∧ (x.parentLost = true → shown u 1 ∧ u.rail.lossReport = true ∧ u.rail.lossLen = x.missed)
        ∧ (s.sleepy = true → u.rail.contend = some (2, 0) ∧ u.rail.awake = 1) ∧ quiet u)
      ∧ (runs → ¬master → ¬sleeps → Answers (.memberCycle false) s fun u =>
        u.rail.missed = min (x.missed + 1) 255
        ∧ (2 ≤ x.missed → x.found = true → x.parentLost = false → shown u 0 ∧ u.rail.relaySlot = 0)
        ∧ (x.missed < 2 → u.rail.parentLost = x.parentLost)
        ∧ (5 ≤ x.missed → x.heardA % 64 = 0 → x.heardB % 64 = 0 → FRL.RL_CTRL.ROLE.get x.ctrl = 2 → u.rail.acting = 2
            ∧ u.rail.gen = (x.genSeen + 1) % 256 ∧ shown u 9)
        ∧ (x.missed < 5 ∨ x.heardA % 64 ≠ 0 ∨ x.heardB % 64 ≠ 0 ∨ FRL.RL_CTRL.ROLE.get x.ctrl ≠ 2 → u.rail.acting = 0)
        ∧ quiet u))
    -- tone maps are made anew and discarded
    ∧ (∀ n m, runs → s.nbr slot.val = some n →
        deriveMap (FRL.RL_TUNE.TM_MARGIN.get tune) (((n.rxMap.map (·.tmi)).getD ((n.rxPrev.map (·.tmi)).getD 0)) % 15 + 1) n.tones = some m →
      Answers (.toneMapRefresh slot) s fun u =>
        u.nbr slot.val = some { n with rxMap := some m, rxPrev := n.rxMap, mapAt := s.tele.now, asked := false, txSeq := (n.txSeq + 1) % 256 }
        ∧ sent u 7 n.node (routeHeader s.ownAddr n.node 0 ++ svcHeader 0 0 0 0 ++ mapBytes m) ∧ s.Frame u [] [.rail])
    ∧ (s.nbr slot.val = none → nothing (.toneMapRefresh slot) ∧ nothing (.toneMapExpiry slot))
    ∧ (∀ n, s.nbr slot.val = some n → Answers (.toneMapExpiry slot) s fun u =>
      u.nbr slot.val = some { n with txMap := none } ∧ (∀ k, k ≠ slot.val → u.nbr k = s.nbr k) ∧ quiet u)
    -- the master reassesses its routes: here one member whose route through repeaters has failed
    ∧ (¬master → nothing .routeAssess)
    ∧ (∀ m, runs → master → x.members = [m] → s.pathRate m.route m.node = 0 → m.route ≠ [] → m.route.eraseDups.length ≤ 4 → x.out = [] →
      Answers .routeAssess s fun u =>
        u.rail.members = [{ m with route := [], better := none }] ∧ (∃ f, u.rail.out = [f] ∧ f.typ = 10 ∧ f.final = m.node) ∧ quiet u)

/-- R408, R417-R421, R446, R449, R500: rail sessions and the services of a session peer, host data, the records to the hub. A
request is acted on once, in its role, and answered; a request from another node is denied. -/
def Obligations.railServices : Prop :=
  ∀ (s : State) (peer : BitVec 12) (body : List Byte),
    let x := s.rail
    let src := peer.toNat
    let only (u : State) (parts : List StatePart) : Prop := u.out = [] ∧ s.Frame u [] parts
    let nothing (c : Instr) : Prop := Answers c s fun u => only u []
    let shown (u : State) (b : Nat) : Prop := u.rail.evts.testBit b = true
    let runs : Prop := s.start.fieldUp = true ∧ x.up = true
    let svc := (body.getD 0 0).toNat
    let op := (body.getD 1 0).toNat
    let msg := natBE ((body.drop 4).take 4)
    let data := body.drop 8
    let rows : List (Instr × Nat × Nat) := [(.railSessionRequest peer body, 2, 1), (.railSessionProof peer body, 2, 3), (.railSessionClose peer body, 2, 5),
      (.railSessionKeepalive peer body, 2, 6), (.statusRequest peer body, 1, 1), (.railKettleClear peer body, 3, 1),
      (.thermalRelease peer body, 3, 2), (.railSetting peer body, 3, 3), (.replaceRole peer body, 4, 1), (.networkKey peer body, 4, 2),
      (.hostData peer body, 5, 1)]
    let request (a b : Nat) : Prop := runs ∧ svc = a ∧ op = b ∧ (body.getD 2 0).toNat % 2 = 0
    -- the answer that waits to be sent: untagged, or under the session key
    let answer (u : State) (o m key : Nat) (d : List Byte) : Prop := u.rail.out = x.out ++ [{
      typ := 3, final := src, key := key, host := false, body := svcHeader svc o 1 m ++ d }]
    let l := s.lockWord.rail
    -- copies that a vote finds apart are rewritten, and the word stays (R360)
    let voted (u : State) : Prop := u.lockWord = s.lockWord ∧ (∀ r, u.roleKey r = s.roleKey r) ∧ u.field.pub.settings = s.field.pub.settings
    (∀ c a b, (c, a, b) ∈ rows →
      (¬runs ∨ svc ≠ a ∨ op ≠ b ∨ (body.getD 2 0).toNat % 2 = 1 → nothing c)
      ∧ (request a b → a ≠ 2 → (∀ y, x.session = some y → y.peer ≠ src) → Answers c s fun u =>
        answer u op msg 0 [1] ∧ u.rail.denied = x.denied + 1 ∧ only u [.rail])
      ∧ (∀ y q, request a b → a ≠ 2 → x.session = some y → y.peer = src → msg = y.lastMsg → y.answer = some q → q.host = false →
        Answers c s fun u => u.rail = { x with out := x.out ++ [q] } ∧ only u [.rail])
      ∧ (∀ y, request a b → a ≠ 2 → x.session = some y → y.peer = src → msg < y.lastMsg → Answers c s fun u =>
        u.rail.replay = min (x.replay + 1) 255 ∧ u.rail.out = x.out ∧ shown u 7 ∧ only u [.rail]))
    -- the session service
    ∧ (let role := (data.getD 0 0).toNat
      (request 2 1 → role = 0 ∨ 3 < role → nothing (.railSessionRequest peer body))
      ∧ (request 2 1 → role ≠ 0 → role ≤ 3 → Answers (.railSessionRequest peer body) s fun u =>
        ∃ n, u.rail.nonce = some { peer := src, role := role, value := n }
          ∧ answer u 2 msg 0 ([0] ++ bytesBE 8 n.toNat ++ bytesBE 4 l.counter.toNat)
          ∧ voted u ∧ only u [.rail, .field, .fresh]))
    ∧ (let result (u : State) (res why fails remain : Nat) : Prop :=
        answer u 4 msg 0 ([BitVec.ofNat 8 res, BitVec.ofNat 8 why, BitVec.ofNat 8 fails] ++ bytesBE 2 remain)
      let c := Instr.railSessionProof peer body
      (request 2 3 → l.remain ≠ 0 → Answers c s fun u => result u 2 1 l.failRun l.remain ∧ voted u ∧ only u [.rail, .field])
      ∧ (request 2 3 → l.remain = 0 → (∀ n, x.nonce = some n → n.peer ≠ src) → Answers c s fun u =>
        result u 2 2 l.failRun 0 ∧ voted u ∧ only u [.rail, .field])
      ∧ (∀ n, request 2 3 → l.remain = 0 → x.nonce = some n → n.peer = src → data.length ≠ 32 → Answers c s fun u =>
        result u 2 3 l.failRun 0 ∧ u.rail.nonce = x.nonce ∧ voted u ∧ only u [.rail, .field])
      ∧ (∀ n, request 2 3 → l.remain = 0 → x.nonce = some n → n.peer = src → data.length = 32 →
        let right : Prop := ∃ k, s.roleKey n.role = some k
          ∧ Crypto.hmac (State.keyBytes k) (State.proofMessage n.value n.role l.counter) = data
        (right → x.session = none → Answers c s fun u =>
          u.lockWord = { s.lockWord with rail := { l with counter := l.counter + 1, failRun := 0, nextLen := 60 } } ∧ u.rail.nonce = none
          ∧ (∃ k, u.rail.session = some {
              peer := src, role := n.role, key := k, lastMsg := 0, answer := none, txMsg := 0, lastAt := s.tele.now })
          ∧ u.field.pub.railRole = n.role ∧ u.field.pub.railPeer = src ∧ shown u 4 ∧ result u 0 0 0 0 ∧ only u [.rail, .field])
        ∧ (¬right → Answers c s fun u =>
          u.lockWord = { s.lockWord with rail :=
            if 4 ≤ l.failRun then { l with failRun := 0, remain := l.nextLen, nextLen := min (2 * l.nextLen) 3600 }
            else { l with failRun := l.failRun + 1 } }
          ∧ u.rail.nonce = none ∧ u.rail.session = x.session ∧ (4 ≤ l.failRun → l.nextLen ≠ 0 → shown u 5)
          ∧ result u 1 0 u.lockWord.rail.failRun u.lockWord.rail.remain ∧ only u [.rail, .field])))
    ∧ (request 2 5 → x.session.map (·.peer) ≠ some src → nothing (.railSessionClose peer body))
    ∧ (request 2 5 → x.session.map (·.peer) = some src → Answers (.railSessionClose peer body) s fun u =>
      u.rail.session = none ∧ u.field.pub.railRole = 0 ∧ u.field.pub.railPeer = 0 ∧ shown u 4
      ∧ u.rail.out = (x.out.filter fun f => f.key != 2) ++ [{
          typ := 3, final := src, key := 0, host := false, body := svcHeader 2 5 1 msg ++ [0] }]
      ∧ only u [.rail, .field])
    ∧ (request 2 6 → x.session.map (·.peer) ≠ some src → nothing (.railSessionKeepalive peer body))
    ∧ (∀ y, request 2 6 → x.session = some y → y.peer = src → Answers (.railSessionKeepalive peer body) s fun u =>
      u.rail.session = some { y with lastAt := s.tele.now } ∧ answer u 6 msg 0 [0] ∧ only u [.rail])
    ∧ Answers .railNonceExpiry s (fun u => u.rail = { x with nonce := none } ∧ only u [.rail])
    ∧ (x.session = none → nothing .railSessionTimeout)
    ∧ (x.session ≠ none → Answers .railSessionTimeout s fun u =>
      u.rail.session = none ∧ u.field.pub.railRole = 0 ∧ shown u 4 ∧ u.rail.out = x.out.filter (fun f => f.key != 2) ∧ only u [.rail, .field])
    -- services of the session peer, each MSG once
    ∧ (∀ y, x.session = some y → y.peer = src → y.lastMsg < msg →
      let done (u : State) (d : List Byte) : Prop := answer u op msg 2 d
        ∧ ∃ q, u.rail.session = some { y with lastMsg := msg, answer := some q, lastAt := s.tele.now } ∧ u.rail.out = x.out ++ [q]
      let refused (c : Instr) (res : Nat) : Prop := Answers c s fun u => done u [BitVec.ofNat 8 res]
        ∧ u.rail.denied = x.denied + (if res = 1 then 1 else 0) ∧ only u [.rail]
      let one := (data.getD 0 0).toNat
      -- STATUS
      (request 1 1 → Answers (.statusRequest peer body) s fun u =>
        (∃ q, u.rail.session = some { y with lastMsg := msg, answer := some q, lastAt := s.tele.now } ∧ u.rail.out = x.out ++ [q]
          ∧ q.key = 2 ∧ q.body = svcHeader 1 2 1 msg ++ [0] ++ s.statusBody) ∧ only u [.rail])
      -- KETTLE_CLEAR leaves kettle mode, and deep kettle too
      ∧ (request 3 1 → y.role < 3 → refused (.railKettleClear peer body) 1)
      ∧ (request 3 1 → 3 ≤ y.role → s.start.attempt ≠ none ∨ (s.start.kettle = false ∧ s.start.deepKettle = false) → refused (.railKettleClear peer body) 3)
      ∧ (request 3 1 → 3 ≤ y.role → s.start.attempt = none → s.start.kettle = true ∨ s.start.deepKettle = true →
        Answers (.railKettleClear peer body) s fun u =>
          let n := if one % 2 = 1 then 0 else s.attemptsWord
          (∃ a, u.start.attempt = some a ∧ a.counterBefore = n ∧ a.step = (if s.start.kettle then 7 else 6) ∧ a.fromKettle = s.start.kettle)
          ∧ u.attemptsWord = min (n + 1) 255 ∧ u.start.kettle = false ∧ u.start.deepKettle = false
          ∧ (s.start.kettle = false → u.causeWord.deep = false) ∧ done u [0] ∧ only u [.rail, .field, .start])
      -- THERMAL_RELEASE
      ∧ (request 3 2 → y.role < 3 → refused (.thermalRelease peer body) 1)
      ∧ (request 3 2 → 3 ≤ y.role → s.start.attempt ≠ none ∨ s.field.pub.thermLocked = false → refused (.thermalRelease peer body) 3)
      ∧ (request 3 2 → 3 ≤ y.role → s.start.attempt = none → s.field.pub.thermLocked = true → Answers (.thermalRelease peer body) s fun u =>
        u.field.pub = { s.field.pub with thermLocked := false, thermRestarts := 0 } ∧ u.tele = { s.tele with restarts := [] } ∧ done u [0]
        ∧ only u [.rail, .field, .tele])
      -- a setting: here the power settings of FPW, and a register that takes none
      ∧ (request 3 3 → y.role < 2 → refused (.railSetting peer body) 1)
      ∧ (request 3 3 → 2 ≤ y.role → one = 0 → natBE ((data.drop 2).take 2) = 0x048 → Answers (.railSetting peer body) s fun u =>
        u.fieldWord .fpw 0x048 = (s.fieldWord .fpw 0x048 &&& ~~~3) ||| (BitVec.ofNat 32 (natBE ((data.drop 4).take 4)) &&& 3)
        ∧ done u [0] ∧ only u [.rail, .field])
      ∧ (request 3 3 → 2 ≤ y.role → one = 0 → natBE ((data.drop 2).take 2) ∉ [0x044, 0x048] → refused (.railSetting peer body) 2)
      -- REPLACE_ROLE: the key wrapped under the role-3 key; every other session of that role is revoked
      ∧ (request 4 1 → y.role < 3 → refused (.replaceRole peer body) 1)
      ∧ (request 4 1 → 3 ≤ y.role → one = 0 ∨ 3 < one ∨ s.roleKey 3 = none → refused (.replaceRole peer body) 2)
      ∧ (∀ k, request 4 1 → 3 ≤ y.role → 1 ≤ one → one ≤ 3 → s.roleKey 3 = some k →
        (Crypto.unwrap (State.keyBytes k) ((data.drop 1).take 40) = none → refused (.replaceRole peer body) 2)
        ∧ (∀ b, Crypto.unwrap (State.keyBytes k) ((data.drop 1).take 40) = some b → Answers (.replaceRole peer body) s fun u =>
          u.roleKey one = some (BitVec.ofNat 256 (natBE b)) ∧ (∀ j, 1 ≤ j → j ≤ 3 → j ≠ one → u.roleKey j = s.roleKey j)
          ∧ u.field.pub.revoked = ((s.field.pub.revoked.1 + 1) % 65536, one) ∧ done u [0] ∧ only u [.rail, .field]))
      -- NETWORK_KEY: wrapped under the session key; the key before it stays usable
      ∧ (request 4 2 → one = 0 ∨ one = 255 ∨ Crypto.unwrap (State.keyBytes y.key) ((data.drop 1).take 40) = none → refused (.networkKey peer body) 2)
      ∧ (∀ b, request 4 2 → 1 ≤ one → one ≤ 254 → Crypto.unwrap (State.keyBytes y.key) ((data.drop 1).take 40) = some b →
        Answers (.networkKey peer body) s fun u =>
          u.rail.key = some (one, BitVec.ofNat 256 (natBE b)) ∧ u.rail.keyPrev = x.key ∧ done u [0] ∧ only u [.rail])
      -- data for the host
      ∧ (request 5 1 → s.fieldEnd.up = false → refused (.hostData peer body) 2)
      ∧ (request 5 1 → s.fieldEnd.up = true → Answers (.hostData peer body) s fun u =>
        u.fieldEnd = (s.toHub (.railDeliver src 5 0 data)).fieldEnd ∧ u.rail.delivered = min (x.delivered + 1) 255 ∧ done u [0]
        ∧ only u [.rail, .fieldEnd]))
    -- data from the host: a numbered frame, which the field island takes when it is next in order (R342)
    ∧ (∀ flags,
      let e := s.hubEnd
      let sent := State.sendFrom e (.railSend src svc flags.toNat data)
      let due := State.seqOn s.fieldEnd.rxSeq 1
      let small : Prop := data.length ≤ 252
      let next : Prop := small ∧ s.fieldAwake = true ∧ e.up = true ∧ e.unacked = [] ∧ e.waiting = [] ∧ sent.txSeq = due
      let took (u : State) : Prop := u.hubEnd = sent ∧ u.fieldEnd = { s.fieldEnd with rxSeq := due }
      let c := Instr.railSend peer (BitVec.ofNat 8 svc) flags data
      let open' : Prop := ∃ y, x.session = some y ∧ y.peer = src
      let fits : Prop := svc % 256 = 5 ∧ s.fset .frl FRL.RL_HOST.HOST_EN = 1 ∧ x.out.countP (·.host) < 16
      (¬small ∨ (e.up = false ∧ e.unacked = []) → nothing c)
      ∧ (small → s.fieldAwake = false ∨ (∀ y ∈ sent.unacked, y.seq ≠ due) → Answers c s fun u => u.hubEnd = sent ∧ only u [.hubEnd])
      ∧ (next → ¬open' ∨ ¬fits → Answers c s fun u =>
        u.rail.sendLost = min (x.sendLost + 1) 255 ∧ u.rail.out = x.out ∧ shown u 8 ∧ took u ∧ only u [.rail, .hubEnd, .fieldEnd])
      ∧ (∀ y, next → x.session = some y → y.peer = src → fits → Answers c s fun u =>
        u.rail = { x with
          session := some { y with txMsg := y.txMsg + 1 }
          out := x.out ++ [{ typ := 3, final := src, key := 2, host := true
                             body := svcHeader 5 1 (flags.toNat / 2 * 2) (y.txMsg + 1) ++ data }] }
        ∧ took u ∧ only u [.rail, .hubEnd, .fieldEnd]))
    -- the records to the hub, every tenth time with the neighbour entries
    ∧ (s.fieldAwake = false → nothing .frlRecordTimer)
    ∧ (s.fieldAwake = true → Answers .frlRecordTimer s fun u =>
      (∃ r, r = State.sendFrom s.fieldEnd (.railDeliver 0 0 0 s.frlRecord)
        ∧ ((x.records + 1) % 10 ≠ 0 → u.fieldEnd = r)
        ∧ ((x.records + 1) % 10 = 0 → ∃ a b, u.fieldEnd = State.sendFrom (State.sendFrom r (.railDeliver 0 0 1 a)) (.railDeliver 0 0 2 b)
          ∧ a.length = 192 ∧ b.length = 192))
      ∧ u.rail = { x with evts := 0, records := x.records + 1 } ∧ only u [.rail, .fieldEnd])

/-- R12, R90, R425, R426, R428-R437, R439, R440: tiles and their reserve cells, laser procedures, firmware banks, the powered hour.
-/
def Obligations.caddy : Prop :=
  ∀ (s : State) (p : Page) (t : TileKind) (k : Fin 16) (v : Word) (ok : Bool),
    let c := s.cad
    let ev (u : State) (b : Nat) : Prop := (u.word .cad 0x00C).getLsbD b = true
    let nothing (i : Instr) : Prop := Answers i s fun u => u.out = [] ∧ s.Frame u [] []
    let n := s.pst p
    let fits : Prop := tileFits p t = true
    let hours := s.rd .cad CAD.LEDGER_TIME.POWERED_HOURS
    -- the reserve cell takes a cell's place
    (nothing (.tileCheck p t false)) ∧ (¬fits ∨ n = 0 ∨ n = 4 → nothing (.tileCheck p t true))
    ∧ (fits → n ≠ 0 → n ≠ 4 → Answers (.tileCheck p t true) s fun u =>
      u.pst p = (if n = 2 ∨ n = 3 then 7 else n) ∧ u.rd p HDR.PAGE_STATE.RESERVE_USED = min (s.rd p HDR.PAGE_STATE.RESERVE_USED + 1) 255
      ∧ u.cad = { c with
          cells := c.cells + 1, ledger := if s.host.fwUp then c.ledger ++ [⟨0, p.base / 0x1000, 1, hours⟩] else c.ledger }
      ∧ u.rd .cad CAD.CAD_LAST.POOL = 0 ∧ u.rd .cad CAD.CAD_LAST.REASON = 1 ∧ u.rd .cad CAD.CAD_LAST.UNIT = p.base / 0x1000 % 2 ^ 20
      ∧ u.out = [] ∧ s.Frame u [(p, 0x008), (.cad, 0x054), (.cad, 0x018)] (.cad :: State.eventParts))
    ∧ (n = 7 → Answers (.tileRepairDone p) s fun u => u.pst p = s.runState p ∧ u.out = [] ∧ s.Frame u [(p, 0x008)] [])
    ∧ (n ≠ 7 → nothing (.tileRepairDone p))
    -- a further cell is lost
    ∧ (n = 0 ∨ ¬fits → nothing (.tileCellLoss p t))
    ∧ (let l := s.lostTiles p
      let kept (u : State) : Prop := u.cad = { c with losses := c.losses ++ [(p.base, t)] } ∧ u.out = []
      -- FAULT with a loss that the engine's function cannot do without, else DEGRADED
      let fatal : Prop := s.broken p = true ∨ s.cipherLost p = true
      let worse (u : State) : Prop := u.pst p = (if fatal then 4 else if n = 2 ∨ n = 7 then 3 else n)
      let dead (f : Fin 8 → TileKind) (j : Nat) : Bool := (List.finRange 8).any fun i => decide (i.val = j) && (f i == t || l.contains (f i))
      (∀ (m : Fin 16) (i : Fin 8), n ≠ 0 → p = .txo m → t = .txoSubcarrier i → Answers (.tileCellLoss p t) s fun u =>
        worse u ∧ (∃ d, u.car m = { s.car m with txDead := d } ∧ ∀ j, d.testBit j = dead .txoSubcarrier j) ∧ kept u
        ∧ s.Frame u [(p, 0x008)] [.cars, .cad])
      ∧ (∀ (m : Fin 16) (i : Fin 8), n ≠ 0 → p = .rxe m → t = .rxeSubcarrier i → ¬fatal → Answers (.tileCellLoss p t) s fun u =>
        worse u ∧ (∃ d, u.car m = { s.car m with rxDead := d } ∧ ∀ j, d.testBit j = dead .rxeSubcarrier j)
        ∧ (∀ j, j < 8 → (u.rd p RXE.RX_STATUS.SNR_VALID).testBit j = (!dead .rxeSubcarrier j && (s.rd p RXE.RX_STATUS.SNR_VALID).testBit j)
            ∧ (dead .rxeSubcarrier j = true → u.rd p (if j < 4 then ⟨0x03C, 8 * j, 8⟩ else ⟨0x040, 8 * (j - 4), 8⟩) = 0))
        ∧ kept u ∧ s.Frame u [(p, 0x008), (p, RXE.RX_STATUS.SNR_VALID.off), (p, 0x03C), (p, 0x040)] [.cars, .cad])
      ∧ (n ≠ 0 → fits → t = .txoDac ∨ t = .rxeAdc ∨ t = .encoder ∨ t = .schSlice → Answers (.tileCellLoss p t) s fun u =>
        u.pst p = 4 ∧ u.broken p = true ∧ s.Frame u (State.engineRegs p) (State.engineParts p ++ [.cad]))
      ∧ (n ≠ 0 → fits → t = .ldpcGroup ∨ t = .laneSlice → Answers (.tileCellLoss p t) s fun u => worse u ∧ kept u ∧ s.Frame u [(p, 0x008)] [.cad])
      ∧ (∀ m, n ≠ 0 → p = .fcr m → t = .cipher → Answers (.tileCellLoss p t) s fun u =>
        (s.encrypted m = true → u.pst p = 4) ∧ (s.encrypted m = false → worse u) ∧ kept u ∧ s.Frame u [(p, 0x008)] [.cad])
      ∧ (n ≠ 0 → p = .bsc → ∀ ingress, t = .bufferBank ingress → Answers (.tileCellLoss p t) s fun u =>
        u.tm.inBanks = l.count (.bufferBank true) + ingress.toNat ∧ u.tm.egBanks = l.count (.bufferBank false) + (!ingress).toNat
        ∧ (n = 2 ∨ n = 3 → u.pst .bsc = 3) ∧ kept u ∧ s.Frame u [(.bsc, 0x008), (.qsc, 0x008), (.sch, 0x008), (.fct, 0x008)] [.tm, .cad])
      ∧ (n ≠ 0 → p = .qsc → t = .cacheBank → Answers (.tileCellLoss p t) s fun u =>
        u.tm.ctxBanks = l.count .cacheBank + 1 ∧ (n = 2 ∨ n = 3 → u.pst .qsc = 3) ∧ kept u
        ∧ s.Frame u [(.bsc, 0x008), (.qsc, 0x008), (.sch, 0x008), (.fct, 0x008)] [.tm, .cad])
      ∧ (∀ m, n ≠ 0 → p = .mch m → t = .ddrSlice → exec (.tileCellLoss p t) s = exec (.channelLost m) s))
    -- LASER_CMD: SWAP and RETURN wait their turn, at most 16; MODE 3 is refused; two commands together are ignored
    ∧ (let mode := CAD.LASER_CMD.MODE.get v
      let at' : Fin 16 := Fin.ofNat 16 (CAD.LASER_CMD.CARRIER.get v)
      let swap := CAD.LASER_CMD.SWAP.get v
      let back := CAD.LASER_CMD.RETURN.get v
      let stop := CAD.LASER_CMD.ABORT.get v
      let rejects (u : State) (b : Bool) : Prop := u.bit .cad CAD.LASER_STATUS.CFG_REJECT = b
      (∀ i ret, (i, ret) ∈ [(Instr.laserCmdSwap v, false), (.laserCmdReturn v, true)] → s.accepts .cad 0x03C = true →
        (if ret then swap = 0 else back = 0) → stop = 0 →
        (mode = 3 → Answers i s fun u => rejects u true ∧ u.out = [] ∧ s.touch.Frame u [(.cad, 0x040)] [])
        ∧ (mode ≠ 3 → c.cur = none ∨ c.queue.length < 16 → Answers i s fun u =>
          rejects u false ∧ u.cad = { c with queue := c.queue ++ [{ k := at', mode := mode, ret := ret, fault := false, auto := false }] }
          ∧ u.out = [] ∧ s.touch.Frame u [(.cad, 0x040)] [.cad])
        ∧ (mode ≠ 3 → c.cur ≠ none → 16 ≤ c.queue.length → Answers i s fun u =>
          rejects u false ∧ ev u 3 ∧ u.out = [] ∧ s.touch.Frame u [(.cad, 0x040), (.cad, 0x00C)] State.eventParts))
      ∧ (s.accepts .cad 0x03C = true → swap = 0 → back = 0 → Answers (.laserCmdAbort v) s fun u =>
        rejects u false ∧ u.cad = (if c.cur = none then c else { c with touched := true }) ∧ u.out = [] ∧ s.touch.Frame u [(.cad, 0x040)] [.cad])
      ∧ (∀ i, (i = .laserCmdSwap v ∧ (back = 1 ∨ stop = 1)) ∨ (i = .laserCmdReturn v ∧ (swap = 1 ∨ stop = 1))
          ∨ (i = .laserCmdAbort v ∧ (swap = 1 ∨ back = 1)) → s.accepts .cad 0x03C = true → Answers i s fun u => u.out = [] ∧ s.touch.Frame u [] []))
    -- the steps of a procedure, which firmware carries out after the command that makes one due
    ∧ (let st (u : State) := u.rd .cad CAD.LASER_STATUS.PROC_STATE
      let pending := s.bit (.txo k) TXO.TX_STATUS.SPARE_PENDING
      let drained := s.bit .cad CAD.LASER_STATUS.DRAINED_SWAP
      (∀ r q, c.cur = none → c.queue = r :: q → r.k = k → r.ret = false → s.spareBusy k = true → ∃ u, s.procStep = some u ∧ u.cad = { c with queue := q }
          ∧ ev u 3)
      ∧ (∀ r q, c.cur = none → c.queue = r :: q → r.k = k → r.ret = true ∨ s.spareBusy k = false → ∃ u, s.procStep = some u
          ∧ u.cad.cur = some r ∧ u.cad.queue = q ∧ u.rd .cad CAD.LASER_STATUS.PROC_CARRIER = k.val
          ∧ (r.fault = false → r.mode = 2 ∨ (r.mode = 0 ∧ s.bondedTx k = true ∧ s.zr k = false) →
              st u = 1 ∧ u.bit (.lfe k) HDR.PAGE_CTRL.DRAIN = true ∧ u.bit (.csc k) CSC.CSC_CTRL.FORCE_RDI = true
              ∧ u.bit .cad CAD.LASER_STATUS.DRAINED_SWAP = true)
          ∧ (r.fault = true ∨ (r.mode ≠ 2 ∧ (r.mode ≠ 0 ∨ s.bondedTx k = false ∨ s.zr k = true)) →
              st u = 3 ∧ u.bit .cad CAD.LASER_STATUS.DRAINED_SWAP = false))
      ∧ (∀ r, c.cur = some r → r.k = k → c.touched = false →
        (st s = 1 → s.pst (.lfe k) = 6 → ∃ u, s.procStep = some u ∧ st u = 2)
        ∧ (st s = 1 → s.pst (.lfe k) ≠ 6 → s.procStep = none)
        ∧ (st s = 2 → c.farPassed = true → ∃ u, s.procStep = some u ∧ st u = 3) ∧ (st s = 2 → c.farPassed = false → s.procStep = none)
        ∧ (st s = 3 → pending = true → s.procStep = none)
        ∧ (st s = 3 → pending = false → s.bit (.txo k) TXO.TX_STATUS.SPARE_IN_USE = !r.ret → drained = true → ∃ u, s.procStep = some u ∧ st u = 4
            ∧ u.bit (.lfe k) HDR.PAGE_CTRL.DRAIN = false ∧ u.bit (.csc k) CSC.CSC_CTRL.FORCE_RDI = false)
        ∧ (st s = 3 → pending = false → s.bit (.txo k) TXO.TX_STATUS.SPARE_IN_USE = !r.ret → drained = false → ∃ u, s.procStep = some u ∧ st u = 5
            ∧ ev u 4 ∧ u.cad.cur = none)
        ∧ (st s = 4 → (s.car k).cap ≠ 0 → (s.car k).posts = [] → ∃ u, s.procStep = some u ∧ st u = 5 ∧ ev u 4 ∧ u.cad.cur = none))
      ∧ (∀ r, c.cur = some r → r.k = k → c.touched = true → st s = 1 → s.pst (.lfe k) = 6 → ∃ u, s.procStep = some u ∧ st u = 6 ∧ ev u 5
          ∧ u.cad.cur = none)
      -- FAR_WAIT; the laser that does not lock within 60 s
      ∧ (c.cur = none → nothing .farWaitExpiry)
      ∧ (c.cur ≠ none → Answers .farWaitExpiry s fun u => u.cad = { c with farPassed := true } ∧ u.out = [] ∧ s.Frame u [] [.cad])
      ∧ (pending = false → nothing (.spareLaserLockTimeout k))
      ∧ (pending = true → Answers (.spareLaserLockTimeout k) s fun u =>
        let inUse := s.bit (.txo k) TXO.TX_STATUS.SPARE_IN_USE
        u.bit (.txo k) TXO.TX_STATUS.SPARE_PENDING = false ∧ u.bit (.txo k) TXO.TX_CTRL.LASER_SEL = inUse ∧ (u.car k).warming = false ∧ ev u 5
        ∧ (inUse = false → (u.rd .cad CAD.LASER_STATUS.SPARE_FREE).testBit (k.val / 4) = true)
        ∧ (∀ r, c.cur = some r → r.k = k → u.cad.cur = none ∧ st u = 6
            ∧ (drained = true → c.touched = false → u.bit (.lfe k) HDR.PAGE_CTRL.DRAIN = false ∧ u.bit (.csc k) CSC.CSC_CTRL.FORCE_RDI = false))
        ∧ u.out = []
        ∧ s.Frame u [(.txo k, 0x020), (.txo k, 0x024), (.cad, 0x040), (.cad, 0x00C), (.csc k, 0x024), (.lfe k, 0x004)] (.cars :: .cad :: State.eventParts)))
    -- firmware banks
    ∧ (let st := s.rd .cad CAD.FW_STATUS.STATE
      let at' (u : State) (m : Nat) : Prop := u.rd .cad CAD.FW_STATUS.STATE = m
      let rejects (u : State) (b : Bool) : Prop := u.bit .cad CAD.FW_STATUS.CFG_REJECT = b
      let running1 : Prop := c.running = some true ∨ (c.running = none ∧ c.preferred = true)
      let bank (u : State) : FwBank := if s.loadBank then u.cad.bank1 else u.cad.bank0
      let other (u : State) : Prop := if s.loadBank then u.cad.bank0 = c.bank0 else u.cad.bank1 = c.bank1
      let only (u : State) : Prop := u.out = [] ∧ s.touch.Frame u [(.cad, 0x04C)] [.cad]
      let refused (u : State) : Prop := rejects u true ∧ u.out = [] ∧ s.touch.Frame u [(.cad, 0x04C)] []
      let proc := s.rd .cad CAD.LASER_STATUS.PROC_STATE
      let mig := s.rd .msc MSC.MIG_STATUS.STATE
      let busy : Prop := (1 ≤ proc ∧ proc ≤ 4) ∨ ((mig = 1 ∨ mig = 2) ∧ s.mem.autoMig = true)
      (s.loadBank = true ↔ ¬running1)
      ∧ (s.accepts .cad 0x044 = true → st = 4 → Answers .fwBegin s refused ∧ Answers .fwAbort s refused)
      ∧ (s.accepts .cad 0x044 = true → st ≠ 4 → Answers .fwBegin s fun u =>
        rejects u false ∧ at' u 0 ∧ u.cad.erasing = true ∧ u.cad.fwImg = [] ∧ (bank u).valid = false ∧ other u ∧ only u)
      ∧ (c.erasing = false → nothing .fwEraseDone)
      ∧ (c.erasing = true → Answers .fwEraseDone s fun u => at' u 1 ∧ u.cad = { c with erasing := false } ∧ u.out = [] ∧ s.Frame u [(.cad, 0x04C)] [.cad])
      ∧ (s.accepts .cad 0x048 = true → st ≠ 1 → Answers (.fwPortWrite v) s refused)
      ∧ (s.accepts .cad 0x048 = true → st = 1 → Answers (.fwPortWrite v) s fun u =>
        let img := c.fwImg ++ bytesBE 4 v.toNat
        let len := natBE (img.take 4)
        u.cad = { c with fwImg := img } ∧ rejects u false
        ∧ (67108864 < len → at' u 5 ∧ ev u 7) ∧ (len ≤ 67108864 → 8 ≤ img.length → len ≤ img.length → at' u 2)
        ∧ (len ≤ 67108864 → img.length < 8 ∨ img.length < len → at' u 1) ∧ u.out = []
        ∧ s.touch.Frame u [(.cad, 0x04C), (.cad, 0x00C)] (.cad :: State.eventParts))
      ∧ (st ≠ 2 → nothing (.fwVerifyDone ok))
      ∧ (st = 2 → Answers (.fwVerifyDone ok) s fun u =>
        let good : Prop := ok = true ∧ Crypto.signed (c.fwImg.take (natBE (c.fwImg.take 4))) = true
        (good → at' u 3 ∧ ev u 6 ∧ bank u = { valid := true, version := BitVec.ofNat 32 (natBE ((c.fwImg.drop 4).take 4)) } ∧ other u)
        ∧ (¬good → at' u 5 ∧ ev u 7 ∧ u.cad = c) ∧ u.out = [] ∧ s.Frame u [(.cad, 0x04C), (.cad, 0x00C)] (.cad :: State.eventParts))
      ∧ (s.accepts .cad 0x044 = true → st ≠ 3 → Answers .fwActivate s refused)
      ∧ (s.accepts .cad 0x044 = true → st = 3 → busy → Answers .fwActivate s fun u => rejects u true ∧ at' u 6 ∧ u.cad = c ∧ u.out = []
          ∧ s.touch.Frame u [(.cad, 0x04C)] [])
      ∧ (s.accepts .cad 0x044 = true → st = 3 → ¬busy → Answers .fwActivate s fun u =>
        u.cad = { c with preferred := s.loadBank } ∧ u.bit .cad CAD.FW_STATUS.PREFERRED = s.loadBank ∧ at' u 4 ∧ u.host.window = true
        ∧ u.host.fwUp = false ∧ u.rd .dev DEV.RESET_HISTORY.LAST_KIND = 3 ∧ u.role = 0 ∧ u.out = []
        ∧ s.touch.Frame u [(.cad, 0x04C), (.dev, 0x058), (.dev, 0x05C), (.dev, 0x04C), (.dev, 0x030), (.dev, 0x034), (.ses, 0x00C), (.ses, 0x020), (.ses, 0x028),
            (.ses, 0x02C), (.fbr, 0x020), (.fbr, 0x034), (.fpw, 0x008), (.ftl, 0x008), (.frl, 0x008), (.fbr, 0x008)]
          (.cad :: .ses :: .host :: .hubEnd :: .mirror :: .field :: .sense :: State.eventParts))
      ∧ (s.accepts .cad 0x044 = true → st ≠ 4 → Answers .fwAbort s fun u =>
        rejects u false ∧ at' u 0 ∧ u.cad.erasing = false ∧ u.cad.fwImg = []
        ∧ (c.erasing = true ∨ st = 1 ∨ st = 2 ∨ st = 3 ∨ st = 6 → (bank u).valid = false) ∧ other u ∧ only u))
    -- a powered hour: counted while a feed is VALID
    ∧ (let f := s.field.pub
      let counts : Prop := s.start.fieldUp = true ∧ (f.feedA.st = .valid ∨ f.feedB.st = .valid)
      (¬counts → nothing .poweredHour)
      -- without a majority only the dissent is noted
      ∧ (counts → State.vote s.field.caddy = none → Answers .poweredHour s fun u => u.field.caddy = s.field.caddy
        ∧ u.field.pub = { s.field.pub with dissent := u.field.pub.dissent } ∧ u.out = [] ∧ s.Frame u [] [.field])
      ∧ (∀ w, counts → State.vote s.field.caddy = some w → s.hubAlive = false ∨ s.host.fwUp = false → Answers .poweredHour s fun u =>
        State.vote u.field.caddy = some (w / 2 ^ 32 * 2 ^ 32 + (w % 2 ^ 32 + 1) % 2 ^ 32)
        ∧ (s.hubAlive = true → s.hubEnd.up = true → u.word .cad 0x050 = BitVec.ofNat 32 (w % 2 ^ 32 + 1))
        ∧ u.out = [] ∧ s.Frame u [(.cad, 0x050)] [.field])
      ∧ (∀ w, counts → State.vote s.field.caddy = some w → s.hubAlive = true → s.host.fwUp = true → s.hubEnd.up = true → Answers .poweredHour s fun u =>
        let h := w % 2 ^ 32 + 1
        u.word .cad 0x050 = BitVec.ofNat 32 h ∧ (∃ w', State.vote u.field.caddy = some w' ∧ w' % 2 ^ 32 = h % 2 ^ 32)
        ∧ u.cad.history = c.history + 1 ∧ u.cad.ledger = c.ledger
        ∧ (h % 24 ≠ 0 → u.cad.bias = c.bias)
        ∧ (h % 24 = 0 → ∃ l, u.cad.bias = (h, l) :: c.bias ∧ l.length = 16)
        -- no trend within 720 hours of history; nothing left is 0 days
        ∧ (∀ j, j < 16 → j ≠ 2 → u.poolRemain j = 0 → u.cad.days.getD j 1 = 0)
        ∧ (∀ j, j < 16 → c.history + 1 < 720 → u.poolRemain j ≠ 0 → u.cad.days.getD j 1 = 0xFFFF)
        ∧ u.out = [] ∧ s.Frame u [(.cad, 0x050), (.cad, 0x00C), (.cad, 0x018), (.cad, 0x01C), (.cad, 0x020)] (.cad :: .field :: State.eventParts)))

/-- R284, R292, R293, R326, R355, R384, R434, R441-R449: the start sequence. Steps 3 to 5 choose between an attempt, kettle mode and
deep kettle; each step of an attempt waits for its condition; a failed attempt is charged its cause and the host side goes off, or
kettle mode is entered again at once. R60, R68-R71, R86, R441, R450-R456, R474, R498: warm resets, RESET_N, PERST_N and the other
control inputs. -/
def Obligations.startAndResets : Prop :=
  (∀ (s : State) (f : StartFound),
      let x := s.start
      let had := x.attempt
      let only (u : State) (parts : List StatePart) : Prop := u.out = [] ∧ s.Frame u [] parts
      let nothing (c : Instr) : Prop := Answers c s fun u => only u []
      let cold : List StatePart := [.start, .field, .tele, .rail, .fieldEnd]
      let level := s.rd .dev DEV.STATUS.SVC_LEVEL
      let tells (u : State) (outcome cause step : Nat) : Prop := u.hubEnd = State.sendFrom s.hubEnd (.startResult outcome cause level step)
      let at' (u : State) (n : Nat) : Prop := ∃ a, u.start.attempt = some a ∧ a.step = n ∧ a.held = false
      let moves (u : State) (a : Attempt) (n : Nat) : Prop := u.start = { x with attempt := some { a with step := n, held := false } } ∧ tells u 0 0 n
      -- steps 3 to 5
      let clear : Prop := s.noMajority = 0 ∧ s.causeWord.deep = false ∧ s.attemptsWord < 3
      let begins (u : State) : Prop := u.start.attempt = some {
          step := 6, fromKettle := false, fromReset := false, counterBefore := s.attemptsWord, causeBefore := s.causeWord, held := false
          watchdog := true, reported := false }
        ∧ u.attemptsWord = s.attemptsWord + 1 ∧ u.causeWord = s.causeWord ∧ u.start.kettle = false ∧ u.start.offWait = false
        ∧ u.start.thermalWait = false ∧ u.start.fieldUp = true
      let kettled (u : State) (c : CauseWord) : Prop := u.causeWord = c ∧ u.start.kettle = true ∧ u.start.power = .kettleSet ∧ u.start.attempt = none
        ∧ u.start.datapath = false ∧ u.start.offWait = false ∧ u.out = []
      let fresh (u : State) : Prop := u.time = 0 ∧ u.logRing = [] ∧ u.cars = [] ∧ u.hubEnd.up = false ∧ u.cad.ledger = s.cad.ledger
      let deep (u : State) : Prop := u.start.deepKettle = true ∧ u.start.kettle = false ∧ u.start.power = .off ∧ u.causeWord.deep = true
        ∧ u.host.mgmt = .off ∧ u.hubEnd.up = false ∧ u.out = []
      let chosen (c : Instr) : Prop :=
        (clear → Answers c s fun u => begins u ∧ only u cold)
        ∧ (s.noMajority ≠ 0 → Answers c s fun u => kettled u { cause := 0x0A, deep := s.causeWord.deep } ∧ fresh u)
        ∧ (s.noMajority = 0 → s.causeWord.deep = true → Answers c s fun u => deep u ∧ s.Frame u [] (.host :: .hubEnd :: cold))
        ∧ (s.noMajority = 0 → s.causeWord.deep = false → 3 ≤ s.attemptsWord → Answers c s fun u => kettled u s.causeWord ∧ fresh u)
      let ready : Prop := x.power = .off ∧ had = none ∧ x.offWait = false ∧ x.deepKettle = false ∧ x.thermalWait = false ∧ s.anyValid = true
        ∧ (x.fieldUp = false ∨ x.spent = true) ∧ s.imageGap = false
      -- a failed attempt
      let charged (c : Instr) (a : Attempt) (cause : Nat) : Prop :=
        (a.fromKettle = false ∨ a.counterBefore < 3 → Answers c s fun u =>
          u.causeWord = { cause := cause, deep := s.causeWord.deep } ∧ u.attemptsWord = s.attemptsWord ∧ u.start.power = .off ∧ u.start.attempt = none
          ∧ u.start.offWait = true ∧ u.start.datapath = false ∧ u.host.mgmt = .off ∧ u.hubEnd.up = false ∧ u.fieldEnd.up = false
          ∧ only u [.start, .field, .host, .hubEnd, .fieldEnd])
        ∧ (a.fromKettle = true → 3 ≤ a.counterBefore → Answers c s fun u => kettled u { cause := cause, deep := s.causeWord.deep })
      let reports (c : Instr) (cause step : Nat) : Prop := Answers c s fun u => u.start = x ∧ tells u 2 cause step ∧ only u [.hubEnd]
      let held (a : Attempt) : Prop := a.held = true ∨ (a.step ≤ 7 ∧ s.imageGap = true) ∨ (8 ≤ a.step ∧ (s.pins.resetN.asserted = true ∨ s.host.mgmt ≠ .running))
      let valid (b : Bool) : Prop := (if b then s.cad.bank1.valid else s.cad.bank0.valid) = true
      let boots (u : State) (b : Bool) : Prop := u.host.fwUp = true ∧ u.cad.running = some b ∧ u.cad.preferred = b ∧ u.bit .dev DEV.STATUS.FW_BANK = b
        ∧ u.word .dev 0x030 = (if b then s.cad.bank1.version else s.cad.bank0.version)
        ∧ u.bit .cad CAD.FW_STATUS.FALLBACK = (b != s.cad.preferred) ∧ (b ≠ s.cad.preferred → (u.word .cad 0x00C).getLsbD 8 = true)
        -- after a warm reset it is WARM_RESET_DONE
        ∧ (1 ≤ s.rd .dev DEV.RESET_HISTORY.LAST_KIND → s.rd .dev DEV.RESET_HISTORY.LAST_KIND ≤ 4 → (u.word .dev 0x00C).getLsbD 6 = true)
      let bank : Bool := if (if s.cad.preferred then s.cad.bank1.valid else s.cad.bank0.valid) then s.cad.preferred else !s.cad.preferred
      let bootRegs : List (Page × Nat) := [(.dev, 0x00C), (.dev, 0x030), (.dev, 0x034), (.cad, 0x04C), (.cad, 0x00C), (.fbr, 0x020), (.fpw, 0x008), (.ftl, 0x008),
        (.frl, 0x008), (.fbr, 0x008)]
      let engs : List (Page × Nat) := (List.range 7).flatMap fun d => (State.diePages d).flatMap fun p => State.engineRegs p
      let mems : List (Page × Nat) := (List.range 1024).flatMap fun j => (Page.msc, j) :: (List.finRange 17).map fun c => (Page.mch c, j)
      let doms : List (Page × Nat) := (List.range 37).map fun n => (Page.tim, 0x030 + 4 * n)
      let failed : List (Fin 17) := (List.finRange 17).filter fun c => f.train.getD c.val 0 == 2 || (s.mem.spareGone && c == 16)
      -- a die that a trip holds off takes no part in the self-tests
      let works (d : Nat) : Prop := f.dies.getLsbD d = true ∧ (s.rd .tsn TSN.SHUTDOWN.OFF).testBit d = false
      (¬ready → nothing .startAttempt) ∧ (ready → chosen .startAttempt)
      ∧ (x.offWait = false ∨ s.fieldAwake = false → nothing .attemptOffTimer)
      ∧ (x.offWait = true → s.fieldAwake = true → x.thermalWait = true → Answers .attemptOffTimer s fun u =>
        u.start = { x with offWait := false } ∧ only u [.start])
      ∧ (x.offWait = true → s.fieldAwake = true → x.thermalWait = false → x.power = .off → chosen .attemptOffTimer)
      -- an attempt's steps
      ∧ (∀ a, had = some a → held a → nothing (.startStepDone f))
      ∧ (∀ a, had = some a → ¬held a → a.step ∉ [6, 7, 8, 9, 10, 11, 12, 13] → nothing (.startStepDone f))
      ∧ (∀ a, had = some a → ¬held a → a.step = 6 → s.field.bulk = false → nothing (.startStepDone f))
      ∧ (∀ a, had = some a → ¬held a → a.step = 6 → s.field.bulk = true → Answers (.startStepDone f) s fun u =>
        u.field.pub = { s.field.pub with
          conv := if State.workingPhases s.field.pub.phases < 22 then .currentLimit else .running, busV := 12000 } ∧ moves u a 7 ∧ only u [.start, .field, .hubEnd])
      ∧ (∀ a, had = some a → ¬held a → a.step = 7 → x.power = .off → s.pins.resetN.asserted = false → Answers (.startStepDone f) s fun u =>
        fresh u ∧ u.start.power = .all ∧ at' u 8 ∧ u.out = [])
      ∧ (∀ a, had = some a → ¬held a → a.step = 7 → x.power ≠ .off → s.pins.resetN.asserted = true → Answers (.startStepDone f) s fun u =>
        u.start = { x with power := .all, attempt := some { a with held := true } } ∧ only u [.start])
      ∧ (∀ a, had = some a → ¬held a → a.step = 8 →
        let met : Prop := s.hubEnd.up = true ∧ s.fieldEnd.up = true ∧ (s.qual false = true ∨ s.qual true = true)
        (¬met → nothing (.startStepDone f)) ∧ (met → Answers (.startStepDone f) s fun u => moves u a 9 ∧ only u [.start, .hubEnd]))
      ∧ (∀ a, had = some a → ¬held a → a.step = 9 → s.host.fwUp = true → Answers (.startStepDone f) s fun u => moves u a 10 ∧ only u [.start, .hubEnd])
      ∧ (∀ a, had = some a → ¬held a → a.step = 9 → s.host.fwUp = false → valid bank → Answers (.startStepDone f) s fun u =>
        boots u bank ∧ at' u 10 ∧ u.out = [] ∧ s.Frame u bootRegs (.start :: .hubEnd :: .host :: .cad :: State.eventParts))
      ∧ (∀ a, had = some a → ¬held a → a.step = 9 → s.host.fwUp = false → ¬valid false → ¬valid true → Answers (.startStepDone f) s fun u =>
        u.host.fwUp = false ∧ u.word .dev 0x030 = 0 ∧ tells u 2 2 9 ∧ u.start = x ∧ u.out = [] ∧ s.Frame u bootRegs [.hubEnd, .host, .cad])
      ∧ (∀ a, had = some a → ¬held a → a.step = 10 → ¬works 4 → reports (.startStepDone f) 4 10)
      ∧ (∀ a, had = some a → ¬held a → a.step = 10 → works 4 → (∀ d, d < 4 → ¬works d) →
        reports (.startStepDone f) 0x0B 10)
      ∧ (∀ a d, had = some a → ¬held a → a.step = 10 → works 4 → d < 4 → works d → Answers (.startStepDone f) s fun u =>
        at' u 11 ∧ (∀ e, e < 7 → works e → u.start.diesUp.testBit e = true)
        ∧ (∀ e, e < 7 → ¬works e → u.start.diesUp.testBit e = x.diesUp.testBit e) ∧ u.out = []
        ∧ (∀ q i, (s.cad.ledger.all fun r => decide (r.unit * 0x1000 ≠ q.base)) = true → i < 0x1000 → q ≠ .log → (q, i) ∉ engs → u.word q i = s.word q i))
      -- the channels train, all but a retired MC16; the domains of the dies that are up start their ramps, or coast
      ∧ (∀ a, had = some a → ¬held a → a.step = 11 → 2 ≤ failed.length → Answers (.startStepDone f) s fun u =>
        tells u 2 3 11 ∧ u.start = x
        ∧ (∀ c : Fin 17, s.mem.spareGone = false ∨ c.val < 16 → u.rd (.mch c) MCH.CH_STATUS.TRAIN_RESULT = (if f.train.getD c.val 0 = 2 then 2 else 1))
        ∧ u.out = [] ∧ s.Frame u mems (.hubEnd :: State.eventParts))
      ∧ (∀ a, had = some a → ¬held a → a.step = 11 → (∀ c, c < 17 → f.train.getD c 0 = 0) → s.mem.repairDevs = [] → s.mem.repairRows = [] →
        (∀ c : Fin 17, s.bit (.mch c) MCH.CH_STATUS.FAIL_A = false ∧ s.bit (.mch c) MCH.CH_STATUS.FAIL_B = false) →
        (∀ n, n < 37 → x.diesUp.testBit (State.domDie n) = true → s.loopInput n ≠ none) → Answers (.startStepDone f) s fun u =>
        at' u 12 ∧ (∀ c : Fin 17, c.val < 16 → u.rd (.mch c) MCH.CH_STATUS.STATE = 2 ∧ u.rd (.mch c) MCH.CH_STATUS.LOGICAL = c.val
          ∧ (u.rd .msc MSC.MEM_STATUS.IN_SVC).testBit c.val = true)
        ∧ (s.mem.spareGone = false → u.rd (.mch 16) MCH.CH_STATUS.STATE = 5) ∧ u.enabled .msc = s.enabled .msc ∧ u.out = []
        ∧ (∀ n i, n < 37 → x.diesUp.testBit (State.domDie n) = true → s.loopInput n = some i →
            u.dom n TIM.DOMn.STATE = 2 ∧ u.dom n TIM.DOMn.RAMP = 0 ∧ u.dom n TIM.DOMn.SRC_NOW = i.toNat)
        ∧ (∀ n, n < 37 → x.diesUp.testBit (State.domDie n) = false → u.word .tim (0x030 + 4 * n) = s.word .tim (0x030 + 4 * n))
        ∧ s.Frame u (mems ++ doms) (.start :: .hubEnd :: .mem :: .cad :: State.eventParts))
      ∧ (∀ a, had = some a → ¬held a → a.step = 11 → failed.length < 2 → Answers (.startStepDone f) s fun u =>
        at' u 12 ∧ u.out = [] ∧ (∀ n, n < 37 → x.diesUp.testBit (State.domDie n) = true → s.loopInput n = none →
          u.dom n TIM.DOMn.STATE = 4 ∧ u.dom n TIM.DOMn.COAST = 1 ∧ u.dom n TIM.DOMn.SRC_NOW = 3 ∧ (u.word .tim 0x00C).getLsbD 3 = true))
      ∧ (∀ a, had = some a → ¬held a → a.step = 12 → Answers (.startStepDone f) s fun u =>
        at' u 13 ∧ u.start.datapath = true
        ∧ (∀ n, n < 37 → (s.dom n TIM.DOMn.STATE = 2 → u.dom n TIM.DOMn.STATE = 3 ∧ u.dom n TIM.DOMn.RAMP = 15 ∧ u.dom n TIM.DOMn.SRC_NOW = s.dom n TIM.DOMn.SRC_NOW)
            ∧ (s.dom n TIM.DOMn.STATE ≠ 2 → u.word .tim (0x030 + 4 * n) = s.word .tim (0x030 + 4 * n)))
        ∧ (∀ g, g < 5 → x.diesUp.testBit g = true → s.gov g VSQ.GOV_LD0.LIMIT = 0 → u.gov g VSQ.GOV_LD0.LIMIT = 12)
        ∧ (∀ g, g < 5 → x.diesUp.testBit g = false ∨ s.gov g VSQ.GOV_LD0.LIMIT ≠ 0 → u.gov g VSQ.GOV_LD0.LIMIT = s.gov g VSQ.GOV_LD0.LIMIT)
        ∧ u.out = [] ∧ s.Frame u ([(.vsq, 0x00C), (.vsq, 0x024), (.vsq, 0x028), (.vsq, 0x02C), (.vsq, 0x030), (.vsq, 0x034), (.vsq, 0x038)]
            ++ doms) (.start :: .hubEnd :: .clock :: State.eventParts))
      ∧ (∀ a, had = some a → ¬held a → a.step = 13 → Answers (.startStepDone f) s fun u => moves u a 14 ∧ only u [.start, .hubEnd])
      -- in kettle mode the management firmware boots
      ∧ (had = none → x.kettle = false ∨ s.host.fwUp = true ∨ s.host.mgmt ≠ .running ∨ s.host.window = true → nothing (.startStepDone f))
      ∧ (had = none → x.kettle = true → s.host.fwUp = false → s.host.mgmt = .running → s.host.window = false → valid bank → Answers (.startStepDone f) s fun u =>
        boots u bank ∧ u.start = x ∧ u.out = [] ∧ s.Frame u bootRegs (.host :: .cad :: State.eventParts))
      -- a step takes too long
      ∧ (had = none → nothing .startStepTimeout ∧ nothing .startWatchdogExpiry)
      ∧ (∀ a, had = some a → a.held = true ∨ s.imageGap = true ∨ (7 ≤ a.step ∧ s.pins.resetN.asserted = true) → nothing .startStepTimeout)
      ∧ (∀ a, had = some a → ¬(a.held = true ∨ s.imageGap = true ∨ (7 ≤ a.step ∧ s.pins.resetN.asserted = true)) →
        (a.step = 6 ∨ a.step = 7 → charged .startStepTimeout a 7)
        ∧ (a.step = 8 → s.hubEnd.up = false ∨ s.fieldEnd.up = false → charged .startStepTimeout a 9)
        ∧ (a.step = 8 → s.hubEnd.up = true → s.fieldEnd.up = true → s.qual false = false → s.qual true = false → reports .startStepTimeout 6 8)
        ∧ (a.step = 9 → s.host.fwUp = false → reports .startStepTimeout (if s.cad.bank0.valid = false ∧ s.cad.bank1.valid = false then 2 else 1) 9)
        ∧ (a.step = 10 → reports .startStepTimeout 4 10) ∧ (a.step = 11 → reports .startStepTimeout 3 11))
      ∧ (s.pins.resetN.asserted = true ∨ s.imageGap = true → nothing .startWatchdogExpiry)
      ∧ (∀ a, had = some a → s.pins.resetN.asserted = false → s.imageGap = false → charged .startWatchdogExpiry a 5)
      -- the kettle set has 5 s
      ∧ (let late : Prop := x.kettle = true ∧ had = none ∧ s.imageGap = false ∧ ¬(s.hubEnd.up = true ∧ s.fieldEnd.up = true ∧ s.host.mgmt = .running)
        (¬late → nothing .deepKettleTimeout)
        ∧ (late → Answers .deepKettleTimeout s fun u => deep u ∧ s.Frame u [] [.start, .field, .host, .hubEnd, .fieldEnd])))
  ∧ (∀ (s : State) (v : Word) (i : CtlInput),
      let only (u : State) (parts : List StatePart) : Prop := u.out = [] ∧ s.Frame u [] parts
      let nothing (c : Instr) : Prop := Answers c s fun u => only u []
      let ev (u : State) (p : Page) (b : Nat) : Prop := (u.word p 0x00C).getLsbD b = true
      let powered : Prop := s.start.power ≠ .off
      let held : Prop := s.pins.resetN.asserted = true
      let had := s.start.attempt
      -- a warm reset: sessions, SCRATCH and INT_N go; the hub restarts its end of the link, on which only a PROOF_CHECK not yet delivered
      -- goes again; all that carries traffic stays
      let anew : BEnd := ((State.undelivered s.hubEnd s.fieldEnd.rxSeq).filter State.isCheck).foldl State.sendFrom (State.BEnd.start s.hubEnd)
      let warm (u : State) (kind : Nat) : Prop :=
        u.role = 0 ∧ u.bit .ses SES.SES_STATUS.NONCE_VALID = false ∧ u.bit .ses SES.SES_STATUS.PROOF_PENDING = false ∧ u.ses.proof = [] ∧ u.ses.nonce = 0
        ∧ u.ses.discard = (s.ses.discard || s.bit .ses SES.SES_STATUS.PROOF_PENDING)
        ∧ u.word .dev 0x05C = 0 ∧ u.bit .dev DEV.DEV_CTRL.INT_N_ENABLE = false ∧ u.word .dev 0x030 = 0
        ∧ u.rd .dev DEV.RESET_HISTORY.WARM_COUNT = min (s.rd .dev DEV.RESET_HISTORY.WARM_COUNT + 1) 255 ∧ u.rd .dev DEV.RESET_HISTORY.LAST_KIND = kind
        ∧ u.host.window = true ∧ u.host.fwUp = false ∧ u.host.held = []
        ∧ (s.start.attempt = none → u.hubEnd = anew)
        ∧ u.mirror = { s.mirror with needStatus := true, needTelem := true, pending := [] } ∧ u.field.fullOwed = true
        ∧ u.sense = { s.sense with slotSeqs := [] } ∧ u.bit .fbr FBR.LINK_STATUS.STALE = true
        ∧ (kind = 2 → u.host.msixEnable = false ∧ u.host.functionMask = false ∧ u.host.msix = [] ∧ u.host.bars = [])
        ∧ (kind ≠ 2 → u.host.msix = s.host.msix ∧ u.host.bars = s.host.bars) ∧ u.host.pba = s.host.pba
      let warmRegs : List (Page × Nat) := [(.dev, 0x058), (.dev, 0x05C), (.dev, 0x04C), (.dev, 0x030), (.dev, 0x034), (.ses, 0x00C), (.ses, 0x020), (.ses, 0x028),
        (.ses, 0x02C), (.fbr, 0x020), (.fbr, 0x034), (.fpw, 0x008), (.ftl, 0x008), (.frl, 0x008), (.fbr, 0x008)]
      let warmParts : List StatePart := .ses :: .host :: .hubEnd :: .mirror :: .field :: .sense :: State.eventParts
      let go : Prop := DEV.DEV_CTRL.WARM_RESET.get v = 1 ∧ DEV.DEV_CTRL.CONFIRM.get v = 0x5752
      (s.accepts .dev 0x04C = true → ¬go → Answers (.warmReset v) s fun u =>
        u.rd .dev DEV.DEV_CTRL.INT_N_ENABLE = DEV.DEV_CTRL.INT_N_ENABLE.get v ∧ u.out = [] ∧ s.touch.Frame u [(.dev, 0x04C)] [])
      ∧ (s.accepts .dev 0x04C = true → go → Answers (.warmReset v) s fun u => warm u 1 ∧ u.out = [] ∧ s.touch.Frame u warmRegs warmParts)
      ∧ (s.linkUp = false → nothing .functionLevelReset)
      ∧ (s.linkUp = true → s.host.mgmt = .changing → Answers .functionLevelReset s fun u =>
        u.host = { s.host with held := s.host.held ++ [.flr] } ∧ u.out = [.held] ∧ s.Frame u [] [.host])
      ∧ (s.linkUp = true → s.host.mgmt ≠ .changing → Answers .functionLevelReset s fun u => warm u 2 ∧ u.out = [] ∧ s.Frame u warmRegs warmParts)
      ∧ (let armed : Prop := s.hubAlive = true ∧ s.host.mgmt = .running ∧ s.host.fwUp = true
        (¬armed → nothing .mgmtWatchdogExpiry)
        ∧ (armed → Answers .mgmtWatchdogExpiry s fun u => warm u 4 ∧ u.start = s.start
          ∧ (∀ a, had = some a → u.hubEnd = State.sendFrom anew (.startResult 2 5 (s.rd .dev DEV.STATUS.SVC_LEVEL) a.step))
          ∧ u.out = [] ∧ s.Frame u warmRegs warmParts))
      ∧ (s.host.window = false → nothing .warmResetEnd)
      ∧ (s.host.window = true → Answers .warmResetEnd s fun u => u.host = { s.host with window := false } ∧ u.out = [] ∧ s.Frame u warmRegs [.host])
      ∧ (let kind := s.rd .dev DEV.RESET_HISTORY.LAST_KIND
        let due : Prop := s.host.window = false ∧ s.host.fwUp = false ∧ s.host.mgmt = .running ∧ s.hubAlive = true ∧ 1 ≤ kind ∧ kind ≤ 4
        (¬due → nothing .warmResetDone)
        ∧ (due → s.cad.bank0.valid = true ∨ s.cad.bank1.valid = true → Answers .warmResetDone s fun u =>
          u.host.fwUp = true ∧ ev u .dev 6
          ∧ u.cad.running = some (if (if s.cad.preferred then s.cad.bank1.valid else s.cad.bank0.valid) then s.cad.preferred else !s.cad.preferred)
          ∧ u.out = [] ∧ s.Frame u ([(.dev, 0x00C), (.cad, 0x04C), (.cad, 0x00C)] ++ warmRegs) (.host :: .cad :: State.eventParts)))
      -- control inputs: a change acts unless CHATTER has frozen it, and the hub reports it
      ∧ (let pin := s.pin i
        let reports (u : State) : Prop := u.hubEnd = (if s.start.power = .off then s.hubEnd else
            State.sendFrom s.hubEnd (.startResult 0 u.inputFlags (s.rd .dev DEV.STATUS.SVC_LEVEL) 0x10))
        let others (u : State) : Prop := ∀ j, j ≠ i → u.pin j = s.pin j
        (∀ c b, (c, i, b) ∈ [(Instr.inhibitTxAssert, CtlInput.inhibitTxN, true), (.inhibitTxRelease, .inhibitTxN, false), (.quiesceAssert, .quiesceN, true),
            (.quiesceRelease, .quiesceN, false), (.forceStartAssert, .forceStartN, true), (.resetNAssert, .resetN, true), (.resetNRelease, .resetN, false)] →
          pin.chatter = true ∨ pin.asserted = b → nothing c)
        ∧ (∀ c b, (c, b) ∈ [(Instr.inhibitTxAssert, true), (.inhibitTxRelease, false)] → i = .inhibitTxN → pin.chatter = false → pin.asserted ≠ b →
          Answers c s fun u =>
            u.pin i = { pin with asserted := b, held := if b then pin.held else false } ∧ others u ∧ reports u
            ∧ (s.hubAlive = true → ∀ k, ev u (.txo k) 3) ∧ u.out = []
            ∧ s.Frame u ((List.finRange 16).map fun k => (.txo k, 0x00C)) (.pins :: .hubEnd :: State.eventParts))
        ∧ (∀ c b, (c, b) ∈ [(Instr.quiesceAssert, true), (.quiesceRelease, false)] → i = .quiesceN → pin.chatter = false → pin.asserted ≠ b →
          Answers c s fun u =>
            u.pin i = { pin with asserted := b, held := if b then pin.held else false } ∧ others u ∧ reports u ∧ only u [.pins, .hubEnd])
        -- FORCE_START_N, within 10 s of the link coming up at a power-on start in kettle mode
        ∧ (let acts : Prop := s.start.forceWindow = true ∧ s.start.kettle = true ∧ had = none ∧ s.hubEnd.up = true
              ∧ ∃ t, s.start.forceSince = some t ∧ s.tele.now < t + 10000000000
          i = .forceStartN → pin.chatter = false → pin.asserted = false →
          (¬acts → Answers .forceStartAssert s fun u => u.pin i = { pin with asserted := true } ∧ others u ∧ reports u ∧ only u [.pins, .hubEnd])
          ∧ (acts → Answers .forceStartAssert s fun u => u.pin i = { pin with asserted := true } ∧ others u ∧ reports u ∧ u.attemptsWord = 1
            ∧ u.rd .dev DEV.RESET_HISTORY.LAST_KIND = 0 ∧ u.start.kettle = false
            ∧ (∃ a, u.start.attempt = some a ∧ a.step = 7 ∧ a.fromKettle = true ∧ a.counterBefore = 0) ∧ u.out = []
            ∧ s.Frame u [(.dev, 0x058)] [.pins, .hubEnd, .start, .field]))
        -- CHATTER and INPUT_HELD
        ∧ (s.start.power = .off ∨ pin.chatter = true → nothing (.inputChatter i))
        ∧ (powered → pin.chatter = false → Answers (.inputChatter i) s fun u =>
          u.pin i = { pin with chatter := true } ∧ others u ∧ reports u ∧ u.out = [] ∧ s.Frame u [] (.pins :: .hubEnd :: State.eventParts))
        ∧ (s.start.power = .off ∨ pin.asserted = false ∨ pin.held = true → nothing (.inputHeld i))
        ∧ (powered → pin.asserted = true → pin.held = false → Answers (.inputHeld i) s fun u =>
          u.pin i = { pin with held := true } ∧ others u ∧ reports u ∧ u.out = [] ∧ s.Frame u [] (.pins :: .hubEnd :: State.eventParts))
        ∧ (pin.chatter = false → nothing (.inputChatterEnd i))
        ∧ (pin.chatter = true → Answers (.inputChatterEnd i) s fun u => u.pin i = { pin with chatter := false } ∧ others u ∧ reports u ∧ only u [.pins, .hubEnd]))
      -- RESET_N holds the host-side dies: an attempt past step 7 is abandoned uncharged; LOG, RWS fields and device time stay
      ∧ (let free : Prop := s.pins.resetN.chatter = false
        (free → ¬held → powered → Answers .resetNAssert s fun u =>
          u.pins.resetN.asserted = true ∧ u.time = s.time ∧ u.start.power = s.start.power ∧ u.start.diesUp = 0 ∧ u.start.datapath = false
          ∧ u.host.mgmt = .off ∧ u.host.fwUp = false ∧ u.cars = [] ∧ u.role = 0 ∧ u.rd .dev DEV.RESET_HISTORY.LAST_KIND = 5
          ∧ u.rd .dev DEV.RESET_HISTORY.WARM_COUNT = s.rd .dev DEV.RESET_HISTORY.WARM_COUNT
          ∧ (∀ a, had = some a → 8 ≤ a.step → a.counterBefore ≤ 255 → u.start.attempt = none ∧ u.attemptsWord = a.counterBefore ∧ u.causeWord = a.causeBefore)
          ∧ (∀ a, had = some a → a.step < 8 → u.start.attempt = some a)
          ∧ u.word .dev 0x05C = 0 ∧ u.word .ses 0x040 = s.word .ses 0x040 ∧ u.word .ses 0x044 = s.word .ses 0x044 ∧ u.word .dev 0x054 = s.word .dev 0x054
          ∧ u.cad.ledger = s.cad.ledger ∧ u.cad.bank0 = s.cad.bank0 ∧ u.mem.repairRows = s.mem.repairRows ∧ u.out = [])
        ∧ (free → ¬held → ¬powered → Answers .resetNAssert s fun u => u.pins.resetN.asserted = true ∧ only u [.pins])
        -- its release: the hub restarts its end of the link; the start held at step 7 goes on, or an attempt begins with the rails good
        ∧ (free → held → ¬powered → Answers .resetNRelease s fun u => u.pins.resetN.asserted = false ∧ only u [.pins])
        ∧ (free → held → powered → s.host.perstOwed = false → Answers .resetNRelease s fun u =>
          u.pins.resetN = { s.pins.resetN with asserted := false, held := false } ∧ u.hubEnd.txSeq ≤ 2 ∧ u.hubEnd.rxSeq = 0 ∧ u.hubEnd.up = s.hubEnd.up
          ∧ u.hubEnd.restartLeft = 3 ∧ u.mirror.needStatus = true ∧ u.mirror.needTelem = true ∧ u.field.fullOwed = true
          ∧ (∀ a, had = some a → a.held = true → u.start.attempt = some { a with step := 8, held := false })
          ∧ (had = none → s.start.power = .all → (∃ a, u.start.attempt = some a ∧ a.step = 7 ∧ a.fromReset = true ∧ a.counterBefore = s.attemptsWord)
              ∧ u.attemptsWord = min (s.attemptsWord + 1) 255)
          ∧ (had = none → s.start.power = .kettleSet → u.start = s.start) ∧ u.time = s.time ∧ u.out = []))
      -- PERST_N: the link goes down; its release is a warm reset of kind 2, owed until the release of RESET_N while that holds the host side
      ∧ Answers .perstNAssert s (fun u =>
          u.host = { s.host with perst := true, msixEnable := false, functionMask := false, msix := [], bars := [], held := [] } ∧ u.linkUp = false
          ∧ only u [.host])
      ∧ (s.host.perst = false → nothing .perstNRelease)
      ∧ (s.host.perst = true → powered → held → Answers .perstNRelease s fun u =>
        u.host = { s.host with perst := false, perstOwed := true } ∧ only u [.host])
      ∧ (s.host.perst = true → ¬powered → Answers .perstNRelease s fun u => u.host = { s.host with perst := false } ∧ only u [.host])
      ∧ (s.host.perst = true → powered → ¬held → s.host.mgmt = .running → Answers .perstNRelease s fun u =>
        warm u 2 ∧ u.host.perst = false ∧ u.out = [] ∧ s.Frame u warmRegs warmParts)
      ∧ (s.host.perst = true → powered → ¬held → s.host.mgmt ≠ .running → Answers .perstNRelease s fun u =>
        u.host = { s.host with perst := false } ∧ only u [.host]))

end
end

