-- ==== Sys2Proof/Laws/Bits.lean ====
section
/-! SUPPORT. The laws of word fields: a field read after it was written, and after another field was written. -/
namespace Sys2Proof

theorem extract_putBits_same (x : Word) (lo w n : Nat) (h : lo + w ≤ 32) :
    (putBits x lo w n).extractLsb' lo w = BitVec.ofNat w n := by
  apply BitVec.eq_of_getLsbD_eq
  intro i hi
  have h1 : lo + i < 32 := by omega
  have h2 : ¬ lo + i < lo := by omega
  simp [putBits, hi, h1, h2]

/-- A field reads what was written, cut to its width. -/
theorem getBits_putBits_same (x : Word) (lo w n : Nat) (h : lo + w ≤ 32) :
    getBits (putBits x lo w n) lo w = n % 2 ^ w := by
  rw [getBits, extract_putBits_same x lo w n h]
  simp

/-- A field keeps its value when a field that shares no bit with it is written. -/
theorem getBits_putBits_ne (x : Word) (lo w lo' w' n : Nat) (h : lo + w ≤ lo' ∨ lo' + w' ≤ lo) :
    getBits (putBits x lo w n) lo' w' = getBits x lo' w' := by
  unfold getBits
  congr 1
  apply BitVec.eq_of_getLsbD_eq
  intro i hi
  by_cases h32 : lo' + i < 32
  · have h3 : lo' + i < lo ∨ lo + w ≤ lo' + i := by omega
    rcases h3 with h3 | h3
    · simp [putBits, hi, h32, h3]
    · have h4 : ¬ lo' + i < lo := by omega
      have h5 : ¬ lo' + i - lo < w := by omega
      have h6 : (BitVec.ofNat w n).getLsbD (lo' + i - lo) = false := BitVec.getLsbD_of_ge _ _ (by omega)
      simp [putBits, hi, h32, h4, h5, h6]
  · rw [BitVec.getLsbD_extractLsb', BitVec.getLsbD_extractLsb', BitVec.getLsbD_of_ge _ _ (by omega),
      BitVec.getLsbD_of_ge x _ (by omega)]

theorem Fld.get_put_same (f : Fld) (x : Word) (n : Nat) (h : f.lo + f.w ≤ 32) :
    f.get (f.put x n) = n % 2 ^ f.w := getBits_putBits_same x f.lo f.w n h

theorem Fld.get_put_ne (f g : Fld) (x : Word) (n : Nat) (h : f.lo + f.w ≤ g.lo ∨ g.lo + g.w ≤ f.lo) :
    g.get (f.put x n) = g.get x := getBits_putBits_ne x f.lo f.w g.lo g.w n h

end Sys2Proof
end

