-- ==== Sys2Proof/Laws/Map.lean ====
section
/-! SUPPORT. The laws of sparse maps: read after write, and that a write keeps the canonical form. -/
namespace Sys2Proof.SMap

variable {α : Type}

@[simp] theorem get_nil (d : Nat → α) (k : Nat) : SMap.get [] d k = d k := rfl

theorem get_cons (a : Nat) (v : α) (r : SMap α) (d : Nat → α) (k : Nat) :
    SMap.get ((a, v) :: r) d k = if a = k then v else SMap.get r d k := rfl

/-- Erasing a key gives it its default. -/
theorem get_erase_same (m : SMap α) (d : Nat → α) (k : Nat) : SMap.get (SMap.erase m k) d k = d k := by
  induction m with
  | nil => rfl
  | cons p r ih =>
    obtain ⟨a, v⟩ := p
    by_cases h : a = k
    · simp [SMap.erase, h, ih]
    · simp [SMap.erase, h, SMap.get, ih]

/-- Erasing a key leaves every other key. -/
theorem get_erase_ne (m : SMap α) (d : Nat → α) (k j : Nat) (hj : j ≠ k) :
    SMap.get (SMap.erase m k) d j = SMap.get m d j := by
  induction m with
  | nil => rfl
  | cons p r ih =>
    obtain ⟨a, v⟩ := p
    by_cases h : a = k
    · have h2 : a ≠ j := fun e => hj (e.symm.trans h)
      simp [SMap.erase, h, SMap.get, ih]
      intro e; exact absurd e.symm hj
    · simp [SMap.erase, h, SMap.get, ih]

theorem get_insert_ne (m : SMap α) (d : Nat → α) (k j : Nat) (v : α) (hj : j ≠ k) :
    SMap.get (SMap.insert m k v) d j = SMap.get m d j := by
  induction m with
  | nil => simp [SMap.insert, SMap.get, Ne.symm hj]
  | cons p r ih =>
    obtain ⟨a, w⟩ := p
    by_cases h : k < a
    · simp [SMap.insert, h, SMap.get, Ne.symm hj]
    · simp [SMap.insert, h, SMap.get, ih]

theorem get_insert_erase_same (m : SMap α) (d : Nat → α) (k : Nat) (v : α) :
    SMap.get (SMap.insert (SMap.erase m k) k v) d k = v := by
  induction m with
  | nil => simp [SMap.erase, SMap.insert, SMap.get]
  | cons p r ih =>
    obtain ⟨a, w⟩ := p
    by_cases h : a = k
    · simpa [SMap.erase, h] using ih
    · simp only [SMap.erase, h, if_false]
      by_cases h2 : k < a
      · simp [SMap.insert, h2, SMap.get]
      · simp [SMap.insert, h2, SMap.get, h, ih]

section
variable [DecidableEq α]

/-- A read after a write of the same key gives the value written. -/
@[simp] theorem get_set_same (m : SMap α) (d : Nat → α) (k : Nat) (v : α) :
    SMap.get (SMap.set m d k v) d k = v := by
  unfold SMap.set
  split
  · rename_i h; rw [get_erase_same, h]
  · exact get_insert_erase_same m d k v

/-- A write of one key leaves every other key. -/
theorem get_set_ne (m : SMap α) (d : Nat → α) (k j : Nat) (v : α) (h : j ≠ k) :
    SMap.get (SMap.set m d k v) d j = SMap.get m d j := by
  unfold SMap.set
  split
  · exact get_erase_ne m d k j h
  · rw [get_insert_ne _ _ _ _ _ h, get_erase_ne _ _ _ _ h]

/-- Read after write, both cases. -/
theorem get_set (m : SMap α) (d : Nat → α) (k j : Nat) (v : α) :
    SMap.get (SMap.set m d k v) d j = if j = k then v else SMap.get m d j := by
  split
  · rename_i h; subst h; exact get_set_same m d j v
  · rename_i h; exact get_set_ne m d k j v h

theorem wfFrom_mono (d : Nat → α) (m : SMap α) (lo lo' : Nat) (h : lo' ≤ lo) (hw : SMap.wfFrom d m lo = true) :
    SMap.wfFrom d m lo' = true := by
  cases m with
  | nil => rfl
  | cons p r =>
    obtain ⟨a, v⟩ := p
    simp [SMap.wfFrom] at hw ⊢
    exact ⟨⟨Nat.le_trans h hw.1.1, hw.1.2⟩, hw.2⟩

theorem wfFrom_erase (d : Nat → α) (m : SMap α) (k lo : Nat) (hw : SMap.wfFrom d m lo = true) :
    SMap.wfFrom d (SMap.erase m k) lo = true := by
  induction m generalizing lo with
  | nil => rfl
  | cons p r ih =>
    obtain ⟨a, v⟩ := p
    simp [SMap.wfFrom] at hw
    by_cases h : a = k
    · simp only [SMap.erase, h, if_true]
      exact ih lo (wfFrom_mono d r (a + 1) lo (by omega) hw.2)
    · simp only [SMap.erase, h, if_false]
      simp [SMap.wfFrom, hw.1, ih (a + 1) hw.2]

theorem wfFrom_insert (d : Nat → α) (m : SMap α) (k lo : Nat) (v : α) (hv : v ≠ d k) (hlo : lo ≤ k)
    (hk : ∀ p ∈ m, p.1 ≠ k) (hw : SMap.wfFrom d m lo = true) : SMap.wfFrom d (SMap.insert m k v) lo = true := by
  induction m generalizing lo with
  | nil => simp [SMap.insert, SMap.wfFrom, hv, hlo]
  | cons p r ih =>
    obtain ⟨a, w⟩ := p
    have hak : a ≠ k := hk (a, w) (by simp)
    simp [SMap.wfFrom] at hw
    by_cases h : k < a
    · simp only [SMap.insert, h, if_true]
      simp [SMap.wfFrom, hv, hlo, hw.1.2, hw.2]
      omega
    · simp only [SMap.insert, h, if_false]
      have := ih (a + 1) (by omega) (fun p hp => hk p (List.mem_cons_of_mem _ hp)) hw.2
      simp [SMap.wfFrom, hw.1, this]

omit [DecidableEq α] in
theorem not_mem_erase (m : SMap α) (k : Nat) : ∀ p ∈ SMap.erase m k, p.1 ≠ k := by
  induction m with
  | nil => intro p hp; cases hp
  | cons q r ih =>
    obtain ⟨a, v⟩ := q
    intro p hp
    by_cases h : a = k
    · simp only [SMap.erase, h, if_true] at hp; exact ih p hp
    · simp only [SMap.erase, h, if_false] at hp
      rcases List.mem_cons.1 hp with rfl | hp
      · exact h
      · exact ih p hp

/-- A write keeps the canonical form. -/
theorem wf_set (m : SMap α) (d : Nat → α) (k : Nat) (v : α) (hw : SMap.wf d m = true) :
    SMap.wf d (SMap.set m d k v) = true := by
  unfold SMap.wf SMap.set at *
  split
  · exact wfFrom_erase d m k 0 hw
  · rename_i hv
    exact wfFrom_insert d _ k 0 v hv (Nat.zero_le k) (not_mem_erase m k) (wfFrom_erase d m k 0 hw)

end

end Sys2Proof.SMap
end

