-- ==== Sys2Proof/Laws/State.lean ====
section
/-! SUPPORT. Each update of the state leaves the parts it does not name: one lemma for each part and update, by rfl. -/
namespace Sys2Proof.Machine

namespace State

section
variable (s : State)

@[simp] theorem with_regs_pending (x : SMap Word) : ({ s with regs := x } : State).pending = s.pending := id rfl
@[simp] theorem with_regs_out (x : SMap Word) : ({ s with regs := x } : State).out = s.out := id rfl
@[simp] theorem with_regs_fresh (x : SMap Word) : ({ s with regs := x } : State).fresh = s.fresh := id rfl
@[simp] theorem with_regs_part (x : SMap Word) : ({ s with regs := x } : State).part = s.part := id rfl
@[simp] theorem with_regs_time (x : SMap Word) : ({ s with regs := x } : State).time = s.time := id rfl
@[simp] theorem with_regs_damage (x : SMap Word) : ({ s with regs := x } : State).damage = s.damage := id rfl
@[simp] theorem with_regs_ctr (x : SMap Word) : ({ s with regs := x } : State).ctr = s.ctr := id rfl
@[simp] theorem with_regs_host (x : SMap Word) : ({ s with regs := x } : State).host = s.host := id rfl
@[simp] theorem with_regs_ses (x : SMap Word) : ({ s with regs := x } : State).ses = s.ses := id rfl
@[simp] theorem with_regs_logRing (x : SMap Word) : ({ s with regs := x } : State).logRing = s.logRing := id rfl
@[simp] theorem with_regs_hubEnd (x : SMap Word) : ({ s with regs := x } : State).hubEnd = s.hubEnd := id rfl
@[simp] theorem with_regs_fieldEnd (x : SMap Word) : ({ s with regs := x } : State).fieldEnd = s.fieldEnd := id rfl
@[simp] theorem with_regs_mirror (x : SMap Word) : ({ s with regs := x } : State).mirror = s.mirror := id rfl
@[simp] theorem with_regs_field (x : SMap Word) : ({ s with regs := x } : State).field = s.field := id rfl
@[simp] theorem with_regs_start (x : SMap Word) : ({ s with regs := x } : State).start = s.start := id rfl
@[simp] theorem with_regs_pins (x : SMap Word) : ({ s with regs := x } : State).pins = s.pins := id rfl
@[simp] theorem with_regs_cars (x : SMap Word) : ({ s with regs := x } : State).cars = s.cars := id rfl
@[simp] theorem with_regs_tm (x : SMap Word) : ({ s with regs := x } : State).tm = s.tm := id rfl
@[simp] theorem with_regs_cad (x : SMap Word) : ({ s with regs := x } : State).cad = s.cad := id rfl
@[simp] theorem with_regs_mem (x : SMap Word) : ({ s with regs := x } : State).mem = s.mem := id rfl
@[simp] theorem with_regs_lanes (x : SMap Word) : ({ s with regs := x } : State).lanes = s.lanes := id rfl
@[simp] theorem with_regs_sense (x : SMap Word) : ({ s with regs := x } : State).sense = s.sense := id rfl
@[simp] theorem with_regs_tele (x : SMap Word) : ({ s with regs := x } : State).tele = s.tele := id rfl
@[simp] theorem with_regs_rail (x : SMap Word) : ({ s with regs := x } : State).rail = s.rail := id rfl
@[simp] theorem with_regs_clock (x : SMap Word) : ({ s with regs := x } : State).clock = s.clock := id rfl

@[simp] theorem with_out_pending (x : List Output) : ({ s with out := x } : State).pending = s.pending := id rfl
@[simp] theorem with_out_fresh (x : List Output) : ({ s with out := x } : State).fresh = s.fresh := id rfl
@[simp] theorem with_out_part (x : List Output) : ({ s with out := x } : State).part = s.part := id rfl
@[simp] theorem with_out_time (x : List Output) : ({ s with out := x } : State).time = s.time := id rfl
@[simp] theorem with_out_regs (x : List Output) : ({ s with out := x } : State).regs = s.regs := id rfl
@[simp] theorem with_out_damage (x : List Output) : ({ s with out := x } : State).damage = s.damage := id rfl
@[simp] theorem with_out_ctr (x : List Output) : ({ s with out := x } : State).ctr = s.ctr := id rfl
@[simp] theorem with_out_host (x : List Output) : ({ s with out := x } : State).host = s.host := id rfl
@[simp] theorem with_out_ses (x : List Output) : ({ s with out := x } : State).ses = s.ses := id rfl
@[simp] theorem with_out_logRing (x : List Output) : ({ s with out := x } : State).logRing = s.logRing := id rfl
@[simp] theorem with_out_hubEnd (x : List Output) : ({ s with out := x } : State).hubEnd = s.hubEnd := id rfl
@[simp] theorem with_out_fieldEnd (x : List Output) : ({ s with out := x } : State).fieldEnd = s.fieldEnd := id rfl
@[simp] theorem with_out_mirror (x : List Output) : ({ s with out := x } : State).mirror = s.mirror := id rfl
@[simp] theorem with_out_field (x : List Output) : ({ s with out := x } : State).field = s.field := id rfl
@[simp] theorem with_out_start (x : List Output) : ({ s with out := x } : State).start = s.start := id rfl
@[simp] theorem with_out_pins (x : List Output) : ({ s with out := x } : State).pins = s.pins := id rfl
@[simp] theorem with_out_cars (x : List Output) : ({ s with out := x } : State).cars = s.cars := id rfl
@[simp] theorem with_out_tm (x : List Output) : ({ s with out := x } : State).tm = s.tm := id rfl
@[simp] theorem with_out_cad (x : List Output) : ({ s with out := x } : State).cad = s.cad := id rfl
@[simp] theorem with_out_mem (x : List Output) : ({ s with out := x } : State).mem = s.mem := id rfl
@[simp] theorem with_out_lanes (x : List Output) : ({ s with out := x } : State).lanes = s.lanes := id rfl
@[simp] theorem with_out_sense (x : List Output) : ({ s with out := x } : State).sense = s.sense := id rfl
@[simp] theorem with_out_tele (x : List Output) : ({ s with out := x } : State).tele = s.tele := id rfl
@[simp] theorem with_out_rail (x : List Output) : ({ s with out := x } : State).rail = s.rail := id rfl
@[simp] theorem with_out_clock (x : List Output) : ({ s with out := x } : State).clock = s.clock := id rfl
@[simp] theorem with_out_word (x : List Output) (pq : Page) (oq : Nat) : ({ s with out := x } : State).word pq oq = s.word pq oq := id rfl
@[simp] theorem with_out_rd (x : List Output) (pq : Page) (gq : Fld) : ({ s with out := x } : State).rd pq gq = s.rd pq gq := id rfl
@[simp] theorem with_out_rdI (x : List Output) (pq : Page) (gq : Fld) : ({ s with out := x } : State).rdI pq gq = s.rdI pq gq := id rfl
@[simp] theorem with_out_bit (x : List Output) (pq : Page) (gq : Fld) : ({ s with out := x } : State).bit pq gq = s.bit pq gq := id rfl

@[simp] theorem with_ctr_pending (x : SMap Nat) : ({ s with ctr := x } : State).pending = s.pending := id rfl
@[simp] theorem with_ctr_out (x : SMap Nat) : ({ s with ctr := x } : State).out = s.out := id rfl
@[simp] theorem with_ctr_fresh (x : SMap Nat) : ({ s with ctr := x } : State).fresh = s.fresh := id rfl
@[simp] theorem with_ctr_part (x : SMap Nat) : ({ s with ctr := x } : State).part = s.part := id rfl
@[simp] theorem with_ctr_time (x : SMap Nat) : ({ s with ctr := x } : State).time = s.time := id rfl
@[simp] theorem with_ctr_regs (x : SMap Nat) : ({ s with ctr := x } : State).regs = s.regs := id rfl
@[simp] theorem with_ctr_damage (x : SMap Nat) : ({ s with ctr := x } : State).damage = s.damage := id rfl
@[simp] theorem with_ctr_host (x : SMap Nat) : ({ s with ctr := x } : State).host = s.host := id rfl
@[simp] theorem with_ctr_ses (x : SMap Nat) : ({ s with ctr := x } : State).ses = s.ses := id rfl
@[simp] theorem with_ctr_logRing (x : SMap Nat) : ({ s with ctr := x } : State).logRing = s.logRing := id rfl
@[simp] theorem with_ctr_hubEnd (x : SMap Nat) : ({ s with ctr := x } : State).hubEnd = s.hubEnd := id rfl
@[simp] theorem with_ctr_fieldEnd (x : SMap Nat) : ({ s with ctr := x } : State).fieldEnd = s.fieldEnd := id rfl
@[simp] theorem with_ctr_mirror (x : SMap Nat) : ({ s with ctr := x } : State).mirror = s.mirror := id rfl
@[simp] theorem with_ctr_field (x : SMap Nat) : ({ s with ctr := x } : State).field = s.field := id rfl
@[simp] theorem with_ctr_start (x : SMap Nat) : ({ s with ctr := x } : State).start = s.start := id rfl
@[simp] theorem with_ctr_pins (x : SMap Nat) : ({ s with ctr := x } : State).pins = s.pins := id rfl
@[simp] theorem with_ctr_cars (x : SMap Nat) : ({ s with ctr := x } : State).cars = s.cars := id rfl
@[simp] theorem with_ctr_tm (x : SMap Nat) : ({ s with ctr := x } : State).tm = s.tm := id rfl
@[simp] theorem with_ctr_cad (x : SMap Nat) : ({ s with ctr := x } : State).cad = s.cad := id rfl
@[simp] theorem with_ctr_mem (x : SMap Nat) : ({ s with ctr := x } : State).mem = s.mem := id rfl
@[simp] theorem with_ctr_lanes (x : SMap Nat) : ({ s with ctr := x } : State).lanes = s.lanes := id rfl
@[simp] theorem with_ctr_sense (x : SMap Nat) : ({ s with ctr := x } : State).sense = s.sense := id rfl
@[simp] theorem with_ctr_tele (x : SMap Nat) : ({ s with ctr := x } : State).tele = s.tele := id rfl
@[simp] theorem with_ctr_rail (x : SMap Nat) : ({ s with ctr := x } : State).rail = s.rail := id rfl
@[simp] theorem with_ctr_clock (x : SMap Nat) : ({ s with ctr := x } : State).clock = s.clock := id rfl
@[simp] theorem with_ctr_word (x : SMap Nat) (pq : Page) (oq : Nat) : ({ s with ctr := x } : State).word pq oq = s.word pq oq := id rfl
@[simp] theorem with_ctr_rd (x : SMap Nat) (pq : Page) (gq : Fld) : ({ s with ctr := x } : State).rd pq gq = s.rd pq gq := id rfl
@[simp] theorem with_ctr_rdI (x : SMap Nat) (pq : Page) (gq : Fld) : ({ s with ctr := x } : State).rdI pq gq = s.rdI pq gq := id rfl
@[simp] theorem with_ctr_bit (x : SMap Nat) (pq : Page) (gq : Fld) : ({ s with ctr := x } : State).bit pq gq = s.bit pq gq := id rfl

@[simp] theorem with_host_pending (x : HostIf) : ({ s with host := x } : State).pending = s.pending := id rfl
@[simp] theorem with_host_out (x : HostIf) : ({ s with host := x } : State).out = s.out := id rfl
@[simp] theorem with_host_fresh (x : HostIf) : ({ s with host := x } : State).fresh = s.fresh := id rfl
@[simp] theorem with_host_part (x : HostIf) : ({ s with host := x } : State).part = s.part := id rfl
@[simp] theorem with_host_time (x : HostIf) : ({ s with host := x } : State).time = s.time := id rfl
@[simp] theorem with_host_regs (x : HostIf) : ({ s with host := x } : State).regs = s.regs := id rfl
@[simp] theorem with_host_damage (x : HostIf) : ({ s with host := x } : State).damage = s.damage := id rfl
@[simp] theorem with_host_ctr (x : HostIf) : ({ s with host := x } : State).ctr = s.ctr := id rfl
@[simp] theorem with_host_ses (x : HostIf) : ({ s with host := x } : State).ses = s.ses := id rfl
@[simp] theorem with_host_logRing (x : HostIf) : ({ s with host := x } : State).logRing = s.logRing := id rfl
@[simp] theorem with_host_hubEnd (x : HostIf) : ({ s with host := x } : State).hubEnd = s.hubEnd := id rfl
@[simp] theorem with_host_fieldEnd (x : HostIf) : ({ s with host := x } : State).fieldEnd = s.fieldEnd := id rfl
@[simp] theorem with_host_mirror (x : HostIf) : ({ s with host := x } : State).mirror = s.mirror := id rfl
@[simp] theorem with_host_field (x : HostIf) : ({ s with host := x } : State).field = s.field := id rfl
@[simp] theorem with_host_start (x : HostIf) : ({ s with host := x } : State).start = s.start := id rfl
@[simp] theorem with_host_pins (x : HostIf) : ({ s with host := x } : State).pins = s.pins := id rfl
@[simp] theorem with_host_cars (x : HostIf) : ({ s with host := x } : State).cars = s.cars := id rfl
@[simp] theorem with_host_tm (x : HostIf) : ({ s with host := x } : State).tm = s.tm := id rfl
@[simp] theorem with_host_cad (x : HostIf) : ({ s with host := x } : State).cad = s.cad := id rfl
@[simp] theorem with_host_mem (x : HostIf) : ({ s with host := x } : State).mem = s.mem := id rfl
@[simp] theorem with_host_lanes (x : HostIf) : ({ s with host := x } : State).lanes = s.lanes := id rfl
@[simp] theorem with_host_sense (x : HostIf) : ({ s with host := x } : State).sense = s.sense := id rfl
@[simp] theorem with_host_tele (x : HostIf) : ({ s with host := x } : State).tele = s.tele := id rfl
@[simp] theorem with_host_rail (x : HostIf) : ({ s with host := x } : State).rail = s.rail := id rfl
@[simp] theorem with_host_clock (x : HostIf) : ({ s with host := x } : State).clock = s.clock := id rfl
@[simp] theorem with_host_word (x : HostIf) (pq : Page) (oq : Nat) : ({ s with host := x } : State).word pq oq = s.word pq oq := id rfl
@[simp] theorem with_host_rd (x : HostIf) (pq : Page) (gq : Fld) : ({ s with host := x } : State).rd pq gq = s.rd pq gq := id rfl
@[simp] theorem with_host_rdI (x : HostIf) (pq : Page) (gq : Fld) : ({ s with host := x } : State).rdI pq gq = s.rdI pq gq := id rfl
@[simp] theorem with_host_bit (x : HostIf) (pq : Page) (gq : Fld) : ({ s with host := x } : State).bit pq gq = s.bit pq gq := id rfl

@[simp] theorem with_hubEnd_pending (x : BEnd) : ({ s with hubEnd := x } : State).pending = s.pending := id rfl
@[simp] theorem with_hubEnd_out (x : BEnd) : ({ s with hubEnd := x } : State).out = s.out := id rfl
@[simp] theorem with_hubEnd_fresh (x : BEnd) : ({ s with hubEnd := x } : State).fresh = s.fresh := id rfl
@[simp] theorem with_hubEnd_part (x : BEnd) : ({ s with hubEnd := x } : State).part = s.part := id rfl
@[simp] theorem with_hubEnd_time (x : BEnd) : ({ s with hubEnd := x } : State).time = s.time := id rfl
@[simp] theorem with_hubEnd_regs (x : BEnd) : ({ s with hubEnd := x } : State).regs = s.regs := id rfl
@[simp] theorem with_hubEnd_damage (x : BEnd) : ({ s with hubEnd := x } : State).damage = s.damage := id rfl
@[simp] theorem with_hubEnd_ctr (x : BEnd) : ({ s with hubEnd := x } : State).ctr = s.ctr := id rfl
@[simp] theorem with_hubEnd_host (x : BEnd) : ({ s with hubEnd := x } : State).host = s.host := id rfl
@[simp] theorem with_hubEnd_ses (x : BEnd) : ({ s with hubEnd := x } : State).ses = s.ses := id rfl
@[simp] theorem with_hubEnd_logRing (x : BEnd) : ({ s with hubEnd := x } : State).logRing = s.logRing := id rfl
@[simp] theorem with_hubEnd_fieldEnd (x : BEnd) : ({ s with hubEnd := x } : State).fieldEnd = s.fieldEnd := id rfl
@[simp] theorem with_hubEnd_mirror (x : BEnd) : ({ s with hubEnd := x } : State).mirror = s.mirror := id rfl
@[simp] theorem with_hubEnd_field (x : BEnd) : ({ s with hubEnd := x } : State).field = s.field := id rfl
@[simp] theorem with_hubEnd_start (x : BEnd) : ({ s with hubEnd := x } : State).start = s.start := id rfl
@[simp] theorem with_hubEnd_pins (x : BEnd) : ({ s with hubEnd := x } : State).pins = s.pins := id rfl
@[simp] theorem with_hubEnd_cars (x : BEnd) : ({ s with hubEnd := x } : State).cars = s.cars := id rfl
@[simp] theorem with_hubEnd_tm (x : BEnd) : ({ s with hubEnd := x } : State).tm = s.tm := id rfl
@[simp] theorem with_hubEnd_cad (x : BEnd) : ({ s with hubEnd := x } : State).cad = s.cad := id rfl
@[simp] theorem with_hubEnd_mem (x : BEnd) : ({ s with hubEnd := x } : State).mem = s.mem := id rfl
@[simp] theorem with_hubEnd_lanes (x : BEnd) : ({ s with hubEnd := x } : State).lanes = s.lanes := id rfl
@[simp] theorem with_hubEnd_sense (x : BEnd) : ({ s with hubEnd := x } : State).sense = s.sense := id rfl
@[simp] theorem with_hubEnd_tele (x : BEnd) : ({ s with hubEnd := x } : State).tele = s.tele := id rfl
@[simp] theorem with_hubEnd_rail (x : BEnd) : ({ s with hubEnd := x } : State).rail = s.rail := id rfl
@[simp] theorem with_hubEnd_clock (x : BEnd) : ({ s with hubEnd := x } : State).clock = s.clock := id rfl
@[simp] theorem with_hubEnd_word (x : BEnd) (pq : Page) (oq : Nat) : ({ s with hubEnd := x } : State).word pq oq = s.word pq oq := id rfl
@[simp] theorem with_hubEnd_rd (x : BEnd) (pq : Page) (gq : Fld) : ({ s with hubEnd := x } : State).rd pq gq = s.rd pq gq := id rfl
@[simp] theorem with_hubEnd_rdI (x : BEnd) (pq : Page) (gq : Fld) : ({ s with hubEnd := x } : State).rdI pq gq = s.rdI pq gq := id rfl
@[simp] theorem with_hubEnd_bit (x : BEnd) (pq : Page) (gq : Fld) : ({ s with hubEnd := x } : State).bit pq gq = s.bit pq gq := id rfl

@[simp] theorem with_fieldEnd_pending (x : BEnd) : ({ s with fieldEnd := x } : State).pending = s.pending := id rfl
@[simp] theorem with_fieldEnd_out (x : BEnd) : ({ s with fieldEnd := x } : State).out = s.out := id rfl
@[simp] theorem with_fieldEnd_fresh (x : BEnd) : ({ s with fieldEnd := x } : State).fresh = s.fresh := id rfl
@[simp] theorem with_fieldEnd_part (x : BEnd) : ({ s with fieldEnd := x } : State).part = s.part := id rfl
@[simp] theorem with_fieldEnd_time (x : BEnd) : ({ s with fieldEnd := x } : State).time = s.time := id rfl
@[simp] theorem with_fieldEnd_regs (x : BEnd) : ({ s with fieldEnd := x } : State).regs = s.regs := id rfl
@[simp] theorem with_fieldEnd_damage (x : BEnd) : ({ s with fieldEnd := x } : State).damage = s.damage := id rfl
@[simp] theorem with_fieldEnd_ctr (x : BEnd) : ({ s with fieldEnd := x } : State).ctr = s.ctr := id rfl
@[simp] theorem with_fieldEnd_host (x : BEnd) : ({ s with fieldEnd := x } : State).host = s.host := id rfl
@[simp] theorem with_fieldEnd_ses (x : BEnd) : ({ s with fieldEnd := x } : State).ses = s.ses := id rfl
@[simp] theorem with_fieldEnd_logRing (x : BEnd) : ({ s with fieldEnd := x } : State).logRing = s.logRing := id rfl
@[simp] theorem with_fieldEnd_hubEnd (x : BEnd) : ({ s with fieldEnd := x } : State).hubEnd = s.hubEnd := id rfl
@[simp] theorem with_fieldEnd_mirror (x : BEnd) : ({ s with fieldEnd := x } : State).mirror = s.mirror := id rfl
@[simp] theorem with_fieldEnd_field (x : BEnd) : ({ s with fieldEnd := x } : State).field = s.field := id rfl
@[simp] theorem with_fieldEnd_start (x : BEnd) : ({ s with fieldEnd := x } : State).start = s.start := id rfl
@[simp] theorem with_fieldEnd_pins (x : BEnd) : ({ s with fieldEnd := x } : State).pins = s.pins := id rfl
@[simp] theorem with_fieldEnd_cars (x : BEnd) : ({ s with fieldEnd := x } : State).cars = s.cars := id rfl
@[simp] theorem with_fieldEnd_tm (x : BEnd) : ({ s with fieldEnd := x } : State).tm = s.tm := id rfl
@[simp] theorem with_fieldEnd_cad (x : BEnd) : ({ s with fieldEnd := x } : State).cad = s.cad := id rfl
@[simp] theorem with_fieldEnd_mem (x : BEnd) : ({ s with fieldEnd := x } : State).mem = s.mem := id rfl
@[simp] theorem with_fieldEnd_lanes (x : BEnd) : ({ s with fieldEnd := x } : State).lanes = s.lanes := id rfl
@[simp] theorem with_fieldEnd_sense (x : BEnd) : ({ s with fieldEnd := x } : State).sense = s.sense := id rfl
@[simp] theorem with_fieldEnd_tele (x : BEnd) : ({ s with fieldEnd := x } : State).tele = s.tele := id rfl
@[simp] theorem with_fieldEnd_rail (x : BEnd) : ({ s with fieldEnd := x } : State).rail = s.rail := id rfl
@[simp] theorem with_fieldEnd_clock (x : BEnd) : ({ s with fieldEnd := x } : State).clock = s.clock := id rfl
@[simp] theorem with_fieldEnd_word (x : BEnd) (pq : Page) (oq : Nat) : ({ s with fieldEnd := x } : State).word pq oq = s.word pq oq := id rfl
@[simp] theorem with_fieldEnd_rd (x : BEnd) (pq : Page) (gq : Fld) : ({ s with fieldEnd := x } : State).rd pq gq = s.rd pq gq := id rfl
@[simp] theorem with_fieldEnd_rdI (x : BEnd) (pq : Page) (gq : Fld) : ({ s with fieldEnd := x } : State).rdI pq gq = s.rdI pq gq := id rfl
@[simp] theorem with_fieldEnd_bit (x : BEnd) (pq : Page) (gq : Fld) : ({ s with fieldEnd := x } : State).bit pq gq = s.bit pq gq := id rfl

@[simp] theorem with_cars_pending (x : SMap Carrier) : ({ s with cars := x } : State).pending = s.pending := id rfl
@[simp] theorem with_cars_out (x : SMap Carrier) : ({ s with cars := x } : State).out = s.out := id rfl
@[simp] theorem with_cars_fresh (x : SMap Carrier) : ({ s with cars := x } : State).fresh = s.fresh := id rfl
@[simp] theorem with_cars_part (x : SMap Carrier) : ({ s with cars := x } : State).part = s.part := id rfl
@[simp] theorem with_cars_time (x : SMap Carrier) : ({ s with cars := x } : State).time = s.time := id rfl
@[simp] theorem with_cars_regs (x : SMap Carrier) : ({ s with cars := x } : State).regs = s.regs := id rfl
@[simp] theorem with_cars_damage (x : SMap Carrier) : ({ s with cars := x } : State).damage = s.damage := id rfl
@[simp] theorem with_cars_ctr (x : SMap Carrier) : ({ s with cars := x } : State).ctr = s.ctr := id rfl
@[simp] theorem with_cars_host (x : SMap Carrier) : ({ s with cars := x } : State).host = s.host := id rfl
@[simp] theorem with_cars_ses (x : SMap Carrier) : ({ s with cars := x } : State).ses = s.ses := id rfl
@[simp] theorem with_cars_logRing (x : SMap Carrier) : ({ s with cars := x } : State).logRing = s.logRing := id rfl
@[simp] theorem with_cars_hubEnd (x : SMap Carrier) : ({ s with cars := x } : State).hubEnd = s.hubEnd := id rfl
@[simp] theorem with_cars_fieldEnd (x : SMap Carrier) : ({ s with cars := x } : State).fieldEnd = s.fieldEnd := id rfl
@[simp] theorem with_cars_mirror (x : SMap Carrier) : ({ s with cars := x } : State).mirror = s.mirror := id rfl
@[simp] theorem with_cars_field (x : SMap Carrier) : ({ s with cars := x } : State).field = s.field := id rfl
@[simp] theorem with_cars_start (x : SMap Carrier) : ({ s with cars := x } : State).start = s.start := id rfl
@[simp] theorem with_cars_pins (x : SMap Carrier) : ({ s with cars := x } : State).pins = s.pins := id rfl
@[simp] theorem with_cars_tm (x : SMap Carrier) : ({ s with cars := x } : State).tm = s.tm := id rfl
@[simp] theorem with_cars_cad (x : SMap Carrier) : ({ s with cars := x } : State).cad = s.cad := id rfl
@[simp] theorem with_cars_mem (x : SMap Carrier) : ({ s with cars := x } : State).mem = s.mem := id rfl
@[simp] theorem with_cars_lanes (x : SMap Carrier) : ({ s with cars := x } : State).lanes = s.lanes := id rfl
@[simp] theorem with_cars_sense (x : SMap Carrier) : ({ s with cars := x } : State).sense = s.sense := id rfl
@[simp] theorem with_cars_tele (x : SMap Carrier) : ({ s with cars := x } : State).tele = s.tele := id rfl
@[simp] theorem with_cars_rail (x : SMap Carrier) : ({ s with cars := x } : State).rail = s.rail := id rfl
@[simp] theorem with_cars_clock (x : SMap Carrier) : ({ s with cars := x } : State).clock = s.clock := id rfl
@[simp] theorem with_cars_word (x : SMap Carrier) (pq : Page) (oq : Nat) : ({ s with cars := x } : State).word pq oq = s.word pq oq := id rfl
@[simp] theorem with_cars_rd (x : SMap Carrier) (pq : Page) (gq : Fld) : ({ s with cars := x } : State).rd pq gq = s.rd pq gq := id rfl
@[simp] theorem with_cars_rdI (x : SMap Carrier) (pq : Page) (gq : Fld) : ({ s with cars := x } : State).rdI pq gq = s.rdI pq gq := id rfl
@[simp] theorem with_cars_bit (x : SMap Carrier) (pq : Page) (gq : Fld) : ({ s with cars := x } : State).bit pq gq = s.bit pq gq := id rfl

@[simp] theorem with_tm_pending (x : Tm) : ({ s with tm := x } : State).pending = s.pending := id rfl
@[simp] theorem with_tm_out (x : Tm) : ({ s with tm := x } : State).out = s.out := id rfl
@[simp] theorem with_tm_fresh (x : Tm) : ({ s with tm := x } : State).fresh = s.fresh := id rfl
@[simp] theorem with_tm_part (x : Tm) : ({ s with tm := x } : State).part = s.part := id rfl
@[simp] theorem with_tm_time (x : Tm) : ({ s with tm := x } : State).time = s.time := id rfl
@[simp] theorem with_tm_regs (x : Tm) : ({ s with tm := x } : State).regs = s.regs := id rfl
@[simp] theorem with_tm_damage (x : Tm) : ({ s with tm := x } : State).damage = s.damage := id rfl
@[simp] theorem with_tm_ctr (x : Tm) : ({ s with tm := x } : State).ctr = s.ctr := id rfl
@[simp] theorem with_tm_host (x : Tm) : ({ s with tm := x } : State).host = s.host := id rfl
@[simp] theorem with_tm_ses (x : Tm) : ({ s with tm := x } : State).ses = s.ses := id rfl
@[simp] theorem with_tm_logRing (x : Tm) : ({ s with tm := x } : State).logRing = s.logRing := id rfl
@[simp] theorem with_tm_hubEnd (x : Tm) : ({ s with tm := x } : State).hubEnd = s.hubEnd := id rfl
@[simp] theorem with_tm_fieldEnd (x : Tm) : ({ s with tm := x } : State).fieldEnd = s.fieldEnd := id rfl
@[simp] theorem with_tm_mirror (x : Tm) : ({ s with tm := x } : State).mirror = s.mirror := id rfl
@[simp] theorem with_tm_field (x : Tm) : ({ s with tm := x } : State).field = s.field := id rfl
@[simp] theorem with_tm_start (x : Tm) : ({ s with tm := x } : State).start = s.start := id rfl
@[simp] theorem with_tm_pins (x : Tm) : ({ s with tm := x } : State).pins = s.pins := id rfl
@[simp] theorem with_tm_cars (x : Tm) : ({ s with tm := x } : State).cars = s.cars := id rfl
@[simp] theorem with_tm_cad (x : Tm) : ({ s with tm := x } : State).cad = s.cad := id rfl
@[simp] theorem with_tm_mem (x : Tm) : ({ s with tm := x } : State).mem = s.mem := id rfl
@[simp] theorem with_tm_lanes (x : Tm) : ({ s with tm := x } : State).lanes = s.lanes := id rfl
@[simp] theorem with_tm_sense (x : Tm) : ({ s with tm := x } : State).sense = s.sense := id rfl
@[simp] theorem with_tm_tele (x : Tm) : ({ s with tm := x } : State).tele = s.tele := id rfl
@[simp] theorem with_tm_rail (x : Tm) : ({ s with tm := x } : State).rail = s.rail := id rfl
@[simp] theorem with_tm_clock (x : Tm) : ({ s with tm := x } : State).clock = s.clock := id rfl
@[simp] theorem with_tm_word (x : Tm) (pq : Page) (oq : Nat) : ({ s with tm := x } : State).word pq oq = s.word pq oq := id rfl
@[simp] theorem with_tm_rd (x : Tm) (pq : Page) (gq : Fld) : ({ s with tm := x } : State).rd pq gq = s.rd pq gq := id rfl
@[simp] theorem with_tm_rdI (x : Tm) (pq : Page) (gq : Fld) : ({ s with tm := x } : State).rdI pq gq = s.rdI pq gq := id rfl
@[simp] theorem with_tm_bit (x : Tm) (pq : Page) (gq : Fld) : ({ s with tm := x } : State).bit pq gq = s.bit pq gq := id rfl

@[simp] theorem with_cad_pending (x : Cad) : ({ s with cad := x } : State).pending = s.pending := id rfl
@[simp] theorem with_cad_out (x : Cad) : ({ s with cad := x } : State).out = s.out := id rfl
@[simp] theorem with_cad_fresh (x : Cad) : ({ s with cad := x } : State).fresh = s.fresh := id rfl
@[simp] theorem with_cad_part (x : Cad) : ({ s with cad := x } : State).part = s.part := id rfl
@[simp] theorem with_cad_time (x : Cad) : ({ s with cad := x } : State).time = s.time := id rfl
@[simp] theorem with_cad_regs (x : Cad) : ({ s with cad := x } : State).regs = s.regs := id rfl
@[simp] theorem with_cad_damage (x : Cad) : ({ s with cad := x } : State).damage = s.damage := id rfl
@[simp] theorem with_cad_ctr (x : Cad) : ({ s with cad := x } : State).ctr = s.ctr := id rfl
@[simp] theorem with_cad_host (x : Cad) : ({ s with cad := x } : State).host = s.host := id rfl
@[simp] theorem with_cad_ses (x : Cad) : ({ s with cad := x } : State).ses = s.ses := id rfl
@[simp] theorem with_cad_logRing (x : Cad) : ({ s with cad := x } : State).logRing = s.logRing := id rfl
@[simp] theorem with_cad_hubEnd (x : Cad) : ({ s with cad := x } : State).hubEnd = s.hubEnd := id rfl
@[simp] theorem with_cad_fieldEnd (x : Cad) : ({ s with cad := x } : State).fieldEnd = s.fieldEnd := id rfl
@[simp] theorem with_cad_mirror (x : Cad) : ({ s with cad := x } : State).mirror = s.mirror := id rfl
@[simp] theorem with_cad_field (x : Cad) : ({ s with cad := x } : State).field = s.field := id rfl
@[simp] theorem with_cad_start (x : Cad) : ({ s with cad := x } : State).start = s.start := id rfl
@[simp] theorem with_cad_pins (x : Cad) : ({ s with cad := x } : State).pins = s.pins := id rfl
@[simp] theorem with_cad_cars (x : Cad) : ({ s with cad := x } : State).cars = s.cars := id rfl
@[simp] theorem with_cad_tm (x : Cad) : ({ s with cad := x } : State).tm = s.tm := id rfl
@[simp] theorem with_cad_mem (x : Cad) : ({ s with cad := x } : State).mem = s.mem := id rfl
@[simp] theorem with_cad_lanes (x : Cad) : ({ s with cad := x } : State).lanes = s.lanes := id rfl
@[simp] theorem with_cad_sense (x : Cad) : ({ s with cad := x } : State).sense = s.sense := id rfl
@[simp] theorem with_cad_tele (x : Cad) : ({ s with cad := x } : State).tele = s.tele := id rfl
@[simp] theorem with_cad_rail (x : Cad) : ({ s with cad := x } : State).rail = s.rail := id rfl
@[simp] theorem with_cad_clock (x : Cad) : ({ s with cad := x } : State).clock = s.clock := id rfl
@[simp] theorem with_cad_word (x : Cad) (pq : Page) (oq : Nat) : ({ s with cad := x } : State).word pq oq = s.word pq oq := id rfl
@[simp] theorem with_cad_rd (x : Cad) (pq : Page) (gq : Fld) : ({ s with cad := x } : State).rd pq gq = s.rd pq gq := id rfl
@[simp] theorem with_cad_rdI (x : Cad) (pq : Page) (gq : Fld) : ({ s with cad := x } : State).rdI pq gq = s.rdI pq gq := id rfl
@[simp] theorem with_cad_bit (x : Cad) (pq : Page) (gq : Fld) : ({ s with cad := x } : State).bit pq gq = s.bit pq gq := id rfl

@[simp] theorem with_field_pending (x : Field) : ({ s with field := x } : State).pending = s.pending := id rfl
@[simp] theorem with_field_out (x : Field) : ({ s with field := x } : State).out = s.out := id rfl
@[simp] theorem with_field_fresh (x : Field) : ({ s with field := x } : State).fresh = s.fresh := id rfl
@[simp] theorem with_field_part (x : Field) : ({ s with field := x } : State).part = s.part := id rfl
@[simp] theorem with_field_time (x : Field) : ({ s with field := x } : State).time = s.time := id rfl
@[simp] theorem with_field_regs (x : Field) : ({ s with field := x } : State).regs = s.regs := id rfl
@[simp] theorem with_field_damage (x : Field) : ({ s with field := x } : State).damage = s.damage := id rfl
@[simp] theorem with_field_ctr (x : Field) : ({ s with field := x } : State).ctr = s.ctr := id rfl
@[simp] theorem with_field_host (x : Field) : ({ s with field := x } : State).host = s.host := id rfl
@[simp] theorem with_field_ses (x : Field) : ({ s with field := x } : State).ses = s.ses := id rfl
@[simp] theorem with_field_logRing (x : Field) : ({ s with field := x } : State).logRing = s.logRing := id rfl
@[simp] theorem with_field_hubEnd (x : Field) : ({ s with field := x } : State).hubEnd = s.hubEnd := id rfl
@[simp] theorem with_field_fieldEnd (x : Field) : ({ s with field := x } : State).fieldEnd = s.fieldEnd := id rfl
@[simp] theorem with_field_mirror (x : Field) : ({ s with field := x } : State).mirror = s.mirror := id rfl
@[simp] theorem with_field_start (x : Field) : ({ s with field := x } : State).start = s.start := id rfl
@[simp] theorem with_field_pins (x : Field) : ({ s with field := x } : State).pins = s.pins := id rfl
@[simp] theorem with_field_cars (x : Field) : ({ s with field := x } : State).cars = s.cars := id rfl
@[simp] theorem with_field_tm (x : Field) : ({ s with field := x } : State).tm = s.tm := id rfl
@[simp] theorem with_field_cad (x : Field) : ({ s with field := x } : State).cad = s.cad := id rfl
@[simp] theorem with_field_mem (x : Field) : ({ s with field := x } : State).mem = s.mem := id rfl
@[simp] theorem with_field_lanes (x : Field) : ({ s with field := x } : State).lanes = s.lanes := id rfl
@[simp] theorem with_field_sense (x : Field) : ({ s with field := x } : State).sense = s.sense := id rfl
@[simp] theorem with_field_tele (x : Field) : ({ s with field := x } : State).tele = s.tele := id rfl
@[simp] theorem with_field_rail (x : Field) : ({ s with field := x } : State).rail = s.rail := id rfl
@[simp] theorem with_field_clock (x : Field) : ({ s with field := x } : State).clock = s.clock := id rfl
@[simp] theorem with_field_word (x : Field) (pq : Page) (oq : Nat) : ({ s with field := x } : State).word pq oq = s.word pq oq := id rfl
@[simp] theorem with_field_rd (x : Field) (pq : Page) (gq : Fld) : ({ s with field := x } : State).rd pq gq = s.rd pq gq := id rfl
@[simp] theorem with_field_rdI (x : Field) (pq : Page) (gq : Fld) : ({ s with field := x } : State).rdI pq gq = s.rdI pq gq := id rfl
@[simp] theorem with_field_bit (x : Field) (pq : Page) (gq : Fld) : ({ s with field := x } : State).bit pq gq = s.bit pq gq := id rfl

@[simp] theorem with_mirror_pending (x : Mirror) : ({ s with mirror := x } : State).pending = s.pending := id rfl
@[simp] theorem with_mirror_out (x : Mirror) : ({ s with mirror := x } : State).out = s.out := id rfl
@[simp] theorem with_mirror_fresh (x : Mirror) : ({ s with mirror := x } : State).fresh = s.fresh := id rfl
@[simp] theorem with_mirror_part (x : Mirror) : ({ s with mirror := x } : State).part = s.part := id rfl
@[simp] theorem with_mirror_time (x : Mirror) : ({ s with mirror := x } : State).time = s.time := id rfl
@[simp] theorem with_mirror_regs (x : Mirror) : ({ s with mirror := x } : State).regs = s.regs := id rfl
@[simp] theorem with_mirror_damage (x : Mirror) : ({ s with mirror := x } : State).damage = s.damage := id rfl
@[simp] theorem with_mirror_ctr (x : Mirror) : ({ s with mirror := x } : State).ctr = s.ctr := id rfl
@[simp] theorem with_mirror_host (x : Mirror) : ({ s with mirror := x } : State).host = s.host := id rfl
@[simp] theorem with_mirror_ses (x : Mirror) : ({ s with mirror := x } : State).ses = s.ses := id rfl
@[simp] theorem with_mirror_logRing (x : Mirror) : ({ s with mirror := x } : State).logRing = s.logRing := id rfl
@[simp] theorem with_mirror_hubEnd (x : Mirror) : ({ s with mirror := x } : State).hubEnd = s.hubEnd := id rfl
@[simp] theorem with_mirror_fieldEnd (x : Mirror) : ({ s with mirror := x } : State).fieldEnd = s.fieldEnd := id rfl
@[simp] theorem with_mirror_field (x : Mirror) : ({ s with mirror := x } : State).field = s.field := id rfl
@[simp] theorem with_mirror_start (x : Mirror) : ({ s with mirror := x } : State).start = s.start := id rfl
@[simp] theorem with_mirror_pins (x : Mirror) : ({ s with mirror := x } : State).pins = s.pins := id rfl
@[simp] theorem with_mirror_cars (x : Mirror) : ({ s with mirror := x } : State).cars = s.cars := id rfl
@[simp] theorem with_mirror_tm (x : Mirror) : ({ s with mirror := x } : State).tm = s.tm := id rfl
@[simp] theorem with_mirror_cad (x : Mirror) : ({ s with mirror := x } : State).cad = s.cad := id rfl
@[simp] theorem with_mirror_mem (x : Mirror) : ({ s with mirror := x } : State).mem = s.mem := id rfl
@[simp] theorem with_mirror_lanes (x : Mirror) : ({ s with mirror := x } : State).lanes = s.lanes := id rfl
@[simp] theorem with_mirror_sense (x : Mirror) : ({ s with mirror := x } : State).sense = s.sense := id rfl
@[simp] theorem with_mirror_tele (x : Mirror) : ({ s with mirror := x } : State).tele = s.tele := id rfl
@[simp] theorem with_mirror_rail (x : Mirror) : ({ s with mirror := x } : State).rail = s.rail := id rfl
@[simp] theorem with_mirror_clock (x : Mirror) : ({ s with mirror := x } : State).clock = s.clock := id rfl
@[simp] theorem with_mirror_word (x : Mirror) (pq : Page) (oq : Nat) : ({ s with mirror := x } : State).word pq oq = s.word pq oq := id rfl
@[simp] theorem with_mirror_rd (x : Mirror) (pq : Page) (gq : Fld) : ({ s with mirror := x } : State).rd pq gq = s.rd pq gq := id rfl
@[simp] theorem with_mirror_rdI (x : Mirror) (pq : Page) (gq : Fld) : ({ s with mirror := x } : State).rdI pq gq = s.rdI pq gq := id rfl
@[simp] theorem with_mirror_bit (x : Mirror) (pq : Page) (gq : Fld) : ({ s with mirror := x } : State).bit pq gq = s.bit pq gq := id rfl

@[simp] theorem with_start_pending (x : Start) : ({ s with start := x } : State).pending = s.pending := id rfl
@[simp] theorem with_start_out (x : Start) : ({ s with start := x } : State).out = s.out := id rfl
@[simp] theorem with_start_fresh (x : Start) : ({ s with start := x } : State).fresh = s.fresh := id rfl
@[simp] theorem with_start_part (x : Start) : ({ s with start := x } : State).part = s.part := id rfl
@[simp] theorem with_start_time (x : Start) : ({ s with start := x } : State).time = s.time := id rfl
@[simp] theorem with_start_regs (x : Start) : ({ s with start := x } : State).regs = s.regs := id rfl
@[simp] theorem with_start_damage (x : Start) : ({ s with start := x } : State).damage = s.damage := id rfl
@[simp] theorem with_start_ctr (x : Start) : ({ s with start := x } : State).ctr = s.ctr := id rfl
@[simp] theorem with_start_host (x : Start) : ({ s with start := x } : State).host = s.host := id rfl
@[simp] theorem with_start_ses (x : Start) : ({ s with start := x } : State).ses = s.ses := id rfl
@[simp] theorem with_start_logRing (x : Start) : ({ s with start := x } : State).logRing = s.logRing := id rfl
@[simp] theorem with_start_hubEnd (x : Start) : ({ s with start := x } : State).hubEnd = s.hubEnd := id rfl
@[simp] theorem with_start_fieldEnd (x : Start) : ({ s with start := x } : State).fieldEnd = s.fieldEnd := id rfl
@[simp] theorem with_start_mirror (x : Start) : ({ s with start := x } : State).mirror = s.mirror := id rfl
@[simp] theorem with_start_field (x : Start) : ({ s with start := x } : State).field = s.field := id rfl
@[simp] theorem with_start_pins (x : Start) : ({ s with start := x } : State).pins = s.pins := id rfl
@[simp] theorem with_start_cars (x : Start) : ({ s with start := x } : State).cars = s.cars := id rfl
@[simp] theorem with_start_tm (x : Start) : ({ s with start := x } : State).tm = s.tm := id rfl
@[simp] theorem with_start_cad (x : Start) : ({ s with start := x } : State).cad = s.cad := id rfl
@[simp] theorem with_start_mem (x : Start) : ({ s with start := x } : State).mem = s.mem := id rfl
@[simp] theorem with_start_lanes (x : Start) : ({ s with start := x } : State).lanes = s.lanes := id rfl
@[simp] theorem with_start_sense (x : Start) : ({ s with start := x } : State).sense = s.sense := id rfl
@[simp] theorem with_start_tele (x : Start) : ({ s with start := x } : State).tele = s.tele := id rfl
@[simp] theorem with_start_rail (x : Start) : ({ s with start := x } : State).rail = s.rail := id rfl
@[simp] theorem with_start_clock (x : Start) : ({ s with start := x } : State).clock = s.clock := id rfl
@[simp] theorem with_start_word (x : Start) (pq : Page) (oq : Nat) : ({ s with start := x } : State).word pq oq = s.word pq oq := id rfl
@[simp] theorem with_start_rd (x : Start) (pq : Page) (gq : Fld) : ({ s with start := x } : State).rd pq gq = s.rd pq gq := id rfl
@[simp] theorem with_start_rdI (x : Start) (pq : Page) (gq : Fld) : ({ s with start := x } : State).rdI pq gq = s.rdI pq gq := id rfl
@[simp] theorem with_start_bit (x : Start) (pq : Page) (gq : Fld) : ({ s with start := x } : State).bit pq gq = s.bit pq gq := id rfl

@[simp] theorem with_tele_pending (x : Tele) : ({ s with tele := x } : State).pending = s.pending := id rfl
@[simp] theorem with_tele_out (x : Tele) : ({ s with tele := x } : State).out = s.out := id rfl
@[simp] theorem with_tele_fresh (x : Tele) : ({ s with tele := x } : State).fresh = s.fresh := id rfl
@[simp] theorem with_tele_part (x : Tele) : ({ s with tele := x } : State).part = s.part := id rfl
@[simp] theorem with_tele_time (x : Tele) : ({ s with tele := x } : State).time = s.time := id rfl
@[simp] theorem with_tele_regs (x : Tele) : ({ s with tele := x } : State).regs = s.regs := id rfl
@[simp] theorem with_tele_damage (x : Tele) : ({ s with tele := x } : State).damage = s.damage := id rfl
@[simp] theorem with_tele_ctr (x : Tele) : ({ s with tele := x } : State).ctr = s.ctr := id rfl
@[simp] theorem with_tele_host (x : Tele) : ({ s with tele := x } : State).host = s.host := id rfl
@[simp] theorem with_tele_ses (x : Tele) : ({ s with tele := x } : State).ses = s.ses := id rfl
@[simp] theorem with_tele_logRing (x : Tele) : ({ s with tele := x } : State).logRing = s.logRing := id rfl
@[simp] theorem with_tele_hubEnd (x : Tele) : ({ s with tele := x } : State).hubEnd = s.hubEnd := id rfl
@[simp] theorem with_tele_fieldEnd (x : Tele) : ({ s with tele := x } : State).fieldEnd = s.fieldEnd := id rfl
@[simp] theorem with_tele_mirror (x : Tele) : ({ s with tele := x } : State).mirror = s.mirror := id rfl
@[simp] theorem with_tele_field (x : Tele) : ({ s with tele := x } : State).field = s.field := id rfl
@[simp] theorem with_tele_start (x : Tele) : ({ s with tele := x } : State).start = s.start := id rfl
@[simp] theorem with_tele_pins (x : Tele) : ({ s with tele := x } : State).pins = s.pins := id rfl
@[simp] theorem with_tele_cars (x : Tele) : ({ s with tele := x } : State).cars = s.cars := id rfl
@[simp] theorem with_tele_tm (x : Tele) : ({ s with tele := x } : State).tm = s.tm := id rfl
@[simp] theorem with_tele_cad (x : Tele) : ({ s with tele := x } : State).cad = s.cad := id rfl
@[simp] theorem with_tele_mem (x : Tele) : ({ s with tele := x } : State).mem = s.mem := id rfl
@[simp] theorem with_tele_lanes (x : Tele) : ({ s with tele := x } : State).lanes = s.lanes := id rfl
@[simp] theorem with_tele_sense (x : Tele) : ({ s with tele := x } : State).sense = s.sense := id rfl
@[simp] theorem with_tele_rail (x : Tele) : ({ s with tele := x } : State).rail = s.rail := id rfl
@[simp] theorem with_tele_clock (x : Tele) : ({ s with tele := x } : State).clock = s.clock := id rfl
@[simp] theorem with_tele_word (x : Tele) (pq : Page) (oq : Nat) : ({ s with tele := x } : State).word pq oq = s.word pq oq := id rfl
@[simp] theorem with_tele_rd (x : Tele) (pq : Page) (gq : Fld) : ({ s with tele := x } : State).rd pq gq = s.rd pq gq := id rfl
@[simp] theorem with_tele_rdI (x : Tele) (pq : Page) (gq : Fld) : ({ s with tele := x } : State).rdI pq gq = s.rdI pq gq := id rfl
@[simp] theorem with_tele_bit (x : Tele) (pq : Page) (gq : Fld) : ({ s with tele := x } : State).bit pq gq = s.bit pq gq := id rfl

@[simp] theorem with_sense_pending (x : Sense) : ({ s with sense := x } : State).pending = s.pending := id rfl
@[simp] theorem with_sense_out (x : Sense) : ({ s with sense := x } : State).out = s.out := id rfl
@[simp] theorem with_sense_fresh (x : Sense) : ({ s with sense := x } : State).fresh = s.fresh := id rfl
@[simp] theorem with_sense_part (x : Sense) : ({ s with sense := x } : State).part = s.part := id rfl
@[simp] theorem with_sense_time (x : Sense) : ({ s with sense := x } : State).time = s.time := id rfl
@[simp] theorem with_sense_regs (x : Sense) : ({ s with sense := x } : State).regs = s.regs := id rfl
@[simp] theorem with_sense_damage (x : Sense) : ({ s with sense := x } : State).damage = s.damage := id rfl
@[simp] theorem with_sense_ctr (x : Sense) : ({ s with sense := x } : State).ctr = s.ctr := id rfl
@[simp] theorem with_sense_host (x : Sense) : ({ s with sense := x } : State).host = s.host := id rfl
@[simp] theorem with_sense_ses (x : Sense) : ({ s with sense := x } : State).ses = s.ses := id rfl
@[simp] theorem with_sense_logRing (x : Sense) : ({ s with sense := x } : State).logRing = s.logRing := id rfl
@[simp] theorem with_sense_hubEnd (x : Sense) : ({ s with sense := x } : State).hubEnd = s.hubEnd := id rfl
@[simp] theorem with_sense_fieldEnd (x : Sense) : ({ s with sense := x } : State).fieldEnd = s.fieldEnd := id rfl
@[simp] theorem with_sense_mirror (x : Sense) : ({ s with sense := x } : State).mirror = s.mirror := id rfl
@[simp] theorem with_sense_field (x : Sense) : ({ s with sense := x } : State).field = s.field := id rfl
@[simp] theorem with_sense_start (x : Sense) : ({ s with sense := x } : State).start = s.start := id rfl
@[simp] theorem with_sense_pins (x : Sense) : ({ s with sense := x } : State).pins = s.pins := id rfl
@[simp] theorem with_sense_cars (x : Sense) : ({ s with sense := x } : State).cars = s.cars := id rfl
@[simp] theorem with_sense_tm (x : Sense) : ({ s with sense := x } : State).tm = s.tm := id rfl
@[simp] theorem with_sense_cad (x : Sense) : ({ s with sense := x } : State).cad = s.cad := id rfl
@[simp] theorem with_sense_mem (x : Sense) : ({ s with sense := x } : State).mem = s.mem := id rfl
@[simp] theorem with_sense_lanes (x : Sense) : ({ s with sense := x } : State).lanes = s.lanes := id rfl
@[simp] theorem with_sense_tele (x : Sense) : ({ s with sense := x } : State).tele = s.tele := id rfl
@[simp] theorem with_sense_rail (x : Sense) : ({ s with sense := x } : State).rail = s.rail := id rfl
@[simp] theorem with_sense_clock (x : Sense) : ({ s with sense := x } : State).clock = s.clock := id rfl
@[simp] theorem with_sense_word (x : Sense) (pq : Page) (oq : Nat) : ({ s with sense := x } : State).word pq oq = s.word pq oq := id rfl
@[simp] theorem with_sense_rd (x : Sense) (pq : Page) (gq : Fld) : ({ s with sense := x } : State).rd pq gq = s.rd pq gq := id rfl
@[simp] theorem with_sense_rdI (x : Sense) (pq : Page) (gq : Fld) : ({ s with sense := x } : State).rdI pq gq = s.rdI pq gq := id rfl
@[simp] theorem with_sense_bit (x : Sense) (pq : Page) (gq : Fld) : ({ s with sense := x } : State).bit pq gq = s.bit pq gq := id rfl

@[simp] theorem with_mem_pending (x : Mem) : ({ s with mem := x } : State).pending = s.pending := id rfl
@[simp] theorem with_mem_out (x : Mem) : ({ s with mem := x } : State).out = s.out := id rfl
@[simp] theorem with_mem_fresh (x : Mem) : ({ s with mem := x } : State).fresh = s.fresh := id rfl
@[simp] theorem with_mem_part (x : Mem) : ({ s with mem := x } : State).part = s.part := id rfl
@[simp] theorem with_mem_time (x : Mem) : ({ s with mem := x } : State).time = s.time := id rfl
@[simp] theorem with_mem_regs (x : Mem) : ({ s with mem := x } : State).regs = s.regs := id rfl
@[simp] theorem with_mem_damage (x : Mem) : ({ s with mem := x } : State).damage = s.damage := id rfl
@[simp] theorem with_mem_ctr (x : Mem) : ({ s with mem := x } : State).ctr = s.ctr := id rfl
@[simp] theorem with_mem_host (x : Mem) : ({ s with mem := x } : State).host = s.host := id rfl
@[simp] theorem with_mem_ses (x : Mem) : ({ s with mem := x } : State).ses = s.ses := id rfl
@[simp] theorem with_mem_logRing (x : Mem) : ({ s with mem := x } : State).logRing = s.logRing := id rfl
@[simp] theorem with_mem_hubEnd (x : Mem) : ({ s with mem := x } : State).hubEnd = s.hubEnd := id rfl
@[simp] theorem with_mem_fieldEnd (x : Mem) : ({ s with mem := x } : State).fieldEnd = s.fieldEnd := id rfl
@[simp] theorem with_mem_mirror (x : Mem) : ({ s with mem := x } : State).mirror = s.mirror := id rfl
@[simp] theorem with_mem_field (x : Mem) : ({ s with mem := x } : State).field = s.field := id rfl
@[simp] theorem with_mem_start (x : Mem) : ({ s with mem := x } : State).start = s.start := id rfl
@[simp] theorem with_mem_pins (x : Mem) : ({ s with mem := x } : State).pins = s.pins := id rfl
@[simp] theorem with_mem_cars (x : Mem) : ({ s with mem := x } : State).cars = s.cars := id rfl
@[simp] theorem with_mem_tm (x : Mem) : ({ s with mem := x } : State).tm = s.tm := id rfl
@[simp] theorem with_mem_cad (x : Mem) : ({ s with mem := x } : State).cad = s.cad := id rfl
@[simp] theorem with_mem_lanes (x : Mem) : ({ s with mem := x } : State).lanes = s.lanes := id rfl
@[simp] theorem with_mem_sense (x : Mem) : ({ s with mem := x } : State).sense = s.sense := id rfl
@[simp] theorem with_mem_tele (x : Mem) : ({ s with mem := x } : State).tele = s.tele := id rfl
@[simp] theorem with_mem_rail (x : Mem) : ({ s with mem := x } : State).rail = s.rail := id rfl
@[simp] theorem with_mem_clock (x : Mem) : ({ s with mem := x } : State).clock = s.clock := id rfl
@[simp] theorem with_mem_word (x : Mem) (pq : Page) (oq : Nat) : ({ s with mem := x } : State).word pq oq = s.word pq oq := id rfl
@[simp] theorem with_mem_rd (x : Mem) (pq : Page) (gq : Fld) : ({ s with mem := x } : State).rd pq gq = s.rd pq gq := id rfl
@[simp] theorem with_mem_rdI (x : Mem) (pq : Page) (gq : Fld) : ({ s with mem := x } : State).rdI pq gq = s.rdI pq gq := id rfl
@[simp] theorem with_mem_bit (x : Mem) (pq : Page) (gq : Fld) : ({ s with mem := x } : State).bit pq gq = s.bit pq gq := id rfl

@[simp] theorem with_rail_pending (x : Rail) : ({ s with rail := x } : State).pending = s.pending := id rfl
@[simp] theorem with_rail_out (x : Rail) : ({ s with rail := x } : State).out = s.out := id rfl
@[simp] theorem with_rail_fresh (x : Rail) : ({ s with rail := x } : State).fresh = s.fresh := id rfl
@[simp] theorem with_rail_part (x : Rail) : ({ s with rail := x } : State).part = s.part := id rfl
@[simp] theorem with_rail_time (x : Rail) : ({ s with rail := x } : State).time = s.time := id rfl
@[simp] theorem with_rail_regs (x : Rail) : ({ s with rail := x } : State).regs = s.regs := id rfl
@[simp] theorem with_rail_damage (x : Rail) : ({ s with rail := x } : State).damage = s.damage := id rfl
@[simp] theorem with_rail_ctr (x : Rail) : ({ s with rail := x } : State).ctr = s.ctr := id rfl
@[simp] theorem with_rail_host (x : Rail) : ({ s with rail := x } : State).host = s.host := id rfl
@[simp] theorem with_rail_ses (x : Rail) : ({ s with rail := x } : State).ses = s.ses := id rfl
@[simp] theorem with_rail_logRing (x : Rail) : ({ s with rail := x } : State).logRing = s.logRing := id rfl
@[simp] theorem with_rail_hubEnd (x : Rail) : ({ s with rail := x } : State).hubEnd = s.hubEnd := id rfl
@[simp] theorem with_rail_fieldEnd (x : Rail) : ({ s with rail := x } : State).fieldEnd = s.fieldEnd := id rfl
@[simp] theorem with_rail_mirror (x : Rail) : ({ s with rail := x } : State).mirror = s.mirror := id rfl
@[simp] theorem with_rail_field (x : Rail) : ({ s with rail := x } : State).field = s.field := id rfl
@[simp] theorem with_rail_start (x : Rail) : ({ s with rail := x } : State).start = s.start := id rfl
@[simp] theorem with_rail_pins (x : Rail) : ({ s with rail := x } : State).pins = s.pins := id rfl
@[simp] theorem with_rail_cars (x : Rail) : ({ s with rail := x } : State).cars = s.cars := id rfl
@[simp] theorem with_rail_tm (x : Rail) : ({ s with rail := x } : State).tm = s.tm := id rfl
@[simp] theorem with_rail_cad (x : Rail) : ({ s with rail := x } : State).cad = s.cad := id rfl
@[simp] theorem with_rail_mem (x : Rail) : ({ s with rail := x } : State).mem = s.mem := id rfl
@[simp] theorem with_rail_lanes (x : Rail) : ({ s with rail := x } : State).lanes = s.lanes := id rfl
@[simp] theorem with_rail_sense (x : Rail) : ({ s with rail := x } : State).sense = s.sense := id rfl
@[simp] theorem with_rail_tele (x : Rail) : ({ s with rail := x } : State).tele = s.tele := id rfl
@[simp] theorem with_rail_clock (x : Rail) : ({ s with rail := x } : State).clock = s.clock := id rfl
@[simp] theorem with_rail_word (x : Rail) (pq : Page) (oq : Nat) : ({ s with rail := x } : State).word pq oq = s.word pq oq := id rfl
@[simp] theorem with_rail_rd (x : Rail) (pq : Page) (gq : Fld) : ({ s with rail := x } : State).rd pq gq = s.rd pq gq := id rfl
@[simp] theorem with_rail_rdI (x : Rail) (pq : Page) (gq : Fld) : ({ s with rail := x } : State).rdI pq gq = s.rdI pq gq := id rfl
@[simp] theorem with_rail_bit (x : Rail) (pq : Page) (gq : Fld) : ({ s with rail := x } : State).bit pq gq = s.bit pq gq := id rfl

@[simp] theorem with_lanes_pending (x : Lanes) : ({ s with lanes := x } : State).pending = s.pending := id rfl
@[simp] theorem with_lanes_out (x : Lanes) : ({ s with lanes := x } : State).out = s.out := id rfl
@[simp] theorem with_lanes_fresh (x : Lanes) : ({ s with lanes := x } : State).fresh = s.fresh := id rfl
@[simp] theorem with_lanes_part (x : Lanes) : ({ s with lanes := x } : State).part = s.part := id rfl
@[simp] theorem with_lanes_time (x : Lanes) : ({ s with lanes := x } : State).time = s.time := id rfl
@[simp] theorem with_lanes_regs (x : Lanes) : ({ s with lanes := x } : State).regs = s.regs := id rfl
@[simp] theorem with_lanes_damage (x : Lanes) : ({ s with lanes := x } : State).damage = s.damage := id rfl
@[simp] theorem with_lanes_ctr (x : Lanes) : ({ s with lanes := x } : State).ctr = s.ctr := id rfl
@[simp] theorem with_lanes_host (x : Lanes) : ({ s with lanes := x } : State).host = s.host := id rfl
@[simp] theorem with_lanes_ses (x : Lanes) : ({ s with lanes := x } : State).ses = s.ses := id rfl
@[simp] theorem with_lanes_logRing (x : Lanes) : ({ s with lanes := x } : State).logRing = s.logRing := id rfl
@[simp] theorem with_lanes_hubEnd (x : Lanes) : ({ s with lanes := x } : State).hubEnd = s.hubEnd := id rfl
@[simp] theorem with_lanes_fieldEnd (x : Lanes) : ({ s with lanes := x } : State).fieldEnd = s.fieldEnd := id rfl
@[simp] theorem with_lanes_mirror (x : Lanes) : ({ s with lanes := x } : State).mirror = s.mirror := id rfl
@[simp] theorem with_lanes_field (x : Lanes) : ({ s with lanes := x } : State).field = s.field := id rfl
@[simp] theorem with_lanes_start (x : Lanes) : ({ s with lanes := x } : State).start = s.start := id rfl
@[simp] theorem with_lanes_pins (x : Lanes) : ({ s with lanes := x } : State).pins = s.pins := id rfl
@[simp] theorem with_lanes_cars (x : Lanes) : ({ s with lanes := x } : State).cars = s.cars := id rfl
@[simp] theorem with_lanes_tm (x : Lanes) : ({ s with lanes := x } : State).tm = s.tm := id rfl
@[simp] theorem with_lanes_cad (x : Lanes) : ({ s with lanes := x } : State).cad = s.cad := id rfl
@[simp] theorem with_lanes_mem (x : Lanes) : ({ s with lanes := x } : State).mem = s.mem := id rfl
@[simp] theorem with_lanes_sense (x : Lanes) : ({ s with lanes := x } : State).sense = s.sense := id rfl
@[simp] theorem with_lanes_tele (x : Lanes) : ({ s with lanes := x } : State).tele = s.tele := id rfl
@[simp] theorem with_lanes_rail (x : Lanes) : ({ s with lanes := x } : State).rail = s.rail := id rfl
@[simp] theorem with_lanes_clock (x : Lanes) : ({ s with lanes := x } : State).clock = s.clock := id rfl
@[simp] theorem with_lanes_word (x : Lanes) (pq : Page) (oq : Nat) : ({ s with lanes := x } : State).word pq oq = s.word pq oq := id rfl
@[simp] theorem with_lanes_rd (x : Lanes) (pq : Page) (gq : Fld) : ({ s with lanes := x } : State).rd pq gq = s.rd pq gq := id rfl
@[simp] theorem with_lanes_rdI (x : Lanes) (pq : Page) (gq : Fld) : ({ s with lanes := x } : State).rdI pq gq = s.rdI pq gq := id rfl
@[simp] theorem with_lanes_bit (x : Lanes) (pq : Page) (gq : Fld) : ({ s with lanes := x } : State).bit pq gq = s.bit pq gq := id rfl

@[simp] theorem with_ses_pending (x : SesEng) : ({ s with ses := x } : State).pending = s.pending := id rfl
@[simp] theorem with_ses_out (x : SesEng) : ({ s with ses := x } : State).out = s.out := id rfl
@[simp] theorem with_ses_fresh (x : SesEng) : ({ s with ses := x } : State).fresh = s.fresh := id rfl
@[simp] theorem with_ses_part (x : SesEng) : ({ s with ses := x } : State).part = s.part := id rfl
@[simp] theorem with_ses_time (x : SesEng) : ({ s with ses := x } : State).time = s.time := id rfl
@[simp] theorem with_ses_regs (x : SesEng) : ({ s with ses := x } : State).regs = s.regs := id rfl
@[simp] theorem with_ses_damage (x : SesEng) : ({ s with ses := x } : State).damage = s.damage := id rfl
@[simp] theorem with_ses_ctr (x : SesEng) : ({ s with ses := x } : State).ctr = s.ctr := id rfl
@[simp] theorem with_ses_host (x : SesEng) : ({ s with ses := x } : State).host = s.host := id rfl
@[simp] theorem with_ses_logRing (x : SesEng) : ({ s with ses := x } : State).logRing = s.logRing := id rfl
@[simp] theorem with_ses_hubEnd (x : SesEng) : ({ s with ses := x } : State).hubEnd = s.hubEnd := id rfl
@[simp] theorem with_ses_fieldEnd (x : SesEng) : ({ s with ses := x } : State).fieldEnd = s.fieldEnd := id rfl
@[simp] theorem with_ses_mirror (x : SesEng) : ({ s with ses := x } : State).mirror = s.mirror := id rfl
@[simp] theorem with_ses_field (x : SesEng) : ({ s with ses := x } : State).field = s.field := id rfl
@[simp] theorem with_ses_start (x : SesEng) : ({ s with ses := x } : State).start = s.start := id rfl
@[simp] theorem with_ses_pins (x : SesEng) : ({ s with ses := x } : State).pins = s.pins := id rfl
@[simp] theorem with_ses_cars (x : SesEng) : ({ s with ses := x } : State).cars = s.cars := id rfl
@[simp] theorem with_ses_tm (x : SesEng) : ({ s with ses := x } : State).tm = s.tm := id rfl
@[simp] theorem with_ses_cad (x : SesEng) : ({ s with ses := x } : State).cad = s.cad := id rfl
@[simp] theorem with_ses_mem (x : SesEng) : ({ s with ses := x } : State).mem = s.mem := id rfl
@[simp] theorem with_ses_lanes (x : SesEng) : ({ s with ses := x } : State).lanes = s.lanes := id rfl
@[simp] theorem with_ses_sense (x : SesEng) : ({ s with ses := x } : State).sense = s.sense := id rfl
@[simp] theorem with_ses_tele (x : SesEng) : ({ s with ses := x } : State).tele = s.tele := id rfl
@[simp] theorem with_ses_rail (x : SesEng) : ({ s with ses := x } : State).rail = s.rail := id rfl
@[simp] theorem with_ses_clock (x : SesEng) : ({ s with ses := x } : State).clock = s.clock := id rfl
@[simp] theorem with_ses_word (x : SesEng) (pq : Page) (oq : Nat) : ({ s with ses := x } : State).word pq oq = s.word pq oq := id rfl
@[simp] theorem with_ses_rd (x : SesEng) (pq : Page) (gq : Fld) : ({ s with ses := x } : State).rd pq gq = s.rd pq gq := id rfl
@[simp] theorem with_ses_rdI (x : SesEng) (pq : Page) (gq : Fld) : ({ s with ses := x } : State).rdI pq gq = s.rdI pq gq := id rfl
@[simp] theorem with_ses_bit (x : SesEng) (pq : Page) (gq : Fld) : ({ s with ses := x } : State).bit pq gq = s.bit pq gq := id rfl

@[simp] theorem with_damage_pending (x : SMap Nat) : ({ s with damage := x } : State).pending = s.pending := id rfl
@[simp] theorem with_damage_out (x : SMap Nat) : ({ s with damage := x } : State).out = s.out := id rfl
@[simp] theorem with_damage_fresh (x : SMap Nat) : ({ s with damage := x } : State).fresh = s.fresh := id rfl
@[simp] theorem with_damage_part (x : SMap Nat) : ({ s with damage := x } : State).part = s.part := id rfl
@[simp] theorem with_damage_time (x : SMap Nat) : ({ s with damage := x } : State).time = s.time := id rfl
@[simp] theorem with_damage_regs (x : SMap Nat) : ({ s with damage := x } : State).regs = s.regs := id rfl
@[simp] theorem with_damage_ctr (x : SMap Nat) : ({ s with damage := x } : State).ctr = s.ctr := id rfl
@[simp] theorem with_damage_host (x : SMap Nat) : ({ s with damage := x } : State).host = s.host := id rfl
@[simp] theorem with_damage_ses (x : SMap Nat) : ({ s with damage := x } : State).ses = s.ses := id rfl
@[simp] theorem with_damage_logRing (x : SMap Nat) : ({ s with damage := x } : State).logRing = s.logRing := id rfl
@[simp] theorem with_damage_hubEnd (x : SMap Nat) : ({ s with damage := x } : State).hubEnd = s.hubEnd := id rfl
@[simp] theorem with_damage_fieldEnd (x : SMap Nat) : ({ s with damage := x } : State).fieldEnd = s.fieldEnd := id rfl
@[simp] theorem with_damage_mirror (x : SMap Nat) : ({ s with damage := x } : State).mirror = s.mirror := id rfl
@[simp] theorem with_damage_field (x : SMap Nat) : ({ s with damage := x } : State).field = s.field := id rfl
@[simp] theorem with_damage_start (x : SMap Nat) : ({ s with damage := x } : State).start = s.start := id rfl
@[simp] theorem with_damage_pins (x : SMap Nat) : ({ s with damage := x } : State).pins = s.pins := id rfl
@[simp] theorem with_damage_cars (x : SMap Nat) : ({ s with damage := x } : State).cars = s.cars := id rfl
@[simp] theorem with_damage_tm (x : SMap Nat) : ({ s with damage := x } : State).tm = s.tm := id rfl
@[simp] theorem with_damage_cad (x : SMap Nat) : ({ s with damage := x } : State).cad = s.cad := id rfl
@[simp] theorem with_damage_mem (x : SMap Nat) : ({ s with damage := x } : State).mem = s.mem := id rfl
@[simp] theorem with_damage_lanes (x : SMap Nat) : ({ s with damage := x } : State).lanes = s.lanes := id rfl
@[simp] theorem with_damage_sense (x : SMap Nat) : ({ s with damage := x } : State).sense = s.sense := id rfl
@[simp] theorem with_damage_tele (x : SMap Nat) : ({ s with damage := x } : State).tele = s.tele := id rfl
@[simp] theorem with_damage_rail (x : SMap Nat) : ({ s with damage := x } : State).rail = s.rail := id rfl
@[simp] theorem with_damage_clock (x : SMap Nat) : ({ s with damage := x } : State).clock = s.clock := id rfl
@[simp] theorem with_damage_word (x : SMap Nat) (pq : Page) (oq : Nat) : ({ s with damage := x } : State).word pq oq = s.word pq oq := id rfl
@[simp] theorem with_damage_rd (x : SMap Nat) (pq : Page) (gq : Fld) : ({ s with damage := x } : State).rd pq gq = s.rd pq gq := id rfl
@[simp] theorem with_damage_rdI (x : SMap Nat) (pq : Page) (gq : Fld) : ({ s with damage := x } : State).rdI pq gq = s.rdI pq gq := id rfl
@[simp] theorem with_damage_bit (x : SMap Nat) (pq : Page) (gq : Fld) : ({ s with damage := x } : State).bit pq gq = s.bit pq gq := id rfl

@[simp] theorem with_logRing_pending (x : SMap (BitVec 128)) : ({ s with logRing := x } : State).pending = s.pending := id rfl
@[simp] theorem with_logRing_out (x : SMap (BitVec 128)) : ({ s with logRing := x } : State).out = s.out := id rfl
@[simp] theorem with_logRing_fresh (x : SMap (BitVec 128)) : ({ s with logRing := x } : State).fresh = s.fresh := id rfl
@[simp] theorem with_logRing_part (x : SMap (BitVec 128)) : ({ s with logRing := x } : State).part = s.part := id rfl
@[simp] theorem with_logRing_time (x : SMap (BitVec 128)) : ({ s with logRing := x } : State).time = s.time := id rfl
@[simp] theorem with_logRing_regs (x : SMap (BitVec 128)) : ({ s with logRing := x } : State).regs = s.regs := id rfl
@[simp] theorem with_logRing_damage (x : SMap (BitVec 128)) : ({ s with logRing := x } : State).damage = s.damage := id rfl
@[simp] theorem with_logRing_ctr (x : SMap (BitVec 128)) : ({ s with logRing := x } : State).ctr = s.ctr := id rfl
@[simp] theorem with_logRing_host (x : SMap (BitVec 128)) : ({ s with logRing := x } : State).host = s.host := id rfl
@[simp] theorem with_logRing_ses (x : SMap (BitVec 128)) : ({ s with logRing := x } : State).ses = s.ses := id rfl
@[simp] theorem with_logRing_hubEnd (x : SMap (BitVec 128)) : ({ s with logRing := x } : State).hubEnd = s.hubEnd := id rfl
@[simp] theorem with_logRing_fieldEnd (x : SMap (BitVec 128)) : ({ s with logRing := x } : State).fieldEnd = s.fieldEnd := id rfl
@[simp] theorem with_logRing_mirror (x : SMap (BitVec 128)) : ({ s with logRing := x } : State).mirror = s.mirror := id rfl
@[simp] theorem with_logRing_field (x : SMap (BitVec 128)) : ({ s with logRing := x } : State).field = s.field := id rfl
@[simp] theorem with_logRing_start (x : SMap (BitVec 128)) : ({ s with logRing := x } : State).start = s.start := id rfl
@[simp] theorem with_logRing_pins (x : SMap (BitVec 128)) : ({ s with logRing := x } : State).pins = s.pins := id rfl
@[simp] theorem with_logRing_cars (x : SMap (BitVec 128)) : ({ s with logRing := x } : State).cars = s.cars := id rfl
@[simp] theorem with_logRing_tm (x : SMap (BitVec 128)) : ({ s with logRing := x } : State).tm = s.tm := id rfl
@[simp] theorem with_logRing_cad (x : SMap (BitVec 128)) : ({ s with logRing := x } : State).cad = s.cad := id rfl
@[simp] theorem with_logRing_mem (x : SMap (BitVec 128)) : ({ s with logRing := x } : State).mem = s.mem := id rfl
@[simp] theorem with_logRing_lanes (x : SMap (BitVec 128)) : ({ s with logRing := x } : State).lanes = s.lanes := id rfl
@[simp] theorem with_logRing_sense (x : SMap (BitVec 128)) : ({ s with logRing := x } : State).sense = s.sense := id rfl
@[simp] theorem with_logRing_tele (x : SMap (BitVec 128)) : ({ s with logRing := x } : State).tele = s.tele := id rfl
@[simp] theorem with_logRing_rail (x : SMap (BitVec 128)) : ({ s with logRing := x } : State).rail = s.rail := id rfl
@[simp] theorem with_logRing_clock (x : SMap (BitVec 128)) : ({ s with logRing := x } : State).clock = s.clock := id rfl
@[simp] theorem with_logRing_word (x : SMap (BitVec 128)) (pq : Page) (oq : Nat) : ({ s with logRing := x } : State).word pq oq = s.word pq oq := id rfl
@[simp] theorem with_logRing_rd (x : SMap (BitVec 128)) (pq : Page) (gq : Fld) : ({ s with logRing := x } : State).rd pq gq = s.rd pq gq := id rfl
@[simp] theorem with_logRing_rdI (x : SMap (BitVec 128)) (pq : Page) (gq : Fld) : ({ s with logRing := x } : State).rdI pq gq = s.rdI pq gq := id rfl
@[simp] theorem with_logRing_bit (x : SMap (BitVec 128)) (pq : Page) (gq : Fld) : ({ s with logRing := x } : State).bit pq gq = s.bit pq gq := id rfl

@[simp] theorem with_fresh_pending (x : Nat) : ({ s with fresh := x } : State).pending = s.pending := id rfl
@[simp] theorem with_fresh_out (x : Nat) : ({ s with fresh := x } : State).out = s.out := id rfl
@[simp] theorem with_fresh_part (x : Nat) : ({ s with fresh := x } : State).part = s.part := id rfl
@[simp] theorem with_fresh_time (x : Nat) : ({ s with fresh := x } : State).time = s.time := id rfl
@[simp] theorem with_fresh_regs (x : Nat) : ({ s with fresh := x } : State).regs = s.regs := id rfl
@[simp] theorem with_fresh_damage (x : Nat) : ({ s with fresh := x } : State).damage = s.damage := id rfl
@[simp] theorem with_fresh_ctr (x : Nat) : ({ s with fresh := x } : State).ctr = s.ctr := id rfl
@[simp] theorem with_fresh_host (x : Nat) : ({ s with fresh := x } : State).host = s.host := id rfl
@[simp] theorem with_fresh_ses (x : Nat) : ({ s with fresh := x } : State).ses = s.ses := id rfl
@[simp] theorem with_fresh_logRing (x : Nat) : ({ s with fresh := x } : State).logRing = s.logRing := id rfl
@[simp] theorem with_fresh_hubEnd (x : Nat) : ({ s with fresh := x } : State).hubEnd = s.hubEnd := id rfl
@[simp] theorem with_fresh_fieldEnd (x : Nat) : ({ s with fresh := x } : State).fieldEnd = s.fieldEnd := id rfl
@[simp] theorem with_fresh_mirror (x : Nat) : ({ s with fresh := x } : State).mirror = s.mirror := id rfl
@[simp] theorem with_fresh_field (x : Nat) : ({ s with fresh := x } : State).field = s.field := id rfl
@[simp] theorem with_fresh_start (x : Nat) : ({ s with fresh := x } : State).start = s.start := id rfl
@[simp] theorem with_fresh_pins (x : Nat) : ({ s with fresh := x } : State).pins = s.pins := id rfl
@[simp] theorem with_fresh_cars (x : Nat) : ({ s with fresh := x } : State).cars = s.cars := id rfl
@[simp] theorem with_fresh_tm (x : Nat) : ({ s with fresh := x } : State).tm = s.tm := id rfl
@[simp] theorem with_fresh_cad (x : Nat) : ({ s with fresh := x } : State).cad = s.cad := id rfl
@[simp] theorem with_fresh_mem (x : Nat) : ({ s with fresh := x } : State).mem = s.mem := id rfl
@[simp] theorem with_fresh_lanes (x : Nat) : ({ s with fresh := x } : State).lanes = s.lanes := id rfl
@[simp] theorem with_fresh_sense (x : Nat) : ({ s with fresh := x } : State).sense = s.sense := id rfl
@[simp] theorem with_fresh_tele (x : Nat) : ({ s with fresh := x } : State).tele = s.tele := id rfl
@[simp] theorem with_fresh_rail (x : Nat) : ({ s with fresh := x } : State).rail = s.rail := id rfl
@[simp] theorem with_fresh_clock (x : Nat) : ({ s with fresh := x } : State).clock = s.clock := id rfl
@[simp] theorem with_fresh_word (x : Nat) (pq : Page) (oq : Nat) : ({ s with fresh := x } : State).word pq oq = s.word pq oq := id rfl
@[simp] theorem with_fresh_rd (x : Nat) (pq : Page) (gq : Fld) : ({ s with fresh := x } : State).rd pq gq = s.rd pq gq := id rfl
@[simp] theorem with_fresh_rdI (x : Nat) (pq : Page) (gq : Fld) : ({ s with fresh := x } : State).rdI pq gq = s.rdI pq gq := id rfl
@[simp] theorem with_fresh_bit (x : Nat) (pq : Page) (gq : Fld) : ({ s with fresh := x } : State).bit pq gq = s.bit pq gq := id rfl

@[simp] theorem with_pending_out (x : List Instr) : ({ s with pending := x } : State).out = s.out := id rfl
@[simp] theorem with_pending_fresh (x : List Instr) : ({ s with pending := x } : State).fresh = s.fresh := id rfl
@[simp] theorem with_pending_part (x : List Instr) : ({ s with pending := x } : State).part = s.part := id rfl
@[simp] theorem with_pending_time (x : List Instr) : ({ s with pending := x } : State).time = s.time := id rfl
@[simp] theorem with_pending_regs (x : List Instr) : ({ s with pending := x } : State).regs = s.regs := id rfl
@[simp] theorem with_pending_damage (x : List Instr) : ({ s with pending := x } : State).damage = s.damage := id rfl
@[simp] theorem with_pending_ctr (x : List Instr) : ({ s with pending := x } : State).ctr = s.ctr := id rfl
@[simp] theorem with_pending_host (x : List Instr) : ({ s with pending := x } : State).host = s.host := id rfl
@[simp] theorem with_pending_ses (x : List Instr) : ({ s with pending := x } : State).ses = s.ses := id rfl
@[simp] theorem with_pending_logRing (x : List Instr) : ({ s with pending := x } : State).logRing = s.logRing := id rfl
@[simp] theorem with_pending_hubEnd (x : List Instr) : ({ s with pending := x } : State).hubEnd = s.hubEnd := id rfl
@[simp] theorem with_pending_fieldEnd (x : List Instr) : ({ s with pending := x } : State).fieldEnd = s.fieldEnd := id rfl
@[simp] theorem with_pending_mirror (x : List Instr) : ({ s with pending := x } : State).mirror = s.mirror := id rfl
@[simp] theorem with_pending_field (x : List Instr) : ({ s with pending := x } : State).field = s.field := id rfl
@[simp] theorem with_pending_start (x : List Instr) : ({ s with pending := x } : State).start = s.start := id rfl
@[simp] theorem with_pending_pins (x : List Instr) : ({ s with pending := x } : State).pins = s.pins := id rfl
@[simp] theorem with_pending_cars (x : List Instr) : ({ s with pending := x } : State).cars = s.cars := id rfl
@[simp] theorem with_pending_tm (x : List Instr) : ({ s with pending := x } : State).tm = s.tm := id rfl
@[simp] theorem with_pending_cad (x : List Instr) : ({ s with pending := x } : State).cad = s.cad := id rfl
@[simp] theorem with_pending_mem (x : List Instr) : ({ s with pending := x } : State).mem = s.mem := id rfl
@[simp] theorem with_pending_lanes (x : List Instr) : ({ s with pending := x } : State).lanes = s.lanes := id rfl
@[simp] theorem with_pending_sense (x : List Instr) : ({ s with pending := x } : State).sense = s.sense := id rfl
@[simp] theorem with_pending_tele (x : List Instr) : ({ s with pending := x } : State).tele = s.tele := id rfl
@[simp] theorem with_pending_rail (x : List Instr) : ({ s with pending := x } : State).rail = s.rail := id rfl
@[simp] theorem with_pending_clock (x : List Instr) : ({ s with pending := x } : State).clock = s.clock := id rfl
@[simp] theorem with_pending_word (x : List Instr) (pq : Page) (oq : Nat) : ({ s with pending := x } : State).word pq oq = s.word pq oq := id rfl
@[simp] theorem with_pending_rd (x : List Instr) (pq : Page) (gq : Fld) : ({ s with pending := x } : State).rd pq gq = s.rd pq gq := id rfl
@[simp] theorem with_pending_rdI (x : List Instr) (pq : Page) (gq : Fld) : ({ s with pending := x } : State).rdI pq gq = s.rdI pq gq := id rfl
@[simp] theorem with_pending_bit (x : List Instr) (pq : Page) (gq : Fld) : ({ s with pending := x } : State).bit pq gq = s.bit pq gq := id rfl

@[simp] theorem with_pins_pending (x : Pins) : ({ s with pins := x } : State).pending = s.pending := id rfl
@[simp] theorem with_pins_out (x : Pins) : ({ s with pins := x } : State).out = s.out := id rfl
@[simp] theorem with_pins_fresh (x : Pins) : ({ s with pins := x } : State).fresh = s.fresh := id rfl
@[simp] theorem with_pins_part (x : Pins) : ({ s with pins := x } : State).part = s.part := id rfl
@[simp] theorem with_pins_time (x : Pins) : ({ s with pins := x } : State).time = s.time := id rfl
@[simp] theorem with_pins_regs (x : Pins) : ({ s with pins := x } : State).regs = s.regs := id rfl
@[simp] theorem with_pins_damage (x : Pins) : ({ s with pins := x } : State).damage = s.damage := id rfl
@[simp] theorem with_pins_ctr (x : Pins) : ({ s with pins := x } : State).ctr = s.ctr := id rfl
@[simp] theorem with_pins_host (x : Pins) : ({ s with pins := x } : State).host = s.host := id rfl
@[simp] theorem with_pins_ses (x : Pins) : ({ s with pins := x } : State).ses = s.ses := id rfl
@[simp] theorem with_pins_logRing (x : Pins) : ({ s with pins := x } : State).logRing = s.logRing := id rfl
@[simp] theorem with_pins_hubEnd (x : Pins) : ({ s with pins := x } : State).hubEnd = s.hubEnd := id rfl
@[simp] theorem with_pins_fieldEnd (x : Pins) : ({ s with pins := x } : State).fieldEnd = s.fieldEnd := id rfl
@[simp] theorem with_pins_mirror (x : Pins) : ({ s with pins := x } : State).mirror = s.mirror := id rfl
@[simp] theorem with_pins_field (x : Pins) : ({ s with pins := x } : State).field = s.field := id rfl
@[simp] theorem with_pins_start (x : Pins) : ({ s with pins := x } : State).start = s.start := id rfl
@[simp] theorem with_pins_cars (x : Pins) : ({ s with pins := x } : State).cars = s.cars := id rfl
@[simp] theorem with_pins_tm (x : Pins) : ({ s with pins := x } : State).tm = s.tm := id rfl
@[simp] theorem with_pins_cad (x : Pins) : ({ s with pins := x } : State).cad = s.cad := id rfl
@[simp] theorem with_pins_mem (x : Pins) : ({ s with pins := x } : State).mem = s.mem := id rfl
@[simp] theorem with_pins_lanes (x : Pins) : ({ s with pins := x } : State).lanes = s.lanes := id rfl
@[simp] theorem with_pins_sense (x : Pins) : ({ s with pins := x } : State).sense = s.sense := id rfl
@[simp] theorem with_pins_tele (x : Pins) : ({ s with pins := x } : State).tele = s.tele := id rfl
@[simp] theorem with_pins_rail (x : Pins) : ({ s with pins := x } : State).rail = s.rail := id rfl
@[simp] theorem with_pins_clock (x : Pins) : ({ s with pins := x } : State).clock = s.clock := id rfl
@[simp] theorem with_pins_word (x : Pins) (pq : Page) (oq : Nat) : ({ s with pins := x } : State).word pq oq = s.word pq oq := id rfl
@[simp] theorem with_pins_rd (x : Pins) (pq : Page) (gq : Fld) : ({ s with pins := x } : State).rd pq gq = s.rd pq gq := id rfl
@[simp] theorem with_pins_rdI (x : Pins) (pq : Page) (gq : Fld) : ({ s with pins := x } : State).rdI pq gq = s.rdI pq gq := id rfl
@[simp] theorem with_pins_bit (x : Pins) (pq : Page) (gq : Fld) : ({ s with pins := x } : State).bit pq gq = s.bit pq gq := id rfl

@[simp] theorem with_clock_pending (x : Clock) : ({ s with clock := x } : State).pending = s.pending := id rfl
@[simp] theorem with_clock_out (x : Clock) : ({ s with clock := x } : State).out = s.out := id rfl
@[simp] theorem with_clock_fresh (x : Clock) : ({ s with clock := x } : State).fresh = s.fresh := id rfl
@[simp] theorem with_clock_part (x : Clock) : ({ s with clock := x } : State).part = s.part := id rfl
@[simp] theorem with_clock_time (x : Clock) : ({ s with clock := x } : State).time = s.time := id rfl
@[simp] theorem with_clock_regs (x : Clock) : ({ s with clock := x } : State).regs = s.regs := id rfl
@[simp] theorem with_clock_damage (x : Clock) : ({ s with clock := x } : State).damage = s.damage := id rfl
@[simp] theorem with_clock_ctr (x : Clock) : ({ s with clock := x } : State).ctr = s.ctr := id rfl
@[simp] theorem with_clock_host (x : Clock) : ({ s with clock := x } : State).host = s.host := id rfl
@[simp] theorem with_clock_ses (x : Clock) : ({ s with clock := x } : State).ses = s.ses := id rfl
@[simp] theorem with_clock_logRing (x : Clock) : ({ s with clock := x } : State).logRing = s.logRing := id rfl
@[simp] theorem with_clock_hubEnd (x : Clock) : ({ s with clock := x } : State).hubEnd = s.hubEnd := id rfl
@[simp] theorem with_clock_fieldEnd (x : Clock) : ({ s with clock := x } : State).fieldEnd = s.fieldEnd := id rfl
@[simp] theorem with_clock_mirror (x : Clock) : ({ s with clock := x } : State).mirror = s.mirror := id rfl
@[simp] theorem with_clock_field (x : Clock) : ({ s with clock := x } : State).field = s.field := id rfl
@[simp] theorem with_clock_start (x : Clock) : ({ s with clock := x } : State).start = s.start := id rfl
@[simp] theorem with_clock_pins (x : Clock) : ({ s with clock := x } : State).pins = s.pins := id rfl
@[simp] theorem with_clock_cars (x : Clock) : ({ s with clock := x } : State).cars = s.cars := id rfl
@[simp] theorem with_clock_tm (x : Clock) : ({ s with clock := x } : State).tm = s.tm := id rfl
@[simp] theorem with_clock_cad (x : Clock) : ({ s with clock := x } : State).cad = s.cad := id rfl
@[simp] theorem with_clock_mem (x : Clock) : ({ s with clock := x } : State).mem = s.mem := id rfl
@[simp] theorem with_clock_lanes (x : Clock) : ({ s with clock := x } : State).lanes = s.lanes := id rfl
@[simp] theorem with_clock_sense (x : Clock) : ({ s with clock := x } : State).sense = s.sense := id rfl
@[simp] theorem with_clock_tele (x : Clock) : ({ s with clock := x } : State).tele = s.tele := id rfl
@[simp] theorem with_clock_rail (x : Clock) : ({ s with clock := x } : State).rail = s.rail := id rfl
@[simp] theorem with_clock_word (x : Clock) (pq : Page) (oq : Nat) : ({ s with clock := x } : State).word pq oq = s.word pq oq := id rfl
@[simp] theorem with_clock_rd (x : Clock) (pq : Page) (gq : Fld) : ({ s with clock := x } : State).rd pq gq = s.rd pq gq := id rfl
@[simp] theorem with_clock_rdI (x : Clock) (pq : Page) (gq : Fld) : ({ s with clock := x } : State).rdI pq gq = s.rdI pq gq := id rfl
@[simp] theorem with_clock_bit (x : Clock) (pq : Page) (gq : Fld) : ({ s with clock := x } : State).bit pq gq = s.bit pq gq := id rfl

@[simp] theorem with_time_pending (x : BitVec 64) : ({ s with time := x } : State).pending = s.pending := id rfl
@[simp] theorem with_time_out (x : BitVec 64) : ({ s with time := x } : State).out = s.out := id rfl
@[simp] theorem with_time_fresh (x : BitVec 64) : ({ s with time := x } : State).fresh = s.fresh := id rfl
@[simp] theorem with_time_part (x : BitVec 64) : ({ s with time := x } : State).part = s.part := id rfl
@[simp] theorem with_time_regs (x : BitVec 64) : ({ s with time := x } : State).regs = s.regs := id rfl
@[simp] theorem with_time_damage (x : BitVec 64) : ({ s with time := x } : State).damage = s.damage := id rfl
@[simp] theorem with_time_ctr (x : BitVec 64) : ({ s with time := x } : State).ctr = s.ctr := id rfl
@[simp] theorem with_time_host (x : BitVec 64) : ({ s with time := x } : State).host = s.host := id rfl
@[simp] theorem with_time_ses (x : BitVec 64) : ({ s with time := x } : State).ses = s.ses := id rfl
@[simp] theorem with_time_logRing (x : BitVec 64) : ({ s with time := x } : State).logRing = s.logRing := id rfl
@[simp] theorem with_time_hubEnd (x : BitVec 64) : ({ s with time := x } : State).hubEnd = s.hubEnd := id rfl
@[simp] theorem with_time_fieldEnd (x : BitVec 64) : ({ s with time := x } : State).fieldEnd = s.fieldEnd := id rfl
@[simp] theorem with_time_mirror (x : BitVec 64) : ({ s with time := x } : State).mirror = s.mirror := id rfl
@[simp] theorem with_time_field (x : BitVec 64) : ({ s with time := x } : State).field = s.field := id rfl
@[simp] theorem with_time_start (x : BitVec 64) : ({ s with time := x } : State).start = s.start := id rfl
@[simp] theorem with_time_pins (x : BitVec 64) : ({ s with time := x } : State).pins = s.pins := id rfl
@[simp] theorem with_time_cars (x : BitVec 64) : ({ s with time := x } : State).cars = s.cars := id rfl
@[simp] theorem with_time_tm (x : BitVec 64) : ({ s with time := x } : State).tm = s.tm := id rfl
@[simp] theorem with_time_cad (x : BitVec 64) : ({ s with time := x } : State).cad = s.cad := id rfl
@[simp] theorem with_time_mem (x : BitVec 64) : ({ s with time := x } : State).mem = s.mem := id rfl
@[simp] theorem with_time_lanes (x : BitVec 64) : ({ s with time := x } : State).lanes = s.lanes := id rfl
@[simp] theorem with_time_sense (x : BitVec 64) : ({ s with time := x } : State).sense = s.sense := id rfl
@[simp] theorem with_time_tele (x : BitVec 64) : ({ s with time := x } : State).tele = s.tele := id rfl
@[simp] theorem with_time_rail (x : BitVec 64) : ({ s with time := x } : State).rail = s.rail := id rfl
@[simp] theorem with_time_clock (x : BitVec 64) : ({ s with time := x } : State).clock = s.clock := id rfl
@[simp] theorem with_time_word (x : BitVec 64) (pq : Page) (oq : Nat) : ({ s with time := x } : State).word pq oq = s.word pq oq := id rfl
@[simp] theorem with_time_rd (x : BitVec 64) (pq : Page) (gq : Fld) : ({ s with time := x } : State).rd pq gq = s.rd pq gq := id rfl
@[simp] theorem with_time_rdI (x : BitVec 64) (pq : Page) (gq : Fld) : ({ s with time := x } : State).rdI pq gq = s.rdI pq gq := id rfl
@[simp] theorem with_time_bit (x : BitVec 64) (pq : Page) (gq : Fld) : ({ s with time := x } : State).bit pq gq = s.bit pq gq := id rfl

@[simp] theorem setWord_pending (p : Page) (o : Nat) (w : Word) : (s.setWord p o w).pending = s.pending := with_regs_pending s _
@[simp] theorem setWord_out (p : Page) (o : Nat) (w : Word) : (s.setWord p o w).out = s.out := with_regs_out s _
@[simp] theorem setWord_fresh (p : Page) (o : Nat) (w : Word) : (s.setWord p o w).fresh = s.fresh := with_regs_fresh s _
@[simp] theorem setWord_part (p : Page) (o : Nat) (w : Word) : (s.setWord p o w).part = s.part := with_regs_part s _
@[simp] theorem setWord_time (p : Page) (o : Nat) (w : Word) : (s.setWord p o w).time = s.time := with_regs_time s _
@[simp] theorem setWord_damage (p : Page) (o : Nat) (w : Word) : (s.setWord p o w).damage = s.damage := with_regs_damage s _
@[simp] theorem setWord_ctr (p : Page) (o : Nat) (w : Word) : (s.setWord p o w).ctr = s.ctr := with_regs_ctr s _
@[simp] theorem setWord_host (p : Page) (o : Nat) (w : Word) : (s.setWord p o w).host = s.host := with_regs_host s _
@[simp] theorem setWord_ses (p : Page) (o : Nat) (w : Word) : (s.setWord p o w).ses = s.ses := with_regs_ses s _
@[simp] theorem setWord_logRing (p : Page) (o : Nat) (w : Word) : (s.setWord p o w).logRing = s.logRing := with_regs_logRing s _
@[simp] theorem setWord_hubEnd (p : Page) (o : Nat) (w : Word) : (s.setWord p o w).hubEnd = s.hubEnd := with_regs_hubEnd s _
@[simp] theorem setWord_fieldEnd (p : Page) (o : Nat) (w : Word) : (s.setWord p o w).fieldEnd = s.fieldEnd := with_regs_fieldEnd s _
@[simp] theorem setWord_mirror (p : Page) (o : Nat) (w : Word) : (s.setWord p o w).mirror = s.mirror := with_regs_mirror s _
@[simp] theorem setWord_field (p : Page) (o : Nat) (w : Word) : (s.setWord p o w).field = s.field := with_regs_field s _
@[simp] theorem setWord_start (p : Page) (o : Nat) (w : Word) : (s.setWord p o w).start = s.start := with_regs_start s _
@[simp] theorem setWord_pins (p : Page) (o : Nat) (w : Word) : (s.setWord p o w).pins = s.pins := with_regs_pins s _
@[simp] theorem setWord_cars (p : Page) (o : Nat) (w : Word) : (s.setWord p o w).cars = s.cars := with_regs_cars s _
@[simp] theorem setWord_tm (p : Page) (o : Nat) (w : Word) : (s.setWord p o w).tm = s.tm := with_regs_tm s _
@[simp] theorem setWord_cad (p : Page) (o : Nat) (w : Word) : (s.setWord p o w).cad = s.cad := with_regs_cad s _
@[simp] theorem setWord_mem (p : Page) (o : Nat) (w : Word) : (s.setWord p o w).mem = s.mem := with_regs_mem s _
@[simp] theorem setWord_lanes (p : Page) (o : Nat) (w : Word) : (s.setWord p o w).lanes = s.lanes := with_regs_lanes s _
@[simp] theorem setWord_sense (p : Page) (o : Nat) (w : Word) : (s.setWord p o w).sense = s.sense := with_regs_sense s _
@[simp] theorem setWord_tele (p : Page) (o : Nat) (w : Word) : (s.setWord p o w).tele = s.tele := with_regs_tele s _
@[simp] theorem setWord_rail (p : Page) (o : Nat) (w : Word) : (s.setWord p o w).rail = s.rail := with_regs_rail s _
@[simp] theorem setWord_clock (p : Page) (o : Nat) (w : Word) : (s.setWord p o w).clock = s.clock := with_regs_clock s _

@[simp] theorem wr_pending (p : Page) (f : Fld) (n : Nat) : (s.wr p f n).pending = s.pending := with_regs_pending s _
@[simp] theorem wr_out (p : Page) (f : Fld) (n : Nat) : (s.wr p f n).out = s.out := with_regs_out s _
@[simp] theorem wr_fresh (p : Page) (f : Fld) (n : Nat) : (s.wr p f n).fresh = s.fresh := with_regs_fresh s _
@[simp] theorem wr_part (p : Page) (f : Fld) (n : Nat) : (s.wr p f n).part = s.part := with_regs_part s _
@[simp] theorem wr_time (p : Page) (f : Fld) (n : Nat) : (s.wr p f n).time = s.time := with_regs_time s _
@[simp] theorem wr_damage (p : Page) (f : Fld) (n : Nat) : (s.wr p f n).damage = s.damage := with_regs_damage s _
@[simp] theorem wr_ctr (p : Page) (f : Fld) (n : Nat) : (s.wr p f n).ctr = s.ctr := with_regs_ctr s _
@[simp] theorem wr_host (p : Page) (f : Fld) (n : Nat) : (s.wr p f n).host = s.host := with_regs_host s _
@[simp] theorem wr_ses (p : Page) (f : Fld) (n : Nat) : (s.wr p f n).ses = s.ses := with_regs_ses s _
@[simp] theorem wr_logRing (p : Page) (f : Fld) (n : Nat) : (s.wr p f n).logRing = s.logRing := with_regs_logRing s _
@[simp] theorem wr_hubEnd (p : Page) (f : Fld) (n : Nat) : (s.wr p f n).hubEnd = s.hubEnd := with_regs_hubEnd s _
@[simp] theorem wr_fieldEnd (p : Page) (f : Fld) (n : Nat) : (s.wr p f n).fieldEnd = s.fieldEnd := with_regs_fieldEnd s _
@[simp] theorem wr_mirror (p : Page) (f : Fld) (n : Nat) : (s.wr p f n).mirror = s.mirror := with_regs_mirror s _
@[simp] theorem wr_field (p : Page) (f : Fld) (n : Nat) : (s.wr p f n).field = s.field := with_regs_field s _
@[simp] theorem wr_start (p : Page) (f : Fld) (n : Nat) : (s.wr p f n).start = s.start := with_regs_start s _
@[simp] theorem wr_pins (p : Page) (f : Fld) (n : Nat) : (s.wr p f n).pins = s.pins := with_regs_pins s _
@[simp] theorem wr_cars (p : Page) (f : Fld) (n : Nat) : (s.wr p f n).cars = s.cars := with_regs_cars s _
@[simp] theorem wr_tm (p : Page) (f : Fld) (n : Nat) : (s.wr p f n).tm = s.tm := with_regs_tm s _
@[simp] theorem wr_cad (p : Page) (f : Fld) (n : Nat) : (s.wr p f n).cad = s.cad := with_regs_cad s _
@[simp] theorem wr_mem (p : Page) (f : Fld) (n : Nat) : (s.wr p f n).mem = s.mem := with_regs_mem s _
@[simp] theorem wr_lanes (p : Page) (f : Fld) (n : Nat) : (s.wr p f n).lanes = s.lanes := with_regs_lanes s _
@[simp] theorem wr_sense (p : Page) (f : Fld) (n : Nat) : (s.wr p f n).sense = s.sense := with_regs_sense s _
@[simp] theorem wr_tele (p : Page) (f : Fld) (n : Nat) : (s.wr p f n).tele = s.tele := with_regs_tele s _
@[simp] theorem wr_rail (p : Page) (f : Fld) (n : Nat) : (s.wr p f n).rail = s.rail := with_regs_rail s _
@[simp] theorem wr_clock (p : Page) (f : Fld) (n : Nat) : (s.wr p f n).clock = s.clock := with_regs_clock s _

@[simp] theorem wrI_pending (p : Page) (f : Fld) (n : Int) : (s.wrI p f n).pending = s.pending := with_regs_pending s _
@[simp] theorem wrI_out (p : Page) (f : Fld) (n : Int) : (s.wrI p f n).out = s.out := with_regs_out s _
@[simp] theorem wrI_fresh (p : Page) (f : Fld) (n : Int) : (s.wrI p f n).fresh = s.fresh := with_regs_fresh s _
@[simp] theorem wrI_part (p : Page) (f : Fld) (n : Int) : (s.wrI p f n).part = s.part := with_regs_part s _
@[simp] theorem wrI_time (p : Page) (f : Fld) (n : Int) : (s.wrI p f n).time = s.time := with_regs_time s _
@[simp] theorem wrI_damage (p : Page) (f : Fld) (n : Int) : (s.wrI p f n).damage = s.damage := with_regs_damage s _
@[simp] theorem wrI_ctr (p : Page) (f : Fld) (n : Int) : (s.wrI p f n).ctr = s.ctr := with_regs_ctr s _
@[simp] theorem wrI_host (p : Page) (f : Fld) (n : Int) : (s.wrI p f n).host = s.host := with_regs_host s _
@[simp] theorem wrI_ses (p : Page) (f : Fld) (n : Int) : (s.wrI p f n).ses = s.ses := with_regs_ses s _
@[simp] theorem wrI_logRing (p : Page) (f : Fld) (n : Int) : (s.wrI p f n).logRing = s.logRing := with_regs_logRing s _
@[simp] theorem wrI_hubEnd (p : Page) (f : Fld) (n : Int) : (s.wrI p f n).hubEnd = s.hubEnd := with_regs_hubEnd s _
@[simp] theorem wrI_fieldEnd (p : Page) (f : Fld) (n : Int) : (s.wrI p f n).fieldEnd = s.fieldEnd := with_regs_fieldEnd s _
@[simp] theorem wrI_mirror (p : Page) (f : Fld) (n : Int) : (s.wrI p f n).mirror = s.mirror := with_regs_mirror s _
@[simp] theorem wrI_field (p : Page) (f : Fld) (n : Int) : (s.wrI p f n).field = s.field := with_regs_field s _
@[simp] theorem wrI_start (p : Page) (f : Fld) (n : Int) : (s.wrI p f n).start = s.start := with_regs_start s _
@[simp] theorem wrI_pins (p : Page) (f : Fld) (n : Int) : (s.wrI p f n).pins = s.pins := with_regs_pins s _
@[simp] theorem wrI_cars (p : Page) (f : Fld) (n : Int) : (s.wrI p f n).cars = s.cars := with_regs_cars s _
@[simp] theorem wrI_tm (p : Page) (f : Fld) (n : Int) : (s.wrI p f n).tm = s.tm := with_regs_tm s _
@[simp] theorem wrI_cad (p : Page) (f : Fld) (n : Int) : (s.wrI p f n).cad = s.cad := with_regs_cad s _
@[simp] theorem wrI_mem (p : Page) (f : Fld) (n : Int) : (s.wrI p f n).mem = s.mem := with_regs_mem s _
@[simp] theorem wrI_lanes (p : Page) (f : Fld) (n : Int) : (s.wrI p f n).lanes = s.lanes := with_regs_lanes s _
@[simp] theorem wrI_sense (p : Page) (f : Fld) (n : Int) : (s.wrI p f n).sense = s.sense := with_regs_sense s _
@[simp] theorem wrI_tele (p : Page) (f : Fld) (n : Int) : (s.wrI p f n).tele = s.tele := with_regs_tele s _
@[simp] theorem wrI_rail (p : Page) (f : Fld) (n : Int) : (s.wrI p f n).rail = s.rail := with_regs_rail s _
@[simp] theorem wrI_clock (p : Page) (f : Fld) (n : Int) : (s.wrI p f n).clock = s.clock := with_regs_clock s _

@[simp] theorem wb_pending (p : Page) (f : Fld) (b : Bool) : (s.wb p f b).pending = s.pending := with_regs_pending s _
@[simp] theorem wb_out (p : Page) (f : Fld) (b : Bool) : (s.wb p f b).out = s.out := with_regs_out s _
@[simp] theorem wb_fresh (p : Page) (f : Fld) (b : Bool) : (s.wb p f b).fresh = s.fresh := with_regs_fresh s _
@[simp] theorem wb_part (p : Page) (f : Fld) (b : Bool) : (s.wb p f b).part = s.part := with_regs_part s _
@[simp] theorem wb_time (p : Page) (f : Fld) (b : Bool) : (s.wb p f b).time = s.time := with_regs_time s _
@[simp] theorem wb_damage (p : Page) (f : Fld) (b : Bool) : (s.wb p f b).damage = s.damage := with_regs_damage s _
@[simp] theorem wb_ctr (p : Page) (f : Fld) (b : Bool) : (s.wb p f b).ctr = s.ctr := with_regs_ctr s _
@[simp] theorem wb_host (p : Page) (f : Fld) (b : Bool) : (s.wb p f b).host = s.host := with_regs_host s _
@[simp] theorem wb_ses (p : Page) (f : Fld) (b : Bool) : (s.wb p f b).ses = s.ses := with_regs_ses s _
@[simp] theorem wb_logRing (p : Page) (f : Fld) (b : Bool) : (s.wb p f b).logRing = s.logRing := with_regs_logRing s _
@[simp] theorem wb_hubEnd (p : Page) (f : Fld) (b : Bool) : (s.wb p f b).hubEnd = s.hubEnd := with_regs_hubEnd s _
@[simp] theorem wb_fieldEnd (p : Page) (f : Fld) (b : Bool) : (s.wb p f b).fieldEnd = s.fieldEnd := with_regs_fieldEnd s _
@[simp] theorem wb_mirror (p : Page) (f : Fld) (b : Bool) : (s.wb p f b).mirror = s.mirror := with_regs_mirror s _
@[simp] theorem wb_field (p : Page) (f : Fld) (b : Bool) : (s.wb p f b).field = s.field := with_regs_field s _
@[simp] theorem wb_start (p : Page) (f : Fld) (b : Bool) : (s.wb p f b).start = s.start := with_regs_start s _
@[simp] theorem wb_pins (p : Page) (f : Fld) (b : Bool) : (s.wb p f b).pins = s.pins := with_regs_pins s _
@[simp] theorem wb_cars (p : Page) (f : Fld) (b : Bool) : (s.wb p f b).cars = s.cars := with_regs_cars s _
@[simp] theorem wb_tm (p : Page) (f : Fld) (b : Bool) : (s.wb p f b).tm = s.tm := with_regs_tm s _
@[simp] theorem wb_cad (p : Page) (f : Fld) (b : Bool) : (s.wb p f b).cad = s.cad := with_regs_cad s _
@[simp] theorem wb_mem (p : Page) (f : Fld) (b : Bool) : (s.wb p f b).mem = s.mem := with_regs_mem s _
@[simp] theorem wb_lanes (p : Page) (f : Fld) (b : Bool) : (s.wb p f b).lanes = s.lanes := with_regs_lanes s _
@[simp] theorem wb_sense (p : Page) (f : Fld) (b : Bool) : (s.wb p f b).sense = s.sense := with_regs_sense s _
@[simp] theorem wb_tele (p : Page) (f : Fld) (b : Bool) : (s.wb p f b).tele = s.tele := with_regs_tele s _
@[simp] theorem wb_rail (p : Page) (f : Fld) (b : Bool) : (s.wb p f b).rail = s.rail := with_regs_rail s _
@[simp] theorem wb_clock (p : Page) (f : Fld) (b : Bool) : (s.wb p f b).clock = s.clock := with_regs_clock s _

@[simp] theorem sat_pending (p : Page) (f : Fld) (n : Nat) : (s.sat p f n).pending = s.pending := with_regs_pending s _
@[simp] theorem sat_out (p : Page) (f : Fld) (n : Nat) : (s.sat p f n).out = s.out := with_regs_out s _
@[simp] theorem sat_fresh (p : Page) (f : Fld) (n : Nat) : (s.sat p f n).fresh = s.fresh := with_regs_fresh s _
@[simp] theorem sat_part (p : Page) (f : Fld) (n : Nat) : (s.sat p f n).part = s.part := with_regs_part s _
@[simp] theorem sat_time (p : Page) (f : Fld) (n : Nat) : (s.sat p f n).time = s.time := with_regs_time s _
@[simp] theorem sat_damage (p : Page) (f : Fld) (n : Nat) : (s.sat p f n).damage = s.damage := with_regs_damage s _
@[simp] theorem sat_ctr (p : Page) (f : Fld) (n : Nat) : (s.sat p f n).ctr = s.ctr := with_regs_ctr s _
@[simp] theorem sat_host (p : Page) (f : Fld) (n : Nat) : (s.sat p f n).host = s.host := with_regs_host s _
@[simp] theorem sat_ses (p : Page) (f : Fld) (n : Nat) : (s.sat p f n).ses = s.ses := with_regs_ses s _
@[simp] theorem sat_logRing (p : Page) (f : Fld) (n : Nat) : (s.sat p f n).logRing = s.logRing := with_regs_logRing s _
@[simp] theorem sat_hubEnd (p : Page) (f : Fld) (n : Nat) : (s.sat p f n).hubEnd = s.hubEnd := with_regs_hubEnd s _
@[simp] theorem sat_fieldEnd (p : Page) (f : Fld) (n : Nat) : (s.sat p f n).fieldEnd = s.fieldEnd := with_regs_fieldEnd s _
@[simp] theorem sat_mirror (p : Page) (f : Fld) (n : Nat) : (s.sat p f n).mirror = s.mirror := with_regs_mirror s _
@[simp] theorem sat_field (p : Page) (f : Fld) (n : Nat) : (s.sat p f n).field = s.field := with_regs_field s _
@[simp] theorem sat_start (p : Page) (f : Fld) (n : Nat) : (s.sat p f n).start = s.start := with_regs_start s _
@[simp] theorem sat_pins (p : Page) (f : Fld) (n : Nat) : (s.sat p f n).pins = s.pins := with_regs_pins s _
@[simp] theorem sat_cars (p : Page) (f : Fld) (n : Nat) : (s.sat p f n).cars = s.cars := with_regs_cars s _
@[simp] theorem sat_tm (p : Page) (f : Fld) (n : Nat) : (s.sat p f n).tm = s.tm := with_regs_tm s _
@[simp] theorem sat_cad (p : Page) (f : Fld) (n : Nat) : (s.sat p f n).cad = s.cad := with_regs_cad s _
@[simp] theorem sat_mem (p : Page) (f : Fld) (n : Nat) : (s.sat p f n).mem = s.mem := with_regs_mem s _
@[simp] theorem sat_lanes (p : Page) (f : Fld) (n : Nat) : (s.sat p f n).lanes = s.lanes := with_regs_lanes s _
@[simp] theorem sat_sense (p : Page) (f : Fld) (n : Nat) : (s.sat p f n).sense = s.sense := with_regs_sense s _
@[simp] theorem sat_tele (p : Page) (f : Fld) (n : Nat) : (s.sat p f n).tele = s.tele := with_regs_tele s _
@[simp] theorem sat_rail (p : Page) (f : Fld) (n : Nat) : (s.sat p f n).rail = s.rail := with_regs_rail s _
@[simp] theorem sat_clock (p : Page) (f : Fld) (n : Nat) : (s.sat p f n).clock = s.clock := with_regs_clock s _

@[simp] theorem setPst_pending (p : Page) (n : Nat) : (s.setPst p n).pending = s.pending := with_regs_pending s _
@[simp] theorem setPst_out (p : Page) (n : Nat) : (s.setPst p n).out = s.out := with_regs_out s _
@[simp] theorem setPst_fresh (p : Page) (n : Nat) : (s.setPst p n).fresh = s.fresh := with_regs_fresh s _
@[simp] theorem setPst_part (p : Page) (n : Nat) : (s.setPst p n).part = s.part := with_regs_part s _
@[simp] theorem setPst_time (p : Page) (n : Nat) : (s.setPst p n).time = s.time := with_regs_time s _
@[simp] theorem setPst_damage (p : Page) (n : Nat) : (s.setPst p n).damage = s.damage := with_regs_damage s _
@[simp] theorem setPst_ctr (p : Page) (n : Nat) : (s.setPst p n).ctr = s.ctr := with_regs_ctr s _
@[simp] theorem setPst_host (p : Page) (n : Nat) : (s.setPst p n).host = s.host := with_regs_host s _
@[simp] theorem setPst_ses (p : Page) (n : Nat) : (s.setPst p n).ses = s.ses := with_regs_ses s _
@[simp] theorem setPst_logRing (p : Page) (n : Nat) : (s.setPst p n).logRing = s.logRing := with_regs_logRing s _
@[simp] theorem setPst_hubEnd (p : Page) (n : Nat) : (s.setPst p n).hubEnd = s.hubEnd := with_regs_hubEnd s _
@[simp] theorem setPst_fieldEnd (p : Page) (n : Nat) : (s.setPst p n).fieldEnd = s.fieldEnd := with_regs_fieldEnd s _
@[simp] theorem setPst_mirror (p : Page) (n : Nat) : (s.setPst p n).mirror = s.mirror := with_regs_mirror s _
@[simp] theorem setPst_field (p : Page) (n : Nat) : (s.setPst p n).field = s.field := with_regs_field s _
@[simp] theorem setPst_start (p : Page) (n : Nat) : (s.setPst p n).start = s.start := with_regs_start s _
@[simp] theorem setPst_pins (p : Page) (n : Nat) : (s.setPst p n).pins = s.pins := with_regs_pins s _
@[simp] theorem setPst_cars (p : Page) (n : Nat) : (s.setPst p n).cars = s.cars := with_regs_cars s _
@[simp] theorem setPst_tm (p : Page) (n : Nat) : (s.setPst p n).tm = s.tm := with_regs_tm s _
@[simp] theorem setPst_cad (p : Page) (n : Nat) : (s.setPst p n).cad = s.cad := with_regs_cad s _
@[simp] theorem setPst_mem (p : Page) (n : Nat) : (s.setPst p n).mem = s.mem := with_regs_mem s _
@[simp] theorem setPst_lanes (p : Page) (n : Nat) : (s.setPst p n).lanes = s.lanes := with_regs_lanes s _
@[simp] theorem setPst_sense (p : Page) (n : Nat) : (s.setPst p n).sense = s.sense := with_regs_sense s _
@[simp] theorem setPst_tele (p : Page) (n : Nat) : (s.setPst p n).tele = s.tele := with_regs_tele s _
@[simp] theorem setPst_rail (p : Page) (n : Nat) : (s.setPst p n).rail = s.rail := with_regs_rail s _
@[simp] theorem setPst_clock (p : Page) (n : Nat) : (s.setPst p n).clock = s.clock := with_regs_clock s _

@[simp] theorem emit_pending (ov : Output) : (s.emit ov).pending = s.pending := with_out_pending s _
@[simp] theorem emit_fresh (ov : Output) : (s.emit ov).fresh = s.fresh := with_out_fresh s _
@[simp] theorem emit_part (ov : Output) : (s.emit ov).part = s.part := with_out_part s _
@[simp] theorem emit_time (ov : Output) : (s.emit ov).time = s.time := with_out_time s _
@[simp] theorem emit_regs (ov : Output) : (s.emit ov).regs = s.regs := with_out_regs s _
@[simp] theorem emit_damage (ov : Output) : (s.emit ov).damage = s.damage := with_out_damage s _
@[simp] theorem emit_ctr (ov : Output) : (s.emit ov).ctr = s.ctr := with_out_ctr s _
@[simp] theorem emit_host (ov : Output) : (s.emit ov).host = s.host := with_out_host s _
@[simp] theorem emit_ses (ov : Output) : (s.emit ov).ses = s.ses := with_out_ses s _
@[simp] theorem emit_logRing (ov : Output) : (s.emit ov).logRing = s.logRing := with_out_logRing s _
@[simp] theorem emit_hubEnd (ov : Output) : (s.emit ov).hubEnd = s.hubEnd := with_out_hubEnd s _
@[simp] theorem emit_fieldEnd (ov : Output) : (s.emit ov).fieldEnd = s.fieldEnd := with_out_fieldEnd s _
@[simp] theorem emit_mirror (ov : Output) : (s.emit ov).mirror = s.mirror := with_out_mirror s _
@[simp] theorem emit_field (ov : Output) : (s.emit ov).field = s.field := with_out_field s _
@[simp] theorem emit_start (ov : Output) : (s.emit ov).start = s.start := with_out_start s _
@[simp] theorem emit_pins (ov : Output) : (s.emit ov).pins = s.pins := with_out_pins s _
@[simp] theorem emit_cars (ov : Output) : (s.emit ov).cars = s.cars := with_out_cars s _
@[simp] theorem emit_tm (ov : Output) : (s.emit ov).tm = s.tm := with_out_tm s _
@[simp] theorem emit_cad (ov : Output) : (s.emit ov).cad = s.cad := with_out_cad s _
@[simp] theorem emit_mem (ov : Output) : (s.emit ov).mem = s.mem := with_out_mem s _
@[simp] theorem emit_lanes (ov : Output) : (s.emit ov).lanes = s.lanes := with_out_lanes s _
@[simp] theorem emit_sense (ov : Output) : (s.emit ov).sense = s.sense := with_out_sense s _
@[simp] theorem emit_tele (ov : Output) : (s.emit ov).tele = s.tele := with_out_tele s _
@[simp] theorem emit_rail (ov : Output) : (s.emit ov).rail = s.rail := with_out_rail s _
@[simp] theorem emit_clock (ov : Output) : (s.emit ov).clock = s.clock := with_out_clock s _
@[simp] theorem emit_word (ov : Output) (pq : Page) (oq : Nat) : (s.emit ov).word pq oq = s.word pq oq := id rfl
@[simp] theorem emit_rd (ov : Output) (pq : Page) (gq : Fld) : (s.emit ov).rd pq gq = s.rd pq gq := id rfl
@[simp] theorem emit_rdI (ov : Output) (pq : Page) (gq : Fld) : (s.emit ov).rdI pq gq = s.rdI pq gq := id rfl
@[simp] theorem emit_bit (ov : Output) (pq : Page) (gq : Fld) : (s.emit ov).bit pq gq = s.bit pq gq := id rfl

@[simp] theorem countAt_pending (a n : Nat) : (s.countAt a n).pending = s.pending := with_ctr_pending s _
@[simp] theorem countAt_out (a n : Nat) : (s.countAt a n).out = s.out := with_ctr_out s _
@[simp] theorem countAt_fresh (a n : Nat) : (s.countAt a n).fresh = s.fresh := with_ctr_fresh s _
@[simp] theorem countAt_part (a n : Nat) : (s.countAt a n).part = s.part := with_ctr_part s _
@[simp] theorem countAt_time (a n : Nat) : (s.countAt a n).time = s.time := with_ctr_time s _
@[simp] theorem countAt_regs (a n : Nat) : (s.countAt a n).regs = s.regs := with_ctr_regs s _
@[simp] theorem countAt_damage (a n : Nat) : (s.countAt a n).damage = s.damage := with_ctr_damage s _
@[simp] theorem countAt_host (a n : Nat) : (s.countAt a n).host = s.host := with_ctr_host s _
@[simp] theorem countAt_ses (a n : Nat) : (s.countAt a n).ses = s.ses := with_ctr_ses s _
@[simp] theorem countAt_logRing (a n : Nat) : (s.countAt a n).logRing = s.logRing := with_ctr_logRing s _
@[simp] theorem countAt_hubEnd (a n : Nat) : (s.countAt a n).hubEnd = s.hubEnd := with_ctr_hubEnd s _
@[simp] theorem countAt_fieldEnd (a n : Nat) : (s.countAt a n).fieldEnd = s.fieldEnd := with_ctr_fieldEnd s _
@[simp] theorem countAt_mirror (a n : Nat) : (s.countAt a n).mirror = s.mirror := with_ctr_mirror s _
@[simp] theorem countAt_field (a n : Nat) : (s.countAt a n).field = s.field := with_ctr_field s _
@[simp] theorem countAt_start (a n : Nat) : (s.countAt a n).start = s.start := with_ctr_start s _
@[simp] theorem countAt_pins (a n : Nat) : (s.countAt a n).pins = s.pins := with_ctr_pins s _
@[simp] theorem countAt_cars (a n : Nat) : (s.countAt a n).cars = s.cars := with_ctr_cars s _
@[simp] theorem countAt_tm (a n : Nat) : (s.countAt a n).tm = s.tm := with_ctr_tm s _
@[simp] theorem countAt_cad (a n : Nat) : (s.countAt a n).cad = s.cad := with_ctr_cad s _
@[simp] theorem countAt_mem (a n : Nat) : (s.countAt a n).mem = s.mem := with_ctr_mem s _
@[simp] theorem countAt_lanes (a n : Nat) : (s.countAt a n).lanes = s.lanes := with_ctr_lanes s _
@[simp] theorem countAt_sense (a n : Nat) : (s.countAt a n).sense = s.sense := with_ctr_sense s _
@[simp] theorem countAt_tele (a n : Nat) : (s.countAt a n).tele = s.tele := with_ctr_tele s _
@[simp] theorem countAt_rail (a n : Nat) : (s.countAt a n).rail = s.rail := with_ctr_rail s _
@[simp] theorem countAt_clock (a n : Nat) : (s.countAt a n).clock = s.clock := with_ctr_clock s _
@[simp] theorem countAt_word (a n : Nat) (pq : Page) (oq : Nat) : (s.countAt a n).word pq oq = s.word pq oq := id rfl
@[simp] theorem countAt_rd (a n : Nat) (pq : Page) (gq : Fld) : (s.countAt a n).rd pq gq = s.rd pq gq := id rfl
@[simp] theorem countAt_rdI (a n : Nat) (pq : Page) (gq : Fld) : (s.countAt a n).rdI pq gq = s.rdI pq gq := id rfl
@[simp] theorem countAt_bit (a n : Nat) (pq : Page) (gq : Fld) : (s.countAt a n).bit pq gq = s.bit pq gq := id rfl

@[simp] theorem countWrapAt_pending (a n : Nat) : (s.countWrapAt a n).pending = s.pending := with_ctr_pending s _
@[simp] theorem countWrapAt_out (a n : Nat) : (s.countWrapAt a n).out = s.out := with_ctr_out s _
@[simp] theorem countWrapAt_fresh (a n : Nat) : (s.countWrapAt a n).fresh = s.fresh := with_ctr_fresh s _
@[simp] theorem countWrapAt_part (a n : Nat) : (s.countWrapAt a n).part = s.part := with_ctr_part s _
@[simp] theorem countWrapAt_time (a n : Nat) : (s.countWrapAt a n).time = s.time := with_ctr_time s _
@[simp] theorem countWrapAt_regs (a n : Nat) : (s.countWrapAt a n).regs = s.regs := with_ctr_regs s _
@[simp] theorem countWrapAt_damage (a n : Nat) : (s.countWrapAt a n).damage = s.damage := with_ctr_damage s _
@[simp] theorem countWrapAt_host (a n : Nat) : (s.countWrapAt a n).host = s.host := with_ctr_host s _
@[simp] theorem countWrapAt_ses (a n : Nat) : (s.countWrapAt a n).ses = s.ses := with_ctr_ses s _
@[simp] theorem countWrapAt_logRing (a n : Nat) : (s.countWrapAt a n).logRing = s.logRing := with_ctr_logRing s _
@[simp] theorem countWrapAt_hubEnd (a n : Nat) : (s.countWrapAt a n).hubEnd = s.hubEnd := with_ctr_hubEnd s _
@[simp] theorem countWrapAt_fieldEnd (a n : Nat) : (s.countWrapAt a n).fieldEnd = s.fieldEnd := with_ctr_fieldEnd s _
@[simp] theorem countWrapAt_mirror (a n : Nat) : (s.countWrapAt a n).mirror = s.mirror := with_ctr_mirror s _
@[simp] theorem countWrapAt_field (a n : Nat) : (s.countWrapAt a n).field = s.field := with_ctr_field s _
@[simp] theorem countWrapAt_start (a n : Nat) : (s.countWrapAt a n).start = s.start := with_ctr_start s _
@[simp] theorem countWrapAt_pins (a n : Nat) : (s.countWrapAt a n).pins = s.pins := with_ctr_pins s _
@[simp] theorem countWrapAt_cars (a n : Nat) : (s.countWrapAt a n).cars = s.cars := with_ctr_cars s _
@[simp] theorem countWrapAt_tm (a n : Nat) : (s.countWrapAt a n).tm = s.tm := with_ctr_tm s _
@[simp] theorem countWrapAt_cad (a n : Nat) : (s.countWrapAt a n).cad = s.cad := with_ctr_cad s _
@[simp] theorem countWrapAt_mem (a n : Nat) : (s.countWrapAt a n).mem = s.mem := with_ctr_mem s _
@[simp] theorem countWrapAt_lanes (a n : Nat) : (s.countWrapAt a n).lanes = s.lanes := with_ctr_lanes s _
@[simp] theorem countWrapAt_sense (a n : Nat) : (s.countWrapAt a n).sense = s.sense := with_ctr_sense s _
@[simp] theorem countWrapAt_tele (a n : Nat) : (s.countWrapAt a n).tele = s.tele := with_ctr_tele s _
@[simp] theorem countWrapAt_rail (a n : Nat) : (s.countWrapAt a n).rail = s.rail := with_ctr_rail s _
@[simp] theorem countWrapAt_clock (a n : Nat) : (s.countWrapAt a n).clock = s.clock := with_ctr_clock s _
@[simp] theorem countWrapAt_word (a n : Nat) (pq : Page) (oq : Nat) : (s.countWrapAt a n).word pq oq = s.word pq oq := id rfl
@[simp] theorem countWrapAt_rd (a n : Nat) (pq : Page) (gq : Fld) : (s.countWrapAt a n).rd pq gq = s.rd pq gq := id rfl
@[simp] theorem countWrapAt_rdI (a n : Nat) (pq : Page) (gq : Fld) : (s.countWrapAt a n).rdI pq gq = s.rdI pq gq := id rfl
@[simp] theorem countWrapAt_bit (a n : Nat) (pq : Page) (gq : Fld) : (s.countWrapAt a n).bit pq gq = s.bit pq gq := id rfl

@[simp] theorem count_pending (p : Page) (j n : Nat) : (s.count p j n).pending = s.pending := with_ctr_pending s _
@[simp] theorem count_out (p : Page) (j n : Nat) : (s.count p j n).out = s.out := with_ctr_out s _
@[simp] theorem count_fresh (p : Page) (j n : Nat) : (s.count p j n).fresh = s.fresh := with_ctr_fresh s _
@[simp] theorem count_part (p : Page) (j n : Nat) : (s.count p j n).part = s.part := with_ctr_part s _
@[simp] theorem count_time (p : Page) (j n : Nat) : (s.count p j n).time = s.time := with_ctr_time s _
@[simp] theorem count_regs (p : Page) (j n : Nat) : (s.count p j n).regs = s.regs := with_ctr_regs s _
@[simp] theorem count_damage (p : Page) (j n : Nat) : (s.count p j n).damage = s.damage := with_ctr_damage s _
@[simp] theorem count_host (p : Page) (j n : Nat) : (s.count p j n).host = s.host := with_ctr_host s _
@[simp] theorem count_ses (p : Page) (j n : Nat) : (s.count p j n).ses = s.ses := with_ctr_ses s _
@[simp] theorem count_logRing (p : Page) (j n : Nat) : (s.count p j n).logRing = s.logRing := with_ctr_logRing s _
@[simp] theorem count_hubEnd (p : Page) (j n : Nat) : (s.count p j n).hubEnd = s.hubEnd := with_ctr_hubEnd s _
@[simp] theorem count_fieldEnd (p : Page) (j n : Nat) : (s.count p j n).fieldEnd = s.fieldEnd := with_ctr_fieldEnd s _
@[simp] theorem count_mirror (p : Page) (j n : Nat) : (s.count p j n).mirror = s.mirror := with_ctr_mirror s _
@[simp] theorem count_field (p : Page) (j n : Nat) : (s.count p j n).field = s.field := with_ctr_field s _
@[simp] theorem count_start (p : Page) (j n : Nat) : (s.count p j n).start = s.start := with_ctr_start s _
@[simp] theorem count_pins (p : Page) (j n : Nat) : (s.count p j n).pins = s.pins := with_ctr_pins s _
@[simp] theorem count_cars (p : Page) (j n : Nat) : (s.count p j n).cars = s.cars := with_ctr_cars s _
@[simp] theorem count_tm (p : Page) (j n : Nat) : (s.count p j n).tm = s.tm := with_ctr_tm s _
@[simp] theorem count_cad (p : Page) (j n : Nat) : (s.count p j n).cad = s.cad := with_ctr_cad s _
@[simp] theorem count_mem (p : Page) (j n : Nat) : (s.count p j n).mem = s.mem := with_ctr_mem s _
@[simp] theorem count_lanes (p : Page) (j n : Nat) : (s.count p j n).lanes = s.lanes := with_ctr_lanes s _
@[simp] theorem count_sense (p : Page) (j n : Nat) : (s.count p j n).sense = s.sense := with_ctr_sense s _
@[simp] theorem count_tele (p : Page) (j n : Nat) : (s.count p j n).tele = s.tele := with_ctr_tele s _
@[simp] theorem count_rail (p : Page) (j n : Nat) : (s.count p j n).rail = s.rail := with_ctr_rail s _
@[simp] theorem count_clock (p : Page) (j n : Nat) : (s.count p j n).clock = s.clock := with_ctr_clock s _
@[simp] theorem count_word (p : Page) (j n : Nat) (pq : Page) (oq : Nat) : (s.count p j n).word pq oq = s.word pq oq := id rfl
@[simp] theorem count_rd (p : Page) (j n : Nat) (pq : Page) (gq : Fld) : (s.count p j n).rd pq gq = s.rd pq gq := id rfl
@[simp] theorem count_rdI (p : Page) (j n : Nat) (pq : Page) (gq : Fld) : (s.count p j n).rdI pq gq = s.rdI pq gq := id rfl
@[simp] theorem count_bit (p : Page) (j n : Nat) (pq : Page) (gq : Fld) : (s.count p j n).bit pq gq = s.bit pq gq := id rfl

@[simp] theorem countS_pending (p : Page) (j n : Nat) : (s.countS p j n).pending = s.pending := with_ctr_pending s _
@[simp] theorem countS_out (p : Page) (j n : Nat) : (s.countS p j n).out = s.out := with_ctr_out s _
@[simp] theorem countS_fresh (p : Page) (j n : Nat) : (s.countS p j n).fresh = s.fresh := with_ctr_fresh s _
@[simp] theorem countS_part (p : Page) (j n : Nat) : (s.countS p j n).part = s.part := with_ctr_part s _
@[simp] theorem countS_time (p : Page) (j n : Nat) : (s.countS p j n).time = s.time := with_ctr_time s _
@[simp] theorem countS_regs (p : Page) (j n : Nat) : (s.countS p j n).regs = s.regs := with_ctr_regs s _
@[simp] theorem countS_damage (p : Page) (j n : Nat) : (s.countS p j n).damage = s.damage := with_ctr_damage s _
@[simp] theorem countS_host (p : Page) (j n : Nat) : (s.countS p j n).host = s.host := with_ctr_host s _
@[simp] theorem countS_ses (p : Page) (j n : Nat) : (s.countS p j n).ses = s.ses := with_ctr_ses s _
@[simp] theorem countS_logRing (p : Page) (j n : Nat) : (s.countS p j n).logRing = s.logRing := with_ctr_logRing s _
@[simp] theorem countS_hubEnd (p : Page) (j n : Nat) : (s.countS p j n).hubEnd = s.hubEnd := with_ctr_hubEnd s _
@[simp] theorem countS_fieldEnd (p : Page) (j n : Nat) : (s.countS p j n).fieldEnd = s.fieldEnd := with_ctr_fieldEnd s _
@[simp] theorem countS_mirror (p : Page) (j n : Nat) : (s.countS p j n).mirror = s.mirror := with_ctr_mirror s _
@[simp] theorem countS_field (p : Page) (j n : Nat) : (s.countS p j n).field = s.field := with_ctr_field s _
@[simp] theorem countS_start (p : Page) (j n : Nat) : (s.countS p j n).start = s.start := with_ctr_start s _
@[simp] theorem countS_pins (p : Page) (j n : Nat) : (s.countS p j n).pins = s.pins := with_ctr_pins s _
@[simp] theorem countS_cars (p : Page) (j n : Nat) : (s.countS p j n).cars = s.cars := with_ctr_cars s _
@[simp] theorem countS_tm (p : Page) (j n : Nat) : (s.countS p j n).tm = s.tm := with_ctr_tm s _
@[simp] theorem countS_cad (p : Page) (j n : Nat) : (s.countS p j n).cad = s.cad := with_ctr_cad s _
@[simp] theorem countS_mem (p : Page) (j n : Nat) : (s.countS p j n).mem = s.mem := with_ctr_mem s _
@[simp] theorem countS_lanes (p : Page) (j n : Nat) : (s.countS p j n).lanes = s.lanes := with_ctr_lanes s _
@[simp] theorem countS_sense (p : Page) (j n : Nat) : (s.countS p j n).sense = s.sense := with_ctr_sense s _
@[simp] theorem countS_tele (p : Page) (j n : Nat) : (s.countS p j n).tele = s.tele := with_ctr_tele s _
@[simp] theorem countS_rail (p : Page) (j n : Nat) : (s.countS p j n).rail = s.rail := with_ctr_rail s _
@[simp] theorem countS_clock (p : Page) (j n : Nat) : (s.countS p j n).clock = s.clock := with_ctr_clock s _
@[simp] theorem countS_word (p : Page) (j n : Nat) (pq : Page) (oq : Nat) : (s.countS p j n).word pq oq = s.word pq oq := id rfl
@[simp] theorem countS_rd (p : Page) (j n : Nat) (pq : Page) (gq : Fld) : (s.countS p j n).rd pq gq = s.rd pq gq := id rfl
@[simp] theorem countS_rdI (p : Page) (j n : Nat) (pq : Page) (gq : Fld) : (s.countS p j n).rdI pq gq = s.rdI pq gq := id rfl
@[simp] theorem countS_bit (p : Page) (j n : Nat) (pq : Page) (gq : Fld) : (s.countS p j n).bit pq gq = s.bit pq gq := id rfl

@[simp] theorem countTx_pending (c j n : Nat) : (s.countTx c j n).pending = s.pending := with_ctr_pending s _
@[simp] theorem countTx_out (c j n : Nat) : (s.countTx c j n).out = s.out := with_ctr_out s _
@[simp] theorem countTx_fresh (c j n : Nat) : (s.countTx c j n).fresh = s.fresh := with_ctr_fresh s _
@[simp] theorem countTx_part (c j n : Nat) : (s.countTx c j n).part = s.part := with_ctr_part s _
@[simp] theorem countTx_time (c j n : Nat) : (s.countTx c j n).time = s.time := with_ctr_time s _
@[simp] theorem countTx_regs (c j n : Nat) : (s.countTx c j n).regs = s.regs := with_ctr_regs s _
@[simp] theorem countTx_damage (c j n : Nat) : (s.countTx c j n).damage = s.damage := with_ctr_damage s _
@[simp] theorem countTx_host (c j n : Nat) : (s.countTx c j n).host = s.host := with_ctr_host s _
@[simp] theorem countTx_ses (c j n : Nat) : (s.countTx c j n).ses = s.ses := with_ctr_ses s _
@[simp] theorem countTx_logRing (c j n : Nat) : (s.countTx c j n).logRing = s.logRing := with_ctr_logRing s _
@[simp] theorem countTx_hubEnd (c j n : Nat) : (s.countTx c j n).hubEnd = s.hubEnd := with_ctr_hubEnd s _
@[simp] theorem countTx_fieldEnd (c j n : Nat) : (s.countTx c j n).fieldEnd = s.fieldEnd := with_ctr_fieldEnd s _
@[simp] theorem countTx_mirror (c j n : Nat) : (s.countTx c j n).mirror = s.mirror := with_ctr_mirror s _
@[simp] theorem countTx_field (c j n : Nat) : (s.countTx c j n).field = s.field := with_ctr_field s _
@[simp] theorem countTx_start (c j n : Nat) : (s.countTx c j n).start = s.start := with_ctr_start s _
@[simp] theorem countTx_pins (c j n : Nat) : (s.countTx c j n).pins = s.pins := with_ctr_pins s _
@[simp] theorem countTx_cars (c j n : Nat) : (s.countTx c j n).cars = s.cars := with_ctr_cars s _
@[simp] theorem countTx_tm (c j n : Nat) : (s.countTx c j n).tm = s.tm := with_ctr_tm s _
@[simp] theorem countTx_cad (c j n : Nat) : (s.countTx c j n).cad = s.cad := with_ctr_cad s _
@[simp] theorem countTx_mem (c j n : Nat) : (s.countTx c j n).mem = s.mem := with_ctr_mem s _
@[simp] theorem countTx_lanes (c j n : Nat) : (s.countTx c j n).lanes = s.lanes := with_ctr_lanes s _
@[simp] theorem countTx_sense (c j n : Nat) : (s.countTx c j n).sense = s.sense := with_ctr_sense s _
@[simp] theorem countTx_tele (c j n : Nat) : (s.countTx c j n).tele = s.tele := with_ctr_tele s _
@[simp] theorem countTx_rail (c j n : Nat) : (s.countTx c j n).rail = s.rail := with_ctr_rail s _
@[simp] theorem countTx_clock (c j n : Nat) : (s.countTx c j n).clock = s.clock := with_ctr_clock s _
@[simp] theorem countTx_word (c j n : Nat) (pq : Page) (oq : Nat) : (s.countTx c j n).word pq oq = s.word pq oq := id rfl
@[simp] theorem countTx_rd (c j n : Nat) (pq : Page) (gq : Fld) : (s.countTx c j n).rd pq gq = s.rd pq gq := id rfl
@[simp] theorem countTx_rdI (c j n : Nat) (pq : Page) (gq : Fld) : (s.countTx c j n).rdI pq gq = s.rdI pq gq := id rfl
@[simp] theorem countTx_bit (c j n : Nat) (pq : Page) (gq : Fld) : (s.countTx c j n).bit pq gq = s.bit pq gq := id rfl

@[simp] theorem countRx_pending (c j n : Nat) : (s.countRx c j n).pending = s.pending := with_ctr_pending s _
@[simp] theorem countRx_out (c j n : Nat) : (s.countRx c j n).out = s.out := with_ctr_out s _
@[simp] theorem countRx_fresh (c j n : Nat) : (s.countRx c j n).fresh = s.fresh := with_ctr_fresh s _
@[simp] theorem countRx_part (c j n : Nat) : (s.countRx c j n).part = s.part := with_ctr_part s _
@[simp] theorem countRx_time (c j n : Nat) : (s.countRx c j n).time = s.time := with_ctr_time s _
@[simp] theorem countRx_regs (c j n : Nat) : (s.countRx c j n).regs = s.regs := with_ctr_regs s _
@[simp] theorem countRx_damage (c j n : Nat) : (s.countRx c j n).damage = s.damage := with_ctr_damage s _
@[simp] theorem countRx_host (c j n : Nat) : (s.countRx c j n).host = s.host := with_ctr_host s _
@[simp] theorem countRx_ses (c j n : Nat) : (s.countRx c j n).ses = s.ses := with_ctr_ses s _
@[simp] theorem countRx_logRing (c j n : Nat) : (s.countRx c j n).logRing = s.logRing := with_ctr_logRing s _
@[simp] theorem countRx_hubEnd (c j n : Nat) : (s.countRx c j n).hubEnd = s.hubEnd := with_ctr_hubEnd s _
@[simp] theorem countRx_fieldEnd (c j n : Nat) : (s.countRx c j n).fieldEnd = s.fieldEnd := with_ctr_fieldEnd s _
@[simp] theorem countRx_mirror (c j n : Nat) : (s.countRx c j n).mirror = s.mirror := with_ctr_mirror s _
@[simp] theorem countRx_field (c j n : Nat) : (s.countRx c j n).field = s.field := with_ctr_field s _
@[simp] theorem countRx_start (c j n : Nat) : (s.countRx c j n).start = s.start := with_ctr_start s _
@[simp] theorem countRx_pins (c j n : Nat) : (s.countRx c j n).pins = s.pins := with_ctr_pins s _
@[simp] theorem countRx_cars (c j n : Nat) : (s.countRx c j n).cars = s.cars := with_ctr_cars s _
@[simp] theorem countRx_tm (c j n : Nat) : (s.countRx c j n).tm = s.tm := with_ctr_tm s _
@[simp] theorem countRx_cad (c j n : Nat) : (s.countRx c j n).cad = s.cad := with_ctr_cad s _
@[simp] theorem countRx_mem (c j n : Nat) : (s.countRx c j n).mem = s.mem := with_ctr_mem s _
@[simp] theorem countRx_lanes (c j n : Nat) : (s.countRx c j n).lanes = s.lanes := with_ctr_lanes s _
@[simp] theorem countRx_sense (c j n : Nat) : (s.countRx c j n).sense = s.sense := with_ctr_sense s _
@[simp] theorem countRx_tele (c j n : Nat) : (s.countRx c j n).tele = s.tele := with_ctr_tele s _
@[simp] theorem countRx_rail (c j n : Nat) : (s.countRx c j n).rail = s.rail := with_ctr_rail s _
@[simp] theorem countRx_clock (c j n : Nat) : (s.countRx c j n).clock = s.clock := with_ctr_clock s _
@[simp] theorem countRx_word (c j n : Nat) (pq : Page) (oq : Nat) : (s.countRx c j n).word pq oq = s.word pq oq := id rfl
@[simp] theorem countRx_rd (c j n : Nat) (pq : Page) (gq : Fld) : (s.countRx c j n).rd pq gq = s.rd pq gq := id rfl
@[simp] theorem countRx_rdI (c j n : Nat) (pq : Page) (gq : Fld) : (s.countRx c j n).rdI pq gq = s.rdI pq gq := id rfl
@[simp] theorem countRx_bit (c j n : Nat) (pq : Page) (gq : Fld) : (s.countRx c j n).bit pq gq = s.bit pq gq := id rfl

@[simp] theorem resend_pending (v : Nat) : (s.resend v).pending = s.pending := with_host_pending s _
@[simp] theorem resend_out (v : Nat) : (s.resend v).out = s.out := with_host_out s _
@[simp] theorem resend_fresh (v : Nat) : (s.resend v).fresh = s.fresh := with_host_fresh s _
@[simp] theorem resend_part (v : Nat) : (s.resend v).part = s.part := with_host_part s _
@[simp] theorem resend_time (v : Nat) : (s.resend v).time = s.time := with_host_time s _
@[simp] theorem resend_regs (v : Nat) : (s.resend v).regs = s.regs := with_host_regs s _
@[simp] theorem resend_damage (v : Nat) : (s.resend v).damage = s.damage := with_host_damage s _
@[simp] theorem resend_ctr (v : Nat) : (s.resend v).ctr = s.ctr := with_host_ctr s _
@[simp] theorem resend_ses (v : Nat) : (s.resend v).ses = s.ses := with_host_ses s _
@[simp] theorem resend_logRing (v : Nat) : (s.resend v).logRing = s.logRing := with_host_logRing s _
@[simp] theorem resend_hubEnd (v : Nat) : (s.resend v).hubEnd = s.hubEnd := with_host_hubEnd s _
@[simp] theorem resend_fieldEnd (v : Nat) : (s.resend v).fieldEnd = s.fieldEnd := with_host_fieldEnd s _
@[simp] theorem resend_mirror (v : Nat) : (s.resend v).mirror = s.mirror := with_host_mirror s _
@[simp] theorem resend_field (v : Nat) : (s.resend v).field = s.field := with_host_field s _
@[simp] theorem resend_start (v : Nat) : (s.resend v).start = s.start := with_host_start s _
@[simp] theorem resend_pins (v : Nat) : (s.resend v).pins = s.pins := with_host_pins s _
@[simp] theorem resend_cars (v : Nat) : (s.resend v).cars = s.cars := with_host_cars s _
@[simp] theorem resend_tm (v : Nat) : (s.resend v).tm = s.tm := with_host_tm s _
@[simp] theorem resend_cad (v : Nat) : (s.resend v).cad = s.cad := with_host_cad s _
@[simp] theorem resend_mem (v : Nat) : (s.resend v).mem = s.mem := with_host_mem s _
@[simp] theorem resend_lanes (v : Nat) : (s.resend v).lanes = s.lanes := with_host_lanes s _
@[simp] theorem resend_sense (v : Nat) : (s.resend v).sense = s.sense := with_host_sense s _
@[simp] theorem resend_tele (v : Nat) : (s.resend v).tele = s.tele := with_host_tele s _
@[simp] theorem resend_rail (v : Nat) : (s.resend v).rail = s.rail := with_host_rail s _
@[simp] theorem resend_clock (v : Nat) : (s.resend v).clock = s.clock := with_host_clock s _
@[simp] theorem resend_word (v : Nat) (pq : Page) (oq : Nat) : (s.resend v).word pq oq = s.word pq oq := id rfl
@[simp] theorem resend_rd (v : Nat) (pq : Page) (gq : Fld) : (s.resend v).rd pq gq = s.rd pq gq := id rfl
@[simp] theorem resend_rdI (v : Nat) (pq : Page) (gq : Fld) : (s.resend v).rdI pq gq = s.rdI pq gq := id rfl
@[simp] theorem resend_bit (v : Nat) (pq : Page) (gq : Fld) : (s.resend v).bit pq gq = s.bit pq gq := id rfl

@[simp] theorem toField_pending (m : BMsg) : (s.toField m).pending = s.pending := with_hubEnd_pending s _
@[simp] theorem toField_out (m : BMsg) : (s.toField m).out = s.out := with_hubEnd_out s _
@[simp] theorem toField_fresh (m : BMsg) : (s.toField m).fresh = s.fresh := with_hubEnd_fresh s _
@[simp] theorem toField_part (m : BMsg) : (s.toField m).part = s.part := with_hubEnd_part s _
@[simp] theorem toField_time (m : BMsg) : (s.toField m).time = s.time := with_hubEnd_time s _
@[simp] theorem toField_regs (m : BMsg) : (s.toField m).regs = s.regs := with_hubEnd_regs s _
@[simp] theorem toField_damage (m : BMsg) : (s.toField m).damage = s.damage := with_hubEnd_damage s _
@[simp] theorem toField_ctr (m : BMsg) : (s.toField m).ctr = s.ctr := with_hubEnd_ctr s _
@[simp] theorem toField_host (m : BMsg) : (s.toField m).host = s.host := with_hubEnd_host s _
@[simp] theorem toField_ses (m : BMsg) : (s.toField m).ses = s.ses := with_hubEnd_ses s _
@[simp] theorem toField_logRing (m : BMsg) : (s.toField m).logRing = s.logRing := with_hubEnd_logRing s _
@[simp] theorem toField_fieldEnd (m : BMsg) : (s.toField m).fieldEnd = s.fieldEnd := with_hubEnd_fieldEnd s _
@[simp] theorem toField_mirror (m : BMsg) : (s.toField m).mirror = s.mirror := with_hubEnd_mirror s _
@[simp] theorem toField_field (m : BMsg) : (s.toField m).field = s.field := with_hubEnd_field s _
@[simp] theorem toField_start (m : BMsg) : (s.toField m).start = s.start := with_hubEnd_start s _
@[simp] theorem toField_pins (m : BMsg) : (s.toField m).pins = s.pins := with_hubEnd_pins s _
@[simp] theorem toField_cars (m : BMsg) : (s.toField m).cars = s.cars := with_hubEnd_cars s _
@[simp] theorem toField_tm (m : BMsg) : (s.toField m).tm = s.tm := with_hubEnd_tm s _
@[simp] theorem toField_cad (m : BMsg) : (s.toField m).cad = s.cad := with_hubEnd_cad s _
@[simp] theorem toField_mem (m : BMsg) : (s.toField m).mem = s.mem := with_hubEnd_mem s _
@[simp] theorem toField_lanes (m : BMsg) : (s.toField m).lanes = s.lanes := with_hubEnd_lanes s _
@[simp] theorem toField_sense (m : BMsg) : (s.toField m).sense = s.sense := with_hubEnd_sense s _
@[simp] theorem toField_tele (m : BMsg) : (s.toField m).tele = s.tele := with_hubEnd_tele s _
@[simp] theorem toField_rail (m : BMsg) : (s.toField m).rail = s.rail := with_hubEnd_rail s _
@[simp] theorem toField_clock (m : BMsg) : (s.toField m).clock = s.clock := with_hubEnd_clock s _
@[simp] theorem toField_word (m : BMsg) (pq : Page) (oq : Nat) : (s.toField m).word pq oq = s.word pq oq := id rfl
@[simp] theorem toField_rd (m : BMsg) (pq : Page) (gq : Fld) : (s.toField m).rd pq gq = s.rd pq gq := id rfl
@[simp] theorem toField_rdI (m : BMsg) (pq : Page) (gq : Fld) : (s.toField m).rdI pq gq = s.rdI pq gq := id rfl
@[simp] theorem toField_bit (m : BMsg) (pq : Page) (gq : Fld) : (s.toField m).bit pq gq = s.bit pq gq := id rfl

@[simp] theorem toHub_pending (m : BMsg) : (s.toHub m).pending = s.pending := with_fieldEnd_pending s _
@[simp] theorem toHub_out (m : BMsg) : (s.toHub m).out = s.out := with_fieldEnd_out s _
@[simp] theorem toHub_fresh (m : BMsg) : (s.toHub m).fresh = s.fresh := with_fieldEnd_fresh s _
@[simp] theorem toHub_part (m : BMsg) : (s.toHub m).part = s.part := with_fieldEnd_part s _
@[simp] theorem toHub_time (m : BMsg) : (s.toHub m).time = s.time := with_fieldEnd_time s _
@[simp] theorem toHub_regs (m : BMsg) : (s.toHub m).regs = s.regs := with_fieldEnd_regs s _
@[simp] theorem toHub_damage (m : BMsg) : (s.toHub m).damage = s.damage := with_fieldEnd_damage s _
@[simp] theorem toHub_ctr (m : BMsg) : (s.toHub m).ctr = s.ctr := with_fieldEnd_ctr s _
@[simp] theorem toHub_host (m : BMsg) : (s.toHub m).host = s.host := with_fieldEnd_host s _
@[simp] theorem toHub_ses (m : BMsg) : (s.toHub m).ses = s.ses := with_fieldEnd_ses s _
@[simp] theorem toHub_logRing (m : BMsg) : (s.toHub m).logRing = s.logRing := with_fieldEnd_logRing s _
@[simp] theorem toHub_hubEnd (m : BMsg) : (s.toHub m).hubEnd = s.hubEnd := with_fieldEnd_hubEnd s _
@[simp] theorem toHub_mirror (m : BMsg) : (s.toHub m).mirror = s.mirror := with_fieldEnd_mirror s _
@[simp] theorem toHub_field (m : BMsg) : (s.toHub m).field = s.field := with_fieldEnd_field s _
@[simp] theorem toHub_start (m : BMsg) : (s.toHub m).start = s.start := with_fieldEnd_start s _
@[simp] theorem toHub_pins (m : BMsg) : (s.toHub m).pins = s.pins := with_fieldEnd_pins s _
@[simp] theorem toHub_cars (m : BMsg) : (s.toHub m).cars = s.cars := with_fieldEnd_cars s _
@[simp] theorem toHub_tm (m : BMsg) : (s.toHub m).tm = s.tm := with_fieldEnd_tm s _
@[simp] theorem toHub_cad (m : BMsg) : (s.toHub m).cad = s.cad := with_fieldEnd_cad s _
@[simp] theorem toHub_mem (m : BMsg) : (s.toHub m).mem = s.mem := with_fieldEnd_mem s _
@[simp] theorem toHub_lanes (m : BMsg) : (s.toHub m).lanes = s.lanes := with_fieldEnd_lanes s _
@[simp] theorem toHub_sense (m : BMsg) : (s.toHub m).sense = s.sense := with_fieldEnd_sense s _
@[simp] theorem toHub_tele (m : BMsg) : (s.toHub m).tele = s.tele := with_fieldEnd_tele s _
@[simp] theorem toHub_rail (m : BMsg) : (s.toHub m).rail = s.rail := with_fieldEnd_rail s _
@[simp] theorem toHub_clock (m : BMsg) : (s.toHub m).clock = s.clock := with_fieldEnd_clock s _
@[simp] theorem toHub_word (m : BMsg) (pq : Page) (oq : Nat) : (s.toHub m).word pq oq = s.word pq oq := id rfl
@[simp] theorem toHub_rd (m : BMsg) (pq : Page) (gq : Fld) : (s.toHub m).rd pq gq = s.rd pq gq := id rfl
@[simp] theorem toHub_rdI (m : BMsg) (pq : Page) (gq : Fld) : (s.toHub m).rdI pq gq = s.rdI pq gq := id rfl
@[simp] theorem toHub_bit (m : BMsg) (pq : Page) (gq : Fld) : (s.toHub m).bit pq gq = s.bit pq gq := id rfl

@[simp] theorem setCar_pending (k : Fin 16) (c : Carrier) : (s.setCar k c).pending = s.pending := with_cars_pending s _
@[simp] theorem setCar_out (k : Fin 16) (c : Carrier) : (s.setCar k c).out = s.out := with_cars_out s _
@[simp] theorem setCar_fresh (k : Fin 16) (c : Carrier) : (s.setCar k c).fresh = s.fresh := with_cars_fresh s _
@[simp] theorem setCar_part (k : Fin 16) (c : Carrier) : (s.setCar k c).part = s.part := with_cars_part s _
@[simp] theorem setCar_time (k : Fin 16) (c : Carrier) : (s.setCar k c).time = s.time := with_cars_time s _
@[simp] theorem setCar_regs (k : Fin 16) (c : Carrier) : (s.setCar k c).regs = s.regs := with_cars_regs s _
@[simp] theorem setCar_damage (k : Fin 16) (c : Carrier) : (s.setCar k c).damage = s.damage := with_cars_damage s _
@[simp] theorem setCar_ctr (k : Fin 16) (c : Carrier) : (s.setCar k c).ctr = s.ctr := with_cars_ctr s _
@[simp] theorem setCar_host (k : Fin 16) (c : Carrier) : (s.setCar k c).host = s.host := with_cars_host s _
@[simp] theorem setCar_ses (k : Fin 16) (c : Carrier) : (s.setCar k c).ses = s.ses := with_cars_ses s _
@[simp] theorem setCar_logRing (k : Fin 16) (c : Carrier) : (s.setCar k c).logRing = s.logRing := with_cars_logRing s _
@[simp] theorem setCar_hubEnd (k : Fin 16) (c : Carrier) : (s.setCar k c).hubEnd = s.hubEnd := with_cars_hubEnd s _
@[simp] theorem setCar_fieldEnd (k : Fin 16) (c : Carrier) : (s.setCar k c).fieldEnd = s.fieldEnd := with_cars_fieldEnd s _
@[simp] theorem setCar_mirror (k : Fin 16) (c : Carrier) : (s.setCar k c).mirror = s.mirror := with_cars_mirror s _
@[simp] theorem setCar_field (k : Fin 16) (c : Carrier) : (s.setCar k c).field = s.field := with_cars_field s _
@[simp] theorem setCar_start (k : Fin 16) (c : Carrier) : (s.setCar k c).start = s.start := with_cars_start s _
@[simp] theorem setCar_pins (k : Fin 16) (c : Carrier) : (s.setCar k c).pins = s.pins := with_cars_pins s _
@[simp] theorem setCar_tm (k : Fin 16) (c : Carrier) : (s.setCar k c).tm = s.tm := with_cars_tm s _
@[simp] theorem setCar_cad (k : Fin 16) (c : Carrier) : (s.setCar k c).cad = s.cad := with_cars_cad s _
@[simp] theorem setCar_mem (k : Fin 16) (c : Carrier) : (s.setCar k c).mem = s.mem := with_cars_mem s _
@[simp] theorem setCar_lanes (k : Fin 16) (c : Carrier) : (s.setCar k c).lanes = s.lanes := with_cars_lanes s _
@[simp] theorem setCar_sense (k : Fin 16) (c : Carrier) : (s.setCar k c).sense = s.sense := with_cars_sense s _
@[simp] theorem setCar_tele (k : Fin 16) (c : Carrier) : (s.setCar k c).tele = s.tele := with_cars_tele s _
@[simp] theorem setCar_rail (k : Fin 16) (c : Carrier) : (s.setCar k c).rail = s.rail := with_cars_rail s _
@[simp] theorem setCar_clock (k : Fin 16) (c : Carrier) : (s.setCar k c).clock = s.clock := with_cars_clock s _
@[simp] theorem setCar_word (k : Fin 16) (c : Carrier) (pq : Page) (oq : Nat) : (s.setCar k c).word pq oq = s.word pq oq := id rfl
@[simp] theorem setCar_rd (k : Fin 16) (c : Carrier) (pq : Page) (gq : Fld) : (s.setCar k c).rd pq gq = s.rd pq gq := id rfl
@[simp] theorem setCar_rdI (k : Fin 16) (c : Carrier) (pq : Page) (gq : Fld) : (s.setCar k c).rdI pq gq = s.rdI pq gq := id rfl
@[simp] theorem setCar_bit (k : Fin 16) (c : Carrier) (pq : Page) (gq : Fld) : (s.setCar k c).bit pq gq = s.bit pq gq := id rfl

@[simp] theorem updCar_pending (k : Fin 16) (f : Carrier → Carrier) : (s.updCar k f).pending = s.pending := with_cars_pending s _
@[simp] theorem updCar_out (k : Fin 16) (f : Carrier → Carrier) : (s.updCar k f).out = s.out := with_cars_out s _
@[simp] theorem updCar_fresh (k : Fin 16) (f : Carrier → Carrier) : (s.updCar k f).fresh = s.fresh := with_cars_fresh s _
@[simp] theorem updCar_part (k : Fin 16) (f : Carrier → Carrier) : (s.updCar k f).part = s.part := with_cars_part s _
@[simp] theorem updCar_time (k : Fin 16) (f : Carrier → Carrier) : (s.updCar k f).time = s.time := with_cars_time s _
@[simp] theorem updCar_regs (k : Fin 16) (f : Carrier → Carrier) : (s.updCar k f).regs = s.regs := with_cars_regs s _
@[simp] theorem updCar_damage (k : Fin 16) (f : Carrier → Carrier) : (s.updCar k f).damage = s.damage := with_cars_damage s _
@[simp] theorem updCar_ctr (k : Fin 16) (f : Carrier → Carrier) : (s.updCar k f).ctr = s.ctr := with_cars_ctr s _
@[simp] theorem updCar_host (k : Fin 16) (f : Carrier → Carrier) : (s.updCar k f).host = s.host := with_cars_host s _
@[simp] theorem updCar_ses (k : Fin 16) (f : Carrier → Carrier) : (s.updCar k f).ses = s.ses := with_cars_ses s _
@[simp] theorem updCar_logRing (k : Fin 16) (f : Carrier → Carrier) : (s.updCar k f).logRing = s.logRing := with_cars_logRing s _
@[simp] theorem updCar_hubEnd (k : Fin 16) (f : Carrier → Carrier) : (s.updCar k f).hubEnd = s.hubEnd := with_cars_hubEnd s _
@[simp] theorem updCar_fieldEnd (k : Fin 16) (f : Carrier → Carrier) : (s.updCar k f).fieldEnd = s.fieldEnd := with_cars_fieldEnd s _
@[simp] theorem updCar_mirror (k : Fin 16) (f : Carrier → Carrier) : (s.updCar k f).mirror = s.mirror := with_cars_mirror s _
@[simp] theorem updCar_field (k : Fin 16) (f : Carrier → Carrier) : (s.updCar k f).field = s.field := with_cars_field s _
@[simp] theorem updCar_start (k : Fin 16) (f : Carrier → Carrier) : (s.updCar k f).start = s.start := with_cars_start s _
@[simp] theorem updCar_pins (k : Fin 16) (f : Carrier → Carrier) : (s.updCar k f).pins = s.pins := with_cars_pins s _
@[simp] theorem updCar_tm (k : Fin 16) (f : Carrier → Carrier) : (s.updCar k f).tm = s.tm := with_cars_tm s _
@[simp] theorem updCar_cad (k : Fin 16) (f : Carrier → Carrier) : (s.updCar k f).cad = s.cad := with_cars_cad s _
@[simp] theorem updCar_mem (k : Fin 16) (f : Carrier → Carrier) : (s.updCar k f).mem = s.mem := with_cars_mem s _
@[simp] theorem updCar_lanes (k : Fin 16) (f : Carrier → Carrier) : (s.updCar k f).lanes = s.lanes := with_cars_lanes s _
@[simp] theorem updCar_sense (k : Fin 16) (f : Carrier → Carrier) : (s.updCar k f).sense = s.sense := with_cars_sense s _
@[simp] theorem updCar_tele (k : Fin 16) (f : Carrier → Carrier) : (s.updCar k f).tele = s.tele := with_cars_tele s _
@[simp] theorem updCar_rail (k : Fin 16) (f : Carrier → Carrier) : (s.updCar k f).rail = s.rail := with_cars_rail s _
@[simp] theorem updCar_clock (k : Fin 16) (f : Carrier → Carrier) : (s.updCar k f).clock = s.clock := with_cars_clock s _
@[simp] theorem updCar_word (k : Fin 16) (f : Carrier → Carrier) (pq : Page) (oq : Nat) : (s.updCar k f).word pq oq = s.word pq oq := id rfl
@[simp] theorem updCar_rd (k : Fin 16) (f : Carrier → Carrier) (pq : Page) (gq : Fld) : (s.updCar k f).rd pq gq = s.rd pq gq := id rfl
@[simp] theorem updCar_rdI (k : Fin 16) (f : Carrier → Carrier) (pq : Page) (gq : Fld) : (s.updCar k f).rdI pq gq = s.rdI pq gq := id rfl
@[simp] theorem updCar_bit (k : Fin 16) (f : Carrier → Carrier) (pq : Page) (gq : Fld) : (s.updCar k f).bit pq gq = s.bit pq gq := id rfl

@[simp] theorem updTm_pending (f : Tm → Tm) : (s.updTm f).pending = s.pending := with_tm_pending s _
@[simp] theorem updTm_out (f : Tm → Tm) : (s.updTm f).out = s.out := with_tm_out s _
@[simp] theorem updTm_fresh (f : Tm → Tm) : (s.updTm f).fresh = s.fresh := with_tm_fresh s _
@[simp] theorem updTm_part (f : Tm → Tm) : (s.updTm f).part = s.part := with_tm_part s _
@[simp] theorem updTm_time (f : Tm → Tm) : (s.updTm f).time = s.time := with_tm_time s _
@[simp] theorem updTm_regs (f : Tm → Tm) : (s.updTm f).regs = s.regs := with_tm_regs s _
@[simp] theorem updTm_damage (f : Tm → Tm) : (s.updTm f).damage = s.damage := with_tm_damage s _
@[simp] theorem updTm_ctr (f : Tm → Tm) : (s.updTm f).ctr = s.ctr := with_tm_ctr s _
@[simp] theorem updTm_host (f : Tm → Tm) : (s.updTm f).host = s.host := with_tm_host s _
@[simp] theorem updTm_ses (f : Tm → Tm) : (s.updTm f).ses = s.ses := with_tm_ses s _
@[simp] theorem updTm_logRing (f : Tm → Tm) : (s.updTm f).logRing = s.logRing := with_tm_logRing s _
@[simp] theorem updTm_hubEnd (f : Tm → Tm) : (s.updTm f).hubEnd = s.hubEnd := with_tm_hubEnd s _
@[simp] theorem updTm_fieldEnd (f : Tm → Tm) : (s.updTm f).fieldEnd = s.fieldEnd := with_tm_fieldEnd s _
@[simp] theorem updTm_mirror (f : Tm → Tm) : (s.updTm f).mirror = s.mirror := with_tm_mirror s _
@[simp] theorem updTm_field (f : Tm → Tm) : (s.updTm f).field = s.field := with_tm_field s _
@[simp] theorem updTm_start (f : Tm → Tm) : (s.updTm f).start = s.start := with_tm_start s _
@[simp] theorem updTm_pins (f : Tm → Tm) : (s.updTm f).pins = s.pins := with_tm_pins s _
@[simp] theorem updTm_cars (f : Tm → Tm) : (s.updTm f).cars = s.cars := with_tm_cars s _
@[simp] theorem updTm_cad (f : Tm → Tm) : (s.updTm f).cad = s.cad := with_tm_cad s _
@[simp] theorem updTm_mem (f : Tm → Tm) : (s.updTm f).mem = s.mem := with_tm_mem s _
@[simp] theorem updTm_lanes (f : Tm → Tm) : (s.updTm f).lanes = s.lanes := with_tm_lanes s _
@[simp] theorem updTm_sense (f : Tm → Tm) : (s.updTm f).sense = s.sense := with_tm_sense s _
@[simp] theorem updTm_tele (f : Tm → Tm) : (s.updTm f).tele = s.tele := with_tm_tele s _
@[simp] theorem updTm_rail (f : Tm → Tm) : (s.updTm f).rail = s.rail := with_tm_rail s _
@[simp] theorem updTm_clock (f : Tm → Tm) : (s.updTm f).clock = s.clock := with_tm_clock s _
@[simp] theorem updTm_word (f : Tm → Tm) (pq : Page) (oq : Nat) : (s.updTm f).word pq oq = s.word pq oq := id rfl
@[simp] theorem updTm_rd (f : Tm → Tm) (pq : Page) (gq : Fld) : (s.updTm f).rd pq gq = s.rd pq gq := id rfl
@[simp] theorem updTm_rdI (f : Tm → Tm) (pq : Page) (gq : Fld) : (s.updTm f).rdI pq gq = s.rdI pq gq := id rfl
@[simp] theorem updTm_bit (f : Tm → Tm) (pq : Page) (gq : Fld) : (s.updTm f).bit pq gq = s.bit pq gq := id rfl

@[simp] theorem updCad_pending (f : Cad → Cad) : (s.updCad f).pending = s.pending := with_cad_pending s _
@[simp] theorem updCad_out (f : Cad → Cad) : (s.updCad f).out = s.out := with_cad_out s _
@[simp] theorem updCad_fresh (f : Cad → Cad) : (s.updCad f).fresh = s.fresh := with_cad_fresh s _
@[simp] theorem updCad_part (f : Cad → Cad) : (s.updCad f).part = s.part := with_cad_part s _
@[simp] theorem updCad_time (f : Cad → Cad) : (s.updCad f).time = s.time := with_cad_time s _
@[simp] theorem updCad_regs (f : Cad → Cad) : (s.updCad f).regs = s.regs := with_cad_regs s _
@[simp] theorem updCad_damage (f : Cad → Cad) : (s.updCad f).damage = s.damage := with_cad_damage s _
@[simp] theorem updCad_ctr (f : Cad → Cad) : (s.updCad f).ctr = s.ctr := with_cad_ctr s _
@[simp] theorem updCad_host (f : Cad → Cad) : (s.updCad f).host = s.host := with_cad_host s _
@[simp] theorem updCad_ses (f : Cad → Cad) : (s.updCad f).ses = s.ses := with_cad_ses s _
@[simp] theorem updCad_logRing (f : Cad → Cad) : (s.updCad f).logRing = s.logRing := with_cad_logRing s _
@[simp] theorem updCad_hubEnd (f : Cad → Cad) : (s.updCad f).hubEnd = s.hubEnd := with_cad_hubEnd s _
@[simp] theorem updCad_fieldEnd (f : Cad → Cad) : (s.updCad f).fieldEnd = s.fieldEnd := with_cad_fieldEnd s _
@[simp] theorem updCad_mirror (f : Cad → Cad) : (s.updCad f).mirror = s.mirror := with_cad_mirror s _
@[simp] theorem updCad_field (f : Cad → Cad) : (s.updCad f).field = s.field := with_cad_field s _
@[simp] theorem updCad_start (f : Cad → Cad) : (s.updCad f).start = s.start := with_cad_start s _
@[simp] theorem updCad_pins (f : Cad → Cad) : (s.updCad f).pins = s.pins := with_cad_pins s _
@[simp] theorem updCad_cars (f : Cad → Cad) : (s.updCad f).cars = s.cars := with_cad_cars s _
@[simp] theorem updCad_tm (f : Cad → Cad) : (s.updCad f).tm = s.tm := with_cad_tm s _
@[simp] theorem updCad_mem (f : Cad → Cad) : (s.updCad f).mem = s.mem := with_cad_mem s _
@[simp] theorem updCad_lanes (f : Cad → Cad) : (s.updCad f).lanes = s.lanes := with_cad_lanes s _
@[simp] theorem updCad_sense (f : Cad → Cad) : (s.updCad f).sense = s.sense := with_cad_sense s _
@[simp] theorem updCad_tele (f : Cad → Cad) : (s.updCad f).tele = s.tele := with_cad_tele s _
@[simp] theorem updCad_rail (f : Cad → Cad) : (s.updCad f).rail = s.rail := with_cad_rail s _
@[simp] theorem updCad_clock (f : Cad → Cad) : (s.updCad f).clock = s.clock := with_cad_clock s _
@[simp] theorem updCad_word (f : Cad → Cad) (pq : Page) (oq : Nat) : (s.updCad f).word pq oq = s.word pq oq := id rfl
@[simp] theorem updCad_rd (f : Cad → Cad) (pq : Page) (gq : Fld) : (s.updCad f).rd pq gq = s.rd pq gq := id rfl
@[simp] theorem updCad_rdI (f : Cad → Cad) (pq : Page) (gq : Fld) : (s.updCad f).rdI pq gq = s.rdI pq gq := id rfl
@[simp] theorem updCad_bit (f : Cad → Cad) (pq : Page) (gq : Fld) : (s.updCad f).bit pq gq = s.bit pq gq := id rfl

@[simp] theorem updField_pending (f : Field → Field) : (s.updField f).pending = s.pending := with_field_pending s _
@[simp] theorem updField_out (f : Field → Field) : (s.updField f).out = s.out := with_field_out s _
@[simp] theorem updField_fresh (f : Field → Field) : (s.updField f).fresh = s.fresh := with_field_fresh s _
@[simp] theorem updField_part (f : Field → Field) : (s.updField f).part = s.part := with_field_part s _
@[simp] theorem updField_time (f : Field → Field) : (s.updField f).time = s.time := with_field_time s _
@[simp] theorem updField_regs (f : Field → Field) : (s.updField f).regs = s.regs := with_field_regs s _
@[simp] theorem updField_damage (f : Field → Field) : (s.updField f).damage = s.damage := with_field_damage s _
@[simp] theorem updField_ctr (f : Field → Field) : (s.updField f).ctr = s.ctr := with_field_ctr s _
@[simp] theorem updField_host (f : Field → Field) : (s.updField f).host = s.host := with_field_host s _
@[simp] theorem updField_ses (f : Field → Field) : (s.updField f).ses = s.ses := with_field_ses s _
@[simp] theorem updField_logRing (f : Field → Field) : (s.updField f).logRing = s.logRing := with_field_logRing s _
@[simp] theorem updField_hubEnd (f : Field → Field) : (s.updField f).hubEnd = s.hubEnd := with_field_hubEnd s _
@[simp] theorem updField_fieldEnd (f : Field → Field) : (s.updField f).fieldEnd = s.fieldEnd := with_field_fieldEnd s _
@[simp] theorem updField_mirror (f : Field → Field) : (s.updField f).mirror = s.mirror := with_field_mirror s _
@[simp] theorem updField_start (f : Field → Field) : (s.updField f).start = s.start := with_field_start s _
@[simp] theorem updField_pins (f : Field → Field) : (s.updField f).pins = s.pins := with_field_pins s _
@[simp] theorem updField_cars (f : Field → Field) : (s.updField f).cars = s.cars := with_field_cars s _
@[simp] theorem updField_tm (f : Field → Field) : (s.updField f).tm = s.tm := with_field_tm s _
@[simp] theorem updField_cad (f : Field → Field) : (s.updField f).cad = s.cad := with_field_cad s _
@[simp] theorem updField_mem (f : Field → Field) : (s.updField f).mem = s.mem := with_field_mem s _
@[simp] theorem updField_lanes (f : Field → Field) : (s.updField f).lanes = s.lanes := with_field_lanes s _
@[simp] theorem updField_sense (f : Field → Field) : (s.updField f).sense = s.sense := with_field_sense s _
@[simp] theorem updField_tele (f : Field → Field) : (s.updField f).tele = s.tele := with_field_tele s _
@[simp] theorem updField_rail (f : Field → Field) : (s.updField f).rail = s.rail := with_field_rail s _
@[simp] theorem updField_clock (f : Field → Field) : (s.updField f).clock = s.clock := with_field_clock s _
@[simp] theorem updField_word (f : Field → Field) (pq : Page) (oq : Nat) : (s.updField f).word pq oq = s.word pq oq := id rfl
@[simp] theorem updField_rd (f : Field → Field) (pq : Page) (gq : Fld) : (s.updField f).rd pq gq = s.rd pq gq := id rfl
@[simp] theorem updField_rdI (f : Field → Field) (pq : Page) (gq : Fld) : (s.updField f).rdI pq gq = s.rdI pq gq := id rfl
@[simp] theorem updField_bit (f : Field → Field) (pq : Page) (gq : Fld) : (s.updField f).bit pq gq = s.bit pq gq := id rfl

@[simp] theorem updPub_pending (f : FieldPub → FieldPub) : (s.updPub f).pending = s.pending := with_field_pending s _
@[simp] theorem updPub_out (f : FieldPub → FieldPub) : (s.updPub f).out = s.out := with_field_out s _
@[simp] theorem updPub_fresh (f : FieldPub → FieldPub) : (s.updPub f).fresh = s.fresh := with_field_fresh s _
@[simp] theorem updPub_part (f : FieldPub → FieldPub) : (s.updPub f).part = s.part := with_field_part s _
@[simp] theorem updPub_time (f : FieldPub → FieldPub) : (s.updPub f).time = s.time := with_field_time s _
@[simp] theorem updPub_regs (f : FieldPub → FieldPub) : (s.updPub f).regs = s.regs := with_field_regs s _
@[simp] theorem updPub_damage (f : FieldPub → FieldPub) : (s.updPub f).damage = s.damage := with_field_damage s _
@[simp] theorem updPub_ctr (f : FieldPub → FieldPub) : (s.updPub f).ctr = s.ctr := with_field_ctr s _
@[simp] theorem updPub_host (f : FieldPub → FieldPub) : (s.updPub f).host = s.host := with_field_host s _
@[simp] theorem updPub_ses (f : FieldPub → FieldPub) : (s.updPub f).ses = s.ses := with_field_ses s _
@[simp] theorem updPub_logRing (f : FieldPub → FieldPub) : (s.updPub f).logRing = s.logRing := with_field_logRing s _
@[simp] theorem updPub_hubEnd (f : FieldPub → FieldPub) : (s.updPub f).hubEnd = s.hubEnd := with_field_hubEnd s _
@[simp] theorem updPub_fieldEnd (f : FieldPub → FieldPub) : (s.updPub f).fieldEnd = s.fieldEnd := with_field_fieldEnd s _
@[simp] theorem updPub_mirror (f : FieldPub → FieldPub) : (s.updPub f).mirror = s.mirror := with_field_mirror s _
@[simp] theorem updPub_start (f : FieldPub → FieldPub) : (s.updPub f).start = s.start := with_field_start s _
@[simp] theorem updPub_pins (f : FieldPub → FieldPub) : (s.updPub f).pins = s.pins := with_field_pins s _
@[simp] theorem updPub_cars (f : FieldPub → FieldPub) : (s.updPub f).cars = s.cars := with_field_cars s _
@[simp] theorem updPub_tm (f : FieldPub → FieldPub) : (s.updPub f).tm = s.tm := with_field_tm s _
@[simp] theorem updPub_cad (f : FieldPub → FieldPub) : (s.updPub f).cad = s.cad := with_field_cad s _
@[simp] theorem updPub_mem (f : FieldPub → FieldPub) : (s.updPub f).mem = s.mem := with_field_mem s _
@[simp] theorem updPub_lanes (f : FieldPub → FieldPub) : (s.updPub f).lanes = s.lanes := with_field_lanes s _
@[simp] theorem updPub_sense (f : FieldPub → FieldPub) : (s.updPub f).sense = s.sense := with_field_sense s _
@[simp] theorem updPub_tele (f : FieldPub → FieldPub) : (s.updPub f).tele = s.tele := with_field_tele s _
@[simp] theorem updPub_rail (f : FieldPub → FieldPub) : (s.updPub f).rail = s.rail := with_field_rail s _
@[simp] theorem updPub_clock (f : FieldPub → FieldPub) : (s.updPub f).clock = s.clock := with_field_clock s _
@[simp] theorem updPub_word (f : FieldPub → FieldPub) (pq : Page) (oq : Nat) : (s.updPub f).word pq oq = s.word pq oq := id rfl
@[simp] theorem updPub_rd (f : FieldPub → FieldPub) (pq : Page) (gq : Fld) : (s.updPub f).rd pq gq = s.rd pq gq := id rfl
@[simp] theorem updPub_rdI (f : FieldPub → FieldPub) (pq : Page) (gq : Fld) : (s.updPub f).rdI pq gq = s.rdI pq gq := id rfl
@[simp] theorem updPub_bit (f : FieldPub → FieldPub) (pq : Page) (gq : Fld) : (s.updPub f).bit pq gq = s.bit pq gq := id rfl

@[simp] theorem updMirror_pending (f : Mirror → Mirror) : (s.updMirror f).pending = s.pending := with_mirror_pending s _
@[simp] theorem updMirror_out (f : Mirror → Mirror) : (s.updMirror f).out = s.out := with_mirror_out s _
@[simp] theorem updMirror_fresh (f : Mirror → Mirror) : (s.updMirror f).fresh = s.fresh := with_mirror_fresh s _
@[simp] theorem updMirror_part (f : Mirror → Mirror) : (s.updMirror f).part = s.part := with_mirror_part s _
@[simp] theorem updMirror_time (f : Mirror → Mirror) : (s.updMirror f).time = s.time := with_mirror_time s _
@[simp] theorem updMirror_regs (f : Mirror → Mirror) : (s.updMirror f).regs = s.regs := with_mirror_regs s _
@[simp] theorem updMirror_damage (f : Mirror → Mirror) : (s.updMirror f).damage = s.damage := with_mirror_damage s _
@[simp] theorem updMirror_ctr (f : Mirror → Mirror) : (s.updMirror f).ctr = s.ctr := with_mirror_ctr s _
@[simp] theorem updMirror_host (f : Mirror → Mirror) : (s.updMirror f).host = s.host := with_mirror_host s _
@[simp] theorem updMirror_ses (f : Mirror → Mirror) : (s.updMirror f).ses = s.ses := with_mirror_ses s _
@[simp] theorem updMirror_logRing (f : Mirror → Mirror) : (s.updMirror f).logRing = s.logRing := with_mirror_logRing s _
@[simp] theorem updMirror_hubEnd (f : Mirror → Mirror) : (s.updMirror f).hubEnd = s.hubEnd := with_mirror_hubEnd s _
@[simp] theorem updMirror_fieldEnd (f : Mirror → Mirror) : (s.updMirror f).fieldEnd = s.fieldEnd := with_mirror_fieldEnd s _
@[simp] theorem updMirror_field (f : Mirror → Mirror) : (s.updMirror f).field = s.field := with_mirror_field s _
@[simp] theorem updMirror_start (f : Mirror → Mirror) : (s.updMirror f).start = s.start := with_mirror_start s _
@[simp] theorem updMirror_pins (f : Mirror → Mirror) : (s.updMirror f).pins = s.pins := with_mirror_pins s _
@[simp] theorem updMirror_cars (f : Mirror → Mirror) : (s.updMirror f).cars = s.cars := with_mirror_cars s _
@[simp] theorem updMirror_tm (f : Mirror → Mirror) : (s.updMirror f).tm = s.tm := with_mirror_tm s _
@[simp] theorem updMirror_cad (f : Mirror → Mirror) : (s.updMirror f).cad = s.cad := with_mirror_cad s _
@[simp] theorem updMirror_mem (f : Mirror → Mirror) : (s.updMirror f).mem = s.mem := with_mirror_mem s _
@[simp] theorem updMirror_lanes (f : Mirror → Mirror) : (s.updMirror f).lanes = s.lanes := with_mirror_lanes s _
@[simp] theorem updMirror_sense (f : Mirror → Mirror) : (s.updMirror f).sense = s.sense := with_mirror_sense s _
@[simp] theorem updMirror_tele (f : Mirror → Mirror) : (s.updMirror f).tele = s.tele := with_mirror_tele s _
@[simp] theorem updMirror_rail (f : Mirror → Mirror) : (s.updMirror f).rail = s.rail := with_mirror_rail s _
@[simp] theorem updMirror_clock (f : Mirror → Mirror) : (s.updMirror f).clock = s.clock := with_mirror_clock s _
@[simp] theorem updMirror_word (f : Mirror → Mirror) (pq : Page) (oq : Nat) : (s.updMirror f).word pq oq = s.word pq oq := id rfl
@[simp] theorem updMirror_rd (f : Mirror → Mirror) (pq : Page) (gq : Fld) : (s.updMirror f).rd pq gq = s.rd pq gq := id rfl
@[simp] theorem updMirror_rdI (f : Mirror → Mirror) (pq : Page) (gq : Fld) : (s.updMirror f).rdI pq gq = s.rdI pq gq := id rfl
@[simp] theorem updMirror_bit (f : Mirror → Mirror) (pq : Page) (gq : Fld) : (s.updMirror f).bit pq gq = s.bit pq gq := id rfl

@[simp] theorem updStart_pending (f : Start → Start) : (s.updStart f).pending = s.pending := with_start_pending s _
@[simp] theorem updStart_out (f : Start → Start) : (s.updStart f).out = s.out := with_start_out s _
@[simp] theorem updStart_fresh (f : Start → Start) : (s.updStart f).fresh = s.fresh := with_start_fresh s _
@[simp] theorem updStart_part (f : Start → Start) : (s.updStart f).part = s.part := with_start_part s _
@[simp] theorem updStart_time (f : Start → Start) : (s.updStart f).time = s.time := with_start_time s _
@[simp] theorem updStart_regs (f : Start → Start) : (s.updStart f).regs = s.regs := with_start_regs s _
@[simp] theorem updStart_damage (f : Start → Start) : (s.updStart f).damage = s.damage := with_start_damage s _
@[simp] theorem updStart_ctr (f : Start → Start) : (s.updStart f).ctr = s.ctr := with_start_ctr s _
@[simp] theorem updStart_host (f : Start → Start) : (s.updStart f).host = s.host := with_start_host s _
@[simp] theorem updStart_ses (f : Start → Start) : (s.updStart f).ses = s.ses := with_start_ses s _
@[simp] theorem updStart_logRing (f : Start → Start) : (s.updStart f).logRing = s.logRing := with_start_logRing s _
@[simp] theorem updStart_hubEnd (f : Start → Start) : (s.updStart f).hubEnd = s.hubEnd := with_start_hubEnd s _
@[simp] theorem updStart_fieldEnd (f : Start → Start) : (s.updStart f).fieldEnd = s.fieldEnd := with_start_fieldEnd s _
@[simp] theorem updStart_mirror (f : Start → Start) : (s.updStart f).mirror = s.mirror := with_start_mirror s _
@[simp] theorem updStart_field (f : Start → Start) : (s.updStart f).field = s.field := with_start_field s _
@[simp] theorem updStart_pins (f : Start → Start) : (s.updStart f).pins = s.pins := with_start_pins s _
@[simp] theorem updStart_cars (f : Start → Start) : (s.updStart f).cars = s.cars := with_start_cars s _
@[simp] theorem updStart_tm (f : Start → Start) : (s.updStart f).tm = s.tm := with_start_tm s _
@[simp] theorem updStart_cad (f : Start → Start) : (s.updStart f).cad = s.cad := with_start_cad s _
@[simp] theorem updStart_mem (f : Start → Start) : (s.updStart f).mem = s.mem := with_start_mem s _
@[simp] theorem updStart_lanes (f : Start → Start) : (s.updStart f).lanes = s.lanes := with_start_lanes s _
@[simp] theorem updStart_sense (f : Start → Start) : (s.updStart f).sense = s.sense := with_start_sense s _
@[simp] theorem updStart_tele (f : Start → Start) : (s.updStart f).tele = s.tele := with_start_tele s _
@[simp] theorem updStart_rail (f : Start → Start) : (s.updStart f).rail = s.rail := with_start_rail s _
@[simp] theorem updStart_clock (f : Start → Start) : (s.updStart f).clock = s.clock := with_start_clock s _
@[simp] theorem updStart_word (f : Start → Start) (pq : Page) (oq : Nat) : (s.updStart f).word pq oq = s.word pq oq := id rfl
@[simp] theorem updStart_rd (f : Start → Start) (pq : Page) (gq : Fld) : (s.updStart f).rd pq gq = s.rd pq gq := id rfl
@[simp] theorem updStart_rdI (f : Start → Start) (pq : Page) (gq : Fld) : (s.updStart f).rdI pq gq = s.rdI pq gq := id rfl
@[simp] theorem updStart_bit (f : Start → Start) (pq : Page) (gq : Fld) : (s.updStart f).bit pq gq = s.bit pq gq := id rfl

@[simp] theorem updTele_pending (f : Tele → Tele) : (s.updTele f).pending = s.pending := with_tele_pending s _
@[simp] theorem updTele_out (f : Tele → Tele) : (s.updTele f).out = s.out := with_tele_out s _
@[simp] theorem updTele_fresh (f : Tele → Tele) : (s.updTele f).fresh = s.fresh := with_tele_fresh s _
@[simp] theorem updTele_part (f : Tele → Tele) : (s.updTele f).part = s.part := with_tele_part s _
@[simp] theorem updTele_time (f : Tele → Tele) : (s.updTele f).time = s.time := with_tele_time s _
@[simp] theorem updTele_regs (f : Tele → Tele) : (s.updTele f).regs = s.regs := with_tele_regs s _
@[simp] theorem updTele_damage (f : Tele → Tele) : (s.updTele f).damage = s.damage := with_tele_damage s _
@[simp] theorem updTele_ctr (f : Tele → Tele) : (s.updTele f).ctr = s.ctr := with_tele_ctr s _
@[simp] theorem updTele_host (f : Tele → Tele) : (s.updTele f).host = s.host := with_tele_host s _
@[simp] theorem updTele_ses (f : Tele → Tele) : (s.updTele f).ses = s.ses := with_tele_ses s _
@[simp] theorem updTele_logRing (f : Tele → Tele) : (s.updTele f).logRing = s.logRing := with_tele_logRing s _
@[simp] theorem updTele_hubEnd (f : Tele → Tele) : (s.updTele f).hubEnd = s.hubEnd := with_tele_hubEnd s _
@[simp] theorem updTele_fieldEnd (f : Tele → Tele) : (s.updTele f).fieldEnd = s.fieldEnd := with_tele_fieldEnd s _
@[simp] theorem updTele_mirror (f : Tele → Tele) : (s.updTele f).mirror = s.mirror := with_tele_mirror s _
@[simp] theorem updTele_field (f : Tele → Tele) : (s.updTele f).field = s.field := with_tele_field s _
@[simp] theorem updTele_start (f : Tele → Tele) : (s.updTele f).start = s.start := with_tele_start s _
@[simp] theorem updTele_pins (f : Tele → Tele) : (s.updTele f).pins = s.pins := with_tele_pins s _
@[simp] theorem updTele_cars (f : Tele → Tele) : (s.updTele f).cars = s.cars := with_tele_cars s _
@[simp] theorem updTele_tm (f : Tele → Tele) : (s.updTele f).tm = s.tm := with_tele_tm s _
@[simp] theorem updTele_cad (f : Tele → Tele) : (s.updTele f).cad = s.cad := with_tele_cad s _
@[simp] theorem updTele_mem (f : Tele → Tele) : (s.updTele f).mem = s.mem := with_tele_mem s _
@[simp] theorem updTele_lanes (f : Tele → Tele) : (s.updTele f).lanes = s.lanes := with_tele_lanes s _
@[simp] theorem updTele_sense (f : Tele → Tele) : (s.updTele f).sense = s.sense := with_tele_sense s _
@[simp] theorem updTele_rail (f : Tele → Tele) : (s.updTele f).rail = s.rail := with_tele_rail s _
@[simp] theorem updTele_clock (f : Tele → Tele) : (s.updTele f).clock = s.clock := with_tele_clock s _
@[simp] theorem updTele_word (f : Tele → Tele) (pq : Page) (oq : Nat) : (s.updTele f).word pq oq = s.word pq oq := id rfl
@[simp] theorem updTele_rd (f : Tele → Tele) (pq : Page) (gq : Fld) : (s.updTele f).rd pq gq = s.rd pq gq := id rfl
@[simp] theorem updTele_rdI (f : Tele → Tele) (pq : Page) (gq : Fld) : (s.updTele f).rdI pq gq = s.rdI pq gq := id rfl
@[simp] theorem updTele_bit (f : Tele → Tele) (pq : Page) (gq : Fld) : (s.updTele f).bit pq gq = s.bit pq gq := id rfl

@[simp] theorem updSense_pending (f : Sense → Sense) : (s.updSense f).pending = s.pending := with_sense_pending s _
@[simp] theorem updSense_out (f : Sense → Sense) : (s.updSense f).out = s.out := with_sense_out s _
@[simp] theorem updSense_fresh (f : Sense → Sense) : (s.updSense f).fresh = s.fresh := with_sense_fresh s _
@[simp] theorem updSense_part (f : Sense → Sense) : (s.updSense f).part = s.part := with_sense_part s _
@[simp] theorem updSense_time (f : Sense → Sense) : (s.updSense f).time = s.time := with_sense_time s _
@[simp] theorem updSense_regs (f : Sense → Sense) : (s.updSense f).regs = s.regs := with_sense_regs s _
@[simp] theorem updSense_damage (f : Sense → Sense) : (s.updSense f).damage = s.damage := with_sense_damage s _
@[simp] theorem updSense_ctr (f : Sense → Sense) : (s.updSense f).ctr = s.ctr := with_sense_ctr s _
@[simp] theorem updSense_host (f : Sense → Sense) : (s.updSense f).host = s.host := with_sense_host s _
@[simp] theorem updSense_ses (f : Sense → Sense) : (s.updSense f).ses = s.ses := with_sense_ses s _
@[simp] theorem updSense_logRing (f : Sense → Sense) : (s.updSense f).logRing = s.logRing := with_sense_logRing s _
@[simp] theorem updSense_hubEnd (f : Sense → Sense) : (s.updSense f).hubEnd = s.hubEnd := with_sense_hubEnd s _
@[simp] theorem updSense_fieldEnd (f : Sense → Sense) : (s.updSense f).fieldEnd = s.fieldEnd := with_sense_fieldEnd s _
@[simp] theorem updSense_mirror (f : Sense → Sense) : (s.updSense f).mirror = s.mirror := with_sense_mirror s _
@[simp] theorem updSense_field (f : Sense → Sense) : (s.updSense f).field = s.field := with_sense_field s _
@[simp] theorem updSense_start (f : Sense → Sense) : (s.updSense f).start = s.start := with_sense_start s _
@[simp] theorem updSense_pins (f : Sense → Sense) : (s.updSense f).pins = s.pins := with_sense_pins s _
@[simp] theorem updSense_cars (f : Sense → Sense) : (s.updSense f).cars = s.cars := with_sense_cars s _
@[simp] theorem updSense_tm (f : Sense → Sense) : (s.updSense f).tm = s.tm := with_sense_tm s _
@[simp] theorem updSense_cad (f : Sense → Sense) : (s.updSense f).cad = s.cad := with_sense_cad s _
@[simp] theorem updSense_mem (f : Sense → Sense) : (s.updSense f).mem = s.mem := with_sense_mem s _
@[simp] theorem updSense_lanes (f : Sense → Sense) : (s.updSense f).lanes = s.lanes := with_sense_lanes s _
@[simp] theorem updSense_tele (f : Sense → Sense) : (s.updSense f).tele = s.tele := with_sense_tele s _
@[simp] theorem updSense_rail (f : Sense → Sense) : (s.updSense f).rail = s.rail := with_sense_rail s _
@[simp] theorem updSense_clock (f : Sense → Sense) : (s.updSense f).clock = s.clock := with_sense_clock s _
@[simp] theorem updSense_word (f : Sense → Sense) (pq : Page) (oq : Nat) : (s.updSense f).word pq oq = s.word pq oq := id rfl
@[simp] theorem updSense_rd (f : Sense → Sense) (pq : Page) (gq : Fld) : (s.updSense f).rd pq gq = s.rd pq gq := id rfl
@[simp] theorem updSense_rdI (f : Sense → Sense) (pq : Page) (gq : Fld) : (s.updSense f).rdI pq gq = s.rdI pq gq := id rfl
@[simp] theorem updSense_bit (f : Sense → Sense) (pq : Page) (gq : Fld) : (s.updSense f).bit pq gq = s.bit pq gq := id rfl

@[simp] theorem updMem_pending (f : Mem → Mem) : (s.updMem f).pending = s.pending := with_mem_pending s _
@[simp] theorem updMem_out (f : Mem → Mem) : (s.updMem f).out = s.out := with_mem_out s _
@[simp] theorem updMem_fresh (f : Mem → Mem) : (s.updMem f).fresh = s.fresh := with_mem_fresh s _
@[simp] theorem updMem_part (f : Mem → Mem) : (s.updMem f).part = s.part := with_mem_part s _
@[simp] theorem updMem_time (f : Mem → Mem) : (s.updMem f).time = s.time := with_mem_time s _
@[simp] theorem updMem_regs (f : Mem → Mem) : (s.updMem f).regs = s.regs := with_mem_regs s _
@[simp] theorem updMem_damage (f : Mem → Mem) : (s.updMem f).damage = s.damage := with_mem_damage s _
@[simp] theorem updMem_ctr (f : Mem → Mem) : (s.updMem f).ctr = s.ctr := with_mem_ctr s _
@[simp] theorem updMem_host (f : Mem → Mem) : (s.updMem f).host = s.host := with_mem_host s _
@[simp] theorem updMem_ses (f : Mem → Mem) : (s.updMem f).ses = s.ses := with_mem_ses s _
@[simp] theorem updMem_logRing (f : Mem → Mem) : (s.updMem f).logRing = s.logRing := with_mem_logRing s _
@[simp] theorem updMem_hubEnd (f : Mem → Mem) : (s.updMem f).hubEnd = s.hubEnd := with_mem_hubEnd s _
@[simp] theorem updMem_fieldEnd (f : Mem → Mem) : (s.updMem f).fieldEnd = s.fieldEnd := with_mem_fieldEnd s _
@[simp] theorem updMem_mirror (f : Mem → Mem) : (s.updMem f).mirror = s.mirror := with_mem_mirror s _
@[simp] theorem updMem_field (f : Mem → Mem) : (s.updMem f).field = s.field := with_mem_field s _
@[simp] theorem updMem_start (f : Mem → Mem) : (s.updMem f).start = s.start := with_mem_start s _
@[simp] theorem updMem_pins (f : Mem → Mem) : (s.updMem f).pins = s.pins := with_mem_pins s _
@[simp] theorem updMem_cars (f : Mem → Mem) : (s.updMem f).cars = s.cars := with_mem_cars s _
@[simp] theorem updMem_tm (f : Mem → Mem) : (s.updMem f).tm = s.tm := with_mem_tm s _
@[simp] theorem updMem_cad (f : Mem → Mem) : (s.updMem f).cad = s.cad := with_mem_cad s _
@[simp] theorem updMem_lanes (f : Mem → Mem) : (s.updMem f).lanes = s.lanes := with_mem_lanes s _
@[simp] theorem updMem_sense (f : Mem → Mem) : (s.updMem f).sense = s.sense := with_mem_sense s _
@[simp] theorem updMem_tele (f : Mem → Mem) : (s.updMem f).tele = s.tele := with_mem_tele s _
@[simp] theorem updMem_rail (f : Mem → Mem) : (s.updMem f).rail = s.rail := with_mem_rail s _
@[simp] theorem updMem_clock (f : Mem → Mem) : (s.updMem f).clock = s.clock := with_mem_clock s _
@[simp] theorem updMem_word (f : Mem → Mem) (pq : Page) (oq : Nat) : (s.updMem f).word pq oq = s.word pq oq := id rfl
@[simp] theorem updMem_rd (f : Mem → Mem) (pq : Page) (gq : Fld) : (s.updMem f).rd pq gq = s.rd pq gq := id rfl
@[simp] theorem updMem_rdI (f : Mem → Mem) (pq : Page) (gq : Fld) : (s.updMem f).rdI pq gq = s.rdI pq gq := id rfl
@[simp] theorem updMem_bit (f : Mem → Mem) (pq : Page) (gq : Fld) : (s.updMem f).bit pq gq = s.bit pq gq := id rfl

@[simp] theorem updRail_pending (f : Rail → Rail) : (s.updRail f).pending = s.pending := with_rail_pending s _
@[simp] theorem updRail_out (f : Rail → Rail) : (s.updRail f).out = s.out := with_rail_out s _
@[simp] theorem updRail_fresh (f : Rail → Rail) : (s.updRail f).fresh = s.fresh := with_rail_fresh s _
@[simp] theorem updRail_part (f : Rail → Rail) : (s.updRail f).part = s.part := with_rail_part s _
@[simp] theorem updRail_time (f : Rail → Rail) : (s.updRail f).time = s.time := with_rail_time s _
@[simp] theorem updRail_regs (f : Rail → Rail) : (s.updRail f).regs = s.regs := with_rail_regs s _
@[simp] theorem updRail_damage (f : Rail → Rail) : (s.updRail f).damage = s.damage := with_rail_damage s _
@[simp] theorem updRail_ctr (f : Rail → Rail) : (s.updRail f).ctr = s.ctr := with_rail_ctr s _
@[simp] theorem updRail_host (f : Rail → Rail) : (s.updRail f).host = s.host := with_rail_host s _
@[simp] theorem updRail_ses (f : Rail → Rail) : (s.updRail f).ses = s.ses := with_rail_ses s _
@[simp] theorem updRail_logRing (f : Rail → Rail) : (s.updRail f).logRing = s.logRing := with_rail_logRing s _
@[simp] theorem updRail_hubEnd (f : Rail → Rail) : (s.updRail f).hubEnd = s.hubEnd := with_rail_hubEnd s _
@[simp] theorem updRail_fieldEnd (f : Rail → Rail) : (s.updRail f).fieldEnd = s.fieldEnd := with_rail_fieldEnd s _
@[simp] theorem updRail_mirror (f : Rail → Rail) : (s.updRail f).mirror = s.mirror := with_rail_mirror s _
@[simp] theorem updRail_field (f : Rail → Rail) : (s.updRail f).field = s.field := with_rail_field s _
@[simp] theorem updRail_start (f : Rail → Rail) : (s.updRail f).start = s.start := with_rail_start s _
@[simp] theorem updRail_pins (f : Rail → Rail) : (s.updRail f).pins = s.pins := with_rail_pins s _
@[simp] theorem updRail_cars (f : Rail → Rail) : (s.updRail f).cars = s.cars := with_rail_cars s _
@[simp] theorem updRail_tm (f : Rail → Rail) : (s.updRail f).tm = s.tm := with_rail_tm s _
@[simp] theorem updRail_cad (f : Rail → Rail) : (s.updRail f).cad = s.cad := with_rail_cad s _
@[simp] theorem updRail_mem (f : Rail → Rail) : (s.updRail f).mem = s.mem := with_rail_mem s _
@[simp] theorem updRail_lanes (f : Rail → Rail) : (s.updRail f).lanes = s.lanes := with_rail_lanes s _
@[simp] theorem updRail_sense (f : Rail → Rail) : (s.updRail f).sense = s.sense := with_rail_sense s _
@[simp] theorem updRail_tele (f : Rail → Rail) : (s.updRail f).tele = s.tele := with_rail_tele s _
@[simp] theorem updRail_clock (f : Rail → Rail) : (s.updRail f).clock = s.clock := with_rail_clock s _
@[simp] theorem updRail_word (f : Rail → Rail) (pq : Page) (oq : Nat) : (s.updRail f).word pq oq = s.word pq oq := id rfl
@[simp] theorem updRail_rd (f : Rail → Rail) (pq : Page) (gq : Fld) : (s.updRail f).rd pq gq = s.rd pq gq := id rfl
@[simp] theorem updRail_rdI (f : Rail → Rail) (pq : Page) (gq : Fld) : (s.updRail f).rdI pq gq = s.rdI pq gq := id rfl
@[simp] theorem updRail_bit (f : Rail → Rail) (pq : Page) (gq : Fld) : (s.updRail f).bit pq gq = s.bit pq gq := id rfl

@[simp] theorem setDie_pending (d : Fin 2) (x : HostDie) : (s.setDie d x).pending = s.pending := with_lanes_pending s _
@[simp] theorem setDie_out (d : Fin 2) (x : HostDie) : (s.setDie d x).out = s.out := with_lanes_out s _
@[simp] theorem setDie_fresh (d : Fin 2) (x : HostDie) : (s.setDie d x).fresh = s.fresh := with_lanes_fresh s _
@[simp] theorem setDie_part (d : Fin 2) (x : HostDie) : (s.setDie d x).part = s.part := with_lanes_part s _
@[simp] theorem setDie_time (d : Fin 2) (x : HostDie) : (s.setDie d x).time = s.time := with_lanes_time s _
@[simp] theorem setDie_regs (d : Fin 2) (x : HostDie) : (s.setDie d x).regs = s.regs := with_lanes_regs s _
@[simp] theorem setDie_damage (d : Fin 2) (x : HostDie) : (s.setDie d x).damage = s.damage := with_lanes_damage s _
@[simp] theorem setDie_ctr (d : Fin 2) (x : HostDie) : (s.setDie d x).ctr = s.ctr := with_lanes_ctr s _
@[simp] theorem setDie_host (d : Fin 2) (x : HostDie) : (s.setDie d x).host = s.host := with_lanes_host s _
@[simp] theorem setDie_ses (d : Fin 2) (x : HostDie) : (s.setDie d x).ses = s.ses := with_lanes_ses s _
@[simp] theorem setDie_logRing (d : Fin 2) (x : HostDie) : (s.setDie d x).logRing = s.logRing := with_lanes_logRing s _
@[simp] theorem setDie_hubEnd (d : Fin 2) (x : HostDie) : (s.setDie d x).hubEnd = s.hubEnd := with_lanes_hubEnd s _
@[simp] theorem setDie_fieldEnd (d : Fin 2) (x : HostDie) : (s.setDie d x).fieldEnd = s.fieldEnd := with_lanes_fieldEnd s _
@[simp] theorem setDie_mirror (d : Fin 2) (x : HostDie) : (s.setDie d x).mirror = s.mirror := with_lanes_mirror s _
@[simp] theorem setDie_field (d : Fin 2) (x : HostDie) : (s.setDie d x).field = s.field := with_lanes_field s _
@[simp] theorem setDie_start (d : Fin 2) (x : HostDie) : (s.setDie d x).start = s.start := with_lanes_start s _
@[simp] theorem setDie_pins (d : Fin 2) (x : HostDie) : (s.setDie d x).pins = s.pins := with_lanes_pins s _
@[simp] theorem setDie_cars (d : Fin 2) (x : HostDie) : (s.setDie d x).cars = s.cars := with_lanes_cars s _
@[simp] theorem setDie_tm (d : Fin 2) (x : HostDie) : (s.setDie d x).tm = s.tm := with_lanes_tm s _
@[simp] theorem setDie_cad (d : Fin 2) (x : HostDie) : (s.setDie d x).cad = s.cad := with_lanes_cad s _
@[simp] theorem setDie_mem (d : Fin 2) (x : HostDie) : (s.setDie d x).mem = s.mem := with_lanes_mem s _
@[simp] theorem setDie_sense (d : Fin 2) (x : HostDie) : (s.setDie d x).sense = s.sense := with_lanes_sense s _
@[simp] theorem setDie_tele (d : Fin 2) (x : HostDie) : (s.setDie d x).tele = s.tele := with_lanes_tele s _
@[simp] theorem setDie_rail (d : Fin 2) (x : HostDie) : (s.setDie d x).rail = s.rail := with_lanes_rail s _
@[simp] theorem setDie_clock (d : Fin 2) (x : HostDie) : (s.setDie d x).clock = s.clock := with_lanes_clock s _
@[simp] theorem setDie_word (d : Fin 2) (x : HostDie) (pq : Page) (oq : Nat) : (s.setDie d x).word pq oq = s.word pq oq := id rfl
@[simp] theorem setDie_rd (d : Fin 2) (x : HostDie) (pq : Page) (gq : Fld) : (s.setDie d x).rd pq gq = s.rd pq gq := id rfl
@[simp] theorem setDie_rdI (d : Fin 2) (x : HostDie) (pq : Page) (gq : Fld) : (s.setDie d x).rdI pq gq = s.rdI pq gq := id rfl
@[simp] theorem setDie_bit (d : Fin 2) (x : HostDie) (pq : Page) (gq : Fld) : (s.setDie d x).bit pq gq = s.bit pq gq := id rfl

@[simp] theorem setHgrp_pending (d : Fin 2) (g : Fin 4) (x : LaneGroup) : (s.setHgrp d g x).pending = s.pending := with_lanes_pending s _
@[simp] theorem setHgrp_out (d : Fin 2) (g : Fin 4) (x : LaneGroup) : (s.setHgrp d g x).out = s.out := with_lanes_out s _
@[simp] theorem setHgrp_fresh (d : Fin 2) (g : Fin 4) (x : LaneGroup) : (s.setHgrp d g x).fresh = s.fresh := with_lanes_fresh s _
@[simp] theorem setHgrp_part (d : Fin 2) (g : Fin 4) (x : LaneGroup) : (s.setHgrp d g x).part = s.part := with_lanes_part s _
@[simp] theorem setHgrp_time (d : Fin 2) (g : Fin 4) (x : LaneGroup) : (s.setHgrp d g x).time = s.time := with_lanes_time s _
@[simp] theorem setHgrp_regs (d : Fin 2) (g : Fin 4) (x : LaneGroup) : (s.setHgrp d g x).regs = s.regs := with_lanes_regs s _
@[simp] theorem setHgrp_damage (d : Fin 2) (g : Fin 4) (x : LaneGroup) : (s.setHgrp d g x).damage = s.damage := with_lanes_damage s _
@[simp] theorem setHgrp_ctr (d : Fin 2) (g : Fin 4) (x : LaneGroup) : (s.setHgrp d g x).ctr = s.ctr := with_lanes_ctr s _
@[simp] theorem setHgrp_host (d : Fin 2) (g : Fin 4) (x : LaneGroup) : (s.setHgrp d g x).host = s.host := with_lanes_host s _
@[simp] theorem setHgrp_ses (d : Fin 2) (g : Fin 4) (x : LaneGroup) : (s.setHgrp d g x).ses = s.ses := with_lanes_ses s _
@[simp] theorem setHgrp_logRing (d : Fin 2) (g : Fin 4) (x : LaneGroup) : (s.setHgrp d g x).logRing = s.logRing := with_lanes_logRing s _
@[simp] theorem setHgrp_hubEnd (d : Fin 2) (g : Fin 4) (x : LaneGroup) : (s.setHgrp d g x).hubEnd = s.hubEnd := with_lanes_hubEnd s _
@[simp] theorem setHgrp_fieldEnd (d : Fin 2) (g : Fin 4) (x : LaneGroup) : (s.setHgrp d g x).fieldEnd = s.fieldEnd := with_lanes_fieldEnd s _
@[simp] theorem setHgrp_mirror (d : Fin 2) (g : Fin 4) (x : LaneGroup) : (s.setHgrp d g x).mirror = s.mirror := with_lanes_mirror s _
@[simp] theorem setHgrp_field (d : Fin 2) (g : Fin 4) (x : LaneGroup) : (s.setHgrp d g x).field = s.field := with_lanes_field s _
@[simp] theorem setHgrp_start (d : Fin 2) (g : Fin 4) (x : LaneGroup) : (s.setHgrp d g x).start = s.start := with_lanes_start s _
@[simp] theorem setHgrp_pins (d : Fin 2) (g : Fin 4) (x : LaneGroup) : (s.setHgrp d g x).pins = s.pins := with_lanes_pins s _
@[simp] theorem setHgrp_cars (d : Fin 2) (g : Fin 4) (x : LaneGroup) : (s.setHgrp d g x).cars = s.cars := with_lanes_cars s _
@[simp] theorem setHgrp_tm (d : Fin 2) (g : Fin 4) (x : LaneGroup) : (s.setHgrp d g x).tm = s.tm := with_lanes_tm s _
@[simp] theorem setHgrp_cad (d : Fin 2) (g : Fin 4) (x : LaneGroup) : (s.setHgrp d g x).cad = s.cad := with_lanes_cad s _
@[simp] theorem setHgrp_mem (d : Fin 2) (g : Fin 4) (x : LaneGroup) : (s.setHgrp d g x).mem = s.mem := with_lanes_mem s _
@[simp] theorem setHgrp_sense (d : Fin 2) (g : Fin 4) (x : LaneGroup) : (s.setHgrp d g x).sense = s.sense := with_lanes_sense s _
@[simp] theorem setHgrp_tele (d : Fin 2) (g : Fin 4) (x : LaneGroup) : (s.setHgrp d g x).tele = s.tele := with_lanes_tele s _
@[simp] theorem setHgrp_rail (d : Fin 2) (g : Fin 4) (x : LaneGroup) : (s.setHgrp d g x).rail = s.rail := with_lanes_rail s _
@[simp] theorem setHgrp_clock (d : Fin 2) (g : Fin 4) (x : LaneGroup) : (s.setHgrp d g x).clock = s.clock := with_lanes_clock s _
@[simp] theorem setHgrp_word (d : Fin 2) (g : Fin 4) (x : LaneGroup) (pq : Page) (oq : Nat) : (s.setHgrp d g x).word pq oq = s.word pq oq := id rfl
@[simp] theorem setHgrp_rd (d : Fin 2) (g : Fin 4) (x : LaneGroup) (pq : Page) (gq : Fld) : (s.setHgrp d g x).rd pq gq = s.rd pq gq := id rfl
@[simp] theorem setHgrp_rdI (d : Fin 2) (g : Fin 4) (x : LaneGroup) (pq : Page) (gq : Fld) : (s.setHgrp d g x).rdI pq gq = s.rdI pq gq := id rfl
@[simp] theorem setHgrp_bit (d : Fin 2) (g : Fin 4) (x : LaneGroup) (pq : Page) (gq : Fld) : (s.setHgrp d g x).bit pq gq = s.bit pq gq := id rfl

@[simp] theorem updTm_tm (f : Tm → Tm) : (s.updTm f).tm = f s.tm := id rfl
@[simp] theorem updCad_cad (f : Cad → Cad) : (s.updCad f).cad = f s.cad := id rfl
@[simp] theorem updField_field (f : Field → Field) : (s.updField f).field = f s.field := id rfl
@[simp] theorem updMirror_mirror (f : Mirror → Mirror) : (s.updMirror f).mirror = f s.mirror := id rfl
@[simp] theorem updStart_start (f : Start → Start) : (s.updStart f).start = f s.start := id rfl
@[simp] theorem updTele_tele (f : Tele → Tele) : (s.updTele f).tele = f s.tele := id rfl
@[simp] theorem updSense_sense (f : Sense → Sense) : (s.updSense f).sense = f s.sense := id rfl
@[simp] theorem updMem_mem (f : Mem → Mem) : (s.updMem f).mem = f s.mem := id rfl
@[simp] theorem updRail_rail (f : Rail → Rail) : (s.updRail f).rail = f s.rail := id rfl

end
end State
end Sys2Proof.Machine
end

