-- ==== Sys2Proof/Laws/Regs.lean ====
section
/-! SUPPORT. The laws of registers: pages do not overlap, a register reads what was written to it, and a write leaves every other
register and every other field. -/
namespace Sys2Proof

theorem Page.index_lt (p : Page) : p.index < 0x100 := by
  cases p <;> simp only [Page.index] <;> omega

/-- The directory answers the page that it places at a section and index (R34). -/
theorem Page.ofIndex_self (p : Page) : Page.ofIndex p.sec p.index = some p := by
  cases p with
  | mch c => revert c; decide
  | hsc d => revert d; decide
  | hlg d g => revert d g; decide
  | csc k => revert k; decide
  | txo k => revert k; decide
  | rxe k => revert k; decide
  | lfe k => revert k; decide
  | fcr k => revert k; decide
  | _ => rfl

/-- The page of an address inside a page is that page (R30). -/
theorem Page.ofAddr_base (p : Page) (off : Nat) (h : off < 0x1000) : Page.ofAddr (p.base + off) = some p := by
  have hi := p.index_lt
  unfold Page.ofAddr Page.base
  have h1 : (0x100000 * p.sec + 0x1000 * p.index + off) / 0x100000 = p.sec := by omega
  have h2 : (0x100000 * p.sec + 0x1000 * p.index + off) / 0x1000 % 0x100 = p.index := by omega
  rw [h1, h2]; exact p.ofIndex_self

/-- Registers of different pages, or at different offsets, lie at different addresses. -/
theorem Page.addr_inj (p q : Page) (i j : Nat) (hi : i < 0x1000) (hj : j < 0x1000) (h : p.base + i = q.base + j) :
    p = q ∧ i = j := by
  have hp := p.ofAddr_base i hi
  rw [h, q.ofAddr_base j hj] at hp
  have hq : q = p := by injection hp
  subst hq
  exact ⟨rfl, by omega⟩

theorem Page.base_mod (p : Page) (off : Nat) (h : off < 0x1000) : (p.base + off) % 0x1000 = off := by
  unfold Page.base; omega

theorem Page.base_mod4 (p : Page) (off : Nat) : (p.base + off) % 4 = off % 4 := by
  unfold Page.base; omega

namespace Machine.State

/-- A register after a write of its page and offset, or of another. -/
theorem word_setWord (s : State) (p q : Page) (i j : Nat) (w : Word) (hi : i < 0x1000) (hj : j < 0x1000) :
    (s.setWord p i w).word q j = if q = p ∧ j = i then w else s.word q j := by
  unfold State.word State.setWord
  simp only
  rw [SMap.get_set]
  by_cases h : q = p ∧ j = i
  · obtain ⟨rfl, rfl⟩ := h; simp
  · rw [if_neg h, if_neg]
    intro e; exact h (Page.addr_inj q p j i hj hi e)

@[simp] theorem word_setWord_same (s : State) (p : Page) (i : Nat) (w : Word) : (s.setWord p i w).word p i = w := by
  unfold State.word State.setWord
  simp only
  rw [SMap.get_set_same]

theorem word_setWord_ne (s : State) (p q : Page) (i j : Nat) (w : Word) (hi : i < 0x1000) (hj : j < 0x1000)
    (h : q ≠ p ∨ j ≠ i) : (s.setWord p i w).word q j = s.word q j := by
  rw [word_setWord s p q i j w hi hj, if_neg]
  rintro ⟨rfl, rfl⟩; rcases h with h | h <;> exact h rfl

/-- A register after a field of its page is written, or another register. -/
theorem word_wr (s : State) (p q : Page) (f : Fld) (j n : Nat) (hi : f.off < 0x1000) (hj : j < 0x1000) :
    (s.wr p f n).word q j = if q = p ∧ j = f.off then f.put (s.word p f.off) n else s.word q j :=
  word_setWord s p q f.off j _ hi hj

@[simp] theorem word_wr_same (s : State) (p : Page) (f : Fld) (n : Nat) :
    (s.wr p f n).word p f.off = f.put (s.word p f.off) n := word_setWord_same s p f.off _

theorem word_wr_ne (s : State) (p q : Page) (f : Fld) (j n : Nat) (hi : f.off < 0x1000) (hj : j < 0x1000)
    (h : q ≠ p ∨ j ≠ f.off) : (s.wr p f n).word q j = s.word q j :=
  word_setWord_ne s p q f.off j _ hi hj h

/-- A field reads what was written, cut to its width. -/
theorem rd_wr_same (s : State) (p : Page) (f : Fld) (n : Nat) (h : f.lo + f.w ≤ 32) :
    (s.wr p f n).rd p f = n % 2 ^ f.w := by
  unfold State.rd
  rw [word_wr_same]
  exact Fld.get_put_same f _ n h

/-- A field keeps its value when a field of another page, of another register or of other bits is written. -/
theorem rd_wr_ne (s : State) (p q : Page) (f g : Fld) (n : Nat) (hf : f.off < 0x1000) (hg : g.off < 0x1000)
    (h : q ≠ p ∨ g.off ≠ f.off ∨ f.lo + f.w ≤ g.lo ∨ g.lo + g.w ≤ f.lo) : (s.wr p f n).rd q g = s.rd q g := by
  unfold State.rd
  by_cases e : q = p ∧ g.off = f.off
  · obtain ⟨rfl, e⟩ := e
    rw [e, word_wr_same]
    refine Fld.get_put_ne f g _ n ?_
    rcases h with h | h | h
    · exact absurd rfl h
    · exact absurd e h
    · exact h
  · rw [word_wr_ne s p q f g.off n hf hg]
    by_cases e1 : q = p
    · right; intro e2; exact e ⟨e1, e2⟩
    · left; exact e1

/-- A field after a whole register is written. -/
theorem rd_setWord_same (s : State) (p : Page) (f : Fld) (w : Word) : (s.setWord p f.off w).rd p f = f.get w := by
  unfold State.rd; rw [word_setWord_same]

theorem rd_setWord_ne (s : State) (p q : Page) (i : Nat) (f : Fld) (w : Word) (hi : i < 0x1000) (hf : f.off < 0x1000)
    (h : q ≠ p ∨ f.off ≠ i) : (s.setWord p i w).rd q f = s.rd q f := by
  unfold State.rd; rw [word_setWord_ne s p q i f.off w hi hf h]

theorem bit_wr_ne (s : State) (p q : Page) (f g : Fld) (n : Nat) (hf : f.off < 0x1000) (hg : g.off < 0x1000)
    (h : q ≠ p ∨ g.off ≠ f.off ∨ f.lo + f.w ≤ g.lo ∨ g.lo + g.w ≤ f.lo) : (s.wr p f n).bit q g = s.bit q g := by
  unfold State.bit; rw [rd_wr_ne s p q f g n hf hg h]

/-- A one-bit field reads the Boolean written to it. -/
theorem bit_wb_same (s : State) (p : Page) (f : Fld) (b : Bool) (h : f.lo + f.w ≤ 32) (hw : 1 ≤ f.w) :
    (s.wb p f b).bit p f = b := by
  unfold State.bit State.wb
  rw [rd_wr_same s p f _ h]
  have h2 : 2 ^ 1 ≤ 2 ^ f.w := Nat.pow_le_pow_right (by omega) hw
  cases b
  · simp
  · have h3 : 1 % 2 ^ f.w = 1 := Nat.mod_eq_of_lt (by omega)
    simp [h3]

end Machine.State
end Sys2Proof
end

