-- ==== Sys2Proof/Laws/Ops.lean ====
section
/-! SUPPORT. What each shared operation can do: events, the log, protected memories, the way of a host write, and the outcome of a
command. -/
namespace Sys2Proof.Machine

open Sys2Proof Reg

namespace State

/-! ## Outcomes -/

/-- The state on which a command's effect runs: nothing yet sent. -/
theorem done_eq (s : State) (f : State → State) : s.done f = .next (settle s (f { s with out := [] })) := rfl

/-! ## Protected memories (R41, R42) -/

/-- An armed test changes FLIP_MASK.ARM of its page and nothing else. -/
theorem armed_eq (s : State) (p : Page) (t : Nat) : (s.armed p t).2 = s ∨ (s.armed p t).2 = s.wb p HDR.FLIP_MASK.ARM false := by
  unfold armed; split <;> simp

theorem armed_word (s : State) (p q : Page) (t i : Nat) (hi : i < 0x1000) (h : q ≠ p ∨ i ≠ 0x018) :
    (s.armed p t).2.word q i = s.word q i := by
  rcases armed_eq s p t with e | e
  · rw [e]
  · rw [e]; exact word_wr_ne s p q _ i _ (by decide) hi h

theorem protect_word (s : State) (p q : Page) (t x i : Nat) (hi : i < 0x1000) (h : q ≠ p ∨ i ≠ 0x018) :
    (s.protect p t x).word q i = s.word q i := armed_word s p q t i hi h

/-! ## Log and events (R61-R67, R70) -/

/-- A stored entry touches the LOG page only. -/
theorem logStore_word (s : State) (k sec pg code arg : Nat) (q : Page) (i : Nat) (hi : i < 0x1000) (h : q ≠ .log) :
    (s.logStore k sec pg code arg).2.word q i = s.word q i := by
  unfold logStore
  simp only
  split
  · simp only [count_word]
    unfold sat
    rw [word_wr_ne _ _ _ _ _ _ (by decide) hi (.inl h), word_wr_ne _ _ _ _ _ _ (by decide) hi (.inl h)]
    simp only [count_word]
    rw [protect_word _ _ _ _ _ _ hi (.inl h), with_logRing_word]
  · simp only
    rw [word_wr_ne _ _ _ _ _ _ (by decide) hi (.inl h)]
    simp only [count_word]
    rw [protect_word _ _ _ _ _ _ hi (.inl h), with_logRing_word]

theorem logEvent_word (s : State) (b : Nat) (q : Page) (i : Nat) (hi : i < 0x1000) (h : q ≠ .log) :
    (s.logEvent b).word q i = s.word q i := by
  unfold logEvent
  simp only
  split
  · rw [logStore_word _ _ _ _ _ _ _ _ hi h, word_setWord_ne s .log q _ i _ (by decide) hi (.inl h)]
  · exact word_setWord_ne s .log q _ i _ (by decide) hi (.inl h)

/-- An entry is stored, and then a LOG event may follow. -/
theorem log_cases (s : State) (k sec pg code arg : Nat) : s.log k sec pg code arg = (s.logStore k sec pg code arg).2
    ∨ ∃ b, s.log k sec pg code arg = ((s.logStore k sec pg code arg).2).logEvent b := by
  unfold log
  split <;> simp_all

/-- A log entry touches the LOG page only. -/
theorem log_word (s : State) (k sec pg code arg : Nat) (q : Page) (i : Nat) (hi : i < 0x1000) (h : q ≠ .log) :
    (s.log k sec pg code arg).word q i = s.word q i := by
  rcases log_cases s k sec pg code arg with e | ⟨b, e⟩
  · rw [e, logStore_word _ _ _ _ _ _ _ _ hi h]
  · rw [e, logEvent_word _ _ _ _ hi h, logStore_word _ _ _ _ _ _ _ _ hi h]

/-- An event touches its page's EVENT and, in the interval of a warm reset, the LOG page. -/
theorem raise_word (s : State) (p q : Page) (b i : Nat) (hi : i < 0x1000) (h : q ≠ p ∨ i ≠ 0x00C)
    (hl : q ≠ .log ∨ s.host.window = false) : (s.raise p b).word q i = s.word q i := by
  unfold raise
  simp only
  split
  · rename_i hw
    rcases hl with hl | hl
    · rw [log_word _ _ _ _ _ _ _ _ hi hl, word_setWord_ne _ _ _ _ _ _ (by decide) hi h]
    · simp [hl] at hw
  · rw [word_setWord_ne _ _ _ _ _ _ (by decide) hi h]

/-- EVENT of an event's page outside the interval of a warm reset. -/
theorem raise_event (s : State) (p : Page) (b : Nat) (h : s.host.window = false) :
    (s.raise p b).word p 0x00C = s.word p 0x00C ||| BitVec.ofNat 32 (2 ^ b) := by
  unfold raise; simp [h]

theorem raiseIf_word (s : State) (c : Bool) (p q : Page) (b i : Nat) (hi : i < 0x1000) (h : q ≠ p ∨ i ≠ 0x00C)
    (hl : q ≠ .log ∨ s.host.window = false) : (s.raiseIf c p b).word q i = s.word q i := by
  unfold raiseIf; split
  · exact raise_word s p q b i hi h hl
  · rfl

theorem raise_of_open (s : State) (p : Page) (b : Nat) (h : s.host.window = false) :
    s.raise p b = s.setWord p 0x00C (s.word p 0x00C ||| BitVec.ofNat 32 (2 ^ b)) := by
  unfold raise; simp [h]

/-! ## Parts of the state that they leave -/

@[simp] theorem armed_pending (s : State) (p : Page) (t : Nat) : ((s.armed p t).2).pending = s.pending := by
  rcases armed_eq s p t with e | e <;> rw [e]; exact wb_pending s p _ _
@[simp] theorem armed_out (s : State) (p : Page) (t : Nat) : ((s.armed p t).2).out = s.out := by
  rcases armed_eq s p t with e | e <;> rw [e]; exact wb_out s p _ _
@[simp] theorem armed_fresh (s : State) (p : Page) (t : Nat) : ((s.armed p t).2).fresh = s.fresh := by
  rcases armed_eq s p t with e | e <;> rw [e]; exact wb_fresh s p _ _
@[simp] theorem armed_part (s : State) (p : Page) (t : Nat) : ((s.armed p t).2).part = s.part := by
  rcases armed_eq s p t with e | e <;> rw [e]; exact wb_part s p _ _
@[simp] theorem armed_time (s : State) (p : Page) (t : Nat) : ((s.armed p t).2).time = s.time := by
  rcases armed_eq s p t with e | e <;> rw [e]; exact wb_time s p _ _
@[simp] theorem armed_damage (s : State) (p : Page) (t : Nat) : ((s.armed p t).2).damage = s.damage := by
  rcases armed_eq s p t with e | e <;> rw [e]; exact wb_damage s p _ _
@[simp] theorem armed_ctr (s : State) (p : Page) (t : Nat) : ((s.armed p t).2).ctr = s.ctr := by
  rcases armed_eq s p t with e | e <;> rw [e]; exact wb_ctr s p _ _
@[simp] theorem armed_host (s : State) (p : Page) (t : Nat) : ((s.armed p t).2).host = s.host := by
  rcases armed_eq s p t with e | e <;> rw [e]; exact wb_host s p _ _
@[simp] theorem armed_ses (s : State) (p : Page) (t : Nat) : ((s.armed p t).2).ses = s.ses := by
  rcases armed_eq s p t with e | e <;> rw [e]; exact wb_ses s p _ _
@[simp] theorem armed_logRing (s : State) (p : Page) (t : Nat) : ((s.armed p t).2).logRing = s.logRing := by
  rcases armed_eq s p t with e | e <;> rw [e]; exact wb_logRing s p _ _
@[simp] theorem armed_hubEnd (s : State) (p : Page) (t : Nat) : ((s.armed p t).2).hubEnd = s.hubEnd := by
  rcases armed_eq s p t with e | e <;> rw [e]; exact wb_hubEnd s p _ _
@[simp] theorem armed_fieldEnd (s : State) (p : Page) (t : Nat) : ((s.armed p t).2).fieldEnd = s.fieldEnd := by
  rcases armed_eq s p t with e | e <;> rw [e]; exact wb_fieldEnd s p _ _
@[simp] theorem armed_mirror (s : State) (p : Page) (t : Nat) : ((s.armed p t).2).mirror = s.mirror := by
  rcases armed_eq s p t with e | e <;> rw [e]; exact wb_mirror s p _ _
@[simp] theorem armed_field (s : State) (p : Page) (t : Nat) : ((s.armed p t).2).field = s.field := by
  rcases armed_eq s p t with e | e <;> rw [e]; exact wb_field s p _ _
@[simp] theorem armed_start (s : State) (p : Page) (t : Nat) : ((s.armed p t).2).start = s.start := by
  rcases armed_eq s p t with e | e <;> rw [e]; exact wb_start s p _ _
@[simp] theorem armed_pins (s : State) (p : Page) (t : Nat) : ((s.armed p t).2).pins = s.pins := by
  rcases armed_eq s p t with e | e <;> rw [e]; exact wb_pins s p _ _
@[simp] theorem armed_cars (s : State) (p : Page) (t : Nat) : ((s.armed p t).2).cars = s.cars := by
  rcases armed_eq s p t with e | e <;> rw [e]; exact wb_cars s p _ _
@[simp] theorem armed_tm (s : State) (p : Page) (t : Nat) : ((s.armed p t).2).tm = s.tm := by
  rcases armed_eq s p t with e | e <;> rw [e]; exact wb_tm s p _ _
@[simp] theorem armed_cad (s : State) (p : Page) (t : Nat) : ((s.armed p t).2).cad = s.cad := by
  rcases armed_eq s p t with e | e <;> rw [e]; exact wb_cad s p _ _
@[simp] theorem armed_mem (s : State) (p : Page) (t : Nat) : ((s.armed p t).2).mem = s.mem := by
  rcases armed_eq s p t with e | e <;> rw [e]; exact wb_mem s p _ _
@[simp] theorem armed_lanes (s : State) (p : Page) (t : Nat) : ((s.armed p t).2).lanes = s.lanes := by
  rcases armed_eq s p t with e | e <;> rw [e]; exact wb_lanes s p _ _
@[simp] theorem armed_sense (s : State) (p : Page) (t : Nat) : ((s.armed p t).2).sense = s.sense := by
  rcases armed_eq s p t with e | e <;> rw [e]; exact wb_sense s p _ _
@[simp] theorem armed_tele (s : State) (p : Page) (t : Nat) : ((s.armed p t).2).tele = s.tele := by
  rcases armed_eq s p t with e | e <;> rw [e]; exact wb_tele s p _ _
@[simp] theorem armed_rail (s : State) (p : Page) (t : Nat) : ((s.armed p t).2).rail = s.rail := by
  rcases armed_eq s p t with e | e <;> rw [e]; exact wb_rail s p _ _
@[simp] theorem armed_clock (s : State) (p : Page) (t : Nat) : ((s.armed p t).2).clock = s.clock := by
  rcases armed_eq s p t with e | e <;> rw [e]; exact wb_clock s p _ _

@[simp] theorem protect_pending (s : State) (p : Page) (t x : Nat) : (s.protect p t x).pending = s.pending := id (armed_pending s p t)
@[simp] theorem protect_out (s : State) (p : Page) (t x : Nat) : (s.protect p t x).out = s.out := id (armed_out s p t)
@[simp] theorem protect_fresh (s : State) (p : Page) (t x : Nat) : (s.protect p t x).fresh = s.fresh := id (armed_fresh s p t)
@[simp] theorem protect_part (s : State) (p : Page) (t x : Nat) : (s.protect p t x).part = s.part := id (armed_part s p t)
@[simp] theorem protect_time (s : State) (p : Page) (t x : Nat) : (s.protect p t x).time = s.time := id (armed_time s p t)
@[simp] theorem protect_ctr (s : State) (p : Page) (t x : Nat) : (s.protect p t x).ctr = s.ctr := id (armed_ctr s p t)
@[simp] theorem protect_host (s : State) (p : Page) (t x : Nat) : (s.protect p t x).host = s.host := id (armed_host s p t)
@[simp] theorem protect_ses (s : State) (p : Page) (t x : Nat) : (s.protect p t x).ses = s.ses := id (armed_ses s p t)
@[simp] theorem protect_logRing (s : State) (p : Page) (t x : Nat) : (s.protect p t x).logRing = s.logRing := id (armed_logRing s p t)
@[simp] theorem protect_hubEnd (s : State) (p : Page) (t x : Nat) : (s.protect p t x).hubEnd = s.hubEnd := id (armed_hubEnd s p t)
@[simp] theorem protect_fieldEnd (s : State) (p : Page) (t x : Nat) : (s.protect p t x).fieldEnd = s.fieldEnd := id (armed_fieldEnd s p t)
@[simp] theorem protect_mirror (s : State) (p : Page) (t x : Nat) : (s.protect p t x).mirror = s.mirror := id (armed_mirror s p t)
@[simp] theorem protect_field (s : State) (p : Page) (t x : Nat) : (s.protect p t x).field = s.field := id (armed_field s p t)
@[simp] theorem protect_start (s : State) (p : Page) (t x : Nat) : (s.protect p t x).start = s.start := id (armed_start s p t)
@[simp] theorem protect_pins (s : State) (p : Page) (t x : Nat) : (s.protect p t x).pins = s.pins := id (armed_pins s p t)
@[simp] theorem protect_cars (s : State) (p : Page) (t x : Nat) : (s.protect p t x).cars = s.cars := id (armed_cars s p t)
@[simp] theorem protect_tm (s : State) (p : Page) (t x : Nat) : (s.protect p t x).tm = s.tm := id (armed_tm s p t)
@[simp] theorem protect_cad (s : State) (p : Page) (t x : Nat) : (s.protect p t x).cad = s.cad := id (armed_cad s p t)
@[simp] theorem protect_mem (s : State) (p : Page) (t x : Nat) : (s.protect p t x).mem = s.mem := id (armed_mem s p t)
@[simp] theorem protect_lanes (s : State) (p : Page) (t x : Nat) : (s.protect p t x).lanes = s.lanes := id (armed_lanes s p t)
@[simp] theorem protect_sense (s : State) (p : Page) (t x : Nat) : (s.protect p t x).sense = s.sense := id (armed_sense s p t)
@[simp] theorem protect_tele (s : State) (p : Page) (t x : Nat) : (s.protect p t x).tele = s.tele := id (armed_tele s p t)
@[simp] theorem protect_rail (s : State) (p : Page) (t x : Nat) : (s.protect p t x).rail = s.rail := id (armed_rail s p t)
@[simp] theorem protect_clock (s : State) (p : Page) (t x : Nat) : (s.protect p t x).clock = s.clock := id (armed_clock s p t)

@[simp] theorem logStore_pending (s : State) (k a b c d : Nat) : ((s.logStore k a b c d).2).pending = s.pending := by
  unfold logStore; simp only; split
  · rw [count_pending, sat_pending, wr_pending, count_pending, protect_pending]
  · simp only; rw [wr_pending, count_pending, protect_pending]
@[simp] theorem logStore_out (s : State) (k a b c d : Nat) : ((s.logStore k a b c d).2).out = s.out := by
  unfold logStore; simp only; split
  · rw [count_out, sat_out, wr_out, count_out, protect_out]
  · simp only; rw [wr_out, count_out, protect_out]
@[simp] theorem logStore_fresh (s : State) (k a b c d : Nat) : ((s.logStore k a b c d).2).fresh = s.fresh := by
  unfold logStore; simp only; split
  · rw [count_fresh, sat_fresh, wr_fresh, count_fresh, protect_fresh]
  · simp only; rw [wr_fresh, count_fresh, protect_fresh]
@[simp] theorem logStore_part (s : State) (k a b c d : Nat) : ((s.logStore k a b c d).2).part = s.part := by
  unfold logStore; simp only; split
  · rw [count_part, sat_part, wr_part, count_part, protect_part]
  · simp only; rw [wr_part, count_part, protect_part]
@[simp] theorem logStore_time (s : State) (k a b c d : Nat) : ((s.logStore k a b c d).2).time = s.time := by
  unfold logStore; simp only; split
  · rw [count_time, sat_time, wr_time, count_time, protect_time]
  · simp only; rw [wr_time, count_time, protect_time]
@[simp] theorem logStore_host (s : State) (k a b c d : Nat) : ((s.logStore k a b c d).2).host = s.host := by
  unfold logStore; simp only; split
  · rw [count_host, sat_host, wr_host, count_host, protect_host]
  · simp only; rw [wr_host, count_host, protect_host]
@[simp] theorem logStore_ses (s : State) (k a b c d : Nat) : ((s.logStore k a b c d).2).ses = s.ses := by
  unfold logStore; simp only; split
  · rw [count_ses, sat_ses, wr_ses, count_ses, protect_ses]
  · simp only; rw [wr_ses, count_ses, protect_ses]
@[simp] theorem logStore_hubEnd (s : State) (k a b c d : Nat) : ((s.logStore k a b c d).2).hubEnd = s.hubEnd := by
  unfold logStore; simp only; split
  · rw [count_hubEnd, sat_hubEnd, wr_hubEnd, count_hubEnd, protect_hubEnd]
  · simp only; rw [wr_hubEnd, count_hubEnd, protect_hubEnd]
@[simp] theorem logStore_fieldEnd (s : State) (k a b c d : Nat) : ((s.logStore k a b c d).2).fieldEnd = s.fieldEnd := by
  unfold logStore; simp only; split
  · rw [count_fieldEnd, sat_fieldEnd, wr_fieldEnd, count_fieldEnd, protect_fieldEnd]
  · simp only; rw [wr_fieldEnd, count_fieldEnd, protect_fieldEnd]
@[simp] theorem logStore_mirror (s : State) (k a b c d : Nat) : ((s.logStore k a b c d).2).mirror = s.mirror := by
  unfold logStore; simp only; split
  · rw [count_mirror, sat_mirror, wr_mirror, count_mirror, protect_mirror]
  · simp only; rw [wr_mirror, count_mirror, protect_mirror]
@[simp] theorem logStore_field (s : State) (k a b c d : Nat) : ((s.logStore k a b c d).2).field = s.field := by
  unfold logStore; simp only; split
  · rw [count_field, sat_field, wr_field, count_field, protect_field]
  · simp only; rw [wr_field, count_field, protect_field]
@[simp] theorem logStore_start (s : State) (k a b c d : Nat) : ((s.logStore k a b c d).2).start = s.start := by
  unfold logStore; simp only; split
  · rw [count_start, sat_start, wr_start, count_start, protect_start]
  · simp only; rw [wr_start, count_start, protect_start]
@[simp] theorem logStore_pins (s : State) (k a b c d : Nat) : ((s.logStore k a b c d).2).pins = s.pins := by
  unfold logStore; simp only; split
  · rw [count_pins, sat_pins, wr_pins, count_pins, protect_pins]
  · simp only; rw [wr_pins, count_pins, protect_pins]
@[simp] theorem logStore_cars (s : State) (k a b c d : Nat) : ((s.logStore k a b c d).2).cars = s.cars := by
  unfold logStore; simp only; split
  · rw [count_cars, sat_cars, wr_cars, count_cars, protect_cars]
  · simp only; rw [wr_cars, count_cars, protect_cars]
@[simp] theorem logStore_tm (s : State) (k a b c d : Nat) : ((s.logStore k a b c d).2).tm = s.tm := by
  unfold logStore; simp only; split
  · rw [count_tm, sat_tm, wr_tm, count_tm, protect_tm]
  · simp only; rw [wr_tm, count_tm, protect_tm]
@[simp] theorem logStore_cad (s : State) (k a b c d : Nat) : ((s.logStore k a b c d).2).cad = s.cad := by
  unfold logStore; simp only; split
  · rw [count_cad, sat_cad, wr_cad, count_cad, protect_cad]
  · simp only; rw [wr_cad, count_cad, protect_cad]
@[simp] theorem logStore_mem (s : State) (k a b c d : Nat) : ((s.logStore k a b c d).2).mem = s.mem := by
  unfold logStore; simp only; split
  · rw [count_mem, sat_mem, wr_mem, count_mem, protect_mem]
  · simp only; rw [wr_mem, count_mem, protect_mem]
@[simp] theorem logStore_lanes (s : State) (k a b c d : Nat) : ((s.logStore k a b c d).2).lanes = s.lanes := by
  unfold logStore; simp only; split
  · rw [count_lanes, sat_lanes, wr_lanes, count_lanes, protect_lanes]
  · simp only; rw [wr_lanes, count_lanes, protect_lanes]
@[simp] theorem logStore_sense (s : State) (k a b c d : Nat) : ((s.logStore k a b c d).2).sense = s.sense := by
  unfold logStore; simp only; split
  · rw [count_sense, sat_sense, wr_sense, count_sense, protect_sense]
  · simp only; rw [wr_sense, count_sense, protect_sense]
@[simp] theorem logStore_tele (s : State) (k a b c d : Nat) : ((s.logStore k a b c d).2).tele = s.tele := by
  unfold logStore; simp only; split
  · rw [count_tele, sat_tele, wr_tele, count_tele, protect_tele]
  · simp only; rw [wr_tele, count_tele, protect_tele]
@[simp] theorem logStore_rail (s : State) (k a b c d : Nat) : ((s.logStore k a b c d).2).rail = s.rail := by
  unfold logStore; simp only; split
  · rw [count_rail, sat_rail, wr_rail, count_rail, protect_rail]
  · simp only; rw [wr_rail, count_rail, protect_rail]
@[simp] theorem logStore_clock (s : State) (k a b c d : Nat) : ((s.logStore k a b c d).2).clock = s.clock := by
  unfold logStore; simp only; split
  · rw [count_clock, sat_clock, wr_clock, count_clock, protect_clock]
  · simp only; rw [wr_clock, count_clock, protect_clock]

@[simp] theorem logEvent_pending (s : State) (b : Nat) : (s.logEvent b).pending = s.pending := by
  unfold logEvent; simp only; split
  · rw [logStore_pending, setWord_pending]
  · exact setWord_pending s .log _ _
@[simp] theorem logEvent_out (s : State) (b : Nat) : (s.logEvent b).out = s.out := by
  unfold logEvent; simp only; split
  · rw [logStore_out, setWord_out]
  · exact setWord_out s .log _ _
@[simp] theorem logEvent_fresh (s : State) (b : Nat) : (s.logEvent b).fresh = s.fresh := by
  unfold logEvent; simp only; split
  · rw [logStore_fresh, setWord_fresh]
  · exact setWord_fresh s .log _ _
@[simp] theorem logEvent_part (s : State) (b : Nat) : (s.logEvent b).part = s.part := by
  unfold logEvent; simp only; split
  · rw [logStore_part, setWord_part]
  · exact setWord_part s .log _ _
@[simp] theorem logEvent_time (s : State) (b : Nat) : (s.logEvent b).time = s.time := by
  unfold logEvent; simp only; split
  · rw [logStore_time, setWord_time]
  · exact setWord_time s .log _ _
@[simp] theorem logEvent_host (s : State) (b : Nat) : (s.logEvent b).host = s.host := by
  unfold logEvent; simp only; split
  · rw [logStore_host, setWord_host]
  · exact setWord_host s .log _ _
@[simp] theorem logEvent_ses (s : State) (b : Nat) : (s.logEvent b).ses = s.ses := by
  unfold logEvent; simp only; split
  · rw [logStore_ses, setWord_ses]
  · exact setWord_ses s .log _ _
@[simp] theorem logEvent_hubEnd (s : State) (b : Nat) : (s.logEvent b).hubEnd = s.hubEnd := by
  unfold logEvent; simp only; split
  · rw [logStore_hubEnd, setWord_hubEnd]
  · exact setWord_hubEnd s .log _ _
@[simp] theorem logEvent_fieldEnd (s : State) (b : Nat) : (s.logEvent b).fieldEnd = s.fieldEnd := by
  unfold logEvent; simp only; split
  · rw [logStore_fieldEnd, setWord_fieldEnd]
  · exact setWord_fieldEnd s .log _ _
@[simp] theorem logEvent_mirror (s : State) (b : Nat) : (s.logEvent b).mirror = s.mirror := by
  unfold logEvent; simp only; split
  · rw [logStore_mirror, setWord_mirror]
  · exact setWord_mirror s .log _ _
@[simp] theorem logEvent_field (s : State) (b : Nat) : (s.logEvent b).field = s.field := by
  unfold logEvent; simp only; split
  · rw [logStore_field, setWord_field]
  · exact setWord_field s .log _ _
@[simp] theorem logEvent_start (s : State) (b : Nat) : (s.logEvent b).start = s.start := by
  unfold logEvent; simp only; split
  · rw [logStore_start, setWord_start]
  · exact setWord_start s .log _ _
@[simp] theorem logEvent_pins (s : State) (b : Nat) : (s.logEvent b).pins = s.pins := by
  unfold logEvent; simp only; split
  · rw [logStore_pins, setWord_pins]
  · exact setWord_pins s .log _ _
@[simp] theorem logEvent_cars (s : State) (b : Nat) : (s.logEvent b).cars = s.cars := by
  unfold logEvent; simp only; split
  · rw [logStore_cars, setWord_cars]
  · exact setWord_cars s .log _ _
@[simp] theorem logEvent_tm (s : State) (b : Nat) : (s.logEvent b).tm = s.tm := by
  unfold logEvent; simp only; split
  · rw [logStore_tm, setWord_tm]
  · exact setWord_tm s .log _ _
@[simp] theorem logEvent_cad (s : State) (b : Nat) : (s.logEvent b).cad = s.cad := by
  unfold logEvent; simp only; split
  · rw [logStore_cad, setWord_cad]
  · exact setWord_cad s .log _ _
@[simp] theorem logEvent_mem (s : State) (b : Nat) : (s.logEvent b).mem = s.mem := by
  unfold logEvent; simp only; split
  · rw [logStore_mem, setWord_mem]
  · exact setWord_mem s .log _ _
@[simp] theorem logEvent_lanes (s : State) (b : Nat) : (s.logEvent b).lanes = s.lanes := by
  unfold logEvent; simp only; split
  · rw [logStore_lanes, setWord_lanes]
  · exact setWord_lanes s .log _ _
@[simp] theorem logEvent_sense (s : State) (b : Nat) : (s.logEvent b).sense = s.sense := by
  unfold logEvent; simp only; split
  · rw [logStore_sense, setWord_sense]
  · exact setWord_sense s .log _ _
@[simp] theorem logEvent_tele (s : State) (b : Nat) : (s.logEvent b).tele = s.tele := by
  unfold logEvent; simp only; split
  · rw [logStore_tele, setWord_tele]
  · exact setWord_tele s .log _ _
@[simp] theorem logEvent_rail (s : State) (b : Nat) : (s.logEvent b).rail = s.rail := by
  unfold logEvent; simp only; split
  · rw [logStore_rail, setWord_rail]
  · exact setWord_rail s .log _ _
@[simp] theorem logEvent_clock (s : State) (b : Nat) : (s.logEvent b).clock = s.clock := by
  unfold logEvent; simp only; split
  · rw [logStore_clock, setWord_clock]
  · exact setWord_clock s .log _ _

@[simp] theorem log_pending (s : State) (k a b c d : Nat) : (s.log k a b c d).pending = s.pending := by
  rcases log_cases s k a b c d with e | ⟨b, e⟩ <;> simp [e]
@[simp] theorem log_out (s : State) (k a b c d : Nat) : (s.log k a b c d).out = s.out := by
  rcases log_cases s k a b c d with e | ⟨b, e⟩ <;> simp [e]
@[simp] theorem log_fresh (s : State) (k a b c d : Nat) : (s.log k a b c d).fresh = s.fresh := by
  rcases log_cases s k a b c d with e | ⟨b, e⟩ <;> simp [e]
@[simp] theorem log_part (s : State) (k a b c d : Nat) : (s.log k a b c d).part = s.part := by
  rcases log_cases s k a b c d with e | ⟨b, e⟩ <;> simp [e]
@[simp] theorem log_time (s : State) (k a b c d : Nat) : (s.log k a b c d).time = s.time := by
  rcases log_cases s k a b c d with e | ⟨b, e⟩ <;> simp [e]
@[simp] theorem log_host (s : State) (k a b c d : Nat) : (s.log k a b c d).host = s.host := by
  rcases log_cases s k a b c d with e | ⟨b, e⟩ <;> simp [e]
@[simp] theorem log_ses (s : State) (k a b c d : Nat) : (s.log k a b c d).ses = s.ses := by
  rcases log_cases s k a b c d with e | ⟨b, e⟩ <;> simp [e]
@[simp] theorem log_hubEnd (s : State) (k a b c d : Nat) : (s.log k a b c d).hubEnd = s.hubEnd := by
  rcases log_cases s k a b c d with e | ⟨b, e⟩ <;> simp [e]
@[simp] theorem log_fieldEnd (s : State) (k a b c d : Nat) : (s.log k a b c d).fieldEnd = s.fieldEnd := by
  rcases log_cases s k a b c d with e | ⟨b, e⟩ <;> simp [e]
@[simp] theorem log_mirror (s : State) (k a b c d : Nat) : (s.log k a b c d).mirror = s.mirror := by
  rcases log_cases s k a b c d with e | ⟨b, e⟩ <;> simp [e]
@[simp] theorem log_field (s : State) (k a b c d : Nat) : (s.log k a b c d).field = s.field := by
  rcases log_cases s k a b c d with e | ⟨b, e⟩ <;> simp [e]
@[simp] theorem log_start (s : State) (k a b c d : Nat) : (s.log k a b c d).start = s.start := by
  rcases log_cases s k a b c d with e | ⟨b, e⟩ <;> simp [e]
@[simp] theorem log_pins (s : State) (k a b c d : Nat) : (s.log k a b c d).pins = s.pins := by
  rcases log_cases s k a b c d with e | ⟨b, e⟩ <;> simp [e]
@[simp] theorem log_cars (s : State) (k a b c d : Nat) : (s.log k a b c d).cars = s.cars := by
  rcases log_cases s k a b c d with e | ⟨b, e⟩ <;> simp [e]
@[simp] theorem log_tm (s : State) (k a b c d : Nat) : (s.log k a b c d).tm = s.tm := by
  rcases log_cases s k a b c d with e | ⟨b, e⟩ <;> simp [e]
@[simp] theorem log_cad (s : State) (k a b c d : Nat) : (s.log k a b c d).cad = s.cad := by
  rcases log_cases s k a b c d with e | ⟨b, e⟩ <;> simp [e]
@[simp] theorem log_mem (s : State) (k a b c d : Nat) : (s.log k a b c d).mem = s.mem := by
  rcases log_cases s k a b c d with e | ⟨b, e⟩ <;> simp [e]
@[simp] theorem log_lanes (s : State) (k a b c d : Nat) : (s.log k a b c d).lanes = s.lanes := by
  rcases log_cases s k a b c d with e | ⟨b, e⟩ <;> simp [e]
@[simp] theorem log_sense (s : State) (k a b c d : Nat) : (s.log k a b c d).sense = s.sense := by
  rcases log_cases s k a b c d with e | ⟨b, e⟩ <;> simp [e]
@[simp] theorem log_tele (s : State) (k a b c d : Nat) : (s.log k a b c d).tele = s.tele := by
  rcases log_cases s k a b c d with e | ⟨b, e⟩ <;> simp [e]
@[simp] theorem log_rail (s : State) (k a b c d : Nat) : (s.log k a b c d).rail = s.rail := by
  rcases log_cases s k a b c d with e | ⟨b, e⟩ <;> simp [e]
@[simp] theorem log_clock (s : State) (k a b c d : Nat) : (s.log k a b c d).clock = s.clock := by
  rcases log_cases s k a b c d with e | ⟨b, e⟩ <;> simp [e]


@[simp] theorem raise_pending (s : State) (p : Page) (b : Nat) : (s.raise p b).pending = s.pending := by
  unfold raise; simp only; split
  · rw [log_pending, setWord_pending]
  · rw [setWord_pending]
@[simp] theorem raise_out (s : State) (p : Page) (b : Nat) : (s.raise p b).out = s.out := by
  unfold raise; simp only; split
  · rw [log_out, setWord_out]
  · rw [setWord_out]
@[simp] theorem raise_fresh (s : State) (p : Page) (b : Nat) : (s.raise p b).fresh = s.fresh := by
  unfold raise; simp only; split
  · rw [log_fresh, setWord_fresh]
  · rw [setWord_fresh]
@[simp] theorem raise_part (s : State) (p : Page) (b : Nat) : (s.raise p b).part = s.part := by
  unfold raise; simp only; split
  · rw [log_part, setWord_part]
  · rw [setWord_part]
@[simp] theorem raise_time (s : State) (p : Page) (b : Nat) : (s.raise p b).time = s.time := by
  unfold raise; simp only; split
  · rw [log_time, setWord_time]
  · rw [setWord_time]
@[simp] theorem raise_host (s : State) (p : Page) (b : Nat) : (s.raise p b).host = s.host := by
  unfold raise; simp only; split
  · rw [log_host, setWord_host]
  · rw [setWord_host]
@[simp] theorem raise_ses (s : State) (p : Page) (b : Nat) : (s.raise p b).ses = s.ses := by
  unfold raise; simp only; split
  · rw [log_ses, setWord_ses]
  · rw [setWord_ses]
@[simp] theorem raise_hubEnd (s : State) (p : Page) (b : Nat) : (s.raise p b).hubEnd = s.hubEnd := by
  unfold raise; simp only; split
  · rw [log_hubEnd, setWord_hubEnd]
  · rw [setWord_hubEnd]
@[simp] theorem raise_fieldEnd (s : State) (p : Page) (b : Nat) : (s.raise p b).fieldEnd = s.fieldEnd := by
  unfold raise; simp only; split
  · rw [log_fieldEnd, setWord_fieldEnd]
  · rw [setWord_fieldEnd]
@[simp] theorem raise_mirror (s : State) (p : Page) (b : Nat) : (s.raise p b).mirror = s.mirror := by
  unfold raise; simp only; split
  · rw [log_mirror, setWord_mirror]
  · rw [setWord_mirror]
@[simp] theorem raise_field (s : State) (p : Page) (b : Nat) : (s.raise p b).field = s.field := by
  unfold raise; simp only; split
  · rw [log_field, setWord_field]
  · rw [setWord_field]
@[simp] theorem raise_start (s : State) (p : Page) (b : Nat) : (s.raise p b).start = s.start := by
  unfold raise; simp only; split
  · rw [log_start, setWord_start]
  · rw [setWord_start]
@[simp] theorem raise_pins (s : State) (p : Page) (b : Nat) : (s.raise p b).pins = s.pins := by
  unfold raise; simp only; split
  · rw [log_pins, setWord_pins]
  · rw [setWord_pins]
@[simp] theorem raise_cars (s : State) (p : Page) (b : Nat) : (s.raise p b).cars = s.cars := by
  unfold raise; simp only; split
  · rw [log_cars, setWord_cars]
  · rw [setWord_cars]
@[simp] theorem raise_tm (s : State) (p : Page) (b : Nat) : (s.raise p b).tm = s.tm := by
  unfold raise; simp only; split
  · rw [log_tm, setWord_tm]
  · rw [setWord_tm]
@[simp] theorem raise_cad (s : State) (p : Page) (b : Nat) : (s.raise p b).cad = s.cad := by
  unfold raise; simp only; split
  · rw [log_cad, setWord_cad]
  · rw [setWord_cad]
@[simp] theorem raise_mem (s : State) (p : Page) (b : Nat) : (s.raise p b).mem = s.mem := by
  unfold raise; simp only; split
  · rw [log_mem, setWord_mem]
  · rw [setWord_mem]
@[simp] theorem raise_lanes (s : State) (p : Page) (b : Nat) : (s.raise p b).lanes = s.lanes := by
  unfold raise; simp only; split
  · rw [log_lanes, setWord_lanes]
  · rw [setWord_lanes]
@[simp] theorem raise_sense (s : State) (p : Page) (b : Nat) : (s.raise p b).sense = s.sense := by
  unfold raise; simp only; split
  · rw [log_sense, setWord_sense]
  · rw [setWord_sense]
@[simp] theorem raise_tele (s : State) (p : Page) (b : Nat) : (s.raise p b).tele = s.tele := by
  unfold raise; simp only; split
  · rw [log_tele, setWord_tele]
  · rw [setWord_tele]
@[simp] theorem raise_rail (s : State) (p : Page) (b : Nat) : (s.raise p b).rail = s.rail := by
  unfold raise; simp only; split
  · rw [log_rail, setWord_rail]
  · rw [setWord_rail]
@[simp] theorem raise_clock (s : State) (p : Page) (b : Nat) : (s.raise p b).clock = s.clock := by
  unfold raise; simp only; split
  · rw [log_clock, setWord_clock]
  · rw [setWord_clock]

@[simp] theorem raiseIf_pending (s : State) (c : Bool) (p : Page) (b : Nat) : (s.raiseIf c p b).pending = s.pending := by
  unfold raiseIf; split
  · exact raise_pending s p b
  · exact Eq.refl _
@[simp] theorem raiseIf_out (s : State) (c : Bool) (p : Page) (b : Nat) : (s.raiseIf c p b).out = s.out := by
  unfold raiseIf; split
  · exact raise_out s p b
  · exact Eq.refl _
@[simp] theorem raiseIf_fresh (s : State) (c : Bool) (p : Page) (b : Nat) : (s.raiseIf c p b).fresh = s.fresh := by
  unfold raiseIf; split
  · exact raise_fresh s p b
  · exact Eq.refl _
@[simp] theorem raiseIf_part (s : State) (c : Bool) (p : Page) (b : Nat) : (s.raiseIf c p b).part = s.part := by
  unfold raiseIf; split
  · exact raise_part s p b
  · exact Eq.refl _
@[simp] theorem raiseIf_time (s : State) (c : Bool) (p : Page) (b : Nat) : (s.raiseIf c p b).time = s.time := by
  unfold raiseIf; split
  · exact raise_time s p b
  · exact Eq.refl _
@[simp] theorem raiseIf_host (s : State) (c : Bool) (p : Page) (b : Nat) : (s.raiseIf c p b).host = s.host := by
  unfold raiseIf; split
  · exact raise_host s p b
  · exact Eq.refl _
@[simp] theorem raiseIf_ses (s : State) (c : Bool) (p : Page) (b : Nat) : (s.raiseIf c p b).ses = s.ses := by
  unfold raiseIf; split
  · exact raise_ses s p b
  · exact Eq.refl _
@[simp] theorem raiseIf_hubEnd (s : State) (c : Bool) (p : Page) (b : Nat) : (s.raiseIf c p b).hubEnd = s.hubEnd := by
  unfold raiseIf; split
  · exact raise_hubEnd s p b
  · exact Eq.refl _
@[simp] theorem raiseIf_fieldEnd (s : State) (c : Bool) (p : Page) (b : Nat) : (s.raiseIf c p b).fieldEnd = s.fieldEnd := by
  unfold raiseIf; split
  · exact raise_fieldEnd s p b
  · exact Eq.refl _
@[simp] theorem raiseIf_mirror (s : State) (c : Bool) (p : Page) (b : Nat) : (s.raiseIf c p b).mirror = s.mirror := by
  unfold raiseIf; split
  · exact raise_mirror s p b
  · exact Eq.refl _
@[simp] theorem raiseIf_field (s : State) (c : Bool) (p : Page) (b : Nat) : (s.raiseIf c p b).field = s.field := by
  unfold raiseIf; split
  · exact raise_field s p b
  · exact Eq.refl _
@[simp] theorem raiseIf_start (s : State) (c : Bool) (p : Page) (b : Nat) : (s.raiseIf c p b).start = s.start := by
  unfold raiseIf; split
  · exact raise_start s p b
  · exact Eq.refl _
@[simp] theorem raiseIf_pins (s : State) (c : Bool) (p : Page) (b : Nat) : (s.raiseIf c p b).pins = s.pins := by
  unfold raiseIf; split
  · exact raise_pins s p b
  · exact Eq.refl _
@[simp] theorem raiseIf_cars (s : State) (c : Bool) (p : Page) (b : Nat) : (s.raiseIf c p b).cars = s.cars := by
  unfold raiseIf; split
  · exact raise_cars s p b
  · exact Eq.refl _
@[simp] theorem raiseIf_tm (s : State) (c : Bool) (p : Page) (b : Nat) : (s.raiseIf c p b).tm = s.tm := by
  unfold raiseIf; split
  · exact raise_tm s p b
  · exact Eq.refl _
@[simp] theorem raiseIf_cad (s : State) (c : Bool) (p : Page) (b : Nat) : (s.raiseIf c p b).cad = s.cad := by
  unfold raiseIf; split
  · exact raise_cad s p b
  · exact Eq.refl _
@[simp] theorem raiseIf_mem (s : State) (c : Bool) (p : Page) (b : Nat) : (s.raiseIf c p b).mem = s.mem := by
  unfold raiseIf; split
  · exact raise_mem s p b
  · exact Eq.refl _
@[simp] theorem raiseIf_lanes (s : State) (c : Bool) (p : Page) (b : Nat) : (s.raiseIf c p b).lanes = s.lanes := by
  unfold raiseIf; split
  · exact raise_lanes s p b
  · exact Eq.refl _
@[simp] theorem raiseIf_sense (s : State) (c : Bool) (p : Page) (b : Nat) : (s.raiseIf c p b).sense = s.sense := by
  unfold raiseIf; split
  · exact raise_sense s p b
  · exact Eq.refl _
@[simp] theorem raiseIf_tele (s : State) (c : Bool) (p : Page) (b : Nat) : (s.raiseIf c p b).tele = s.tele := by
  unfold raiseIf; split
  · exact raise_tele s p b
  · exact Eq.refl _
@[simp] theorem raiseIf_rail (s : State) (c : Bool) (p : Page) (b : Nat) : (s.raiseIf c p b).rail = s.rail := by
  unfold raiseIf; split
  · exact raise_rail s p b
  · exact Eq.refl _
@[simp] theorem raiseIf_clock (s : State) (c : Bool) (p : Page) (b : Nat) : (s.raiseIf c p b).clock = s.clock := by
  unfold raiseIf; split
  · exact raise_clock s p b
  · exact Eq.refl _

@[simp] theorem ce_pending (s : State) (p : Page) (t : Nat) : (s.ce p t).pending = s.pending := (wr_pending _ _ _ _).trans (wr_pending s p _ _)
@[simp] theorem ce_out (s : State) (p : Page) (t : Nat) : (s.ce p t).out = s.out := (wr_out _ _ _ _).trans (wr_out s p _ _)
@[simp] theorem ce_fresh (s : State) (p : Page) (t : Nat) : (s.ce p t).fresh = s.fresh := (wr_fresh _ _ _ _).trans (wr_fresh s p _ _)
@[simp] theorem ce_part (s : State) (p : Page) (t : Nat) : (s.ce p t).part = s.part := (wr_part _ _ _ _).trans (wr_part s p _ _)
@[simp] theorem ce_time (s : State) (p : Page) (t : Nat) : (s.ce p t).time = s.time := (wr_time _ _ _ _).trans (wr_time s p _ _)
@[simp] theorem ce_damage (s : State) (p : Page) (t : Nat) : (s.ce p t).damage = s.damage := (wr_damage _ _ _ _).trans (wr_damage s p _ _)
@[simp] theorem ce_ctr (s : State) (p : Page) (t : Nat) : (s.ce p t).ctr = s.ctr := (wr_ctr _ _ _ _).trans (wr_ctr s p _ _)
@[simp] theorem ce_host (s : State) (p : Page) (t : Nat) : (s.ce p t).host = s.host := (wr_host _ _ _ _).trans (wr_host s p _ _)
@[simp] theorem ce_ses (s : State) (p : Page) (t : Nat) : (s.ce p t).ses = s.ses := (wr_ses _ _ _ _).trans (wr_ses s p _ _)
@[simp] theorem ce_logRing (s : State) (p : Page) (t : Nat) : (s.ce p t).logRing = s.logRing := (wr_logRing _ _ _ _).trans (wr_logRing s p _ _)
@[simp] theorem ce_hubEnd (s : State) (p : Page) (t : Nat) : (s.ce p t).hubEnd = s.hubEnd := (wr_hubEnd _ _ _ _).trans (wr_hubEnd s p _ _)
@[simp] theorem ce_fieldEnd (s : State) (p : Page) (t : Nat) : (s.ce p t).fieldEnd = s.fieldEnd := (wr_fieldEnd _ _ _ _).trans (wr_fieldEnd s p _ _)
@[simp] theorem ce_mirror (s : State) (p : Page) (t : Nat) : (s.ce p t).mirror = s.mirror := (wr_mirror _ _ _ _).trans (wr_mirror s p _ _)
@[simp] theorem ce_field (s : State) (p : Page) (t : Nat) : (s.ce p t).field = s.field := (wr_field _ _ _ _).trans (wr_field s p _ _)
@[simp] theorem ce_start (s : State) (p : Page) (t : Nat) : (s.ce p t).start = s.start := (wr_start _ _ _ _).trans (wr_start s p _ _)
@[simp] theorem ce_pins (s : State) (p : Page) (t : Nat) : (s.ce p t).pins = s.pins := (wr_pins _ _ _ _).trans (wr_pins s p _ _)
@[simp] theorem ce_cars (s : State) (p : Page) (t : Nat) : (s.ce p t).cars = s.cars := (wr_cars _ _ _ _).trans (wr_cars s p _ _)
@[simp] theorem ce_tm (s : State) (p : Page) (t : Nat) : (s.ce p t).tm = s.tm := (wr_tm _ _ _ _).trans (wr_tm s p _ _)
@[simp] theorem ce_cad (s : State) (p : Page) (t : Nat) : (s.ce p t).cad = s.cad := (wr_cad _ _ _ _).trans (wr_cad s p _ _)
@[simp] theorem ce_mem (s : State) (p : Page) (t : Nat) : (s.ce p t).mem = s.mem := (wr_mem _ _ _ _).trans (wr_mem s p _ _)
@[simp] theorem ce_lanes (s : State) (p : Page) (t : Nat) : (s.ce p t).lanes = s.lanes := (wr_lanes _ _ _ _).trans (wr_lanes s p _ _)
@[simp] theorem ce_sense (s : State) (p : Page) (t : Nat) : (s.ce p t).sense = s.sense := (wr_sense _ _ _ _).trans (wr_sense s p _ _)
@[simp] theorem ce_tele (s : State) (p : Page) (t : Nat) : (s.ce p t).tele = s.tele := (wr_tele _ _ _ _).trans (wr_tele s p _ _)
@[simp] theorem ce_rail (s : State) (p : Page) (t : Nat) : (s.ce p t).rail = s.rail := (wr_rail _ _ _ _).trans (wr_rail s p _ _)
@[simp] theorem ce_clock (s : State) (p : Page) (t : Nat) : (s.ce p t).clock = s.clock := (wr_clock _ _ _ _).trans (wr_clock s p _ _)

@[simp] theorem ue_pending (s : State) (p : Page) (t : Nat) : (s.ue p t).pending = s.pending := (wr_pending _ _ _ _).trans (wr_pending s p _ _)
@[simp] theorem ue_out (s : State) (p : Page) (t : Nat) : (s.ue p t).out = s.out := (wr_out _ _ _ _).trans (wr_out s p _ _)
@[simp] theorem ue_fresh (s : State) (p : Page) (t : Nat) : (s.ue p t).fresh = s.fresh := (wr_fresh _ _ _ _).trans (wr_fresh s p _ _)
@[simp] theorem ue_part (s : State) (p : Page) (t : Nat) : (s.ue p t).part = s.part := (wr_part _ _ _ _).trans (wr_part s p _ _)
@[simp] theorem ue_time (s : State) (p : Page) (t : Nat) : (s.ue p t).time = s.time := (wr_time _ _ _ _).trans (wr_time s p _ _)
@[simp] theorem ue_damage (s : State) (p : Page) (t : Nat) : (s.ue p t).damage = s.damage := (wr_damage _ _ _ _).trans (wr_damage s p _ _)
@[simp] theorem ue_ctr (s : State) (p : Page) (t : Nat) : (s.ue p t).ctr = s.ctr := (wr_ctr _ _ _ _).trans (wr_ctr s p _ _)
@[simp] theorem ue_host (s : State) (p : Page) (t : Nat) : (s.ue p t).host = s.host := (wr_host _ _ _ _).trans (wr_host s p _ _)
@[simp] theorem ue_ses (s : State) (p : Page) (t : Nat) : (s.ue p t).ses = s.ses := (wr_ses _ _ _ _).trans (wr_ses s p _ _)
@[simp] theorem ue_logRing (s : State) (p : Page) (t : Nat) : (s.ue p t).logRing = s.logRing := (wr_logRing _ _ _ _).trans (wr_logRing s p _ _)
@[simp] theorem ue_hubEnd (s : State) (p : Page) (t : Nat) : (s.ue p t).hubEnd = s.hubEnd := (wr_hubEnd _ _ _ _).trans (wr_hubEnd s p _ _)
@[simp] theorem ue_fieldEnd (s : State) (p : Page) (t : Nat) : (s.ue p t).fieldEnd = s.fieldEnd := (wr_fieldEnd _ _ _ _).trans (wr_fieldEnd s p _ _)
@[simp] theorem ue_mirror (s : State) (p : Page) (t : Nat) : (s.ue p t).mirror = s.mirror := (wr_mirror _ _ _ _).trans (wr_mirror s p _ _)
@[simp] theorem ue_field (s : State) (p : Page) (t : Nat) : (s.ue p t).field = s.field := (wr_field _ _ _ _).trans (wr_field s p _ _)
@[simp] theorem ue_start (s : State) (p : Page) (t : Nat) : (s.ue p t).start = s.start := (wr_start _ _ _ _).trans (wr_start s p _ _)
@[simp] theorem ue_pins (s : State) (p : Page) (t : Nat) : (s.ue p t).pins = s.pins := (wr_pins _ _ _ _).trans (wr_pins s p _ _)
@[simp] theorem ue_cars (s : State) (p : Page) (t : Nat) : (s.ue p t).cars = s.cars := (wr_cars _ _ _ _).trans (wr_cars s p _ _)
@[simp] theorem ue_tm (s : State) (p : Page) (t : Nat) : (s.ue p t).tm = s.tm := (wr_tm _ _ _ _).trans (wr_tm s p _ _)
@[simp] theorem ue_cad (s : State) (p : Page) (t : Nat) : (s.ue p t).cad = s.cad := (wr_cad _ _ _ _).trans (wr_cad s p _ _)
@[simp] theorem ue_mem (s : State) (p : Page) (t : Nat) : (s.ue p t).mem = s.mem := (wr_mem _ _ _ _).trans (wr_mem s p _ _)
@[simp] theorem ue_lanes (s : State) (p : Page) (t : Nat) : (s.ue p t).lanes = s.lanes := (wr_lanes _ _ _ _).trans (wr_lanes s p _ _)
@[simp] theorem ue_sense (s : State) (p : Page) (t : Nat) : (s.ue p t).sense = s.sense := (wr_sense _ _ _ _).trans (wr_sense s p _ _)
@[simp] theorem ue_tele (s : State) (p : Page) (t : Nat) : (s.ue p t).tele = s.tele := (wr_tele _ _ _ _).trans (wr_tele s p _ _)
@[simp] theorem ue_rail (s : State) (p : Page) (t : Nat) : (s.ue p t).rail = s.rail := (wr_rail _ _ _ _).trans (wr_rail s p _ _)
@[simp] theorem ue_clock (s : State) (p : Page) (t : Nat) : (s.ue p t).clock = s.clock := (wr_clock _ _ _ _).trans (wr_clock s p _ _)

end State
end Sys2Proof.Machine
end

