-- ==== Sys2Proof/Laws/Frame.lean ====
section
/-! SUPPORT. Frames of the named operations: what each leaves unchanged, one lemma for each. -/
namespace Sys2Proof.Machine

open Sys2Proof Reg

namespace State

variable {s u : State} {l : List (Page × Nat)} {ps : List StatePart}

theorem Frame.refl : Frame s s l ps :=
  ⟨fun _ _ _ _ _ => rfl, fun p _ => by cases p <;> exact rfl, rfl, rfl⟩

theorem Frame.silent : Frame s s.silent l ps :=
  ⟨fun _ _ _ _ _ => rfl, fun p _ => by cases p <;> exact rfl, rfl, rfl⟩

/-- A change of the registers alone. -/
theorem Frame.regs {r : SMap Word} (h : Frame s u l ps)
    (hr : ∀ q i, i < 0x1000 → (q ≠ .log ∨ .logRing ∉ ps) → (q, i) ∉ l → ({ u with regs := r } : State).word q i = u.word q i) :
    Frame s { u with regs := r } l ps :=
  ⟨fun q i a b c => (hr q i a b c).trans (h.reg q i a b c), fun p hp => by have := h.same p hp; cases p <;> exact this, h.part, h.pending⟩

theorem Frame.setWord {p : Page} {i : Nat} {w : Word} (h : Frame s u l ps) (hi : i < 0x1000) (hm : (p, i) ∈ l) :
    Frame s (u.setWord p i w) l ps := by
  refine Frame.regs h fun q j a b c => ?_
  refine word_setWord_ne u p q i j w hi a ?_
  by_cases e : q = p
  · right; intro e2; subst e; subst e2; exact c hm
  · left; exact e

theorem Frame.wr {p : Page} {f : Fld} {n : Nat} (h : Frame s u l ps) (hi : f.off < 0x1000) (hm : (p, f.off) ∈ l) :
    Frame s (u.wr p f n) l ps := h.setWord hi hm

theorem Frame.wb {p : Page} {f : Fld} {b : Bool} (h : Frame s u l ps) (hi : f.off < 0x1000) (hm : (p, f.off) ∈ l) :
    Frame s (u.wb p f b) l ps := h.setWord hi hm

theorem Frame.wrI {p : Page} {f : Fld} {n : Int} (h : Frame s u l ps) (hi : f.off < 0x1000) (hm : (p, f.off) ∈ l) :
    Frame s (u.wrI p f n) l ps := h.setWord hi hm

theorem Frame.sat {p : Page} {f : Fld} {n : Nat} (h : Frame s u l ps) (hi : f.off < 0x1000) (hm : (p, f.off) ∈ l) :
    Frame s (u.sat p f n) l ps := h.setWord hi hm

theorem Frame.setPst {p : Page} {n : Nat} (h : Frame s u l ps) (hm : (p, 0x008) ∈ l) : Frame s (u.setPst p n) l ps :=
  h.setWord (by decide) hm

theorem Frame.emit {o : Output} (h : Frame s u l ps) : Frame s (u.emit o) l ps :=
  ⟨h.reg, fun p hp => by have := h.same p hp; cases p <;> exact this, h.part, h.pending⟩

theorem Frame.with_ctr {x : SMap Nat} (h : Frame s u l ps) (hm : StatePart.ctr ∈ ps) : Frame s { u with ctr := x } l ps :=
  ⟨h.reg, fun p hp => by have := h.same p hp; cases p <;> first | exact this | exact absurd hm hp, h.part, h.pending⟩

theorem Frame.countAt {a n : Nat} (h : Frame s u l ps) (hm : StatePart.ctr ∈ ps) : Frame s (u.countAt a n) l ps := h.with_ctr hm
theorem Frame.countWrapAt {a n : Nat} (h : Frame s u l ps) (hm : StatePart.ctr ∈ ps) : Frame s (u.countWrapAt a n) l ps := h.with_ctr hm
theorem Frame.count {p : Page} {j n : Nat} (h : Frame s u l ps) (hm : StatePart.ctr ∈ ps) : Frame s (u.count p j n) l ps := h.with_ctr hm
theorem Frame.countS {p : Page} {j n : Nat} (h : Frame s u l ps) (hm : StatePart.ctr ∈ ps) : Frame s (u.countS p j n) l ps := h.with_ctr hm
theorem Frame.countTx {c j n : Nat} (h : Frame s u l ps) (hm : StatePart.ctr ∈ ps) : Frame s (u.countTx c j n) l ps := h.with_ctr hm
theorem Frame.countRx {c j n : Nat} (h : Frame s u l ps) (hm : StatePart.ctr ∈ ps) : Frame s (u.countRx c j n) l ps := h.with_ctr hm

theorem Frame.with_host {x : HostIf} (h : Frame s u l ps) (hm : StatePart.host ∈ ps) : Frame s { u with host := x } l ps :=
  ⟨h.reg, fun p hp => by have := h.same p hp; cases p <;> first | exact this | exact absurd hm hp, h.part, h.pending⟩

theorem Frame.resend {v : Nat} (h : Frame s u l ps) (hm : StatePart.host ∈ ps) : Frame s (u.resend v) l ps := h.with_host hm

theorem Frame.with_hubEnd {x : BEnd} (h : Frame s u l ps) (hm : StatePart.hubEnd ∈ ps) : Frame s { u with hubEnd := x } l ps :=
  ⟨h.reg, fun p hp => by have := h.same p hp; cases p <;> first | exact this | exact absurd hm hp, h.part, h.pending⟩

theorem Frame.toField {m : BMsg} (h : Frame s u l ps) (hm : StatePart.hubEnd ∈ ps) : Frame s (u.toField m) l ps := h.with_hubEnd hm

theorem Frame.with_fieldEnd {x : BEnd} (h : Frame s u l ps) (hm : StatePart.fieldEnd ∈ ps) : Frame s { u with fieldEnd := x } l ps :=
  ⟨h.reg, fun p hp => by have := h.same p hp; cases p <;> first | exact this | exact absurd hm hp, h.part, h.pending⟩

theorem Frame.toHub {m : BMsg} (h : Frame s u l ps) (hm : StatePart.fieldEnd ∈ ps) : Frame s (u.toHub m) l ps := h.with_fieldEnd hm

theorem Frame.with_cars {x : SMap Carrier} (h : Frame s u l ps) (hm : StatePart.cars ∈ ps) : Frame s { u with cars := x } l ps :=
  ⟨h.reg, fun p hp => by have := h.same p hp; cases p <;> first | exact this | exact absurd hm hp, h.part, h.pending⟩

theorem Frame.setCar {k : Fin 16} {c : Carrier} (h : Frame s u l ps) (hm : StatePart.cars ∈ ps) : Frame s (u.setCar k c) l ps := h.with_cars hm
theorem Frame.updCar {k : Fin 16} {f : Carrier → Carrier} (h : Frame s u l ps) (hm : StatePart.cars ∈ ps) : Frame s (u.updCar k f) l ps := h.with_cars hm

theorem Frame.with_tm {x : Tm} (h : Frame s u l ps) (hm : StatePart.tm ∈ ps) : Frame s { u with tm := x } l ps :=
  ⟨h.reg, fun p hp => by have := h.same p hp; cases p <;> first | exact this | exact absurd hm hp, h.part, h.pending⟩

theorem Frame.updTm {f : Tm → Tm} (h : Frame s u l ps) (hm : StatePart.tm ∈ ps) : Frame s (u.updTm f) l ps := h.with_tm hm

theorem Frame.with_cad {x : Cad} (h : Frame s u l ps) (hm : StatePart.cad ∈ ps) : Frame s { u with cad := x } l ps :=
  ⟨h.reg, fun p hp => by have := h.same p hp; cases p <;> first | exact this | exact absurd hm hp, h.part, h.pending⟩

theorem Frame.updCad {f : Cad → Cad} (h : Frame s u l ps) (hm : StatePart.cad ∈ ps) : Frame s (u.updCad f) l ps := h.with_cad hm

theorem Frame.with_field {x : Field} (h : Frame s u l ps) (hm : StatePart.field ∈ ps) : Frame s { u with field := x } l ps :=
  ⟨h.reg, fun p hp => by have := h.same p hp; cases p <;> first | exact this | exact absurd hm hp, h.part, h.pending⟩

theorem Frame.updField {f : Field → Field} (h : Frame s u l ps) (hm : StatePart.field ∈ ps) : Frame s (u.updField f) l ps := h.with_field hm
theorem Frame.updPub {f : FieldPub → FieldPub} (h : Frame s u l ps) (hm : StatePart.field ∈ ps) : Frame s (u.updPub f) l ps := h.with_field hm

theorem Frame.with_mirror {x : Mirror} (h : Frame s u l ps) (hm : StatePart.mirror ∈ ps) : Frame s { u with mirror := x } l ps :=
  ⟨h.reg, fun p hp => by have := h.same p hp; cases p <;> first | exact this | exact absurd hm hp, h.part, h.pending⟩

theorem Frame.updMirror {f : Mirror → Mirror} (h : Frame s u l ps) (hm : StatePart.mirror ∈ ps) : Frame s (u.updMirror f) l ps := h.with_mirror hm

theorem Frame.with_start {x : Start} (h : Frame s u l ps) (hm : StatePart.start ∈ ps) : Frame s { u with start := x } l ps :=
  ⟨h.reg, fun p hp => by have := h.same p hp; cases p <;> first | exact this | exact absurd hm hp, h.part, h.pending⟩

theorem Frame.updStart {f : Start → Start} (h : Frame s u l ps) (hm : StatePart.start ∈ ps) : Frame s (u.updStart f) l ps := h.with_start hm

theorem Frame.with_tele {x : Tele} (h : Frame s u l ps) (hm : StatePart.tele ∈ ps) : Frame s { u with tele := x } l ps :=
  ⟨h.reg, fun p hp => by have := h.same p hp; cases p <;> first | exact this | exact absurd hm hp, h.part, h.pending⟩

theorem Frame.updTele {f : Tele → Tele} (h : Frame s u l ps) (hm : StatePart.tele ∈ ps) : Frame s (u.updTele f) l ps := h.with_tele hm

theorem Frame.with_sense {x : Sense} (h : Frame s u l ps) (hm : StatePart.sense ∈ ps) : Frame s { u with sense := x } l ps :=
  ⟨h.reg, fun p hp => by have := h.same p hp; cases p <;> first | exact this | exact absurd hm hp, h.part, h.pending⟩

theorem Frame.updSense {f : Sense → Sense} (h : Frame s u l ps) (hm : StatePart.sense ∈ ps) : Frame s (u.updSense f) l ps := h.with_sense hm

theorem Frame.with_mem {x : Mem} (h : Frame s u l ps) (hm : StatePart.mem ∈ ps) : Frame s { u with mem := x } l ps :=
  ⟨h.reg, fun p hp => by have := h.same p hp; cases p <;> first | exact this | exact absurd hm hp, h.part, h.pending⟩

theorem Frame.updMem {f : Mem → Mem} (h : Frame s u l ps) (hm : StatePart.mem ∈ ps) : Frame s (u.updMem f) l ps := h.with_mem hm
theorem Frame.setChan {c : Fin 17} {x : Chan} (h : Frame s u l ps) (hm : StatePart.mem ∈ ps) : Frame s (u.setChan c x) l ps := h.with_mem hm

theorem Frame.with_rail {x : Rail} (h : Frame s u l ps) (hm : StatePart.rail ∈ ps) : Frame s { u with rail := x } l ps :=
  ⟨h.reg, fun p hp => by have := h.same p hp; cases p <;> first | exact this | exact absurd hm hp, h.part, h.pending⟩

theorem Frame.updRail {f : Rail → Rail} (h : Frame s u l ps) (hm : StatePart.rail ∈ ps) : Frame s (u.updRail f) l ps := h.with_rail hm

theorem Frame.with_lanes {x : Lanes} (h : Frame s u l ps) (hm : StatePart.lanes ∈ ps) : Frame s { u with lanes := x } l ps :=
  ⟨h.reg, fun p hp => by have := h.same p hp; cases p <;> first | exact this | exact absurd hm hp, h.part, h.pending⟩

theorem Frame.setDie {d : Fin 2} {x : HostDie} (h : Frame s u l ps) (hm : StatePart.lanes ∈ ps) : Frame s (u.setDie d x) l ps := h.with_lanes hm
theorem Frame.setHgrp {d : Fin 2} {g : Fin 4} {x : LaneGroup} (h : Frame s u l ps) (hm : StatePart.lanes ∈ ps) : Frame s (u.setHgrp d g x) l ps := h.with_lanes hm

theorem Frame.with_ses {x : SesEng} (h : Frame s u l ps) (hm : StatePart.ses ∈ ps) : Frame s { u with ses := x } l ps :=
  ⟨h.reg, fun p hp => by have := h.same p hp; cases p <;> first | exact this | exact absurd hm hp, h.part, h.pending⟩


theorem Frame.with_damage {x : SMap Nat} (h : Frame s u l ps) (hm : StatePart.damage ∈ ps) : Frame s { u with damage := x } l ps :=
  ⟨h.reg, fun p hp => by have := h.same p hp; cases p <;> first | exact this | exact absurd hm hp, h.part, h.pending⟩


theorem Frame.with_logRing {x : SMap (BitVec 128)} (h : Frame s u l ps) (hm : StatePart.logRing ∈ ps) : Frame s { u with logRing := x } l ps :=
  ⟨h.reg, fun p hp => by have := h.same p hp; cases p <;> first | exact this | exact absurd hm hp, h.part, h.pending⟩


theorem Frame.with_fresh {x : Nat} (h : Frame s u l ps) (hm : StatePart.fresh ∈ ps) : Frame s { u with fresh := x } l ps :=
  ⟨h.reg, fun p hp => by have := h.same p hp; cases p <;> first | exact this | exact absurd hm hp, h.part, h.pending⟩


theorem Frame.with_time {x : BitVec 64} (h : Frame s u l ps) (hm : StatePart.time ∈ ps) : Frame s { u with time := x } l ps :=
  ⟨h.reg, fun p hp => by have := h.same p hp; cases p <;> first | exact this | exact absurd hm hp, h.part, h.pending⟩


theorem Frame.with_pins {x : Pins} (h : Frame s u l ps) (hm : StatePart.pins ∈ ps) : Frame s { u with pins := x } l ps :=
  ⟨h.reg, fun p hp => by have := h.same p hp; cases p <;> first | exact this | exact absurd hm hp, h.part, h.pending⟩


theorem Frame.with_clock {x : Clock} (h : Frame s u l ps) (hm : StatePart.clock ∈ ps) : Frame s { u with clock := x } l ps :=
  ⟨h.reg, fun p hp => by have := h.same p hp; cases p <;> first | exact this | exact absurd hm hp, h.part, h.pending⟩


theorem Frame.trans {v : State} (h : Frame s u l ps) (g : Frame u v l ps) : Frame s v l ps :=
  ⟨fun q i a b c => (g.reg q i a b c).trans (h.reg q i a b c),
   fun p hp => by have h1 := h.same p hp; have h2 := g.same p hp; cases p <;> exact h2.trans h1,
   g.part.trans h.part, g.pending.trans h.pending⟩

theorem Frame.armed {p : Page} {t : Nat} (h : Frame s u l ps) (hm : (p, 0x018) ∈ l) : Frame s (u.armed p t).2 l ps := by
  rcases armed_eq u p t with e | e
  · rw [e]; exact h
  · rw [e]; exact h.wb (by decide) hm

theorem Frame.protect {p : Page} {t x : Nat} (h : Frame s u l ps) (hm : (p, 0x018) ∈ l) (hd : StatePart.damage ∈ ps) :
    Frame s (u.protect p t x) l ps := (h.armed hm).with_damage hd

/-- The frame of a log entry: the LOG page is not spoken of. -/
theorem Frame.log {k sec pg code arg : Nat} (h : Frame s u l ps) (hc : StatePart.ctr ∈ ps) (hr : StatePart.logRing ∈ ps)
    (hd : StatePart.damage ∈ ps) : Frame s (u.log k sec pg code arg) l ps := by
  refine ⟨fun q i a b c => ?_, fun p hp => ?_, ?_, ?_⟩
  · rcases b with b | b
    · rw [log_word _ _ _ _ _ _ _ _ a b]; exact h.reg q i a (.inl b) c
    · exact absurd hr b
  · have := h.same p hp
    cases p <;> simp only [samePart, log_time, log_fresh, log_host, log_ses, log_hubEnd, log_fieldEnd, log_mirror, log_field,
      log_start, log_pins, log_cars, log_tm, log_cad, log_mem, log_lanes, log_sense, log_tele, log_rail, log_clock] at this ⊢
      <;> first | exact this | contradiction
  · rw [log_part]; exact h.part
  · rw [log_pending]; exact h.pending

/-- The frame of an event: its EVENT register, and in the interval of a warm reset the log. -/
theorem Frame.raise {p : Page} {b : Nat} (h : Frame s u l ps) (hm : (p, 0x00C) ∈ l) (hc : StatePart.ctr ∈ ps)
    (hr : StatePart.logRing ∈ ps) (hd : StatePart.damage ∈ ps) : Frame s (u.raise p b) l ps := by
  unfold State.raise; simp only
  split
  · exact (h.setWord (by decide) hm).log hc hr hd
  · exact h.setWord (by decide) hm

theorem Frame.raiseIf {c : Bool} {p : Page} {b : Nat} (h : Frame s u l ps) (hm : (p, 0x00C) ∈ l) (hc : StatePart.ctr ∈ ps)
    (hr : StatePart.logRing ∈ ps) (hd : StatePart.damage ∈ ps) : Frame s (u.raiseIf c p b) l ps := by
  unfold State.raiseIf; split
  · exact h.raise hm hc hr hd
  · exact h

theorem Frame.ite {c : Prop} [Decidable c] {v : State} (h : c → Frame s u l ps) (g : ¬c → Frame s v l ps) :
    Frame s (if c then u else v) l ps := by
  split
  · rename_i hc; exact h hc
  · rename_i hc; exact g hc

theorem touch_eq (s : State) : s.touch = s ∨ s.touch = { s with ses := { s.ses with lastWrite := s.time } } := by
  unfold State.touch; by_cases h : s.role = 0
  · left; rw [if_pos h]
  · right; rw [if_neg h]

theorem Frame.touch (h : Frame s u l ps) (hm : StatePart.ses ∈ ps) : Frame s u.touch l ps := by
  rcases touch_eq u with e | e <;> rw [e]
  · exact h
  · exact h.with_ses hm

/-! ## Host writes (R6, R31, R33, R43, R44, R69, R498) -/

theorem pageAt_of (s : State) (p : Page) (a : Nat) (h : Page.ofAddr a = some p) :
    s.pageAt a = if s.start.kettle && decide (6 ≤ p.sec) then none else some p := by
  unfold State.pageAt; rw [h]

theorem pageAt_base (s : State) (p : Page) (i : Nat) (hi : i < 0x1000) :
    s.pageAt (p.base + i) = if s.start.kettle && decide (6 ≤ p.sec) then none else some p :=
  pageAt_of s p _ (Page.ofAddr_base p i hi)

theorem touch_word (s : State) (q : Page) (i : Nat) : s.touch.word q i = s.word q i := by
  rcases touch_eq s with h | h <;> rw [h]
  exact with_ses_word _ _ _ _

theorem touch_rd (s : State) (q : Page) (f : Fld) : s.touch.rd q f = s.rd q f := by
  unfold State.rd; rw [touch_word]

theorem touch_role (s : State) : s.touch.role = s.role := by
  unfold State.role; rw [touch_rd]

theorem touch_start (s : State) : s.touch.start = s.start := by
  rcases touch_eq s with h | h <;> rw [h]

/-- A write that is accepted runs its effect on the state in which the inactivity timer has been restarted. -/
theorem gateReg_accepts (s : State) (p : Page) (i : Nat) (v : Word) (eff : State → State) (hi : i < 0x1000) (h4 : i % 4 = 0)
    (h : s.accepts p i = true) : s.gateReg p i v eff = eff s.touch := by
  unfold State.accepts at h
  simp only [Bool.and_eq_true, Bool.not_eq_true', decide_eq_true_eq] at h
  obtain ⟨⟨⟨⟨h1, h2⟩, h3⟩, h5⟩, h6⟩ := h
  unfold State.gateReg State.gateWrite
  rw [h1, h2, h3]
  have hk : s.touch.pageAt (p.base + i) = some p := by
    rw [pageAt_base _ _ _ hi, touch_start, h5]; rfl
  simp only [Bool.not_true, Bool.false_eq_true, if_false, reduceCtorEq, Page.base_mod4, h4, ne_eq, not_true_eq_false, hk,
    Page.base_mod p i hi, touch_role, h6, if_true, decide_false, Bool.or_self]

theorem silent_accepts (s : State) (p : Page) (i : Nat) : s.silent.accepts p i = s.accepts p i := Eq.refl _

/-- The outcome of an accepted host write. -/
theorem done_gateReg (s : State) (p : Page) (i : Nat) (v : Word) (eff : State → State) (hi : i < 0x1000) (h4 : i % 4 = 0)
    (h : s.accepts p i = true) : s.done (fun s => s.gateReg p i v eff) = .next (settle s (eff s.silent.touch)) := by
  rw [done_eq]
  have := gateReg_accepts s.silent p i v eff hi h4 h
  unfold State.silent at this ⊢
  rw [this]

theorem silent_touch (s : State) : s.silent.touch = s.touch.silent := by
  unfold State.touch
  by_cases h : s.role = 0
  · have h2 : s.silent.role = 0 := h
    rw [if_pos h, if_pos h2]
  · have h2 : ¬s.silent.role = 0 := h
    rw [if_neg h, if_neg h2]; rfl

@[simp] theorem silent_word (s : State) (q : Page) (i : Nat) : s.silent.word q i = s.word q i := with_out_word s [] q i
@[simp] theorem silent_rd (s : State) (q : Page) (f : Fld) : s.silent.rd q f = s.rd q f := with_out_rd s [] q f
@[simp] theorem silent_rdI (s : State) (q : Page) (f : Fld) : s.silent.rdI q f = s.rdI q f := with_out_rdI s [] q f
@[simp] theorem silent_bit (s : State) (q : Page) (f : Fld) : s.silent.bit q f = s.bit q f := with_out_bit s [] q f
@[simp] theorem silent_out (s : State) : s.silent.out = [] := Eq.refl _

end State

/-- A command answers the settled form of what its effect makes of the state. -/
theorem answers_done {c : Instr} {s : State} {P : State → Prop} (f : State → State) (h : Machine.exec c s = s.done f)
    (hP : P (f s.silent)) : Answers c s P := ⟨_, h, hP⟩

/-- The same of an accepted host write. -/
theorem answers_write {c : Instr} {s : State} {P : State → Prop} {p : Page} {i : Nat} {v : Word} (eff : State → State)
    (h : Machine.exec c s = s.done (fun s => s.gateReg p i v eff)) (hi : i < 0x1000) (h4 : i % 4 = 0)
    (ha : s.accepts p i = true) (hP : P (eff s.touch.silent)) : Answers c s P :=
  ⟨_, h.trans (State.done_gateReg s p i v eff hi h4 ha), by rw [State.silent_touch]; exact hP⟩

end Sys2Proof.Machine
end

