-- ==== Sys2Proof/Laws/Gate.lean ====
section
/-! SUPPORT. The way of a host write: one lemma for each end it can have (R31, R33, R43, R44, R69, R498). -/
namespace Sys2Proof.Machine.State

open Sys2Proof Reg

variable (s : State) (addr : Nat) (v : Word) (be : BitVec 4) (eff : State → State)

theorem gateWrite_down (h : s.linkUp = false) : s.gateWrite addr v be eff = s := by
  unfold gateWrite; rw [h]; rfl

theorem gateWrite_held (h : s.linkUp = true) (hm : s.host.mgmt = .changing) :
    s.gateWrite addr v be eff = ({ s with host := { s.host with held := s.host.held ++ [HostReq.write0 addr v be] } } : State).emit .held := by
  unfold gateWrite; rw [h, if_neg (by decide), if_pos hm]

theorem answering_iff : s.answering = true ↔ s.linkUp = true ∧ s.host.mgmt = .running := by
  unfold answering; rw [Bool.and_eq_true, decide_eq_true_eq]

theorem gateWrite_window (h : s.answering = true) (hw : s.host.window = true) : s.gateWrite addr v be eff = s := by
  obtain ⟨h1, h2⟩ := (answering_iff s).1 h
  unfold gateWrite; rw [h1, if_neg (by decide), if_neg (by rw [h2]; decide), if_pos hw]

theorem gateWrite_malformed (h : s.answering = true) (hw : s.host.window = false) (hb : be ≠ 15 ∨ addr % 4 ≠ 0) :
    s.gateWrite addr v be eff = s.touch.countMalformed := by
  obtain ⟨h1, h2⟩ := (answering_iff s).1 h
  unfold gateWrite
  rw [h1, if_neg (by decide), if_neg (by rw [h2]; decide), if_neg (by rw [hw]; decide)]
  simp only; rw [if_pos (by simpa using hb)]

theorem touch_pageAt : s.touch.pageAt addr = s.pageAt addr := by
  unfold pageAt; rw [touch_start]

theorem gateWrite_unmapped (h : s.answering = true) (hw : s.host.window = false) (ha : addr % 4 = 0) (hp : s.pageAt addr = none) :
    s.gateWrite addr v 15 eff = s.touch.countUnmapped := by
  obtain ⟨h1, h2⟩ := (answering_iff s).1 h
  unfold gateWrite
  rw [h1, if_neg (by decide), if_neg (by rw [h2]; decide), if_neg (by rw [hw]; decide)]
  simp only; rw [if_neg (by simp [ha]), touch_pageAt, hp]

theorem gateWrite_denied (p : Page) (h : s.answering = true) (hw : s.host.window = false) (ha : addr % 4 = 0)
    (hp : s.pageAt addr = some p) (hm : mayWrite s.role p (addr % 0x1000) = false) :
    s.gateWrite addr v 15 eff = s.touch.deny false true addr := by
  obtain ⟨h1, h2⟩ := (answering_iff s).1 h
  unfold gateWrite
  rw [h1, if_neg (by decide), if_neg (by rw [h2]; decide), if_neg (by rw [hw]; decide)]
  simp only; rw [if_neg (by simp [ha]), touch_pageAt, hp]
  simp only; rw [touch_role, hm]; rfl

theorem silent_linkUp : s.silent.linkUp = s.linkUp := id (Eq.refl _)
theorem silent_answering : s.silent.answering = s.answering := id (Eq.refl _)
theorem silent_host : s.silent.host = s.host := id (Eq.refl _)
theorem silent_pageAt : s.silent.pageAt addr = s.pageAt addr := id (Eq.refl _)
theorem silent_role : s.silent.role = s.role := by unfold role; rw [silent_rd]

theorem write0_gate : s.write0 addr v be = s.gateWrite addr v be
    (fun s => match Page.ofAddr addr with | some p => effReg p (addr % 0x1000) v s | none => s) := Eq.refl _

/-- A whole write to a register of a page runs the register's effect behind the gate. -/
theorem write0_eq (p : Page) (off : Nat) (h : off < 0x1000) :
    s.write0 (p.base + off) v 15 = s.gateReg p off v (effReg p off v) := by
  unfold write0 gateReg
  rw [Page.ofAddr_base p off h, Page.base_mod p off h]

theorem exec_registerWrite (p : Page) (off : Nat) (h : off < 0x1000) :
    Machine.exec (.registerWrite (p.base + off) v 15) s = s.done (fun s => s.gateReg p off v (effReg p off v)) := by
  show Sys2Proof.Machine.execRegisterWrite _ _ _ _ = _
  unfold execRegisterWrite
  congr 1; funext s; exact s.write0_eq v p off h

/-- A register that counts up to the largest value of a field. -/
theorem sat_word_same (p : Page) (f : Fld) (n : Nat) :
    (s.sat p f n).word p f.off = f.put (s.word p f.off) (min (s.rd p f + n) (2 ^ f.w - 1)) := by
  unfold sat; rw [word_wr_same]; rfl

end Sys2Proof.Machine.State
end

