-- ==== Sys2Proof/WellFormed.lean ====
section
/-! DEFINITION. Well-formed commands: the operands that the environment can supply. A command that fails a check spells
nothing the interfaces can carry; its meaning is total all the same. -/
namespace Sys2Proof

/-- An in-band message is 64 bytes (R131). -/
def imcOk (msg : List Byte) : Bool := msg.length == 64

/-- A received frame shows eight SNR values and equalizers, offsets that the loops accept (R107, R108), and staircase blocks in order (R111, R155). -/
def rxFrameOk (f : RxFrame) : Bool :=
  f.snr.length == 8 && f.eq.length == 8 && f.eq.all (fun l => l.length == 248) && decide (f.first ≤ f.last) && decide (f.freq.natAbs ≤ 32767) && decide (f.clock.natAbs ≤ 20000)
    && decide (f.power.natAbs ≤ 32767)

/-- A codeword's soft values: 35,360, each -15 to +15 (R110, R149). -/
def cwInOk (x : CwIn) : Bool := x.soft.length == 35360 && x.soft.all (fun v => decide (v.natAbs ≤ 15))

/-- A block between two pilots: 15, 31 or 63 data symbols (R109). -/
def phaseBlockOk (b : PhaseBlock) : Bool := b.ys.length == 15 || b.ys.length == 31 || b.ys.length == 63

/-- The code's verdict names the ten devices of a sub-channel, at most 8 symbols each (R272). -/
def burstOk (e : BurstErr) : Bool := e.perDevice.length == 10 && e.perDevice.all fun n => decide (n ≤ 8)

/-- The operands of a command lie in the ranges its row gives them. -/
def Instr.wf (i : Instr) : Bool :=
  match i with
  | .bar0Read addr n => decide (addr < 0x8000000) && decide (1 ≤ n)
  | .bar2Read addr n => decide (addr < 0x100000) && decide (1 ≤ n)
  | .bar4Write off _ => decide (off < 0x4000)
  | .registerWrite addr _ _ => decide (addr < 0x8000000)
  | .configRequest (.read off) => decide (off < 0x1000) && off % 4 == 0
  | .eqCaptureDone _ ws => ws.length == 248
  | .phaseBlockResolved _ _ b => phaseBlockOk b
  | .rxFrameBoundary _ f => rxFrameOk f
  | .shedWindowEnd _ snr => snr.length == 8
  | .proposeReceived _ m | .announceReceived _ m | .rejectReceived _ m | .shedReceived _ m
  | .resyncReceived _ m => imcOk m
  | .codewordDecode _ x => cwInOk x
  | .lineCellReceived _ c => c.body.length == 256
  | .patrolRead _ _ e | .ddrReadReturn _ _ e | .migCopyBurst e => burstOk e
  | .startStepDone f => f.train.length == 17 && f.device.length == 17 && f.margin.length == 17 && f.train.all (· ≤ 2)
  | .sensorWindow rs => rs.length == 96
  | _ => true

end Sys2Proof
end

