-- ==== Sys2Proof/Laws/View.lean ====
section
/-! SUPPORT. What registers show does not follow what was sent out: one lemma for each view. -/
namespace Sys2Proof.Machine.State

open Sys2Proof Reg

variable (s : State) (off : Nat)

theorem silent_viewHost (p : Page) : s.silent.viewHost p off = s.viewHost p off := by unfold viewHost; rfl
theorem silent_viewCad : s.silent.viewCad off = s.viewCad off := by unfold viewCad; rfl
theorem silent_viewTime (p : Page) : s.silent.viewTime p off = s.viewTime p off := by unfold viewTime; rfl
theorem silent_viewTsn : s.silent.viewTsn off = s.viewTsn off := by unfold viewTsn; rfl
theorem silent_viewMirror (p : Page) : s.silent.viewMirror p off = s.viewMirror p off := by unfold viewMirror; rfl
theorem silent_viewSch : s.silent.viewSch off = s.viewSch off := by unfold viewSch; rfl
theorem silent_ddrOn : s.silent.ddrOn = s.ddrOn := by unfold ddrOn; rw [silent_bit]
theorem silent_viewStp : s.silent.viewStp off = s.viewStp off := by
  have h : s.silent.mem = s.mem := id rfl
  unfold viewStp; simp only [silent_ddrOn, silent_word, h]
theorem silent_chan (c : Fin 17) : s.silent.chan c = s.chan c := by unfold chan; rfl

theorem silent_rollSecond (c : Fin 17) : s.silent.rollSecond c = (s.rollSecond c).silent := by
  have h2 : s.silent.time = s.time := id rfl
  unfold rollSecond
  simp only [silent_chan, h2]
  by_cases h : (s.chan c).second = s.time.toNat / 1000000000
  · rw [if_pos h, if_pos h]
  · rw [if_neg h, if_neg h]; unfold setChan silent; rfl

theorem silent_viewMch (c : Fin 17) : s.silent.viewMch c off = s.viewMch c off := by
  unfold viewMch; simp only [silent_rollSecond, silent_chan, silent_word]
theorem silent_viewHsc (d : Fin 2) : s.silent.viewHsc d off = s.viewHsc d off := by unfold viewHsc; rfl
theorem silent_viewHlg (d : Fin 2) (g : Fin 4) : s.silent.viewHlg d g off = s.viewHlg d g off := by unfold viewHlg; rfl
theorem silent_viewTxo (k : Fin 16) : s.silent.viewTxo k off = s.viewTxo k off := by unfold viewTxo; rfl
theorem silent_viewRxe (k : Fin 16) : s.silent.viewRxe k off = s.viewRxe k off := by unfold viewRxe; rfl
theorem silent_viewLfe (k : Fin 16) : s.silent.viewLfe k off = s.viewLfe k off := by unfold viewLfe; rfl
theorem silent_viewFcr (k : Fin 16) : s.silent.viewFcr k off = s.viewFcr k off := by unfold viewFcr; rfl
theorem silent_rdiSrc (k : Fin 16) : s.silent.rdiSrc k = s.rdiSrc k := by unfold rdiSrc; rfl
theorem silent_secSummary (n : Nat) : s.silent.secSummary n = s.secSummary n := by unfold secSummary; rfl

/-- The value that a register shows does not follow what was sent out. -/
theorem silent_live (p : Page) : s.silent.live p off = s.live p off := by
  unfold live
  rw [silent_secSummary, silent_word, silent_viewHost, silent_viewCad, silent_viewTime, silent_viewTsn, silent_viewMirror, silent_viewSch,
    silent_viewStp]
  cases p <;> simp only [silent_viewMch, silent_viewHsc, silent_viewHlg, silent_viewTxo, silent_viewRxe, silent_viewLfe, silent_viewFcr, silent_rdiSrc]

end Sys2Proof.Machine.State
end

