-- ==== Sys2Proof/Tests/Slice0.lean ====
section
/-! SUPPORT. Tests of the model: ill-formed commands that the checks refuse, and small single steps. -/
namespace Sys2Proof.Tests

theorem test_imc_length : (Instr.proposeReceived 0 []).wf = false := by decide

end Sys2Proof.Tests
end

section
/-! PROOFS. The effect that a host write has at its register (R6, R7, R30): which effect effReg gives to the registers that the named
commands write and to the stored words. Settles O8 and O11. -/
namespace Sys2Proof.Machine.State

open Sys2Proof Reg

variable (s : State) (v : Word)

/-! ## Named writes -/

theorem effReg_tim {off : Nat} (h : 0x020 ≤ off) : effReg .tim off v s = effMgmt .tim off v s := by
  unfold effReg
  split
  case h_6 => exact if_neg (by omega)
  all_goals omega

theorem effReg_ftl {off : Nat} (h : 0x020 ≤ off) : effReg .ftl off v s = effMirrored .ftl off v s := by
  unfold effReg
  split
  case h_6 => exact if_neg (by omega)
  all_goals omega

/-- A write to DOMn selects the source of clock domain n (R336). -/
theorem effReg_domain (n : Fin 40) : effReg .tim (0x030 + 4 * n.val) v = effDom n.val v := by
  funext s
  have hn := n.isLt
  rw [effReg_tim s v (by omega)]
  unfold effMgmt
  split <;> simp_all
  · omega
  · intro h; omega

/-- A write to CHn is a write of a mirrored setting (R347, R386). -/
theorem effReg_channel (ch : Fin 32) : effReg .ftl (chOff ch.val) v = effMirror .ftl (chOff ch.val) v := by
  funext s
  have hch := ch.isLt
  unfold chOff
  rw [effReg_ftl s v (by omega)]
  unfold effMirrored
  split <;> simp_all <;> omega

theorem hostWrite_eventW1c (p : Page) (bits same : Word) :
    s.hostWrite (.eventW1c p bits same) = if same = 0 then some (p, 0x00C, bits) else none := rfl

/-- A command that is a write to a register runs the effect of its register behind the gate of a host write. -/
theorem exec_of_hostWrite {c : Instr} {s : State} {p : Page} {off : Nat} {v : Word} (h : s.hostWrite c = some (p, off, v)) :
    off < 0x1000 ∧ Machine.exec c s = s.done (fun s => s.gateReg p off v (effReg p off v)) := by
  cases c
  case eventW1c q bits same =>
    rw [hostWrite_eventW1c] at h
    split at h
    next hs => subst hs; cases h; exact ⟨by decide, rfl⟩
    next => cases h
  case domainSrcSelect n w =>
    cases h
    exact ⟨by omega, by rw [effReg_domain]; rfl⟩
  case clrMinmax ch =>
    cases h
    exact ⟨by unfold chOff; omega, by rw [effReg_channel]; rfl⟩
  case tiltWrite k hi w => cases h; cases hi <;> exact ⟨by decide, rfl⟩
  case hwmClear ingress => cases h; cases ingress <;> exact ⟨by decide, rfl⟩
  case rxCtrlWrite k r w => cases h; cases r <;> exact ⟨by decide, rfl⟩
  case loopbackWrite d t w => cases t <;> cases h <;> exact ⟨by decide, rfl⟩
  case prbsWrite d t w => cases t <;> cases h <;> exact ⟨by decide, rfl⟩
  -- the other commands are no writes, or name their register and its effect outright
  all_goals cases h
  all_goals exact ⟨by decide, rfl⟩

/-! ## Stored words -/

/-- The stored words lie at whole dwords of their pages. -/
theorem plainRegs_offset {t : PageType} {off : Nat} (h : (t, off) ∈ plainRegs) : off < 0x1000 ∧ off % 4 = 0 :=
  (by decide : ∀ e ∈ plainRegs, e.2 < 0x1000 ∧ e.2 % 4 = 0) _ h

/-- A write to a stored word has the effect of its access code alone (R6, R7). -/
theorem effReg_plain {p : Page} {off : Nat} (h : (p.type, off) ∈ plainRegs) : effReg p off v s = s.plainWrite p off v := by
  cases p <;> simp [Page.type, plainRegs] at h
  -- what is left are the page types that have stored words, with the offsets of these
  all_goals rcases h with rfl | rfl | rfl | rfl | rfl | rfl <;> rfl

theorem plainWrite_of_row {p : Page} {off : Nat} {r : RegRow} (h : regRow p.type off = some r) :
    s.plainWrite p off v = s.setWord p off (((s.word p off &&& ~~~(BitVec.ofNat 32 r.rw)) ||| (v &&& BitVec.ofNat 32 r.rw))
      &&& ~~~(v &&& BitVec.ofNat 32 r.w1c)) := by
  unfold plainWrite; rw [h]

/-- A write of one register by an accepted write: the frame from the state with the inactivity timer restarted. -/
theorem Frame.setWord_silent {p : Page} {off : Nat} {w : Word} {ps : List StatePart} (h : off < 0x1000) :
    Frame s (s.silent.setWord p off w) [(p, off)] ps :=
  Frame.silent.setWord h (List.mem_singleton_self _)

end Sys2Proof.Machine.State

namespace Sys2Proof.Machine

/-- Settles O8: both sides run the effect of the register behind the same gate. -/
theorem namedWritesAreRegisterWrites : Obligations.namedWritesAreRegisterWrites := by
  intro c s p off v h
  obtain ⟨hoff, hc⟩ := State.exec_of_hostWrite h
  rw [hc, State.exec_registerWrite s v p off hoff]

/-- Settles O11: an accepted write to a stored word is the write of its access code. -/
theorem plainRegisterWrite : Obligations.plainRegisterWrite := by
  intro s p off v r hplain hrow hacc
  obtain ⟨hoff, h4⟩ := State.plainRegs_offset hplain
  refine answers_write _ (State.exec_registerWrite s v p off hoff) hoff h4 hacc ?_
  rw [State.effReg_plain _ v hplain, State.plainWrite_of_row _ v hrow, State.silent_word, State.touch_word]
  exact ⟨State.word_setWord_same _ _ _ _, State.setWord_out _ _ _ _, State.Frame.setWord_silent _ hoff⟩

end Sys2Proof.Machine
end

section
/-! PROOFS. A read of one dword of BAR0, and the SNAP pairs (R8, R31, R335). Settles O13. -/
namespace Sys2Proof.Machine.State

open Sys2Proof Reg

variable (s : State)

/-! ## One dword -/

theorem request_answering (r : HostReq) (f : State → State) (h : s.answering = true) : s.request r f = f s := by
  obtain ⟨hl, hm⟩ := (answering_iff s).1 h
  unfold request
  rw [hl, if_neg (by decide), if_neg (by rw [hm]; decide)]

theorem readDword_served {addr : Nat} {p : Page} (hp : s.pageAt addr = some p) (hr : mayRead s.role p = true) :
    s.readDword addr = s.readReg p (addr % 0x1000) := by
  unfold readDword
  simp only [hp, hr, if_true]

/-- A read of one dword completes with the value that the register gives (R31). -/
theorem read0_one {addr : Nat} {p : Page} (hw : s.host.window = false) (h4 : addr % 4 = 0) (hp : s.pageAt addr = some p)
    (hr : mayRead s.role p = true) :
    s.read0 addr 1 = (s.readReg p (addr % 0x1000)).2.emit (.completion [(s.readReg p (addr % 0x1000)).1]) := by
  have haddr : addr / 4 * 4 = addr := by omega
  unfold read0
  rw [hw, if_neg (by decide), if_neg (by decide), haddr]
  simp only [readDwords, readDword_served s hp hr]

/-! ## SNAP pairs -/

variable {p : Page} {off : Nat}

theorem snapLow_offset {t : PageType} (h : snapLow t off = true) : off < 0x044 ∧ off % 4 = 0 ∧ snapLow t (off + 4) = false := by
  cases t <;> simp [snapLow] at h ⊢ <;> omega

/-- No register of a SNAP pair stands in a mirror store. -/
theorem mirrorWord_of_snapLow (h : snapLow p.type off = true) (i : Nat) : mirrorWord p i = false := by
  cases p
  case fpw | frl | fbr => cases h
  all_goals rfl

theorem readReg_snapLow (h : snapLow p.type off = true) : s.readReg p off = (s.live p off, s.capture p (off + 4)) := by
  unfold readReg
  rw [mirrorWord_of_snapLow h, h]
  rfl

theorem readReg_snapHigh (h : snapLow p.type off = true) : s.readReg p (off + 4) = (s.hold p (off + 4), s) := by
  obtain ⟨-, -, hnext⟩ := snapLow_offset h
  unfold readReg
  rw [mirrorWord_of_snapLow h, hnext, Nat.add_sub_cancel, h]
  simp

/-- The address of a SNAP pair is that of a low register of its page. -/
theorem snapLow_of_snapAddr {x : SnapPair} (h : snapAddr x = p.base + off) (hoff : off < 0x1000) : snapLow p.type off = true := by
  cases x <;> obtain ⟨rfl, rfl⟩ := Page.addr_inj _ p _ off (by decide) hoff h <;> rfl

theorem snapAddr_time (h : snapAddr .time = p.base + off) (hoff : off < 0x1000) : p = .tim ∧ off = 0x024 := by
  obtain ⟨hp, ho⟩ := Page.addr_inj .tim p 0x024 off (by decide) hoff h
  exact ⟨hp.symm, ho.symm⟩

theorem live_timeLo : s.live .tim 0x024 = s.time.extractLsb' 0 32 := rfl
theorem live_timeHi : s.live .tim 0x028 = s.time.extractLsb' 32 32 := rfl

theorem capture_hold_same (i : Nat) : (s.capture p i).hold p i = s.live p i := by
  simp only [hold, capture, SMap.get_set_same]

theorem capture_hold_ne {q : Page} {i j : Nat} (hi : i < 0x1000) (hj : j < 0x1000) (h : (q, j) ≠ (p, i)) :
    (s.capture p i).hold q j = s.hold q j := by
  have hkey : q.base + j ≠ p.base + i := fun e => by
    obtain ⟨rfl, rfl⟩ := Page.addr_inj q p j i hj hi e
    exact h rfl
  simp only [hold, capture, SMap.get_set_ne _ _ _ _ _ hkey]

theorem Frame.capture {s u : State} {l : List (Page × Nat)} {ps : List StatePart} {i : Nat} (h : Frame s u l ps)
    (hm : StatePart.host ∈ ps) : Frame s (u.capture p i) l ps := h.with_host hm

end Sys2Proof.Machine.State

namespace Sys2Proof.Machine

/-- A command that reads one dword of a page that the role may read answers with the completion of its register's read. -/
theorem answers_read0_one {c : Instr} {s : State} {P : State → Prop} {p : Page} {off : Nat} (hoff : off < 0x1000) (h4 : off % 4 = 0)
    (hc : exec c s = s.done fun s => s.request (.read0 (p.base + off) 1) (State.read0 (p.base + off) 1))
    (ha : s.answering = true) (hw : s.host.window = false) (hp : s.pageAt (p.base + off) = some p) (hr : State.mayRead s.role p = true)
    (hP : P ((s.silent.readReg p off).2.emit (.completion [(s.silent.readReg p off).1]))) : Answers c s P := by
  refine answers_done _ hc ?_
  have hr' : State.mayRead s.silent.role p = true := by rw [State.silent_role]; exact hr
  have h4' : (p.base + off) % 4 = 0 := by rw [Page.base_mod4]; exact h4
  rw [State.request_answering s.silent _ _ ha, State.read0_one s.silent hw h4' hp hr', Page.base_mod p off hoff]
  exact hP

/-- Settles O13: a read of the low register captures the high one, a read of the high register shows the hold register. -/
theorem snapPairs : Obligations.snapPairs := by
  intro s x p off hx hoff ha hw hp hr
  have hlow := State.snapLow_of_snapAddr hx hoff
  obtain ⟨hlt, h4, -⟩ := State.snapLow_offset hlow
  have hhigh : s.pageAt (p.base + (off + 4)) = some p := by
    rw [State.pageAt_base s p _ (by omega), ← State.pageAt_base s p off hoff]; exact hp
  constructor
  · refine answers_read0_one hoff h4 (by rw [← hx]; rfl) ha hw hp hr ?_
    rw [State.readReg_snapLow _ hlow]
    have hlive : ∀ i, s.silent.live p i = s.live p i := fun i => State.silent_live s i p
    refine ⟨by rw [hlive]; rfl, (State.capture_hold_same s.silent _).trans (hlive _),
      fun q j hne hj => State.capture_hold_ne s.silent (by omega) hj hne, ?_, rfl, (State.Frame.silent.capture (.head _)).emit⟩
    rintro rfl
    obtain ⟨rfl, rfl⟩ := State.snapAddr_time hx hoff
    exact ⟨congrArg (fun w => [Output.completion [w]]) (State.live_timeLo s.silent),
      (State.capture_hold_same s.silent 0x028).trans (State.live_timeHi s.silent)⟩
  · refine answers_read0_one (p := p) (off := off + 4) (by omega) (by omega) rfl ha hw hhigh hr ?_
    rw [State.readReg_snapHigh _ hlow]
    exact ⟨rfl, State.Frame.silent.emit⟩

end Sys2Proof.Machine
end

section
/-! PROOFS. The header registers EVENT, EVENT_ENABLE, EVENT_FORCE and FLIP_MASK, and SECTION_MASK (R41, R62-R64). Settles O15. -/
namespace Sys2Proof.Machine.State

open Sys2Proof Reg

/-! ## Resends -/

/-- A vector's message is sent again where a condition holds (R62, R63). -/
def resendIf (s : State) (c : Bool) (n : Nat) : State := if c then s.resend n else s

section
variable (s : State) (c : Bool) (n : Nat)

@[simp] theorem resendIf_word (q : Page) (i : Nat) : (s.resendIf c n).word q i = s.word q i := by
  cases c
  · rfl
  · exact resend_word s n q i

@[simp] theorem resendIf_out : (s.resendIf c n).out = s.out := by
  cases c
  · rfl
  · exact resend_out s n

@[simp] theorem resendIf_asks : (s.resendIf c n).asks = s.asks := by cases c <;> rfl

theorem resendIf_pba : (s.resendIf c n).host.pba = if c then s.host.pba ||| BitVec.ofNat 32 (2 ^ n) else s.host.pba := by
  cases c <;> rfl

/-- A resend sets the pending bit of its vector, where its condition holds, and no other. -/
theorem resendIf_pbaBit (f : Nat → Bool) (hn : n < 32) (m : Nat) :
    (s.resendIf (f n) n).host.pba.getLsbD m = (s.host.pba.getLsbD m || (decide (m = n) && f m)) := by
  rw [resendIf_pba]
  by_cases hm : m = n
  · subst hm
    cases f m <;> simp [hn, BitVec.getLsbD_ofNat, -BitVec.ofNat_pow]
  · have hbit : (BitVec.ofNat 32 (2 ^ n)).getLsbD m = false := by
      rw [BitVec.getLsbD_ofNat, Nat.testBit_two_pow_of_ne (Ne.symm hm), Bool.and_false]
    cases f n <;> simp [hm, hbit, BitVec.getLsbD_or, -BitVec.ofNat_pow]

/-- Resends change nothing of the host interface but the pending bits. -/
theorem resendIf_host {h : HostIf} (hs : s.host = { h with pba := s.host.pba }) :
    (s.resendIf c n).host = { h with pba := (s.resendIf c n).host.pba } := by
  cases c
  · exact hs
  · show ({ s.host with pba := _ } : HostIf) = _
    rw [hs]; rfl

theorem Frame.resendIf {u : State} {l : List (Page × Nat)} {ps : List StatePart} (h : Frame s u l ps) (hm : StatePart.host ∈ ps) :
    Frame s (u.resendIf c n) l ps := by
  cases c
  · exact h
  · exact h.resend hm

end

/-! ## Effects -/

theorem touch_host (s : State) : s.touch.host = s.host := by
  rcases touch_eq s with h | h <;> rw [h]

theorem touch_asks (s : State) : s.touch.asks = s.asks := by
  rcases touch_eq s with h | h <;> rw [h]
  rfl

theorem silent_asks (s : State) : s.silent.asks = s.asks := id (Eq.refl _)

/-- The vector of a page's section (R14, R62). -/
def vector (p : Page) : Nat := if p.sec < 8 then p.sec else p.sec - 8

theorem vector_lt (p : Page) : vector p < 32 := by
  have hsec : p.sec < 0x20 := by cases p <;> simp only [Page.sec] <;> omega
  unfold vector
  split <;> omega

section
variable (p : Page) (v same : Word) (s : State)

/-- EVENT once the bits written as 1 have cleared, but for those whose event occurs in the same cycle (R64). -/
def clearedEvent : Word := (s.word p 0x00C &&& ~~~v) ||| (same &&& v &&& BitVec.ofNat 32 p.type.eventBits)

/-- The events of a page are cleared, nothing is sent again yet. -/
def clearEvent : State := s.setWord p 0x00C (clearedEvent p v same s)

theorem effEvent_eq : effEvent p v same s =
    ((clearEvent p v same s).resendIf (s.asks.getLsbD (vector p) && (clearEvent p v same s).asks.getLsbD (vector p)) (vector p)).resendIf
      (decide (p = .dev) && s.asks.getLsbD 24 && (clearEvent p v same s).asks.getLsbD 24) 24 := rfl

theorem effEvent_asks : (effEvent p v same s).asks = (clearEvent p v same s).asks := by
  rw [effEvent_eq, resendIf_asks, resendIf_asks]

theorem effEvent_word : (effEvent p v same s).word p 0x00C = clearedEvent p v same s := by
  rw [effEvent_eq, resendIf_word, resendIf_word]
  exact word_setWord_same s p _ _

theorem effEvent_out : (effEvent p v same s).out = s.out := by
  rw [effEvent_eq, resendIf_out, resendIf_out]
  exact setWord_out s p _ _

/-- A write to EVENT sends again the vector of its section, and on DEV vector 24, where they go on asking (R62, R63). -/
theorem effEvent_pbaBit (n : Nat) :
    (effEvent p v same s).host.pba.getLsbD n =
      (s.host.pba.getLsbD n || (decide (n = vector p) && s.asks.getLsbD n && (effEvent p v same s).asks.getLsbD n)
        || (decide (p = .dev) && decide (n = 24) && s.asks.getLsbD n && (effEvent p v same s).asks.getLsbD n)) := by
  have hsection := resendIf_pbaBit (clearEvent p v same s) (vector p)
    (fun i => s.asks.getLsbD i && (clearEvent p v same s).asks.getLsbD i) (vector_lt p) n
  have hcritical := fun t => resendIf_pbaBit t 24
    (fun i => decide (p = .dev) && s.asks.getLsbD i && (clearEvent p v same s).asks.getLsbD i) (by decide) n
  have hpba : (clearEvent p v same s).host.pba = s.host.pba := congrArg HostIf.pba (setWord_host s p _ _)
  rw [effEvent_asks, effEvent_eq, hcritical, hsection, hpba]
  ac_rfl

theorem effEvent_host : (effEvent p v same s).host = { s.host with pba := (effEvent p v same s).host.pba } := by
  rw [effEvent_eq]
  exact resendIf_host _ _ _ (resendIf_host _ _ _ (setWord_host s p _ _))

theorem Frame.effEvent {u : State} {l : List (Page × Nat)} {ps : List StatePart} (h : Frame s u l ps) (hm : (p, 0x00C) ∈ l)
    (hh : StatePart.host ∈ ps) : Frame s (effEvent p v same u) l ps :=
  ((h.setWord (by decide) hm).resendIf _ _ _ hh).resendIf _ _ _ hh

/-- The enabled critical events that a write to EVENT_ENABLE newly shows (R63). -/
def newlyCritical : Word := s.word p 0x00C &&& (v &&& BitVec.ofNat 32 p.type.eventBits) &&& ~~~(s.word p 0x010) &&& critBits

theorem effEventEnable_eq : effEventEnable p v s =
    (s.setWord p 0x010 (v &&& BitVec.ofNat 32 p.type.eventBits)).resendIf (decide (p = .dev) && newlyCritical p v s != 0) 24 := by
  have hevent : (s.setWord p 0x010 (v &&& BitVec.ofNat 32 p.type.eventBits)).word p 0x00C = s.word p 0x00C :=
    word_setWord_ne s p p _ _ _ (by decide) (by decide) (.inr (by decide))
  unfold newlyCritical
  rw [← hevent]
  rfl

theorem flipRefused_iff : flipRefused p v = true ↔
    71 < HDR.FLIP_MASK.BIT_A.get v ∨ 71 < HDR.FLIP_MASK.BIT_B.get v ∨ p.type.flipTargets ≤ HDR.FLIP_MASK.TARGET.get v
      ∨ (p.type = .mch ∧ HDR.FLIP_MASK.TARGET.get v = 2 ∧ 19 < HDR.FLIP_MASK.BIT_A.get v) := by
  simp [flipRefused, or_assoc, and_assoc]

theorem effFlip_refused (h : flipRefused p v = true) : effFlip p v s = s := if_pos h

theorem effFlip_taken (h : ¬flipRefused p v = true) : effFlip p v s = s.setWord p 0x018 (v &&& 0xFFFFFF00) := if_neg h

end

end Sys2Proof.Machine.State

namespace Sys2Proof.Machine

open Sys2Proof Reg

section
variable (s : State) (p : Page) (v : Word)

/-- R62-R64: a write to EVENT, met or not by an event of the same cycle. -/
theorem answers_eventW1c (same : Word) (h : s.accepts p 0x00C = true) : Answers (.eventW1c p v same) s fun u =>
    u.word p 0x00C = State.clearedEvent p v same s
    ∧ (∀ n, u.host.pba.getLsbD n = (s.host.pba.getLsbD n || (decide (n = State.vector p) && s.asks.getLsbD n && u.asks.getLsbD n)
        || (decide (p = .dev) && decide (n = 24) && s.asks.getLsbD n && u.asks.getLsbD n)))
    ∧ u.host = { s.host with pba := u.host.pba } ∧ u.out = [] ∧ s.touch.Frame u [(p, 0x00C)] [.host] := by
  refine answers_write (State.effEvent p v same) rfl (by decide) (by decide) h ?_
  have hasks : s.touch.silent.asks = s.asks := (State.silent_asks _).trans (State.touch_asks s)
  have hhost : s.touch.silent.host = s.host := (State.silent_host _).trans (State.touch_host s)
  refine ⟨?_, fun n => ?_, ?_, State.effEvent_out p v same _, State.Frame.silent.effEvent _ _ _ _ (.head _) (.head _)⟩
  · rw [State.effEvent_word]
    unfold State.clearedEvent
    rw [State.silent_word, State.touch_word]
  · rw [State.effEvent_pbaBit, hasks, hhost]
  · rw [← hhost]
    exact State.effEvent_host p v same _

/-- R63: a write to EVENT_ENABLE. -/
theorem answers_eventEnableWrite (h : s.accepts p 0x010 = true) : Answers (.eventEnableWrite p v) s fun u =>
    u.word p 0x010 = v &&& BitVec.ofNat 32 p.type.eventBits
    ∧ u.host.pba = (if p = .dev ∧ State.newlyCritical p v s ≠ 0 then s.host.pba ||| BitVec.ofNat 32 (2 ^ 24) else s.host.pba)
    ∧ u.host = { s.host with pba := u.host.pba } ∧ u.out = [] ∧ s.touch.Frame u [(p, 0x010)] [.host] := by
  refine answers_write (State.effEventEnable p v) rfl (by decide) (by decide) h ?_
  have hhost : s.touch.silent.host = s.host := (State.silent_host _).trans (State.touch_host s)
  have hnew : State.newlyCritical p v s.touch.silent = State.newlyCritical p v s := by
    unfold State.newlyCritical
    simp only [State.silent_word, State.touch_word]
  rw [State.effEventEnable_eq, hnew]
  refine ⟨by rw [State.resendIf_word, State.word_setWord_same], ?_, ?_, by rw [State.resendIf_out, State.setWord_out, State.silent_out],
    (State.Frame.setWord_silent _ (by decide)).resendIf _ _ _ (.head _)⟩
  · rw [State.resendIf_pba, State.setWord_host, hhost]
    simp
  · exact State.resendIf_host _ _ _ (by rw [State.setWord_host, hhost])

/-- R64: a write to EVENT_FORCE. -/
theorem answers_eventForce (h : s.accepts p 0x014 = true) : Answers (.eventForce p v) s fun u =>
    u.word p 0x00C = s.word p 0x00C ||| (v &&& BitVec.ofNat 32 p.type.eventBits) ∧ u.out = [] ∧ s.touch.Frame u [(p, 0x00C)] [] := by
  refine answers_write (State.effEventForce p v) rfl (by decide) (by decide) h
    ⟨?_, State.setWord_out _ _ _ _, State.Frame.setWord_silent _ (by decide)⟩
  unfold State.effEventForce
  rw [State.word_setWord_same, State.silent_word, State.touch_word]

/-- R60, R62: a write to SECTION_MASK. -/
theorem answers_sectionMaskWrite (h : s.accepts .dev 0x044 = true) : Answers (.sectionMaskWrite v) s fun u =>
    u.word .dev 0x044 = v &&& 0x00FFFFFF ∧ u.out = [] ∧ s.touch.Frame u [(.dev, 0x044)] [] :=
  answers_write (State.effSectionMask v) rfl (by decide) (by decide) h
    ⟨State.word_setWord_same _ _ _ _, State.setWord_out _ _ _ _, State.Frame.setWord_silent _ (by decide)⟩

/-- R41: a write to FLIP_MASK is refused whole or taken whole. -/
theorem answers_flipMaskWrite (h : s.accepts p 0x018 = true) : Answers (.flipMaskWrite p v) s fun u =>
    u.out = [] ∧ s.touch.Frame u [(p, 0x018)] []
    ∧ (State.flipRefused p v = true → u.word p 0x018 = s.word p 0x018)
    ∧ (¬State.flipRefused p v = true → u.word p 0x018 = v &&& 0xFFFFFF00) := by
  refine answers_write (State.effFlip p v) rfl (by decide) (by decide) h ?_
  by_cases hr : State.flipRefused p v = true
  · rw [State.effFlip_refused _ _ _ hr]
    exact ⟨rfl, .silent, fun _ => by rw [State.silent_word, State.touch_word], fun hn => absurd hr hn⟩
  · rw [State.effFlip_taken _ _ _ hr]
    exact ⟨State.setWord_out _ _ _ _, State.Frame.setWord_silent _ (by decide), fun hy => absurd hy hr,
      fun _ => State.word_setWord_same _ _ _ _⟩

end

/-- Settles O15: one lemma for each of the five registers; FLIP_MASK by what refuses its value. -/
theorem eventRegisters : Obligations.eventRegisters := by
  refine ⟨fun s p v same => ⟨answers_eventW1c s p v same, answers_eventEnableWrite s p v, answers_eventForce s p v,
    answers_sectionMaskWrite s v⟩, fun s p v h => ?_⟩
  obtain ⟨u, hexec, hout, hframe, hrefused, htaken⟩ := answers_flipMaskWrite s p v h
  rw [State.flipRefused_iff] at hrefused htaken
  refine ⟨u, hexec, hout, hframe, fun hbad => hrefused ?_, fun ha hb ht hp => htaken ?_, fun hb ht hp ha => htaken ?_⟩
  · tauto
  · rintro (h1 | h1 | h1 | ⟨h1, -⟩)
    · omega
    · omega
    · omega
    · exact hp h1
  · split at ha <;> omega

end Sys2Proof.Machine
end

section
/-! PROOFS. The level of service and the lines that follow every command (R26, R57, R60, R62, R63, R456): what DEV.STATUS, ALARM_CAUSE,
INT_N and the pending bits show once a command is settled. Settles O6. -/
namespace Sys2Proof

/-- A write that no test looks at leaves what the listed pairs say together. -/
theorem SMap.any_set {α : Type} [DecidableEq α] (m : SMap α) (d : Nat → α) (k : Nat) (v : α) (f : Nat × α → Bool)
    (hf : ∀ w, f (k, w) = false) : (SMap.set m d k v).any f = m.any f := by
  have herase : (SMap.erase m k).any f = m.any f := by
    induction m with
    | nil => rfl
    | cons e r ih =>
      obtain ⟨a, w⟩ := e
      by_cases ha : a = k
      · subst ha; simp [SMap.erase, ih, hf]
      · simp [SMap.erase, ha, ih]
  have hinsert : ∀ l : SMap α, (SMap.insert l k v).any f = l.any f := by
    intro l
    induction l with
    | nil => simp [SMap.insert, hf]
    | cons e r ih =>
      obtain ⟨a, w⟩ := e
      by_cases ha : k < a
      · simp [SMap.insert, ha, hf]
      · simp [SMap.insert, ha, ih]
  unfold SMap.set
  split
  · exact herase
  · rw [hinsert, herase]

namespace Machine.State

open Sys2Proof Reg

/-! ## What the level of service is read from -/

theorem anyDegraded_setWord (s : State) (p : Page) (i : Nat) (w : Word) (hi : i < 0x1000) (h8 : i ≠ 0x008) :
    (s.setWord p i w).anyDegraded = s.anyDegraded := by
  refine SMap.any_set _ _ _ _ _ fun v => ?_
  rw [Page.base_mod p i hi, beq_false_of_ne h8]
  rfl

theorem anyDegraded_armed (s : State) (p : Page) (t : Nat) : (s.armed p t).2.anyDegraded = s.anyDegraded := by
  rcases armed_eq s p t with e | e
  · rw [e]
  · rw [e]; exact anyDegraded_setWord s p _ _ (by decide) (by decide)

theorem anyDegraded_logStore (s : State) (k sec pg code arg : Nat) :
    (s.logStore k sec pg code arg).2.anyDegraded = s.anyDegraded := by
  unfold logStore
  simp only
  split
  · refine (anyDegraded_setWord _ _ _ _ (by decide) (by decide)).trans ?_
    exact (anyDegraded_setWord _ _ _ _ (by decide) (by decide)).trans (anyDegraded_armed _ _ _)
  · exact (anyDegraded_setWord _ _ _ _ (by decide) (by decide)).trans (anyDegraded_armed _ _ _)

theorem anyDegraded_logEvent (s : State) (b : Nat) : (s.logEvent b).anyDegraded = s.anyDegraded := by
  unfold logEvent
  simp only
  split
  · exact (anyDegraded_logStore _ _ _ _ _ _).trans (anyDegraded_setWord _ _ _ _ (by decide) (by decide))
  · exact anyDegraded_setWord _ _ _ _ (by decide) (by decide)

theorem anyDegraded_log (s : State) (k sec pg code arg : Nat) : (s.log k sec pg code arg).anyDegraded = s.anyDegraded := by
  rcases log_cases s k sec pg code arg with e | ⟨b, e⟩
  · rw [e, anyDegraded_logStore]
  · rw [e, anyDegraded_logEvent, anyDegraded_logStore]

theorem anyDegraded_raise (s : State) (p : Page) (b : Nat) : (s.raise p b).anyDegraded = s.anyDegraded := by
  unfold raise
  simp only
  split
  · exact (anyDegraded_log _ _ _ _ _ _).trans (anyDegraded_setWord _ _ _ _ (by decide) (by decide))
  · exact anyDegraded_setWord _ _ _ _ (by decide) (by decide)

theorem sendFrom_up (e : BEnd) (m : BMsg) : (sendFrom e m).up = e.up := by
  unfold sendFrom
  split
  · rfl
  · split <;> rfl

/-- The host interface but for what the end of a command sets of it: the pending bits and INT_N. -/
def hostRest (h : HostIf) : HostIf := { h with pba := 0, intN := false }

/-- Start control but for the attempt that runs. -/
def startRest (x : Start) : Start := { x with attempt := none }

/-- What the end of a command leaves alone of all that the level of service, the device state, ALARM_CAUSE and the messages are read
from. -/
structure ServiceKept (s t : State) : Prop where
  frame : s.Frame t [(.dev, 0x00C), (.dev, 0x034), (.dev, 0x050)] (.host :: .hubEnd :: .start :: eventParts)
  host : hostRest t.host = hostRest s.host
  up : t.hubEnd.up = s.hubEnd.up
  start : startRest t.start = startRest s.start
  attempt : t.start.attempt.isSome = s.start.attempt.isSome
  degraded : t.anyDegraded = s.anyDegraded

namespace ServiceKept

variable {s t v : State}

theorem refl : ServiceKept s s := ⟨.refl, rfl, rfl, rfl, rfl, rfl⟩

theorem trans (h : ServiceKept s t) (g : ServiceKept t v) : ServiceKept s v :=
  ⟨h.frame.trans g.frame, g.host.trans h.host, g.up.trans h.up, g.start.trans h.start, g.attempt.trans h.attempt,
    g.degraded.trans h.degraded⟩

/-- A register of DEV that shows the level, or its EVENT, is written. -/
theorem setWord {i : Nat} {w : Word} (hi : i = 0x00C ∨ i = 0x034 ∨ i = 0x050) : ServiceKept s (s.setWord .dev i w) := by
  have hlt : i < 0x1000 ∧ i ≠ 0x008 := by omega
  exact ⟨Frame.refl.setWord hlt.1 (by rcases hi with rfl | rfl | rfl <;> decide), by rw [setWord_host], by rw [setWord_hubEnd],
    by rw [setWord_start], by rw [setWord_start], anyDegraded_setWord s .dev i w hlt.1 hlt.2⟩

theorem status {f : Fld} {n : Nat} (hf : f.off = 0x034) : ServiceKept s (s.wr .dev f n) := setWord (.inr (.inl hf))

theorem log {k sec pg code arg : Nat} : ServiceKept s (s.log k sec pg code arg) :=
  ⟨Frame.refl.log (by decide) (by decide) (by decide), by rw [log_host], by rw [log_hubEnd], by rw [log_start], by rw [log_start],
    anyDegraded_log s k sec pg code arg⟩

theorem raise {b : Nat} : ServiceKept s (s.raise .dev b) :=
  ⟨Frame.refl.raise (by decide) (by decide) (by decide) (by decide), by rw [raise_host], by rw [raise_hubEnd], by rw [raise_start],
    by rw [raise_start], anyDegraded_raise s .dev b⟩

theorem toField {m : BMsg} : ServiceKept s (s.toField m) :=
  ⟨Frame.refl.toField (by decide), by rw [toField_host], sendFrom_up _ _, by rw [toField_start], by rw [toField_start], rfl⟩

/-! ## What is read of two such states -/

theorem rd (h : ServiceKept s t) (q : Page) (f : Fld) (hq : (q != .dev && q != .log && decide (f.off < 0x1000)) = true) :
    t.rd q f = s.rd q f := by
  simp only [Bool.and_eq_true, bne_iff_ne, decide_eq_true_eq] at hq
  obtain ⟨⟨hdev, hlog⟩, hoff⟩ := hq
  unfold State.rd
  rw [h.frame.reg q f.off hoff (.inl hlog) (by simp [hdev])]

theorem bit (h : ServiceKept s t) (q : Page) (f : Fld) (hq : (q != .dev && q != .log && decide (f.off < 0x1000)) = true) :
    t.bit q f = s.bit q f := by unfold State.bit; rw [h.rd q f hq]

theorem pins (h : ServiceKept s t) : t.pins = s.pins := h.frame.same .pins (by decide)
theorem field (h : ServiceKept s t) : t.field = s.field := h.frame.same .field (by decide)
theorem power (h : ServiceKept s t) : t.start.power = s.start.power := (congrArg Start.power h.start :)
theorem fieldUp (h : ServiceKept s t) : t.start.fieldUp = s.start.fieldUp := (congrArg Start.fieldUp h.start :)
theorem kettle (h : ServiceKept s t) : t.start.kettle = s.start.kettle := (congrArg Start.kettle h.start :)
theorem datapath (h : ServiceKept s t) : t.start.datapath = s.start.datapath := (congrArg Start.datapath h.start :)
theorem diesUp (h : ServiceKept s t) : t.start.diesUp = s.start.diesUp := (congrArg Start.diesUp h.start :)
theorem mgmt (h : ServiceKept s t) : t.host.mgmt = s.host.mgmt := (congrArg HostIf.mgmt h.host :)

theorem perst (h : ServiceKept s t) : t.host.perst = s.host.perst := (congrArg HostIf.perst h.host :)
theorem window (h : ServiceKept s t) : t.host.window = s.host.window := (congrArg HostIf.window h.host :)

theorem hubAlive (h : ServiceKept s t) : t.hubAlive = s.hubAlive := by
  unfold State.hubAlive inReset
  rw [h.power, h.pins]

theorem configured (h : ServiceKept s t) (k : Fin 16) : t.configured k = s.configured k := by
  unfold State.configured enabled
  rw [h.bit (.txo k) _ rfl, h.bit (.rxe k) _ rfl, h.bit (.lfe k) _ rfl, h.bit (.fcr k) _ rfl]

theorem working (h : ServiceKept s t) (k : Fin 16) : t.working k = s.working k := by
  unfold State.working pst
  rw [h.rd (.txo k) _ rfl, h.rd (.rxe k) _ rfl, h.rd (.lfe k) _ rfl, h.rd (.fcr k) _ rfl]

theorem hubWorks (h : ServiceKept s t) : t.hubWorks = s.hubWorks := by
  unfold State.hubWorks faulty pst
  rw [h.rd .qsc _ rfl, h.rd .sch _ rfl, h.rd .bsc _ rfl, h.rd .fct _ rfl, h.diesUp]

theorem faultyHsc (h : ServiceKept s t) (d : Fin 2) : t.faulty (.hsc d) = s.faulty (.hsc d) := by
  unfold faulty pst; rw [h.rd (.hsc d) _ rfl]

theorem faultyHlg (h : ServiceKept s t) (d : Fin 2) (g : Fin 4) : t.faulty (.hlg d g) = s.faulty (.hlg d g) := by
  unfold faulty pst; rw [h.rd (.hlg d g) _ rfl]

theorem hostDieWorks (h : ServiceKept s t) (d : Fin 2) : t.hostDieWorks d = s.hostDieWorks d := by
  unfold State.hostDieWorks
  simp only [h.faultyHsc, h.faultyHlg, h.diesUp]

theorem channelWorks (h : ServiceKept s t) (c : Fin 17) : t.channelWorks c = s.channelWorks c := by
  unfold State.channelWorks faulty pst
  simp only [h.rd (.mch c) MCH.CH_STATUS.STATE rfl, h.rd (.mch c) HDR.PAGE_STATE.STATE rfl, h.rd .msc MSC.MEM_STATUS.IN_SVC rfl]

theorem allDies (h : ServiceKept s t) : t.allDies = s.allDies := by
  have hstp : t.faulty .stp = s.faulty .stp := by unfold faulty pst; rw [h.rd .stp _ rfl]
  unfold State.allDies
  simp only [h.hubWorks, h.faultyHsc, h.faultyHlg, h.diesUp, hstp]

theorem level (h : ServiceKept s t) : t.level = s.level := by
  have hconf : t.configured = s.configured := funext h.configured
  have hwork : t.working = s.working := funext h.working
  have hchan : t.channelWorks = s.channelWorks := funext h.channelWorks
  unfold State.level
  simp only [hconf, hwork, hchan, h.hubAlive, h.hubWorks, h.hostDieWorks, h.allDies, h.fieldUp, h.kettle, h.datapath, h.diesUp, h.mgmt,
    h.up, h.bit .msc MSC.MEM_STATUS.DDR_SVC rfl]

theorem devState (h : ServiceKept s t) (lv : Nat) : t.devState lv = s.devState lv := by
  unfold State.devState
  rw [h.kettle, h.pins, h.degraded, h.attempt]

theorem alarmCause (h : ServiceKept s t) (lv : Nat) : t.alarmCause lv = s.alarmCause lv := by
  unfold State.alarmCause
  simp only [h.field, h.frame.part, h.up, h.kettle, h.rd .tsn TSN.SHUTDOWN.OFF rfl]

end ServiceKept

theorem level_le (s : State) : s.level ≤ 4 := by
  unfold level
  split
  · decide
  · split
    · decide
    · dsimp only
      split
      · decide
      · split <;> decide

theorem devState_lt (s : State) (lv : Nat) : s.devState lv < 2 ^ 3 := by
  unfold devState
  split
  · decide
  · split
    · split
      · decide
      · split <;> decide
    · split <;> decide

theorem alarmCause_lt (s : State) (lv : Nat) : s.alarmCause lv < 2 ^ 32 := by
  have hbit : ∀ b : Bool, b.toNat ≤ 1 := Bool.toNat_le
  unfold alarmCause
  simp only
  refine lt_of_le_of_lt (Nat.add_le_add (Nat.add_le_add (Nat.add_le_add (Nat.add_le_add (hbit _) (Nat.mul_le_mul_left 2 (hbit _)))
    (Nat.mul_le_mul_left 4 (hbit _))) (Nat.mul_le_mul_left 8 (hbit _))) (Nat.mul_le_mul_left 16 (hbit _))) (by decide)

/-! ## The level of service is recomputed (R26) -/

section
variable (s : State) (lv : Nat)

/-- A new level is shown, written to LOG, signalled and told to the field island. -/
def showLevel : State :=
  if !s.hubAlive then s
  else if s.rd .dev DEV.STATUS.SVC_LEVEL = lv then s
  else (((s.wr .dev DEV.STATUS.SVC_LEVEL lv).log 1 0 0 0 lv).raise .dev 0).toField (.startResult 0 s.inputFlags lv 0x10)

/-- Reaching S3 or S4 is reported as the success of the attempt that runs (R442). -/
def reportSuccess : State :=
  match s.start.attempt with
  | some a =>
    if 3 ≤ lv && !a.reported then
      { s.toField (.startResult 1 0 lv a.step) with start := { s.start with attempt := some { a with reported := true } } }
    else s
  | none => s

/-- DEV.STATUS beside the level. -/
def showStatus : State :=
  if !s.hubAlive then s
  else
    (((s.wr .dev DEV.STATUS.DEV_STATE (s.devState lv)).wb .dev DEV.STATUS.ALARM
        (s.wr .dev DEV.STATUS.DEV_STATE (s.devState lv)).alarmN).wb .dev DEV.STATUS.BARRIER_UP s.hubEnd.up).wb .dev DEV.STATUS.READY
      (decide (3 ≤ lv) && (s.devState lv == 1 || s.devState lv == 2 || s.devState lv == 4))

/-- ALARM_CAUSE takes its conditions (R60). -/
def showAlarm : State := s.wr .dev DEV.ALARM_CAUSE.word (s.alarmCause lv)

theorem relevel_eq : s.relevel = (((s.showLevel s.level).reportSuccess s.level).showAlarm s.level).showStatus s.level := rfl

theorem ServiceKept.showLevel : ServiceKept s (s.showLevel lv) := by
  unfold State.showLevel
  split
  · exact .refl
  · split
    · exact .refl
    · exact ((ServiceKept.status rfl).trans .log).trans (ServiceKept.raise.trans .toField)

theorem ServiceKept.reportSuccess : ServiceKept s (s.reportSuccess lv) := by
  unfold State.reportSuccess
  split
  next a ha =>
    split
    · refine ⟨(Frame.refl.toField (by decide)).with_start (by decide), rfl, sendFrom_up _ _, rfl, ?_, rfl⟩
      rw [ha]; rfl
    · exact .refl
  next => exact .refl

theorem ServiceKept.showAlarm : ServiceKept s (s.showAlarm lv) := .setWord (.inr (.inr rfl))

theorem ServiceKept.showStatus : ServiceKept s (s.showStatus lv) := by
  unfold State.showStatus
  split
  · exact .refl
  · exact ((ServiceKept.status rfl).trans (.status rfl)).trans ((ServiceKept.status rfl).trans (.status rfl))

theorem ServiceKept.relevel : ServiceKept s s.relevel := by
  rw [relevel_eq]
  exact ((ServiceKept.showLevel s _).trans (.reportSuccess _ _)).trans ((ServiceKept.showAlarm _ _).trans (.showStatus _ _))

/-! ## What it shows -/

theorem showLevel_level (ha : s.hubAlive = true) (hlv : lv ≤ 4) : (s.showLevel lv).rd .dev DEV.STATUS.SVC_LEVEL = lv := by
  unfold showLevel
  rw [ha, if_neg (by decide)]
  split
  next h => exact h
  next =>
    have hword : ((((s.wr .dev DEV.STATUS.SVC_LEVEL lv).log 1 0 0 0 lv).raise .dev 0).toField (.startResult 0 s.inputFlags lv 0x10)).word
        .dev 0x034 = (s.wr .dev DEV.STATUS.SVC_LEVEL lv).word .dev 0x034 := by
      show (((s.wr .dev DEV.STATUS.SVC_LEVEL lv).log 1 0 0 0 lv).raise .dev 0).word .dev 0x034 = _
      rw [raise_word _ _ _ _ _ (by decide) (.inr (by decide)) (.inl (by decide)), log_word _ _ _ _ _ _ _ _ (by decide) (by decide)]
    have hrd := rd_wr_same s .dev DEV.STATUS.SVC_LEVEL lv (by decide)
    rw [Nat.mod_eq_of_lt (by show lv < 8; omega)] at hrd
    exact (congrArg DEV.STATUS.SVC_LEVEL.get hword).trans hrd

theorem reportSuccess_rd (f : Fld) : (s.reportSuccess lv).rd .dev f = s.rd .dev f := by
  unfold reportSuccess
  split
  · split <;> rfl
  · rfl

theorem showAlarm_status (f : Fld) (hf : f.off = 0x034) : (s.showAlarm lv).rd .dev f = s.rd .dev f :=
  rd_wr_ne s .dev .dev _ f _ (by decide) (by omega) (.inr (.inl (by rw [hf]; decide)))

theorem showAlarm_alarm : (s.showAlarm lv).rd .dev DEV.ALARM_CAUSE.word = s.alarmCause lv := by
  refine (rd_wr_same s .dev DEV.ALARM_CAUSE.word _ (by decide)).trans (Nat.mod_eq_of_lt ?_)
  exact s.alarmCause_lt lv

theorem showStatus_ne (f : Fld) (hf : f.off < 0x1000) (hne : f.off ≠ 0x034 ∨ f.lo + f.w ≤ 4) :
    (s.showStatus lv).rd .dev f = s.rd .dev f := by
  have hstatus : ∀ (g : Fld) (u : State) (n : Nat), g.off = 0x034 → 4 ≤ g.lo → (u.wr .dev g n).rd .dev f = u.rd .dev f := by
    intro g u n hg hlo
    exact rd_wr_ne u .dev .dev g f n (by omega) hf (.inr (by rw [hg]; omega))
  unfold showStatus
  split
  · rfl
  · unfold wb
    rw [hstatus _ _ _ rfl (by decide), hstatus _ _ _ rfl (by decide), hstatus _ _ _ rfl (by decide), hstatus _ _ _ rfl (by decide)]

theorem showStatus_devState (ha : s.hubAlive = true) : (s.showStatus lv).rd .dev DEV.STATUS.DEV_STATE = s.devState lv := by
  unfold showStatus wb
  rw [ha, if_neg (by decide), rd_wr_ne _ _ _ _ _ _ (by decide) (by decide) (by decide), rd_wr_ne _ _ _ _ _ _ (by decide) (by decide) (by decide),
    rd_wr_ne _ _ _ _ _ _ (by decide) (by decide) (by decide), rd_wr_same _ _ _ _ (by decide)]
  exact Nat.mod_eq_of_lt (s.devState_lt lv)

theorem showStatus_ready (ha : s.hubAlive = true) : (s.showStatus lv).bit .dev DEV.STATUS.READY
    = (decide (3 ≤ lv) && (s.devState lv == 1 || s.devState lv == 2 || s.devState lv == 4)) := by
  unfold showStatus
  rw [ha, if_neg (by decide), bit_wb_same _ _ _ _ (by decide) (by decide)]

end

/-- DEV.STATUS and ALARM_CAUSE once the level of service is recomputed (R26, R57, R60). -/
theorem relevel_shows (s : State) (ha : s.relevel.hubAlive = true) :
    s.relevel.rd .dev DEV.STATUS.SVC_LEVEL = s.relevel.level
    ∧ s.relevel.rd .dev DEV.STATUS.DEV_STATE = s.relevel.devState s.relevel.level
    ∧ s.relevel.bit .dev DEV.STATUS.READY = (decide (3 ≤ s.relevel.level) && (s.relevel.devState s.relevel.level == 1
        || s.relevel.devState s.relevel.level == 2 || s.relevel.devState s.relevel.level == 4))
    ∧ s.relevel.rd .dev DEV.ALARM_CAUSE.word = s.relevel.alarmCause s.relevel.level := by
  have hall := ServiceKept.relevel s
  have hshow := ServiceKept.showLevel s s.level
  have hreport := ServiceKept.reportSuccess (s.showLevel s.level) s.level
  have halarm := ServiceKept.showAlarm ((s.showLevel s.level).reportSuccess s.level) s.level
  have hbefore := (hshow.trans hreport).trans halarm
  have halive : s.hubAlive = true := hall.hubAlive.symm.trans ha
  rw [hall.level, hall.devState, hall.alarmCause, ← hbefore.devState s.level, ← (hshow.trans hreport).alarmCause s.level, relevel_eq]
  refine ⟨?_, showStatus_devState _ _ (hbefore.hubAlive.trans halive), showStatus_ready _ _ (hbefore.hubAlive.trans halive), ?_⟩
  · rw [showStatus_ne _ _ _ (by decide) (.inr (by decide)), showAlarm_status _ _ _ rfl, reportSuccess_rd,
      showLevel_level s _ halive s.level_le]
  · rw [showStatus_ne _ _ _ (by decide) (.inl (by decide)), showAlarm_alarm]

/-! ## Messages and lines (R60, R62, R63, R456) -/

/-- Pending bits lose the vectors that are sent. -/
theorem getLsbD_foldl_clear (vs : List Nat) (w : BitVec 32) (n : Nat) (hn : n < 32) :
    (vs.foldl (fun w v => w &&& ~~~(BitVec.ofNat 32 (2 ^ v))) w).getLsbD n = (w.getLsbD n && !vs.contains n) := by
  induction vs generalizing w with
  | nil => simp
  | cons v r ih =>
    rw [List.foldl_cons, ih, BitVec.getLsbD_and, BitVec.getLsbD_not, BitVec.getLsbD_ofNat, Nat.testBit_two_pow, List.contains_cons]
    by_cases hv : v = n
    · subst hv; simp [hn]
    · have hv' : (n == v) = false := beq_false_of_ne (Ne.symm hv)
      simp [hv, hv', hn]

/-- The pending bits before any message leaves. -/
def asked (s0 s : State) : BitVec 32 := (s.host.pba ||| (s.asks &&& ~~~s0.asks)) &&& s.asks

/-- The pending bits once the vectors that may send have sent. -/
def unsent (s0 s : State) : BitVec 32 :=
  (s.sendable (asked s0 s)).foldl (fun w v => w &&& ~~~(BitVec.ofNat 32 (2 ^ v))) (asked s0 s)

/-- The messages leave, not yet counted. -/
def sendAsked (s0 s : State) : State :=
  { s with host := { s.host with pba := unsent s0 s }, out := s.out ++ (s.sendable (asked s0 s)).map Output.msi }

theorem messages_eq (s0 s : State) : messages s0 s =
    if s.sendable (asked s0 s) = [] then sendAsked s0 s else (sendAsked s0 s).count .dev 16 (s.sendable (asked s0 s)).length := rfl

/-- Messages are counted or not: nothing but a counter tells the two apart. -/
theorem messages_cases (s0 s : State) : messages s0 s = sendAsked s0 s ∨ ∃ n, messages s0 s = (sendAsked s0 s).count .dev 16 n := by
  rw [messages_eq]
  split
  · exact .inl rfl
  · exact .inr ⟨_, rfl⟩

theorem messages_pba (s0 s : State) : (messages s0 s).host.pba = unsent s0 s := by
  rcases messages_cases s0 s with e | ⟨n, e⟩ <;> rw [e] <;> rfl

theorem messages_asks (s0 s : State) : (messages s0 s).asks = s.asks := by
  rcases messages_cases s0 s with e | ⟨n, e⟩ <;> rw [e] <;> rfl

theorem messages_rd (s0 s : State) (p : Page) (f : Fld) : (messages s0 s).rd p f = s.rd p f := by
  rcases messages_cases s0 s with e | ⟨n, e⟩ <;> rw [e] <;> rfl

theorem Frame.with_out {s u : State} {l : List (Page × Nat)} {ps : List StatePart} {o : List Output} (h : Frame s u l ps) :
    Frame s { u with out := o } l ps :=
  ⟨h.reg, fun p hp => by have := h.same p hp; cases p <;> exact this, h.part, h.pending⟩

theorem Frame.sendAsked {s0 s : State} {l : List (Page × Nat)} {ps : List StatePart} (hm : StatePart.host ∈ ps) :
    Frame s (sendAsked s0 s) l ps :=
  have h : Frame s { s with host := { s.host with pba := unsent s0 s } } l ps := Frame.refl.with_host hm
  h.with_out

theorem ServiceKept.messages (s0 s : State) : ServiceKept s (messages s0 s) := by
  rcases messages_cases s0 s with e | ⟨n, e⟩ <;> rw [e]
  · exact ⟨.sendAsked (by decide), rfl, rfl, rfl, rfl, rfl⟩
  · exact ⟨Frame.count (.sendAsked (by decide)) (by decide), rfl, rfl, rfl, rfl, rfl⟩

theorem ServiceKept.intLine (s : State) : ServiceKept s s.intLine := by
  unfold State.intLine
  split
  · exact .refl
  · exact ⟨Frame.refl.with_host (by decide), rfl, rfl, rfl, rfl, rfl⟩

/-- The vectors that may send follow what the end of a command leaves alone. -/
theorem ServiceKept.sendable {s t : State} (h : ServiceKept s t) (pba : BitVec 32) : t.sendable pba = s.sendable pba := by
  have hlink : t.linkUp = s.linkUp := by
    unfold linkUp
    rw [h.hubAlive, h.mgmt, h.perst]
  have henable : t.host.msixEnable = s.host.msixEnable := (congrArg HostIf.msixEnable h.host :)
  have hmask : t.host.functionMask = s.host.functionMask := (congrArg HostIf.functionMask h.host :)
  have htable : t.host.msix = s.host.msix := (congrArg HostIf.msix h.host :)
  unfold State.sendable
  rw [hlink, h.window, henable, hmask, htable]

/-- A vector that may send stands in the pending bits. -/
theorem mem_sendable {s : State} {pba : BitVec 32} {v : Nat} (h : v ∈ s.sendable pba) : v < 25 ∧ pba.getLsbD v = true := by
  unfold sendable at h
  split at h
  · obtain ⟨hv, hp⟩ := List.mem_filter.1 h
    exact ⟨List.mem_range.1 hv, (Bool.and_eq_true_iff.1 hp).1⟩
  · cases h

/-- A vector may send by what its own pending bit is. -/
theorem mem_sendable_of {s : State} {pba pba' : BitVec 32} {v : Nat} (h : v ∈ s.sendable pba) (hv : pba'.getLsbD v = true) :
    v ∈ s.sendable pba' := by
  unfold sendable at h ⊢
  split at h
  next hc =>
    rw [if_pos hc]
    obtain ⟨hr, hp⟩ := List.mem_filter.1 h
    exact List.mem_filter.2 ⟨hr, by rw [hv]; exact (Bool.and_eq_true_iff.2 ⟨rfl, (Bool.and_eq_true_iff.1 hp).2⟩)⟩
  next => cases h

/-- No vector keeps a pending bit that may send (R62). -/
theorem messages_sent (s0 s : State) : (messages s0 s).sendable (messages s0 s).host.pba = [] := by
  rw [(ServiceKept.messages s0 s).sendable, messages_pba, unsent]
  refine List.eq_nil_iff_forall_not_mem.2 fun v hv => ?_
  obtain ⟨hlt, hbit⟩ := mem_sendable hv
  rw [getLsbD_foldl_clear _ _ _ (by omega), Bool.and_eq_true, Bool.not_eq_true'] at hbit
  have hmem := mem_sendable_of hv hbit.1
  rw [← List.contains_iff_mem, hbit.2] at hmem
  cases hmem

/-- A pending bit stands only for a vector that asks (R62, R63). -/
theorem messages_asking (s0 s : State) : (messages s0 s).host.pba &&& ~~~(messages s0 s).asks = 0 := by
  rw [messages_asks, messages_pba, unsent]
  refine BitVec.eq_of_getLsbD_eq fun i hi => ?_
  rw [BitVec.getLsbD_and, getLsbD_foldl_clear _ _ _ hi]
  unfold asked
  simp [hi]
  intros; assumption

theorem intLine_rd (s : State) (p : Page) (f : Fld) : s.intLine.rd p f = s.rd p f := by
  unfold intLine
  split <;> rfl

theorem intLine_asks (s : State) : s.intLine.asks = s.asks := by
  unfold intLine
  split <;> rfl

theorem intLine_pba (s : State) : s.intLine.host.pba = s.host.pba := by
  unfold intLine
  split <;> rfl

/-- INT_N has the value of its condition, but in the interval of a warm reset (R60, R68). -/
theorem intLine_shows (s : State) (h : s.intLine.host.window = false) : s.intLine.host.intN
    = (s.intLine.hubAlive && s.intLine.bit .dev DEV.DEV_CTRL.INT_N_ENABLE && s.intLine.asks != 0) := by
  rw [(ServiceKept.intLine s).hubAlive, intLine_asks, State.bit, intLine_rd]
  rw [(ServiceKept.intLine s).window] at h
  unfold intLine
  rw [h]
  rfl

/-! ## The invariant -/

/-- The lines and messages of a state, whatever the host and the barrier link have been sent. -/
theorem Inv.with_sent {s : State} (h : s.Inv) (x : List Instr) (o : List Output) : Inv { s with pending := x, out := o } :=
  ⟨h.level, h.devState, h.ready, h.alarm, h.intN, h.pba, h.sent⟩

theorem Inv.with_time {s : State} (h : s.Inv) (x : BitVec 64) (y : Tele) : Inv { s with time := x, tele := y } :=
  ⟨h.level, h.devState, h.ready, h.alarm, h.intN, h.pba, h.sent⟩

/-- The invariant holds once the level of service, the messages and the line have followed. -/
theorem inv_of_lines (s0 s : State) : (messages s0 s.relevel).intLine.Inv := by
  have hm := ServiceKept.messages s0 s.relevel
  have hi := ServiceKept.intLine (messages s0 s.relevel)
  have hkept := hm.trans hi
  have hrd : ∀ f, (messages s0 s.relevel).intLine.rd .dev f = s.relevel.rd .dev f := fun f => by rw [intLine_rd, messages_rd]
  have hshow : (messages s0 s.relevel).intLine.hubAlive = true → _ := fun h => relevel_shows s (hkept.hubAlive.symm.trans h)
  constructor
  case intN => exact intLine_shows _
  case pba => rw [intLine_asks, intLine_pba]; exact messages_asking _ _
  case sent => rw [hi.sendable, intLine_pba]; exact messages_sent _ _
  case level => intro h; rw [hrd, hkept.level]; exact (hshow h).1
  case devState => intro h; rw [hrd, hkept.level, hkept.devState]; exact (hshow h).2.1
  case ready => intro h; rw [State.bit, hrd, hkept.level, hkept.devState]; exact (hshow h).2.2.1
  case alarm => intro h; rw [hrd, hkept.level, hkept.alarmCause]; exact (hshow h).2.2.2

/-- Whatever a command does, the state that is settled after it satisfies the invariant. -/
theorem settle_inv (s0 s : State) : (settle s0 s).Inv := (inv_of_lines s0 _).with_sent _ _

end Machine.State

namespace Machine

/-- A command answers a settled state. -/
theorem exec_settles (c : Instr) (s : State) : ∃ u, exec c s = .next (State.settle s u) := by
  cases c <;> exact ⟨_, rfl⟩

/-- A nanosecond in which nothing falls due is the passing of time and nothing else. -/
theorem State.idle_cases (s : State) : s.idle = { s with time := s.tick.time, tele := s.tick.tele } ∨ ∃ u, s.idle = settle s.tick u := by
  unfold State.idle
  simp only
  split
  · refine .inl ?_
    unfold State.tick
    simp only
    split <;> split <;> rfl
  · exact .inr ⟨_, rfl⟩

/-- Settles O6: a command's next state is settled, and a nanosecond in which nothing falls due changes nothing that the invariant speaks
of. -/
theorem stepKeepsInv : Obligations.stepKeepsInv := by
  intro s t hs hstep
  unfold step at hstep
  split at hstep
  · injection hstep with ht
    subst ht
    rcases s.idle_cases with e | ⟨u, e⟩
    · rw [e]; exact hs.with_time _ _
    · rw [e]; exact State.settle_inv _ _
  next c r _ =>
    obtain ⟨u, hu⟩ := exec_settles c { s with pending := r }
    rw [hu] at hstep
    injection hstep with ht
    subst ht
    exact State.settle_inv _ _

end Machine
end Sys2Proof
end

section
/-! PROOFS. What follows a command, stage by stage, and what it leaves unchanged: the frame of State.settle. -/
namespace Sys2Proof.Machine.State

open Sys2Proof Reg

/-! ## What may change -/

/-- The registers of a carrier that follow a command: the section control engine, the transmitter's control, status, band and power, and what
its load maps and its cipher show of their limits. -/
def carrierRegs (k : Fin 16) : List (Page × Nat) :=
  [0x008, 0x00C, 0x024, 0x028, 0x02C, 0x030, 0x034, 0x038].map (Page.csc k, ·) ++ [0x020, 0x024, 0x02C, 0x034].map (Page.txo k, ·)
    ++ [0x004, 0x00C, 0x044].map (Page.lfe k, ·) ++ [(.fcr k, 0x044)]

/-- The shared registers that follow a command. -/
def sharedRegs : List (Page × Nat) :=
  [(.bsc, 0x00C), (.bsc, 0x024), (.bsc, 0x028), (.bsc, 0x02C), (.bsc, 0x030), (.bsc, 0x038), (.stp, 0x00C), (.stp, 0x034), (.stp, 0x038),
   (.stp, 0x03C), (.stp, 0x040), (.sch, 0x00C), (.fct, 0x00C), (.fct, 0x01C), (.fct, 0x048), (.fct, 0x04C), (.cad, 0x008), (.cad, 0x00C),
   (.cad, 0x018), (.cad, 0x020), (.cad, 0x040), (.cad, 0x054), (.dev, 0x00C), (.dev, 0x034), (.dev, 0x050)]

/-- The engines that read READY or DEGRADED as their losses and spoilt entries have it (R82, R120, R147, R235, R238, R270, R426). -/
def followers : List Page := carriers.flatMap engines ++ [.qsc, .sch, .bsc, .fct]

/-- The engines of these that read READY or DEGRADED. -/
def running (v : State) : List Page := followers.filter fun p => v.pst p = 2 || v.pst p = 3

/-- The registers that may change after a command that has made the state v. -/
def settleRegs (v : State) : List (Page × Nat) := carriers.flatMap carrierRegs ++ sharedRegs ++ (running v).map (·, 0x008)

/-- The parts of the state that may change after a command. -/
def settleParts : List StatePart := .host :: .hubEnd :: .start :: .cars :: .tm :: .cad :: .lanes :: eventParts

/-- What may stand in a state u on the way from v to the state settled after it. -/
abbrev Follows (v u : State) : Prop := Frame v u (settleRegs v) settleParts

section
variable {v u : State} {k : Fin 16} {i : Nat}

theorem mem_settleRegs_carrier {x : Page × Nat} (h : x ∈ carrierRegs k) : x ∈ settleRegs v :=
  List.mem_append_left _ (List.mem_append_left _ (List.mem_flatMap.2 ⟨k, List.mem_finRange k, h⟩))

theorem mem_settleRegs_csc (h : i ∈ [0x008, 0x00C, 0x024, 0x028, 0x02C, 0x030, 0x034, 0x038]) : (Page.csc k, i) ∈ settleRegs v :=
  mem_settleRegs_carrier (List.mem_append_left _ (List.mem_append_left _ (List.mem_append_left _ (List.mem_map_of_mem h))))

theorem mem_settleRegs_txo (h : i ∈ [0x020, 0x024, 0x02C, 0x034]) : (Page.txo k, i) ∈ settleRegs v :=
  mem_settleRegs_carrier (List.mem_append_left _ (List.mem_append_left _ (List.mem_append_right _ (List.mem_map_of_mem h))))

theorem mem_settleRegs_lfe (h : i ∈ [0x004, 0x00C, 0x044]) : (Page.lfe k, i) ∈ settleRegs v :=
  mem_settleRegs_carrier (List.mem_append_left _ (List.mem_append_right _ (List.mem_map_of_mem h)))

theorem mem_settleRegs_fcr : (Page.fcr k, 0x044) ∈ settleRegs v :=
  mem_settleRegs_carrier (List.mem_append_right _ (List.mem_singleton_self _))

theorem mem_settleRegs_shared {x : Page × Nat} (h : x ∈ sharedRegs) : x ∈ settleRegs v :=
  List.mem_append_left _ (List.mem_append_right _ h)

/-- PAGE_STATE of an engine that follows its losses may change just where it reads READY or DEGRADED. -/
theorem mem_settleRegs_running {p : Page} (hp : p ∈ followers) (h : v.pst p = 2 ∨ v.pst p = 3) : (p, 0x008) ∈ settleRegs v :=
  List.mem_append_right _ (List.mem_map_of_mem (f := (·, 0x008)) (List.mem_filter.2 ⟨hp, by simpa using h⟩))

theorem Frame.mono {s t : State} {l l' : List (Page × Nat)} {ps ps' : List StatePart} (h : Frame s t l ps) (hl : ∀ x ∈ l, x ∈ l')
    (hp : ∀ x ∈ ps, x ∈ ps') : Frame s t l' ps' :=
  ⟨fun q j a b c => h.reg q j a (b.imp_right fun n m => n (hp _ m)) fun m => c (hl _ m), fun p n => h.same p fun m => n (hp p m),
    h.part, h.pending⟩

/-! ## Events, counters and lists -/

theorem Follows.raise {p : Page} {b : Nat} (h : Follows v u) (hm : (p, 0x00C) ∈ settleRegs v) : Follows v (u.raise p b) :=
  Frame.raise h hm (by decide) (by decide) (by decide)

theorem Follows.raiseIf {c : Bool} {p : Page} {b : Nat} (h : Follows v u) (hm : (p, 0x00C) ∈ settleRegs v) : Follows v (u.raiseIf c p b) :=
  Frame.raiseIf h hm (by decide) (by decide) (by decide)

theorem Follows.count {p : Page} {j n : Nat} (h : Follows v u) : Follows v (u.count p j n) := Frame.count h (by decide)

theorem Follows.setCar {c : Carrier} (h : Follows v u) : Follows v (u.setCar k c) := Frame.setCar h (by decide)
theorem Follows.updCar {f : Carrier → Carrier} (h : Follows v u) : Follows v (u.updCar k f) := Frame.updCar h (by decide)
theorem Follows.updTm {f : Tm → Tm} (h : Follows v u) : Follows v (u.updTm f) := Frame.updTm h (by decide)
theorem Follows.updCad {f : Cad → Cad} (h : Follows v u) : Follows v (u.updCad f) := Frame.updCad h (by decide)

theorem Follows.foldl {α : Type} {f : State → α → State} (hf : ∀ u a, Follows v u → Follows v (f u a)) (l : List α)
    (h : Follows v u) : Follows v (l.foldl f u) := by
  induction l generalizing u with
  | nil => exact h
  | cons a r ih => exact ih (hf u a h)

/-! ## Registers, by page -/

theorem Follows.csc {f : Fld} {n : Nat} (h : Follows v u) (hf : f.off ∈ [0x008, 0x00C, 0x024, 0x028, 0x02C, 0x030, 0x034, 0x038]) :
    Follows v (u.wr (.csc k) f n) :=
  Frame.wr h ((by decide : ∀ j ∈ [0x008, 0x00C, 0x024, 0x028, 0x02C, 0x030, 0x034, 0x038], j < 0x1000) _ hf) (mem_settleRegs_csc hf)

theorem Follows.txo {f : Fld} {n : Nat} (h : Follows v u) (hf : f.off ∈ [0x020, 0x024, 0x02C, 0x034]) : Follows v (u.wr (.txo k) f n) :=
  Frame.wr h ((by decide : ∀ j ∈ [0x020, 0x024, 0x02C, 0x034], j < 0x1000) _ hf) (mem_settleRegs_txo hf)

theorem Follows.lfe {f : Fld} {n : Nat} (h : Follows v u) (hf : f.off ∈ [0x004, 0x00C, 0x044]) : Follows v (u.wr (.lfe k) f n) :=
  Frame.wr h ((by decide : ∀ j ∈ [0x004, 0x00C, 0x044], j < 0x1000) _ hf) (mem_settleRegs_lfe hf)

theorem Follows.fcr {f : Fld} {n : Nat} (h : Follows v u) (hf : f.off = 0x044) : Follows v (u.wr (.fcr k) f n) :=
  Frame.wr h (by omega) (by rw [hf]; exact mem_settleRegs_fcr)

theorem Follows.shared {p : Page} {f : Fld} {n : Nat} (h : Follows v u) (hf : (p, f.off) ∈ sharedRegs) : Follows v (u.wr p f n) :=
  Frame.wr h ((by decide : ∀ x ∈ sharedRegs, x.2 < 0x1000) _ hf) (mem_settleRegs_shared hf)

/-! ## Carriers (R152-R154, R178-R186, R200, R201) -/

/-- An engine that reads READY or DEGRADED takes the one of them, or FAULT, that its losses and a reduction give it. -/
def followRun (s : State) (p : Page) (why : Bool) : State :=
  let n := s.pst p
  if n = 2 || n = 3 then
    let r := s.runState p
    let m := if why && r == 2 then 3 else r
    if n = m then s else s.setPst p m
  else s

theorem restate_eq (s : State) (k : Fin 16) : s.restate k =
    (((s.followRun (.txo k) (s.car k).coefUe).followRun (.rxe k) (s.car k).adcUe).followRun (.lfe k)
      (((s.followRun (.txo k) (s.car k).coefUe).followRun (.rxe k) (s.car k).adcUe).rd (.lfe k) LFE.LM_STATUS.TX_STATE == 5)).followRun
        (.fcr k) false := rfl

/-- An engine's state changes where it reads READY or DEGRADED, and so only where it read one of them at the end of the command. -/
theorem Follows.followRun {p : Page} {why : Bool} (h : Follows v u) (hp : p ∈ followers) (hlog : p ≠ .log) : Follows v (u.followRun p why) := by
  unfold State.followRun
  refine Frame.ite (fun hn => Frame.ite (fun _ => h) fun _ => Frame.setPst h ?_) fun _ => h
  by_contra hout
  have hsame : u.pst p = v.pst p := by
    unfold pst rd
    exact congrArg HDR.PAGE_STATE.STATE.get (h.reg p 0x008 (by decide) (.inl hlog) hout)
  rw [hsame] at hn
  exact hout (mem_settleRegs_running hp (by simpa using hn))

theorem mem_followers_engine {p : Page} (h : p ∈ engines k) : p ∈ followers :=
  List.mem_append_left _ (List.mem_flatMap.2 ⟨k, List.mem_finRange k, h⟩)

theorem Follows.restate (h : Follows v u) : Follows v (u.restate k) := by
  have hmem : ∀ p ∈ engines k, p ∈ followers ∧ p ≠ .log := fun p hp => ⟨mem_followers_engine hp, by
    rintro rfl; simp [engines] at hp⟩
  have htxo := hmem (.txo k) (by simp [engines])
  have hrxe := hmem (.rxe k) (by simp [engines])
  have hlfe := hmem (.lfe k) (by simp [engines])
  have hfcr := hmem (.fcr k) (by simp [engines])
  rw [restate_eq]
  exact (((h.followRun htxo.1 htxo.2).followRun hrxe.1 hrxe.2).followRun hlfe.1 hlfe.2).followRun hfcr.1 hfcr.2

theorem Follows.refec (h : Follows v u) : Follows v (u.refec k) := by
  unfold State.refec
  extract_lets p g i was lim s1 s2 s3
  have h1 : Follows v s1 := Frame.ite (fun _ => h) fun _ => (h.lfe (by decide)).count
  have h3 : Follows v s3 := ((h1.lfe (by decide)).lfe (by decide)).lfe (by decide)
  exact (h3.raiseIf (mem_settleRegs_lfe (by decide))).raiseIf (mem_settleRegs_lfe (by decide))

theorem Follows.reblock (h : Follows v u) : Follows v (u.reblock k) := (h.fcr rfl).fcr rfl

theorem Follows.relight (h : Follows v u) : Follows v (u.relight k) := by
  unfold State.relight
  exact Frame.ite (fun _ => h.setCar.txo (by decide)) fun _ => Frame.ite (fun _ => (h.setCar.txo (by decide)).txo (by decide)) fun _ => h

theorem Follows.countDefects {on : Nat} (h : Follows v u) : Follows v (u.countDefects k on) :=
  Follows.foldl (fun _ _ hu => Frame.ite (fun _ => hu.count) fun _ => hu) _ h

theorem Follows.recsc (h : Follows v u) : Follows v (u.recsc k) := by
  unfold State.recsc
  extract_lets s1 s2 s3 s4 s5 c s6 old new on off sFlags sLatched sRaised s7 s8 n o sPrev sTime s9
  have h3 : Follows v s3 := h.refec.reblock.restate.relight
  have h4 : Follows v s4 := Frame.ite (fun _ => h3) fun _ => h3.txo (by decide)
  have h5 : Follows v s5 := h4.txo (by decide)
  have h6 : Follows v s6 := Frame.ite (fun _ => h5.setCar) fun _ => h5
  have hflags : Follows v sFlags := Follows.csc (f := ⟨CSC.CSC_STATUS.LOS.off, 8, 6⟩) h6 (by decide)
  have hlatched : Follows v sLatched := Frame.setWord hflags (by decide) (mem_settleRegs_csc (by decide))
  have hraised : Follows v sRaised := (hlatched.raiseIf (mem_settleRegs_csc (by decide))).raiseIf (mem_settleRegs_csc (by decide))
  have h7 : Follows v s7 := Frame.ite (fun _ => h6) fun _ => hraised.countDefects
  have h8 : Follows v s8 := h7.csc (by decide)
  have hprev : Follows v sPrev := (h8.csc (by decide)).csc (by decide)
  have htime : Follows v sTime := (hprev.csc (by decide)).csc (by decide)
  have h9 : Follows v s9 := Frame.ite (fun _ => h8) fun _ => htime.count.raise (mem_settleRegs_csc (by decide))
  exact h9.csc (by decide)

theorem Follows.recarriers (h : Follows v u) : Follows v u.recarriers := Follows.foldl (fun _ _ hu => hu.recsc) _ h

/-! ## Conduits and Remote Fault (R183, R217) -/

theorem Follows.reshorts (h : Follows v u) : Follows v u.reshorts := by
  refine Follows.foldl (fun w c hw => ?_) _ h
  unfold reshort
  exact Frame.ite (fun _ => hw) fun _ =>
    Frame.ite (fun _ => hw.updTm.count.raise (mem_settleRegs_shared (by decide))) fun _ => hw.updTm

theorem Follows.setRf {c : Nat} {b : Bool} (h : Follows v u) : Follows v (u.setRf c b) := by
  unfold State.setRf
  refine Follows.foldl (fun w m hw => ?_) _ (Follows.foldl (fun w q hw => hw.emit) _ h.updTm.updTm)
  exact Frame.ite (fun _ => hw) fun _ => (hw.csc (by decide)).raise (mem_settleRegs_csc (by decide))

theorem Follows.rerf (h : Follows v u) : Follows v u.rerf :=
  Follows.foldl (fun _ _ hw => Frame.ite (fun _ => hw.setRf) fun _ => hw) _ h

/-! ## Buffers and pause (R253-R258, R265, R267) -/

theorem Follows.bufFlag {f : Fld} {b : Bool} {p : Page} {ev : Option Nat} (h : Follows v u) (hf : f.off = 0x038)
    (hp : (p, 0x00C) ∈ sharedRegs) : Follows v (u.bufFlag f b p ev) := by
  have hflag : Follows v (u.wb .bsc f b) := h.shared (by rw [hf]; decide)
  unfold State.bufFlag
  cases ev with
  | none => exact hflag
  | some n => exact hflag.raiseIf (mem_settleRegs_shared hp)

theorem Follows.rowUse {p : Page} {t x : Nat} {b : Bool} (h : Follows v u) : Follows v (u.rowUse p t x b) := by
  unfold State.rowUse
  exact Frame.ite (fun _ => h) fun _ => Frame.ite (fun _ => Frame.with_cad h (by decide)) fun _ => Frame.with_cad h (by decide)

theorem Follows.ce {p : Page} {t : Nat} (h : Follows v u) (hp : (p, 0x01C) ∈ sharedRegs) : Follows v (u.ce p t) :=
  Follows.shared (h.shared hp) hp

theorem Follows.ue {p : Page} {t : Nat} (h : Follows v u) (hp : (p, 0x01C) ∈ sharedRegs) : Follows v (u.ue p t) :=
  Follows.shared (h.shared hp) hp

theorem Follows.useProt {p : Page} {t x : Nat} (h : Follows v u) (hp : (p, 0x01C) ∈ sharedRegs) : Follows v (u.useProt p t x).2 := by
  unfold State.useProt
  dsimp only
  split
  · exact h
  · exact Frame.with_damage (h.ce hp).rowUse (by decide)
  · exact Frame.with_damage (h.ue hp).rowUse (by decide)
  · exact h

theorem Follows.useFct {t x : Nat} (h : Follows v u) : Follows v (u.useFct t x) := by
  have huse : Follows v (u.useProt .fct 0 (2 ^ 24 * t + x)).2 := h.useProt (by decide)
  unfold State.useFct useOnce
  dsimp only
  split
  · exact huse.raise (mem_settleRegs_shared (by decide))
  · exact huse

theorem Follows.setPortSt {d : Fin 2} {p : Nat} {x : PortSt} (h : Follows v u) : Follows v (u.setPortSt d p x) := by
  unfold State.setPortSt
  exact Frame.setHgrp h (by decide)

theorem Follows.portSend {port : Nat} {o : Output} {frame : List Byte} (h : Follows v u) : Follows v (u.portSend port o frame) := by
  unfold State.portSend
  extract_lets d p s1 x
  obtain ⟨l, c⟩ := u.portCode port frame
  dsimp -zeta only
  extract_lets s2 driven s3
  have h1 : Follows v s1 := Frame.countS (Frame.countS h (by decide)) (by decide)
  have h2 : Follows v s2 := h1.setPortSt
  have h3 : Follows v s3 := Frame.ite (fun _ => h2) fun _ => h2.emit
  exact Follows.foldl (fun _ _ hw => hw.emit) _ h3

theorem Follows.sendPfc {port on off : Nat} (h : Follows v u) : Follows v (u.sendPfc port on off) :=
  Frame.ite (fun _ => h) fun _ => h.portSend.count

theorem Follows.sendGp {port fuel : Nat} {es : List Nat} (h : Follows v u) : Follows v (u.sendGp port es fuel) := by
  induction fuel generalizing u es with
  | zero => exact h
  | succ n ih =>
    unfold State.sendGp
    exact Frame.ite (fun _ => h) fun _ => ih h.updTm.portSend.count

theorem Follows.portChange {s0 : State} {port : Nat} (h : Follows v u) : Follows v (portChange s0 u port) := h.sendPfc.sendGp

theorem Follows.repause {c : Nat} (h : Follows v u) : Follows v (u.repause c) := by
  unfold State.repause
  extract_lets s1 p on old s2 cause s3
  have h2 : Follows v s2 := h.useFct.updTm
  have h3 : Follows v s3 := ((h2.shared (by decide)).shared (by decide)).shared (by decide)
  exact Frame.ite (fun _ => h2) fun _ => Frame.ite (fun _ => h3.count.raise (mem_settleRegs_shared (by decide)))
    fun _ => h3.raise (mem_settleRegs_shared (by decide))

theorem Follows.rebuffer {s0 : State} (h : Follows v u) : Follows v (rebuffer s0 u) := by
  unfold State.rebuffer
  refine Frame.ite (fun _ => h) fun _ => ?_
  extract_lets eg inn s1 s2 s3 s4 want s5 free lim od s6 df dl dp s7 s8 s9 s10 s11 s12 nq s13 full s14 s15 s16 s17 s18 sUsed s19 s20 s21
  have h1 : Follows v s1 := h.shared (by decide)
  have h2 : Follows v s2 := Frame.ite (fun _ => h1.shared (by decide)) fun _ => h1
  have h3 : Follows v s3 := h2.shared (by decide)
  have h4 : Follows v s4 := Frame.ite (fun _ => h3.shared (by decide)) fun _ => h3
  have h5 : Follows v s5 := h4.updTm
  have h7 : Follows v s7 := (h5.bufFlag rfl (by decide)).bufFlag rfl (by decide)
  have h11 : Follows v s11 :=
    (((h7.bufFlag rfl (by decide)).bufFlag rfl (by decide)).bufFlag rfl (by decide)).bufFlag rfl (by decide)
  have h12 : Follows v s12 := h11.shared (by decide)
  have h13 : Follows v s13 := (h12.shared (by decide)).shared (by decide)
  have h14 : Follows v s14 := Frame.ite (fun _ => h13.count) fun _ => h13
  have h16 : Follows v s16 := (h14.shared (by decide)).shared (by decide)
  have h17 : Follows v s17 := Frame.ite (fun _ => h16.shared (by decide)) fun _ => h16
  have h18 : Follows v s18 := Follows.foldl (fun _ _ hw => hw.repause) _ h17
  have hused : Follows v sUsed := Follows.foldl (fun _ _ hw => hw.useFct) _ h18
  have h19 : Follows v s19 := Frame.ite (fun _ => h18) fun _ => Follows.foldl (fun _ _ hw => hw.portChange) _ hused
  exact ((h19.shared (by decide)).shared (by decide)).shared (by decide)

theorem retm_eq (s : State) : s.retm =
    (((s.followRun .qsc (s.spoiled .qsc || s.tm.ctxCrowded || s.tm.qs.any fun e => e.2.ctxBad == 3)).followRun .sch
      ((s.followRun .qsc (s.spoiled .qsc || s.tm.ctxCrowded || s.tm.qs.any fun e => e.2.ctxBad == 3)).spoiled .sch)).followRun .bsc
        false).followRun .fct ((((s.followRun .qsc (s.spoiled .qsc || s.tm.ctxCrowded || s.tm.qs.any fun e => e.2.ctxBad == 3)).followRun
          .sch ((s.followRun .qsc (s.spoiled .qsc || s.tm.ctxCrowded || s.tm.qs.any fun e => e.2.ctxBad == 3)).spoiled .sch)).followRun
            .bsc false).spoiled .fct) := rfl

theorem Follows.retm (h : Follows v u) : Follows v u.retm := by
  rw [retm_eq]
  exact (((h.followRun (by decide) (by decide)).followRun (by decide) (by decide)).followRun (by decide) (by decide)).followRun
    (by decide) (by decide)

/-! ## The caddy (R90, R424, R427-R431, R437) -/

theorem Follows.procState {n : Nat} (h : Follows v u) : Follows v (u.procState n) := h.shared (by decide)

theorem Follows.procEnd {ok : Bool} (h : Follows v u) : Follows v (u.procEnd ok) :=
  ((h.procState.raise (mem_settleRegs_shared (by decide))).shared (by decide)).updCad

theorem Follows.holdSpare {hold : Bool} (h : Follows v u) : Follows v (u.holdSpare k hold) :=
  Follows.shared (f := ⟨CAD.LASER_STATUS.HELD_BY.off, 4 + 4 * (k.val / 4), 4⟩)
    (Follows.shared (f := CAD.LASER_STATUS.SPARE_FREE) h (by decide))
    (by decide : (Page.cad, 0x040) ∈ sharedRegs)

theorem Follows.selectLaser {sel : Bool} (h : Follows v u) : Follows v (u.selectLaser k sel) := by
  unfold State.selectLaser
  extract_lets p inUse pend s1 s2 s3
  have h1 : Follows v s1 := h.txo (by decide)
  have h2 : Follows v s2 := (h1.txo (by decide)).updCar
  have h3 : Follows v s3 := (h1.txo (by decide)).updCar
  refine Frame.ite (fun _ => h) fun _ => Frame.ite (fun _ => ?_) fun _ => Frame.ite (fun _ => h1) fun _ => ?_
  · exact Frame.ite (fun _ => Frame.ite (fun _ => h2) fun _ => h2.holdSpare) fun _ => h1
  · exact Frame.ite (fun _ => h3.holdSpare) fun _ => h3

theorem Follows.procBegin {r : LaserReq} (h : Follows v u) : Follows v (u.procBegin r) := by
  unfold State.procBegin
  extract_lets d s1 s2
  have h1 : Follows v s1 := (h.shared (by decide)).shared (by decide)
  have h2 : Follows v s2 := h1.updCad.count
  exact Frame.ite (fun _ => (h.raise (mem_settleRegs_shared (by decide))).count) fun _ =>
    Frame.ite (fun _ => ((h2.lfe (by decide)).csc (by decide)).procState) fun _ => h2.selectLaser.procState

theorem Follows.procStep {w : State} (h : Follows v u) (hw : u.procStep = some w) : Follows v w := by
  unfold State.procStep at hw
  split at hw
  · split at hw
    · cases hw
    · cases hw; exact h.updCad.procBegin
  next r _ =>
    dsimp only at hw
    split at hw
    all_goals
      split at hw
      · cases hw
      split at hw
      · cases hw
        exact h.procEnd
    · cases hw
      exact h.procState
    · cases hw
      exact h.selectLaser.procState
    · split at hw
      · cases hw
        exact h.procEnd
      · split at hw
        · cases hw
          exact ((h.csc (by decide)).lfe (by decide)).procState
        · cases hw
          exact h.procEnd
    · cases hw
      exact h.procEnd

theorem Follows.procRun {fuel : Nat} (h : Follows v u) : Follows v (u.procRun fuel) := by
  induction fuel generalizing u with
  | zero => exact h
  | succ n ih =>
    unfold State.procRun
    split
    · exact h
    next w hw => exact ih (h.procStep hw)

theorem Follows.substitute {pool reason unit : Nat} (h : Follows v u) : Follows v (u.substitute pool reason unit) := by
  unfold State.substitute
  extract_lets s1 s2 s3 i s4
  have h1 : Follows v s1 := Frame.log h (by decide) (by decide) (by decide)
  have h2 : Follows v s2 := ((h1.shared (by decide)).shared (by decide)).shared (by decide)
  have h3 : Follows v s3 := h2.count
  exact Frame.ite (fun _ => Frame.protect h3.updCad (mem_settleRegs_shared (by decide)) (by decide)) fun _ => h3

theorem Follows.replaceRows (h : Follows v u) : Follows v u.replaceRows :=
  Frame.ite (fun _ => h) fun _ =>
    Follows.foldl (fun _ _ hw => Frame.ite (fun _ => hw) fun _ => hw.updCad.substitute) _ h.updCad

theorem Follows.cadSettle {s0 : State} (h : Follows v u) : Follows v (cadSettle s0 u) := by
  unfold State.cadSettle
  refine Frame.ite (fun _ => h) fun _ => ?_
  extract_lets s1 s2 moved gone s3 e s4 n
  have h1 : Follows v s1 := Frame.ite (fun _ => h.procRun) fun _ => h
  have h3 : Follows v s3 :=
    (h1.replaceRows.raiseIf (mem_settleRegs_shared (by decide))).raiseIf (mem_settleRegs_shared (by decide))
  have h4 : Follows v s4 := h3.shared (by decide)
  exact Frame.ite (fun _ => h4) fun _ => h4.shared (by decide)

/-! ## The level of service and the lines -/

theorem Follows.kept {w : State} (h : Follows v u) (hk : ServiceKept u w) : Follows v w :=
  h.trans (hk.frame.mono (fun x hx => mem_settleRegs_shared ((by decide : ∀ x ∈ [((Page.dev : Page), 0x00C), (.dev, 0x034), (.dev, 0x050)],
    x ∈ sharedRegs) x hx)) (by decide))

end

/-- The state settled after a command, but for the queue and the frames put on the barrier link. -/
def settled (s0 s : State) : State :=
  (messages s0 (cadSettle s0 (rebuffer s0 s.recarriers.reshorts.rerf).retm).recarriers.relevel).intLine

theorem settle_eq (s0 s : State) : settle s0 s = { settled s0 s with
    pending := s0.pending
    out := (settled s0 s).out ++ linkOut (settled s0 s).time s0.hubEnd (settled s0 s).hubEnd .hub
      ++ linkOut (settled s0 s).time s0.fieldEnd (settled s0 s).fieldEnd .field } := rfl

/-- What follows a command changes only what follows its inputs. -/
theorem settled_frame (s0 v : State) : Frame v (settled s0 v) (settleRegs v) settleParts := by
  have hstart : Follows v v := .refl
  have hlevels : Follows v (cadSettle s0 (rebuffer s0 v.recarriers.reshorts.rerf).retm).recarriers :=
    hstart.recarriers.reshorts.rerf.rebuffer.retm.cadSettle.recarriers
  exact ((hlevels.kept (.relevel _)).kept (.messages _ _)).kept (.intLine _)

/-- A register that does not follow other state reads after the command as its effect left it. -/
theorem settle_word (s0 v : State) {q : Page} {i : Nat} (hi : i < 0x1000) (hq : q ≠ .log) (h : (q, i) ∉ settleRegs v) :
    (settle s0 v).word q i = v.word q i := by
  have hsettled := (settled_frame s0 v).reg q i hi (.inl hq) h
  rw [settle_eq]
  generalize settled s0 v = w at hsettled ⊢
  exact hsettled

/-- A part that does not follow other state stands after the command as its effect left it. -/
theorem settle_part (s0 v : State) {p : StatePart} (h : p ∉ settleParts) : v.samePart (settle s0 v) p := by
  have hsettled := (settled_frame s0 v).same p h
  rw [settle_eq]
  generalize settled s0 v = w at hsettled ⊢
  cases p <;> exact hsettled

end Sys2Proof.Machine.State
end

section
/-! PROOFS. Three statements of the architecture chapter that the model refutes, each at a state of its own. What such a statement says of
the next state it says of any state that is settled alike; the frame of State.settle carries the contradiction back to the effect. -/
namespace Sys2Proof.Machine

open Sys2Proof Reg

/-- Two effects that a command cannot tell apart are settled alike, so that a statement on the one binds the other. -/
theorem Answers.settle_eq {c : Instr} {s w : State} {P : State → Prop} (h : Answers c s P) (hc : exec c s = .next (State.settle s w)) :
    ∃ u, State.settle s u = State.settle s w ∧ P u := by
  obtain ⟨u, hu, hP⟩ := h
  have hnext : Host.Outcome.next (State.settle s u) = Host.Outcome.next (State.settle s w) := hu.symm.trans hc
  exact ⟨u, Host.Outcome.next.inj hnext, hP⟩

/-! ## A withdrawn buffer bank degrades BSC after the command (R238, R426) -/

/-- BSC reads READY though a bank of its ingress buffer is withdrawn. -/
def bankWithdrawn : State :=
  { State.reset with regs := [(Page.bsc.base + 0x008, 2)], cad := { State.reset.cad with losses := [(Page.bsc.base, .bufferBank true)] } }

/-- BSC follows its loss: READY before, DEGRADED once the command is settled. -/
theorem settle_bankWithdrawn :
    bankWithdrawn.word .bsc 0x008 = 2 ∧ (State.settle bankWithdrawn bankWithdrawn).word .bsc 0x008 = 3 := by decide

/-- Refutes O3: PAGE_STATE of BSC, QSC, SCH and FCT follows their losses as well, and the statement's list leaves it out. -/
theorem not_settleFrame : ¬ Obligations.settleFrame := by
  unfold Obligations.settleFrame
  intro h
  obtain ⟨hframe, -⟩ := h bankWithdrawn bankWithdrawn rfl
  have hkept := hframe.reg .bsc 0x008 (by decide) (.inl (by decide)) (by decide)
  obtain ⟨hbefore, hafter⟩ := settle_bankWithdrawn
  rw [hbefore, hafter] at hkept
  exact absurd hkept (by decide)

/-! ## The hold-up time of a STATUS_REPORT (R344, R353) -/

namespace State

/-- What a vote on the triplicated words leaves: the end of the link, the stores with what loads and charges them, the time. -/
structure StoresKept (s t : State) : Prop where
  fieldEnd : t.fieldEnd = s.fieldEnd
  gap : t.imageGap = s.imageGap
  now : t.tele.now = s.tele.now
  stores : t.field.stores = s.field.stores
  pub : t.field.pub = { s.field.pub with dissent := t.field.pub.dissent, repairs := t.field.pub.repairs }

theorem StoresKept.refl (s : State) : StoresKept s s := ⟨rfl, rfl, rfl, rfl, rfl⟩

theorem StoresKept.trans {s t u : State} (h : StoresKept s t) (g : StoresKept t u) : StoresKept s u :=
  ⟨g.fieldEnd.trans h.fieldEnd, g.gap.trans h.gap, g.now.trans h.now, g.stores.trans h.stores, by rw [g.pub, h.pub]⟩

theorem StoresKept.feedVolt {s t : State} (h : StoresKept s t) : State.feedVolt t.field.pub = State.feedVolt s.field.pub := by
  rw [h.pub]; rfl

theorem StoresKept.loadPower {s t : State} (h : StoresKept s t) : State.loadPower t.field.pub = State.loadPower s.field.pub := by
  rw [h.pub]; rfl

theorem mendWord_kept (f : Field) (w : Nat) : (mendWord f w).2.pub = f.pub ∧ (mendWord f w).2.stores = f.stores
    ∧ (mendWord f w).2.imgRestart = f.imgRestart ∧ (mendWord f w).2.imgBeats = f.imgBeats := by
  unfold mendWord
  split <;> exact ⟨rfl, rfl, rfl, rfl⟩

theorem StoresKept.voteWord (s : State) (w : Nat) : StoresKept s (s.voteWord w) := by
  have hkept := mendWord_kept s.field w
  unfold State.voteWord
  generalize mendWord s.field w = x at hkept ⊢
  obtain ⟨n, f⟩ := x
  obtain ⟨hpub, hstores, hrestart, hbeats⟩ := hkept
  dsimp only at hpub hstores hrestart hbeats
  exact ⟨rfl, by simp [imageGap, hrestart, hbeats], rfl, hstores, by simp [hpub]⟩

theorem StoresKept.sweep (s : State) : StoresKept s s.sweep := by
  unfold State.sweep
  suffices h : ∀ l t, StoresKept s t → StoresKept s (List.foldl State.voteWord t l) from h _ s (.refl s)
  intro l
  induction l with
  | nil => exact fun _ ht => ht
  | cons w r ih => exact fun t ht => ih _ (ht.trans (.voteWord t w))

/-- Without a VALID feed, stores that are up to date keep what they hold inside. -/
theorem storesNow_int {s : State} (hfeed : feedVolt s.field.pub = 0) (htime : s.field.stores.time = s.tele.now) :
    s.storesNow.int = s.field.stores.int := by
  simp [storesNow, hfeed, htime, drawStores]

/-- An internal store that holds the load for 10 us makes HOLDUP_TIME at least that. -/
theorem holdupTime_pos {s : State} (hfeed : feedVolt s.field.pub = 0) (htime : s.field.stores.time = s.tele.now)
    (hint : 10000 * loadPower s.field.pub ≤ s.field.stores.int) : 1 ≤ s.holdupTime := by
  have hnow := storesNow_int hfeed htime
  unfold holdupTime
  dsimp only
  split
  · decide
  next hload =>
    have hlong : 1 ≤ (extEnergy s.storesNow.extQ + s.storesNow.int) / loadPower s.field.pub / 10000 := by
      rw [Nat.div_div_eq_div_mul, Nat.le_div_iff_mul_le (by omega), hnow]
      omega
    exact le_min (by decide) hlong

theorem stepStores_fieldEnd (s : State) : s.stepStores.fieldEnd = s.fieldEnd := rfl

theorem stepStores_imageGap (s : State) : s.stepStores.imageGap = s.imageGap := rfl

/-- A STATUS_REPORT tells HOLDUP_TIME as the stores, brought up to now, give it. -/
theorem sendReport_fieldEnd {s : State} (hgap : s.imageGap = false) :
    ∃ r, s.sendReport.fieldEnd = sendFrom s.fieldEnd (.statusReport r) ∧ r.holdupTime = s.sweep.stepStores.holdupTime := by
  have hkept := StoresKept.sweep s
  have hend : s.sweep.stepStores.fieldEnd = s.fieldEnd := (stepStores_fieldEnd _).trans hkept.fieldEnd
  have hawake : s.sweep.stepStores.imageGap = false := (stepStores_imageGap _).trans (hkept.gap.trans hgap)
  unfold sendReport
  generalize s.sweep.stepStores = w at hend hawake ⊢
  dsimp only
  generalize hm : updPub w.draw.2 _ = m
  have hshown : m.field.pub.holdupTime = w.draw.2.holdupTime := by rw [← hm]; rfl
  have hdrawn : w.draw.2.holdupTime = w.holdupTime := rfl
  have hnow : m.report.holdupTime = w.holdupTime := Eq.trans rfl (hshown.trans hdrawn)
  refine ⟨m.report, ?_, hnow⟩
  have hsame : m.fieldEnd = s.fieldEnd := by rw [← hm]; exact hend
  have hrun : m.imageGap = false := by rw [← hm]; exact hawake
  simp [toHub, updTele, hrun, hsame]

theorem sendFrom_idle_msgs {e : BEnd} (m : BMsg) (hup : e.up = true) (hsent : e.unacked = []) (hwait : e.waiting = []) :
    (sendFrom e m).unacked.map (·.msg) = [m] := by
  simp [sendFrom, hup, hsent, hwait]

end State

/-- The field island's end of the link is up, its bulk capacitance is not charged, and its internal store holds the load for 10 us. -/
def storeHolds : State :=
  { State.reset with
    start := { State.reset.start with fieldUp := true }
    fieldEnd := { State.reset.fieldEnd with up := true }
    field := { State.reset.field with
      stores := { State.reset.field.stores with int := 10000 * State.loadPower State.reset.field.pub } } }

theorem storeHolds_awake : storeHolds.fieldEnd.up = true ∧ storeHolds.fieldAwake = true := by decide

/-- What STATUS_REPORT_TIMER makes of it: a report with a hold-up time. -/
theorem storeHolds_report : ∃ r, storeHolds.silent.sendReport.fieldEnd = State.sendFrom storeHolds.fieldEnd (.statusReport r)
    ∧ 1 ≤ r.holdupTime := by
  obtain ⟨r, hend, htime⟩ := State.sendReport_fieldEnd (s := storeHolds.silent) (by decide)
  refine ⟨r, hend, htime ▸ ?_⟩
  have hkept := State.StoresKept.sweep storeHolds.silent
  have hfeed : State.feedVolt storeHolds.silent.sweep.field.pub = 0 := hkept.feedVolt.trans (by decide)
  have hfresh : storeHolds.silent.sweep.field.stores.time = storeHolds.silent.sweep.tele.now := by
    rw [hkept.stores, hkept.now]; rfl
  refine State.holdupTime_pos hfeed rfl ?_
  have hint : storeHolds.silent.sweep.stepStores.field.stores.int = storeHolds.silent.sweep.field.stores.int :=
    State.storesNow_int hfeed hfresh
  rw [hint, hkept.stores]
  exact (congrArg (10000 * ·) hkept.loadPower).le

theorem exec_storeHolds : exec .statusReportTimer storeHolds = .next (State.settle storeHolds storeHolds.silent.sendReport) := by
  have hexec : exec .statusReportTimer storeHolds
      = storeHolds.done fun s => if s.fieldEnd.up && s.fieldAwake then s.sendReport else s := rfl
  have hawake : (storeHolds.silent.fieldEnd.up && storeHolds.silent.fieldAwake) = true := by decide
  rw [hexec]
  exact congrArg (fun w => Host.Outcome.next (State.settle storeHolds w)) (if_pos hawake)

/-- Refutes O50: a STATUS_REPORT tells the hold-up time that the internal store gives, whether the bulk capacitance is charged or not. -/
theorem not_barrierLink : ¬ Obligations.barrierLink := by
  unfold Obligations.barrierLink
  intro h
  obtain ⟨-, -, -, -, -, -, -, -, -, -, -, -, -, -, -, -, -, -, -, -, -, -, -, -, -, hreport, -⟩ := h storeHolds []
  obtain ⟨hup, hawake⟩ := storeHolds_awake
  obtain ⟨u, hsettle, ⟨r, hu, -, -, -, -, -, -, -, -, -, -, -, -, hzero⟩, -, -⟩ := (hreport hup hawake).settle_eq exec_storeHolds
  obtain ⟨r', hr', hpos⟩ := storeHolds_report
  have hends : u.fieldEnd = storeHolds.silent.sendReport.fieldEnd := by
    have hleft : (State.settle storeHolds u).fieldEnd = u.fieldEnd := State.settle_part storeHolds u (p := .fieldEnd) (by decide)
    have hright : (State.settle storeHolds storeHolds.silent.sendReport).fieldEnd = storeHolds.silent.sendReport.fieldEnd :=
      State.settle_part storeHolds _ (p := .fieldEnd) (by decide)
    rw [← hleft, hsettle, hright]
  have hmsgs := congrArg (fun e : BEnd => e.unacked.map (·.msg)) (hu.symm.trans (hends.trans hr'))
  simp only [State.sendFrom_idle_msgs _ hup (by rfl) (by rfl)] at hmsgs
  have hsame : r = r' := by simpa using hmsgs
  have hnone : r'.holdupTime = 0 := hsame ▸ hzero rfl
  omega

/-! ## The cipher's rounds of an engine in MODE 1 whose carrier is in ZR mode (R426) -/

/-- FCR of carrier 0 is HELD with MODE 1 while the carrier is in ZR mode, so that nothing of it is encrypted. -/
def heldCipher : State :=
  { State.reset with regs := [((Page.fcr 0).base + 0x008, 5), ((Page.fcr 0).base + 0x040, FCR.CR_CTRL.MODE.put 0 1),
      ((Page.lfe 0).base + 0x044, LFE.FEC_STATUS.ZR_ACTIVE.put 0 1)] }

theorem heldCipher_state : heldCipher.pst (.fcr 0) = 5 ∧ heldCipher.encrypted 0 = false ∧ heldCipher.broken (.fcr 0) = false
    ∧ heldCipher.cipherLost (.fcr 0) = false := by decide

/-- What the loss of the cipher's rounds makes of it. -/
def heldCipherLost : State := heldCipher.silent.cellLoss (.fcr 0) .cipher

/-- The model judges the lost rounds by MODE alone: the engine reads FAULT. -/
theorem heldCipherLost_pst : heldCipherLost.pst (.fcr 0) = 4 := by decide

theorem exec_tileCellLoss (p : Page) (t : TileKind) (s : State) :
    exec (.tileCellLoss p t) s = s.done fun s => if s.pst p = 0 then s else s.cellLoss p t := rfl

theorem exec_heldCipher : exec (.tileCellLoss (.fcr 0) .cipher) heldCipher = .next (State.settle heldCipher heldCipherLost) := by
  have hon : heldCipher.silent.pst (.fcr 0) ≠ 0 := by decide
  rw [exec_tileCellLoss]
  exact congrArg (fun w => Host.Outcome.next (State.settle heldCipher w)) (if_neg hon)

/-- PAGE_STATE of a cipher engine that reads neither READY nor DEGRADED stays after a command. -/
theorem settle_fcr_pst {s0 v : State} {k : Fin 16} (h2 : v.pst (.fcr k) ≠ 2) (h3 : v.pst (.fcr k) ≠ 3) :
    (State.settle s0 v).pst (.fcr k) = v.pst (.fcr k) := by
  have hfixed : (Page.fcr k, 0x008) ∉ State.carriers.flatMap State.carrierRegs ++ State.sharedRegs :=
    (by decide : ∀ k : Fin 16, (Page.fcr k, 0x008) ∉ State.carriers.flatMap State.carrierRegs ++ State.sharedRegs) k
  have hrun : (Page.fcr k, 0x008) ∉ (State.running v).map (·, 0x008) := by
    simp [State.running, h2, h3]
  have hword := State.settle_word s0 v (by decide) (by simp) (fun hmem => (List.mem_append.1 hmem).elim hfixed hrun)
  exact congrArg HDR.PAGE_STATE.STATE.get hword

/-- Refutes O59: the loss of the cipher's rounds counts against an engine in MODE 1 though ZR mode leaves nothing encrypted. -/
theorem not_caddy : ¬ Obligations.caddy := by
  unfold Obligations.caddy
  intro h
  obtain ⟨-, -, -, -, -, -, hlosses, -⟩ := h heldCipher (.fcr 0) .cipher 0 0 false
  obtain ⟨-, -, -, -, hcipher, -⟩ := hlosses
  obtain ⟨hheld, hplain, hsound, hbefore⟩ := heldCipher_state
  have hanswer := hcipher 0 (by rw [hheld]; decide) rfl rfl
  obtain ⟨u, hsettle, -, hworse, -, -⟩ := hanswer.settle_eq exec_heldCipher
  have hu : u.pst (.fcr 0) = 5 := by simpa [hsound, hbefore, hheld] using hworse hplain
  have hshown := congrArg (·.pst (.fcr 0)) hsettle
  have hleft := settle_fcr_pst (s0 := heldCipher) (v := u) (k := 0) (by rw [hu]; decide) (by rw [hu]; decide)
  have hright := settle_fcr_pst (s0 := heldCipher) (v := heldCipherLost) (k := 0)
    (by rw [heldCipherLost_pst]; decide) (by rw [heldCipherLost_pst]; decide)
  rw [hu] at hleft
  rw [heldCipherLost_pst] at hright
  have hclash : (5 : Nat) = 4 := hleft.symm.trans (hshown.trans hright)
  exact absurd hclash (by decide)

end Sys2Proof.Machine
end

section
/-! PROOFS. Statements that the model contradicts: a held lane group that adapts again (O16), armed checker tests that an effect spends
(O17, O18, O51), the enables that training sets (O60). Settles O16, O17, O18, O51 and O60. -/
namespace Sys2Proof.Machine.State

open Sys2Proof Reg

/-- A register beside PAGE_STATE that no carrier and no shared engine shows stands as the command's effect left it. -/
theorem settle_word_fixed (s0 v : State) {q : Page} {i : Nat} (hi : i < 0x1000) (hq : q ≠ .log) (h8 : i ≠ 0x008)
    (h : (q, i) ∉ carriers.flatMap carrierRegs ++ sharedRegs) : (settle s0 v).word q i = v.word q i := by
  refine settle_word s0 v hi hq fun hmem => (List.mem_append.1 hmem).elim h fun hrun => ?_
  obtain ⟨p, -, hp⟩ := List.mem_map.1 hrun
  exact h8 (congrArg Prod.snd hp).symm

/-- What two effects with one settled state agree on: such a register. -/
theorem word_eq_of_settle_eq {s0 u v : State} (h : settle s0 u = settle s0 v) {q : Page} {i : Nat} (hi : i < 0x1000) (hq : q ≠ .log)
    (h8 : i ≠ 0x008) (hfix : (q, i) ∉ carriers.flatMap carrierRegs ++ sharedRegs) : u.word q i = v.word q i := by
  rw [← settle_word_fixed s0 u hi hq h8 hfix, h, settle_word_fixed s0 v hi hq h8 hfix]

/-! ## What pumping an empty queue leaves on STP's page (R245) -/

section
variable (s : State)

theorem setChan_word (c : Fin 17) (x : Chan) (p : Page) (o : Nat) : (s.setChan c x).word p o = s.word p o := rfl
theorem setQueue_word (i : Nat) (q : QState) (p : Page) (o : Nat) : (s.setQueue i q).word p o = s.word p o := rfl

theorem chanFlips_word (c : Fin 17) (b : Bool) : (s.chanFlips c b).2.word .stp 0x018 = s.word .stp 0x018 := by
  have hspent : (s.wb (.mch c) HDR.FLIP_MASK.ARM false).word .stp 0x018 = s.word .stp 0x018 :=
    word_wr_ne s _ _ _ _ _ (by decide) (by decide) (.inl (by simp))
  unfold chanFlips
  extract_lets p t a b' e
  split
  · rfl
  · split
    · exact hspent
    · split
      · exact hspent
      · rfl

theorem flipBurst_word (c : Fin 17) (a r : Nat) (b : Bool) : (s.flipBurst c a r b).word .stp 0x018 = s.word .stp 0x018 := by
  rw [← chanFlips_word s c b]
  simp only [flipBurst]
  split <;> rfl

/-- A page whose cells were sound goes to its channels: STP's test stands. -/
theorem pageWritten_word (page : Nat) : (s.pageWritten page []).word .stp 0x018 = s.word .stp 0x018 := by
  unfold pageWritten
  extract_lets c a fresh s1 s2
  have hfresh : ∀ v c, (fresh v c).word .stp 0x018 = v.word .stp 0x018 := fun v c => by
    simp only [fresh, List.foldl_nil, flipBurst_word, setChan_word]
  show s2.word .stp 0x018 = _
  unfold s2
  split
  · rw [updMem_word, hfresh, hfresh]
  · exact hfresh s c

theorem chanFlips_tm (c : Fin 17) (b : Bool) : (s.chanFlips c b).2.tm = s.tm := by
  unfold chanFlips
  extract_lets p t a b' e
  split
  · rfl
  · split
    · rfl
    · split <;> rfl

theorem flipBurst_tm (c : Fin 17) (a r : Nat) (b : Bool) : (s.flipBurst c a r b).tm = s.tm := by
  rw [← chanFlips_tm s c b]
  simp only [flipBurst]
  split <;> rfl

/-- An empty queue's tail page is written: its FLIP_MASK test is spent. -/
theorem writePage_word {i : Nat} (h : (s.queue i).frames = []) :
    (s.writePage i).word .stp 0x018 = (s.armed .stp 1).2.word .stp 0x018 := by
  unfold writePage
  simp [h, startsIn, countS_word, count_word, pageWritten_word, updTm, setQueue_word]

theorem writePage_tail (i : Nat) : ((s.writePage i).queue i).tail = (s.queue i).tail - 16 := by
  unfold writePage
  simp [updTm, queue, setQueue, SMap.get_set_same]

theorem prefetch_word (i n : Nat) (p : Page) (o : Nat) : (s.prefetch i n).word p o = s.word p o := by
  induction n generalizing s with
  | zero => rfl
  | succ n ih =>
    unfold prefetch
    extract_lets q s1 s2
    split
    · rw [ih, countS_word, count_word, updTm_word, setQueue_word]
    · rfl

theorem joinTail_word (i : Nat) (p : Page) (o : Nat) : (s.joinTail i).word p o = s.word p o := by
  unfold joinTail appendTail
  extract_lets q need
  split
  · split <;> rfl
  · rfl

theorem leaveSteep_word (i : Nat) (p : Page) (o : Nat) : (s.leaveSteep i).word p o = s.word p o := by
  unfold leaveSteep
  extract_lets q
  split
  · split <;> rfl
  · split <;> rfl

/-- A steeping queue of one page's cells and no frame is pumped: the page is written. -/
theorem pump_word {i : Nat} (hframes : (s.queue i).frames = []) (hsteep : (s.queue i).steep = true) (htail : (s.queue i).tail = 16)
    (hfree : 0 < s.ddrFree) (hops : s.tm.ops + 64 ≤ 40960) :
    (s.pump i).word .stp 0x018 = (s.armed .stp 1).2.word .stp 0x018 := by
  have hin : s.enterSteep i = s := by simp [enterSteep, hsteep]
  have hpage : s.writePages i 64 = s.writePage i := by
    have hdone : ((s.writePage i).queue i).tail = 0 := by rw [writePage_tail, htail]
    rw [writePages, if_pos (by simp [hsteep, htail, hfree, hops]), writePages, if_neg (by simp [hdone])]
  unfold pump
  rw [leaveSteep_word, joinTail_word, prefetch_word, hin, hpage, writePage_word s hframes]

end

end Sys2Proof.Machine.State

namespace Sys2Proof.Machine

open Sys2Proof Reg

theorem exec_pageHold (p : Page) (on : Bool) (s : State) : exec (.pageHold p on) s = s.done fun t =>
    t.gateReg p 0x004 (s.ctrlWith p HDR.PAGE_CTRL.HOLD on) (State.effPageCtrl p (s.ctrlWith p HDR.PAGE_CTRL.HOLD on)) := rfl

theorem exec_pageEnable (p : Page) (on : Bool) (s : State) : exec (.pageEnable p on) s = s.done fun t =>
    t.gateReg p 0x004 (s.ctrlWith p HDR.PAGE_CTRL.ENABLE on) (State.effPageCtrl p (s.ctrlWith p HDR.PAGE_CTRL.ENABLE on)) := rfl

theorem exec_pageSoftReset (p : Page) (s : State) : exec (.pageSoftReset p) s = s.done fun t =>
    t.gateReg p 0x004 (s.ctrlWith p HDR.PAGE_CTRL.SOFT_RESET true)
      (State.effPageCtrl p (s.ctrlWith p HDR.PAGE_CTRL.SOFT_RESET true)) := rfl

/-- The host side has all its power, D37 runs, and a custodian session is open. -/
def attended : State :=
  { State.reset with
    start := { State.reset.start with power := .all }
    host := { State.reset.host with mgmt := .running }
    regs := [(Page.ses.base + 0x020, 3)] }

/-! ## The end of a hold of a lane group (R303, R316) -/

/-- Lane group 0 of HD0 is HELD, with one lane locked. -/
def heldGroup : State :=
  { attended with
    regs := [(Page.ses.base + 0x020, 3), ((Page.hlg 0 0).base + 0x004, 3), ((Page.hlg 0 0).base + 0x008, 5)]
    lanes := { State.reset.lanes with
      groups := [(0, { LaneGroup.reset with lanes := [(0, { LaneSt.reset with status := HLG.LANE_STATUS.CDR_LOCK.put 0 1 })] })] } }

theorem heldGroup_state : heldGroup.accepts (.hlg 0 0) 0x004 = true ∧ heldGroup.enabled (.hlg 0 0) = true := by decide

/-- What the end of the hold makes of it. -/
def heldGroupReleased : State :=
  State.effPageCtrl (.hlg 0 0) (heldGroup.ctrlWith (.hlg 0 0) HDR.PAGE_CTRL.HOLD false) heldGroup.silent.touch

set_option maxRecDepth 4000 in
/-- The FFE of the locked lane adapts again, to taps that are a free value. -/
theorem heldGroupReleased_fresh : heldGroupReleased.fresh = heldGroup.fresh + 1 := by decide

theorem exec_heldGroup : exec (.pageHold (.hlg 0 0) false) heldGroup = .next (State.settle heldGroup heldGroupReleased) := by
  rw [exec_pageHold]
  exact State.done_gateReg heldGroup _ _ _ _ (by decide) (by decide) heldGroup_state.1

/-- Refutes O16: a lane group that leaves HELD adapts the FFEs of its locked lanes again, which the statement's frame leaves out. -/
theorem not_holdAndDrain : ¬ Obligations.holdAndDrain := by
  unfold Obligations.holdAndDrain
  rintro ⟨h, -⟩
  obtain ⟨haccepts, hon⟩ := heldGroup_state
  obtain ⟨hhold, -⟩ := h heldGroup (.hlg 0 0) false (by decide) hon
  obtain ⟨u, hsettle, -, -, hframe, -⟩ := (hhold haccepts).settle_eq exec_heldGroup
  have hkept : u.fresh = heldGroup.fresh := (hframe.same .fresh (by decide)).trans (by decide)
  have hu : (State.settle heldGroup u).fresh = u.fresh := State.settle_part heldGroup u (p := .fresh) (by decide)
  have hv : (State.settle heldGroup heldGroupReleased).fresh = heldGroupReleased.fresh :=
    State.settle_part heldGroup _ (p := .fresh) (by decide)
  rw [hsettle, hv, heldGroupReleased_fresh] at hu
  omega

/-! ## An armed test of the mapper store (R41, R82) -/

/-- TXO of carrier 0 is OFF with a test of its store of mapping codes armed, its die up. -/
def armedMapper : State :=
  { attended with
    start := { attended.start with diesUp := 1 }
    regs := [(Page.ses.base + 0x020, 3), ((Page.txo 0).base + 0x018, HDR.FLIP_MASK.ARM.put (HDR.FLIP_MASK.TARGET.put 0 3) 1)] }

theorem armedMapper_state : armedMapper.enabled (.txo 0) = false ∧ armedMapper.dieUp (.txo 0) = true
    ∧ armedMapper.kettleOff (.txo 0) = false ∧ armedMapper.bit (.txo 0) HDR.PAGE_CTRL.HOLD = false
    ∧ armedMapper.bit (.txo 0) HDR.PAGE_CTRL.DRAIN = false ∧ armedMapper.coasts (.txo 0) = false
    ∧ armedMapper.accepts (.txo 0) 0x004 = true := by decide

/-- What switching the engine on makes of it. -/
def armedMapperOn : State :=
  State.effPageCtrl (.txo 0) (armedMapper.ctrlWith (.txo 0) HDR.PAGE_CTRL.ENABLE true) armedMapper.silent.touch

set_option maxRecDepth 20000 in
/-- The store is written as the engine starts, which spends the test. -/
theorem armedMapperOn_flip : armedMapperOn.word (.txo 0) 0x018 ≠ armedMapper.word (.txo 0) 0x018 := by decide

theorem exec_armedMapper : exec (.pageEnable (.txo 0) true) armedMapper = .next (State.settle armedMapper armedMapperOn) := by
  obtain ⟨-, -, -, -, -, -, haccepts⟩ := armedMapper_state
  rw [exec_pageEnable]
  exact State.done_gateReg armedMapper _ _ _ _ (by decide) (by decide) haccepts

/-- Refutes O17: an engine that starts writes its protected stores, and an armed test of FLIP_MASK is spent by that. -/
theorem not_engineSwitch : ¬ Obligations.engineSwitch := by
  unfold Obligations.engineSwitch
  rintro ⟨h, -⟩
  obtain ⟨hoff, hdie, hkettle, hhold, hdrain, hcoast, haccepts⟩ := armedMapper_state
  obtain ⟨u, hsettle, -, -, -, -, -, -, -, hframe⟩ :=
    (h armedMapper (.txo 0) (by decide) rfl hoff hdie hkettle hhold hdrain hcoast haccepts).settle_eq exec_armedMapper
  have hkept : u.word (.txo 0) 0x018 = armedMapper.word (.txo 0) 0x018 :=
    (hframe.reg (.txo 0) 0x018 (by decide) (.inl (by decide)) (by decide)).trans (State.touch_word _ _ _)
  have hspent := State.word_eq_of_settle_eq hsettle (q := .txo 0) (i := 0x018) (by decide) (by decide) (by decide) (by decide)
  exact armedMapperOn_flip (hspent.symm.trans hkept)

/-! ## An armed test of the page chain store (R41, R245) -/

/-- STP runs with a test of the page chain store armed; queue 0 steeps, with the cells of a page in its tail. -/
def steeping : State :=
  { attended with
    regs := [(Page.ses.base + 0x020, 3), (Page.stp.base + 0x004, 1), (Page.stp.base + 0x008, 2),
      (Page.stp.base + 0x018, HDR.FLIP_MASK.ARM.put (HDR.FLIP_MASK.TARGET.put 0 1) 1),
      (Page.msc.base + 0x028, MSC.MEM_STATUS.DDR_SVC.put 0 1)]
    tm := { State.reset.tm with qs := [(0, { QState.reset with steep := true, tail := 16 })] } }

theorem steeping_state : steeping.accepts .stp 0x004 = true ∧ steeping.enabled .stp = true
    ∧ steeping.bit .stp HDR.PAGE_CTRL.HOLD = false ∧ steeping.bit .stp HDR.PAGE_CTRL.DRAIN = false
    ∧ steeping.pst .stp ≠ 0 ∧ steeping.pst .stp ≠ 4 := by decide

/-- What SOFT_RESET of STP makes of it before the queues are pumped, and then. -/
def steepingBegun : State :=
  ((((steeping.silent.touch.setWord .stp 0x004 1).setWord .stp 0x01C 0).softReset .stp).beginStarting .stp).holdNow .stp
def steepingReset : State :=
  State.effPageCtrl .stp (steeping.ctrlWith .stp HDR.PAGE_CTRL.SOFT_RESET true) steeping.silent.touch

theorem steepingReset_eq : steepingReset = steepingBegun.pump 0 := rfl

theorem steepingBegun_tail : (steepingBegun.queue 0).frames = [] ∧ (steepingBegun.queue 0).steep = true
    ∧ (steepingBegun.queue 0).tail = 16 ∧ 0 < steepingBegun.ddrFree ∧ steepingBegun.tm.ops + 64 ≤ 40960 := by decide

/-- The page is written, which spends the test. -/
theorem steepingReset_flip : steepingReset.word .stp 0x018 ≠ steeping.word .stp 0x018 := by
  obtain ⟨hframes, hsteep, htail, hfree, hops⟩ := steepingBegun_tail
  rw [steepingReset_eq, State.pump_word _ hframes hsteep htail hfree hops]
  decide

theorem exec_steeping : exec (.pageSoftReset .stp) steeping = .next (State.settle steeping steepingReset) := by
  obtain ⟨haccepts, -⟩ := steeping_state
  rw [exec_pageSoftReset]
  exact State.done_gateReg steeping _ _ _ _ (by decide) (by decide) haccepts

/-- Refutes O18: SOFT_RESET of STP lets the queues follow their thresholds, and a page that is written spends an armed test of FLIP_MASK. -/
theorem not_engineSoftReset : ¬ Obligations.engineSoftReset := by
  unfold Obligations.engineSoftReset
  intro h
  obtain ⟨haccepts, hon, hhold, hdrain, hrun, hfault⟩ := steeping_state
  obtain ⟨-, -, -, hengine⟩ := h steeping .stp haccepts
  obtain ⟨u, hsettle, -, -, -, -, -, -, -, -, hframe⟩ :=
    (hengine (by decide) (by decide) hon hhold hdrain hrun hfault).settle_eq exec_steeping
  have hkept : u.word .stp 0x018 = steeping.word .stp 0x018 :=
    (hframe.reg .stp 0x018 (by decide) (.inl (by decide)) (by decide)).trans (State.touch_word _ _ _)
  have hspent := State.word_eq_of_settle_eq hsettle (q := .stp) (i := 0x018) (by decide) (by decide) (by decide) (by decide)
  exact steepingReset_flip (hspent.symm.trans hkept)

/-! ## An armed test of the rail mirror (R41, R346) -/

/-- An FRL record is the next message to the hub, with a test of the FRL mirror armed. -/
def armedMirror : State :=
  { attended with
    fieldEnd := { State.reset.fieldEnd with up := true, txSeq := 1, unacked := [{ seq := 1, sends := 1, msg := .railDeliver 1 0 0 [] }] }
    regs := [(Page.ses.base + 0x020, 3), (Page.frl.base + 0x018, HDR.FLIP_MASK.ARM.put 0 1)] }

/-- What the record makes of it. -/
def armedMirrorTaken : State :=
  ({ armedMirror.silent with hubEnd := { armedMirror.hubEnd with rxSeq := 1 } } : State).applyFrl 0 []

/-- The record is written into the mirror, which spends the test. -/
theorem armedMirrorTaken_flip : armedMirrorTaken.word .frl 0x018 ≠ armedMirror.word .frl 0x018 := by decide

theorem exec_armedMirror : exec .railDeliver armedMirror = .next (State.settle armedMirror armedMirrorTaken) := rfl

/-- Refutes O51: a record that the hub takes is written into the FRL mirror, and an armed test of FLIP_MASK is spent by that. -/
theorem not_messagesToHub : ¬ Obligations.messagesToHub := by
  unfold Obligations.messagesToHub
  intro h
  obtain ⟨-, -, -, -, hrecord, -⟩ := h armedMirror
  obtain ⟨u, hsettle, -, -, -, -, -, -, -, -, -, -, -, hframe⟩ := (hrecord 1 [] (by decide) rfl).settle_eq exec_armedMirror
  have hkept : u.word .frl 0x018 = armedMirror.word .frl 0x018 := hframe.reg .frl 0x018 (by decide) (.inl (by decide)) (by decide)
  have hspent := State.word_eq_of_settle_eq hsettle (q := .frl) (i := 0x018) (by decide) (by decide) (by decide) (by decide)
  exact armedMirrorTaken_flip (hspent.symm.trans hkept)

/-! ## The memory pages at step 10 of a start (R274, R501) -/

/-- An attempt stands at step 10. -/
def selfTesting : State :=
  { attended with
    start := { attended.start with
      attempt := some { step := 10, fromKettle := false, fromReset := false, counterBefore := 0, causeBefore := { cause := 0, deep := false }
                        held := false, watchdog := true, reported := false } } }

/-- The self-tests of LD0 and HB pass. -/
def selfTested : StartFound := { dies := 0x11, train := [], device := [], margin := [], soft := [] }

/-- What the end of the step makes of it. -/
def selfTestingDone : State := selfTesting.silent.stepDone selfTested

set_option maxRecDepth 4000 in
/-- The memory section is enabled for the training that follows. -/
theorem selfTestingDone_msc : selfTestingDone.word .msc 0x004 ≠ selfTesting.word .msc 0x004 := by decide

theorem exec_selfTesting : exec (.startStepDone selfTested) selfTesting = .next (State.settle selfTesting selfTestingDone) := rfl

/-- No page's ledger of spares stands in the way. -/
theorem selfTesting_state : (selfTesting.cad.ledger.all fun r => decide (r.unit * 0x1000 ≠ Page.msc.base)) = true := by decide

set_option maxRecDepth 20000 in
/-- No die's engine is the memory section. -/
theorem msc_notEngine : (Page.msc, 0x004) ∉
    ((List.range 7).flatMap fun d => (State.diePages d).flatMap fun p => State.engineRegs p) := by decide

/-- Refutes O60: with the self-tests passed the memory pages are enabled for training, and they are engines of no die. -/
theorem not_startAndResets : ¬ Obligations.startAndResets := by
  unfold Obligations.startAndResets
  rintro ⟨h, -⟩
  obtain ⟨-, -, -, -, -, -, -, -, -, -, -, -, -, -, -, -, -, hstarts, -⟩ := h selfTesting selfTested
  obtain ⟨u, hsettle, -, -, -, -, hframe⟩ :=
    (hstarts _ 0 rfl (by decide) rfl (by decide) (by decide) (by decide)).settle_eq exec_selfTesting
  have hkept := hframe .msc 0x004 selfTesting_state (by decide) (by decide) msc_notEngine
  have hset := State.word_eq_of_settle_eq hsettle (q := .msc) (i := 0x004) (by decide) (by decide) (by decide) (by decide)
  exact selfTestingDone_msc (hset.symm.trans hkept)

end Sys2Proof.Machine
end

section
/-! PROOFS. The queue's front (R32), the state after reset (R35, R36, R65) and the register addresses (R30). Settles O1, O4, O5 and O7. -/
namespace Sys2Proof

theorem Page.sec_le (p : Page) : p.sec ≤ 0x1F := by
  cases p <;> simp only [Page.sec] <;> omega

/-- R30: the fields of a register's byte address do not overlap. -/
theorem Page.base_add_eq_or (p : Page) (off : Nat) (h : off < 0x1000) :
    p.base + off = (p.sec <<< 20 ||| p.index <<< 12 ||| off) := by
  have hpage : p.index <<< 12 < 2 ^ 20 := by
    have := p.index_lt
    rw [Nat.shiftLeft_eq]; omega
  have hoff : off < 2 ^ 12 := h
  rw [← Nat.shiftLeft_add_eq_or_of_lt hpage, Nat.shiftLeft_eq p.sec, Nat.shiftLeft_eq, Page.base]
  have hsum : p.sec * 2 ^ 20 + p.index * 2 ^ 12 = (p.sec * 2 ^ 8 + p.index) <<< 12 := by
    rw [Nat.shiftLeft_eq]; omega
  rw [hsum, ← Nat.shiftLeft_add_eq_or_of_lt hoff, Nat.shiftLeft_eq]
  omega

/-- R35, R36: the header registers but PAGE_ID and EVENT_ENABLE are 0 after reset. -/
theorem resetOf_header (part : Part) (p : Page) (o : Nat) (h : o ∈ [0x004, 0x008, 0x00C, 0x018, 0x01C]) : resetOf part p o = 0 := by
  simp only [List.mem_cons, List.not_mem_nil, or_false] at h
  rcases h with rfl | rfl | rfl | rfl | rfl <;> cases p <;> rfl

end Sys2Proof

namespace Sys2Proof.Machine

open Sys2Proof Reg

/-- A register after reset holds its Reset column. -/
theorem reset_word (p : Page) (o : Nat) (h : o < 0x1000) : State.reset.word p o = BitVec.ofNat 32 (resetOf .ec p o) := by
  show resetWord .ec (p.base + o) = _
  rw [resetWord, Page.ofAddr_base p o h, Page.base_mod p o h]

/-- Settles O1: the queue is the program, and its front is the command that runs. -/
theorem stepRunsFront : Obligations.stepRunsFront := fun _ _ _ => rfl

/-- Settles O4, from the Reset columns. -/
theorem resetState : Obligations.resetState := by
  have hzero (p : Page) (o : Nat) (h : o ∈ [0x004, 0x008, 0x00C, 0x018, 0x01C]) (ho : o < 0x1000) : State.reset.word p o = 0 := by
    rw [reset_word p o ho, resetOf_header .ec p o h]; rfl
  refine ⟨fun p => ⟨reset_word p 0x000 (by decide), hzero p _ (by decide) (by decide), hzero p _ (by decide) (by decide),
    hzero p _ (by decide) (by decide), hzero p _ (by decide) (by decide), hzero p _ (by decide) (by decide)⟩, ?_⟩
  decide

/-- Settles O5: the hub is dead after reset, and nothing is pending. -/
theorem resetInv : Obligations.resetInv where
  level := by decide
  devState := by decide
  ready := by decide
  alarm := by decide
  intN := by decide
  pba := by decide
  sent := by decide

/-- Settles O7, from the widths of a register address's fields. -/
theorem registerAddresses : Obligations.registerAddresses := by
  refine ⟨fun p off h => ⟨p.base_add_eq_or off h, p.sec_le, ?_, p.ofAddr_base off h, p.base_mod off h⟩, rfl, rfl⟩
  exact Nat.le_of_lt_succ p.index_lt

end Sys2Proof.Machine
end

section
/-! PROOFS. A denied access (R43, R44). Settles O9. -/
namespace Sys2Proof

/-- A field that is the whole word. -/
theorem Fld.put_whole (o : Nat) (x : Word) (n : Nat) : Fld.put ⟨o, 0, 32⟩ x n = BitVec.ofNat 32 n := by
  apply BitVec.eq_of_getLsbD_eq
  intro i hi
  simp [Fld.put, putBits, hi]

end Sys2Proof

namespace Sys2Proof.Machine.State

open Sys2Proof Reg

variable (s : State)

theorem countAt_get_ne (a b n : Nat) (h : b ≠ a) : (s.countAt a n).ctr.get (fun _ => 0) b = s.ctr.get (fun _ => 0) b := by
  unfold countAt
  simp only [SMap.get_set_ne _ _ _ _ _ h]

theorem countAt_get_same (a n : Nat) :
    (s.countAt a n).ctr.get (fun _ => 0) a = min (s.ctr.get (fun _ => 0) a + n) (2 ^ 40 - 1) := by
  unfold countAt
  simp only [SMap.get_set_same]

/-! ## What a log entry leaves in the ring and in the counters (R65, R66) -/

theorem logStore_logRing (k sec pg code arg : Nat) : (s.logStore k sec pg code arg).2.logRing
    = s.logRing.set (fun _ => 0) ((s.rd .log LOG.LOG_CTRL.TAIL + s.rd .log LOG.LOG_CTRL.UNREAD) % 4096)
        (logEntry s.time k sec pg code arg) := by
  unfold logStore
  simp only
  split <;> simp

/-- Beside the counter of lost entries only that of entries counts. -/
theorem logStore_ctr (k sec pg code arg a : Nat) (h : a ≠ 0x208) :
    (s.logStore k sec pg code arg).2.ctr.get (fun _ => 0) a = (s.count .log 0 1).ctr.get (fun _ => 0) a := by
  have hlost (v : State) : (v.count .log 1 1).ctr.get (fun _ => 0) a = v.ctr.get (fun _ => 0) a :=
    countAt_get_ne v 0x208 a 1 h
  unfold logStore
  simp only
  split
  · rw [hlost]; simp [count, countAt]
  · simp [count, countAt]

theorem logEvent_ctr (b : Nat) (h : s.host.window = false) : (s.logEvent b).ctr = s.ctr := by
  unfold logEvent; simp [h]

theorem logEvent_logRing (b : Nat) (h : s.host.window = false) : (s.logEvent b).logRing = s.logRing := by
  unfold logEvent; simp [h]

theorem log_logRing (k sec pg code arg : Nat) (h : s.host.window = false) : (s.log k sec pg code arg).logRing
    = s.logRing.set (fun _ => 0) ((s.rd .log LOG.LOG_CTRL.TAIL + s.rd .log LOG.LOG_CTRL.UNREAD) % 4096)
        (logEntry s.time k sec pg code arg) := by
  rcases log_cases s k sec pg code arg with e | ⟨b, e⟩ <;> rw [e]
  · exact logStore_logRing s k sec pg code arg
  · rw [logEvent_logRing _ _ (by simp [h]), logStore_logRing]

theorem log_ctr (k sec pg code arg a : Nat) (h : s.host.window = false) (ha : a ≠ 0x208) :
    (s.log k sec pg code arg).ctr.get (fun _ => 0) a = (s.count .log 0 1).ctr.get (fun _ => 0) a := by
  rcases log_cases s k sec pg code arg with e | ⟨b, e⟩ <;> rw [e]
  · exact logStore_ctr s k sec pg code arg a ha
  · rw [logEvent_ctr _ _ (by simp [h]), logStore_ctr s k sec pg code arg a ha]

/-! ## A denied access (R44) -/

/-- The counts and the record of a denied access. -/
def denyMark (bar2 write : Bool) (addr : Nat) : State :=
  let v := (s.sat .ses (if write then SES.DENIED.WRITES else SES.DENIED.READS) 1).wr .ses SES.LAST_DENIED.word (deniedWord bar2 write addr)
  if bar2 then v else v.count .dev 18 1

/-- The first denied access of a second of device time is logged. -/
def denyFirst (v : State) (word sec : Nat) : State :=
  (({ v with ses := { v.ses with deniedSecond := some sec } }).log 3 0 0 9 word).raise .dev 9

theorem deny_eq (bar2 write : Bool) (addr : Nat) : s.deny bar2 write addr =
    if s.ses.deniedSecond = some (s.time.toNat / 1000000000) then s.denyMark bar2 write addr
    else (s.denyMark bar2 write addr).denyFirst (deniedWord bar2 write addr) (s.time.toNat / 1000000000) := by
  cases bar2 <;> rfl

variable (bar2 write : Bool) (addr : Nat)

theorem denied_off : (if write then SES.DENIED.WRITES else SES.DENIED.READS).off = 0x040 := by cases write <;> rfl
theorem denied_width : (if write then SES.DENIED.WRITES else SES.DENIED.READS).w = 16 := by cases write <;> rfl

theorem denyMark_frame : s.Frame (s.denyMark bar2 write addr) [(.ses, 0x040), (.ses, 0x044)] [.ctr] := by
  have hword := ((Frame.refl (s := s) (l := [(.ses, 0x040), (.ses, 0x044)]) (ps := [.ctr])).sat (p := .ses)
    (f := if write then SES.DENIED.WRITES else SES.DENIED.READS) (n := 1) (by rw [denied_off]; decide)
    (by rw [denied_off]; decide)).wr (p := .ses) (f := SES.LAST_DENIED.word) (n := deniedWord bar2 write addr) (by decide) (by decide)
  exact Frame.ite (fun _ => hword) fun _ => hword.count (by decide)

theorem denyMark_count : (s.denyMark bar2 write addr).word .ses 0x040
    = (if write then SES.DENIED.WRITES else SES.DENIED.READS).put (s.word .ses 0x040)
        (min (s.rd .ses (if write then SES.DENIED.WRITES else SES.DENIED.READS) + 1) 0xFFFF) := by
  have hsat := sat_word_same s .ses (if write then SES.DENIED.WRITES else SES.DENIED.READS) 1
  rw [denied_off, denied_width] at hsat
  have hword : ((s.sat .ses (if write then SES.DENIED.WRITES else SES.DENIED.READS) 1).wr .ses SES.LAST_DENIED.word
      (deniedWord bar2 write addr)).word .ses 0x040 = _ :=
    (word_wr_ne _ _ _ _ _ _ (by decide) (by decide) (.inr (by decide))).trans hsat
  unfold denyMark
  cases bar2 <;> exact hword

theorem denyMark_last : (s.denyMark bar2 write addr).word .ses 0x044 = BitVec.ofNat 32 (deniedWord bar2 write addr) := by
  have hword (v : State) : (v.wr .ses SES.LAST_DENIED.word (deniedWord bar2 write addr)).word .ses 0x044 = _ :=
    (word_wr_same _ .ses SES.LAST_DENIED.word _).trans (Fld.put_whole _ _ _)
  unfold denyMark
  cases bar2 <;> exact hword _

theorem denyMark_counter : (s.denyMark bar2 write addr).ctr.get (fun _ => 0) (ctrSlot 0 0 18)
    = if bar2 then s.ctr.get (fun _ => 0) (ctrSlot 0 0 18) else min (s.ctr.get (fun _ => 0) (ctrSlot 0 0 18) + 1) (2 ^ 40 - 1) := by
  cases bar2
  · exact countAt_get_same _ 0x090 1
  · rfl

theorem denyMark_ctr (a : Nat) (h : a ≠ ctrSlot 0 0 18) : (s.denyMark bar2 write addr).ctr.get (fun _ => 0) a = s.ctr.get (fun _ => 0) a := by
  cases bar2
  · exact countAt_get_ne _ 0x090 a 1 h
  · rfl

theorem denyMark_logRing : (s.denyMark bar2 write addr).logRing = s.logRing :=
  (denyMark_frame s bar2 write addr).same .logRing (by decide)

theorem denyMark_window : (s.denyMark bar2 write addr).host = s.host :=
  (denyMark_frame s bar2 write addr).same .host (by decide)

theorem denyMark_time : (s.denyMark bar2 write addr).time = s.time :=
  (denyMark_frame s bar2 write addr).same .time (by decide)

theorem denyMark_ses : (s.denyMark bar2 write addr).ses = s.ses :=
  (denyMark_frame s bar2 write addr).same .ses (by decide)

theorem denyMark_log (f : Fld) (h : f.off < 0x1000) : (s.denyMark bar2 write addr).rd .log f = s.rd .log f :=
  congrArg f.get ((denyMark_frame s bar2 write addr).reg .log f.off h (.inr (by decide)) (by simp))

section
variable (m : State) (word sec : Nat)

theorem denyFirst_frame : m.Frame (m.denyFirst word sec) [(.dev, 0x00C)] [.ctr, .ses, .logRing, .damage] :=
  ((Frame.refl.with_ses (by decide)).log (by decide) (by decide) (by decide)).raise (by decide) (by decide) (by decide) (by decide)

variable (h : m.host.window = false)
include h

theorem denyFirst_event : ((m.denyFirst word sec).word .dev 0x00C).getLsbD 9 = true := by
  unfold denyFirst
  rw [raise_event _ _ _ (by simp [h])]
  simp

theorem denyFirst_raise : m.denyFirst word sec = (({ m with ses := { m.ses with deniedSecond := some sec } } : State).log 3 0 0 9 word).setWord
    .dev 0x00C ((({ m with ses := { m.ses with deniedSecond := some sec } } : State).log 3 0 0 9 word).word .dev 0x00C ||| BitVec.ofNat 32 (2 ^ 9)) :=
  raise_of_open _ _ _ (by simp [h])

theorem denyFirst_ses : (m.denyFirst word sec).ses = { m.ses with deniedSecond := some sec } := by
  rw [denyFirst_raise m word sec h]; simp

theorem denyFirst_ctr (a : Nat) (ha : a ≠ 0x208) :
    (m.denyFirst word sec).ctr.get (fun _ => 0) a = (m.count .log 0 1).ctr.get (fun _ => 0) a := by
  rw [denyFirst_raise m word sec h, setWord_ctr]
  exact log_ctr _ _ _ _ _ _ a h ha

theorem denyFirst_logRing : (m.denyFirst word sec).logRing
    = m.logRing.set (fun _ => 0) ((m.rd .log LOG.LOG_CTRL.TAIL + m.rd .log LOG.LOG_CTRL.UNREAD) % 4096) (logEntry m.time 3 0 0 9 word) := by
  rw [denyFirst_raise m word sec h, setWord_logRing]
  exact log_logRing _ _ _ _ _ _ h
end

/-- R44: what a denied access does outside the interval of a warm reset. -/
theorem deny_denied (h : s.host.window = false) : s.Denied (s.deny bar2 write addr) bar2 write addr := by
  have hmark := denyMark_frame s bar2 write addr
  rw [deny_eq]
  split
  case isTrue hlater =>
    exact {
      count := denyMark_count s bar2 write addr
      last := denyMark_last s bar2 write addr
      first := fun hne => absurd hlater hne
      counter := denyMark_counter s bar2 write addr
      later := fun _ => ⟨hmark, by rintro rfl; rfl⟩
      frame := hmark.mono (by decide) (by decide) }
  case isFalse hfirst =>
    have hopen : (s.denyMark bar2 write addr).host.window = false := by rw [denyMark_window]; exact h
    have hframe := denyFirst_frame (s.denyMark bar2 write addr) (deniedWord bar2 write addr) (s.time.toNat / 1000000000)
    have hses (i : Nat) (hi : i < 0x1000) := hframe.reg .ses i hi (.inl (by decide)) (by simp)
    exact {
      count := (hses _ (by decide)).trans (denyMark_count s bar2 write addr)
      last := (hses _ (by decide)).trans (denyMark_last s bar2 write addr)
      first := fun _ => by
        refine ⟨?_, denyFirst_event _ _ _ hopen, ?_, ?_⟩
        · rw [denyFirst_ses _ _ _ hopen, denyMark_ses]
        · rw [denyFirst_ctr _ _ _ hopen _ (by decide), ← denyMark_ctr s bar2 write addr _ (by decide)]
          exact countAt_get_same _ 0x200 1
        · rw [denyFirst_logRing _ _ _ hopen, denyMark_log _ _ _ _ _ (by decide), denyMark_log _ _ _ _ _ (by decide), SMap.get_set_same,
            denyMark_time]
      counter := by
        rw [denyFirst_ctr _ _ _ hopen _ (by decide), ← denyMark_counter s bar2 write addr]
        exact countAt_get_ne _ 0x200 _ 1 (by decide)
      later := fun he => absurd he hfirst
      frame := (hmark.mono (by decide) (by decide)).trans (hframe.mono (by decide) (by decide)) }

theorem deny_out : (s.deny bar2 write addr).out = s.out := by
  rw [deny_eq]
  unfold denyFirst denyMark
  split <;> cases bar2 <;> simp

variable {s bar2 write addr} {u : State}

/-- What was sent out before does not matter. -/
theorem Denied.of_silent (h : s.silent.Denied u bar2 write addr) : s.Denied u bar2 write addr where
  count := h.count
  last := h.last
  first := h.first
  counter := h.counter
  later he := ⟨Frame.silent.trans (h.later he).1, (h.later he).2⟩
  frame := Frame.silent.trans h.frame

theorem Denied.emit (h : s.Denied u bar2 write addr) (o : Output) : s.Denied (u.emit o) bar2 write addr where
  count := h.count
  last := h.last
  first := h.first
  counter := h.counter
  later he := ⟨(h.later he).1.emit, (h.later he).2⟩
  frame := h.frame.emit

end Sys2Proof.Machine.State

namespace Sys2Proof.Machine

open Sys2Proof Reg

/-- Settles O9: a denied access reaches State.deny. -/
theorem deniedAccess : Obligations.deniedAccess := by
  intro s addr v p hans hopen
  have haligned : addr % 4 = 0 → addr / 4 * 4 = addr := by omega
  have hans' : s.silent.answering = true := hans
  have hopen' : s.silent.host.window = false := hopen
  have hread (bar2 : Bool) : s.Denied ((s.silent.deny bar2 false addr).emit (.completion [0])) bar2 false addr
      ∧ ((s.silent.deny bar2 false addr).emit (.completion [0])).out = [.completion [0]] :=
    ⟨(State.deny_denied s.silent bar2 false addr hopen').of_silent.emit _, by
      simp only [State.emit, State.deny_out, State.silent_out, List.nil_append]⟩
  refine ⟨fun h4 hp hrole => ?_, fun h4 hp hrole => ?_, fun h4 hshut => ?_⟩
  · have hgate : s.silent.write0 addr v 15 = s.touch.silent.deny false true addr := by
      rw [State.write0_gate, State.gateWrite_denied s.silent _ _ _ p hans' hopen' h4 hp (by rw [State.silent_role]; exact hrole),
        State.silent_touch]
    have htouch : s.touch.silent.host.window = false := by
      rcases State.touch_eq s with e | e <;> rw [e] <;> exact hopen
    refine answers_done (State.write0 addr v 15) rfl ?_
    rw [hgate]
    exact ⟨(State.deny_denied _ _ _ _ htouch).of_silent, State.deny_out _ _ _ _⟩
  · have hread0 : s.silent.read0 addr 1 = (s.silent.deny false false addr).emit (.completion [0]) := by
      have hdword : s.silent.readDword addr = (0, s.silent.deny false false addr) := by
        unfold State.readDword
        rw [State.silent_pageAt, hp, State.silent_role]
        simp only [hrole, Bool.false_eq_true, if_false]
      unfold State.read0
      rw [hopen', if_neg (by decide), if_neg (by decide), haligned h4]
      simp only [State.readDwords, hdword]
    refine answers_done (fun s => s.request (.read0 addr 1) (State.read0 addr 1)) rfl ?_
    simp only [State.request_answering _ _ _ hans', hread0]
    exact hread false
  · have hread2 : s.silent.read2 addr 1 = (s.silent.deny true false addr).emit (.completion [0]) := by
      have hshut' : s.silent.mayCount = false := hshut
      unfold State.read2
      rw [hopen', haligned h4, hshut', if_neg (by decide), if_neg (by decide), if_neg (by simp), if_pos (by decide)]
      rfl
    refine answers_done (fun s => s.request (.read2 addr 1) (State.read2 addr 1)) rfl ?_
    simp only [State.request_answering _ _ _ hans', hread2]
    exact hread true

end Sys2Proof.Machine
end

section
/-! PROOFS. What befalls an access to the register space on its way (R31, R33, R49, R69, R498). Settles O10. -/
namespace Sys2Proof.Machine.State

open Sys2Proof Reg

variable (s : State)

theorem countMalformed_word : s.countMalformed.word .dev 0x054
    = DEV.ACCESS_ERR.MALFORMED.put (s.word .dev 0x054) (min (s.rd .dev DEV.ACCESS_ERR.MALFORMED + 1) 0xFFFF) :=
  sat_word_same s .dev DEV.ACCESS_ERR.MALFORMED 1

theorem countUnmapped_word : s.countUnmapped.word .dev 0x054
    = DEV.ACCESS_ERR.UNMAPPED.put (s.word .dev 0x054) (min (s.rd .dev DEV.ACCESS_ERR.UNMAPPED + 1) 0xFFFF) :=
  sat_word_same s .dev DEV.ACCESS_ERR.UNMAPPED 1

variable {s} {v : State}

theorem Frame.countMalformed (h : Frame v s [(.dev, 0x054)] []) : Frame v s.countMalformed [(.dev, 0x054)] [] :=
  h.sat (by decide) (by decide)

theorem Frame.countUnmapped (h : Frame v s [(.dev, 0x054)] []) : Frame v s.countUnmapped [(.dev, 0x054)] [] :=
  h.sat (by decide) (by decide)

variable (r : HostReq) (f : State → State)

theorem request_down (h : s.linkUp = false) : s.request r f = s.emit .noCompletion := by
  unfold request; rw [h]; rfl

theorem request_held (h : s.linkUp = true) (hm : s.host.mgmt = .changing) :
    s.request r f = ({ s with host := { s.host with held := s.host.held ++ [r] } } : State).emit .held := by
  unfold request; rw [h, if_neg (by decide), if_pos hm]

variable (addr n : Nat)

theorem read0_window (h : s.host.window = true) : s.read0 addr n = s.emit (.completion (List.replicate n 0xFFFFFFFF)) := by
  unfold read0; rw [if_pos h]

theorem read0_long (h : s.host.window = false) (hn : 16 < n) : s.read0 addr n = s.emit .abort := by
  unfold read0; rw [h, if_neg (by decide), if_pos hn]

theorem read0_unmapped (h : s.host.window = false) (hp : s.pageAt (addr / 4 * 4) = none) :
    s.read0 addr 1 = s.countUnmapped.emit (.completion [0]) := by
  unfold read0
  rw [h, if_neg (by decide), if_neg (by decide)]
  simp only [readDwords, readDword, hp]

theorem countUnmapped_out : s.countUnmapped.out = s.out := by unfold countUnmapped; simp

theorem countMalformed_out : s.countMalformed.out = s.out := by unfold countMalformed; simp

end Sys2Proof.Machine.State

namespace Sys2Proof.Machine

open Sys2Proof Reg

section
variable {s u : State} {P : State → Prop} {addr n : Nat} {v : Word} {be : BitVec 4}

theorem answers_registerWrite (h : s.silent.write0 addr v be = u) (hP : P u) : Answers (.registerWrite addr v be) s P :=
  ⟨u, h ▸ rfl, hP⟩

theorem answers_bar0Read (h : s.silent.request (.read0 addr n) (State.read0 addr n) = u) (hP : P u) : Answers (.bar0Read addr n) s P :=
  ⟨u, h ▸ rfl, hP⟩

end

/-- Settles O10: each way through the gate of host writes and through that of reads. -/
theorem registerAccessPath : Obligations.registerAccessPath := by
  refine ⟨fun s addr v be => ⟨fun hdown => ?_, fun hup hm => ?_, fun hans hwin => ?_, fun hans hopen hbad => ?_,
      fun hans hopen hbe h4 hp => ?_⟩,
    fun s addr n => ⟨fun hdown => ?_, fun hup hm => ?_, fun hans hwin => ?_, fun hans hopen hn => ?_, fun hans hopen hp => ?_⟩⟩
  · exact answers_registerWrite (State.gateWrite_down s.silent _ _ _ _ hdown) rfl
  · refine answers_registerWrite (State.gateWrite_held s.silent _ _ _ _ hup hm) ⟨rfl, rfl, ?_⟩
    exact (State.Frame.silent.with_host (by decide)).emit
  · exact answers_registerWrite (State.gateWrite_window s.silent _ _ _ _ hans hwin) rfl
  · refine answers_registerWrite (State.gateWrite_malformed s.silent _ _ _ _ hans hopen hbad) ?_
    rw [State.silent_touch, State.countMalformed_word, State.silent_word, State.silent_rd, State.touch_word, State.touch_rd]
    exact ⟨rfl, State.Frame.silent.countMalformed⟩
  · subst hbe
    refine answers_registerWrite (State.gateWrite_unmapped s.silent _ _ _ hans hopen h4 hp) ?_
    rw [State.silent_touch, State.countUnmapped_word, State.silent_word, State.silent_rd, State.touch_word, State.touch_rd]
    exact ⟨rfl, State.Frame.silent.countUnmapped⟩
  · exact answers_bar0Read (State.request_down _ _ hdown) ⟨rfl, State.Frame.silent.emit⟩
  · exact answers_bar0Read (State.request_held _ _ hup hm) ⟨rfl, rfl, (State.Frame.silent.with_host (by decide)).emit⟩
  · exact answers_bar0Read ((State.request_answering s.silent _ _ hans).trans (State.read0_window _ _ hwin)) ⟨rfl, State.Frame.silent.emit⟩
  · exact answers_bar0Read ((State.request_answering s.silent _ _ hans).trans (State.read0_long _ _ hopen hn)) ⟨rfl, State.Frame.silent.emit⟩
  · refine answers_bar0Read ((State.request_answering s.silent _ _ hans).trans (State.read0_unmapped _ hopen hp))
      ⟨?_, State.Frame.silent.countUnmapped.emit, State.countUnmapped_word _⟩
    simp only [State.emit, State.countUnmapped_out, State.silent_out, List.nil_append]

end Sys2Proof.Machine
end

section
/-! PROOFS. Reads that are served (R31, R35, R457, R458). Settles O12. -/
namespace Sys2Proof.Machine.State

open Sys2Proof Reg

variable (s : State)

/-! ## Registers that read as they stand -/

/-- R35: the header's registers stand on every page. -/
theorem regRow_header (t : PageType) {j : Nat} (h : j < 8) : (regRow t (4 * j)).isNone = false := by
  have hrow : ∀ j, j < 8 → (HDR.rows.find? (·.off = 4 * j)).isNone = false := by decide
  unfold regRow
  rw [if_pos (by omega)]
  exact hrow j h

theorem mirrorWord_header (p : Page) {off : Nat} (h : off < 0x020) : mirrorWord p off = false := by
  cases p <;> simp [mirrorWord] <;> omega

theorem snapLow_header (t : PageType) {off : Nat} (h : off < 0x020) : snapLow t off = false := by
  cases t <;> simp [snapLow] <;> omega

/-- A header register reads the word that stands there (R35). -/
theorem readReg_header (p : Page) {j : Nat} (h : j < 8) : s.readReg p (4 * j) = (s.word p (4 * j), s) := by
  have hlow : 4 * j < 0x020 := by omega
  have hlive : s.live p (4 * j) = s.word p (4 * j) := by
    unfold live
    rw [regRow_header p.type h, if_neg (by decide), if_neg (by simp; omega), if_pos hlow]
  unfold readReg
  rw [mirrorWord_header p hlow, snapLow_header p.type hlow, snapLow_header p.type (by omega), if_neg (by decide),
    if_neg (by decide), if_neg (by simp)]
  split
  · omega
  · omega
  · omega
  · rw [hlive]

/-- A stored word reads as it stands; the view of a subcarrier's code follows the map. -/
theorem readReg_plain {p : Page} {off : Nat} (h : (p.type, off) ∈ plainRegs) (hview : (p.type, off) ≠ (.txo, 0x04C)) :
    s.readReg p off = (s.word p off, s) := by
  cases p <;> simp [Page.type, plainRegs] at h hview
  -- what is left are the page types that have stored words, with the offsets of these
  all_goals rcases h with rfl | rfl | rfl | rfl | rfl | rfl
  all_goals first | rfl | exact absurd rfl hview

/-! ## Several dwords -/

variable {s} {p : Page}

theorem pageAt_offset (h : s.pageAt p.base = some p) {off : Nat} (ho : off < 0x1000) : s.pageAt (p.base + off) = some p := by
  rw [pageAt_base s p off ho, ← pageAt_base s p 0 (by decide)]
  exact h

theorem readDwords_header (hp : s.pageAt p.base = some p) (hr : mayRead s.role p = true) {i n : Nat} (h : i + n ≤ 8) :
    s.readDwords (p.base + 4 * i) n = ((List.range n).map fun j => s.word p (4 * (i + j)), s) := by
  induction n generalizing i with
  | zero => rfl
  | succ n ih =>
    have hdword : s.readDword (p.base + 4 * i) = (s.word p (4 * i), s) := by
      rw [readDword_served s (pageAt_offset hp (by omega)) hr, Page.base_mod p _ (by omega), readReg_header s p (by omega)]
    have hrest := ih (i := i + 1) (by omega)
    rw [show p.base + 4 * (i + 1) = p.base + 4 * i + 4 by omega] at hrest
    rw [readDwords, hdword]
    simp only [hrest]
    simp only [List.range_succ_eq_map, List.map_cons, List.map_map, Function.comp_def, Nat.add_zero, Nat.succ_eq_add_one,
      Nat.add_assoc, Nat.add_comm 1]

theorem read0_header (hopen : s.host.window = false) (hp : s.pageAt p.base = some p) (hr : mayRead s.role p = true) {i n : Nat}
    (h : i + n ≤ 8) :
    s.read0 (p.base + 4 * i) n = s.emit (.completion ((List.range n).map fun j => s.word p (4 * (i + j)))) := by
  have haligned : (p.base + 4 * i) / 4 * 4 = p.base + 4 * i := by
    have := p.base_mod4 (4 * i)
    omega
  unfold read0
  rw [hopen, if_neg (by decide), if_neg (by omega), haligned, readDwords_header hp hr h]

/-! ## The counter aperture (R457, R458) -/

variable (hopen : s.host.window = false) (hmay : s.mayCount = true) (slot : Nat)
include hopen

theorem read2_misaligned : s.read2 (8 * slot + 4) 2 = s.countMalformed.emit .abort := by
  unfold read2
  rw [hopen, if_neg (by decide), if_neg (by decide), if_pos (by simp; omega)]

theorem read2_long {addr n : Nat} (h : 16 < n) : s.read2 addr n = s.emit .abort := by
  unfold read2
  rw [hopen, if_neg (by decide), if_pos h]

include hmay

/-- A read that reaches the counters. -/
theorem read2_served {addr n : Nat} (h4 : addr % 4 = 0) (hn : n ≤ 16) (h8 : n = 2 → addr % 8 = 0) :
    s.read2 addr n = (s.readSlots addr n).2.emit (.completion (s.readSlots addr n).1) := by
  have haligned : addr / 4 * 4 = addr := by omega
  unfold read2
  rw [hopen, hmay, haligned, if_neg (by decide), if_neg (by omega), if_neg (by simpa using h8), if_neg (by decide)]

theorem read2_qword : s.read2 (8 * slot) 2
    = s.emit (.completion [BitVec.ofNat 32 (s.ctrNow (8 * slot)), BitVec.ofNat 32 (s.ctrNow (8 * slot) / 2 ^ 32)]) := by
  have h8 : 8 * slot / 8 * 8 = 8 * slot := by omega
  rw [read2_served hopen hmay (by omega) (by decide) (by omega)]
  simp only [readSlots, h8, Nat.mul_mod_right, if_true]

theorem read2_low : s.read2 (8 * slot) 1
    = ({ s with host := { s.host with hold2 := BitVec.ofNat 32 (s.ctrNow (8 * slot) / 2 ^ 32) } } : State).emit
        (.completion [BitVec.ofNat 32 (s.ctrNow (8 * slot))]) := by
  have h8 : 8 * slot / 8 * 8 = 8 * slot := by omega
  rw [read2_served hopen hmay (by omega) (by decide) (by omega)]
  simp only [readSlots, h8, Nat.mul_mod_right, if_true]

theorem read2_high : s.read2 (8 * slot + 4) 1 = s.emit (.completion [s.host.hold2]) := by
  have h8 : ¬(8 * slot + 4) % 8 = 0 := by omega
  rw [read2_served hopen hmay (by omega) (by decide) (by omega)]
  simp only [readSlots, h8, if_false]

end Sys2Proof.Machine.State

namespace Sys2Proof.Machine

open Sys2Proof Reg

theorem answers_bar2Read {s u : State} {P : State → Prop} {addr n : Nat}
    (h : s.silent.request (.read2 addr n) (State.read2 addr n) = u) (hP : P u) : Answers (.bar2Read addr n) s P :=
  ⟨u, h ▸ rfl, hP⟩

/-- Settles O12: the words that stand there are what the reads return. -/
theorem servedReads : Obligations.servedReads := by
  refine ⟨fun s p hans hopen hp hr => ⟨fun i n hin => ?_, fun off hplain hview => ?_⟩, fun s slot hans hopen hmay => ?_⟩
  · have hopen' : s.silent.host.window = false := hopen
    have hr' : State.mayRead s.silent.role p = true := by rw [State.silent_role]; exact hr
    exact answers_bar0Read ((State.request_answering s.silent _ _ hans).trans (State.read0_header hopen' hp hr' hin))
      ⟨rfl, State.Frame.silent.emit⟩
  · obtain ⟨hoff, h4⟩ := State.plainRegs_offset hplain
    refine answers_read0_one hoff h4 rfl hans hopen (State.pageAt_offset hp hoff) hr ?_
    rw [State.readReg_plain _ hplain hview]
    exact ⟨rfl, State.Frame.silent.emit⟩
  · have hserved (addr n : Nat) := State.request_answering s.silent (.read2 addr n) (State.read2 addr n) hans
    have hopen' : s.silent.host.window = false := hopen
    have hmay' : s.silent.mayCount = true := hmay
    refine ⟨?_, ?_, ?_, ?_, fun n hn => ?_⟩
    · exact answers_bar2Read ((hserved _ _).trans (State.read2_qword hopen' hmay' slot)) ⟨rfl, State.Frame.silent.emit⟩
    · exact answers_bar2Read ((hserved _ _).trans (State.read2_low hopen' hmay' slot))
        ⟨rfl, rfl, (State.Frame.silent.with_host (by decide)).emit⟩
    · exact answers_bar2Read ((hserved _ _).trans (State.read2_high hopen' hmay' slot)) ⟨rfl, State.Frame.silent.emit⟩
    · refine answers_bar2Read ((hserved _ _).trans (State.read2_misaligned hopen' slot))
        ⟨?_, State.Frame.silent.countMalformed.emit, State.countMalformed_word _⟩
      simp only [State.emit, State.countMalformed_out, State.silent_out, List.nil_append]
    · exact answers_bar2Read ((hserved _ _).trans (State.read2_long hopen' hn)) ⟨rfl, State.Frame.silent.emit⟩

end Sys2Proof.Machine
end

section
/-! PROOFS. Configuration requests, the MSI-X table and the keepalive write (R28, R29, R49, R498). Settles O14. -/
namespace Sys2Proof.Machine.State

open Sys2Proof Reg

variable (s : State)

theorem configRead_identity : s.configRead 0 = (match s.part with | .ec => 0x56321D3F | .el => 0x56331D3F, s) := by
  unfold configRead
  cases s.part <;> rfl

/-- Interrupt Pin reads 0 in a word that is otherwise a free value. -/
theorem configRead_interruptPin : s.configRead 0x3C = (Config.configWord 0x3C s.fresh &&& 0xFFFF00FF, { s with fresh := s.fresh + 1 }) := rfl

theorem interruptPin (w : Word) : (w &&& 0xFFFF00FF).extractLsb' 8 8 = 0 := by
  rw [BitVec.extractLsb'_and, show (0xFFFF00FF : Word).extractLsb' 8 8 = 0 by decide]
  exact BitVec.and_zero

theorem write4_table {off : Nat} (v : Word) (h : off < 0x200) (h4 : off % 4 = 0) : s.write4 off v =
    { s with host := { s.host with msix := s.host.msix.set msixDefault off (if off % 16 = 12 then v &&& 1 else v) } } := by
  unfold write4
  rw [if_pos (by simp [h, h4])]

theorem write4_pba {off : Nat} (v : Word) (h : 0x200 ≤ off) : s.write4 off v = s := by
  unfold write4
  rw [if_neg (by simp; omega)]

end Sys2Proof.Machine.State

namespace Sys2Proof.Machine

open Sys2Proof Reg

section
variable {s : State} {P : State → Prop}

theorem answers_config {r : CfgReq} (h : s.answering = true) (hP : P (s.silent.config r)) : Answers (.configRequest r) s P :=
  answers_done (fun s => s.request (.config r) (State.config r)) rfl (by
    simp only [State.request_answering s.silent _ _ h]; exact hP)

theorem answers_bar4Write {off : Nat} {v : Word} (h : s.answering = true) (hP : P (s.silent.write4 off v)) :
    Answers (.bar4Write off v) s P := by
  obtain ⟨hup, -⟩ := (State.answering_iff s).1 h
  refine answers_done (fun s => if s.linkUp then s.request (.write4 off v) (State.write4 off v) else s) rfl ?_
  have hup' : s.silent.linkUp = true := hup
  simp only [hup', if_true, State.request_answering s.silent _ _ h]
  exact hP

theorem exec_sessionKeepalive (s : State) : exec .sessionKeepalive s = s.done fun s => s.gateReg .ses 0x038 0 fun s => s := rfl

end

/-- Settles O14: what each request does to the host interface. -/
theorem configurationAndTable : Obligations.configurationAndTable := by
  intro s off v e m
  refine ⟨fun h => answers_config h ?_, fun h => answers_config h ?_, fun h => answers_config h ?_, fun h => answers_config h ?_,
    fun h hoff h4 => answers_bar4Write h ?_, fun h hoff => answers_bar4Write h ?_,
    fun h => answers_write _ (exec_sessionKeepalive s) (by decide) (by decide) h ?_⟩
  · simp only [State.config, State.configRead_identity]
    exact ⟨rfl, State.Frame.silent.emit⟩
  · exact ⟨rfl, State.Frame.silent.emit⟩
  · simp only [State.config, State.configRead_interruptPin]
    exact ⟨⟨_, rfl, State.interruptPin _⟩, rfl, (State.Frame.silent.with_fresh (by decide)).emit⟩
  · exact ⟨rfl, rfl, State.Frame.silent.with_host (by decide)⟩
  · rw [State.write4_table _ v hoff h4]
    exact ⟨SMap.get_set_same _ _ _ _, fun o ho => SMap.get_set_ne _ _ _ _ _ ho, rfl, rfl, State.Frame.silent.with_host (by decide)⟩
  · rw [State.write4_pba _ v hoff]
    exact ⟨rfl, State.Frame.silent⟩
  · rw [← State.silent_touch]
    refine ⟨fun hrole => ?_, fun hrole => ?_, ?_, State.Frame.silent.touch (by decide)⟩
    · rw [State.touch, if_neg (by rw [State.silent_role]; exact hrole)]; rfl
    · rw [State.touch, if_pos (by rw [State.silent_role]; exact hrole)]; rfl
    · rcases State.touch_eq s.silent with h' | h' <;> rw [h'] <;> rfl

end Sys2Proof.Machine
end

section
/-! PROOFS. The host's session: request, proof, close, inactivity; the lockout words; KETTLE_CTRL (R45-R49, R53, R58, R59, R292).
Settles O19 and O20. -/
namespace Sys2Proof.Machine.State

open Sys2Proof Reg

variable (s : State)

/-! ## The timer of inactivity leaves everything else -/

theorem touch_frame : s.Frame s.touch [] [.ses] := Frame.refl.touch (List.mem_singleton_self _)

theorem touch_fresh : s.touch.fresh = s.fresh := (touch_frame s).same .fresh (by decide)
theorem touch_hubEnd : s.touch.hubEnd = s.hubEnd := (touch_frame s).same .hubEnd (by decide)
theorem touch_field : s.touch.field = s.field := (touch_frame s).same .field (by decide)
theorem touch_damage : s.touch.damage = s.damage := (touch_frame s).same .damage (by decide)
theorem touch_logRing : s.touch.logRing = s.logRing := (touch_frame s).same .logRing (by decide)
theorem touch_bit (p : Page) (f : Fld) : s.touch.bit p f = s.bit p f := by unfold bit; rw [touch_rd]

theorem touch_ses : s.touch.ses = { s.ses with lastWrite := s.touch.ses.lastWrite } := by
  rcases touch_eq s with e | e <;> rw [e]

theorem touch_proof : s.touch.ses.proof = s.ses.proof := by rw [touch_ses]
theorem touch_reqRole : s.touch.ses.reqRole = s.ses.reqRole := by rw [touch_ses]
theorem touch_nonce : s.touch.ses.nonce = s.ses.nonce := by rw [touch_ses]
theorem touch_lockWord : s.touch.lockWord = s.lockWord := by unfold lockWord; rw [touch_field]

theorem accepts_open {p : Page} {i : Nat} (h : s.accepts p i = true) : s.host.window = false := by
  unfold accepts at h
  simp only [Bool.and_eq_true, Bool.not_eq_true'] at h
  exact h.1.1.2

/-! ## REQUEST, PROOF_PORT and SUBMIT (R45, R47) -/

theorem effSesCtrl_request (role : BitVec 2) : effSesCtrl (BitVec.ofNat 32 (0x10 + role.toNat)) s = s.sesRequest role.toNat := by
  have hfields : ∀ r : BitVec 2, let v : Word := BitVec.ofNat 32 (0x10 + r.toNat)
      SES.SES_CTRL.REQUEST.get v = 1 ∧ SES.SES_CTRL.SUBMIT.get v = 0 ∧ SES.SES_CTRL.CLOSE.get v = 0
      ∧ SES.SES_CTRL.ROLE.get v = r.toNat := by decide
  obtain ⟨hrequest, hsubmit, hclose, hrole⟩ := hfields role
  unfold effSesCtrl
  rw [hrequest, hsubmit, hclose, hrole]
  rfl

theorem effSesCtrl_submit : effSesCtrl 0x20 s = s.sesSubmit := rfl
theorem effSesCtrl_close : effSesCtrl 0x40 s = s.closeSession := rfl

theorem sesRequest_ignored {role : Nat} (h : role = 0 ∨ s.bit .ses SES.SES_STATUS.PROOF_PENDING = true) : s.sesRequest role = s := by
  unfold sesRequest
  rw [if_pos (by simpa using h)]

theorem ofNat_low (x : BitVec 64) : BitVec.ofNat 32 x.toNat = x.extractLsb' 0 32 := by
  apply BitVec.eq_of_toNat_eq; simp

theorem ofNat_high (x : BitVec 64) : BitVec.ofNat 32 (x.toNat / 2 ^ 32) = x.extractLsb' 32 32 := by
  apply BitVec.eq_of_toNat_eq; simp [Nat.shiftRight_eq_div_pow]

section
variable {s} {role : Nat} (hrole : role ≠ 0) (hpend : s.bit .ses SES.SES_STATUS.PROOF_PENDING = false)
include hrole hpend

/-- A REQUEST that is served. -/
theorem sesRequest_served : s.sesRequest role =
    (((({ s with fresh := s.fresh + 1, ses := { s.ses with reqRole := role, nonce := Config.nonce s.fresh, proof := [] } } : State).wr .ses
      SES.NONCE_LO.word (Config.nonce s.fresh).toNat).wr .ses SES.NONCE_HI.word ((Config.nonce s.fresh).toNat / 2 ^ 32)).wr .ses
      SES.COUNTER.word s.lockWord.host.counter.toNat).wb .ses SES.SES_STATUS.NONCE_VALID true := by
  unfold sesRequest
  rw [if_neg (by simp [hrole, hpend])]
  rfl

theorem sesRequest_ses : (s.sesRequest role).ses = { s.ses with reqRole := role, nonce := Config.nonce s.fresh, proof := [] } := by
  rw [sesRequest_served hrole hpend]; rfl

theorem sesRequest_fresh : (s.sesRequest role).fresh = s.fresh + 1 := by
  rw [sesRequest_served hrole hpend]; rfl

theorem sesRequest_out : (s.sesRequest role).out = s.out := by
  rw [sesRequest_served hrole hpend]; rfl

theorem sesRequest_valid : (s.sesRequest role).bit .ses SES.SES_STATUS.NONCE_VALID = true := by
  rw [sesRequest_served hrole hpend]
  exact bit_wb_same _ _ _ _ (by decide) (by decide)

theorem sesRequest_nonceLo : (s.sesRequest role).word .ses 0x028 = (Config.nonce s.fresh).extractLsb' 0 32 := by
  rw [sesRequest_served hrole hpend, wb, word_wr_ne _ _ _ _ _ _ (by decide) (by decide) (.inr (by decide)),
    word_wr_ne _ _ _ _ _ _ (by decide) (by decide) (.inr (by decide)), word_wr_ne _ _ _ _ _ _ (by decide) (by decide) (.inr (by decide))]
  exact (word_wr_same _ .ses SES.NONCE_LO.word _).trans ((Fld.put_whole _ _ _).trans (ofNat_low _))

theorem sesRequest_nonceHi : (s.sesRequest role).word .ses 0x02C = (Config.nonce s.fresh).extractLsb' 32 32 := by
  rw [sesRequest_served hrole hpend, wb, word_wr_ne _ _ _ _ _ _ (by decide) (by decide) (.inr (by decide)),
    word_wr_ne _ _ _ _ _ _ (by decide) (by decide) (.inr (by decide))]
  exact (word_wr_same _ .ses SES.NONCE_HI.word _).trans ((Fld.put_whole _ _ _).trans (ofNat_high _))

theorem sesRequest_counter : (s.sesRequest role).word .ses 0x030 = BitVec.ofNat 32 s.lockWord.host.counter.toNat := by
  rw [sesRequest_served hrole hpend, wb, word_wr_ne _ _ _ _ _ _ (by decide) (by decide) (.inr (by decide))]
  exact (word_wr_same _ .ses SES.COUNTER.word _).trans (Fld.put_whole _ _ _)

end

variable {s} in
theorem Frame.sesRequest {v : State} {role : Nat}
    (h : Frame v s [(.ses, 0x020), (.ses, 0x028), (.ses, 0x02C), (.ses, 0x030)] [.ses, .fresh]) :
    Frame v (s.sesRequest role) [(.ses, 0x020), (.ses, 0x028), (.ses, 0x02C), (.ses, 0x030)] [.ses, .fresh] :=
  Frame.ite (fun _ => h) fun _ => (((((h.with_fresh (by decide)).with_ses (by decide)).wr (by decide) (by decide)).wr (by decide)
    (by decide)).wr (by decide) (by decide)).wb (by decide) (by decide)

/-- A proof that is sent to the field island. -/
theorem sesSubmit_sent (hpend : s.bit .ses SES.SES_STATUS.PROOF_PENDING = false) (hup : s.hubEnd.up = true)
    (hlocked : s.bit .ses SES.SES_STATUS.LOCKED = false) (hvalid : s.bit .ses SES.SES_STATUS.NONCE_VALID = true)
    (hproof : s.ses.proof.length = 8) : s.sesSubmit =
    (({ s.toField (.proofCheck s.ses.reqRole s.ses.nonce (s.word .ses 0x030) s.ses.proof) with
        ses := { s.ses with discard := s.ses.discard && s.proofUnderway } } : State).wb .ses SES.SES_STATUS.PROOF_PENDING true).wb .ses
      SES.SES_STATUS.NONCE_VALID false := by
  unfold sesSubmit
  rw [if_neg (by simp [hpend]), if_neg (by simp [hup]), if_neg (by simp [hlocked]), if_neg (by simp [hvalid]), if_neg (by omega)]
  rfl

/-- A proof that is refused, in the order of R47. -/
theorem sesSubmit_refused (hpend : s.bit .ses SES.SES_STATUS.PROOF_PENDING = false)
    (h : (s.hubEnd.up && !s.bit .ses SES.SES_STATUS.LOCKED && s.bit .ses SES.SES_STATUS.NONCE_VALID
      && decide (8 ≤ s.ses.proof.length)) = false) :
    s.sesSubmit = s.wr .ses SES.SES_STATUS.LAST_RESULT (if s.hubEnd.up = false then 5 else if s.bit .ses SES.SES_STATUS.LOCKED then 3
      else if s.bit .ses SES.SES_STATUS.NONCE_VALID = false then 4 else 7) := by
  unfold sesSubmit
  rw [if_neg (by simp [hpend])]
  cases hup : s.hubEnd.up
  · rfl
  cases hlocked : s.bit .ses SES.SES_STATUS.LOCKED
  case true => rfl
  cases hvalid : s.bit .ses SES.SES_STATUS.NONCE_VALID
  · rfl
  have hshort : s.ses.proof.length < 8 := by simpa [hup, hlocked, hvalid] using h
  rw [if_pos hshort]
  rfl

/-! ## The close (R49) -/

theorem raise_bit {p : Page} {b : Nat} (hp : p ≠ .log) (hb : b < 32) : ((s.raise p b).word p 0x00C).getLsbD b = true := by
  have hset : ((s.setWord p 0x00C (s.word p 0x00C ||| BitVec.ofNat 32 (2 ^ b))).word p 0x00C).getLsbD b = true := by
    rw [word_setWord_same, BitVec.getLsbD_or, BitVec.getLsbD_ofNat, decide_eq_true hb, Nat.testBit_two_pow_self]
    simp
  unfold raise
  dsimp only
  split
  · rw [log_word _ _ _ _ _ _ _ _ (by decide) hp]; exact hset
  · exact hset

theorem closeSession_open (h : s.role ≠ 0) : s.closeSession = ((s.wr .ses SES.SES_STATUS.ROLE 0).raise .ses 1).log 2 0 1 1 s.role := by
  unfold closeSession
  rw [if_neg h]
  rfl

theorem closeSession_status (h : s.role ≠ 0) : s.closeSession.word .ses 0x020 = SES.SES_STATUS.ROLE.put (s.word .ses 0x020) 0 := by
  rw [closeSession_open s h, log_word _ _ _ _ _ _ _ _ (by decide) (by decide),
    raise_word _ _ _ _ _ (by decide) (.inr (by decide)) (.inl (by decide))]
  exact word_wr_same s .ses SES.SES_STATUS.ROLE 0

theorem closeSession_role (h : s.role ≠ 0) : s.closeSession.role = 0 := by
  show SES.SES_STATUS.ROLE.get (s.closeSession.word .ses 0x020) = 0
  rw [closeSession_status s h, Fld.get_put_same _ _ _ (by decide)]
  rfl

theorem closeSession_event (h : s.role ≠ 0) : (s.closeSession.word .ses 0x00C).getLsbD 1 = true := by
  rw [closeSession_open s h, log_word _ _ _ _ _ _ _ _ (by decide) (by decide)]
  exact raise_bit _ (by decide) (by decide)

theorem closeSession_out : s.closeSession.out = s.out := by
  unfold closeSession sesEvent
  split <;> simp

variable {s} in
theorem Frame.closeSession {v : State} {l : List (Page × Nat)} {ps : List StatePart} (h : Frame v s l ps) (hstatus : (Page.ses, 0x020) ∈ l)
    (hevent : (Page.ses, 0x00C) ∈ l) (hc : StatePart.ctr ∈ ps) (hr : StatePart.logRing ∈ ps) (hd : StatePart.damage ∈ ps) :
    Frame v s.closeSession l ps :=
  Frame.ite (fun _ => h) fun _ => ((h.wr (by decide) hstatus).raise hevent hc hr hd).log hc hr hd

/-! ## The lockout words (R48, R292) -/

/-- Writing the word changes the field island alone. -/
theorem setLock_eq (w : LockWord) : s.setLock w = { s with field := (s.setLock w).field } := rfl

theorem setLock_out (w : LockWord) : (s.setLock w).out = s.out := by rw [setLock_eq]

/-- The copies written agree. -/
theorem setLock_lockWord (w : LockWord) : (s.setLock w).lockWord = w := by
  show (match vote (writeCopies (s.voteWord 4).field.lock w) with
    | some w => w
    | none => _) = w
  simp [vote, writeCopies]

variable {s} in
theorem Frame.setLock {v : State} {w : LockWord} {l : List (Page × Nat)} {ps : List StatePart} (h : Frame v s l ps)
    (hm : StatePart.field ∈ ps) : Frame v (s.setLock w) l ps := by
  rw [setLock_eq]; exact h.with_field hm

end Sys2Proof.Machine.State

namespace Sys2Proof.Machine

open Sys2Proof Reg

section
variable (s : State)

theorem exec_sessionRequest (role : BitVec 2) : exec (.sessionRequest role) s = s.done fun t =>
    t.gateReg .ses 0x024 (BitVec.ofNat 32 (0x10 + role.toNat)) (State.effSesCtrl (BitVec.ofNat 32 (0x10 + role.toNat))) := rfl
theorem exec_proofPortWrite (v : Word) : exec (.proofPortWrite v) s = s.done fun t => t.gateReg .ses 0x034 v (State.effProofPort v) := rfl
theorem exec_sessionSubmit : exec .sessionSubmit s = s.done fun t => t.gateReg .ses 0x024 0x20 (State.effSesCtrl 0x20) := rfl
theorem exec_sessionClose : exec .sessionClose s = s.done fun t => t.gateReg .ses 0x024 0x40 (State.effSesCtrl 0x40) := rfl
theorem exec_kettleCtrlClear (v : Word) : exec (.kettleCtrlClear v) s = s.done fun t => t.gateReg .dev 0x03C v (State.effKettleCtrl v) := rfl
theorem exec_sessionInactivityTimeout : exec .sessionInactivityTimeout s = s.done fun t =>
    if t.role = 0 then t else ((t.closeSession).wr .ses SES.SES_STATUS.LAST_RESULT 6).count .ses 3 1 := rfl
theorem exec_lockoutExpiry (i : Iface) : exec (.lockoutExpiry i) s = s.done fun t =>
    if !t.fieldAwake then t
    else match i with
      | .host => t.setLock { t.lockWord with host := { t.lockWord.host with remain := 0 } }
      | .rail => t.setLock { t.lockWord with rail := { t.lockWord.rail with remain := 0 } } := rfl
theorem exec_lockoutSaveTick : exec .lockoutSaveTick s = s.done fun t =>
    if !t.fieldAwake then t
    else t.setLock {
      host := if 1 < t.lockWord.host.remain then { t.lockWord.host with remain := t.lockWord.host.remain - 1 } else t.lockWord.host
      rail := if 1 < t.lockWord.rail.remain then { t.lockWord.rail with remain := t.lockWord.rail.remain - 1 } else t.lockWord.rail } := rfl

end

/-- Settles O19: the effects of SES_CTRL and PROOF_PORT. -/
theorem hostSession : Obligations.hostSession := by
  intro s role v
  have hbit (f : Fld) : s.touch.silent.bit .ses f = s.bit .ses f := s.touch_bit .ses f
  have hrole : s.touch.silent.role = s.role := s.touch_role
  have hup : s.touch.silent.hubEnd = s.hubEnd := s.touch_hubEnd
  have hproof : s.touch.silent.ses.proof = s.ses.proof := s.touch_proof
  refine ⟨fun hne hpend hacc => ?_, fun hignored hacc => ?_, fun hacc => ?_, fun hpend hlink hlocked hvalid hlen hacc => ?_,
    fun hpend hacc hbad => ?_, fun hopen hacc => ?_, ?_⟩
  · have hne' : role.toNat ≠ 0 := fun h => hne (BitVec.eq_of_toNat_eq h)
    have hpend' := (hbit _).trans hpend
    refine answers_write _ (exec_sessionRequest s role) (by decide) (by decide) hacc ?_
    rw [State.effSesCtrl_request, State.sesRequest_ses hne' hpend', State.sesRequest_nonceLo hne' hpend', State.sesRequest_nonceHi hne' hpend',
      State.sesRequest_counter hne' hpend', State.sesRequest_fresh hne' hpend', State.sesRequest_out hne' hpend']
    refine ⟨State.sesRequest_valid hne' hpend', rfl, rfl, rfl, rfl, ?_, ?_, rfl, State.Frame.silent.sesRequest⟩
    · exact congrArg (fun w : LockWord => BitVec.ofNat 32 w.host.counter.toNat) s.touch_lockWord
    · exact congrArg (· + 1) s.touch_fresh
  · refine answers_write _ (exec_sessionRequest s role) (by decide) (by decide) hacc ?_
    rw [State.effSesCtrl_request, State.sesRequest_ignored _ (hignored.imp (by rintro rfl; rfl) (hbit _).trans)]
    exact ⟨rfl, State.Frame.silent⟩
  · refine answers_write _ (exec_proofPortWrite s v) (by decide) (by decide) hacc ?_
    unfold State.effProofPort
    rw [hproof]
    split
    · exact ⟨rfl, rfl, State.Frame.silent.with_ses (by decide)⟩
    · exact ⟨rfl, rfl, State.Frame.silent⟩
  · refine answers_write _ (exec_sessionSubmit s) (by decide) (by decide) hacc ?_
    rw [State.effSesCtrl_submit, State.sesSubmit_sent _ ((hbit _).trans hpend) (by rw [hup]; exact hlink) ((hbit _).trans hlocked)
      ((hbit _).trans hvalid) (by rw [hproof]; exact hlen)]
    refine ⟨?_, State.bit_wb_same _ _ _ _ (by decide) (by decide), ?_, rfl,
      (((State.Frame.silent.toField (by decide)).with_ses (by decide)).wb (by decide) (by decide)).wb (by decide) (by decide)⟩
    · rw [State.wb, State.bit_wr_ne _ _ _ _ _ _ (by decide) (by decide) (.inr (.inr (by decide)))]
      exact State.bit_wb_same _ _ _ _ (by decide) (by decide)
    · show State.sendFrom s.touch.hubEnd (.proofCheck s.touch.ses.reqRole s.touch.ses.nonce (s.touch.word .ses 0x030) s.touch.ses.proof) = _
      rw [State.touch_hubEnd, State.touch_reqRole, State.touch_nonce, State.touch_word, State.touch_proof]
  · refine answers_write _ (exec_sessionSubmit s) (by decide) (by decide) hacc ?_
    rw [State.effSesCtrl_submit, State.sesSubmit_refused _ ((hbit _).trans hpend) (by rw [hup, hbit, hbit, hproof]; exact hbad), hup, hbit, hbit]
    refine ⟨?_, rfl, State.Frame.silent.wr (by decide) (by decide)⟩
    have hword := State.word_wr_same s.touch.silent .ses SES.SES_STATUS.LAST_RESULT (if s.hubEnd.up = false then 5
      else if s.bit .ses SES.SES_STATUS.LOCKED then 3 else if s.bit .ses SES.SES_STATUS.NONCE_VALID = false then 4 else 7)
    rw [State.silent_word, State.touch_word] at hword
    exact hword
  · have hopen' : s.touch.silent.role ≠ 0 := by rw [hrole]; exact hopen
    refine answers_write _ (exec_sessionClose s) (by decide) (by decide) hacc ?_
    rw [State.effSesCtrl_close]
    exact ⟨State.closeSession_role _ hopen', State.closeSession_event _ hopen', State.closeSession_out _,
      State.Frame.silent.closeSession (by decide) (by decide) (by decide) (by decide) (by decide)⟩
  · exact answers_done (fun t => t.wb .ses SES.SES_STATUS.NONCE_VALID false) rfl
      ⟨State.bit_wb_same _ _ _ _ (by decide) (by decide), rfl, State.Frame.silent.wb (by decide) (by decide)⟩

/-- Settles O20: the close, the words of the lockout written by vote, KETTLE_CTRL. -/
theorem lockoutAndKettleClear : Obligations.lockoutAndKettleClear := by
  intro s v
  have hasleep (h : s.fieldAwake = false) : (!s.silent.fieldAwake) = true := by rw [Bool.not_eq_true']; exact h
  have hawake (h : s.fieldAwake = true) : ¬(!s.silent.fieldAwake) = true := by rw [Bool.not_eq_true', Bool.not_eq_false]; exact h
  have hlock (w : LockWord) : (s.silent.setLock w).lockWord = w ∧ (s.silent.setLock w).out = [] ∧ s.Frame (s.silent.setLock w) [] [.field] :=
    ⟨State.setLock_lockWord _ w, State.setLock_out _ w, State.Frame.silent.setLock (by decide)⟩
  refine ⟨fun hopen => ?_, fun h i => ⟨?_, ?_⟩, fun h => ?_, fun h => ?_, fun h => ?_, fun hacc hconfirm hclear => ?_,
    fun hacc hconfirm hclear => ?_, fun hacc hconfirm => ?_⟩
  · have hopen' : s.silent.role ≠ 0 := by rw [State.silent_role]; exact hopen
    refine answers_done _ (exec_sessionInactivityTimeout s) ?_
    rw [if_neg hopen']
    refine ⟨?_, ?_, ?_, ?_, ((State.Frame.silent.closeSession (by decide) (by decide) (by decide) (by decide) (by decide)).wr
      (by decide) (by decide)).count (by decide)⟩
    · have hrole := State.rd_wr_ne s.silent.closeSession .ses .ses SES.SES_STATUS.LAST_RESULT SES.SES_STATUS.ROLE 6 (by decide) (by decide)
        (.inr (.inr (by decide)))
      rw [State.role, State.count_rd, hrole]
      exact State.closeSession_role _ hopen'
    · rw [State.count_rd]
      exact State.rd_wr_same _ .ses SES.SES_STATUS.LAST_RESULT 6 (by decide)
    · have hevent := State.word_wr_ne s.silent.closeSession .ses .ses SES.SES_STATUS.LAST_RESULT 0x00C 6 (by decide) (by decide)
        (.inr (by decide))
      rw [State.count_word, hevent]
      exact State.closeSession_event _ hopen'
    · rw [State.count_out, State.wr_out]
      exact State.closeSession_out s.silent
  · refine answers_done _ (exec_lockoutExpiry s i) ?_
    rw [if_pos (hasleep h)]
    exact ⟨rfl, State.Frame.silent⟩
  · refine answers_done _ (exec_lockoutSaveTick s) ?_
    rw [if_pos (hasleep h)]
    exact ⟨rfl, State.Frame.silent⟩
  · refine answers_done _ (exec_lockoutExpiry s .host) ?_
    rw [if_neg (hawake h)]
    exact hlock _
  · refine answers_done _ (exec_lockoutExpiry s .rail) ?_
    rw [if_neg (hawake h)]
    exact hlock _
  · refine answers_done _ (exec_lockoutSaveTick s) ?_
    rw [if_neg (hawake h)]
    obtain ⟨hword, hout, hframe⟩ := hlock _
    rw [hword]
    exact ⟨apply_ite Lock.remain _ _ _, apply_ite Lock.remain _ _ _, hout, hframe⟩
  · refine answers_write _ (exec_kettleCtrlClear s v) (by decide) (by decide) hacc ?_
    unfold State.effKettleCtrl
    rw [hconfirm, hclear, if_neg (by decide), if_neg (by decide)]
    exact ⟨congrArg (fun e => State.sendFrom e _) s.touch_hubEnd, rfl, State.Frame.silent.toField (by decide)⟩
  · refine answers_write _ (exec_kettleCtrlClear s v) (by decide) (by decide) hacc ?_
    unfold State.effKettleCtrl
    rw [hconfirm, hclear, if_neg (by decide), if_pos rfl]
    exact ⟨rfl, State.Frame.silent⟩
  · refine answers_write _ (exec_kettleCtrlClear s v) (by decide) (by decide) hacc ?_
    unfold State.effKettleCtrl
    rw [if_pos hconfirm, State.countMalformed_word, State.silent_word, State.silent_rd, State.touch_word, State.touch_rd,
      State.countMalformed_out]
    exact ⟨rfl, rfl, State.Frame.silent.countMalformed⟩

end Sys2Proof.Machine
end

section
/-! PROOFS. The log ring as the host reads it (R65, R67). Settles O21. -/
namespace Sys2Proof.Machine.State

open Sys2Proof Reg

variable (s : State)

/-! ## A use of a log entry (R42, R63) -/

theorem useManaged_sound {p : Page} {t i : Nat} (h : s.damage.get (fun _ => 0) (damageKey p t i) = 0) : s.useManaged p t i = (false, s) := by
  unfold useManaged useProt
  simp only [h]
  rfl

theorem useManaged_found {p : Page} {t i : Nat} (h : s.damage.get (fun _ => 0) (damageKey p t i) = 2) : s.useManaged p t i =
    (true, ({ (s.ue p t).rowUse p t i true with damage := s.damage.set (fun _ => 0) (damageKey p t i) 3 } : State).raise .dev 7) := by
  unfold useManaged useProt
  simp only [h]
  rfl

/-! ## LOG_CTRL (R65) -/

/-- The entry that CAPTURE shows, its words in LOG_ENTRY0-3. -/
def showEntry (e : BitVec 128) : State :=
  (((s.wr .log LOG.LOG_ENTRY0.word (ebits e 0 0 32)).wr .log LOG.LOG_ENTRY1.word (ebits e 1 0 32)).wr .log
    LOG.LOG_ENTRY2.word (ebits e 2 0 32)).wr .log LOG.LOG_ENTRY3.word (ebits e 3 0 32)

theorem ebits_word (e : BitVec 128) (w : Nat) : BitVec.ofNat 32 (ebits e w 0 32) = e.extractLsb' (32 * w) 32 := by
  unfold ebits
  rw [Nat.add_zero, BitVec.ofNat_toNat, BitVec.setWidth_eq]

theorem showEntry_words (e : BitVec 128) :
    (s.showEntry e).word .log 0x028 = e.extractLsb' 0 32 ∧ (s.showEntry e).word .log 0x02C = e.extractLsb' 32 32
    ∧ (s.showEntry e).word .log 0x030 = e.extractLsb' 64 32 ∧ (s.showEntry e).word .log 0x034 = e.extractLsb' 96 32 := by
  have hword (v : State) (o w : Nat) : (v.wr .log ⟨o, 0, 32⟩ (ebits e w 0 32)).word .log o = e.extractLsb' (32 * w) 32 :=
    (word_wr_same v .log ⟨o, 0, 32⟩ _).trans ((Fld.put_whole _ _ _).trans (ebits_word e w))
  have hne (v : State) (o o' n : Nat) (ho : o < 0x1000) (ho' : o' < 0x1000) (h : o' ≠ o) :
      (v.wr .log ⟨o, 0, 32⟩ n).word .log o' = v.word .log o' := word_wr_ne v _ _ _ _ _ ho ho' (.inr h)
  unfold showEntry LOG.LOG_ENTRY0.word LOG.LOG_ENTRY1.word LOG.LOG_ENTRY2.word LOG.LOG_ENTRY3.word
  refine ⟨?_, ?_, ?_, hword _ 0x034 3⟩
  · rw [hne _ _ _ _ (by decide) (by decide) (by decide), hne _ _ _ _ (by decide) (by decide) (by decide),
      hne _ _ _ _ (by decide) (by decide) (by decide)]
    exact hword _ 0x028 0
  · rw [hne _ _ _ _ (by decide) (by decide) (by decide), hne _ _ _ _ (by decide) (by decide) (by decide)]
    exact hword _ 0x02C 1
  · rw [hne _ _ _ _ (by decide) (by decide) (by decide)]
    exact hword _ 0x030 2

theorem showEntry_out (e : BitVec 128) : (s.showEntry e).out = s.out := rfl

variable {s} in
theorem Frame.showEntry {v : State} {e : BitVec 128} {l : List (Page × Nat)} {ps : List StatePart} (h : Frame v s l ps)
    (h0 : (Page.log, 0x028) ∈ l) (h1 : (Page.log, 0x02C) ∈ l) (h2 : (Page.log, 0x030) ∈ l) (h3 : (Page.log, 0x034) ∈ l) :
    Frame v (s.showEntry e) l ps :=
  (((h.wr (by decide) h0).wr (by decide) h1).wr (by decide) h2).wr (by decide) h3

section
variable {s} (hunread : s.rd .log LOG.LOG_CTRL.UNREAD ≠ 0)
include hunread

theorem logCapture_eq : s.logCapture = ((s.useManaged .log 0 (s.rd .log LOG.LOG_CTRL.TAIL)).2).showEntry
    (if (s.useManaged .log 0 (s.rd .log LOG.LOG_CTRL.TAIL)).1 then BitVec.ofNat 128 (0xF0000000 * 2 ^ 64)
      else (s.useManaged .log 0 (s.rd .log LOG.LOG_CTRL.TAIL)).2.logRing.get (fun _ => 0) (s.rd .log LOG.LOG_CTRL.TAIL)) := by
  unfold logCapture
  rw [if_neg hunread]
  rfl

theorem logAdvance_eq : s.logAdvance = (s.wr .log LOG.LOG_CTRL.TAIL ((s.rd .log LOG.LOG_CTRL.TAIL + 1) % 4096)).wr .log LOG.LOG_CTRL.UNREAD
    (s.rd .log LOG.LOG_CTRL.UNREAD - 1) := by
  unfold logAdvance
  exact if_neg hunread

end

theorem logCapture_empty (h : s.rd .log LOG.LOG_CTRL.UNREAD = 0) : s.logCapture = s := by
  unfold logCapture; exact if_pos h

theorem logAdvance_empty (h : s.rd .log LOG.LOG_CTRL.UNREAD = 0) : s.logAdvance = s := by
  unfold logAdvance; exact if_pos h

theorem effLogCtrl_capture : effLogCtrl 0x80000000 s = s.logCapture := rfl
theorem effLogCtrl_advance : effLogCtrl 0x40000000 s = s.logAdvance := rfl
theorem effLogCtrl_clear : effLogCtrl 0x20000000 s = s.logClear := rfl

/-- TAIL and UNREAD as ADVANCE and CLEAR write them. -/
theorem logCtrl_written (t u : Nat) (ht : t < 4096) (hu : u < 8192) :
    ((s.wr .log LOG.LOG_CTRL.TAIL t).wr .log LOG.LOG_CTRL.UNREAD u).rd .log LOG.LOG_CTRL.TAIL = t
    ∧ ((s.wr .log LOG.LOG_CTRL.TAIL t).wr .log LOG.LOG_CTRL.UNREAD u).rd .log LOG.LOG_CTRL.UNREAD = u := by
  refine ⟨?_, ?_⟩
  · rw [rd_wr_ne _ _ _ _ _ _ (by decide) (by decide) (.inr (.inr (by decide))), rd_wr_same _ _ _ _ (by decide)]
    exact Nat.mod_eq_of_lt ht
  · rw [rd_wr_same _ _ _ _ (by decide)]
    exact Nat.mod_eq_of_lt hu

theorem unread_lt : s.rd .log LOG.LOG_CTRL.UNREAD < 8192 := by
  show (BitVec.extractLsb' 12 13 _).toNat < 2 ^ 13
  exact BitVec.isLt _

theorem rowUse_word (p q : Page) (t i o : Nat) (b : Bool) : (s.rowUse p t i b).word q o = s.word q o := by
  unfold rowUse
  extract_lets k now near
  split
  · rfl
  · split <;> rfl

theorem rowUse_host (p : Page) (t i : Nat) (b : Bool) : (s.rowUse p t i b).host = s.host := by
  unfold rowUse
  extract_lets k now near
  split
  · rfl
  · split <;> rfl

/-- An uncorrectable entry that is found counts in ECC_LOG. -/
theorem useManaged_ueCount {i : Nat} (hopen : s.host.window = false) (h : s.damage.get (fun _ => 0) (damageKey .log 0 i) = 2) :
    (s.useManaged .log 0 i).2.rd .log HDR.ECC_LOG.UE_COUNT = min (s.rd .log HDR.ECC_LOG.UE_COUNT + 1) 255 := by
  rw [useManaged_found s h]
  have hue : (s.ue .log 0).rd .log HDR.ECC_LOG.UE_COUNT = min (s.rd .log HDR.ECC_LOG.UE_COUNT + 1) 255 := by
    unfold ue
    rw [rd_wr_ne _ _ _ _ _ _ (by decide) (by decide) (.inr (.inr (by decide))), sat, rd_wr_same _ _ _ _ (by decide)]
    exact Nat.mod_eq_of_lt (Nat.lt_of_le_of_lt (Nat.min_le_right _ _) (by decide))
  have hword : ({ (s.ue .log 0).rowUse .log 0 i true with
      damage := s.damage.set (fun _ => 0) (damageKey .log 0 i) 3 } : State).word .log 0x01C = (s.ue .log 0).word .log 0x01C :=
    rowUse_word _ _ _ _ _ _ _
  rw [← hue, rd, rd]
  refine congrArg _ ((raise_word _ _ _ _ _ (by decide) (.inl (by decide)) (.inr ?_)).trans hword)
  exact (congrArg HostIf.window (rowUse_host _ _ _ _ _)).trans hopen

theorem showEntry_ueCount (e : BitVec 128) : (s.showEntry e).rd .log HDR.ECC_LOG.UE_COUNT = s.rd .log HDR.ECC_LOG.UE_COUNT := by
  have hframe : s.Frame (s.showEntry e) [(.log, 0x028), (.log, 0x02C), (.log, 0x030), (.log, 0x034)] [] :=
    Frame.refl.showEntry (by decide) (by decide) (by decide) (by decide)
  exact congrArg _ (hframe.reg .log 0x01C (by decide) (.inr (by decide)) (by decide))

end Sys2Proof.Machine.State

namespace Sys2Proof.Machine

open Sys2Proof Reg

section
variable (s : State)

theorem exec_logCapture : exec .logCapture s = s.done fun t => t.gateReg .log 0x020 0x80000000 (State.effLogCtrl 0x80000000) := rfl
theorem exec_logAdvance : exec .logAdvance s = s.done fun t => t.gateReg .log 0x020 0x40000000 (State.effLogCtrl 0x40000000) := rfl
theorem exec_logClear : exec .logClear s = s.done fun t => t.gateReg .log 0x020 0x20000000 (State.effLogCtrl 0x20000000) := rfl

end

/-- Settles O21: CAPTURE, ADVANCE and CLEAR of the log ring. -/
theorem logReadout : Obligations.logReadout := by
  have hrd (s : State) (f : Fld) : s.touch.silent.rd .log f = s.rd .log f := s.touch_rd .log f
  refine ⟨fun s hacc hempty => ⟨?_, ?_⟩, fun s hacc hunread => ?_⟩
  · refine answers_write _ (exec_logCapture s) (by decide) (by decide) hacc ?_
    rw [State.effLogCtrl_capture, State.logCapture_empty _ ((hrd s _).trans hempty)]
    exact ⟨rfl, State.Frame.silent⟩
  · refine answers_write _ (exec_logAdvance s) (by decide) (by decide) hacc ?_
    rw [State.effLogCtrl_advance, State.logAdvance_empty _ ((hrd s _).trans hempty)]
    exact ⟨rfl, State.Frame.silent⟩
  have hunread' : s.touch.silent.rd .log LOG.LOG_CTRL.UNREAD ≠ 0 := by rw [hrd]; exact hunread
  have hdamage : s.touch.silent.damage = s.damage := s.touch_damage
  have hring : s.touch.silent.logRing = s.logRing := s.touch_logRing
  refine ⟨fun hsound => ?_, fun hbad => ?_, ?_, ?_⟩
  · refine answers_write _ (exec_logCapture s) (by decide) (by decide) hacc ?_
    rw [State.effLogCtrl_capture, State.logCapture_eq hunread', hrd, State.useManaged_sound _ (by rw [hdamage]; exact hsound)]
    rw [if_neg Bool.false_ne_true, hring]
    obtain ⟨h0, h1, h2, h3⟩ := State.showEntry_words s.touch.silent (s.logRing.get (fun _ => 0) (s.rd .log LOG.LOG_CTRL.TAIL))
    exact ⟨h0, h1, h2, h3, rfl, State.Frame.silent.showEntry (by decide) (by decide) (by decide) (by decide)⟩
  · refine answers_write _ (exec_logCapture s) (by decide) (by decide) hacc ?_
    have hbad' : s.touch.silent.damage.get (fun _ => 0) (State.damageKey .log 0 (s.rd .log LOG.LOG_CTRL.TAIL)) = 2 := by
      rw [hdamage]; exact hbad
    have hopen : s.touch.silent.host.window = false := (congrArg HostIf.window s.touch_host).trans (s.accepts_open hacc)
    have hcount := State.useManaged_ueCount _ hopen hbad'
    have hfound : (s.touch.silent.useManaged .log 0 (s.rd .log LOG.LOG_CTRL.TAIL)).1 = true := by
      rw [State.useManaged_found _ hbad']
    rw [State.effLogCtrl_capture, State.logCapture_eq hunread', hrd, hfound, if_pos rfl, State.showEntry_ueCount, hcount, hrd]
    obtain ⟨h0, h1, h2, h3⟩ := State.showEntry_words (s.touch.silent.useManaged .log 0 (s.rd .log LOG.LOG_CTRL.TAIL)).2
      (BitVec.ofNat 128 (0xF0000000 * 2 ^ 64))
    exact ⟨h0, h1, h2, h3, rfl⟩
  · refine answers_write _ (exec_logAdvance s) (by decide) (by decide) hacc ?_
    rw [State.effLogCtrl_advance, State.logAdvance_eq hunread', hrd, hrd]
    have hbound := s.unread_lt
    obtain ⟨htail, hleft⟩ := State.logCtrl_written s.touch.silent ((s.rd .log LOG.LOG_CTRL.TAIL + 1) % 4096)
      (s.rd .log LOG.LOG_CTRL.UNREAD - 1) (Nat.mod_lt _ (by decide)) (by omega)
    exact ⟨htail, hleft, rfl, (State.Frame.silent.wr (by decide) (by decide)).wr (by decide) (by decide)⟩
  · refine answers_write _ (exec_logClear s) (by decide) (by decide) hacc ?_
    rw [State.effLogCtrl_clear, State.logClear]
    rw [hrd, hrd]
    obtain ⟨htail, hleft⟩ := State.logCtrl_written s.touch.silent
      ((s.rd .log LOG.LOG_CTRL.TAIL + s.rd .log LOG.LOG_CTRL.UNREAD) % 4096) 0 (Nat.mod_lt _ (by decide)) (by decide)
    exact ⟨htail, hleft, rfl, (State.Frame.silent.wr (by decide) (by decide)).wr (by decide) (by decide)⟩

end Sys2Proof.Machine
end

section
/-! PROOFS. What the field island does with a message: delivery, votes, proofs, the start (R46, R48, R292, R360, R441-R443, R449). -/
namespace Sys2Proof.Machine.State

open Sys2Proof Reg

/-! ## Delivery (R342) -/

section
variable (s : State)

/-- The message that is next in order for the field island. -/
def nextToField : Option BMsg := (s.hubEnd.unacked.find? fun x => x.seq == seqOn s.fieldEnd.rxSeq 1).map (·.msg)

/-- The field island's end once it has taken that message. -/
def tookEnd : BEnd := { s.fieldEnd with rxSeq := seqOn s.fieldEnd.rxSeq 1 }

/-- The state on which the message's meaning works. -/
def taken : State := { s.silent with fieldEnd := s.tookEnd }

theorem taken_frame {l : List (Page × Nat)} {ps : List StatePart} (h : StatePart.fieldEnd ∈ ps) : s.Frame s.taken l ps :=
  Frame.silent.with_fieldEnd h

/-- No RAIL_SEND waits on the link to the field island. -/
def NoSends : Prop := ∀ x ∈ s.hubEnd.unacked, msgType x.msg ≠ 5

variable {s}

theorem takeSends_idle (h : s.NoSends) (n : Nat) : s.takeSends n = s := by
  cases n with
  | zero => rfl
  | succ n =>
    unfold takeSends
    split
    · rfl
    · split
      next heq => exact absurd rfl (h _ (List.mem_of_find?_eq_some heq))
      next => rfl

/-- A message that its test takes. -/
theorem fieldTakes_next {f : BMsg → Option (State → State)} {m : BMsg} {g : State → State} (hawake : s.fieldAwake = true)
    (hnext : s.nextToField = some m) (hf : f m = some g) : s.silent.fieldTakes f = (g s.taken).takeSends 64 := by
  obtain ⟨x, hx, rfl⟩ := Option.map_eq_some_iff.1 hnext
  have hseq : x.seq = seqOn s.fieldEnd.rxSeq 1 := by simpa using List.find?_some hx
  have hawake' : s.silent.fieldAwake = true := hawake
  have hx' : (s.silent.hubEnd.unacked.find? fun x => x.seq == seqOn s.silent.fieldEnd.rxSeq 1) = some x := hx
  unfold fieldTakes
  rw [hawake', if_neg (by decide), hx']
  simp only [hf]
  rw [hseq]
  rfl

/-- Nothing is taken. -/
theorem fieldTakes_none {f : BMsg → Option (State → State)} (h : s.fieldAwake = false ∨ ∀ m, s.nextToField = some m → f m = none) :
    s.silent.fieldTakes f = s.silent := by
  unfold fieldTakes
  rcases h with h | h
  · have h' : s.silent.fieldAwake = false := h
    rw [h']
    rfl
  · split
    · rfl
    · split
      · rfl
      next x hx => rw [h x.msg (Option.map_eq_some_iff.2 ⟨x, hx, rfl⟩)]

theorem toHub_fieldEnd {m : BMsg} (h : s.imageGap = false) : (s.toHub m).fieldEnd = sendFrom s.fieldEnd m := by
  unfold toHub
  rw [h]
  rfl

theorem imageGap_of_awake (h : s.fieldAwake = true) : s.imageGap = false := by
  unfold fieldAwake at h
  simp only [Bool.and_eq_true, Bool.not_eq_true'] at h
  exact h.2

end

/-! ## Votes and the words written by them (R292, R360) -/

section
variable {α : Type} [DecidableEq α]

@[simp] theorem vote_writeCopies (t : Tri α) (v : α) : vote (writeCopies t v) = some v := by simp [vote, writeCopies]

/-- Rewriting the dissenting copy leaves the vote. -/
@[simp] theorem vote_mend (t : Tri α) : vote (mend t) = vote t := by
  unfold mend
  cases h : vote t with
  | none => exact h
  | some v => exact vote_writeCopies t v

end

/-- What a vote leaves: everything but copies that dissented, and the record of that. -/
structure VoteKept (s t : State) : Prop where
  state : t = { s with field := t.field }
  field : t.field = { s.field with
    pub := { s.field.pub with dissent := t.field.pub.dissent, repairs := t.field.pub.repairs }
    keys := t.field.keys, attempts := t.field.attempts, cause := t.field.cause, caddy := t.field.caddy, lock := t.field.lock
    ident := t.field.ident }
  attempts : vote t.field.attempts = vote s.field.attempts
  cause : vote t.field.cause = vote s.field.cause
  lock : vote t.field.lock = vote s.field.lock
  key : ∀ r, t.roleKey r = s.roleKey r

namespace VoteKept

variable {s t u : State}

theorem refl (s : State) : VoteKept s s := ⟨rfl, rfl, rfl, rfl, rfl, fun _ => rfl⟩

theorem trans (h : VoteKept s t) (g : VoteKept t u) : VoteKept s u where
  state := by rw [g.state, h.state]
  field := by rw [g.field, h.field]
  attempts := g.attempts.trans h.attempts
  cause := g.cause.trans h.cause
  lock := g.lock.trans h.lock
  key r := (g.key r).trans (h.key r)

theorem voteWord (s : State) (w : Nat) : VoteKept s (s.voteWord w) := by
  have hkey (s t : State) (hk : vote t.field.keys.viewer = vote s.field.keys.viewer)
      (ho : vote t.field.keys.operator = vote s.field.keys.operator) (hc : vote t.field.keys.custodian = vote s.field.keys.custodian)
      (r : Nat) : t.roleKey r = s.roleKey r := by
    unfold roleKey
    split
    · exact hk
    · exact ho
    · exact hc
    · rfl
  match w with
  | 0 => exact ⟨rfl, rfl, rfl, rfl, rfl, hkey _ _ (vote_mend _) (vote_mend _) (vote_mend _)⟩
  | 1 => exact ⟨rfl, rfl, vote_mend _, rfl, rfl, fun _ => rfl⟩
  | 2 => exact ⟨rfl, rfl, rfl, vote_mend _, rfl, fun _ => rfl⟩
  | 3 => exact ⟨rfl, rfl, rfl, rfl, rfl, fun _ => rfl⟩
  | 4 => exact ⟨rfl, rfl, rfl, rfl, vote_mend _, fun _ => rfl⟩
  | 5 => exact ⟨rfl, rfl, rfl, rfl, rfl, fun _ => rfl⟩
  | _ + 6 => exact ⟨rfl, rfl, rfl, rfl, rfl, fun _ => rfl⟩

theorem sweep (s : State) : VoteKept s s.sweep := by
  unfold State.sweep
  suffices h : ∀ l t, VoteKept s t → VoteKept s (List.foldl State.voteWord t l) from h _ s (.refl s)
  intro l
  induction l with
  | nil => exact fun _ ht => ht
  | cons w r ih => exact fun t ht => ih _ (ht.trans (.voteWord t w))

variable (h : VoteKept s t)
include h

theorem lockWord : t.lockWord = s.lockWord := by unfold State.lockWord; rw [h.lock]
theorem causeWord : t.causeWord = s.causeWord := by unfold State.causeWord; rw [h.cause]
theorem attemptsWord : t.attemptsWord = s.attemptsWord := by unfold State.attemptsWord; rw [h.attempts]
theorem fieldEnd : t.fieldEnd = s.fieldEnd := by rw [h.state]
theorem hubEnd : t.hubEnd = s.hubEnd := by rw [h.state]
theorem out : t.out = s.out := by rw [h.state]
theorem imageGap : t.imageGap = s.imageGap := by unfold State.imageGap; rw [h.field]
theorem frame {v : State} {l : List (Page × Nat)} {ps : List StatePart} (hv : Frame v s l ps) (hm : StatePart.field ∈ ps) :
    Frame v t l ps := by
  rw [h.state]; exact hv.with_field hm

end VoteKept

section
variable (s : State)

theorem setAttempts_attemptsWord (n : Nat) : (s.setAttempts n).attemptsWord = min n 255 :=
  congrArg (Option.getD · 3) (vote_writeCopies _ _)
theorem setAttempts_causeWord (n : Nat) : (s.setAttempts n).causeWord = s.causeWord := (VoteKept.voteWord s 1).causeWord
theorem setCause_causeWord (c : CauseWord) : (s.setCause c).causeWord = c := congrArg (Option.getD · _) (vote_writeCopies _ _)
theorem setCause_attemptsWord (c : CauseWord) : (s.setCause c).attemptsWord = s.attemptsWord := (VoteKept.voteWord s 2).attemptsWord
theorem setAttempts_hostLevel (n : Nat) : (s.setAttempts n).field.hostLevel = s.field.hostLevel := by
  have hkept := congrArg Field.hostLevel (VoteKept.voteWord s 1).field
  exact hkept
theorem setCause_hostLevel (c : CauseWord) : (s.setCause c).field.hostLevel = s.field.hostLevel := by
  have hkept := congrArg Field.hostLevel (VoteKept.voteWord s 2).field
  exact hkept
theorem setLock_imageGap (w : LockWord) : (s.setLock w).imageGap = s.imageGap := (VoteKept.voteWord s 4).imageGap

variable {s} {v : State} {l : List (Page × Nat)} {ps : List StatePart}

theorem Frame.setAttempts {n : Nat} (h : Frame v s l ps) (hm : StatePart.field ∈ ps) : Frame v (s.setAttempts n) l ps := h.with_field hm
theorem Frame.setCause {c : CauseWord} (h : Frame v s l ps) (hm : StatePart.field ∈ ps) : Frame v (s.setCause c) l ps := h.with_field hm

end

/-! ## PROOF_CHECK (R45-R48) -/

section
variable {s : State} {role : Nat} {nonce : BitVec 64} {counter stored : BitVec 32} {proof : List Word}

theorem proofRight_iff {p : List Byte} : s.proofRight role nonce counter stored p = true
    ↔ ∃ k, s.roleKey role = some k ∧ counter = stored ∧ Crypto.hmac (keyBytes k) (proofMessage nonce role counter) = p := by
  unfold proofRight
  cases s.roleKey role with
  | none => simp
  | some k => simp

/-- The state on which a proof is judged: keys and lockout word read by vote. -/
def proofRead (s : State) : State := (s.voteWord 0).voteWord 4

theorem proofRead_kept (s : State) : VoteKept s s.proofRead := (VoteKept.voteWord s 0).trans (VoteKept.voteWord _ 4)

/-- The answer to a proof, with the lockout word as it then stands. -/
def proofAnswer (s : State) (role res : Nat) : State :=
  s.toHub (.proofResult role res s.lockWord.host.failRun s.lockWord.host.remain s.lockWord.host.counter)

theorem checkHostProof_eq : s.checkHostProof role nonce counter proof =
    if s.proofRead.lockWord.host.remain ≠ 0 then s.proofRead.proofAnswer role 3
    else if s.proofRead.proofRight role nonce counter s.proofRead.lockWord.host.counter (proof.flatMap fun x => bytesBE 4 x.toNat) then
      (s.proofRead.setLock { s.proofRead.lockWord with host := lockPass s.proofRead.lockWord.host }).proofAnswer role 1
    else (s.proofRead.setLock { s.proofRead.lockWord with host := lockFail s.proofRead.lockWord.host }).proofAnswer role 2 := by
  unfold checkHostProof proofAnswer proofRead
  dsimp only

theorem proofRead_right (c : BitVec 32) (p : List Byte) :
    s.proofRead.proofRight role nonce counter c p = s.proofRight role nonce counter c p := by
  unfold proofRight
  rw [(proofRead_kept s).key]

theorem checkHostProof_locked (h : s.lockWord.host.remain ≠ 0) :
    s.checkHostProof role nonce counter proof = s.proofRead.proofAnswer role 3 := by
  rw [checkHostProof_eq, (proofRead_kept s).lockWord, if_pos h]

/-- An open interface: the word written follows the verdict. -/
theorem checkHostProof_open (h : s.lockWord.host.remain = 0) : s.checkHostProof role nonce counter proof =
    if s.proofRight role nonce counter s.lockWord.host.counter (proof.flatMap fun x => bytesBE 4 x.toNat) then
      (s.proofRead.setLock { s.lockWord with host := lockPass s.lockWord.host }).proofAnswer role 1
    else (s.proofRead.setLock { s.lockWord with host := lockFail s.lockWord.host }).proofAnswer role 2 := by
  rw [checkHostProof_eq, (proofRead_kept s).lockWord, if_neg (not_not.2 h), proofRead_right]

theorem proofAnswer_lockWord (res : Nat) : (s.proofAnswer role res).lockWord = s.lockWord := rfl

theorem proofAnswer_fieldEnd {res : Nat} (h : s.imageGap = false) : (s.proofAnswer role res).fieldEnd = sendFrom s.fieldEnd
    (.proofResult role res s.lockWord.host.failRun s.lockWord.host.remain s.lockWord.host.counter) := toHub_fieldEnd h

theorem proofAnswer_out (res : Nat) : (s.proofAnswer role res).out = s.out := toHub_out _ _
theorem proofAnswer_hubEnd (res : Nat) : (s.proofAnswer role res).hubEnd = s.hubEnd := toHub_hubEnd _ _

theorem Frame.proofAnswer {v : State} {l : List (Page × Nat)} {ps : List StatePart} {res : Nat} (h : Frame v s l ps)
    (hm : StatePart.fieldEnd ∈ ps) : Frame v (s.proofAnswer role res) l ps := h.toHub hm

end

/-! ## START_RESULT and KETTLE_CLEAR (R441-R443, R449) -/

section
variable {s : State} {a : Attempt}

theorem succeedAttempt_some (h : s.start.attempt = some a) : s.succeedAttempt =
    { ((s.setAttempts 0).setCause { cause := 0, deep := s.causeWord.deep }) with
      start := { s.start with attempt := none, powerOn := false } } := by
  unfold succeedAttempt
  rw [h]
  rfl

theorem succeedAttempt_none (h : s.start.attempt = none) : s.succeedAttempt = s := by unfold succeedAttempt; rw [h]
theorem failAttempt_none (c : Nat) (h : s.start.attempt = none) : s.failAttempt c = s := by unfold failAttempt; rw [h]

theorem fieldLinkDown_up (s : State) : s.fieldLinkDown.fieldEnd.up = false := by
  unfold fieldLinkDown
  split
  next h => simpa using h
  next => rfl

theorem fieldLinkDown_eq (s : State) : s.fieldLinkDown = { s with fieldEnd := s.fieldLinkDown.fieldEnd } := by
  unfold fieldLinkDown
  split <;> rfl

/-- The host side without power: what stops with it. -/
theorem hostPowerDown_eq (s : State) : s.hostPowerDown = { s with
    host := { s.host with mgmt := .off, fwUp := false, held := [], window := false, intN := false }
    hubEnd := { BEnd.reset with downs := s.hubEnd.downs }
    start := { s.start with power := .off, diesUp := 0, datapath := false, attempt := none }
    fieldEnd := s.hostPowerDown.fieldEnd } := fieldLinkDown_eq _

theorem hostPowerDown_up (s : State) : s.hostPowerDown.fieldEnd.up = false := fieldLinkDown_up _

theorem Frame.hostPowerDown {v : State} {l : List (Page × Nat)} {ps : List StatePart} (h : Frame v s l ps) (hh : StatePart.host ∈ ps)
    (hu : StatePart.hubEnd ∈ ps) (hs : StatePart.start ∈ ps) (hf : StatePart.fieldEnd ∈ ps) : Frame v s.hostPowerDown l ps := by
  unfold State.hostPowerDown
  dsimp only
  rw [fieldLinkDown_eq]
  refine Frame.with_fieldEnd ⟨h.reg, fun p hp => ?_, h.part, h.pending⟩ hf
  have hsame := h.same p hp
  cases p
  case host => exact absurd hh hp
  case hubEnd => exact absurd hu hp
  case start => exact absurd hs hp
  all_goals exact hsame

/-- The host side goes off for the next attempt, after a thermal cause until the dies have cooled. -/
def offForAttempt (s : State) (c : Nat) : State :=
  { s.hostPowerDown.convOff with start := { s.hostPowerDown.convOff.start with
      offWait := true, thermalWait := s.hostPowerDown.convOff.start.thermalWait || decide (c = 8) } }

theorem offForAttempt_kept (s : State) (c : Nat) : (s.offForAttempt c).causeWord = s.causeWord
    ∧ (s.offForAttempt c).attemptsWord = s.attemptsWord ∧ (s.offForAttempt c).out = s.out := by
  unfold offForAttempt
  rw [hostPowerDown_eq]
  exact ⟨rfl, rfl, rfl⟩

theorem offForAttempt_start (s : State) (c : Nat) : (s.offForAttempt c).start.power = .off ∧ (s.offForAttempt c).start.attempt = none
    ∧ (s.offForAttempt c).start.offWait = true ∧ (s.offForAttempt c).start.thermalWait = (s.start.thermalWait || decide (c = 8)) := by
  unfold offForAttempt
  rw [hostPowerDown_eq]
  exact ⟨rfl, rfl, rfl, rfl⟩

theorem offForAttempt_ends (s : State) (c : Nat) : (s.offForAttempt c).host.mgmt = .off ∧ (s.offForAttempt c).hubEnd.unacked = []
    ∧ (s.offForAttempt c).hubEnd.up = false ∧ (s.offForAttempt c).fieldEnd.up = false := by
  have hup := s.hostPowerDown_up
  unfold offForAttempt
  rw [hostPowerDown_eq]
  exact ⟨rfl, rfl, rfl, hup⟩

theorem Frame.offForAttempt {v : State} {l : List (Page × Nat)} {ps : List StatePart} {c : Nat} (h : Frame v s l ps)
    (hh : StatePart.host ∈ ps) (hu : StatePart.hubEnd ∈ ps) (hs : StatePart.start ∈ ps) (hf : StatePart.fieldEnd ∈ ps)
    (hd : StatePart.field ∈ ps) : Frame v (s.offForAttempt c) l ps :=
  ((h.hostPowerDown hh hu hs hf).updPub hd).with_start hs

theorem failAttempt_off {c : Nat} (h : s.start.attempt = some a) (hk : a.fromKettle = false ∨ a.counterBefore < 3) :
    s.failAttempt c = (s.setCause { cause := c, deep := s.causeWord.deep }).offForAttempt c := by
  unfold failAttempt
  rw [h]
  refine if_neg fun hagain => ?_
  obtain ⟨hfrom, hcount⟩ := by simpa using hagain
  rcases hk with hk | hk
  · exact absurd hk (by simp [hfrom])
  · omega

theorem failAttempt_kettle {c : Nat} (h : s.start.attempt = some a) (hk : a.fromKettle = true) (hn : 3 ≤ a.counterBefore) :
    s.failAttempt c = s.enterKettle { cause := c, deep := s.causeWord.deep } := by
  unfold failAttempt
  rw [h]
  exact if_pos (by simp [hk, hn])

theorem kettleClear_begins {c : Bool} (h : s.start.attempt = none) (hk : s.start.kettle = true) :
    (s.kettleClear c false).2 = (if c then s.setAttempts 0 else s).beginAttempt 7 true false := by
  unfold kettleClear
  rw [h, hk]
  cases c <;> rfl

theorem kettleClear_ignored {c : Bool} (h : s.start.attempt ≠ none ∨ s.start.kettle = false) : (s.kettleClear c false).2 = s := by
  unfold kettleClear
  cases hatt : s.start.attempt with
  | some a => rfl
  | none =>
    rw [h.resolve_left (· hatt)]
    simp

theorem beginAttempt_seven (s : State) : s.beginAttempt 7 true false = { s.setAttempts (s.attemptsWord + 1) with
    start := { s.start with
      attempt := some { step := 7, fromKettle := true, fromReset := false, counterBefore := s.attemptsWord, causeBefore := s.causeWord
                        held := false, watchdog := true, reported := false }
      kettle := false, deepKettle := false, offWait := false, kettleOwed := false, forceWindow := false, powerOn := false } } := rfl

end

end Sys2Proof.Machine.State
end

section
/-! PROOFS. Kettle mode as a failed attempt enters it again (R444, R447). -/
namespace Sys2Proof.Machine.State

open Sys2Proof Reg

/-- What registers, the host interface and the clocks do not touch. -/
structure Managed (s t : State) : Prop where
  out : t.out = s.out
  field : t.field = s.field
  hubEnd : t.hubEnd = s.hubEnd
  start : t.start = s.start

namespace Managed

variable {s t u : State}

theorem refl (s : State) : Managed s s := ⟨rfl, rfl, rfl, rfl⟩
theorem trans (h : Managed s t) (g : Managed t u) : Managed s u :=
  ⟨g.out.trans h.out, g.field.trans h.field, g.hubEnd.trans h.hubEnd, g.start.trans h.start⟩

theorem ite {c : Prop} [Decidable c] (h : Managed s t) (g : Managed s u) : Managed s (if c then t else u) := by
  split
  · exact h
  · exact g

theorem foldl {α : Type} (f : State → α → State) (hf : ∀ v x, Managed v (f v x)) (l : List α) (s : State) : Managed s (l.foldl f s) := by
  induction l generalizing s with
  | nil => exact refl s
  | cons x r ih => exact (hf s x).trans (ih _)

theorem wr (h : Managed s t) (p : Page) (f : Fld) (n : Nat) : Managed s (t.wr p f n) :=
  h.trans ⟨wr_out _ _ _ _, wr_field _ _ _ _, wr_hubEnd _ _ _ _, wr_start _ _ _ _⟩
theorem clock (h : Managed s t) (x : Clock) : Managed s { t with clock := x } := h.trans ⟨rfl, rfl, rfl, rfl⟩
theorem host (h : Managed s t) (x : HostIf) : Managed s { t with host := x } := h.trans ⟨rfl, rfl, rfl, rfl⟩

theorem toHub (h : Managed s t) (m : BMsg) : Managed s (t.toHub m) :=
  h.trans ⟨toHub_out _ _, toHub_field _ _, toHub_hubEnd _ _, toHub_start _ _⟩

theorem moveOp (h : Managed s t) : Managed s t.moveOp :=
  ite (ite ((h.wr _ _ _).clock _) h) ((h.wr _ _ _).clock _)

theorem beginRamp (h : Managed s t) (n src : Nat) : Managed s (t.beginRamp n src) := ((h.wr _ _ _).wr _ _ _).wr _ _ _

theorem startD37 (s : State) : Managed s s.startD37 := by
  unfold State.startD37
  refine ite (refl s) ?_
  split
  · exact refl s
  next n _ =>
    extract_lets s1 x s2 s3 s4 s5
    have h1 : Managed s s1 := ite ((refl s).beginRamp 37 n) ((((refl s).wr _ _ _).wr _ _ _).wr _ _ _)
    have h3 : Managed s s3 := (h1.host _).wr _ _ _
    have h5 : Managed s s5 := (h3.beginRamp 39 n).trans (foldl _ (fun v p => ite ((refl v).wr p HDR.PAGE_STATE.STATE 2) (refl v)) _ _)
    exact h5.moveOp

theorem stopGovernor (h : Managed s t) (g : Nat) : Managed s (t.stopGovernor g) :=
  ((((h.wr _ _ _).wr _ _ _).wr _ _ _).wr _ _ _).wr _ _ _

theorem domOff (h : Managed s t) (n : Nat) : Managed s (t.domOff n) := (((h.wr _ _ _).wr _ _ _).wr _ _ _).wr _ _ _

end Managed

section
variable (s : State)

/-- The datapath that goes off: the registers and what its engines hold. -/
theorem datapathOff_kept : s.datapathOff.out = s.out ∧ s.datapathOff.field = s.field ∧ s.datapathOff.hubEnd = s.hubEnd
    ∧ s.datapathOff.start.datapath = false := by
  have hdom : Managed s ((List.range 37).foldl domOff ((List.range 5).foldl stopGovernor s)) :=
    (Managed.foldl _ (fun v g => (Managed.refl v).stopGovernor g) _ s).trans (Managed.foldl _ (fun v n => (Managed.refl v).domOff n) _ _)
  unfold datapathOff
  generalize (List.range 37).foldl domOff _ = v at hdom ⊢
  exact ⟨hdom.out, hdom.field, hdom.hubEnd, rfl⟩

theorem convOn_eq : s.convOn = { s with field := s.convOn.field } := by
  unfold convOn
  split <;> rfl

theorem convOn_causeWord : s.convOn.causeWord = s.causeWord := by
  unfold convOn
  split <;> rfl

theorem hostPowerUp_kept (p : HostPower) : (s.hostPowerUp p).out = s.out ∧ (s.hostPowerUp p).field = s.field
    ∧ (s.hostPowerUp p).hubEnd.unacked = [] ∧ (s.hostPowerUp p).start.datapath = false := ⟨rfl, rfl, rfl, rfl⟩

/-- The kettle set powered, or kept. -/
def kettlePower : State := if s.start.power = .off then s.convOn.hostPowerUp .kettleSet else s.datapathOff

theorem kettlePower_kept : s.kettlePower.out = s.out ∧ s.kettlePower.causeWord = s.causeWord
    ∧ (s.kettlePower.hubEnd.unacked = [] ∨ s.kettlePower.hubEnd = s.hubEnd) ∧ s.kettlePower.start.datapath = false := by
  unfold kettlePower
  split
  · obtain ⟨hout, hfield, hhub, hdata⟩ := s.convOn.hostPowerUp_kept .kettleSet
    refine ⟨hout.trans ?_, Eq.trans ?_ s.convOn_causeWord, .inl hhub, hdata⟩
    · rw [convOn_eq]
    · unfold causeWord; rw [hfield]
  · obtain ⟨hout, hfield, hhub, hdata⟩ := s.datapathOff_kept
    refine ⟨hout, ?_, .inr hhub, hdata⟩
    unfold causeWord; rw [hfield]

/-- What entering kettle mode leaves in force. -/
theorem enterKettle_kept (c : CauseWord) : (s.enterKettle c).causeWord = c ∧ (s.enterKettle c).start.kettle = true
    ∧ (s.enterKettle c).start.power = .kettleSet ∧ (s.enterKettle c).start.attempt = none ∧ (s.enterKettle c).start.datapath = false
    ∧ (s.enterKettle c).out = s.out ∧ ((s.enterKettle c).hubEnd.unacked = [] ∨ (s.enterKettle c).hubEnd = s.hubEnd) := by
  obtain ⟨hout, hcause, hhub, hdata⟩ := (s.setCause c).kettlePower_kept
  rw [setCause_causeWord] at hcause
  unfold enterKettle
  extract_lets s1 s2 x s3 s4
  change s2.out = s.out at hout
  change s2.causeWord = c at hcause
  change s2.hubEnd.unacked = [] ∨ s2.hubEnd = s.hubEnd at hhub
  change s2.start.datapath = false at hdata
  have hd37 : Managed s3 s4 := Managed.startD37 s3
  have hend : Managed s3 (if s4.fieldEnd.up then s4.toHub (.kettleEnter c.cause s4.attemptsWord) else s4) := (hd37.toHub _).ite hd37
  have hword : s3.causeWord = c := hcause
  refine ⟨?_, ?_, ?_, ?_, ?_, hend.out.trans hout, ?_⟩
  · rw [causeWord, hend.field]; exact hword
  · rw [hend.start]
  · rw [hend.start]
  · rw [hend.start]
  · rw [hend.start]; exact hdata
  · rw [hend.hubEnd]; exact hhub

theorem NoSends.of_hubEnd {s t : State} (h : s.NoSends) (hhub : t.hubEnd.unacked = [] ∨ t.hubEnd = s.hubEnd) : t.NoSends := by
  unfold NoSends
  rcases hhub with e | e
  · rw [e]; exact fun x hx => absurd hx List.not_mem_nil
  · rw [e]; exact h

end

end Sys2Proof.Machine.State
end

section
/-! PROOFS. Settings, reports and image chunks at the field island (R344, R347, R357, R361, R362, R422). -/
namespace Sys2Proof

/-- A field that takes another word's value, by masks. -/
theorem Fld.put_get (f : Fld) (x v : Word) : f.put x (f.get v)
    = (x &&& ~~~((BitVec.allOnes f.w).setWidth 32 <<< f.lo)) ||| (v &&& ((BitVec.allOnes f.w).setWidth 32 <<< f.lo)) := by
  apply BitVec.eq_of_getLsbD_eq
  intro i hi
  simp only [Fld.put, Fld.get, putBits, getBits, BitVec.ofNat_toNat, BitVec.setWidth_eq, BitVec.getLsbD_or, BitVec.getLsbD_and,
    BitVec.getLsbD_not, BitVec.getLsbD_shiftLeft, BitVec.getLsbD_setWidth, BitVec.getLsbD_extractLsb', BitVec.getLsbD_allOnes]
  by_cases hlow : i < f.lo
  · simp [hlow]
  · have hplace : f.lo + (i - f.lo) = i := by omega
    rw [hplace]
    by_cases hin : i - f.lo < f.w <;> simp [hin, hlow, hi, Bool.and_comm]

end Sys2Proof

namespace Sys2Proof.Machine.State

open Sys2Proof Reg

/-! ## A STATUS_REPORT (R344) -/

theorem sendFrom_kept (e : BEnd) (m : BMsg) : (sendFrom e m).rxSeq = e.rxSeq ∧ (sendFrom e m).resends = e.resends
    ∧ (sendFrom e m).downs = e.downs := by
  unfold sendFrom
  split
  · exact ⟨rfl, rfl, rfl⟩
  · split <;> exact ⟨rfl, rfl, rfl⟩

/-- What a setting that is refused, and its report, leave: settings, phases, images, converter, feeds and the voted words. -/
structure SettingsKept (s u : State) : Prop where
  settings : u.field.pub.settings = s.field.pub.settings
  phases : u.field.pub.phases.map (·.st) = s.field.pub.phases.map (·.st)
  swaps : u.field.swaps = s.field.swaps
  imgState : u.field.pub.imgState = s.field.pub.imgState
  img : u.field.img = s.field.img
  conv : u.field.pub.conv = s.field.pub.conv
  feedA : u.field.pub.feedA = s.field.pub.feedA
  feedB : u.field.pub.feedB = s.field.pub.feedB
  lock : u.lockWord = s.lockWord
  attempts : u.attemptsWord = s.attemptsWord
  cause : u.causeWord = s.causeWord
  key : ∀ r, u.roleKey r = s.roleKey r

theorem SettingsKept.trans {s t u : State} (h : SettingsKept s t) (g : SettingsKept t u) : SettingsKept s u where
  settings := g.settings.trans h.settings
  phases := g.phases.trans h.phases
  swaps := g.swaps.trans h.swaps
  imgState := g.imgState.trans h.imgState
  img := g.img.trans h.img
  conv := g.conv.trans h.conv
  feedA := g.feedA.trans h.feedA
  feedB := g.feedB.trans h.feedB
  lock := g.lock.trans h.lock
  attempts := g.attempts.trans h.attempts
  cause := g.cause.trans h.cause
  key r := (g.key r).trans (h.key r)

theorem VoteKept.settings {s t : State} (h : VoteKept s t) : SettingsKept s t where
  settings := by rw [h.field]
  phases := by rw [h.field]
  swaps := by rw [h.field]
  imgState := by rw [h.field]
  img := by rw [h.field]
  conv := by rw [h.field]
  feedA := by rw [h.field]
  feedB := by rw [h.field]
  lock := h.lockWord
  attempts := h.attemptsWord
  cause := h.causeWord
  key := h.key

section
variable (s : State)

/-- What the field island measures for its report, with the phases' temperatures of index i. -/
def survey (i : Nat) (p : FieldPub) : FieldPub := { p with
  holdupTime := s.holdupTime
  phases := p.phases.mapIdx fun j x => { x with temp := signed 8 (Config.phaseTemp i j).toNat }
  permit := s.tele.permit
  thermRestarts := min 3 (s.tele.restarts.countP fun t => decide (s.tele.now < t + 86400000000000)) }

/-- The state that is reported, its stores brought up to now. -/
def surveyed : State := s.stepStores.draw.2.updPub (s.stepStores.draw.2.survey s.stepStores.draw.1)

theorem sendReport_eq : s.sendReport
    = (s.sweep.surveyed.toHub (.statusReport s.sweep.surveyed.report)).updTele fun t => { t with permit := 0 } := by
  unfold sendReport surveyed survey
  rfl

theorem surveyed_eq : s.surveyed = { s with fresh := s.surveyed.fresh, field := s.surveyed.field } := rfl
theorem surveyed_fieldEnd : s.surveyed.fieldEnd = s.fieldEnd := rfl
theorem surveyed_permit : s.surveyed.field.pub.permit = s.tele.permit := rfl
theorem surveyed_lastSet : s.surveyed.field.pub.lastSet = s.field.pub.lastSet := rfl
theorem surveyed_imageGap : s.surveyed.imageGap = s.imageGap := rfl

theorem map_st_mapIdx (f : Nat → Int) (l : List Phase) : (l.mapIdx fun j x => { x with temp := f j }).map (·.st) = l.map (·.st) :=
  List.ext_getElem (by simp) fun i h1 h2 => by simp

theorem surveyed_settings : SettingsKept s s.surveyed := by
  refine ⟨rfl, ?_, rfl, rfl, rfl, rfl, rfl, rfl, rfl, rfl, rfl, fun _ => rfl⟩
  exact map_st_mapIdx (fun j => signed 8 (Config.phaseTemp s.fresh j).toNat) _

/-- The report put on the link: what stands in the report, and nothing that the report speaks of. -/
def reported : State := (s.toHub (.statusReport s.report)).updTele fun t => { t with permit := 0 }

theorem reported_settings : SettingsKept s s.reported := ⟨rfl, rfl, rfl, rfl, rfl, rfl, rfl, rfl, rfl, rfl, rfl, fun _ => rfl⟩
theorem reported_pub : s.reported.field.pub = s.field.pub := rfl
theorem reported_tele : s.reported.tele = { s.tele with permit := 0 } := rfl
theorem reported_hubEnd : s.reported.hubEnd = s.hubEnd := rfl
theorem reported_out : s.reported.out = s.out := rfl

variable {s}

theorem reported_fieldEnd (h : s.imageGap = false) : s.reported.fieldEnd = sendFrom s.fieldEnd (.statusReport s.report) := toHub_fieldEnd h

/-- The state left reports the same. -/
theorem reported_report (h : s.imageGap = false) : s.reported.report = s.report := by
  obtain ⟨-, hresends, hdowns⟩ := sendFrom_kept s.fieldEnd (.statusReport s.report)
  have hreport : s.reported.report = { s.report with resends := s.reported.fieldEnd.resends, downs := s.reported.fieldEnd.downs } := rfl
  rw [hreport, reported_fieldEnd h, hresends, hdowns]
  rfl

theorem sendReport_reported : s.sendReport = s.sweep.surveyed.reported := s.sendReport_eq

/-- The report on the link is that of the state it leaves. -/
theorem sendReport_report (h : s.imageGap = false) : s.sendReport.fieldEnd = sendFrom s.fieldEnd (.statusReport s.sendReport.report) := by
  have hgap : s.sweep.surveyed.imageGap = false := by rw [surveyed_imageGap, (VoteKept.sweep s).imageGap]; exact h
  rw [sendReport_reported, reported_report hgap, reported_fieldEnd hgap, surveyed_fieldEnd, (VoteKept.sweep s).fieldEnd]

theorem sendReport_settings : SettingsKept s s.sendReport := by
  rw [sendReport_reported]
  exact ((VoteKept.sweep s).settings.trans (surveyed_settings _)).trans (reported_settings _)

theorem sendReport_tele : s.sendReport.tele = { s.tele with permit := 0 } := by
  have hswept : s.sweep.tele = s.tele := by rw [(VoteKept.sweep s).state]
  rw [sendReport_reported, reported_tele, ← hswept, surveyed_eq]

theorem sendReport_permit : s.sendReport.field.pub.permit = s.tele.permit := by
  have hswept : s.sweep.tele = s.tele := by rw [(VoteKept.sweep s).state]
  rw [sendReport_reported, reported_pub, surveyed_permit, hswept]

theorem sendReport_lastSet : s.sendReport.field.pub.lastSet = s.field.pub.lastSet := by
  rw [sendReport_reported, reported_pub, surveyed_lastSet, (VoteKept.sweep s).field]

theorem sendReport_hubEnd : s.sendReport.hubEnd = s.hubEnd := by
  rw [sendReport_reported, reported_hubEnd, surveyed_eq]
  exact (VoteKept.sweep s).hubEnd

theorem sendReport_out : s.sendReport.out = s.out := by
  rw [sendReport_reported, reported_out, surveyed_eq]
  exact (VoteKept.sweep s).out

theorem Frame.surveyed {v : State} {l : List (Page × Nat)} {ps : List StatePart} (h : Frame v s l ps) (hf : StatePart.field ∈ ps)
    (hd : StatePart.fresh ∈ ps) : Frame v s.surveyed l ps := by
  have hdrawn : Frame v s.stepStores.draw.2 l ps := (h.updField hf).with_fresh hd
  exact hdrawn.updPub hf

theorem Frame.reported {v : State} {l : List (Page × Nat)} {ps : List StatePart} (h : Frame v s l ps) (he : StatePart.fieldEnd ∈ ps)
    (ht : StatePart.tele ∈ ps) : Frame v s.reported l ps := (h.toHub he).updTele ht

theorem Frame.sendReport {v : State} {l : List (Page × Nat)} {ps : List StatePart} (h : Frame v s l ps) (he : StatePart.fieldEnd ∈ ps)
    (hf : StatePart.field ∈ ps) (ht : StatePart.tele ∈ ps) (hd : StatePart.fresh ∈ ps) : Frame v s.sendReport l ps := by
  rw [sendReport_reported]
  exact (Frame.surveyed ((VoteKept.sweep s).frame h hf) hf hd).reported he ht

end

/-! ## What a setting does (R347) -/

section
variable (s : State)

/-- The result of a setting is noted, and reported at once when it is a refusal. -/
def settingResult (why page off : Nat) : State :=
  let v := s.updPub fun p => { p with lastSet := (s.fieldEnd.rxSeq, why, page, off) }
  if why ≠ 0 && v.fieldEnd.up then v.sendReport else v

/-- SETTING_WRITE as the field island takes it. -/
def takeSetting (page role off : Nat) (v : Word) (s : State) : State :=
  let (why, s) := s.applySetting page role off v
  let s := s.updPub fun p => { p with lastSet := (s.fieldEnd.rxSeq, why, page, off) }
  if why ≠ 0 && s.fieldEnd.up then s.sendReport else s

variable {s} {page role off why : Nat} {v : Word} {t : State}

theorem takeSetting_of (h : s.applySetting page role off v = (why, t)) : takeSetting page role off v s = t.settingResult why page off := by
  unfold takeSetting
  rw [h]
  rfl

variable (s) (u : State) (why page off : Nat)

/-- A refusal is reported at once while the link is up. -/
def SettingTold : Prop :=
  (why ≠ 0 → s.tookEnd.up = true → u.fieldEnd = sendFrom s.tookEnd (.statusReport u.report) ∧ u.field.pub.permit = s.tele.permit
    ∧ u.tele = { s.tele with permit := 0 })
  ∧ (why = 0 ∨ s.tookEnd.up = false → u.fieldEnd = s.tookEnd ∧ u.tele = s.tele)

/-- The result noted of a setting, and its report. -/
def SettingLast : Prop := u.field.pub.lastSet = (s.tookEnd.rxSeq, why, page, off) ∧ s.SettingTold u why ∧ u.out = []

variable {s u why page off}

theorem settingResult_zero (s : State) (page off : Nat) :
    s.settingResult 0 page off = s.updPub fun p => { p with lastSet := (s.fieldEnd.rxSeq, 0, page, off) } := rfl

/-- A setting that is applied. -/
theorem settingLast_applied (hend : t.fieldEnd = s.tookEnd) (htele : t.tele = s.tele) (hout : t.out = []) :
    s.SettingLast (t.settingResult 0 page off) 0 page off := by
  rw [settingResult_zero, hend]
  exact ⟨rfl, ⟨fun h => absurd rfl h, fun _ => ⟨hend, htele⟩⟩, hout⟩

/-- A setting that is refused: its result and the report of it. -/
structure Refused (s u : State) (why page off : Nat) : Prop where
  kept : SettingsKept s u
  pub : why = 0 ∨ s.tookEnd.up = false → u.field.pub = { s.field.pub with lastSet := (s.tookEnd.rxSeq, why, page, off) }
  last : s.SettingLast u why page off
  frame : s.Frame u [] [.fieldEnd, .field, .tele, .fresh]
  hubEnd : u.hubEnd = s.hubEnd

theorem noted_settings (s : State) (x : Nat × Nat × Nat × Nat) : SettingsKept s (s.taken.updPub fun p => { p with lastSet := x }) :=
  ⟨rfl, rfl, rfl, rfl, rfl, rfl, rfl, rfl, rfl, rfl, rfl, fun _ => rfl⟩

theorem settingResult_refused (hgap : s.imageGap = false) : Refused s (s.taken.settingResult why page off) why page off := by
  have hnoted : s.Frame (s.taken.updPub fun p => { p with lastSet := (s.tookEnd.rxSeq, why, page, off) }) []
      [.fieldEnd, .field, .tele, .fresh] := (s.taken_frame (by decide)).updPub (by decide)
  by_cases h : why ≠ 0 ∧ s.tookEnd.up = true
  · obtain ⟨hwhy, hup⟩ := h
    have hres : s.taken.settingResult why page off
        = (s.taken.updPub fun p => { p with lastSet := (s.tookEnd.rxSeq, why, page, off) }).sendReport := by
      refine if_pos ?_
      rw [Bool.and_eq_true]
      exact ⟨decide_eq_true hwhy, hup⟩
    rw [hres]
    have hdown : ¬(why = 0 ∨ s.tookEnd.up = false) := by simp [hwhy, hup]
    refine ⟨(noted_settings ..).trans sendReport_settings, fun h => absurd h hdown,
      ⟨sendReport_lastSet, ⟨fun _ _ => ⟨sendReport_report hgap, sendReport_permit, sendReport_tele⟩, fun h => absurd h hdown⟩, sendReport_out⟩,
      hnoted.sendReport (by decide) (by decide) (by decide) (by decide), sendReport_hubEnd⟩
  · have hres : s.taken.settingResult why page off
        = s.taken.updPub fun p => { p with lastSet := (s.tookEnd.rxSeq, why, page, off) } := by
      refine if_neg fun hc => h ?_
      rw [Bool.and_eq_true] at hc
      exact ⟨of_decide_eq_true hc.1, hc.2⟩
    rw [hres]
    exact ⟨noted_settings .., fun _ => rfl,
      ⟨rfl, ⟨fun h1 h2 => absurd ⟨h1, h2⟩ h, fun _ => ⟨rfl, rfl⟩⟩, rfl⟩, hnoted, rfl⟩

/-- A setting that is kept under a mask. -/
structure Kept (s u : State) (p : Page) (page off : Nat) (v m : Word) : Prop where
  word : u.fieldWord p off = (s.fieldWord p off &&& ~~~m) ||| (v &&& m)
  others : ∀ a, a ≠ p.base + off → u.field.pub.settings.get (resetWord s.part) a = s.field.pub.settings.get (resetWord s.part) a
  last : s.SettingLast u 0 page off
  frame : s.Frame u [] [.fieldEnd, .field]
  hubEnd : u.hubEnd = s.hubEnd

/-- The state to which a setting is applied: stores may have been brought up to now. -/
theorem settingResult_kept {p : Page} {m : Word} (hstate : t = { s.taken with field := t.field }) (hpub : t.field.pub = s.field.pub) :
    Kept s ((t.setSetting p off ((s.fieldWord p off &&& ~~~m) ||| (v &&& m))).settingResult 0 page off) p page off v m := by
  have hpart : t.part = s.part := by rw [hstate]; rfl
  have hend : t.fieldEnd = s.tookEnd := by rw [hstate]; rfl
  have htele : t.tele = s.tele := by rw [hstate]; rfl
  have hout : t.out = [] := by rw [hstate]; rfl
  have hhub : t.hubEnd = s.hubEnd := by rw [hstate]; rfl
  have hframe : s.Frame t [] [.fieldEnd, .field] := by rw [hstate]; exact (s.taken_frame (by decide)).with_field (by decide)
  generalize hw : (s.fieldWord p off &&& ~~~m) ||| (v &&& m) = w
  have hlast := settingLast_applied (s := s) (t := t.setSetting p off w) (page := page) (off := off) hend htele hout
  rw [settingResult_zero] at hlast ⊢
  have hset : (t.setSetting p off w).field.pub.settings = s.field.pub.settings.set (resetWord s.part) (p.base + off) w := by
    show t.field.pub.settings.set (resetWord t.part) _ _ = _
    rw [hpub, hpart]
  refine ⟨?_, fun a ha => ?_, hlast, (hframe.updPub (by decide)).updPub (by decide), hhub⟩
  · show (t.setSetting p off w).field.pub.settings.get (resetWord t.part) (p.base + off) = _
    rw [hset, hpart, SMap.get_set_same, hw]
  · show (t.setSetting p off w).field.pub.settings.get (resetWord s.part) a = _
    rw [hset, SMap.get_set_ne _ _ _ _ _ ha]

/-! ## The registers of the rail channel (R422) -/

theorem railOk_iff : ∀ o ∈ [0x020, 0x024, 0x028], (railOk o v = true ↔
    (o = 0x020 → FRL.RL_CTRL.ROLE.get v ≠ 3 ∧ FRL.RL_CTRL.WAKE_CYCLES.get v ≠ 0)
    ∧ (o = 0x024 → 1 ≤ FRL.RL_NET.NODE_ID.get v ∧ FRL.RL_NET.NODE_ID.get v ≤ 0xFFE)
    ∧ (o = 0x028 → 2 ≤ FRL.RL_TUNE.STRAIN_K.get v ∧ 3 ≤ FRL.RL_TUNE.CAPTURE_MARGIN.get v ∧ FRL.RL_TUNE.TM_MARGIN.get v ≤ 40
        ∧ FRL.RL_TUNE.CS_LEVEL.get v ≤ 60)) := by
  intro o ho
  simp only [List.mem_cons, List.not_mem_nil, or_false] at ho
  rcases ho with rfl | rfl | rfl <;> simp [railOk, and_assoc]

/-! ## PHASE_CTRL (R357, R362) -/

theorem autoSpare_put (x : Word) : FPW.PHASE_CTRL.AUTO_SPARE.put x (FPW.PHASE_CTRL.AUTO_SPARE.get v) = (x &&& ~~~0x40) ||| (v &&& 0x40) := by
  have hmask : ((BitVec.allOnes 1).setWidth 32 <<< 6 : Word) = 0x40 := by decide
  rw [Fld.put_get]
  exact hmask ▸ rfl

theorem setPhase_phase (s : State) (i k : Nat) (p : Phase) :
    (s.setPhase i p).phase k = if k = i ∧ i < s.field.pub.phases.length then p else s.phase k := by
  show (s.field.pub.phases.set i p).getD k _ = _
  unfold phase
  rw [List.getD_eq_getElem?_getD, List.getD_eq_getElem?_getD, List.getElem?_set]
  by_cases hk : i = k
  · subst hk
    by_cases hi : i < s.field.pub.phases.length
    · simp [hi]
    · simp [hi]
  · simp [hk, Ne.symm hk]

/-- A phase with a state other than retired is in its place. -/
theorem phase_lt {s : State} {i : Nat} (h : (s.phase i).st ≠ .retired) : i < s.field.pub.phases.length := by
  by_contra hi
  refine h ?_
  unfold phase
  rw [List.getD_eq_default _ _ (by omega)]

/-- What only the field island's own state shows. -/
structure Inside (s t : State) : Prop where
  state : t = { s with field := t.field }
  gap : t.imageGap = s.imageGap

namespace Inside

variable {s t u : State}

theorem trans (h : Inside s t) (g : Inside t u) : Inside s u := ⟨by rw [g.state, h.state], g.gap.trans h.gap⟩
theorem updPub (s : State) (f : FieldPub → FieldPub) : Inside s (s.updPub f) := ⟨rfl, rfl⟩

variable (h : Inside s t)
include h

theorem fieldEnd : t.fieldEnd = s.fieldEnd := by rw [h.state]
theorem hubEnd : t.hubEnd = s.hubEnd := by rw [h.state]
theorem out : t.out = s.out := by rw [h.state]
theorem frame {v : State} {l : List (Page × Nat)} {ps : List StatePart} (hv : Frame v s l ps) (hm : StatePart.field ∈ ps) :
    Frame v t l ps := by
  rw [h.state]; exact hv.with_field hm

end Inside

section
variable (s : State) (i j r : Nat)

/-- A replacement noted in the place of one that the phase was part of. -/
def dropSwap : State := s.updField fun f => { f with swaps := f.swaps.filter fun x => x.2.1 != some i }
def noteSwap : State := s.updField fun f => { f with swaps := f.swaps ++ [(i, some j, r)] }

/-- A spare brought in, counted; SHORT and the converter follow. -/
def countSpare : State :=
  ((s.updPub fun x => { x with phaseSwaps := min (x.phaseSwaps + 1) 255, spared := x.spared + 1, failed := x.failed }).fcount .fpw 17 1).reshortConv

theorem dropSwap_inside : Inside s (s.dropSwap i) := ⟨rfl, rfl⟩
theorem noteSwap_inside : Inside s (s.noteSwap i j r) := ⟨rfl, rfl⟩
theorem fcount_inside (p : Page) : Inside s (s.fcount p i j) := .updPub s _
theorem reshortConv_inside : Inside s s.reshortConv := .updPub s _
theorem countSpare_inside : Inside s s.countSpare := ((Inside.updPub s _).trans (fcount_inside ..)).trans (reshortConv_inside _)
theorem setPhase_inside (x : Phase) : Inside s (s.setPhase i x) := .updPub s _

theorem fcount_phase (p : Page) (k : Nat) : (s.fcount p i j).phase k = s.phase k := rfl
theorem reshortConv_phase (k : Nat) : s.reshortConv.phase k = s.phase k := rfl
theorem countSpare_phase (k : Nat) : s.countSpare.phase k = s.phase k := (reshortConv_phase _ k).trans (fcount_phase ..)
theorem fcount_swaps (p : Page) : (s.fcount p i j).field.swaps = s.field.swaps := rfl
theorem reshortConv_swaps : s.reshortConv.field.swaps = s.field.swaps := rfl
theorem countSpare_swaps : s.countSpare.field.swaps = s.field.swaps := (reshortConv_swaps _).trans (fcount_swaps ..)

/-- The state in which the spare of a replacement on demand ramps in. -/
def spareIn : State :=
  ((((s.dropSwap i).setPhase j { s.phase j with st := .rampIn }).setPhase i (s.phase i)).noteSwap i j r).countSpare

theorem spareIn_inside : Inside s (s.spareIn i j r) :=
  ((((dropSwap_inside ..).trans (setPhase_inside ..)).trans (setPhase_inside ..)).trans (noteSwap_inside ..)).trans (countSpare_inside _)

theorem noteSwap_phase (k : Nat) : (s.noteSwap i j r).phase k = s.phase k := rfl
theorem dropSwap_phase (k : Nat) : (s.dropSwap i).phase k = s.phase k := rfl
theorem noteSwap_swaps : (s.noteSwap i j r).field.swaps = s.field.swaps ++ [(i, some j, r)] := rfl
theorem setPhase_swaps (x : Phase) : (s.setPhase i x).field.swaps = s.field.swaps := rfl
theorem dropSwap_swaps : (s.dropSwap i).field.swaps = s.field.swaps.filter fun x => x.2.1 != some i := rfl

theorem spareIn_swaps : (s.spareIn i j r).field.swaps = (s.field.swaps.filter fun x => x.2.1 != some i) ++ [(i, some j, r)] := by
  rw [spareIn, countSpare_swaps, noteSwap_swaps, setPhase_swaps, setPhase_swaps, dropSwap_swaps]

/-- The spare ramps in; every other phase is as before. -/
theorem spareIn_phase (hij : i ≠ j) (hj : j < s.field.pub.phases.length) (k : Nat) :
    (s.spareIn i j r).phase k = if k = j then { s.phase j with st := .rampIn } else s.phase k := by
  have hlen : j < (s.dropSwap i).field.pub.phases.length := hj
  rw [spareIn, countSpare_phase, noteSwap_phase, setPhase_phase, setPhase_phase, dropSwap_phase]
  by_cases hk : k = j
  · simp [hk, hlen, Ne.symm hij]
  · by_cases hi : k = i
    · simp [hi, hij]
    · simp [hk, hi]

end

theorem replacePhase_spare {s : State} {i j r : Nat} (hr : 3 < r) (hwork : (s.phase i).st = .working) (hfree : s.beingReplaced i = false)
    (hspare : ((List.range 26).find? fun j => (s.phase j).st == .spare) = some j) :
    s.replacePhase i r = (s.spareIn i j r).toHub (.phaseSpare i j r (sparesLeft (s.spareIn i j r).field.pub.phases)) := by
  have h3 : r ≠ 3 := by omega
  have h2 : ¬r ≤ 2 := by omega
  have hspare' : ((List.range 26).find? fun j =>
      ((s.updField fun f => { f with swaps := f.swaps.filter fun x => x.2.1 != some i }).phase j).st == .spare) = some j := hspare
  unfold replacePhase
  dsimp only
  rw [if_neg (by simp [h3]), if_neg (by simp [hwork, hfree, h2]), hspare']
  simp only [h3, if_false]
  rfl

end

end Sys2Proof.Machine.State
end

section
/-! PROOFS. The messages of proofs, starts, kettle mode, trips and image chunks at the field island (R46, R48, R384, R441-R443, R449, R361). -/
namespace Sys2Proof.Machine.State

open Sys2Proof Reg

/-! ## What each command takes -/

/-- The field island, awake, has this message next, and no RAIL_SEND behind it. -/
structure NextIs (s : State) (m : BMsg) : Prop where
  awake : s.fieldAwake = true
  sends : s.NoSends
  next : s.nextToField = some m

/-- START_RESULT's effect. -/
def takeStart (outcome cause level stage : Nat) (s : State) : State :=
  let s := s.updField fun f => { f with hostLevel := level }
  match outcome with
  | 0 => if stage = 0x10 then s.updField fun f => { f with inputs := cause } else s
  | 1 => s.succeedAttempt
  | _ => s.failAttempt cause

/-- THERMAL_NOTICE's effect. -/
def takeTrip (die kind : Nat) (s : State) : State :=
  if kind = 1 then s.updTele fun t => { t with trips := putBit t.trips die true } else s

def takesProof (m : BMsg) : Option (State → State) := match m with
  | .proofCheck role nonce counter proof => some fun s => s.checkHostProof role nonce counter proof
  | _ => none
def takesStart (m : BMsg) : Option (State → State) := match m with
  | .startResult outcome cause level stage => some (takeStart outcome cause level stage)
  | _ => none
def takesClear (m : BMsg) : Option (State → State) := match m with
  | .kettleClear counter => some fun s => (s.kettleClear counter false).2
  | _ => none
def takesTrip (m : BMsg) : Option (State → State) := match m with
  | .thermalNotice die _ kind _ _ => some (takeTrip die kind)
  | _ => none
def takesChunk (m : BMsg) : Option (State → State) := match m with
  | .imageChunk off bytes => some fun s => s.takeChunk off bytes
  | _ => none
def takesSetting (m : BMsg) : Option (State → State) := match m with
  | .settingWrite page role off v => some (takeSetting page role off v)
  | _ => none

section
variable (s : State)

theorem exec_proofCheck : exec .proofCheck s = s.done fun t => t.fieldTakes takesProof := rfl
theorem exec_startResult : exec .startResult s = s.done fun t => t.fieldTakes takesStart := rfl
theorem exec_kettleClear : exec .kettleClear s = s.done fun t => t.fieldTakes takesClear := rfl
theorem exec_thermalNotice : exec .thermalNotice s = s.done fun t => t.fieldTakes takesTrip := rfl
theorem exec_imageChunk : exec .imageChunk s = s.done fun t => t.fieldTakes takesChunk := rfl
theorem exec_settingWrite : exec .settingWrite s = s.done fun t => t.fieldTakes takesSetting := rfl

variable {s} {c : Instr} {f : BMsg → Option (State → State)} {g : State → State} {m : BMsg} {P : State → Prop}

/-- A message taken: the link to the field island keeps no RAIL_SEND to follow it. -/
theorem answers_fieldTakes (hexec : exec c s = s.done fun t => t.fieldTakes f) (h : s.NextIs m) (hf : f m = some g)
    (hhub : (g s.taken).hubEnd.unacked = [] ∨ (g s.taken).hubEnd = s.hubEnd) (hP : P (g s.taken)) : Answers c s P := by
  refine answers_done _ hexec ?_
  rw [fieldTakes_next h.awake h.next hf, takeSends_idle (h.sends.of_hubEnd hhub)]
  exact hP

/-- A command whose message is not next does nothing. -/
theorem answers_notTaken (hexec : exec c s = s.done fun t => t.fieldTakes f) (t : Nat) (hf : ∀ m, msgType m ≠ t → f m = none)
    (h : s.fieldAwake = false ∨ ∀ m, s.nextToField = some m → msgType m ≠ t) : Answers c s fun u => u.out = [] ∧ s.Frame u [] [] := by
  refine answers_done _ hexec ?_
  rw [fieldTakes_none (h.imp_right fun h m hm => hf m (h m hm))]
  exact ⟨rfl, Frame.silent⟩

theorem takesProof_none (h : msgType m ≠ 6) : takesProof m = none := by
  unfold takesProof; split
  · exact absurd rfl h
  · rfl
theorem takesStart_none (h : msgType m ≠ 8) : takesStart m = none := by
  unfold takesStart; split
  · exact absurd rfl h
  · rfl
theorem takesClear_none (h : msgType m ≠ 10) : takesClear m = none := by
  unfold takesClear; split
  · exact absurd rfl h
  · rfl
theorem takesTrip_none (h : msgType m ≠ 13) : takesTrip m = none := by
  unfold takesTrip; split
  · exact absurd rfl h
  · rfl
theorem takesChunk_none (h : msgType m ≠ 15) : takesChunk m = none := by
  unfold takesChunk; split
  · exact absurd rfl h
  · rfl
theorem takesSetting_none (h : msgType m ≠ 16) : takesSetting m = none := by
  unfold takesSetting; split
  · exact absurd rfl h
  · rfl

/-- No frame of the command's type is next. -/
theorem answers_noFrame (t : Nat) (hc : (c, t) ∈ [(Instr.proofCheck, 6), (.startResult, 8), (.kettleClear, 10), (.thermalNotice, 13),
      (.imageChunk, 15), (.settingWrite, 16)])
    (h : s.fieldAwake = false ∨ ∀ m, s.nextToField = some m → msgType m ≠ t) : Answers c s fun u => u.out = [] ∧ s.Frame u [] [] := by
  simp only [List.mem_cons, List.not_mem_nil, or_false, Prod.mk.injEq] at hc
  rcases hc with ⟨rfl, rfl⟩ | ⟨rfl, rfl⟩ | ⟨rfl, rfl⟩ | ⟨rfl, rfl⟩ | ⟨rfl, rfl⟩ | ⟨rfl, rfl⟩
  · exact answers_notTaken s.exec_proofCheck 6 (fun _ => takesProof_none) h
  · exact answers_notTaken s.exec_startResult 8 (fun _ => takesStart_none) h
  · exact answers_notTaken s.exec_kettleClear 10 (fun _ => takesClear_none) h
  · exact answers_notTaken s.exec_thermalNotice 13 (fun _ => takesTrip_none) h
  · exact answers_notTaken s.exec_imageChunk 15 (fun _ => takesChunk_none) h
  · exact answers_notTaken s.exec_settingWrite 16 (fun _ => takesSetting_none) h

end

/-! ## PROOF_CHECK -/

section
variable {s : State} {role res : Nat} {nonce : BitVec 64} {counter : BitVec 32} {proof : List Word} {w : LockWord}

/-- The answer to a proof is on the link; the lockout word is w. -/
structure ProofAnswered (s u : State) (role res : Nat) (w : LockWord) : Prop where
  lock : u.lockWord = w
  sent : u.fieldEnd = sendFrom s.tookEnd (.proofResult role res u.lockWord.host.failRun u.lockWord.host.remain u.lockWord.host.counter)
  out : u.out = []
  frame : s.Frame u [] [.fieldEnd, .field]

/-- The answer of a state that votes and writes of the lockout word have left as it was. -/
theorem answers_proof {t : State} (h : s.NextIs (.proofCheck role nonce counter proof))
    (hcheck : s.taken.checkHostProof role nonce counter proof = t.proofAnswer role res) (hgap : t.imageGap = s.imageGap)
    (hlock : t.lockWord = w) (hend : t.fieldEnd = s.tookEnd) (hout : t.out = []) (hhub : t.hubEnd = s.hubEnd)
    (hframe : s.Frame t [] [.fieldEnd, .field]) : Answers .proofCheck s fun u => ProofAnswered s u role res w := by
  refine answers_fieldTakes s.exec_proofCheck h rfl (.inr ?_) ?_
  · rw [hcheck, proofAnswer_hubEnd, hhub]
  · have hawake := hgap.trans (imageGap_of_awake h.awake)
    rw [hcheck]
    refine ⟨hlock, ?_, (proofAnswer_out _).trans hout, hframe.proofAnswer (by decide)⟩
    rw [proofAnswer_fieldEnd hawake, proofAnswer_lockWord, hend]

/-- A word written and the answer of it. -/
theorem answers_proof_written (h : s.NextIs (.proofCheck role nonce counter proof))
    (hcheck : s.taken.checkHostProof role nonce counter proof = (s.taken.proofRead.setLock w).proofAnswer role res) :
    Answers .proofCheck s fun u => ProofAnswered s u role res w := by
  have hread := proofRead_kept s.taken
  refine answers_proof h hcheck ?_ (setLock_lockWord _ _) ?_ ?_ ?_ ?_
  · exact (setLock_imageGap _ _).trans hread.imageGap
  · rw [setLock_eq]; exact hread.fieldEnd
  · exact (setLock_out _ _).trans hread.out
  · rw [setLock_eq]; exact hread.hubEnd
  · exact (hread.frame (s.taken_frame (by decide)) (by decide)).setLock (by decide)

theorem answers_proof_locked (h : s.NextIs (.proofCheck role nonce counter proof)) (hl : s.lockWord.host.remain ≠ 0) :
    Answers .proofCheck s fun u => ProofAnswered s u role 3 s.lockWord := by
  have hread := proofRead_kept s.taken
  exact answers_proof h (checkHostProof_locked hl) hread.imageGap hread.lockWord hread.fieldEnd hread.out hread.hubEnd
    (hread.frame (s.taken_frame (by decide)) (by decide))

theorem taken_proofRight {p : List Byte} : s.taken.proofRight role nonce counter s.lockWord.host.counter p = true
    ↔ ∃ k, s.roleKey role = some k ∧ counter = s.lockWord.host.counter ∧ Crypto.hmac (keyBytes k) (proofMessage nonce role counter) = p :=
  proofRight_iff

theorem answers_proof_right (h : s.NextIs (.proofCheck role nonce counter proof)) (hl : s.lockWord.host.remain = 0)
    (hr : ∃ k, s.roleKey role = some k ∧ counter = s.lockWord.host.counter
      ∧ Crypto.hmac (keyBytes k) (proofMessage nonce role counter) = proof.flatMap fun x => bytesBE 4 x.toNat) :
    Answers .proofCheck s fun u => ProofAnswered s u role 1 { s.lockWord with host := lockPass s.lockWord.host } := by
  exact answers_proof_written h ((checkHostProof_open (s := s.taken) hl).trans (if_pos (taken_proofRight.2 hr)))

theorem answers_proof_wrong (h : s.NextIs (.proofCheck role nonce counter proof)) (hl : s.lockWord.host.remain = 0)
    (hr : ¬∃ k, s.roleKey role = some k ∧ counter = s.lockWord.host.counter
      ∧ Crypto.hmac (keyBytes k) (proofMessage nonce role counter) = proof.flatMap fun x => bytesBE 4 x.toNat) :
    Answers .proofCheck s fun u => ProofAnswered s u role 2 { s.lockWord with host := lockFail s.lockWord.host } := by
  exact answers_proof_written h ((checkHostProof_open (s := s.taken) hl).trans (if_neg fun hp => hr (taken_proofRight.1 hp)))

end

/-! ## START_RESULT -/

section
variable {s : State} {outcome cause level stage : Nat} {a : Attempt}

/-- The message taken and the host's level noted. -/
def levelled (s : State) (level : Nat) : State := s.taken.updField fun f => { f with hostLevel := level }

theorem levelled_frame {ps : List StatePart} (he : StatePart.fieldEnd ∈ ps) (hf : StatePart.field ∈ ps) : s.Frame (s.levelled level) [] ps :=
  (s.taken_frame he).updField hf

theorem takeStart_stage : takeStart 0 cause level stage s.taken
    = if stage = 0x10 then (s.levelled level).updField fun f => { f with inputs := cause } else s.levelled level := rfl
theorem takeStart_success : takeStart 1 cause level stage s.taken = (s.levelled level).succeedAttempt := rfl
theorem takeStart_failure (h : 2 ≤ outcome) : takeStart outcome cause level stage s.taken = (s.levelled level).failAttempt cause := by
  obtain ⟨k, rfl⟩ := Nat.exists_eq_add_of_le' h
  rfl

theorem answers_start_stage (h : s.NextIs (.startResult 0 cause level stage)) : Answers .startResult s fun u =>
    u.field = { s.field with hostLevel := level, inputs := if stage = 0x10 then cause else s.field.inputs } ∧ u.fieldEnd = s.tookEnd
    ∧ u.out = [] ∧ s.Frame u [] [.fieldEnd, .field] := by
  refine answers_fieldTakes s.exec_startResult h rfl (.inr ?_) ?_ <;> rw [takeStart_stage]
  · split <;> rfl
  · split
    · exact ⟨rfl, rfl, rfl, (levelled_frame (by decide) (by decide)).updField (by decide)⟩
    · exact ⟨rfl, rfl, rfl, levelled_frame (by decide) (by decide)⟩

theorem answers_start_success (h : s.NextIs (.startResult 1 cause level stage)) (ha : s.start.attempt ≠ none) :
    Answers .startResult s fun u => u.attemptsWord = 0 ∧ u.causeWord = { cause := 0, deep := s.causeWord.deep }
      ∧ u.start = { s.start with attempt := none, powerOn := false } ∧ u.field.hostLevel = level ∧ u.fieldEnd = s.tookEnd
      ∧ u.out = [] ∧ s.Frame u [] [.fieldEnd, .field, .start] := by
  obtain ⟨a, ha⟩ := Option.ne_none_iff_exists'.1 ha
  have hdone := succeedAttempt_some (s := s.levelled level) (a := a) ha
  refine answers_fieldTakes s.exec_startResult h rfl (.inr ?_) ?_ <;> rw [takeStart_success, hdone]
  · rfl
  · refine ⟨(setCause_attemptsWord _ _).trans (setAttempts_attemptsWord _ _), setCause_causeWord _ _, rfl,
      (setCause_hostLevel _ _).trans (setAttempts_hostLevel _ _), rfl, rfl, ?_⟩
    exact (((levelled_frame (by decide) (by decide)).setAttempts (by decide)).setCause (by decide)).with_start (by decide)

theorem answers_start_off (h : s.NextIs (.startResult outcome cause level stage)) (ho : 2 ≤ outcome) (ha : s.start.attempt = some a)
    (hk : a.fromKettle = false ∨ a.counterBefore < 3) : Answers .startResult s fun u =>
      u.causeWord = { cause := cause, deep := s.causeWord.deep } ∧ u.attemptsWord = s.attemptsWord ∧ u.start.power = .off
      ∧ u.start.attempt = none ∧ u.start.offWait = true ∧ u.start.thermalWait = (s.start.thermalWait || decide (cause = 8))
      ∧ u.host.mgmt = .off ∧ u.hubEnd.up = false ∧ u.fieldEnd.up = false ∧ u.out = []
      ∧ s.Frame u [] [.fieldEnd, .hubEnd, .host, .field, .start] := by
  have hfail : takeStart outcome cause level stage s.taken
      = ((s.levelled level).setCause { cause := cause, deep := s.causeWord.deep }).offForAttempt cause :=
    (takeStart_failure ho).trans (failAttempt_off ha hk)
  have hframe : s.Frame ((s.levelled level).setCause { cause := cause, deep := s.causeWord.deep }) []
      [.fieldEnd, .hubEnd, .host, .field, .start] := (levelled_frame (by decide) (by decide)).setCause (by decide)
  obtain ⟨hcause, hattempts, hout⟩ := ((s.levelled level).setCause { cause := cause, deep := s.causeWord.deep }).offForAttempt_kept cause
  obtain ⟨hpower, hnone, hwait, hthermal⟩ := ((s.levelled level).setCause { cause := cause, deep := s.causeWord.deep }).offForAttempt_start cause
  obtain ⟨hmgmt, hsent, hhub, hfield⟩ := ((s.levelled level).setCause { cause := cause, deep := s.causeWord.deep }).offForAttempt_ends cause
  refine answers_fieldTakes s.exec_startResult h rfl (.inl ?_) ?_ <;> rw [hfail]
  · exact hsent
  · exact ⟨hcause.trans (setCause_causeWord _ _), hattempts.trans (setCause_attemptsWord _ _), hpower, hnone, hwait, hthermal, hmgmt, hhub,
      hfield, hout, hframe.offForAttempt (by decide) (by decide) (by decide) (by decide) (by decide)⟩

theorem answers_start_kettle (h : s.NextIs (.startResult outcome cause level stage)) (ho : 2 ≤ outcome) (ha : s.start.attempt = some a)
    (hk : a.fromKettle = true) (hn : 3 ≤ a.counterBefore) : Answers .startResult s fun u =>
      u.causeWord = { cause := cause, deep := s.causeWord.deep } ∧ u.start.kettle = true ∧ u.start.power = .kettleSet
      ∧ u.start.attempt = none ∧ u.start.datapath = false ∧ u.out = [] := by
  have hfail := failAttempt_kettle (s := s.levelled level) (c := cause) ha hk hn
  obtain ⟨hcause, hkettle, hpower, hattempt, hdata, hout, hhub⟩ :=
    (s.levelled level).enterKettle_kept { cause := cause, deep := s.causeWord.deep }
  refine answers_fieldTakes s.exec_startResult h rfl ?_ ?_ <;> rw [takeStart_failure ho, hfail]
  · exact hhub
  · exact ⟨hcause, hkettle, hpower, hattempt, hdata, hout⟩

theorem answers_start_idle (h : s.NextIs (.startResult outcome cause level stage)) (ho : outcome ≠ 0) (ha : s.start.attempt = none) :
    Answers .startResult s fun u => u.field = { s.field with hostLevel := level } ∧ u.fieldEnd = s.tookEnd
      ∧ u.out = [] ∧ s.Frame u [] [.fieldEnd, .field] := by
  have hnoted : takeStart outcome cause level stage s.taken = s.levelled level := by
    by_cases h1 : outcome = 1
    · rw [h1, takeStart_success]; exact succeedAttempt_none ha
    · rw [takeStart_failure (by omega)]; exact failAttempt_none _ ha
  refine answers_fieldTakes s.exec_startResult h rfl (.inr ?_) ?_ <;> rw [hnoted]
  · rfl
  · exact ⟨rfl, rfl, rfl, levelled_frame (by decide) (by decide)⟩

end

/-! ## KETTLE_CLEAR, THERMAL_NOTICE, IMAGE_CHUNK -/

section
variable {s : State}

/-- The counter as a KETTLE_CLEAR leaves it for the attempt that follows. -/
def clearedCounter (s : State) (c : Bool) : State := if c then s.setAttempts 0 else s

theorem clearedCounter_kept (s : State) (c : Bool) : s.clearedCounter c = { s with field := (s.clearedCounter c).field }
    ∧ (s.clearedCounter c).attemptsWord = (if c then 0 else s.attemptsWord) ∧ (s.clearedCounter c).causeWord = s.causeWord := by
  cases c with
  | true => exact ⟨rfl, setAttempts_attemptsWord _ _, setAttempts_causeWord _ _⟩
  | false => exact ⟨rfl, rfl, rfl⟩

theorem answers_clear_begins {c : Bool} (h : s.NextIs (.kettleClear c)) (ha : s.start.attempt = none) (hk : s.start.kettle = true) :
    Answers .kettleClear s fun u =>
      u.start.attempt = some { step := 7, fromKettle := true, fromReset := false, counterBefore := if c then 0 else s.attemptsWord
                               causeBefore := s.causeWord, held := false, watchdog := true, reported := false }
      ∧ u.attemptsWord = min ((if c then 0 else s.attemptsWord) + 1) 255 ∧ u.causeWord = s.causeWord ∧ u.start.kettle = false
      ∧ u.start.power = s.start.power ∧ u.fieldEnd = s.tookEnd ∧ u.out = [] ∧ s.Frame u [] [.fieldEnd, .field, .start] := by
  have hbegin : (s.taken.kettleClear c false).2 = (s.taken.clearedCounter c).beginAttempt 7 true false := kettleClear_begins ha hk
  obtain ⟨hstate, hattempts, hcause⟩ := s.taken.clearedCounter_kept c
  have hframe : s.Frame (s.taken.clearedCounter c) [] [.fieldEnd, .field, .start] := by
    rw [hstate]; exact (s.taken_frame (by decide)).with_field (by decide)
  have hend : (s.taken.clearedCounter c).fieldEnd = s.tookEnd := by rw [hstate]; rfl
  have hout : (s.taken.clearedCounter c).out = [] := by rw [hstate]; rfl
  have hhub : (s.taken.clearedCounter c).hubEnd = s.hubEnd := by rw [hstate]; rfl
  have hpower : (s.taken.clearedCounter c).start.power = s.start.power := by rw [hstate]; rfl
  have hattempts' : (s.taken.clearedCounter c).attemptsWord = if c then 0 else s.attemptsWord := hattempts
  have hcause' : (s.taken.clearedCounter c).causeWord = s.causeWord := hcause
  refine answers_fieldTakes s.exec_kettleClear h rfl (.inr ?_) ?_ <;> rw [hbegin, beginAttempt_seven]
  · exact hhub
  · rw [hattempts', hcause']
    refine ⟨rfl, setAttempts_attemptsWord _ _, (setAttempts_causeWord _ _).trans hcause', rfl, hpower, hend, hout, ?_⟩
    exact (hframe.setAttempts (by decide)).with_start (by decide)

theorem answers_clear_ignored {c : Bool} (h : s.NextIs (.kettleClear c)) (hno : s.start.attempt ≠ none ∨ s.start.kettle = false) :
    Answers .kettleClear s fun u => u.fieldEnd = s.tookEnd ∧ u.out = [] ∧ s.Frame u [] [.fieldEnd] := by
  have hsame : (s.taken.kettleClear c false).2 = s.taken := kettleClear_ignored hno
  refine answers_fieldTakes s.exec_kettleClear h rfl (.inr ?_) ?_ <;> rw [hsame]
  · rfl
  · exact ⟨rfl, rfl, s.taken_frame (by decide)⟩

theorem answers_trip {die zone kind band : Nat} {temp : Int} (h : s.NextIs (.thermalNotice die zone kind band temp)) :
    Answers .thermalNotice s fun u =>
      u.tele = (if kind = 1 then { s.tele with trips := putBit s.tele.trips die true } else s.tele) ∧ u.fieldEnd = s.tookEnd
      ∧ u.out = [] ∧ s.Frame u [] [.fieldEnd, .tele] := by
  refine answers_fieldTakes s.exec_thermalNotice h rfl (.inr ?_) ?_ <;> unfold takeTrip <;> split
  · rfl
  · rfl
  · exact ⟨rfl, rfl, rfl, (s.taken_frame (by decide)).updTele (by decide)⟩
  · exact ⟨rfl, rfl, rfl, s.taken_frame (by decide)⟩

variable {off : Nat} {bytes : List Byte}

theorem takeChunk_ignored (h : s.field.pub.imgState ≠ 1 ∨ off ≠ s.field.img.length) : s.takeChunk off bytes = s := if_pos (by simpa using h)

/-- IMAGE_STATE once these bytes have arrived. -/
def chunkState (img : List Byte) : Nat :=
  if 262144 < imgLen img || 262144 + 3 < img.length then 5 else if imgLen img ≤ img.length then 2 else 1

theorem chunkState_eq (img : List Byte) : chunkState img = if 262144 < natBE (img.take 4) ∨ 262147 < img.length then 5
    else if natBE (img.take 4) ≤ img.length then 2 else 1 := by
  unfold chunkState imgLen
  simp only [Bool.or_eq_true, decide_eq_true_eq]

theorem takeChunk_stored (h : s.field.pub.imgState = 1) (hoff : off = s.field.img.length) : s.takeChunk off bytes = { s with
    field := { s.field with
      img := s.field.img ++ bytes, pub := { s.field.pub with imgState := chunkState (s.field.img ++ bytes) } } } :=
  if_neg (by simp [hoff, h])

theorem answers_chunk_ignored (h : s.NextIs (.imageChunk off bytes)) (hno : s.field.pub.imgState ≠ 1 ∨ off ≠ s.field.img.length) :
    Answers .imageChunk s fun u => u.fieldEnd = s.tookEnd ∧ u.out = [] ∧ s.Frame u [] [.fieldEnd] := by
  have hsame : s.taken.takeChunk off bytes = s.taken := takeChunk_ignored hno
  refine answers_fieldTakes s.exec_imageChunk h rfl (.inr ?_) ?_ <;> rw [hsame]
  · rfl
  · exact ⟨rfl, rfl, s.taken_frame (by decide)⟩

theorem answers_chunk_stored (h : s.NextIs (.imageChunk off bytes)) (hstate : s.field.pub.imgState = 1) (hoff : off = s.field.img.length) :
    Answers .imageChunk s fun u => u.field.img = s.field.img ++ bytes
      ∧ u.field.pub.imgState = (if 262144 < natBE ((s.field.img ++ bytes).take 4) ∨ 262147 < (s.field.img ++ bytes).length then 5
          else if natBE ((s.field.img ++ bytes).take 4) ≤ (s.field.img ++ bytes).length then 2 else 1)
      ∧ u.fieldEnd = s.tookEnd ∧ u.out = [] ∧ s.Frame u [] [.fieldEnd, .field] := by
  have hstored := takeChunk_stored (s := s.taken) (bytes := bytes) hstate hoff
  refine answers_fieldTakes s.exec_imageChunk h rfl (.inr ?_) ?_ <;> rw [hstored]
  · rfl
  · refine ⟨rfl, ?_, rfl, rfl, (s.taken_frame (by decide)).with_field (by decide)⟩
    exact chunkState_eq _

end

end Sys2Proof.Machine.State
end

section
/-! PROOFS. SETTING_WRITE at the field island (R347, R357, R361, R362, R422). Settles O52. -/
namespace Sys2Proof.Machine.State

open Sys2Proof Reg

section
variable {s t : State} {page role off why : Nat} {v : Word}

/-! ## What is applied, what is refused -/

theorem applySetting_fpw (h44 : off ≠ 0x044) (h48 : off ≠ 0x048) :
    s.applySetting 0 role off v = (if (regRow .fpw off).isSome then 1 else 5, s) := by
  unfold applySetting
  split <;> simp_all

theorem applySetting_frl (h : off ∉ [0x020, 0x024, 0x028, 0x058]) :
    s.applySetting 2 role off v = (if (regRow .frl off).isSome then 1 else 5, s) := by
  unfold applySetting
  split <;> simp_all

theorem applySetting_fbr (h : off ≠ 0x038) : s.applySetting 3 role off v = (if (regRow .fbr off).isSome then 1 else 5, s) := by
  unfold applySetting
  split <;> simp_all

theorem applySetting_noPage (h : 4 ≤ page) : s.applySetting page role off v = (5, s) := by
  obtain ⟨k, rfl⟩ := Nat.exists_eq_add_of_le' h
  rfl

/-- The registers of the rail channel, by what they accept. -/
theorem applySetting_rail {m : Word} (hm : (off, m) ∈ [(0x020, (0xFF1F : Word)), (0x024, 0x0FFFFFFF), (0x028, 0x00FFFFFF)]) :
    s.applySetting 2 role off v
      = if railOk off v then (0, s.setSetting .frl off ((s.fieldWord .frl off &&& ~~~m) ||| (v &&& m))) else (2, s) := by
  simp only [List.mem_cons, List.not_mem_nil, or_false, Prod.mk.injEq] at hm
  rcases hm with ⟨rfl, rfl⟩ | ⟨rfl, rfl⟩ | ⟨rfl, rfl⟩ <;> rfl

theorem applySetting_image (h : 3 ≤ role) : s.applySetting 3 role 0x038 v = s.applyImageCtrl v := if_neg (by omega)
theorem applySetting_image_denied (h : role < 3) : s.applySetting 3 role 0x038 v = (1, s) := if_pos h

/-! ## The answers -/

/-- A setting applied or refused: its result is noted and told. -/
theorem answers_setting {P : State → Prop} (h : s.NextIs (.settingWrite page role off v)) (happly : s.taken.applySetting page role off v = (why, t))
    (hhub : (t.settingResult why page off).hubEnd = s.hubEnd) (hP : P (t.settingResult why page off)) : Answers .settingWrite s P := by
  have hres := takeSetting_of happly
  refine answers_fieldTakes s.exec_settingWrite h rfl (.inr ?_) ?_ <;> rw [hres]
  · exact hhub
  · exact hP

theorem answers_refused (h : s.NextIs (.settingWrite page role off v)) (happly : s.taken.applySetting page role off v = (why, s.taken)) :
    Answers .settingWrite s fun u => Refused s u why page off := by
  have hres := settingResult_refused (s := s) (why := why) (page := page) (off := off) (imageGap_of_awake h.awake)
  exact answers_setting h happly hres.hubEnd hres

theorem answers_kept {p : Page} {m : Word} (h : s.NextIs (.settingWrite page role off v))
    (happly : s.taken.applySetting page role off v = (0, t.setSetting p off ((s.fieldWord p off &&& ~~~m) ||| (v &&& m))))
    (hstate : t = { s.taken with field := t.field }) (hpub : t.field.pub = s.field.pub) :
    Answers .settingWrite s fun u => Kept s u p page off v m := by
  have hres := settingResult_kept (page := page) (v := v) (p := p) (m := m) (off := off) hstate hpub
  exact answers_setting h happly hres.hubEnd hres

/-! ## PHASE_CTRL -/

/-- AUTO_SPARE alone of PHASE_CTRL is a setting. -/
def autoSpared (s : State) (v : Word) : State :=
  s.setSetting .fpw 0x044 ((s.fieldWord .fpw 0x044 &&& ~~~0x40) ||| (v &&& 0x40))

theorem autoSpared_inside (s : State) (v : Word) : Inside s (s.autoSpared v) := ⟨rfl, rfl⟩

theorem applyPhaseCtrl_eq : s.applyPhaseCtrl v =
    if FPW.PHASE_CTRL.REPLACE.get v = 1 ∧ (((List.range 26).find? fun j => (s.phase j).st == .spare) = none
        ∨ 26 ≤ FPW.PHASE_CTRL.PHASE.get v ∨ (s.phase (FPW.PHASE_CTRL.PHASE.get v)).st ≠ .working) then (2, s)
    else (0, if FPW.PHASE_CTRL.REPLACE.get v = 1 then (s.autoSpared v).replacePhase (FPW.PHASE_CTRL.PHASE.get v) 4 else s.autoSpared v) := by
  unfold applyPhaseCtrl autoSpared
  rw [autoSpare_put]
  simp [or_assoc]

theorem applyPhaseCtrl_auto (h : FPW.PHASE_CTRL.REPLACE.get v = 0) : s.applyPhaseCtrl v = (0, s.autoSpared v) := by
  rw [applyPhaseCtrl_eq, h]
  rfl

theorem applyPhaseCtrl_refused (h : FPW.PHASE_CTRL.REPLACE.get v = 1) (hno : 26 ≤ FPW.PHASE_CTRL.PHASE.get v
      ∨ (s.phase (FPW.PHASE_CTRL.PHASE.get v)).st ≠ .working ∨ ((List.range 26).find? fun j => (s.phase j).st == .spare) = none) :
    s.applyPhaseCtrl v = (2, s) := by
  rw [applyPhaseCtrl_eq]
  exact if_pos ⟨h, by tauto⟩

theorem applyPhaseCtrl_replaces {j : Nat} (h : FPW.PHASE_CTRL.REPLACE.get v = 1) (hlt : FPW.PHASE_CTRL.PHASE.get v < 26)
    (hwork : (s.phase (FPW.PHASE_CTRL.PHASE.get v)).st = .working)
    (hspare : ((List.range 26).find? fun j => (s.phase j).st == .spare) = some j) :
    s.applyPhaseCtrl v = (0, (s.autoSpared v).replacePhase (FPW.PHASE_CTRL.PHASE.get v) 4) := by
  rw [applyPhaseCtrl_eq, if_neg, if_pos h]
  rintro ⟨-, hno⟩
  rcases hno with hno | hno | hno
  · rw [hspare] at hno; exact absurd hno (by simp)
  · omega
  · exact hno hwork

/-- REPLACE on demand: reason 4, reported. -/
theorem answers_replace {i j : Nat} (h : s.NextIs (.settingWrite 0 role 0x044 v)) (hr : FPW.PHASE_CTRL.REPLACE.get v = 1)
    (hi : FPW.PHASE_CTRL.PHASE.get v = i) (hlt : i < 26) (hwork : (s.phase i).st = .working) (hfree : s.beingReplaced i = false)
    (hspare : ((List.range 26).find? fun j => (s.phase j).st == .spare) = some j) : Answers .settingWrite s fun u =>
      (u.phase j).st = .rampIn ∧ (∀ k, k ≠ j → u.phase k = s.phase k)
      ∧ u.field.swaps = (s.field.swaps.filter fun x => x.2.1 != some i) ++ [(i, some j, 4)]
      ∧ u.fieldEnd = sendFrom s.tookEnd (.phaseSpare i j 4 (sparesLeft u.field.pub.phases))
      ∧ u.field.pub.lastSet = (s.tookEnd.rxSeq, 0, 0, 0x044) ∧ u.out = [] ∧ s.Frame u [] [.fieldEnd, .field] := by
  subst hi
  have hst : (s.phase j).st = .spare := by simpa using List.find?_some hspare
  have hij : FPW.PHASE_CTRL.PHASE.get v ≠ j := by
    rintro rfl
    rw [hwork] at hst
    exact absurd hst (by decide)
  have hj : j < s.field.pub.phases.length := phase_lt (by rw [hst]; decide)
  have happly : s.taken.applySetting 0 role 0x044 v = (0, (s.taken.autoSpared v).replacePhase (FPW.PHASE_CTRL.PHASE.get v) 4) :=
    applyPhaseCtrl_replaces (s := s.taken) hr hlt hwork hspare
  have hreplace := replacePhase_spare (s := s.taken.autoSpared v) (r := 4) (by decide) hwork hfree hspare
  have hphase := (s.taken.autoSpared v).spareIn_phase _ _ 4 hij hj
  have hswaps := (s.taken.autoSpared v).spareIn_swaps (FPW.PHASE_CTRL.PHASE.get v) j 4
  have hin := (s.taken.autoSpared_inside v).trans (spareIn_inside _ (FPW.PHASE_CTRL.PHASE.get v) j 4)
  rw [hreplace] at happly
  clear hreplace
  generalize (s.taken.autoSpared v).spareIn (FPW.PHASE_CTRL.PHASE.get v) j 4 = w at *
  have hsent : (w.toHub (.phaseSpare (FPW.PHASE_CTRL.PHASE.get v) j 4 (sparesLeft w.field.pub.phases))).fieldEnd
      = sendFrom s.tookEnd (.phaseSpare (FPW.PHASE_CTRL.PHASE.get v) j 4 (sparesLeft w.field.pub.phases)) := by
    rw [toHub_fieldEnd (hin.gap.trans (imageGap_of_awake h.awake)), hin.fieldEnd]
    rfl
  refine answers_setting h happly hin.hubEnd ?_
  rw [settingResult_zero, hsent, (sendFrom_kept _ _).1]
  refine ⟨?_, fun k hk => ?_, hswaps, hsent, rfl, hin.out, ?_⟩
  · exact congrArg Phase.st ((hphase j).trans (if_pos rfl))
  · exact (hphase k).trans (if_neg hk)
  · exact ((hin.frame (s.taken_frame (by decide)) (by decide)).toHub (by decide)).updPub (by decide)

theorem Frame.settingResult {x : State} {l : List (Page × Nat)} {ps : List StatePart} (h : Frame x s l ps)
    (hf : StatePart.field ∈ ps) : Frame x (s.settingResult 0 page off) l ps := by
  rw [settingResult_zero]; exact h.updPub hf

/-! ## IMAGE_CTRL -/

theorem applyImageCtrl_begin (hb : FBR.IMAGE_CTRL.BEGIN.get v = 1) (ha : FBR.IMAGE_CTRL.ACTIVATE.get v = 0)
    (hx : FBR.IMAGE_CTRL.ABORT.get v = 0) : s.applyImageCtrl v
      = (0, s.updField fun f => { f with img := [], pub := { f.pub with imgState := 1, imgSpare := false } }) := by
  unfold applyImageCtrl; rw [hb, ha, hx]; rfl

theorem applyImageCtrl_activate (hb : FBR.IMAGE_CTRL.BEGIN.get v = 0) (ha : FBR.IMAGE_CTRL.ACTIVATE.get v = 1)
    (hx : FBR.IMAGE_CTRL.ABORT.get v = 0) : s.applyImageCtrl v = if s.field.pub.imgState ≠ 3 then (2, s) else
      (0, { s.updField fun f => { f with imgRestart := true, imgBeats := 3, pub := { f.pub with imgState := 4 } } with
        rail := { s.rail with up := false } }) := by
  unfold applyImageCtrl; rw [hb, ha, hx]; rfl

theorem applyImageCtrl_abort (hb : FBR.IMAGE_CTRL.BEGIN.get v = 0) (ha : FBR.IMAGE_CTRL.ACTIVATE.get v = 0)
    (hx : FBR.IMAGE_CTRL.ABORT.get v = 1) : s.applyImageCtrl v = if s.field.pub.imgState = 4 then (0, s) else
      (0, s.updField fun f => { f with img := [], pub := { f.pub with imgState := 0, imgSpare := f.pub.imgState = 0 && f.pub.imgSpare } }) := by
  unfold applyImageCtrl; rw [hb, ha, hx]; rfl

/-- Two of BEGIN, ACTIVATE and ABORT together. -/
theorem applyImageCtrl_several (h : 2 ≤ FBR.IMAGE_CTRL.BEGIN.get v + FBR.IMAGE_CTRL.ACTIVATE.get v + FBR.IMAGE_CTRL.ABORT.get v) :
    s.applyImageCtrl v = (0, s) := by
  have hb : FBR.IMAGE_CTRL.BEGIN.get v < 2 := BitVec.isLt _
  have ha : FBR.IMAGE_CTRL.ACTIVATE.get v < 2 := BitVec.isLt _
  have hx : FBR.IMAGE_CTRL.ABORT.get v < 2 := BitVec.isLt _
  unfold applyImageCtrl
  generalize FBR.IMAGE_CTRL.BEGIN.get v = b at *
  generalize FBR.IMAGE_CTRL.ACTIVATE.get v = a at *
  generalize FBR.IMAGE_CTRL.ABORT.get v = x at *
  split
  · omega
  · omega
  · omega
  · rfl

/-- An image setting that is applied. -/
theorem answers_image {P : State → Prop} (h : s.NextIs (.settingWrite 3 role 0x038 v)) (hrole : 3 ≤ role)
    (happly : s.taken.applyImageCtrl v = (0, t)) (hend : t.fieldEnd = s.tookEnd) (htele : t.tele = s.tele) (hout : t.out = [])
    (hhub : t.hubEnd = s.hubEnd) (hP : s.SettingLast (t.settingResult 0 3 0x038) 0 3 0x038 → P (t.settingResult 0 3 0x038)) :
    Answers .settingWrite s P :=
  answers_setting h ((applySetting_image (s := s.taken) hrole).trans happly) hhub (hP (settingLast_applied hend htele hout))

theorem answers_image_begin (h : s.NextIs (.settingWrite 3 role 0x038 v)) (hrole : 3 ≤ role) (hb : FBR.IMAGE_CTRL.BEGIN.get v = 1)
    (ha : FBR.IMAGE_CTRL.ACTIVATE.get v = 0) (hx : FBR.IMAGE_CTRL.ABORT.get v = 0) : Answers .settingWrite s fun u =>
      u.field.img = [] ∧ u.field.pub.imgSpare = false ∧ u.field.pub.imgState = 1 ∧ s.SettingLast u 0 3 0x038
      ∧ s.Frame u [] [.fieldEnd, .field] :=
  answers_image h hrole (applyImageCtrl_begin (s := s.taken) hb ha hx) rfl rfl rfl rfl fun hlast =>
    ⟨rfl, rfl, rfl, hlast, Frame.settingResult ((s.taken_frame (by decide)).updField (by decide)) (by decide)⟩

theorem answers_image_activate (h : s.NextIs (.settingWrite 3 role 0x038 v)) (hrole : 3 ≤ role) (hb : FBR.IMAGE_CTRL.BEGIN.get v = 0)
    (ha : FBR.IMAGE_CTRL.ACTIVATE.get v = 1) (hx : FBR.IMAGE_CTRL.ABORT.get v = 0) (hst : s.field.pub.imgState = 3) :
    Answers .settingWrite s fun u => u.field.imgRestart = true ∧ u.field.imgBeats = 3 ∧ u.field.pub.imgState = 4 ∧ u.rail.up = false
      ∧ s.SettingLast u 0 3 0x038 ∧ s.Frame u [] [.fieldEnd, .field, .rail] :=
  answers_image h hrole ((applyImageCtrl_activate (s := s.taken) hb ha hx).trans (if_neg (not_not.2 hst))) rfl rfl rfl rfl fun hlast =>
    ⟨rfl, rfl, rfl, rfl, hlast,
      Frame.settingResult (((s.taken_frame (by decide)).updField (by decide)).with_rail (by decide)) (by decide)⟩

theorem answers_image_abort (h : s.NextIs (.settingWrite 3 role 0x038 v)) (hrole : 3 ≤ role) (hb : FBR.IMAGE_CTRL.BEGIN.get v = 0)
    (ha : FBR.IMAGE_CTRL.ACTIVATE.get v = 0) (hx : FBR.IMAGE_CTRL.ABORT.get v = 1) (hst : s.field.pub.imgState ≠ 4) :
    Answers .settingWrite s fun u => u.field.img = [] ∧ u.field.pub.imgState = 0 ∧ s.SettingLast u 0 3 0x038
      ∧ s.Frame u [] [.fieldEnd, .field] :=
  answers_image h hrole ((applyImageCtrl_abort (s := s.taken) hb ha hx).trans (if_neg hst)) rfl rfl rfl rfl fun hlast =>
    ⟨rfl, rfl, hlast, Frame.settingResult ((s.taken_frame (by decide)).updField (by decide)) (by decide)⟩

end

section
variable {s u : State} {page role off why : Nat} {v : Word}

theorem answers_imp {c : Instr} {P Q : State → Prop} (h : Answers c s P) (hPQ : ∀ u, P u → Q u) : Answers c s Q := by
  obtain ⟨u, hu, hP⟩ := h
  exact ⟨u, hu, hPQ u hP⟩

/-- The registers of the rail channel that take a setting, by the range of their values. -/
theorem taken_rail {m : Word} (hm : (off, m) ∈ [(0x020, (0xFF1F : Word)), (0x024, 0x0FFFFFFF), (0x028, 0x00FFFFFF)]) (hok : railOk off v = true) :
    s.taken.applySetting 2 role off v = (0, s.taken.setSetting .frl off ((s.fieldWord .frl off &&& ~~~m) ||| (v &&& m))) :=
  (applySetting_rail hm).trans (if_pos hok)

theorem applySetting_rail_refused (ho : off ∈ [0x020, 0x024, 0x028]) (hno : ¬railOk off v = true) :
    s.applySetting 2 role off v = (2, s) := by
  simp only [List.mem_cons, List.not_mem_nil, or_false] at ho
  rcases ho with rfl | rfl | rfl
  · exact (applySetting_rail (m := 0xFF1F) (by decide)).trans (if_neg hno)
  · exact (applySetting_rail (m := 0x0FFFFFFF) (by decide)).trans (if_neg hno)
  · exact (applySetting_rail (m := 0x00FFFFFF) (by decide)).trans (if_neg hno)

end

end Sys2Proof.Machine.State

namespace Sys2Proof.Machine

open Sys2Proof Sys2Proof.Machine.State Reg

/-- Settles O52: each command delivers the frame that is next in order, and its effect is that of the message. -/
theorem messagesToField : Obligations.messagesToField := by
  unfold Obligations.messagesToField
  intro s next on e only had l
  have hnext {m : BMsg} (hon : on) (hm : next = some m) : s.NextIs m := ⟨hon.1, hon.2, hm⟩
  refine ⟨fun c t hc h => answers_noFrame t hc h, fun role nonce counter proof hon hm => ⟨fun hl => ?_, fun hl hr => ?_, fun hl hr => ?_⟩,
    fun _ _ _ hon hm => answers_start_stage (hnext hon hm), fun _ _ _ hon hm ha => answers_start_success (hnext hon hm) ha,
    fun _ _ _ _ _ hon ho hm ha hk => answers_start_off (hnext hon hm) ho ha hk,
    fun _ _ _ _ _ hon ho hm ha hk hn => answers_start_kettle (hnext hon hm) ho ha hk hn,
    fun _ _ _ _ hon ho hm ha => answers_start_idle (hnext hon hm) ho ha, fun _ hon hm ha hk => answers_clear_begins (hnext hon hm) ha hk,
    fun _ hon hm h => answers_clear_ignored (hnext hon hm) h, fun _ _ _ _ _ hon hm => answers_trip (hnext hon hm),
    fun _ _ hon hm h => answers_chunk_ignored (hnext hon hm) h, fun _ _ hon hm hst ho => answers_chunk_stored (hnext hon hm) hst ho,
    fun page role off v hon hm => ?_⟩
  · exact answers_imp (answers_proof_locked (hnext hon hm) hl) fun u h => ⟨h.sent, h.lock, h.out, h.frame⟩
  · exact answers_imp (answers_proof_right (hnext hon hm) hl hr) fun u h => ⟨h.lock, h.sent, h.out, h.frame⟩
  · exact answers_imp (answers_proof_wrong (hnext hon hm) hl hr) fun u h => ⟨h.lock, h.sent, h.out, h.frame⟩
  · have his := hnext hon hm
    intro told last plain refused railRange begins activates aborts phase free
    have hstored (p : Page) (m : Word) (t : State) (hstate : t = { s.taken with field := t.field }) (hpub : t.field.pub = s.field.pub)
        (happly : s.taken.applySetting page role off v = (0, t.setSetting p off ((s.fieldWord p off &&& ~~~m) ||| (v &&& m)))) : plain p m :=
      answers_imp (answers_kept his happly hstate hpub) fun u h => ⟨h.word, h.others, h.last, h.frame⟩
    have hplain (p : Page) (m : Word) (happly : s.taken.applySetting page role off v
        = (0, s.taken.setSetting p off ((s.fieldWord p off &&& ~~~m) ||| (v &&& m)))) : plain p m := hstored p m s.taken rfl rfl happly
    have hrefused (why : Nat) (happly : s.taken.applySetting page role off v = (why, s.taken)) : refused why :=
      answers_imp (answers_refused his happly) fun u h => ⟨h.kept.settings, h.kept.phases, h.kept.swaps, h.kept.imgState, h.kept.img,
        h.kept.conv, h.kept.feedA, h.kept.feedB, h.kept.lock, h.kept.attempts, h.kept.cause, h.kept.key, h.pub, h.last, h.frame⟩
    have hrail (ho : off ∈ [0x020, 0x024, 0x028]) : railOk off v = true ↔ railRange := railOk_iff off ho
    clear_value plain refused railRange
    refine ⟨fun hp ho => ?_, fun hp ho => ?_, fun hp ho => ?_, fun hp ho hok => ?_, fun hp ho hok => ?_, fun hp ho hok => ?_,
      fun hp ho hno => ?_, fun hp ho hr => ?_, fun hp ho hr hlt hwork hfree j hspare => ?_, fun hp ho hr hno => ?_, fun hp ho hrole => ?_,
      fun hp ho hrole hb ha hx => ?_, fun hp ho hrole hb ha hx hst => ?_, fun hp ho hrole hb ha hx hst => ?_,
      fun hp ho hrole hb ha hx hst => ?_, fun hp ho hrole hmany => ?_, fun hp ho => ?_, fun hp ho => ?_, fun hp ho => ?_, fun hp => ?_⟩
    · subst hp ho; exact hstored .fpw 3 s.taken.stepStores rfl rfl rfl
    · subst hp ho; exact hplain .ftl 0x00FFFFFF rfl
    · subst hp ho; exact hplain .frl 0x01000000 rfl
    · subst hp ho; exact hplain .frl 0xFF1F (taken_rail (by decide) ((hrail (by decide)).2 hok))
    · subst hp ho; exact hplain .frl 0x0FFFFFFF (taken_rail (by decide) ((hrail (by decide)).2 hok))
    · subst hp ho; exact hplain .frl 0x00FFFFFF (taken_rail (by decide) ((hrail (by decide)).2 hok))
    · subst hp; exact hrefused 2 (applySetting_rail_refused ho (mt (hrail ho).1 hno))
    · subst hp ho; exact hplain .fpw 0x40 (applyPhaseCtrl_auto (s := s.taken) hr)
    · subst hp ho; exact answers_replace his hr rfl hlt hwork hfree hspare
    · subst hp ho
      exact answers_imp (answers_refused his (applyPhaseCtrl_refused (s := s.taken) hr hno)) fun u h => ⟨h.kept.phases, h.last, h.frame⟩
    · subst hp ho; exact hrefused 1 (applySetting_image_denied hrole)
    · subst hp ho; exact answers_image_begin his hrole hb ha hx
    · subst hp ho
      exact hrefused 2 ((applySetting_image hrole).trans ((applyImageCtrl_activate (s := s.taken) hb ha hx).trans (if_pos hst)))
    · subst hp ho; exact answers_image_activate his hrole hb ha hx hst
    · subst hp ho; exact answers_image_abort his hrole hb ha hx hst
    · subst hp ho; exact hrefused 0 ((applySetting_image hrole).trans (applyImageCtrl_several hmany))
    · subst hp; exact hrefused _ (applySetting_fpw (by rintro rfl; simp at ho) (by rintro rfl; simp at ho))
    · subst hp; exact hrefused _ (applySetting_frl ho)
    · subst hp; exact hrefused _ (applySetting_fbr ho)
    · exact hrefused 5 (applySetting_noPage hp)

end Sys2Proof.Machine
end

section
/-! PROOFS. Reading a carrier's transmitter after the operations of its laser: signed fields, events that stay, the carrier record, the
receiver that restarts, the caddy's trigger (R83, R87, R91, R93, R96, R113, R428, R496). -/
namespace Sys2Proof.Machine.State

open Sys2Proof Reg

section
variable (s : State) (p : Page) (f g : Fld)

/-! ## Fields of one register -/

/-- A field keeps its value when other bits of its page are written. -/
theorem rd_wr_other (n : Nat) (h : f.off < 0x1000 ∧ g.off < 0x1000 ∧ (g.off ≠ f.off ∨ f.lo + f.w ≤ g.lo ∨ g.lo + g.w ≤ f.lo)) :
    (s.wr p f n).rd p g = s.rd p g := rd_wr_ne s p p f g n h.1 h.2.1 (.inr h.2.2)

theorem bit_wr_other (n : Nat) (h : f.off < 0x1000 ∧ g.off < 0x1000 ∧ (g.off ≠ f.off ∨ f.lo + f.w ≤ g.lo ∨ g.lo + g.w ≤ f.lo)) :
    (s.wr p f n).bit p g = s.bit p g := bit_wr_ne s p p f g n h.1 h.2.1 (.inr h.2.2)

theorem rd_wb_other (b : Bool) (h : f.off < 0x1000 ∧ g.off < 0x1000 ∧ (g.off ≠ f.off ∨ f.lo + f.w ≤ g.lo ∨ g.lo + g.w ≤ f.lo)) :
    (s.wb p f b).rd p g = s.rd p g := rd_wr_other s p f g _ h

theorem bit_wb_other (b : Bool) (h : f.off < 0x1000 ∧ g.off < 0x1000 ∧ (g.off ≠ f.off ∨ f.lo + f.w ≤ g.lo ∨ g.lo + g.w ≤ f.lo)) :
    (s.wb p f b).bit p g = s.bit p g := bit_wr_other s p f g _ h

theorem word_wr_other {i : Nat} (n : Nat) (h : f.off < 0x1000 ∧ i < 0x1000 ∧ i ≠ f.off) : (s.wr p f n).word p i = s.word p i :=
  word_wr_ne s p p f i n h.1 h.2.1 (.inr h.2.2)

theorem word_wb_other {i : Nat} (b : Bool) (h : f.off < 0x1000 ∧ i < 0x1000 ∧ i ≠ f.off) : (s.wb p f b).word p i = s.word p i :=
  word_wr_other s p f _ h

variable {s p f g} in
theorem rd_of_word {u : State} (h : u.word p f.off = s.word p f.off) : u.rd p f = s.rd p f := congrArg f.get h

variable {s p f g} in
theorem bit_of_word {u : State} (h : u.word p f.off = s.word p f.off) : u.bit p f = s.bit p f := by
  unfold bit; rw [rd_of_word h]

variable {s p f g} in
theorem rdI_of_rd {u : State} (h : u.rd p f = s.rd p f) : u.rdI p f = s.rdI p f := congrArg (signed f.w) h

/-- A signed field of 16 bits reads the value written, where 16 bits hold it. -/
theorem rdI_wrI_same (i : Int) (h : f.w = 16 ∧ f.lo + f.w ≤ 32) (hlo : -32768 ≤ i) (hhi : i ≤ 32767) : (s.wrI p f i).rdI p f = i := by
  have hrd : (s.wrI p f i).rd p f = twos f.w i % 2 ^ f.w := rd_wr_same s p f _ h.2
  show signed f.w ((s.wrI p f i).rd p f) = i
  rw [hrd, h.1]
  unfold signed twos
  split <;> omega

end

/-! ## Events -/

section
variable (s : State) {p q : Page} {b j : Nat}

/-- EVENT of a page other than LOG, inside the interval of a warm reset too. -/
theorem raise_own (hp : p ≠ .log) : (s.raise p b).word p 0x00C = s.word p 0x00C ||| BitVec.ofNat 32 (2 ^ b) := by
  unfold raise
  dsimp only
  split
  · rw [log_word _ _ _ _ _ _ _ _ (by decide) hp, word_setWord_same]
  · exact word_setWord_same _ _ _ _

/-- An event clears no other. -/
theorem raise_keeps (hp : p ≠ .log) (h : (s.word p 0x00C).getLsbD j = true) : ((s.raise q b).word p 0x00C).getLsbD j = true := by
  by_cases hq : p = q
  · subst hq; rw [raise_own s hp, BitVec.getLsbD_or, h]; rfl
  · rw [raise_word s q p b 0x00C (by decide) (.inl hq) (.inl hp)]; exact h

end

/-! ## The carrier record -/

section
variable (s : State) (k : Fin 16)

theorem car_setCar (c : Carrier) : (s.setCar k c).car k = c := SMap.get_set_same s.cars (fun _ => Carrier.reset) k.val c

theorem car_updCar (f : Carrier → Carrier) : (s.updCar k f).car k = f (s.car k) := car_setCar s k _

variable {s} in
theorem car_of_cars {u : State} (h : u.cars = s.cars) : u.car k = s.car k := by unfold car; rw [h]

end

/-! ## The receiver that restarts, firmware's trigger, the bias (R91, R113, R115, R428) -/

/-- The registers in which a receiver shows that it begins anew. -/
def rxRegs (k : Fin 16) : List (Page × Nat) :=
  [(.rxe k, 0x024), (.rxe k, 0x03C), (.rxe k, 0x040), (.rxe k, 0x044), (.lfe k, 0x044), (.lfe k, 0x00C)]

theorem engineRegs_txo (k : Fin 16) : engineRegs (.txo k) =
    [(.txo k, 0x008), (.txo k, 0x00C), (.txo k, 0x020), (.txo k, 0x024), (.txo k, 0x02C), (.txo k, 0x048), (.txo k, 0x050),
      (.txo k, 0x054), (.cad, 0x040)] ++ rxRegs k := rfl

theorem rxRegs_subset (k : Fin 16) : rxRegs k ⊆ engineRegs (.txo k) := by
  rw [engineRegs_txo]; exact List.subset_append_right _ _

theorem txo_mem_engineRegs {k : Fin 16} {i : Nat} (h : i ∈ [0x008, 0x00C, 0x020, 0x024, 0x02C, 0x048, 0x050, 0x054]) :
    (Page.txo k, i) ∈ engineRegs (.txo k) := by
  rw [engineRegs_txo]
  exact List.mem_append_left _ (List.mem_append_left [(Page.cad, 0x040)] (List.mem_map_of_mem (f := (Page.txo k, ·)) h))

theorem rxe_mem_rxRegs {k : Fin 16} {i : Nat} (h : i ∈ [0x024, 0x03C, 0x040, 0x044]) : (Page.rxe k, i) ∈ rxRegs k :=
  List.mem_append_left [(Page.lfe k, 0x044), (Page.lfe k, 0x00C)] (List.mem_map_of_mem (f := (Page.rxe k, ·)) h)

theorem lfe_mem_rxRegs {k : Fin 16} {i : Nat} (h : i ∈ [0x044, 0x00C]) : (Page.lfe k, i) ∈ rxRegs k :=
  List.mem_append_right [(Page.rxe k, 0x024), (Page.rxe k, 0x03C), (Page.rxe k, 0x040), (Page.rxe k, 0x044)]
    (List.mem_map_of_mem (f := (Page.lfe k, ·)) h)

section
variable {s u : State} {k : Fin 16} {l : List (Page × Nat)} {ps : List StatePart}

theorem Frame.dropCw (h : Frame s u l ps) (hl : rxRegs k ⊆ l) (hp : StatePart.cars :: eventParts ⊆ ps) : Frame s (u.dropCw k) l ps := by
  have hlfe {i : Nat} (hi : i ∈ [0x044, 0x00C]) : (Page.lfe k, i) ∈ l := hl (lfe_mem_rxRegs hi)
  have hcars : StatePart.cars ∈ ps := hp (by decide)
  have hctr : StatePart.ctr ∈ ps := hp (by decide)
  unfold State.dropCw
  exact Frame.ite (fun _ => h.updCar hcars) fun _ =>
    (((h.updCar hcars).wb (by decide) (hlfe (by decide))).count hctr).raiseIf (hlfe (by decide)) hctr (hp (by decide)) (hp (by decide))

theorem Frame.rxRestart {fast : Bool} (h : Frame s u l ps) (hl : rxRegs k ⊆ l) (hp : StatePart.cars :: eventParts ⊆ ps) :
    Frame s (u.rxRestart k fast) l ps := by
  have hrx {i : Nat} (hi : i ∈ [0x024, 0x03C, 0x040, 0x044]) : (Page.rxe k, i) ∈ l := hl (rxe_mem_rxRegs hi)
  unfold State.rxRestart
  extract_lets p old n s1 lock re s2 s3
  have h2 : Frame s s2 l ps := ((h.wr (by decide) (hrx (by decide))).wb (by decide) (hrx (by decide))).updCar (hp (by decide))
  have h3 : Frame s s3 l ps :=
    ((h2.wr (by decide) (hrx (by decide))).setWord (by decide) (hrx (by decide))).setWord (by decide) (hrx (by decide))
  exact Frame.ite (fun _ => (h3.wr (by decide) (hrx (by decide))).dropCw hl hp) fun _ => h2

theorem Frame.autoLaser {b : Bool} (h : Frame s u l ps) (hl : (Page.cad, 0x00C) ∈ l) (hp : StatePart.cad :: eventParts ⊆ ps) :
    Frame s (u.autoLaser k b) l ps := by
  have hctr : StatePart.ctr ∈ ps := hp (by decide)
  unfold State.autoLaser askLaser
  exact Frame.ite (fun _ => h) fun _ => Frame.ite
    (fun _ => (h.raise hl hctr (hp (by decide)) (hp (by decide))).count hctr) fun _ => h.updCad (hp (by decide))

end

section
variable (s : State) (k : Fin 16)

/-- The bias of a laser newly in use as the registers show it: one free value is drawn. -/
def biasDrawn : State :=
  ((({ s with fresh := s.fresh + 1 } : State).wr (.txo k) TXO.LASER_BIAS.BIAS (Config.laserBias s.fresh).toNat).wr (.txo k)
    TXO.LASER_BIAS.BIAS_PCT (Config.laserBiasPct s.fresh).toNat).wb (.txo k) TXO.LASER_BIAS.LIMIT
      (decide (130 ≤ (Config.laserBiasPct s.fresh).toNat))

/-- Its limit, where the laser before was below, is an event and calls for the spare. -/
theorem drawBias_cases : s.drawBias k = s.biasDrawn k
    ∨ s.drawBias k = ((s.biasDrawn k).raise (.txo k) 4).autoLaser k false := by
  have hbias : s.drawBias k = if decide (130 ≤ (Config.laserBiasPct s.fresh).toNat) && !s.bit (.txo k) TXO.LASER_BIAS.LIMIT then
      ((s.biasDrawn k).raise (.txo k) 4).autoLaser k false else s.biasDrawn k := rfl
  rw [hbias]
  split
  · exact .inr rfl
  · exact .inl rfl

variable {s k} in
theorem Frame.drawBias {v : State} {l : List (Page × Nat)} {ps : List StatePart} (h : Frame v s l ps) (hbias : (Page.txo k, 0x050) ∈ l)
    (hevent : (Page.txo k, 0x00C) ∈ l) (hcad : (Page.cad, 0x00C) ∈ l) (hp : StatePart.fresh :: .cad :: eventParts ⊆ ps) :
    Frame v (s.drawBias k) l ps := by
  have hdrawn : Frame v (s.biasDrawn k) l ps :=
    (((h.with_fresh (hp (by decide))).wr (by decide) hbias).wr (by decide) hbias).wb (by decide) hbias
  rcases drawBias_cases s k with e | e <;> rw [e]
  · exact hdrawn
  · exact (hdrawn.raise hevent (hp (by decide)) (hp (by decide)) (hp (by decide))).autoLaser hcad (List.Subset.trans (by simp) hp)

/-! ### What stays on the transmitter's page -/

section
variable {i : Nat} (hi : i < 0x1000)
include hi

theorem rxRestart_txo (fast : Bool) : (s.rxRestart k fast).word (.txo k) i = s.word (.txo k) i :=
  (Frame.refl.rxRestart (List.Subset.refl _) (List.Subset.refl _)).reg _ i hi (.inl nofun) (by simp [rxRegs])

theorem autoLaser_txo (m : Fin 16) (b : Bool) : (s.autoLaser m b).word (.txo k) i = s.word (.txo k) i :=
  (Frame.refl.autoLaser (List.mem_singleton_self _) (List.Subset.refl _)).reg _ i hi (.inl nofun) (by simp)

theorem drawBias_txo (h : i ≠ 0x050 ∧ i ≠ 0x00C) : (s.drawBias k).word (.txo k) i = s.word (.txo k) i :=
  (Frame.refl.drawBias (l := [(.txo k, 0x050), (.txo k, 0x00C), (.cad, 0x00C)]) (by simp) (by simp) (by simp) (List.Subset.refl _)).reg
    _ i hi (.inl nofun) (by simp [h])

end

theorem drawBias_event {j : Nat} (h : (s.word (.txo k) 0x00C).getLsbD j = true) :
    ((s.drawBias k).word (.txo k) 0x00C).getLsbD j = true := by
  have hdrawn : (s.biasDrawn k).word (.txo k) 0x00C = s.word (.txo k) 0x00C := by
    unfold biasDrawn
    rw [word_wb_other _ _ _ _ (by decide), word_wr_other _ _ _ _ (by decide), word_wr_other _ _ _ _ (by decide), with_fresh_word]
  rcases drawBias_cases s k with e | e <;> rw [e]
  · rw [hdrawn]; exact h
  · rw [autoLaser_txo _ _ (by decide)]
    exact raise_keeps _ nofun (by rw [hdrawn]; exact h)

end

/-! ## A laser that locks, a laser that fails (R93, R96) -/

section
variable (s : State) (k : Fin 16)

/-- The laser in use shows TUNE_STATE 4, with its event. -/
def lockShown : State := ((s.wr (.txo k) TXO.LASER_STATUS.TUNE_STATE 4).wb (.txo k) TXO.TX_STATUS.LOCKED true).raise (.txo k) 0

/-- TXO leaves STARTING, and a FAULT of its laser. -/
def lockRuns : State :=
  if (s.pst (.txo k) = 1 || s.pst (.txo k) = 4) && !s.txCoasts k then s.setPst (.txo k) (s.runState (.txo k)) else s

/-- The receiver that waits for its local oscillator begins. -/
def lockReceives : State :=
  if s.rd (.rxe k) RXE.RX_STATUS.ACQ_STATE = 10 then s.rxRestart k (s.car k).fast else s

theorem laserLocked_eq : s.laserLocked k = ((s.lockShown k).lockRuns k).lockReceives k := rfl

/-- The fault on TXO's page. -/
def faultShown : State :=
  (((s.wr (.txo k) TXO.LASER_STATUS.TUNE_STATE 6).wb (.txo k) TXO.TX_STATUS.LOCKED false).setPst (.txo k) 4).raise (.txo k) 1

theorem laserFault_eq : s.laserFault k = ((s.faultShown k).rxRestart k false).autoLaser k true := rfl

theorem raise_txo (b : Nat) {i : Nat} (h : i < 0x1000 ∧ i ≠ 0x00C) : (s.raise (.txo k) b).word (.txo k) i = s.word (.txo k) i :=
  raise_word s _ _ b i h.1 (.inr h.2) (.inl nofun)

theorem lockReceives_txo {i : Nat} (hi : i < 0x1000) : (s.lockReceives k).word (.txo k) i = s.word (.txo k) i := by
  unfold lockReceives
  split
  · exact rxRestart_txo s k hi _
  · rfl

theorem lockRuns_word {q : Page} {i : Nat} (hi : i < 0x1000) (h : i ≠ 0x008) : (s.lockRuns k).word q i = s.word q i := by
  unfold lockRuns
  split
  · exact word_wr_ne s _ _ _ _ _ (by decide) hi (.inr h)
  · rfl

theorem laserLocked_word {i : Nat} (h : i < 0x1000 ∧ i ≠ 0x008) : (s.laserLocked k).word (.txo k) i = (s.lockShown k).word (.txo k) i := by
  rw [laserLocked_eq, lockReceives_txo _ _ h.1, lockRuns_word _ _ h.1 h.2]

/-- The fields beside TUNE_STATE, LOCKED, PAGE_STATE and EVENT stay. -/
theorem laserLocked_rd {g : Fld} (h : g.off < 0x1000 ∧ g.off ≠ 0x008 ∧ g.off ≠ 0x00C ∧ (g.off ≠ 0x02C ∨ g.lo + g.w ≤ 16)
    ∧ (g.off ≠ 0x024 ∨ 1 ≤ g.lo)) : (s.laserLocked k).rd (.txo k) g = s.rd (.txo k) g := by
  obtain ⟨hlt, h8, hC, htune, hlocked⟩ := h
  have hshown : (s.lockShown k).rd (.txo k) g = s.rd (.txo k) g := by
    refine (rd_of_word (raise_txo _ _ _ ⟨hlt, hC⟩)).trans ((rd_wb_other _ _ _ _ _ ⟨by decide, hlt, ?_⟩).trans
      (rd_wr_other _ _ _ _ _ ⟨by decide, hlt, ?_⟩))
    · exact hlocked.imp_right .inl
    · exact htune.imp_right .inr
  rw [rd_of_word (laserLocked_word s k ⟨hlt, h8⟩), hshown]

theorem laserLocked_tune : (s.laserLocked k).rd (.txo k) TXO.LASER_STATUS.TUNE_STATE = 4 := by
  rw [rd_of_word (laserLocked_word s k (by decide)), lockShown, rd_of_word (raise_txo _ _ _ (by decide)), rd_wb_other _ _ _ _ _ (by decide)]
  exact rd_wr_same _ _ _ _ (by decide)

theorem laserLocked_locked : (s.laserLocked k).bit (.txo k) TXO.TX_STATUS.LOCKED = true := by
  rw [bit_of_word (laserLocked_word s k (by decide)), lockShown, bit_of_word (raise_txo _ _ _ (by decide))]
  exact bit_wb_same _ _ _ _ (by decide) (by decide)

theorem laserLocked_event {j : Nat} (h : (s.word (.txo k) 0x00C).getLsbD j = true) :
    ((s.laserLocked k).word (.txo k) 0x00C).getLsbD j = true := by
  rw [laserLocked_word s k (by decide)]
  refine raise_keeps _ nofun ?_
  rw [word_wb_other _ _ _ _ (by decide), word_wr_other _ _ _ _ (by decide)]
  exact h

/-- What an engine of a transmitter that runs reads follows its losses and its reserve cells. -/
theorem runState_txo {u : State} (hcad : u.cad = s.cad) (hword : u.word (.txo k) 0x008 = s.word (.txo k) 0x008) :
    u.runState (.txo k) = s.runState (.txo k) := by
  have hreserve : u.rd (.txo k) HDR.PAGE_STATE.RESERVE_USED = s.rd (.txo k) HDR.PAGE_STATE.RESERVE_USED := rd_of_word hword
  unfold runState broken cipherLost memState lostTiles
  rw [hcad, hreserve]

theorem runState_txo_lt : s.runState (.txo k) < 16 := by
  unfold runState memState
  dsimp only
  split
  · decide
  · split <;> decide

theorem pst_setPst (p : Page) {n : Nat} (h : n < 16) : (s.setPst p n).pst p = n :=
  (rd_wr_same s p HDR.PAGE_STATE.STATE n (by decide)).trans (Nat.mod_eq_of_lt h)

variable {s} in
theorem txCoasts_of_tim {u : State} (h : ∀ i < 0x1000, u.word .tim i = s.word .tim i) : u.txCoasts k = s.txCoasts k := by
  have hk := k.isLt
  unfold txCoasts dom
  rw [rd_of_word (h _ (by show 0x030 + 4 * k.val < 0x1000; omega))]

/-- A transmitter in STARTING runs once its laser is locked, unless its converters' domain coasts. -/
theorem laserLocked_pst (hstarting : s.pst (.txo k) = 1) (hdomain : s.txCoasts k = false) :
    (s.laserLocked k).pst (.txo k) = s.runState (.txo k) := by
  have hshown : (s.lockShown k).word (.txo k) 0x008 = s.word (.txo k) 0x008 := by
    rw [lockShown, raise_txo _ _ _ (by decide), word_wb_other _ _ _ _ (by decide), word_wr_other _ _ _ _ (by decide)]
  have hpst : (s.lockShown k).pst (.txo k) = 1 := (rd_of_word hshown).trans hstarting
  have htim (i : Nat) (hi : i < 0x1000) : (s.lockShown k).word .tim i = s.word .tim i := by
    rw [lockShown, raise_word _ (.txo k) .tim _ _ hi (.inl nofun) (.inl nofun), wb,
      word_wr_ne _ (.txo k) .tim _ _ _ (by decide) hi (.inl nofun), word_wr_ne _ (.txo k) .tim _ _ _ (by decide) hi (.inl nofun)]
  have hcoasts : (s.lockShown k).txCoasts k = false := (txCoasts_of_tim k htim).trans hdomain
  have hrun : (s.lockShown k).runState (.txo k) = s.runState (.txo k) := runState_txo s k (by simp [lockShown]) hshown
  have hruns : ((s.lockShown k).lockRuns k).pst (.txo k) = s.runState (.txo k) := by
    unfold lockRuns
    rw [hpst, hcoasts, hrun, if_pos (by decide)]
    exact pst_setPst _ _ (runState_txo_lt s k)
  rw [laserLocked_eq]
  exact (rd_of_word (lockReceives_txo _ _ (by decide))).trans hruns

theorem laserFault_word {i : Nat} (hi : i < 0x1000) : (s.laserFault k).word (.txo k) i = (s.faultShown k).word (.txo k) i := by
  rw [laserFault_eq, autoLaser_txo _ _ hi, rxRestart_txo _ _ hi]

theorem laserFault_tune : (s.laserFault k).rd (.txo k) TXO.LASER_STATUS.TUNE_STATE = 6 := by
  rw [rd_of_word (laserFault_word s k (by decide)), faultShown, rd_of_word (raise_txo _ _ _ (by decide)), setPst, rd_wr_other _ _ _ _ _ (by decide),
    rd_wb_other _ _ _ _ _ (by decide)]
  exact rd_wr_same _ _ _ _ (by decide)

theorem laserFault_locked : (s.laserFault k).bit (.txo k) TXO.TX_STATUS.LOCKED = false := by
  rw [bit_of_word (laserFault_word s k (by decide)), faultShown, bit_of_word (raise_txo _ _ _ (by decide)), setPst, bit_wr_other _ _ _ _ _ (by decide)]
  exact bit_wb_same _ _ _ _ (by decide) (by decide)

theorem laserFault_pst : (s.laserFault k).pst (.txo k) = 4 := by
  rw [pst, rd_of_word (laserFault_word s k (by decide)), faultShown, rd_of_word (raise_txo _ _ _ (by decide))]
  exact pst_setPst _ _ (by decide)

theorem laserFault_event : ((s.laserFault k).word (.txo k) 0x00C).getLsbD 1 = true := by
  rw [laserFault_word s k (by decide)]
  exact raise_bit _ nofun (by decide)

theorem laserFault_keeps {j : Nat} (h : (s.word (.txo k) 0x00C).getLsbD j = true) :
    ((s.laserFault k).word (.txo k) 0x00C).getLsbD j = true := by
  rw [laserFault_word s k (by decide)]
  refine raise_keeps _ nofun ?_
  rw [setPst, word_wr_other _ _ _ _ (by decide), word_wb_other _ _ _ _ (by decide), word_wr_other _ _ _ _ (by decide)]
  exact h

end

section
variable {s u : State} {k : Fin 16} {l : List (Page × Nat)} {ps : List StatePart} (h : Frame s u l ps) (hl : engineRegs (.txo k) ⊆ l)
  (hp : engineParts (.txo k) ⊆ ps)
include h hl hp

theorem Frame.laserLocked : Frame s (u.laserLocked k) l ps := by
  have hparts : StatePart.cars :: eventParts ⊆ ps := List.Subset.trans (by simp [engineParts, eventParts]) hp
  have htxo {i : Nat} (hi : i ∈ [0x008, 0x00C, 0x020, 0x024, 0x02C, 0x048, 0x050, 0x054]) : (Page.txo k, i) ∈ l :=
    hl (txo_mem_engineRegs hi)
  have hshown : Frame s (u.lockShown k) l ps := ((h.wr (by decide) (htxo (by decide))).wb (by decide) (htxo (by decide))).raise
    (htxo (by decide)) (hparts (by decide)) (hparts (by decide)) (hparts (by decide))
  have hruns : Frame s ((u.lockShown k).lockRuns k) l ps := Frame.ite (fun _ => hshown.setPst (htxo (by decide))) fun _ => hshown
  exact Frame.ite (fun _ => hruns.rxRestart (List.Subset.trans (rxRegs_subset k) hl) hparts) fun _ => hruns

theorem Frame.laserFault (hcad : (Page.cad, 0x00C) ∈ l) : Frame s (u.laserFault k) l ps := by
  have hparts : StatePart.cars :: eventParts ⊆ ps := List.Subset.trans (by simp [engineParts, eventParts]) hp
  have htxo {i : Nat} (hi : i ∈ [0x008, 0x00C, 0x020, 0x024, 0x02C, 0x048, 0x050, 0x054]) : (Page.txo k, i) ∈ l :=
    hl (txo_mem_engineRegs hi)
  have hshown : Frame s (u.faultShown k) l ps :=
    (((h.wr (by decide) (htxo (by decide))).wb (by decide) (htxo (by decide))).setPst (htxo (by decide))).raise
      (htxo (by decide)) (hparts (by decide)) (hparts (by decide)) (hparts (by decide))
  exact (hshown.rxRestart (List.Subset.trans (rxRegs_subset k) hl) hparts).autoLaser hcad
    (List.Subset.trans (by simp [engineParts, eventParts]) hp)

end

end Sys2Proof.Machine.State
end

section
/-! PROOFS. The tuning of a carrier's laser and its faults (R83, R87, R93, R96, R428, R496). Settles O22. -/
namespace Sys2Proof.Machine.State

open Sys2Proof Reg

/-! ## LASER_FREQ (R83, R87) -/

section
variable (s : State) (k : Fin 16) (v : Word)

theorem touch_gridLow : s.touch.silent.gridLow = s.gridLow := by
  have hpart : s.touch.silent.part = s.part := s.touch_frame.part
  unfold gridLow; rw [hpart]

/-- The lowest and the highest frequency of either part are numbers that 16 bits hold. -/
theorem gridLow_bounds : -32768 ≤ s.gridLow ∧ s.gridLow + 750 ≤ 32767 := by
  unfold gridLow; split <;> decide

theorem effLaserFreq_refused (h : TXO.LASER_FREQ.GRID_N.getI v < s.gridLow ∨ s.gridLow + 750 < TXO.LASER_FREQ.GRID_N.getI v) :
    effLaserFreq k v s = s.wb (.txo k) TXO.LASER_STATUS.FREQ_REJECT true := by
  unfold effLaserFreq; exact if_pos (by simpa using h)

/-- A frequency in range, taken. -/
def freqTaken (n : Int) : State := (s.wb (.txo k) TXO.LASER_STATUS.FREQ_REJECT false).wrI (.txo k) TXO.LASER_FREQ.GRID_N n

/-- A laser that was locked, or locking, goes to the frequency; its receiver waits. -/
def retuned : State :=
  ((s.wr (.txo k) TXO.LASER_STATUS.TUNE_STATE 5).wb (.txo k) TXO.TX_STATUS.LOCKED false).rxRestart k true

theorem freqTaken_tune (n : Int) :
    (s.freqTaken k n).rd (.txo k) TXO.LASER_STATUS.TUNE_STATE = s.rd (.txo k) TXO.LASER_STATUS.TUNE_STATE := by
  rw [freqTaken, wrI, rd_wr_other _ _ _ _ _ (by decide), rd_wb_other _ _ _ _ _ (by decide)]

theorem effLaserFreq_taken (h : ¬(TXO.LASER_FREQ.GRID_N.getI v < s.gridLow ∨ s.gridLow + 750 < TXO.LASER_FREQ.GRID_N.getI v)) :
    effLaserFreq k v s = if s.rd (.txo k) TXO.LASER_STATUS.TUNE_STATE = 3 ∨ s.rd (.txo k) TXO.LASER_STATUS.TUNE_STATE = 4 then
      (s.freqTaken k (TXO.LASER_FREQ.GRID_N.getI v)).retuned k else s.freqTaken k (TXO.LASER_FREQ.GRID_N.getI v) := by
  rw [← s.freqTaken_tune k (TXO.LASER_FREQ.GRID_N.getI v)]
  unfold effLaserFreq
  rw [if_neg (by simpa using h)]
  simp only [Bool.or_eq_true, decide_eq_true_eq]
  rfl

theorem freqTaken_grid {n : Int} (hlow : s.gridLow ≤ n) (hhigh : n ≤ s.gridLow + 750) :
    (s.freqTaken k n).rdI (.txo k) TXO.LASER_FREQ.GRID_N = n := by
  obtain ⟨hmin, hmax⟩ := s.gridLow_bounds
  exact rdI_wrI_same _ _ _ _ (by decide) (by omega) (by omega)

theorem freqTaken_reject (n : Int) :
    (s.freqTaken k n).word (.txo k) 0x02C = TXO.LASER_STATUS.FREQ_REJECT.put (s.word (.txo k) 0x02C) 0 :=
  (word_wr_other _ _ _ _ (by decide)).trans (word_wr_same s (.txo k) TXO.LASER_STATUS.FREQ_REJECT 0)

theorem retuned_tune : (s.retuned k).rd (.txo k) TXO.LASER_STATUS.TUNE_STATE = 5 := by
  rw [retuned, rd_of_word (rxRestart_txo _ _ (by decide) _), rd_wb_other _ _ _ _ _ (by decide)]
  exact rd_wr_same _ _ _ _ (by decide)

theorem retuned_locked : (s.retuned k).bit (.txo k) TXO.TX_STATUS.LOCKED = false := by
  rw [retuned, bit_of_word (rxRestart_txo _ _ (by decide) _)]
  exact bit_wb_same _ _ _ _ (by decide) (by decide)

theorem retuned_grid : (s.retuned k).rdI (.txo k) TXO.LASER_FREQ.GRID_N = s.rdI (.txo k) TXO.LASER_FREQ.GRID_N := by
  refine rdI_of_rd ?_
  rw [retuned, rd_of_word (rxRestart_txo _ _ (by decide) _), rd_wb_other _ _ _ _ _ (by decide), rd_wr_other _ _ _ _ _ (by decide)]

end

/-! ## The phases of tuning (R496) -/

section
variable {s : State} {k : Fin 16} (hon : s.enabled (.txo k) = true)
include hon

theorem tunePhase_next {e : Int} (h : s.rd (.txo k) TXO.LASER_STATUS.TUNE_STATE = 1 ∨ s.rd (.txo k) TXO.LASER_STATUS.TUNE_STATE = 2
    ∨ s.rd (.txo k) TXO.LASER_STATUS.TUNE_STATE = 5) : s.tunePhase k e =
      s.wr (.txo k) TXO.LASER_STATUS.TUNE_STATE (if s.rd (.txo k) TXO.LASER_STATUS.TUNE_STATE = 1 then 2 else 3) := by
  rcases h with h | h | h <;> simp [tunePhase, hon, h]

theorem tunePhase_lock {e : Int} (h : s.rd (.txo k) TXO.LASER_STATUS.TUNE_STATE = 3) : s.tunePhase k e =
    if e.natAbs ≤ 150 then ((s.wrI (.txo k) TXO.LASER_STATUS.FREQ_ERR e).laserLocked k).drawBias k else s := by
  simp [tunePhase, hon, h]

end

/-- A laser that locks within 1.5 GHz. -/
theorem locked_shows (s : State) (k : Fin 16) {e : Int} (he : e.natAbs ≤ 150) :
    let u := ((s.wrI (.txo k) TXO.LASER_STATUS.FREQ_ERR e).laserLocked k).drawBias k
    u.rd (.txo k) TXO.LASER_STATUS.TUNE_STATE = 4 ∧ u.bit (.txo k) TXO.TX_STATUS.LOCKED = true
    ∧ u.rdI (.txo k) TXO.LASER_STATUS.FREQ_ERR = e
    ∧ (s.pst (.txo k) = 1 → s.txCoasts k = false → u.pst (.txo k) = s.runState (.txo k)) := by
  intro u
  have hword {i : Nat} (h : i < 0x1000 ∧ i ≠ 0x050 ∧ i ≠ 0x00C) :
      u.word (.txo k) i = ((s.wrI (.txo k) TXO.LASER_STATUS.FREQ_ERR e).laserLocked k).word (.txo k) i := drawBias_txo _ _ h.1 h.2
  have herr := rdI_wrI_same s (.txo k) TXO.LASER_STATUS.FREQ_ERR e (by decide) (by omega) (by omega)
  have hpage : (s.wrI (.txo k) TXO.LASER_STATUS.FREQ_ERR e).word (.txo k) 0x008 = s.word (.txo k) 0x008 := word_wr_other _ _ _ _ (by decide)
  have htim : (s.wrI (.txo k) TXO.LASER_STATUS.FREQ_ERR e).txCoasts k = s.txCoasts k :=
    txCoasts_of_tim k fun i hi => word_wr_ne s (.txo k) .tim _ _ _ (by decide) hi (.inl nofun)
  refine ⟨?_, ?_, ?_, fun hstarting hdomain => ?_⟩
  · rw [rd_of_word (hword (by decide))]; exact laserLocked_tune _ k
  · rw [bit_of_word (hword (by decide))]; exact laserLocked_locked _ k
  · rw [rdI_of_rd (rd_of_word (hword (by decide))), rdI_of_rd (laserLocked_rd _ k (by decide))]; exact herr
  · rw [pst, rd_of_word (hword (by decide)), ← runState_txo s k (u := s.wrI (.txo k) TXO.LASER_STATUS.FREQ_ERR e) rfl hpage]
    exact laserLocked_pst _ k ((rd_of_word hpage).trans hstarting) (htim.trans hdomain)

/-! ## Faults (R93, R428) -/

/-- A laser that has failed, as R93 says. -/
theorem laserFault_shows (s v : State) (k : Fin 16) (hframe : s.Frame v ((.cad, 0x00C) :: engineRegs (.txo k)) (engineParts (.txo k))) :
    (v.laserFault k).rd (.txo k) TXO.LASER_STATUS.TUNE_STATE = 6 ∧ (v.laserFault k).bit (.txo k) TXO.TX_STATUS.LOCKED = false
    ∧ (v.laserFault k).pst (.txo k) = 4 ∧ ((v.laserFault k).word (.txo k) 0x00C).getLsbD 1 = true
    ∧ s.Frame (v.laserFault k) ((.cad, 0x00C) :: engineRegs (.txo k)) (engineParts (.txo k)) :=
  ⟨laserFault_tune v k, laserFault_locked v k, laserFault_pst v k, laserFault_event v k,
    hframe.laserFault (List.subset_cons_self _ _) (List.Subset.refl _) (List.mem_cons_self ..)⟩

end Sys2Proof.Machine.State

namespace Sys2Proof.Machine

open Sys2Proof Reg

section
variable (s : State) (k : Fin 16) (v : Word) (e : Int)

theorem exec_laserFreqWrite : exec (.laserFreqWrite k v) s = s.done fun t => t.gateReg (.txo k) 0x028 v (State.effLaserFreq k v) := rfl
theorem exec_tunePhaseDone : exec (.tunePhaseDone k e) s = s.done fun t => t.tunePhase k e := rfl
theorem exec_laserLockTimeout : exec (.laserLockTimeout k) s = s.done fun t =>
    let n := t.rd (.txo k) TXO.LASER_STATUS.TUNE_STATE
    if t.enabled (.txo k) && (n = 1 || n = 2 || n = 3 || n = 5) then t.laserFault k else t := rfl
theorem exec_laserLockLoss : exec (.laserLockLoss k) s = s.done fun t =>
    if t.bit (.txo k) TXO.TX_STATUS.LOCKED then t.laserFault k else t := rfl
theorem exec_freqDev : exec (.freqDev k e) s = s.done fun t =>
    if t.bit (.txo k) TXO.TX_STATUS.LOCKED && decide (150 < e.natAbs) then
      ((t.wrI (.txo k) TXO.LASER_STATUS.FREQ_ERR e).raise (.txo k) 8).laserFault k
    else t := rfl

end

/-- Settles O22: LASER_FREQ by its range and the laser's state, the phases of tuning, and what raises a laser fault. -/
theorem laserTuning : Obligations.laserTuning := by
  refine ⟨fun s k v e => ?_, fun s k e => ?_⟩
  · have hgrid := s.touch_gridLow
    have htune : s.touch.silent.rd (.txo k) TXO.LASER_STATUS.TUNE_STATE = s.rd (.txo k) TXO.LASER_STATUS.TUNE_STATE := s.touch_rd _ _
    have hword : s.touch.silent.word (.txo k) 0x02C = s.word (.txo k) 0x02C := s.touch_word _ _
    refine ⟨fun hacc hout => ?_, fun hacc hlow hhigh h3 h4 => ?_, fun hacc hlow hhigh ht => ?_, fun hon ht => ?_, fun hon ht he => ?_,
      fun hon ht he => ?_⟩
    · refine answers_write _ (exec_laserFreqWrite s k v) (by decide) (by decide) hacc ?_
      rw [State.effLaserFreq_refused _ k v (by rw [hgrid]; exact hout), ← hword]
      exact ⟨State.word_wr_same _ _ _ _, rfl, State.Frame.silent.wb (by decide) (List.mem_singleton_self _)⟩
    · refine answers_write _ (exec_laserFreqWrite s k v) (by decide) (by decide) hacc ?_
      rw [State.effLaserFreq_taken _ k v (by rw [hgrid]; omega), htune, if_neg (by omega), ← hword]
      exact ⟨State.freqTaken_grid _ k (by rw [hgrid]; exact hlow) (by rw [hgrid]; exact hhigh), State.freqTaken_reject _ k _, rfl,
        (State.Frame.silent.wb (by decide) (.tail _ (.head _))).wrI (by decide) (.head _)⟩
    · refine answers_write _ (exec_laserFreqWrite s k v) (by decide) (by decide) hacc ?_
      rw [State.effLaserFreq_taken _ k v (by rw [hgrid]; omega), htune, if_pos ht]
      have hmem {i : Nat} (hi : i ∈ [0x008, 0x00C, 0x020, 0x024, 0x02C, 0x048, 0x050, 0x054]) :
          (Page.txo k, i) ∈ (Page.txo k, 0x028) :: State.engineRegs (.txo k) := List.mem_cons_of_mem _ (State.txo_mem_engineRegs hi)
      have hframe : s.touch.Frame (s.touch.silent.freqTaken k (TXO.LASER_FREQ.GRID_N.getI v))
          ((.txo k, 0x028) :: State.engineRegs (.txo k)) (State.engineParts (.txo k)) :=
        (State.Frame.silent.wb (by decide) (hmem (by decide))).wrI (by decide) (List.mem_cons_self ..)
      refine ⟨?_, State.retuned_tune _ k, State.retuned_locked _ k,
        ((hframe.wr (by decide) (hmem (by decide))).wb (by decide) (hmem (by decide))).rxRestart
          (List.Subset.trans (State.rxRegs_subset k) (List.subset_cons_self _ _)) (by simp [State.engineParts, State.eventParts])⟩
      rw [State.retuned_grid]
      exact State.freqTaken_grid _ k (by rw [hgrid]; exact hlow) (by rw [hgrid]; exact hhigh)
    · refine answers_done _ (exec_tunePhaseDone s k e) ?_
      rw [State.tunePhase_next (s := s.silent) hon ht]
      exact ⟨State.word_wr_same s.silent (.txo k) TXO.LASER_STATUS.TUNE_STATE _, rfl,
        State.Frame.silent.wr (by decide) (List.mem_singleton_self _)⟩
    · refine answers_done _ (exec_tunePhaseDone s k e) ?_
      rw [State.tunePhase_lock (s := s.silent) hon ht, if_pos he]
      obtain ⟨h4, hlocked, herr, hpst⟩ := State.locked_shows s.silent k he
      have hsub : State.engineRegs (.txo k) ⊆ (Page.cad, 0x00C) :: State.engineRegs (.txo k) := List.subset_cons_self _ _
      have hparts : State.engineParts (.txo k) ⊆ .fresh :: State.engineParts (.txo k) := List.subset_cons_self _ _
      have hset : s.Frame (s.silent.wrI (.txo k) TXO.LASER_STATUS.FREQ_ERR e) ((.cad, 0x00C) :: State.engineRegs (.txo k))
          (.fresh :: State.engineParts (.txo k)) := State.Frame.silent.wrI (by decide) (hsub (State.txo_mem_engineRegs (by decide)))
      exact ⟨h4, hlocked, herr, hpst, (hset.laserLocked hsub hparts).drawBias (hsub (State.txo_mem_engineRegs (by decide)))
        (hsub (State.txo_mem_engineRegs (by decide))) (List.mem_cons_self ..) (by simp [State.engineParts, State.eventParts])⟩
    · refine answers_done _ (exec_tunePhaseDone s k e) ?_
      rw [State.tunePhase_lock (s := s.silent) hon ht, if_neg (by omega)]
      exact ⟨rfl, State.Frame.silent⟩
  · have hkept : s.silent.out = [] ∧ s.Frame s.silent [] [] := ⟨rfl, State.Frame.silent⟩
    have hfault := State.laserFault_shows s s.silent k State.Frame.silent
    refine ⟨fun hon ht => ?_, fun hlocked => ?_, fun hlocked he => ?_, fun ht => ?_, fun hlocked => ?_, fun hno => ?_⟩
    · refine answers_done _ (exec_laserLockTimeout s k) ?_
      have hon' : s.silent.enabled (.txo k) = true := hon
      dsimp only
      rw [State.silent_rd, hon', if_pos (by simpa [or_assoc] using ht)]
      exact hfault
    · refine answers_done _ (exec_laserLockLoss s k) ?_
      rw [State.silent_bit, if_pos hlocked]
      exact hfault
    · refine answers_done _ (exec_freqDev s k e) ?_
      rw [State.silent_bit, hlocked, if_pos (by simpa using he)]
      have hsub : State.engineRegs (.txo k) ⊆ (Page.cad, 0x00C) :: State.engineRegs (.txo k) := List.subset_cons_self _ _
      have hraised : s.Frame ((s.silent.wrI (.txo k) TXO.LASER_STATUS.FREQ_ERR e).raise (.txo k) 8)
          ((.cad, 0x00C) :: State.engineRegs (.txo k)) (State.engineParts (.txo k)) :=
        (State.Frame.silent.wrI (by decide) (hsub (State.txo_mem_engineRegs (by decide)))).raise
          (hsub (State.txo_mem_engineRegs (by decide))) (by simp [State.engineParts]) (by simp [State.engineParts])
          (by simp [State.engineParts])
      exact ⟨State.laserFault_shows s _ k hraised, State.laserFault_keeps _ k (State.raise_bit _ nofun (by decide))⟩
    · refine answers_done _ (exec_laserLockTimeout s k) ?_
      dsimp only
      rw [State.silent_rd, if_neg (by rcases ht with h | h | h <;> simp [h])]
      exact hkept
    · refine answers_done _ (exec_laserLockLoss s k) ?_
      rw [State.silent_bit, if_neg (by simp [hlocked])]
      exact hkept
    · refine answers_done _ (exec_freqDev s k e) ?_
      rw [State.silent_bit, if_neg (by rcases hno with h | h <;> simp [h])]
      exact hkept

end Sys2Proof.Machine
end

section
/-! PROOFS. Output power, tilt, bias limit and test signal of a transmitter (R78, R89, R91, R95). Settles O23. -/
namespace Sys2Proof.Machine.State

open Sys2Proof Reg

section
variable (s : State) (k : Fin 16) (v : Word)

/-! ## TX_POWER and the tilts (R78, R89) -/

/-- A power in range, taken. -/
def powerTaken (n : Int) : State := (s.wb (.txo k) TXO.TX_STATUS.CFG_REJECT false).wrI (.txo k) TXO.TX_POWER.SETPOINT n

/-- The output ramps to a new setpoint. -/
def powerRamps : State := (s.updCar k fun c => { c with ramp := true }).wb (.txo k) TXO.TX_STATUS.LIGHT false

theorem effTxPower_refused (h : TXO.TX_POWER.SETPOINT.getI v < -1000 ∨ 100 < TXO.TX_POWER.SETPOINT.getI v) :
    effTxPower k v s = s.wb (.txo k) TXO.TX_STATUS.CFG_REJECT true := by
  unfold effTxPower; exact if_pos (by simpa using h)

theorem effTxPower_taken (h : ¬(TXO.TX_POWER.SETPOINT.getI v < -1000 ∨ 100 < TXO.TX_POWER.SETPOINT.getI v)) :
    effTxPower k v s = if (s.car k).shutter = true ∧ TXO.TX_POWER.SETPOINT.getI v ≠ s.rdI (.txo k) TXO.TX_POWER.SETPOINT then
      (s.powerTaken k (TXO.TX_POWER.SETPOINT.getI v)).powerRamps k else s.powerTaken k (TXO.TX_POWER.SETPOINT.getI v) := by
  unfold effTxPower
  rw [if_neg (by simpa using h)]
  simp only [Bool.and_eq_true, decide_eq_true_eq]
  rfl

theorem powerTaken_setpoint {n : Int} (hlow : -1000 ≤ n) (hhigh : n ≤ 100) :
    (s.powerTaken k n).rdI (.txo k) TXO.TX_POWER.SETPOINT = n := rdI_wrI_same _ _ _ _ (by decide) (by omega) (by omega)

theorem powerTaken_reject (n : Int) : (s.powerTaken k n).bit (.txo k) TXO.TX_STATUS.CFG_REJECT = false :=
  (bit_wr_other _ _ _ _ _ (by decide)).trans (bit_wb_same s _ _ _ (by decide) (by decide))

theorem powerRamps_rd {g : Fld} (h : g.off < 0x1000 ∧ (g.off ≠ 0x024 ∨ 2 ≤ g.lo)) : (s.powerRamps k).rd (.txo k) g = s.rd (.txo k) g :=
  rd_wb_other _ _ _ _ _ ⟨by decide, h.1, h.2.imp_right .inl⟩

theorem powerRamps_light : (s.powerRamps k).bit (.txo k) TXO.TX_STATUS.LIGHT = false := bit_wb_same _ _ _ _ (by decide) (by decide)

theorem powerRamps_ramp : ((s.powerRamps k).car k).ramp = true := congrArg Carrier.ramp (car_updCar s k fun c => { c with ramp := true })

theorem effTilt_refused (hi : Bool) (h : tiltOk v = false) : effTilt k hi v s = s.wb (.txo k) TXO.TX_STATUS.CFG_REJECT true := by
  unfold effTilt; exact if_pos (by simp [h])

/-- Tilts in range, taken. -/
def tiltTaken (hi : Bool) : State := (s.wb (.txo k) TXO.TX_STATUS.CFG_REJECT false).setWord (.txo k) (if hi then 0x03C else 0x038) v

theorem tiltTaken_pst (hi : Bool) : (s.tiltTaken k v hi).pst (.txo k) = s.pst (.txo k) := by
  refine rd_of_word ((word_setWord_ne _ _ _ _ _ _ ?_ (by decide) (.inr ?_)).trans (word_wb_other _ _ _ _ (by decide)))
  · cases hi <;> decide
  · cases hi <;> decide

theorem effTilt_taken (hi : Bool) (h : tiltOk v = true) : effTilt k hi v s = if s.pst (.txo k) = 0 then
    (s.tiltTaken k v hi).updCar k fun c => { c with tiltNow := (List.range 8).map ((s.tiltTaken k v hi).tiltSet k) }
    else s.tiltTaken k v hi := by
  rw [← s.tiltTaken_pst k v hi]
  unfold effTilt
  exact if_neg (by simp [h])

theorem tiltTaken_reject (hi : Bool) : (s.tiltTaken k v hi).bit (.txo k) TXO.TX_STATUS.CFG_REJECT = false := by
  refine (bit_of_word (word_setWord_ne _ _ _ _ _ _ ?_ (by decide) (.inr ?_))).trans (bit_wb_same s _ _ _ (by decide) (by decide))
  · cases hi <;> decide
  · cases hi <;> decide

/-! ## The bias limit (R91) -/

/-- The bias of the laser in use at its limit. -/
def biasShown (bias pct : Nat) : State :=
  ((s.wr (.txo k) TXO.LASER_BIAS.BIAS bias).wr (.txo k) TXO.LASER_BIAS.BIAS_PCT pct).wb (.txo k) TXO.LASER_BIAS.LIMIT true

/-- The limit, where it was not reached before, is an event and calls for the spare. -/
def biasLimited (bias pct : Nat) : State :=
  if s.bit (.txo k) TXO.LASER_BIAS.LIMIT then s.biasShown k bias pct else ((s.biasShown k bias pct).raise (.txo k) 4).autoLaser k false

theorem biasLimited_bias (bias pct : Nat) : (s.biasLimited k bias pct).word (.txo k) 0x050 = (s.biasShown k bias pct).word (.txo k) 0x050 := by
  unfold biasLimited
  split
  · rfl
  · rw [autoLaser_txo _ _ (by decide), raise_txo _ _ _ (by decide)]

theorem autoLaser_out (b : Bool) : (s.autoLaser k b).out = s.out := by
  unfold autoLaser askLaser
  split
  · rfl
  · split
    · rw [count_out, raise_out]
    · rfl

theorem biasLimited_out (bias pct : Nat) : (s.biasLimited k bias pct).out = s.out := by
  unfold biasLimited
  split
  · rfl
  · rw [autoLaser_out, raise_out]; rfl

variable {s k} in
theorem Frame.biasLimited {u : State} {l : List (Page × Nat)} {ps : List StatePart} {bias pct : Nat} (h : Frame u s l ps)
    (hbias : (Page.txo k, 0x050) ∈ l) (hevent : (Page.txo k, 0x00C) ∈ l) (hcad : (Page.cad, 0x00C) ∈ l)
    (hp : StatePart.cad :: eventParts ⊆ ps) : Frame u (s.biasLimited k bias pct) l ps := by
  have hshown : Frame u (s.biasShown k bias pct) l ps := ((h.wr (by decide) hbias).wr (by decide) hbias).wb (by decide) hbias
  exact Frame.ite (fun _ => hshown) fun _ =>
    (hshown.raise hevent (hp (by decide)) (hp (by decide)) (hp (by decide))).autoLaser hcad hp

/-! ## TX_TEST (R95) -/

theorem effTxTest_refused (h : 4 ≤ TXO.TX_TEST.MODE.get v ∨ (TXO.TX_TEST.MODE.get v ≠ 0 ∧ s.pst (.txo k) ≠ 6)) : effTxTest k v s = s := by
  unfold effTxTest; exact if_pos (by simpa using h)

theorem effTxTest_taken (h : ¬(4 ≤ TXO.TX_TEST.MODE.get v ∨ (TXO.TX_TEST.MODE.get v ≠ 0 ∧ s.pst (.txo k) ≠ 6))) : effTxTest k v s =
    (s.wr (.txo k) TXO.TX_TEST.MODE (TXO.TX_TEST.MODE.get v)).wr (.txo k) TXO.TX_TEST.SC (TXO.TX_TEST.SC.get v) := by
  unfold effTxTest; exact if_neg (by simpa using h)

theorem get_lt (f : Fld) (x : Word) : f.get x < 2 ^ f.w := BitVec.isLt _

end

end Sys2Proof.Machine.State

namespace Sys2Proof.Machine

open Sys2Proof Reg

section
variable (s : State) (k : Fin 16) (v : Word)

theorem exec_txPowerWrite : exec (.txPowerWrite k v) s = s.done fun t => t.gateReg (.txo k) 0x030 v (State.effTxPower k v) := rfl
theorem exec_powerRampDone (m : Int) : exec (.powerRampDone k m) s = s.done fun t =>
    if (t.car k).shutter && (t.car k).ramp then
      ((t.updCar k fun c => { c with ramp := false }).wb (.txo k) TXO.TX_STATUS.LIGHT true).wrI (.txo k)
        TXO.TX_POWER_MON.MEASURED (max m (-4000))
    else t := rfl
theorem exec_powerDev (m : Int) : exec (.powerDev k m) s = s.done fun t =>
    if t.mayShine k && decide (100 < (m - t.rdI (.txo k) TXO.TX_POWER.SETPOINT).natAbs) then
      ((t.wrI (.txo k) TXO.TX_POWER_MON.MEASURED (max m (-4000))).raise (.txo k) 2).count (.txo k) 6 1
    else t := rfl
theorem exec_tiltWrite (hi : Bool) : exec (.tiltWrite k hi v) s = s.done fun t =>
    t.gateReg (.txo k) (if hi then 0x03C else 0x038) v (State.effTilt k hi v) := rfl
theorem exec_biasLimit (bias pct : Nat) : exec (.biasLimit k bias pct) s = s.done fun t =>
    if t.rd (.txo k) TXO.LASER_STATUS.TUNE_STATE = 0 || pct < 130 then t else t.biasLimited k bias pct := rfl
theorem exec_txTestWrite : exec (.txTestWrite k v) s = s.done fun t => t.gateReg (.txo k) 0x054 v (State.effTxTest k v) := rfl

end

/-- Settles O23: each register by the range of what is written, each report by what the state shows. -/
theorem outputPower : Obligations.outputPower := by
  refine ⟨fun s k v hi m => ?_, fun s k v bias pct => ?_⟩
  · have hstatus : s.touch.silent.word (.txo k) 0x024 = s.word (.txo k) 0x024 := s.touch_word _ _
    have hsetpoint : s.touch.silent.rdI (.txo k) TXO.TX_POWER.SETPOINT = s.rdI (.txo k) TXO.TX_POWER.SETPOINT :=
      State.rdI_of_rd (s.touch_rd _ _)
    have hcars : s.touch.silent.cars = s.cars := s.touch_frame.same .cars (by decide)
    have hcar : s.touch.silent.car k = s.car k := State.car_of_cars k hcars
    have hpst : s.touch.silent.pst (.txo k) = s.pst (.txo k) := s.touch_rd _ _
    refine ⟨fun hacc hout => ?_, fun hacc hlow hhigh => ?_, fun hopen hramp hm => ?_, fun hshine hdev hm => ?_, fun hacc htilt => ?_,
      fun hacc htilt => ?_⟩
    · refine answers_write _ (exec_txPowerWrite s k v) (by decide) (by decide) hacc ?_
      rw [State.effTxPower_refused _ k v hout, ← hstatus]
      exact ⟨State.word_wr_same _ _ _ _, rfl, State.Frame.silent.wb (by decide) (.head _)⟩
    · refine answers_write _ (exec_txPowerWrite s k v) (by decide) (by decide) hacc ?_
      rw [State.effTxPower_taken _ k v (by omega), hcar, hsetpoint]
      have htaken : s.touch.Frame (s.touch.silent.powerTaken k (TXO.TX_POWER.SETPOINT.getI v)) [(.txo k, 0x024), (.txo k, 0x030)] [.cars] :=
        (State.Frame.silent.wb (by decide) (.head _)).wrI (by decide) (.tail _ (.head _))
      split
      next h =>
        refine ⟨?_, ?_, fun _ _ => ⟨State.powerRamps_ramp _ k, State.powerRamps_light _ k⟩, fun hshut => absurd h.1 (by simp [hshut]),
          rfl, (htaken.updCar (.head _)).wb (by decide) (.head _)⟩
        · rw [State.rdI_of_rd (State.powerRamps_rd _ k (by decide))]; exact State.powerTaken_setpoint _ k hlow hhigh
        · unfold State.bit
          rw [State.powerRamps_rd _ k (by decide)]
          exact State.powerTaken_reject _ k _
      next h =>
        exact ⟨State.powerTaken_setpoint _ k hlow hhigh, State.powerTaken_reject _ k _, fun hopen hn => absurd ⟨hopen, hn⟩ h,
          fun _ => hcars, rfl, htaken⟩
    · refine answers_done _ (exec_powerRampDone s k m) ?_
      have hdue : ((s.silent.car k).shutter && (s.silent.car k).ramp) = true := Bool.and_eq_true_iff.2 ⟨hopen, hramp⟩
      rw [if_pos hdue]
      exact ⟨(State.bit_wr_other _ _ _ _ _ (by decide)).trans (State.bit_wb_same _ _ _ _ (by decide) (by decide)),
        congrArg Carrier.ramp (State.car_updCar s.silent k fun c => { c with ramp := false }), State.rdI_wrI_same _ _ _ _ (by decide) (by omega) (by omega), rfl,
        ((State.Frame.silent.updCar (.head _)).wb (by decide) (.head _)).wrI (by decide) (.tail _ (.head _))⟩
    · refine answers_done _ (exec_powerDev s k m) ?_
      have hshine' : s.silent.mayShine k = true := hshine
      rw [State.silent_rdI, hshine', if_pos (by simpa using hdev)]
      refine ⟨State.raise_bit _ nofun (by decide), ?_, State.raise_out _ _ _, ((State.Frame.silent.wrI (by decide) (.tail _ (.head _))).raise
        (.head _) (by decide) (by decide) (by decide)).count (by decide)⟩
      rw [State.count_rdI, State.rdI_of_rd (State.rd_of_word (State.raise_txo _ _ _ (by decide)))]
      exact State.rdI_wrI_same _ _ _ _ (by decide) (by omega) (by omega)
    · refine answers_write _ (exec_tiltWrite s k v hi) (by cases hi <;> decide) (by cases hi <;> decide) hacc ?_
      rw [State.effTilt_refused _ k v hi htilt, ← hstatus]
      exact ⟨State.word_wr_same _ _ _ _, rfl, State.Frame.silent.wb (by decide) (.head _)⟩
    · refine answers_write _ (exec_tiltWrite s k v hi) (by cases hi <;> decide) (by cases hi <;> decide) hacc ?_
      rw [State.effTilt_taken _ k v hi htilt, hpst]
      have htaken : s.touch.Frame (s.touch.silent.tiltTaken k v hi) [(.txo k, 0x024), (.txo k, if hi then 0x03C else 0x038)] [.cars] :=
        (State.Frame.silent.wb (by decide) (.head _)).setWord (by cases hi <;> decide) (.tail _ (.head _))
      split
      next h =>
        exact ⟨State.word_setWord_same _ _ _ _, State.tiltTaken_reject _ k v hi, fun hon => absurd h hon, rfl, htaken.updCar (.head _)⟩
      next h =>
        exact ⟨State.word_setWord_same _ _ _ _, State.tiltTaken_reject _ k v hi, fun _ => hcars, rfl, htaken⟩
  · have hpst : s.touch.silent.pst (.txo k) = s.pst (.txo k) := s.touch_rd _ _
    refine ⟨fun hon hpct hbias hlt => ?_, fun hno => ?_, fun hacc hmode hdrained => ?_, fun hacc hno => ?_⟩
    · refine answers_done _ (exec_biasLimit s k bias pct) ?_
      rw [State.silent_rd, if_neg (by simp [hon]; omega)]
      have hword := State.biasLimited_bias s.silent k bias pct
      refine ⟨?_, ?_, ?_, fun hwas => ?_, State.biasLimited_out _ _ _ _,
        State.Frame.silent.biasLimited (.head _) (.tail _ (.head _)) (.tail _ (.tail _ (.head _))) (by decide)⟩
      · rw [State.rd_of_word hword, State.biasShown, State.rd_wb_other _ _ _ _ _ (by decide), State.rd_wr_other _ _ _ _ _ (by decide)]
        exact State.rd_wr_same _ _ _ _ (by decide)
      · rw [State.rd_of_word hword, State.biasShown, State.rd_wb_other _ _ _ _ _ (by decide), State.rd_wr_same _ _ _ _ (by decide)]
        exact Nat.mod_eq_of_lt (by show pct < 4096; omega)
      · rw [State.bit_of_word hword]
        exact State.bit_wb_same _ _ _ _ (by decide) (by decide)
      · unfold State.biasLimited
        rw [State.silent_bit, if_neg (by simp [hwas]), State.autoLaser_txo _ _ (by decide)]
        exact State.raise_bit _ nofun (by decide)
    · refine answers_done _ (exec_biasLimit s k bias pct) ?_
      rw [State.silent_rd, if_pos (by simpa using hno)]
      exact ⟨rfl, State.Frame.silent⟩
    · refine answers_write _ (exec_txTestWrite s k v) (by decide) (by decide) hacc ?_
      rw [State.effTxTest_taken _ k v (by rw [hpst]; omega)]
      refine ⟨?_, ?_, rfl, (State.Frame.silent.wr (by decide) (.head _)).wr (by decide) (.head _)⟩
      · rw [State.rd_wr_other _ _ _ _ _ (by decide), State.rd_wr_same _ _ _ _ (by decide)]
        exact Nat.mod_eq_of_lt (State.get_lt _ _)
      · rw [State.rd_wr_same _ _ _ _ (by decide)]
        exact Nat.mod_eq_of_lt (State.get_lt _ _)
    · refine answers_write _ (exec_txTestWrite s k v) (by decide) (by decide) hacc ?_
      rw [State.effTxTest_refused _ k v (by rw [hpst]; exact hno)]
      exact ⟨rfl, State.Frame.silent⟩

end Sys2Proof.Machine
end

section
/-! PROOFS. The output enable and the spare laser of a group (R85, R90, R91, R435). Settles O24. -/
namespace Sys2Proof

/-- A field that takes the value it has leaves its word. -/
theorem Fld.put_get_self (f : Fld) (x : Word) : f.put x (f.get x) = x := by
  have hsplit (m : Word) : (x &&& ~~~m) ||| (x &&& m) = x := by
    apply BitVec.eq_of_getLsbD_eq
    intro i hi
    simp only [BitVec.getLsbD_or, BitVec.getLsbD_and, BitVec.getLsbD_not, hi, decide_true, Bool.true_and]
    cases x.getLsbD i <;> cases m.getLsbD i <;> rfl
  rw [Fld.put_get, hsplit]

theorem Fld.get_eq_one (f : Fld) (h : f.w = 1) (x : Word) : (f.get x == 1) = decide (f.get x ≠ 0) := by
  have hlt := Machine.State.get_lt f x
  rw [h] at hlt
  rcases (by omega : f.get x = 0 ∨ f.get x = 1) with e | e <;> rw [e] <;> rfl

theorem testBit_putBit (x i : Nat) (b : Bool) : (putBit x i b).testBit i = b := by
  unfold putBit
  split
  next h => exact h
  next h =>
    cases b
    · have hset : x.testBit i = true := by simpa using h
      have hsum : 2 ^ i + (x - 2 ^ i) = x := Nat.add_sub_cancel' (Nat.ge_two_pow_of_testBit hset)
      have hsub := Nat.testBit_two_pow_add_eq (x - 2 ^ i) i
      rw [hsum, hset] at hsub
      simpa using hsub.symm
    · have hclear : x.testBit i = false := by simpa using h
      rw [if_pos rfl, Nat.add_comm, Nat.testBit_two_pow_add_eq, hclear]
      rfl

end Sys2Proof

namespace Sys2Proof.Machine.State

open Sys2Proof Reg

section
variable (s : State) (k : Fin 16)

/-! ## The procedure's carrier is touched, the spare is held (R90, R431) -/

/-- A host write during a laser procedure is noted by the caddy alone. -/
theorem touchProc_eq : ∃ c, s.touchProc k = { s with cad := c } := by
  unfold touchProc
  split
  · split
    · exact ⟨_, rfl⟩
    · exact ⟨s.cad, rfl⟩
  · exact ⟨s.cad, rfl⟩

theorem holdSpare_txo (hold : Bool) {i : Nat} (hi : i < 0x1000) : (s.holdSpare k hold).word (.txo k) i = s.word (.txo k) i :=
  (word_wr_ne _ .cad (.txo k) _ _ _ (by show (0x040 : Nat) < 0x1000; decide) hi (.inl nofun)).trans
    (word_wr_ne _ .cad (.txo k) _ _ _ (by decide) hi (.inl nofun))

/-- SPARE_FREE of the group says whether the spare is in the pool. -/
theorem holdSpare_free (hold : Bool) :
    ((s.holdSpare k hold).rd .cad CAD.LASER_STATUS.SPARE_FREE).testBit (k.val / 4) = !hold := by
  have hgroup : k.val / 4 < 4 := by omega
  have hother := rd_wr_other (s.wr .cad CAD.LASER_STATUS.SPARE_FREE (putBit (s.rd .cad CAD.LASER_STATUS.SPARE_FREE) (k.val / 4) (!hold))) .cad
    ⟨CAD.LASER_STATUS.HELD_BY.off, 4 + 4 * (k.val / 4), 4⟩ CAD.LASER_STATUS.SPARE_FREE (if hold then k.val else 0)
    ⟨by show (0x040 : Nat) < 0x1000; decide, by decide, .inr (.inr (by show 0 + 4 ≤ 4 + 4 * (k.val / 4); omega))⟩
  have hsame := rd_wr_same s .cad CAD.LASER_STATUS.SPARE_FREE (putBit (s.rd .cad CAD.LASER_STATUS.SPARE_FREE) (k.val / 4) (!hold)) (by decide)
  show (State.rd _ .cad CAD.LASER_STATUS.SPARE_FREE).testBit (k.val / 4) = _
  unfold holdSpare
  rw [hother, hsame]
  show ((putBit _ _ _) % 2 ^ 4).testBit _ = _
  rw [Nat.testBit_mod_two_pow, testBit_putBit, decide_eq_true hgroup, Bool.true_and]

variable {s} in
theorem Frame.holdSpare {v : State} {hold : Bool} {l : List (Page × Nat)} {ps : List StatePart} (h : Frame v s l ps)
    (hl : (Page.cad, 0x040) ∈ l) : Frame v (s.holdSpare k hold) l ps :=
  (h.wr (by decide) hl).setWord (by show (0x040 : Nat) < 0x1000; decide) hl

/-! ## TX_CTRL (R85, R90) -/

/-- The fields of TX_CTRL beside LASER_SEL, as written. -/
def ctrlTaken (v : Word) : State :=
  (s.wr (.txo k) TXO.TX_CTRL.OUTPUT_EN (TXO.TX_CTRL.OUTPUT_EN.get v)).wr (.txo k) TXO.TX_CTRL.SPEC_INV (TXO.TX_CTRL.SPEC_INV.get v)

/-- The other laser starts to warm. -/
def warms (sel : Bool) : State :=
  ((s.wb (.txo k) TXO.TX_CTRL.LASER_SEL sel).wb (.txo k) TXO.TX_STATUS.SPARE_PENDING true).updCar k fun c => { c with warming := true }

theorem warms_word (sel : Bool) {i : Nat} (h : i < 0x1000 ∧ i ≠ 0x020 ∧ i ≠ 0x024) : (s.warms k sel).word (.txo k) i = s.word (.txo k) i := by
  unfold warms
  rw [updCar_word, word_wb_other _ _ _ _ ⟨by decide, h.1, h.2.2⟩, word_wb_other _ _ _ _ ⟨by decide, h.1, h.2.1⟩]

theorem warms_cad (sel : Bool) {i : Nat} (hi : i < 0x1000) : (s.warms k sel).word .cad i = s.word .cad i := by
  unfold warms
  rw [updCar_word, wb, wb, word_wr_ne _ (.txo k) .cad _ _ _ (by decide) hi (.inl nofun),
    word_wr_ne _ (.txo k) .cad _ _ _ (by decide) hi (.inl nofun)]

theorem warms_sel (sel : Bool) : (s.warms k sel).bit (.txo k) TXO.TX_CTRL.LASER_SEL = sel := by
  unfold warms
  rw [updCar_bit, bit_wb_other _ _ _ _ _ (by decide)]
  exact bit_wb_same _ _ _ _ (by decide) (by decide)

theorem warms_pending (sel : Bool) : (s.warms k sel).bit (.txo k) TXO.TX_STATUS.SPARE_PENDING = true := by
  unfold warms
  rw [updCar_bit]
  exact bit_wb_same _ _ _ _ (by decide) (by decide)

theorem warms_warming (sel : Bool) : ((s.warms k sel).car k).warming = true := by
  unfold warms
  rw [car_updCar]

theorem warms_out (sel : Bool) : (s.warms k sel).out = s.out := by
  unfold warms
  rw [updCar_out, wb_out, wb_out]

/-- A choice of the laser that is not in use, with no switch under way, and the spare free where it is the spare. -/
theorem selectLaser_begins {sel : Bool} (huse : s.bit (.txo k) TXO.TX_STATUS.SPARE_IN_USE = !sel)
    (hpend : s.bit (.txo k) TXO.TX_STATUS.SPARE_PENDING = false) (hfree : sel = true → s.spareBusy k = false) :
    s.selectLaser k sel = if sel then (s.warms k sel).holdSpare k true else s.warms k sel := by
  unfold selectLaser
  cases sel
  · simp only [huse, hpend]; rfl
  · simp only [huse, hpend, hfree rfl]; rfl

theorem effTxCtrl_busy {v : Word} (hv : TXO.TX_CTRL.LASER_SEL.get v = 1) (hsel : s.bit (.txo k) TXO.TX_CTRL.LASER_SEL = false)
    (huse : s.bit (.txo k) TXO.TX_STATUS.SPARE_IN_USE = false) (hpend : s.bit (.txo k) TXO.TX_STATUS.SPARE_PENDING = false)
    (hbusy : s.spareBusy k = true) : effTxCtrl k v s = s := by
  unfold effTxCtrl; exact if_pos (by simp [hv, hsel, huse, hpend, hbusy])

theorem effTxCtrl_keeps {v : Word} (hsel : (TXO.TX_CTRL.LASER_SEL.get v == 1) = s.bit (.txo k) TXO.TX_CTRL.LASER_SEL)
    (hon : s.pst (.txo k) ≠ 0) : effTxCtrl k v s = s.ctrlTaken k v := by
  have hpst : (s.ctrlTaken k v).pst (.txo k) ≠ 0 := fun h => hon ((rd_of_word
    ((word_wr_other _ _ _ _ (by decide)).trans (word_wr_other _ _ _ _ (by decide)))).symm.trans h)
  unfold effTxCtrl
  simp only [hsel, if_true]
  rw [if_neg (by cases s.bit (.txo k) TXO.TX_CTRL.LASER_SEL <;> simp)]
  exact if_neg hpst

theorem effTxCtrl_selects {v : Word} {sel : Bool} (hv : (TXO.TX_CTRL.LASER_SEL.get v == 1) = sel)
    (hsel : s.bit (.txo k) TXO.TX_CTRL.LASER_SEL = !sel) (huse : s.bit (.txo k) TXO.TX_STATUS.SPARE_IN_USE = !sel)
    (hpend : s.bit (.txo k) TXO.TX_STATUS.SPARE_PENDING = false) (hfree : sel = true → s.spareBusy k = false)
    (hon : s.pst (.txo k) ≠ 0) :
    ∃ c, effTxCtrl k v s = (if sel then (({ s with cad := c } : State).warms k sel).holdSpare k true
      else ({ s with cad := c } : State).warms k sel).ctrlTaken k v := by
  obtain ⟨c, hc⟩ := s.touchProc_eq k
  have hbegins := selectLaser_begins ({ s with cad := c }) k (sel := sel) huse hpend hfree
  refine ⟨c, ?_⟩
  rw [← hbegins]
  have hword : (({ s with cad := c } : State).selectLaser k sel).word (.txo k) 0x008 = s.word (.txo k) 0x008 := by
    rw [hbegins]
    split
    · rw [holdSpare_txo _ _ _ (by decide), warms_word _ _ _ (by decide), with_cad_word]
    · rw [warms_word _ _ _ (by decide), with_cad_word]
  have hpst : ((({ s with cad := c } : State).selectLaser k sel).ctrlTaken k v).pst (.txo k) ≠ 0 := fun h => hon ((rd_of_word
    (((word_wr_other _ _ _ _ (by decide)).trans (word_wr_other _ _ _ _ (by decide))).trans hword)).symm.trans h)
  have hbusy : (sel && !s.bit (.txo k) TXO.TX_CTRL.LASER_SEL && !s.bit (.txo k) TXO.TX_STATUS.SPARE_IN_USE
      && !s.bit (.txo k) TXO.TX_STATUS.SPARE_PENDING && s.spareBusy k) = false := by
    cases sel
    · rfl
    · rw [hfree rfl]; simp
  have hother : ¬sel = s.bit (.txo k) TXO.TX_CTRL.LASER_SEL := by rw [hsel]; cases sel <;> decide
  unfold effTxCtrl
  simp only [hv, hbusy, hother, Bool.false_eq_true, if_false, hc]
  exact if_neg hpst

/-- What TX_CTRL shows where one of its fields beside LASER_SEL is written. -/
theorem ctrlTaken_outputEnable (w : Word) (on : Bool) (h : s.word (.txo k) 0x020 = w) :
    (s.ctrlTaken k (TXO.TX_CTRL.OUTPUT_EN.put w on.toNat)).word (.txo k) 0x020 = TXO.TX_CTRL.OUTPUT_EN.put w on.toNat := by
  have hon : TXO.TX_CTRL.OUTPUT_EN.get (TXO.TX_CTRL.OUTPUT_EN.put w on.toNat) = on.toNat := by
    rw [Fld.get_put_same _ _ _ (by decide)]
    exact Nat.mod_eq_of_lt (by cases on <;> decide)
  have houtput := word_wr_same s (.txo k) TXO.TX_CTRL.OUTPUT_EN on.toNat
  unfold ctrlTaken
  refine (word_wr_same _ (.txo k) TXO.TX_CTRL.SPEC_INV _).trans ?_
  rw [hon]
  show TXO.TX_CTRL.SPEC_INV.put (State.word _ (.txo k) TXO.TX_CTRL.OUTPUT_EN.off) _ = _
  rw [houtput]
  show TXO.TX_CTRL.SPEC_INV.put (TXO.TX_CTRL.OUTPUT_EN.put (s.word (.txo k) 0x020) on.toNat) _ = _
  rw [h, Fld.put_get_self]

theorem ctrlTaken_bit (v : Word) {g : Fld} (h : g.off < 0x1000 ∧ (g.off ≠ 0x020 ∨ (g.lo = 1 ∧ g.w = 1))) :
    (s.ctrlTaken k v).bit (.txo k) g = s.bit (.txo k) g :=
  (bit_wr_other _ _ _ _ _ ⟨by decide, h.1, h.2.imp_right fun e => .inr (by rw [e.1, e.2]; decide)⟩).trans
    (bit_wr_other _ _ _ _ _ ⟨by decide, h.1, h.2.imp_right fun e => .inl (by rw [e.1]; decide)⟩)

theorem ctrlTaken_cad (v : Word) {i : Nat} (hi : i < 0x1000) : (s.ctrlTaken k v).word .cad i = s.word .cad i :=
  (word_wr_ne _ (.txo k) .cad _ _ _ (by decide) hi (.inl nofun)).trans (word_wr_ne _ (.txo k) .cad _ _ _ (by decide) hi (.inl nofun))

variable {s k} in
theorem Frame.ctrlTaken {u : State} {v : Word} {l : List (Page × Nat)} {ps : List StatePart} (h : Frame u s l ps)
    (hl : (Page.txo k, 0x020) ∈ l) : Frame u (s.ctrlTaken k v) l ps := (h.wr (by decide) hl).wr (by decide) hl

variable {s k} in
theorem Frame.warms {u : State} {sel : Bool} {l : List (Page × Nat)} {ps : List StatePart} (h : Frame u s l ps)
    (hctrl : (Page.txo k, 0x020) ∈ l) (hstatus : (Page.txo k, 0x024) ∈ l) (hp : StatePart.cars ∈ ps) : Frame u (s.warms k sel) l ps :=
  ((h.wb (by decide) hctrl).wb (by decide) hstatus).updCar hp

end

/-! ## What an operation of the laser leaves of the carrier's record and of what is sent -/

/-- The laser's part of a carrier's record is the same: what warms, and whether its own laser is on. -/
def LaserKept (k : Fin 16) (s u : State) : Prop := (u.car k).warming = (s.car k).warming ∧ (u.car k).ownOn = (s.car k).ownOn

section
variable {s u v : State} {k : Fin 16}

theorem LaserKept.of_cars (h : LaserKept k s u) (hcars : v.cars = u.cars) : LaserKept k s v := by
  unfold LaserKept; rw [car_of_cars k hcars]; exact h

theorem LaserKept.updCar {f : Carrier → Carrier} (h : LaserKept k s u) (hf : ∀ c, (f c).warming = c.warming ∧ (f c).ownOn = c.ownOn) :
    LaserKept k s (u.updCar k f) := by
  unfold LaserKept; rw [car_updCar, (hf _).1, (hf _).2]; exact h

theorem LaserKept.dropCw (h : LaserKept k s u) : LaserKept k s (u.dropCw k) := by
  unfold State.dropCw
  extract_lets s1 s2
  have h1 : LaserKept k s s1 := h.updCar fun _ => ⟨rfl, rfl⟩
  split
  · exact h1
  · exact h1.of_cars (raiseIf_cars s2 _ _ _)

theorem LaserKept.rxRestart {fast : Bool} (h : LaserKept k s u) : LaserKept k s (u.rxRestart k fast) := by
  unfold State.rxRestart
  extract_lets p old n s1 lock re s2 s3
  have h2 : LaserKept k s s2 := (h.of_cars (v := s1) rfl).updCar fun _ => ⟨rfl, rfl⟩
  split
  · exact (h2.of_cars (v := s3.wr p RXE.EQ_CTRL.CONVERGED 0) (by simp only [s3, wr_cars, setWord_cars])).dropCw
  · exact h2

end

section
variable (s : State) (k : Fin 16)

theorem dropCw_out : (s.dropCw k).out = s.out := by
  unfold dropCw
  extract_lets s1 s2
  split
  · simp only [s1, updCar_out]
  · simp only [s2, s1, raiseIf_out, count_out, wb_out, updCar_out]

theorem rxRestart_out (fast : Bool) : (s.rxRestart k fast).out = s.out := by
  unfold rxRestart
  extract_lets p old n s1 lock re s2 s3
  have h2 : s2.out = s.out := by simp only [s2, s1, updCar_out, wb_out, wr_out]
  split
  · rw [dropCw_out, wr_out, setWord_out, setWord_out, wr_out, h2]
  · exact h2

theorem lockReceives_out : (s.lockReceives k).out = s.out := by
  unfold lockReceives
  split
  · exact rxRestart_out s k _
  · rfl

theorem laserLocked_out : (s.laserLocked k).out = s.out := by
  rw [laserLocked_eq, lockReceives_out, lockRuns]
  split
  · rw [setPst_out, lockShown, raise_out, wb_out, wr_out]
  · rw [lockShown, raise_out, wb_out, wr_out]

theorem laserLocked_laser : LaserKept k s (s.laserLocked k) := by
  have hruns : LaserKept k s ((s.lockShown k).lockRuns k) := by
    refine LaserKept.of_cars (u := s) ⟨rfl, rfl⟩ ?_
    unfold lockRuns
    split
    · rw [setPst_cars, lockShown, raise_cars, wb_cars, wr_cars]
    · rw [lockShown, raise_cars, wb_cars, wr_cars]
  rw [laserLocked_eq]
  unfold lockReceives
  split
  · exact hruns.rxRestart
  · exact hruns

theorem drawBias_out : (s.drawBias k).out = s.out := by
  rcases drawBias_cases s k with e | e <;> rw [e]
  · rfl
  · rw [autoLaser_out, raise_out]; rfl

theorem drawBias_cars : (s.drawBias k).cars = s.cars :=
  (Frame.refl.drawBias (l := [(.txo k, 0x050), (.txo k, 0x00C), (.cad, 0x00C)]) (by simp) (by simp) (by simp) (List.Subset.refl _)).same
    .cars (by decide)

theorem substitute_out (pool reason unit : Nat) : (s.substitute pool reason unit).out = s.out := by
  unfold substitute
  dsimp only
  split
  · rw [protect_out, updCad_out, count_out, wr_out, wr_out, wr_out, log_out]
  · rw [count_out, wr_out, wr_out, wr_out, log_out]

variable {s} in
theorem Frame.substitute {v : State} {pool reason unit : Nat} {l : List (Page × Nat)} {ps : List StatePart} (h : Frame v s l ps)
    (hl : [((Page.cad : Page), 0x018), (.cad, 0x054)] ⊆ l) (hp : StatePart.cad :: eventParts ⊆ ps) :
    Frame v (s.substitute pool reason unit) l ps := by
  have hlast : (Page.cad, 0x054) ∈ l := hl (.tail _ (.head _))
  have hcounted : Frame v ((((((s.log 0 0 3 (pool + 16 * reason) unit).wr .cad CAD.CAD_LAST.POOL pool).wr .cad CAD.CAD_LAST.REASON reason).wr
      .cad CAD.CAD_LAST.UNIT unit)).count .cad 0 1) l ps :=
    ((((h.log (hp (by decide)) (hp (by decide)) (hp (by decide))).wr (by decide) hlast).wr (by decide) hlast).wr (by decide) hlast).count
      (hp (by decide))
  exact Frame.ite (fun _ => (hcounted.updCad (hp (by decide))).protect (hl (.head _)) (hp (by decide))) fun _ => hcounted

/-! ## The optical switch (R90, R91, R435) -/

/-- The switch on the carrier's page and in its record. -/
def switched : State :=
  ((s.wb (.txo k) TXO.TX_STATUS.SPARE_PENDING false).wb (.txo k) TXO.TX_STATUS.SPARE_IN_USE (s.bit (.txo k) TXO.TX_CTRL.LASER_SEL)).updCar k
    fun c => { c with warming := false, ownOn := !s.bit (.txo k) TXO.TX_CTRL.LASER_SEL }

/-- The ledger's reason of a laser that comes into use (R435). -/
def switchReason : Nat :=
  match s.cad.cur with
  | some r => if r.k = k then (if r.fault then 6 else if r.auto then 5 else 4) else 4
  | none => 4

/-- A spare that comes into use is a substitution, one given up goes back to the pool. -/
def handOver (toSpare : Bool) (why : Nat) : State := if toSpare then s.substitute 2 why k.val else s.holdSpare k false

def switchShown : State := ((s.emit (.opticalSwitch k)).raise (.txo k) 6).count (.txo k) 3 1

/-- The warm laser takes a carrier whose own was not locked. -/
def switchLocks : State :=
  if s.enabled (.txo k) && s.rd (.txo k) TXO.LASER_STATUS.TUNE_STATE ≠ 4 then s.laserLocked k else s

variable {s k} in
theorem spareSwitch_eq (h : s.bit (.txo k) TXO.TX_STATUS.SPARE_PENDING = true) : s.spareSwitch k =
    ((((((s.switched k).handOver k (s.bit (.txo k) TXO.TX_CTRL.LASER_SEL) (s.switchReason k)).switchShown k).switchLocks k).drawBias
      k).rxHold k) := by
  unfold spareSwitch
  exact if_neg (by simp [h])

theorem handOver_txo (b : Bool) (n : Nat) {i : Nat} (hi : i < 0x1000) : (s.handOver k b n).word (.txo k) i = s.word (.txo k) i := by
  unfold handOver
  split
  · exact (Frame.refl.substitute (List.Subset.refl _) (List.Subset.refl _)).reg _ i hi (.inl nofun) (by simp)
  · exact holdSpare_txo s k false hi

theorem handOver_cars (b : Bool) (n : Nat) : (s.handOver k b n).cars = s.cars := by
  unfold handOver
  split
  · exact (Frame.refl.substitute (List.Subset.refl _) (List.Subset.refl _)).same .cars (by decide)
  · rfl

theorem switchShown_out : Output.opticalSwitch k ∈ (s.switchShown k).out := by
  rw [switchShown, count_out, raise_out]
  exact List.mem_append_right _ (List.mem_singleton_self _)

theorem switchLocks_out : (s.switchLocks k).out = s.out := by
  unfold switchLocks
  split
  · exact laserLocked_out s k
  · rfl

theorem switchLocks_laser : LaserKept k s (s.switchLocks k) := by
  unfold switchLocks
  split
  · exact laserLocked_laser s k
  · exact ⟨rfl, rfl⟩

theorem switchLocks_bit {g : Fld} (h : g.off = 0x024 ∧ 1 ≤ g.lo) : (s.switchLocks k).bit (.txo k) g = s.bit (.txo k) g := by
  unfold switchLocks
  split
  · unfold bit; rw [laserLocked_rd s k (by rw [h.1]; exact ⟨by decide, by decide, by decide, .inl (by decide), .inr h.2⟩)]
  · rfl

theorem switchLocks_event {j : Nat} (h : (s.word (.txo k) 0x00C).getLsbD j = true) :
    ((s.switchLocks k).word (.txo k) 0x00C).getLsbD j = true := by
  unfold switchLocks
  split
  · exact laserLocked_event s k h
  · exact h

theorem rxHold_txo {i : Nat} (hi : i < 0x1000) : (s.rxHold k).word (.txo k) i = s.word (.txo k) i := by
  unfold rxHold
  split
  · rfl
  · rw [count_word, wb, word_wr_ne _ (.rxe k) (.txo k) _ _ _ (by decide) hi (.inl nofun),
      word_wr_ne _ (.rxe k) (.txo k) _ _ _ (by decide) hi (.inl nofun)]

theorem rxHold_out : (s.rxHold k).out = s.out := by unfold rxHold; split <;> rfl

theorem rxHold_cars : (s.rxHold k).cars = s.cars := by unfold rxHold; split <;> rfl

variable {s k} in
theorem Frame.rxHold {v : State} {l : List (Page × Nat)} {ps : List StatePart} (h : Frame v s l ps) (hl : (Page.rxe k, 0x024) ∈ l)
    (hp : StatePart.ctr ∈ ps) : Frame v (s.rxHold k) l ps :=
  Frame.ite (fun _ => h) fun _ => ((h.wr (by decide) hl).wb (by decide) hl).count hp

/-- The frame of the switch: the laser's part of the carrier, the receiver that waits for it, the caddy's record. -/
theorem Frame.spareSwitch {v : State} (h : Frame v s ([(.cad, 0x00C), (.cad, 0x018), (.cad, CAD.CAD_LAST.POOL.off)] ++ engineRegs (.txo k))
    (.fresh :: engineParts (.txo k))) : Frame v (s.spareSwitch k)
      ([(.cad, 0x00C), (.cad, 0x018), (.cad, CAD.CAD_LAST.POOL.off)] ++ engineRegs (.txo k)) (.fresh :: engineParts (.txo k)) := by
  have hl : engineRegs (.txo k) ⊆ [(.cad, 0x00C), (.cad, 0x018), (.cad, CAD.CAD_LAST.POOL.off)] ++ engineRegs (.txo k) :=
    List.subset_append_right _ _
  have hcad : [((Page.cad : Page), 0x00C), (.cad, 0x018), (.cad, CAD.CAD_LAST.POOL.off)]
      ⊆ [(.cad, 0x00C), (.cad, 0x018), (.cad, CAD.CAD_LAST.POOL.off)] ++ engineRegs (.txo k) := List.subset_append_left _ _
  generalize [((Page.cad : Page), 0x00C), (.cad, 0x018), (.cad, CAD.CAD_LAST.POOL.off)] ++ engineRegs (.txo k) = l at h hl hcad
  have hp : engineParts (.txo k) ⊆ .fresh :: engineParts (.txo k) := List.subset_cons_self _ _
  have hparts : StatePart.fresh :: .cad :: eventParts ⊆ .fresh :: engineParts (.txo k) := by simp [engineParts, eventParts]
  have htxo {i : Nat} (hi : i ∈ [0x008, 0x00C, 0x020, 0x024, 0x02C, 0x048, 0x050, 0x054]) : (Page.txo k, i) ∈ l :=
    hl (txo_mem_engineRegs hi)
  by_cases hpend : s.bit (.txo k) TXO.TX_STATUS.SPARE_PENDING = true
  · rw [spareSwitch_eq hpend]
    have hswitched : Frame v (s.switched k) l (.fresh :: engineParts (.txo k)) :=
      ((h.wb (by decide) (htxo (by decide))).wb (by decide) (htxo (by decide))).updCar (hp (.head _))
    have hover : Frame v ((s.switched k).handOver k (s.bit (.txo k) TXO.TX_CTRL.LASER_SEL) (s.switchReason k)) l
        (.fresh :: engineParts (.txo k)) :=
      Frame.ite (fun _ => hswitched.substitute (List.Subset.trans (List.subset_cons_self _ _) hcad)
        (List.Subset.trans (List.subset_cons_self _ _) hparts)) fun _ =>
          hswitched.holdSpare k (hl (by rw [engineRegs_txo]; simp))
    have hshown := ((hover.emit (o := .opticalSwitch k)).raise (b := 6) (htxo (by decide)) (hparts (by decide)) (hparts (by decide))
      (hparts (by decide))).count (p := .txo k) (j := 3) (n := 1) (hparts (by decide))
    exact (Frame.drawBias (Frame.ite (fun _ => hshown.laserLocked hl hp) fun _ => hshown) (htxo (by decide)) (htxo (by decide))
      (hcad (.head _)) hparts).rxHold
      (hl (rxRegs_subset k (rxe_mem_rxRegs (by decide)))) (hparts (by decide))
  · have hnone : s.spareSwitch k = s := by
      unfold State.spareSwitch; exact if_pos (by simpa using hpend)
    rw [hnone]
    exact h

end

end Sys2Proof.Machine.State

namespace Sys2Proof.Machine

open Sys2Proof Reg

section
variable (s : State) (k : Fin 16)

theorem exec_outputEnableWrite (on : Bool) : exec (.outputEnableWrite k on) s = s.done fun t =>
    t.gateReg (.txo k) 0x020 (TXO.TX_CTRL.OUTPUT_EN.put (s.word (.txo k) 0x020) on.toNat)
      (State.effTxCtrl k (TXO.TX_CTRL.OUTPUT_EN.put (s.word (.txo k) 0x020) on.toNat)) := rfl
theorem exec_spareLaserRequest : exec (.spareLaserRequest k) s = s.done fun t =>
    t.gateReg (.txo k) 0x020 (TXO.TX_CTRL.LASER_SEL.put (s.word (.txo k) 0x020) true.toNat)
      (State.effTxCtrl k (TXO.TX_CTRL.LASER_SEL.put (s.word (.txo k) 0x020) true.toNat)) := rfl
theorem exec_spareLaserRelease : exec (.spareLaserRelease k) s = s.done fun t =>
    t.gateReg (.txo k) 0x020 (TXO.TX_CTRL.LASER_SEL.put (s.word (.txo k) 0x020) false.toNat)
      (State.effTxCtrl k (TXO.TX_CTRL.LASER_SEL.put (s.word (.txo k) 0x020) false.toNat)) := rfl
theorem exec_spareSwitch : exec (.spareSwitch k) s = s.done fun t => t.spareSwitch k := rfl

end

/-- The optical switch of a carrier whose switch is due. -/
theorem State.spareSwitch_shows (s : State) (k : Fin 16) (h : s.bit (.txo k) TXO.TX_STATUS.SPARE_PENDING = true) :
    let u := s.spareSwitch k
    u.bit (.txo k) TXO.TX_STATUS.SPARE_PENDING = false
    ∧ u.bit (.txo k) TXO.TX_STATUS.SPARE_IN_USE = s.bit (.txo k) TXO.TX_CTRL.LASER_SEL
    ∧ (u.car k).warming = false ∧ (u.car k).ownOn = !s.bit (.txo k) TXO.TX_CTRL.LASER_SEL ∧ Output.opticalSwitch k ∈ u.out
    ∧ (u.word (.txo k) 0x00C).getLsbD 6 = true := by
  intro u
  let sel := s.bit (.txo k) TXO.TX_CTRL.LASER_SEL
  let hand := (s.switched k).handOver k sel (s.switchReason k)
  have hu : u = (((hand.switchShown k).switchLocks k).drawBias k).rxHold k := spareSwitch_eq h
  have hstatus {g : Fld} (hg : g.off = 0x024 ∧ 1 ≤ g.lo) : u.bit (.txo k) g = (s.switched k).bit (.txo k) g := by
    have hlt : g.off < 0x1000 := by omega
    rw [hu, bit_of_word (rxHold_txo _ k hlt), bit_of_word (drawBias_txo _ k hlt (by omega)), switchLocks_bit _ k hg, switchShown,
      count_bit, bit_of_word (raise_txo _ k 6 ⟨hlt, by omega⟩), emit_bit, bit_of_word (handOver_txo _ k sel _ hlt)]
  have hlaser : LaserKept k (s.switched k) u := by
    have hshown : LaserKept k (s.switched k) (hand.switchShown k) := LaserKept.of_cars (u := s.switched k) ⟨rfl, rfl⟩ (by
      rw [switchShown, count_cars, raise_cars, emit_cars, handOver_cars])
    have hlocks := switchLocks_laser (hand.switchShown k) k
    exact hu ▸ LaserKept.of_cars (u := (hand.switchShown k).switchLocks k) ⟨hlocks.1.trans hshown.1, hlocks.2.trans hshown.2⟩
      ((rxHold_cars _ k).trans (drawBias_cars _ k))
  have hcar := car_updCar ((s.wb (.txo k) TXO.TX_STATUS.SPARE_PENDING false).wb (.txo k) TXO.TX_STATUS.SPARE_IN_USE sel) k
    fun c => { c with warming := false, ownOn := !sel }
  refine ⟨?_, ?_, hlaser.1.trans (congrArg Carrier.warming hcar), hlaser.2.trans (congrArg Carrier.ownOn hcar), ?_, ?_⟩
  · rw [hstatus (by decide), switched, updCar_bit, bit_wb_other _ _ _ _ _ (by decide)]
    exact bit_wb_same _ _ _ _ (by decide) (by decide)
  · rw [hstatus (by decide), switched, updCar_bit]
    exact bit_wb_same _ _ _ _ (by decide) (by decide)
  · rw [hu, rxHold_out, drawBias_out, switchLocks_out]
    exact switchShown_out _ k
  · rw [hu, rxHold_txo _ k (by decide)]
    exact drawBias_event _ k (switchLocks_event _ k (raise_bit _ nofun (by decide)))

namespace State
variable (s : State) (k : Fin 16) (v : Word)

theorem holdSpare_ctrlTaken_bit {g : Fld} (h : g.off < 0x1000 ∧ (g.off ≠ 0x020 ∨ (g.lo = 1 ∧ g.w = 1))) :
    ((s.holdSpare k true).ctrlTaken k v).bit (.txo k) g = s.bit (.txo k) g :=
  (ctrlTaken_bit _ _ _ h).trans (bit_of_word (holdSpare_txo s k true h.1))

theorem holdSpare_out (b : Bool) : (s.holdSpare k b).out = s.out := (wr_out _ _ _ _).trans (wr_out _ _ _ _)
theorem holdSpare_cars (b : Bool) : (s.holdSpare k b).cars = s.cars := (wr_cars _ _ _ _).trans (wr_cars _ _ _ _)
theorem ctrlTaken_out : (s.ctrlTaken k v).out = s.out := (wr_out _ _ _ _).trans (wr_out _ _ _ _)
theorem ctrlTaken_cars : (s.ctrlTaken k v).cars = s.cars := (wr_cars _ _ _ _).trans (wr_cars _ _ _ _)

/-- The registers of a request for a spare that is free. -/
theorem spareRequest_shows :
    let u := ((s.warms k true).holdSpare k true).ctrlTaken k v
    u.bit (.txo k) TXO.TX_CTRL.LASER_SEL = true ∧ u.bit (.txo k) TXO.TX_STATUS.SPARE_PENDING = true ∧ (u.car k).warming = true
    ∧ (u.rd .cad CAD.LASER_STATUS.SPARE_FREE).testBit (k.val / 4) = false ∧ u.out = s.out := by
  refine ⟨?_, ?_, ?_, ?_, ?_⟩
  · rw [holdSpare_ctrlTaken_bit _ _ _ (by decide), warms_sel]
  · rw [holdSpare_ctrlTaken_bit _ _ _ (by decide), warms_pending]
  · exact (congrArg Carrier.warming (car_of_cars k ((ctrlTaken_cars _ _ _).trans (holdSpare_cars _ k true)))).trans (warms_warming s k true)
  · rw [rd_of_word (ctrlTaken_cad _ _ _ (by decide)), holdSpare_free]
    rfl
  · rw [ctrlTaken_out, holdSpare_out, warms_out]

/-- The registers of a release of the spare that carries. -/
theorem spareRelease_shows :
    let u := (s.warms k false).ctrlTaken k v
    u.bit (.txo k) TXO.TX_CTRL.LASER_SEL = false ∧ u.bit (.txo k) TXO.TX_STATUS.SPARE_PENDING = true
    ∧ u.word .cad 0x040 = s.word .cad 0x040 ∧ u.out = s.out := by
  refine ⟨?_, ?_, ?_, ?_⟩
  · rw [ctrlTaken_bit _ _ _ (by decide), warms_sel]
  · rw [ctrlTaken_bit _ _ _ (by decide), warms_pending]
  · rw [ctrlTaken_cad _ _ _ (by decide), warms_cad _ _ _ (by decide)]
  · rw [ctrlTaken_out, warms_out]

end State

/-- Settles O24: TX_CTRL by what LASER_SEL asks for and which laser is in use, then the optical switch. -/
theorem spareLaser : Obligations.spareLaser := by
  intro s k on
  have hword : s.touch.silent.word (.txo k) 0x020 = s.word (.txo k) 0x020 := s.touch_word _ _
  have hbit (f : Fld) : s.touch.silent.bit (.txo k) f = s.bit (.txo k) f := s.touch_bit _ _
  have hpst : s.touch.silent.pst (.txo k) = s.pst (.txo k) := s.touch_rd _ _
  have hbusy : s.touch.silent.spareBusy k = s.spareBusy k := by
    have hmate (m : Fin 16) (f : Fld) : s.touch.silent.bit (.txo m) f = s.bit (.txo m) f := s.touch_bit _ _
    unfold State.spareBusy
    simp only [hmate]
  have hcad : s.touch.silent.word .cad 0x040 = s.word .cad 0x040 := s.touch_word _ _
  have hput (n : Nat) : TXO.TX_CTRL.LASER_SEL.get (TXO.TX_CTRL.LASER_SEL.put (s.word (.txo k) 0x020) n) = n % 2 :=
    Fld.get_put_same _ _ _ (by decide)
  have hask (b : Bool) : (TXO.TX_CTRL.LASER_SEL.get (TXO.TX_CTRL.LASER_SEL.put (s.word (.txo k) 0x020) b.toNat) == 1) = b := by
    rw [hput]
    cases b <;> rfl
  refine ⟨fun hacc hon => ?_, fun hacc hon hsel huse hpend hfree => ?_, fun hacc hsel huse hpend hheld => ?_,
    fun hacc hon hsel huse hpend => ?_, fun hpend => ?_, fun hpend => ?_⟩
  · refine answers_write _ (exec_outputEnableWrite s k on) (by decide) (by decide) hacc ?_
    have hkeeps : (TXO.TX_CTRL.LASER_SEL.get (TXO.TX_CTRL.OUTPUT_EN.put (s.word (.txo k) 0x020) on.toNat) == 1)
        = s.touch.silent.bit (.txo k) TXO.TX_CTRL.LASER_SEL := by
      rw [Fld.get_put_ne _ _ _ _ (by decide), Fld.get_eq_one _ rfl, hbit]
      rfl
    rw [State.effTxCtrl_keeps _ k hkeeps (by rw [hpst]; exact hon)]
    exact ⟨State.ctrlTaken_outputEnable _ k _ on hword, rfl, State.Frame.silent.ctrlTaken (.head _)⟩
  · refine answers_write _ (exec_spareLaserRequest s k) (by decide) (by decide) hacc ?_
    obtain ⟨c, hc⟩ := State.effTxCtrl_selects s.touch.silent k (hask true) ((hbit _).trans hsel) ((hbit _).trans huse)
      ((hbit _).trans hpend) (fun _ => hbusy.trans hfree) (by rw [hpst]; exact hon)
    rw [hc, if_pos rfl]
    obtain ⟨hasked, hwaits, hwarms, hheld, hout⟩ := State.spareRequest_shows ({ s.touch.silent with cad := c }) k
      (TXO.TX_CTRL.LASER_SEL.put (s.word (.txo k) 0x020) true.toNat)
    exact ⟨hasked, hwaits, hwarms, hheld, hout, (((State.Frame.silent.with_cad (by decide)).warms (.head _) (.tail _ (.head _))
      (by decide)).holdSpare k (.tail _ (.tail _ (.head _)))).ctrlTaken (.head _)⟩
  · refine answers_write _ (exec_spareLaserRequest s k) (by decide) (by decide) hacc ?_
    rw [State.effTxCtrl_busy _ k (hput true.toNat) ((hbit _).trans hsel) ((hbit _).trans huse) ((hbit _).trans hpend) (hbusy.trans hheld)]
    exact ⟨rfl, State.Frame.silent⟩
  · refine answers_write _ (exec_spareLaserRelease s k) (by decide) (by decide) hacc ?_
    obtain ⟨c, hc⟩ := State.effTxCtrl_selects s.touch.silent k (hask false) ((hbit _).trans hsel) ((hbit _).trans huse)
      ((hbit _).trans hpend) nofun (by rw [hpst]; exact hon)
    rw [hc, if_neg (by decide)]
    obtain ⟨hasked, hwaits, hpool, hout⟩ := State.spareRelease_shows ({ s.touch.silent with cad := c }) k
      (TXO.TX_CTRL.LASER_SEL.put (s.word (.txo k) 0x020) false.toNat)
    exact ⟨hasked, hwaits, hpool.trans ((State.with_cad_word _ _ _ _).trans hcad), hout,
      ((State.Frame.silent.with_cad (by decide)).warms (.head _) (.tail _ (.head _)) (by decide)).ctrlTaken (.head _)⟩
  · refine answers_done _ (exec_spareSwitch s k) ?_
    obtain ⟨hdone, huse, hwarming, hown, hout, hevent⟩ := State.spareSwitch_shows s.silent k hpend
    exact ⟨hdone, huse, hwarming, hown, hout, hevent, State.Frame.spareSwitch _ k State.Frame.silent⟩
  · refine answers_done _ (exec_spareSwitch s k) ?_
    have hnone : s.silent.spareSwitch k = s.silent := by
      unfold State.spareSwitch; exact if_pos (by simp [hpend])
    rw [hnone]
    exact ⟨rfl, State.Frame.silent⟩

end Sys2Proof.Machine
end
section
/-! PROOFS. The coefficient store of a transmitter: what a word of each bank reads after a write, a fill and a change of the banks
(R77, R79-R82). Settles O25. -/
namespace Sys2Proof.Machine.State

open Sys2Proof Reg

section
variable {s u : State} {k : Fin 16} {l : List (Page × Nat)} {ps : List StatePart}

/-! ## The banks of a carrier -/

theorem coefBank_setCoefBank_same (c : Carrier) (b : Bool) (m : SMap (Option (BitVec 16))) : coefBank (setCoefBank c b m) b = m := by
  cases b <;> rfl

theorem coefBank_setCoefBank_other (c : Carrier) (b : Bool) (m : SMap (Option (BitVec 16))) :
    coefBank (setCoefBank c (!b) m) b = coefBank c b := by
  cases b <;> rfl

theorem coefWord_eq (s : State) (k : Fin 16) (b : Bool) (t i : Nat) :
    s.coefWord k b t i = ((coefBank (s.car k) b).get (fun _ => none) (1024 * t + i)).getD (coefFactory k t i) := by
  unfold coefWord
  cases (coefBank (s.car k) b).get (fun _ => none) (1024 * t + i) <;> rfl

/-- A bank's words are those of its map. -/
theorem coefWord_of_bank {b b' : Bool} (h : coefBank (u.car k) b = coefBank (s.car k) b') (t i : Nat) :
    u.coefWord k b t i = s.coefWord k b' t i := by
  rw [coefWord_eq, coefWord_eq, h]

/-! ## COEF_DATA (R81) -/

variable (s k) in
theorem coefStep_cars : (s.coefStep k).cars = s.cars := by
  unfold coefStep
  extract_lets p
  split
  · exact wr_cars _ _ _ _
  · rfl

variable (s k) in
theorem coefStep_out : (s.coefStep k).out = s.out := by
  unfold coefStep
  extract_lets p
  split
  · exact wr_out _ _ _ _
  · rfl

variable (s k) in
theorem coefStep_index : (s.coefStep k).rd (.txo k) TXO.COEF_ADDR.INDEX = if s.bit (.txo k) TXO.COEF_ADDR.AUTO_INC
    then (s.rd (.txo k) TXO.COEF_ADDR.INDEX + 1) % 2 ^ TXO.COEF_ADDR.INDEX.w else s.rd (.txo k) TXO.COEF_ADDR.INDEX := by
  unfold coefStep
  extract_lets p
  split
  · exact rd_wr_same _ _ _ _ (by decide)
  · rfl

theorem Frame.coefStep (h : Frame s u l ps) (hl : (Page.txo k, 0x040) ∈ l) : Frame s (u.coefStep k) l ps :=
  Frame.ite (fun _ => h.wr (by decide) hl) fun _ => h

variable (s k) in
/-- The word of the shadow bank at t, i written. -/
def coefStored (t i : Nat) (w : BitVec 16) : State :=
  (s.updCar k fun c => setCoefBank c (!s.coefActive k) ((coefBank c (!s.coefActive k)).set (fun _ => none) (1024 * t + i) (some w))).protect
    (.txo k) t (coefIdx (!s.coefActive k) t i)

theorem coefStored_car (t i : Nat) (w : BitVec 16) : (s.coefStored k t i w).car k = setCoefBank (s.car k) (!s.coefActive k)
    ((coefBank (s.car k) (!s.coefActive k)).set (fun _ => none) (1024 * t + i) (some w)) := by
  unfold coefStored
  rw [car_of_cars k (protect_cars _ _ _ _), car_updCar]

theorem coefStored_word (t i : Nat) (w : BitVec 16) {j : Nat} (h : j < 0x1000 ∧ j ≠ 0x018) :
    (s.coefStored k t i w).word (.txo k) j = s.word (.txo k) j := by
  unfold coefStored
  rw [protect_word _ _ _ _ _ _ h.1 (.inr h.2), updCar_word]

theorem effCoefData_stores {v : Word} (hpend : s.bit (.txo k) TXO.COEF_CTRL.PENDING = false)
    (hhas : coefHas (s.rd (.txo k) TXO.COEF_ADDR.TABLE) (s.rd (.txo k) TXO.COEF_ADDR.INDEX) = true) :
    effCoefData k v s = (s.coefStored k (s.rd (.txo k) TXO.COEF_ADDR.TABLE) (s.rd (.txo k) TXO.COEF_ADDR.INDEX)
      (BitVec.ofNat 16 (if s.rd (.txo k) TXO.COEF_ADDR.TABLE = 1 then v.toNat % 256 else v.toNat))).coefStep k := by
  unfold effCoefData
  simp only [hpend, hhas]
  rfl

theorem effCoefData_refused {v : Word} (hpend : s.bit (.txo k) TXO.COEF_CTRL.PENDING = true) :
    effCoefData k v s = s.wb (.txo k) TXO.COEF_CTRL.REJECT true := by
  unfold effCoefData
  exact if_pos hpend

/-! ## A bank filled as a whole (R81) -/

theorem Frame.foldl {α : Type} {f : State → α → State} (xs : List α) (h : Frame s u l ps)
    (hf : ∀ v x, Frame s v l ps → Frame s (f v x) l ps) : Frame s (xs.foldl f u) l ps :=
  List.foldlRecOn xs f h fun v hv x _ => hf v x hv

variable (s k) in
/-- The damage of the shadow bank is gone. -/
def coefHealed : State := (s.coefDamaged k (!s.coefActive k)).foldl (fun v x =>
  { v with damage := v.damage.set (fun _ => 0) (damageKey (.txo k) x.1 (coefIdx (!s.coefActive k) x.1 x.2)) 0 }) s

variable (k) in
/-- The shadow bank holds a map. -/
def withShadow (v : State) (b : Bool) (m : SMap (Option (BitVec 16))) : State := v.updCar k fun c => setCoefBank c b m

variable (s k) in
theorem coefHealed_frame : Frame s (s.coefHealed k) [] [.damage] :=
  Frame.refl.foldl _ fun _ _ h => h.with_damage (.head _)

theorem coefFill_frame (m : SMap (Option (BitVec 16))) : Frame (withShadow k (s.coefHealed k) (!s.coefActive k) m) (s.coefFill k m)
    [(.txo k, 0x018)] [.damage] :=
  Frame.refl.foldl _ fun _ _ h => h.protect (.head _) (.head _)

theorem coefFill_car (m : SMap (Option (BitVec 16))) : (s.coefFill k m).car k = setCoefBank (s.car k) (!s.coefActive k) m := by
  rw [car_of_cars k ((coefFill_frame m).same .cars (by decide)), withShadow, car_updCar,
    car_of_cars k ((coefHealed_frame s k).same .cars (by decide))]

theorem Frame.coefFill {m : SMap (Option (BitVec 16))} (h : Frame s u l ps) (hl : (Page.txo k, 0x018) ∈ l) (hc : StatePart.cars ∈ ps)
    (hd : StatePart.damage ∈ ps) : Frame s (u.coefFill k m) l ps :=
  have hhealed : Frame s (u.coefHealed k) l ps := h.foldl _ fun _ _ h => h.with_damage hd
  (hhealed.updCar hc).foldl _ fun _ _ h => h.protect hl hd

/-! ## COEF_CTRL (R81, R82) -/

variable (s k) in
/-- The tap counts taken, REJECT clear. -/
def tapsTaken (v : Word) : State :=
  ((s.wb (.txo k) TXO.COEF_CTRL.REJECT false).wr (.txo k) TXO.COEF_CTRL.PF_TAPS (TXO.COEF_CTRL.PF_TAPS.get v)).wr (.txo k)
    TXO.COEF_CTRL.PE_TAPS (TXO.COEF_CTRL.PE_TAPS.get v)

/-- Tap counts that a transmitter accepts (R81). -/
def tapsInRange (v : Word) : Prop := 8 ≤ TXO.COEF_CTRL.PF_TAPS.get v ∧ TXO.COEF_CTRL.PF_TAPS.get v ≤ 64 ∧ TXO.COEF_CTRL.PE_TAPS.get v ≠ 0

section
variable {v : Word}

theorem tapsTaken_word {p : Page} {i : Nat} (h : i < 0x1000 ∧ (p ≠ .txo k ∨ i ≠ 0x048)) : (s.tapsTaken k v).word p i = s.word p i := by
  unfold tapsTaken
  rw [word_wr_ne _ _ _ _ _ _ (by decide) h.1 h.2, word_wr_ne _ _ _ _ _ _ (by decide) h.1 h.2, wb, word_wr_ne _ _ _ _ _ _ (by decide) h.1 h.2]

/-- Bits 0-5 of COEF_CTRL are not written with the tap counts. -/
theorem tapsTaken_bit {g : Fld} (h : g.off < 0x1000 ∧ g.lo + g.w ≤ 6) : (s.tapsTaken k v).bit (.txo k) g = s.bit (.txo k) g := by
  unfold tapsTaken
  rw [bit_wr_other _ _ _ _ _ ⟨by decide, h.1, .inr (.inr (by show _ ≤ 16; omega))⟩,
    bit_wr_other _ _ _ _ _ ⟨by decide, h.1, .inr (.inr (by show _ ≤ 8; omega))⟩,
    bit_wb_other _ _ _ _ _ ⟨by decide, h.1, .inr (.inr (by show _ ≤ 6; omega))⟩]

variable (s k v) in
theorem tapsTaken_reject : (s.tapsTaken k v).bit (.txo k) TXO.COEF_CTRL.REJECT = false := by
  unfold tapsTaken
  rw [bit_wr_other _ _ _ _ _ (by decide), bit_wr_other _ _ _ _ _ (by decide)]
  exact bit_wb_same _ _ _ _ (by decide) (by decide)

variable (s k v) in
theorem tapsTaken_pf : (s.tapsTaken k v).rd (.txo k) TXO.COEF_CTRL.PF_TAPS = TXO.COEF_CTRL.PF_TAPS.get v := by
  unfold tapsTaken
  rw [rd_wr_other _ _ _ _ _ (by decide), rd_wr_same _ _ _ _ (by decide)]
  exact Nat.mod_eq_of_lt (get_lt _ _)

variable (s k v) in
theorem tapsTaken_pe : (s.tapsTaken k v).rd (.txo k) TXO.COEF_CTRL.PE_TAPS = TXO.COEF_CTRL.PE_TAPS.get v := by
  unfold tapsTaken
  rw [rd_wr_same _ _ _ _ (by decide)]
  exact Nat.mod_eq_of_lt (get_lt _ _)

variable (s k v) in
theorem tapsTaken_active : (s.tapsTaken k v).coefActive k = s.coefActive k := tapsTaken_bit (by decide)

theorem Frame.tapsTaken (h : Frame s u l ps) (hl : (Page.txo k, 0x048) ∈ l) : Frame s (u.tapsTaken k v) l ps :=
  ((h.wb (by decide) hl).wr (by decide) hl).wr (by decide) hl

theorem effCoefCtrl_refused (hpend : s.bit (.txo k) TXO.COEF_CTRL.PENDING = true) (hcommit : TXO.COEF_CTRL.COMMIT.get v = 1) :
    effCoefCtrl k v s = s.wb (.txo k) TXO.COEF_CTRL.REJECT true := by
  unfold effCoefCtrl
  exact if_pos (by simp [hpend, hcommit])

theorem effCoefCtrl_commits (hpend : s.bit (.txo k) TXO.COEF_CTRL.PENDING = false) (hin : tapsInRange v)
    (hcommit : TXO.COEF_CTRL.COMMIT.get v = 1) (hcopy : TXO.COEF_CTRL.COPY.get v = 0) (hfactory : TXO.COEF_CTRL.FACTORY.get v = 0) :
    effCoefCtrl k v s = if s.pst (.txo k) = 0 then (s.tapsTaken k v).coefExchange k
      else (s.tapsTaken k v).wb (.txo k) TXO.COEF_CTRL.PENDING true := by
  obtain ⟨hlow, hhigh, hpe⟩ := hin
  have hpst : (s.tapsTaken k v).pst (.txo k) = s.pst (.txo k) := rd_of_word (tapsTaken_word ⟨by decide, .inr (by decide)⟩)
  unfold effCoefCtrl
  extract_lets p pf pe commit copy factory s1 x s2 s3
  have h2 : s2 = s.tapsTaken k v := if_neg (by simp [copy, hcopy])
  have h3 : s3 = s2 := if_neg (by simp [factory, hfactory])
  rw [if_neg (by simp [pf, pe, p, hpend]; omega), if_pos (by simp [commit, hcommit]), h3, h2, hpst]

theorem effCoefCtrl_factory (hpend : s.bit (.txo k) TXO.COEF_CTRL.PENDING = false) (hin : tapsInRange v)
    (hcommit : TXO.COEF_CTRL.COMMIT.get v = 0) (hcopy : TXO.COEF_CTRL.COPY.get v = 0) (hfactory : TXO.COEF_CTRL.FACTORY.get v = 1) :
    effCoefCtrl k v s = (s.tapsTaken k v).coefFill k [] := by
  obtain ⟨hlow, hhigh, hpe⟩ := hin
  unfold effCoefCtrl
  extract_lets p pf pe commit copy factory s1 x s2 s3
  have h2 : s2 = s.tapsTaken k v := if_neg (by simp [copy, hcopy])
  rw [if_neg (by simp [pf, pe, p, hpend]; omega), if_neg (by simp [commit, hcommit]), ← h2]
  exact if_pos (by simp [factory, hfactory])

/-- COPY where no word of the active bank is damaged. -/
theorem effCoefCtrl_copy (hpend : s.bit (.txo k) TXO.COEF_CTRL.PENDING = false) (hin : tapsInRange v)
    (hcommit : TXO.COEF_CTRL.COMMIT.get v = 0) (hcopy : TXO.COEF_CTRL.COPY.get v = 1) (hfactory : TXO.COEF_CTRL.FACTORY.get v = 0)
    (hsound : s.coefDamaged k (s.coefActive k) = []) :
    effCoefCtrl k v s = (s.tapsTaken k v).coefFill k (coefBank (s.car k) (s.coefActive k)) := by
  obtain ⟨hlow, hhigh, hpe⟩ := hin
  have hcopied : (s.tapsTaken k v).coefCopied k = (s.tapsTaken k v, coefBank (s.car k) (s.coefActive k)) := by
    have hnone : (s.tapsTaken k v).coefDamaged k (s.coefActive k) = [] := hsound
    unfold coefCopied
    rw [tapsTaken_active]
    dsimp only
    rw [hnone]
    rfl
  unfold effCoefCtrl
  extract_lets p pf pe commit copy factory s1 x s2 s3
  have hx : x = (s.tapsTaken k v, coefBank (s.car k) (s.coefActive k)) := hcopied
  have h3 : s3 = s2 := if_neg (by simp [factory, hfactory])
  rw [if_neg (by simp [pf, pe, p, hpend]; omega), if_neg (by simp [commit, hcommit]), h3]
  refine (if_pos (by simp [copy, hcopy])).trans ?_
  rw [hx]

end

/-! ## The banks change places (R81) -/

variable (s k) in
/-- The other bank is the active one, and no COMMIT is pending. -/
def banksTurned : State :=
  (s.wb (.txo k) TXO.COEF_CTRL.ACTIVE_BANK (!s.coefActive k)).wb (.txo k) TXO.COEF_CTRL.PENDING false

variable (s k) in
theorem coefExchange_word {i : Nat} (h : i < 0x1000 ∧ i ≠ 0x00C) : (s.coefExchange k).word (.txo k) i = (s.banksTurned k).word (.txo k) i := by
  unfold coefExchange
  extract_lets p b s1 ue pf pe
  rw [count_word, raise_txo _ _ _ h, updCar_word]
  rfl

variable (s k) in
theorem coefExchange_active : (s.coefExchange k).coefActive k = !s.coefActive k := by
  refine (bit_of_word (coefExchange_word s k (by decide))).trans ((bit_wb_other _ _ _ _ _ (by decide)).trans ?_)
  exact bit_wb_same _ _ _ _ (by decide) (by decide)

variable (s k) in
theorem coefExchange_pending : (s.coefExchange k).bit (.txo k) TXO.COEF_CTRL.PENDING = false :=
  (bit_of_word (coefExchange_word s k (by decide))).trans (bit_wb_same _ _ _ _ (by decide) (by decide))

variable (s k) in
theorem coefExchange_event : ((s.coefExchange k).word (.txo k) 0x00C).getLsbD 5 = true := by
  unfold coefExchange
  extract_lets p b s1 ue pf pe
  rw [count_word]
  exact raise_bit _ nofun (by decide)

variable (s k) in
theorem coefExchange_taps : ((s.coefExchange k).car k).pfTaps = s.rd (.txo k) TXO.COEF_CTRL.PF_TAPS
    ∧ ((s.coefExchange k).car k).peTaps = s.rd (.txo k) TXO.COEF_CTRL.PE_TAPS := by
  unfold coefExchange
  extract_lets p b s1 ue pf pe
  have hpf : pf = s.rd p TXO.COEF_CTRL.PF_TAPS := (rd_wb_other _ _ _ _ _ (by decide)).trans (rd_wb_other _ _ _ _ _ (by decide))
  have hpe : pe = s.rd p TXO.COEF_CTRL.PE_TAPS := (rd_wb_other _ _ _ _ _ (by decide)).trans (rd_wb_other _ _ _ _ _ (by decide))
  have hcar := car_updCar s1 k fun c => { c with pfTaps := pf, peTaps := pe, coefUe := ue }
  rw [car_of_cars k ((count_cars _ _ _ _).trans (raise_cars _ _ _)), hcar]
  exact ⟨hpf, hpe⟩

theorem Frame.coefExchange (h : Frame s u l ps) (hctrl : (Page.txo k, 0x048) ∈ l) (hevent : (Page.txo k, 0x00C) ∈ l)
    (hp : StatePart.cars :: eventParts ⊆ ps) : Frame s (u.coefExchange k) l ps := by
  unfold State.coefExchange
  extract_lets p b s1 ue pf pe
  have h1 : Frame s s1 l ps := (h.wb (by decide) hctrl).wb (by decide) hctrl
  exact ((h1.updCar (hp (by decide))).raise hevent (hp (by decide)) (hp (by decide)) (hp (by decide))).count (hp (by decide))

end

end Sys2Proof.Machine.State

namespace Sys2Proof.Machine

open Sys2Proof Reg

section
variable (s : State) (k : Fin 16) (v : Word)

theorem exec_coefDataWrite : exec (.coefDataWrite k v) s = s.done fun t => t.gateReg (.txo k) 0x044 v (State.effCoefData k v) := rfl
theorem exec_coefCommit : exec (.coefCommit k v) s = s.done fun t =>
    t.gateReg (.txo k) 0x048 (TXO.COEF_CTRL.COMMIT.put v 1) (State.effCoefCtrl k (TXO.COEF_CTRL.COMMIT.put v 1)) := rfl
theorem exec_coefCopy : exec (.coefCopy k) s = s.done fun t =>
    t.gateReg (.txo k) 0x048 (TXO.COEF_CTRL.COPY.put (s.word (.txo k) 0x048) 1)
      (State.effCoefCtrl k (TXO.COEF_CTRL.COPY.put (s.word (.txo k) 0x048) 1)) := rfl
theorem exec_coefFactory : exec (.coefFactory k) s = s.done fun t =>
    t.gateReg (.txo k) 0x048 (TXO.COEF_CTRL.FACTORY.put (s.word (.txo k) 0x048) 1)
      (State.effCoefCtrl k (TXO.COEF_CTRL.FACTORY.put (s.word (.txo k) 0x048) 1)) := rfl

end

/-- A commit whose tap counts are in range, alone. -/
theorem commit_fields {v : Word} (hcopy : TXO.COEF_CTRL.COPY.get v = 0) (hfactory : TXO.COEF_CTRL.FACTORY.get v = 0) :
    let w := TXO.COEF_CTRL.COMMIT.put v 1
    TXO.COEF_CTRL.COMMIT.get w = 1 ∧ TXO.COEF_CTRL.COPY.get w = 0 ∧ TXO.COEF_CTRL.FACTORY.get w = 0 :=
  ⟨Fld.get_put_same _ _ _ (by decide), (Fld.get_put_ne _ _ _ _ (by decide)).trans hcopy, (Fld.get_put_ne _ _ _ _ (by decide)).trans hfactory⟩

/-- A command in bits 0-2 of COEF_CTRL leaves the tap counts. -/
theorem taps_put {f : Fld} (w : Word) (hf : f.lo + f.w ≤ 8) : TXO.COEF_CTRL.PF_TAPS.get (f.put w 1) = TXO.COEF_CTRL.PF_TAPS.get w
    ∧ TXO.COEF_CTRL.PE_TAPS.get (f.put w 1) = TXO.COEF_CTRL.PE_TAPS.get w :=
  ⟨Fld.get_put_ne _ _ _ _ (.inl hf), Fld.get_put_ne _ _ _ _ (.inl (by show _ ≤ 16; omega))⟩

theorem tapsInRange_put {f : Fld} {w : Word} (hf : f.lo + f.w ≤ 8) (h : State.tapsInRange w) : State.tapsInRange (f.put w 1) := by
  obtain ⟨hpf, hpe⟩ := taps_put w hf
  unfold State.tapsInRange
  rw [hpf, hpe]
  exact h

/-- What a bank filled as a whole reads, and the other bank. -/
theorem State.coefFill_banks {s t : State} {k : Fin 16} (m : SMap (Option (BitVec 16))) (hactive : t.coefActive k = s.coefActive k)
    (hcar : t.car k = s.car k) :
    State.coefBank ((t.coefFill k m).car k) (!s.coefActive k) = m
    ∧ State.coefBank ((t.coefFill k m).car k) (s.coefActive k) = State.coefBank (s.car k) (s.coefActive k) := by
  rw [State.coefFill_car, hactive, hcar]
  exact ⟨State.coefBank_setCoefBank_same _ _ _, State.coefBank_setCoefBank_other _ _ _⟩

/-- Settles O25: COEF_DATA to the shadow bank, and COEF_CTRL by the command that it is given. -/
theorem coefficientStore : Obligations.coefficientStore := by
  intro s k v
  have hrd (f : Fld) : s.touch.silent.rd (.txo k) f = s.rd (.txo k) f := s.touch_rd _ _
  have hbit (f : Fld) : s.touch.silent.bit (.txo k) f = s.bit (.txo k) f := s.touch_bit _ _
  have hctrl : s.touch.silent.word (.txo k) 0x048 = s.word (.txo k) 0x048 := s.touch_word _ _
  have hpst : s.touch.silent.pst (.txo k) = s.pst (.txo k) := hrd _
  have hactive : s.touch.silent.coefActive k = s.coefActive k := hbit _
  have hcar : s.touch.silent.car k = s.car k := State.car_of_cars k (s.touch_frame.same .cars (by decide))
  have hdamage : s.touch.silent.damage = s.damage := s.touch_frame.same .damage (by decide)
  have hdamaged (b : Bool) : s.touch.silent.coefDamaged k b = s.coefDamaged k b := by unfold State.coefDamaged; rw [hdamage]
  have htakenCar (w : Word) : (s.touch.silent.tapsTaken k w).car k = s.car k := hcar
  have htakenActive (w : Word) : (s.touch.silent.tapsTaken k w).coefActive k = s.coefActive k :=
    (State.tapsTaken_active _ k w).trans hactive
  refine ⟨fun hacc hpend hhas => ?_, fun hacc hpend => ?_, fun hacc hpend => ?_, fun hacc hpend htaps hon hcopy hfactory => ?_,
    fun hacc hpend htaps hoff hcopy hfactory => ?_, fun hacc hpend hcommit hcopy hlow hhigh hpe => ?_,
    fun hacc hpend hcommit hfactory hlow hhigh hpe hsound => ?_⟩
  · refine answers_write _ (exec_coefDataWrite s k v) (by decide) (by decide) hacc ?_
    rw [State.effCoefData_stores ((hbit _).trans hpend) (by rw [hrd, hrd]; exact hhas), hrd, hrd]
    refine ⟨?_, fun t' i' => State.coefWord_of_bank ?_ t' i', ?_, ?_,
      ((State.Frame.silent.updCar (.head _)).protect (.head _) (.tail _ (.head _))).coefStep (.tail _ (.head _))⟩
    · rw [State.coefWord_eq, State.car_of_cars k (State.coefStep_cars _ k), State.coefStored_car, hactive, State.coefBank_setCoefBank_same,
        SMap.get_set_same]
      rfl
    · rw [State.car_of_cars k (State.coefStep_cars _ k), State.coefStored_car, hactive, State.coefBank_setCoefBank_other, hcar]
    · rw [State.coefStep_index, State.bit_of_word (State.coefStored_word _ _ _ (by decide)),
        State.rd_of_word (State.coefStored_word _ _ _ (by decide)), hbit, hrd]
    · rw [State.coefStep_out]
      exact State.protect_out _ _ _ _
  · refine answers_write _ (exec_coefDataWrite s k v) (by decide) (by decide) hacc ?_
    rw [State.effCoefData_refused ((hbit _).trans hpend), ← hctrl]
    exact ⟨State.word_wr_same _ _ _ _, rfl, State.Frame.silent.wb (by decide) (.head _)⟩
  · refine answers_write _ (exec_coefCommit s k v) (by decide) (by decide) hacc ?_
    rw [State.effCoefCtrl_refused ((hbit _).trans hpend) (Fld.get_put_same _ _ _ (by decide)), ← hctrl]
    exact ⟨State.word_wr_same _ _ _ _, rfl, State.Frame.silent.wb (by decide) (.head _)⟩
  · obtain ⟨hasks, hcopy', hfactory'⟩ := commit_fields hcopy hfactory
    obtain ⟨hpf, hpe⟩ := taps_put (f := TXO.COEF_CTRL.COMMIT) v (by decide)
    refine answers_write _ (exec_coefCommit s k v) (by decide) (by decide) hacc ?_
    rw [State.effCoefCtrl_commits ((hbit _).trans hpend) (tapsInRange_put (by decide) htaps) hasks hcopy' hfactory',
      hpst, if_neg hon]
    refine ⟨State.bit_wb_same _ _ _ _ (by decide) (by decide), ?_, ?_, ?_, rfl, (State.Frame.silent.tapsTaken (.head _)).wb (by decide) (.head _)⟩
    · rw [State.bit_wb_other _ _ _ _ _ (by decide), State.tapsTaken_reject]
    · rw [State.rd_wb_other _ _ _ _ _ (by decide), State.tapsTaken_pf, hpf]
    · rw [State.rd_wb_other _ _ _ _ _ (by decide), State.tapsTaken_pe, hpe]
  · obtain ⟨hasks, hcopy', hfactory'⟩ := commit_fields hcopy hfactory
    obtain ⟨hpf, hpe⟩ := taps_put (f := TXO.COEF_CTRL.COMMIT) v (by decide)
    refine answers_write _ (exec_coefCommit s k v) (by decide) (by decide) hacc ?_
    rw [State.effCoefCtrl_commits ((hbit _).trans hpend) (tapsInRange_put (by decide) htaps) hasks hcopy' hfactory',
      hpst, if_pos hoff]
    obtain ⟨hpfNow, hpeNow⟩ := State.coefExchange_taps (s.touch.silent.tapsTaken k (TXO.COEF_CTRL.COMMIT.put v 1)) k
    refine ⟨?_, State.coefExchange_pending _ k, State.coefExchange_event _ k, ?_, ?_,
      (State.Frame.silent.tapsTaken (.head _)).coefExchange (.head _) (.tail _ (.head _)) (by decide)⟩
    · rw [State.coefExchange_active, htakenActive]
    · rw [hpfNow, State.tapsTaken_pf, hpf]
    · rw [hpeNow, State.tapsTaken_pe, hpe]
  · have htaps : State.tapsInRange (s.word (.txo k) 0x048) := ⟨hlow, hhigh, hpe⟩
    refine answers_write _ (exec_coefFactory s k) (by decide) (by decide) hacc ?_
    rw [State.effCoefCtrl_factory ((hbit _).trans hpend) (tapsInRange_put (by decide) htaps)
      ((Fld.get_put_ne _ _ _ _ (by decide)).trans hcommit) ((Fld.get_put_ne _ _ _ _ (by decide)).trans hcopy)
      (Fld.get_put_same _ _ _ (by decide))]
    obtain ⟨hshadow, hother⟩ := State.coefFill_banks [] (htakenActive _) (htakenCar _)
    refine ⟨fun t' i' => ?_, State.coefWord_of_bank hother,
      (State.Frame.silent.tapsTaken (.tail _ (.head _))).coefFill (.head _) (.head _) (.tail _ (.head _))⟩
    rw [State.coefWord_eq, hshadow]
    rfl
  · have htaps : State.tapsInRange (s.word (.txo k) 0x048) := ⟨hlow, hhigh, hpe⟩
    refine answers_write _ (exec_coefCopy s k) (by decide) (by decide) hacc ?_
    rw [State.effCoefCtrl_copy ((hbit _).trans hpend) (tapsInRange_put (by decide) htaps)
      ((Fld.get_put_ne _ _ _ _ (by decide)).trans hcommit) (Fld.get_put_same _ _ _ (by decide))
      ((Fld.get_put_ne _ _ _ _ (by decide)).trans hfactory) (by rw [hactive, hdamaged]; exact hsound), hactive, hcar]
    obtain ⟨hshadow, hother⟩ := State.coefFill_banks (State.coefBank (s.car k) (s.coefActive k)) (htakenActive _) (htakenCar _)
    exact ⟨State.coefWord_of_bank hshadow, State.coefWord_of_bank hother,
      (State.Frame.silent.tapsTaken (.tail _ (.head _))).coefFill (.head _) (.head _) (.tail _ (.head _))⟩

end Sys2Proof.Machine
end
section
/-! PROOFS. What follows every command puts no frame on a fibre and takes none away (State.settle, stage by stage); a transmitter that
is HELD at the frame boundary sends none (R37, R38, R163). Refutes O35. -/
namespace Sys2Proof.Machine.State

open Sys2Proof Reg

/-- A frame of the native mode on the fibre. -/
def sentLine : Output → Bool
  | .lineFrame .. => true
  | _ => false

/-- The frames that a state has put on the fibres. -/
def lines (s : State) : List Output := s.out.filter sentLine

/-- Two states have put the same frames on the fibres. -/
def SameLines (v u : State) : Prop := u.lines = v.lines

section
variable {v u w : State} {k : Fin 16} {p : Page} {i j n b : Nat} {f : Fld}

/-! ## The state's operations -/

theorem SameLines.refl : SameLines v v := rfl

theorem SameLines.of_out (h : SameLines v u) (e : w.out = u.out) : SameLines v w := by
  unfold SameLines lines
  rw [e]
  exact h

/-- Outputs that are no frames of the native mode. -/
theorem SameLines.sends (h : SameLines v u) {l : List Output} (e : w.out = u.out ++ l) (hl : ∀ o ∈ l, sentLine o = false) :
    SameLines v w := by
  have hnone : l.filter sentLine = [] := List.filter_eq_nil_iff.2 fun o ho => by simp [hl o ho]
  unfold SameLines lines
  rw [e, List.filter_append, hnone, List.append_nil]
  exact h

theorem SameLines.emit {o : Output} (h : SameLines v u) (ho : sentLine o = false) : SameLines v (u.emit o) :=
  h.sends rfl fun _ hx => List.mem_singleton.1 hx ▸ ho

theorem SameLines.ite {c : Prop} [Decidable c] {x y : State} (hx : SameLines v x) (hy : SameLines v y) : SameLines v (if c then x else y) := by
  split
  · exact hx
  · exact hy

theorem SameLines.foldl {α : Type} {g : State → α → State} (l : List α) (h : SameLines v u)
    (hg : ∀ u a, SameLines v u → SameLines v (g u a)) : SameLines v (l.foldl g u) :=
  List.foldlRecOn l g h fun u hu a _ => hg u a hu

theorem SameLines.wr (h : SameLines v u) : SameLines v (u.wr p f n) := h.of_out (wr_out _ _ _ _)
theorem SameLines.setWord {x : Word} (h : SameLines v u) : SameLines v (u.setWord p i x) := h.of_out (setWord_out _ _ _ _)
theorem SameLines.count (h : SameLines v u) : SameLines v (u.count p j n) := h.of_out (count_out _ _ _ _)
theorem SameLines.countS (h : SameLines v u) : SameLines v (u.countS p j n) := h.of_out (countS_out _ _ _ _)
theorem SameLines.raise (h : SameLines v u) : SameLines v (u.raise p b) := h.of_out (raise_out _ _ _)
theorem SameLines.raiseIf {c : Bool} (h : SameLines v u) : SameLines v (u.raiseIf c p b) := h.of_out (raiseIf_out _ _ _ _)
theorem SameLines.setCar {c : Carrier} (h : SameLines v u) : SameLines v (u.setCar k c) := h.of_out (setCar_out _ _ _)
theorem SameLines.updCar {g : Carrier → Carrier} (h : SameLines v u) : SameLines v (u.updCar k g) := h.of_out (updCar_out _ _ _)
theorem SameLines.updTm {g : Tm → Tm} (h : SameLines v u) : SameLines v (u.updTm g) := h.of_out (updTm_out _ _)
theorem SameLines.updCad {g : Cad → Cad} (h : SameLines v u) : SameLines v (u.updCad g) := h.of_out (updCad_out _ _)

/-! ## Carriers -/

theorem SameLines.followRun {why : Bool} (h : SameLines v u) : SameLines v (u.followRun p why) :=
  SameLines.ite (SameLines.ite h h.wr) h

theorem SameLines.refec (h : SameLines v u) : SameLines v (u.refec k) := by
  unfold State.refec
  extract_lets p g i was lim s1 s2 s3
  have h1 : SameLines v s1 := SameLines.ite h h.wr.count
  have h3 : SameLines v s3 := h1.wr.wr.wr
  exact h3.raiseIf.raiseIf

theorem SameLines.reblock (h : SameLines v u) : SameLines v (u.reblock k) := h.wr.wr

theorem SameLines.restate (h : SameLines v u) : SameLines v (u.restate k) := by
  rw [restate_eq]
  exact h.followRun.followRun.followRun.followRun

theorem SameLines.relight (h : SameLines v u) : SameLines v (u.relight k) :=
  SameLines.ite h.setCar.wr (SameLines.ite h.setCar.wr.wr h)

theorem SameLines.countDefects {on : Nat} (h : SameLines v u) : SameLines v (u.countDefects k on) :=
  h.foldl _ fun _ _ hu => SameLines.ite hu.count hu

theorem SameLines.recsc (h : SameLines v u) : SameLines v (u.recsc k) := by
  unfold State.recsc
  extract_lets s1 s2 s3 s4 s5 c s6 old new on off sFlags sLatched sRaised s7 s8 n o sPrev sTime s9
  have h3 : SameLines v s3 := h.refec.reblock.restate.relight
  have h4 : SameLines v s4 := SameLines.ite h3 h3.wr
  have h5 : SameLines v s5 := h4.wr
  have h6 : SameLines v s6 := SameLines.ite h5.setCar h5
  have hraised : SameLines v sRaised := h6.wr.setWord.raiseIf.raiseIf
  have h7 : SameLines v s7 := SameLines.ite h6 hraised.countDefects
  have h8 : SameLines v s8 := h7.wr
  have htime : SameLines v sTime := h8.wr.wr.wr.wr
  have h9 : SameLines v s9 := SameLines.ite h8 htime.count.raise
  exact h9.wr

theorem SameLines.recarriers (h : SameLines v u) : SameLines v u.recarriers := h.foldl _ fun _ _ hu => hu.recsc

/-! ## Conduits and Remote Fault -/

theorem SameLines.reshorts (h : SameLines v u) : SameLines v u.reshorts := by
  refine h.foldl _ fun w c hw => ?_
  unfold reshort
  exact SameLines.ite hw (SameLines.ite hw.updTm.count.raise hw.updTm)

theorem SameLines.setRf {c : Nat} {b : Bool} (h : SameLines v u) : SameLines v (u.setRf c b) := by
  unfold State.setRf
  exact SameLines.foldl _ (SameLines.foldl _ h.updTm.updTm fun _ _ hw => hw.emit rfl) fun _ _ hw => SameLines.ite hw hw.wr.raise

theorem SameLines.rerf (h : SameLines v u) : SameLines v u.rerf := h.foldl _ fun _ _ hw => SameLines.ite hw.setRf hw

/-! ## Buffers and pause -/

theorem SameLines.bufFlag {b : Bool} {ev : Option Nat} (h : SameLines v u) : SameLines v (u.bufFlag f b p ev) := by
  have hflag : SameLines v (u.wb .bsc f b) := h.wr
  unfold State.bufFlag
  cases ev with
  | none => exact hflag
  | some n => exact hflag.raiseIf

theorem SameLines.rowUse {t x : Nat} {b : Bool} (h : SameLines v u) : SameLines v (u.rowUse p t x b) :=
  SameLines.ite h (SameLines.ite (h.of_out (with_cad_out u _)) (h.of_out (with_cad_out u _)))

theorem SameLines.useProt {t x : Nat} (h : SameLines v u) : SameLines v (u.useProt p t x).2 := by
  unfold State.useProt
  dsimp only
  split
  · exact h
  · exact (h.of_out (ce_out _ _ _)).rowUse.of_out (with_damage_out _ _)
  · exact (h.of_out (ue_out _ _ _)).rowUse.of_out (with_damage_out _ _)
  · exact h

theorem SameLines.useFct {t x : Nat} (h : SameLines v u) : SameLines v (u.useFct t x) := by
  have huse : SameLines v (u.useProt .fct 0 (2 ^ 24 * t + x)).2 := h.useProt
  unfold State.useFct useOnce
  dsimp only
  split
  · exact huse.raise
  · exact huse

theorem SameLines.setPortSt {d : Fin 2} {q : Nat} {x : PortSt} (h : SameLines v u) : SameLines v (u.setPortSt d q x) := by
  unfold State.setPortSt
  exact h.of_out (setHgrp_out _ _ _ _)

theorem SameLines.portSend {port : Nat} {o : Output} {frame : List Byte} (h : SameLines v u) (ho : sentLine o = false) :
    SameLines v (u.portSend port o frame) := by
  unfold State.portSend
  extract_lets d q s1 x
  obtain ⟨l, c⟩ := u.portCode port frame
  dsimp -zeta only
  extract_lets s2 driven s3
  have h2 : SameLines v s2 := h.countS.countS.setPortSt
  have h3 : SameLines v s3 := SameLines.ite h2 (h2.emit ho)
  exact h3.foldl _ fun _ _ hw => hw.emit rfl

theorem SameLines.sendPfc {port on off : Nat} (h : SameLines v u) : SameLines v (u.sendPfc port on off) :=
  SameLines.ite h (h.portSend rfl).count

theorem SameLines.sendGp {port fuel : Nat} {es : List Nat} (h : SameLines v u) : SameLines v (u.sendGp port es fuel) := by
  induction fuel generalizing u es with
  | zero => exact h
  | succ n ih =>
    unfold State.sendGp
    exact SameLines.ite h (ih (h.updTm.portSend rfl).count)

theorem SameLines.repause {c : Nat} (h : SameLines v u) : SameLines v (u.repause c) := by
  unfold State.repause
  extract_lets s1 q on old s2 cause s3
  have h2 : SameLines v s2 := h.useFct.updTm
  have h3 : SameLines v s3 := h2.wr.wr.wr
  exact SameLines.ite h2 (SameLines.ite h3.count.raise h3.raise)

theorem SameLines.rebuffer {s0 : State} (h : SameLines v u) : SameLines v (rebuffer s0 u) := by
  unfold State.rebuffer
  refine SameLines.ite h ?_
  extract_lets eg inn s1 s2 s3 s4 want s5 free lim od s6 df dl dp s7 s8 s9 s10 s11 s12 nq s13 full s14 s15 s16 s17 s18 sUsed s19 s20 s21
  have h2 : SameLines v s2 := SameLines.ite h.wr.wr h.wr
  have h4 : SameLines v s4 := SameLines.ite h2.wr.wr h2.wr
  have h5 : SameLines v s5 := h4.updTm
  have h11 : SameLines v s11 := h5.bufFlag.bufFlag.bufFlag.bufFlag.bufFlag.bufFlag
  have h13 : SameLines v s13 := h11.wr.wr.wr
  have h14 : SameLines v s14 := SameLines.ite h13.count h13
  have h16 : SameLines v s16 := h14.wr.wr
  have h17 : SameLines v s17 := SameLines.ite h16.wr h16
  have h18 : SameLines v s18 := h17.foldl _ fun _ _ hw => hw.repause
  have hused : SameLines v sUsed := h18.foldl _ fun _ _ hw => hw.useFct
  have h19 : SameLines v s19 := SameLines.ite h18 (hused.foldl _ fun _ _ hw => hw.sendPfc.sendGp)
  exact h19.wr.wr.wr

theorem SameLines.retm (h : SameLines v u) : SameLines v u.retm := by
  rw [retm_eq]
  exact h.followRun.followRun.followRun.followRun

/-! ## The caddy -/

theorem SameLines.procEnd {ok : Bool} (h : SameLines v u) : SameLines v (u.procEnd ok) := h.wr.raise.wr.updCad

theorem SameLines.holdSpare {hold : Bool} (h : SameLines v u) : SameLines v (u.holdSpare k hold) := h.of_out (holdSpare_out _ _ _)

theorem SameLines.selectLaser {sel : Bool} (h : SameLines v u) : SameLines v (u.selectLaser k sel) := by
  unfold State.selectLaser
  extract_lets p inUse pend s1 s2 s3
  have h2 : SameLines v s2 := h.wr.wr.updCar
  have h3 : SameLines v s3 := h.wr.wr.updCar
  exact SameLines.ite h (SameLines.ite (SameLines.ite (SameLines.ite h2 h2.holdSpare) h.wr)
    (SameLines.ite h.wr (SameLines.ite h3.holdSpare h3)))

theorem SameLines.procBegin {r : LaserReq} (h : SameLines v u) : SameLines v (u.procBegin r) := by
  unfold State.procBegin
  extract_lets d s1 s2
  have h2 : SameLines v s2 := h.wr.wr.updCad.count
  exact SameLines.ite h.raise.count (SameLines.ite h2.wr.wr.wr h2.selectLaser.wr)

theorem SameLines.procStep (h : SameLines v u) (hw : u.procStep = some w) : SameLines v w := by
  unfold State.procStep at hw
  split at hw
  · split at hw
    · cases hw
    · cases hw; exact h.updCad.procBegin
  next r _ =>
    dsimp only at hw
    split at hw
    all_goals
      split at hw
      · cases hw
      split at hw
      · cases hw
        exact h.procEnd
    · cases hw
      exact h.wr
    · cases hw
      exact h.selectLaser.wr
    · split at hw
      · cases hw
        exact h.procEnd
      · split at hw
        · cases hw
          exact h.wr.wr.wr
        · cases hw
          exact h.procEnd
    · cases hw
      exact h.procEnd

theorem SameLines.procRun {fuel : Nat} (h : SameLines v u) : SameLines v (u.procRun fuel) := by
  induction fuel generalizing u with
  | zero => exact h
  | succ n ih =>
    unfold State.procRun
    split
    · exact h
    next w hw => exact ih (h.procStep hw)

theorem SameLines.replaceRows (h : SameLines v u) : SameLines v u.replaceRows :=
  SameLines.ite h (SameLines.foldl _ h.updCad fun _ _ hw => SameLines.ite hw (hw.updCad.of_out (substitute_out _ _ _ _)))

theorem SameLines.cadSettle {s0 : State} (h : SameLines v u) : SameLines v (cadSettle s0 u) := by
  unfold State.cadSettle
  refine SameLines.ite h ?_
  extract_lets s1 s2 moved gone s3 e s4 n
  have h1 : SameLines v s1 := SameLines.ite h.procRun h
  have h4 : SameLines v s4 := h1.replaceRows.raiseIf.raiseIf.wr
  exact SameLines.ite h4 h4.wr

/-! ## The level of service, the messages and the lines -/

theorem SameLines.relevel (h : SameLines v u) : SameLines v u.relevel := by
  have hlevel (w : State) (lv : Nat) (hw : SameLines v w) : SameLines v (w.showLevel lv) :=
    SameLines.ite hw (SameLines.ite hw ((hw.wr.of_out (log_out _ _ _ _ _ _)).raise.of_out (toField_out _ _)))
  have hsuccess (w : State) (lv : Nat) (hw : SameLines v w) : SameLines v (w.reportSuccess lv) := by
    unfold State.reportSuccess
    split
    · exact SameLines.ite ((hw.of_out (toField_out _ _)).of_out (with_start_out _ _)) hw
    · exact hw
  have hstatus (w : State) (lv : Nat) (hw : SameLines v w) : SameLines v (w.showStatus lv) := SameLines.ite hw hw.wr.wr.wr.wr
  rw [relevel_eq]
  exact hstatus _ _ (SameLines.wr (hsuccess _ _ (hlevel _ _ h)))

theorem SameLines.messages {s0 : State} (h : SameLines v u) : SameLines v (messages s0 u) := by
  have hasked : SameLines v (sendAsked s0 u) := h.sends rfl fun o ho => by
    obtain ⟨n, -, rfl⟩ := List.mem_map.1 ho
    rfl
  rcases messages_cases s0 u with e | ⟨n, e⟩ <;> rw [e]
  · exact hasked
  · exact hasked.count

theorem SameLines.intLine (h : SameLines v u) : SameLines v u.intLine := SameLines.ite h (h.of_out (with_host_out _ _))

theorem linkOut_sentLine {t : BitVec 64} {e0 e : BEnd} {side : Side} {o : Output} (h : o ∈ linkOut t e0 e side) : sentLine o = false := by
  obtain ⟨x, -, rfl⟩ := List.mem_map.1 h
  rfl

end

/-- What follows a command changes nothing of the frames that its effect has put on the fibres. -/
theorem settle_lines (s0 v : State) : (settle s0 v).lines = v.lines := by
  have hsettled : SameLines v (settled s0 v) :=
    SameLines.refl.recarriers.reshorts.rerf.rebuffer.retm.cadSettle.recarriers.relevel.messages.intLine
  rw [settle_eq]
  exact (hsettled.sends (w := { settled s0 v with out := _ }) (List.append_assoc _ _ _) fun o ho =>
    (List.mem_append.1 ho).elim linkOut_sentLine linkOut_sentLine :)

end Sys2Proof.Machine.State

namespace Sys2Proof.Machine

open Sys2Proof Reg

/-- TXO of carrier 0 reads DRAINED, DRAIN is clear again and HOLD is set; its line coder and framer run and its shutter is open. -/
def heldAtBoundary : State :=
  { State.reset with
    regs := [((Page.txo 0).base + 0x004, 3), ((Page.txo 0).base + 0x008, 6), ((Page.lfe 0).base + 0x004, 1), ((Page.fcr 0).base + 0x004, 1)],
    start := { State.reset.start with diesUp := 1 }, cars := [(0, { Carrier.reset with shutter := true, txFirst := false })] }

/-- The transmitter goes from DRAINED to HELD at the boundary, and nothing leaves. -/
theorem frameStart_heldAtBoundary : (heldAtBoundary.silent.frameStart 0 0 0).out = [] := rfl

theorem exec_txFrameStart (s : State) (k : Fin 16) (dt drive : Nat) :
    exec (.txFrameStart k dt drive) s = s.done fun t => t.frameStart k dt drive := rfl

/-- Refutes O35: a transmitter that reads DRAINED with DRAIN clear and HOLD set becomes HELD at the frame boundary and sends no frame, though
it runs, is not HELD before, and its shutter is open. -/
theorem not_transmittedFrame : ¬ Obligations.transmittedFrame := by
  unfold Obligations.transmittedFrame
  intro h
  obtain ⟨-, hnative, -⟩ := h heldAtBoundary 0 0 0
  have hanswers := hnative (by decide) (by decide) (by decide) (by decide) (by decide) (by decide)
  obtain ⟨u, hu, -, -, hsends, -⟩ := hanswers.settle_eq (exec_txFrameStart heldAtBoundary 0 0 0)
  obtain ⟨line, symbols, dac, hout, -⟩ := hsends (by decide) (by decide) rfl (by decide)
  have hlines : u.lines = (heldAtBoundary.silent.frameStart 0 0 0).lines := by
    rw [← State.settle_lines heldAtBoundary u, hu]
    exact State.settle_lines _ _
  unfold State.lines at hlines
  rw [hout, frameStart_heldAtBoundary] at hlines
  exact absurd hlines (by simp [State.sentLine])

end Sys2Proof.Machine
end
section
/-! PROOFS. The steps of an acquisition (R101, R103, R113). Refutes O26. -/
namespace Sys2Proof.Machine

open Sys2Proof Reg

/-! ## An armed test of the equalizers' coefficients (R41, R103) -/

theorem exec_acqStepDone (s : State) (k : Fin 16) (found : Bool) (cd freq clock : Int) :
    exec (.acqStepDone k found cd freq clock) s = s.done fun t => t.acqStep k found cd freq clock := rfl

/-- The receiver of carrier 0 recovers the clock, with a test of its equalizers' coefficient memory armed. -/
def armedEqualizer : State :=
  { State.reset with
    regs := [((Page.rxe 0).base + 0x018, HDR.FLIP_MASK.ARM.put 0 1), ((Page.rxe 0).base + 0x024, RXE.RX_STATUS.ACQ_STATE.put 0 5)] }

theorem armedEqualizer_step : armedEqualizer.rd (.rxe 0) RXE.RX_STATUS.ACQ_STATE = 5 := by decide

/-- What the end of the step makes of it. -/
def armedEqualizerStarted : State := armedEqualizer.silent.acqStep 0 true 0 0 0

/-- The equalizers are written as they go to the centre tap, which spends the test. -/
theorem armedEqualizerStarted_flip : armedEqualizerStarted.word (.rxe 0) 0x018 ≠ armedEqualizer.word (.rxe 0) 0x018 := by decide

/-- Refutes O26: as clock recovery ends the equalizers are written to the centre tap, and an armed test of FLIP_MASK is spent by that. -/
theorem not_acquisition : ¬ Obligations.acquisition := by
  unfold Obligations.acquisition
  rintro ⟨-, h⟩
  obtain ⟨-, -, -, -, -, -, hstep5, -⟩ := h armedEqualizer 0 0 0 0
  obtain ⟨u, hsettle, -, -, -, -, hframe⟩ :=
    (hstep5 armedEqualizer_step (by decide)).settle_eq (exec_acqStepDone armedEqualizer 0 true 0 0 0)
  have hkept : u.word (.rxe 0) 0x018 = armedEqualizer.word (.rxe 0) 0x018 :=
    hframe.reg (.rxe 0) 0x018 (by decide) (.inl (by decide)) (by decide)
  have hspent := State.word_eq_of_settle_eq hsettle (q := .rxe 0) (i := 0x018) (by decide) (by decide) (by decide) (by decide)
  exact armedEqualizerStarted_flip (hspent.symm.trans hkept)

end Sys2Proof.Machine
end

section
/-! PROOFS. A frame of the 800ZR agreement whose carrier's coding domain coasts (R157, R221, R329). Refutes O36. -/
namespace Sys2Proof.Machine.State

open Sys2Proof Reg

/-- A client frame that a conduit delivers while BSC is off is dropped, and BSC shows for which port. -/
theorem dropOff_where (s : State) {port : Nat} (bytes : Nat) (h : port < 2 ^ 20) :
    (s.dropOff port bytes).rd .bsc BSC.DROP_LAST.WHERE = port := by
  unfold dropOff
  dsimp only
  rw [rd_of_word (raise_word _ .bsc .bsc _ _ (by decide) (.inr (by decide)) (.inl nofun)), rd_wr_other _ _ _ _ _ (by decide),
    rd_wr_same _ _ _ _ (by decide)]
  exact Nat.mod_eq_of_lt h

theorem clientIn_off (s : State) (k : Fin 16) (b : List Byte) {c : Nat} (hc : s.rxConduit k = some c)
    (hoff : (s.useSch 3 (256 * c)).2.enabled .bsc = false) :
    s.clientIn k b = (s.useSch 3 (256 * c)).2.dropOff ((s.useSch 3 (256 * c)).2.portOfLabel c 0) b.length := by
  unfold clientIn
  rw [hc]
  dsimp only
  rw [hoff]
  rfl

end Sys2Proof.Machine.State

namespace Sys2Proof.Machine

open Sys2Proof Reg

/-- Carrier 0 is in the 800ZR mode with codeword lock, in HOLDOVER, the sole member of receive conduit 0, whose label 0 leads to port 1;
the domain of coding and framing coasts, and BSC is off. -/
def coastingZr : State :=
  { State.reset with
    regs := [(Page.tim.base + 0x0C0, 0x200), (Page.sch.base + 0x004, 1), ((Page.rxe 0).base + 0x024, RXE.RX_STATUS.ACQ_STATE.put 0 9),
      ((Page.lfe 0).base + 0x044, LFE.FEC_STATUS.ZR_ACTIVE.put (LFE.FEC_STATUS.CW_LOCK.put 0 1) 1), ((Page.fcr 0).base + 0x004, 1)]
    tm := { State.reset.tm with tabs := [(0x13000000, 0x10001), (0x15000000, 4)] } }

/-- An aligned frame that brings one client frame. -/
def clientFrame : RxFrame :=
  { pos := 0, oh := 0, len0 := 0, area := [], body := [], first := 0, last := 0, snr := [], dgd := 0, sop := 0, cdRes := 0, eq := [], freq := 0
    clock := 0, power := 0, zr := { aligned := true, start := false, ldi := false, rdi := false, client := [[]] }, adcClips := 0
    prbsBits := 0, prbsErrors := 0 }

theorem coastingZr_state : coastingZr.rxRuns 0 = true ∧ coastingZr.codingCoasts = true := by decide

/-- What the frame boundary makes of it before its client frame, and then. -/
def coastingZrEdge : State := coastingZr.silent.rxFrame 0 clientFrame
def coastingZrTaken : State := coastingZrEdge.clientIn 0 []

theorem exec_coastingZr : exec (.rxFrameBoundary 0 clientFrame) coastingZr = .next (State.settle coastingZr coastingZrTaken) := rfl

theorem coastingZrEdge_conduit : coastingZrEdge.rxConduit 0 = some 0 ∧ (coastingZrEdge.useSch 3 0).2.enabled .bsc = false
    ∧ (coastingZrEdge.useSch 3 0).2.portOfLabel 0 0 = 1 := by decide

/-- The client frame is delivered, and dropped for port 1. -/
theorem coastingZrTaken_drop : coastingZrTaken.rd .bsc BSC.DROP_LAST.WHERE = 1 := by
  obtain ⟨hconduit, hoff, hport⟩ := coastingZrEdge_conduit
  have hdropped := State.clientIn_off coastingZrEdge 0 [] hconduit hoff
  rw [coastingZrTaken, hdropped, hport]
  exact State.dropOff_where _ _ (by decide)

/-- Refutes O36: no frame is taken while the domain of coding and framing coasts, but the client frames that a frame of the 800ZR agreement
brings go to their port all the same. -/
theorem not_receivedFrame : ¬ Obligations.receivedFrame := by
  unfold Obligations.receivedFrame
  intro h
  obtain ⟨-, -, -, -, -, -, -, -, hnone, -⟩ := h coastingZr 0 clientFrame
  obtain ⟨hruns, hcoasts⟩ := coastingZr_state
  obtain ⟨u, hsettle, -, hframe⟩ := (hnone hruns (.inr (.inr (.inl hcoasts)))).settle_eq exec_coastingZr
  have hkept : u.word .bsc 0x03C = coastingZr.word .bsc 0x03C := hframe.reg .bsc 0x03C (by decide) (.inl (by decide)) (by decide)
  have hword := State.word_eq_of_settle_eq hsettle (q := .bsc) (i := 0x03C) (by decide) (by decide) (by decide) (by decide)
  have hwhere : coastingZrTaken.rd .bsc BSC.DROP_LAST.WHERE = coastingZr.rd .bsc BSC.DROP_LAST.WHERE :=
    State.rd_of_word (hword.symm.trans hkept)
  rw [coastingZrTaken_drop] at hwhere
  exact absurd hwhere (by decide)

end Sys2Proof.Machine
end

section
/-! PROOFS. A use of a protected word and a reserve cell: what they leave unchanged (R42, R276, R425, R427). -/
namespace Sys2Proof.Machine.State

open Sys2Proof Reg

section
variable {s u : State} {l : List (Page × Nat)} {ps : List StatePart} {p : Page} {t x : Nat}

theorem Frame.rowUse {b : Bool} (h : Frame s u l ps) (hc : StatePart.cad ∈ ps) : Frame s (u.rowUse p t x b) l ps :=
  Frame.ite (fun _ => h) fun _ => Frame.ite (fun _ => h.with_cad hc) fun _ => h.with_cad hc

theorem Frame.ce (h : Frame s u l ps) (hl : (p, 0x01C) ∈ l) : Frame s (u.ce p t) l ps := (h.sat (by decide) hl).wr (by decide) hl
theorem Frame.ue (h : Frame s u l ps) (hl : (p, 0x01C) ∈ l) : Frame s (u.ue p t) l ps := (h.sat (by decide) hl).wr (by decide) hl

theorem Frame.useProt (h : Frame s u l ps) (hl : (p, 0x01C) ∈ l) (hc : StatePart.cad ∈ ps) (hd : StatePart.damage ∈ ps) :
    Frame s (u.useProt p t x).2 l ps := by
  unfold State.useProt
  dsimp only
  split
  · exact h
  · exact ((h.ce hl).rowUse hc).with_damage hd
  · exact ((h.ue hl).rowUse hc).with_damage hd
  · exact h

variable (s p t x)

theorem rowUse_cells (b : Bool) : (s.rowUse p t x b).cad.cells = s.cad.cells := by
  unfold rowUse
  extract_lets key now near
  split
  · rfl
  · split <;> rfl

theorem useProt_cells : (s.useProt p t x).2.cad.cells = s.cad.cells := by
  unfold useProt
  dsimp only
  split
  · rfl
  · exact (rowUse_cells (s.ce p t) p t x false).trans (congrArg Cad.cells (ce_cad s p t))
  · exact (rowUse_cells (s.ue p t) p t x true).trans (congrArg Cad.cells (ue_cad s p t))
  · rfl

theorem useProt_cars : (s.useProt p t x).2.cars = s.cars :=
  (Frame.refl.useProt (l := [(p, 0x01C)]) (ps := [.cad, .damage]) (.head _) (by decide) (by decide)).same .cars (by decide)

end

/-! ## Reserve cells -/

section
variable {s u : State} {l : List (Page × Nat)} {ps : List StatePart} {p : Page} {reason : Nat}

theorem substitute_cells (s : State) (pool reason unit : Nat) : (s.substitute pool reason unit).cad.cells = s.cad.cells := by
  unfold substitute
  dsimp only
  split
  · rw [protect_cad, updCad_cad]
    simp only [count_cad, wr_cad, log_cad]
  · simp only [count_cad, wr_cad, log_cad]

theorem Frame.useReserve (h : Frame s u l ps) (hstate : (p, 0x008) ∈ l) (hl : [((Page.cad : Page), 0x018), (.cad, 0x054)] ⊆ l)
    (hp : StatePart.cad :: eventParts ⊆ ps) : Frame s (u.useReserve p reason) l ps := by
  unfold State.useReserve
  extract_lets s1 s2 s3
  have h2 : Frame s s2 l ps := (h.sat (by decide) hstate).updCad (hp (by decide))
  exact (Frame.ite (fun _ => h2.setPst hstate) fun _ => h2).substitute hl hp

theorem useReserve_cells (s : State) (p : Page) (reason : Nat) : (s.useReserve p reason).cad.cells = s.cad.cells + 1 := by
  unfold useReserve
  extract_lets s1 s2 s3
  have h3 : s3.cad = s2.cad := by
    unfold s3
    split
    · exact setPst_cad _ _ _
    · rfl
  rw [substitute_cells, h3, updCad_cad]
  exact congrArg (· + 1) (congrArg Cad.cells (sat_cad s p _ _))

/-- A number of reserve cells of a page comes into use. -/
def useReserves (s : State) (p : Page) (reason n : Nat) : State := (List.range n).foldl (fun u _ => u.useReserve p reason) s

theorem useReserves_cells (s : State) (p : Page) (reason n : Nat) : (s.useReserves p reason n).cad.cells = s.cad.cells + n := by
  unfold useReserves
  induction n with
  | zero => rfl
  | succ n ih => rw [List.range_succ, List.foldl_append, List.foldl_cons, List.foldl_nil, useReserve_cells, ih, Nat.add_assoc]

theorem Frame.useReserves {n : Nat} (h : Frame s u l ps) (hstate : (p, 0x008) ∈ l)
    (hl : [((Page.cad : Page), 0x018), (.cad, 0x054)] ⊆ l) (hp : StatePart.cad :: eventParts ⊆ ps) :
    Frame s (u.useReserves p reason n) l ps := h.foldl _ fun _ _ hv => hv.useReserve hstate hl hp

end

end Sys2Proof.Machine.State
end

section
/-! PROOFS. A receiver's equalizers, view buffer, background calibration, settings and test (R98, R99, R104, R106, R119, R122).
Settles O28. -/
namespace Sys2Proof

/-- A field that a write reaches, where a register takes a word's bits under a mask. -/
theorem Fld.get_merge_written (f : Fld) (x v m : Word) (h : ∀ i < f.w, m.getLsbD (f.lo + i) = true) :
    f.get ((x &&& ~~~m) ||| (v &&& m)) = f.get v := by
  unfold Fld.get getBits
  refine congrArg BitVec.toNat (BitVec.eq_of_getLsbD_eq fun i hi => ?_)
  simp only [BitVec.getLsbD_extractLsb', BitVec.getLsbD_or, BitVec.getLsbD_and, BitVec.getLsbD_not, h i hi, Bool.not_true,
    Bool.and_true, Bool.and_false, Bool.false_or]

/-- A field that it does not reach. -/
theorem Fld.get_merge_kept (f : Fld) (x v m : Word) (h : ∀ i < f.w, f.lo + i < 32 ∧ m.getLsbD (f.lo + i) = false) :
    f.get ((x &&& ~~~m) ||| (v &&& m)) = f.get x := by
  unfold Fld.get getBits
  refine congrArg BitVec.toNat (BitVec.eq_of_getLsbD_eq fun i hi => ?_)
  simp only [BitVec.getLsbD_extractLsb', BitVec.getLsbD_or, BitVec.getLsbD_and, BitVec.getLsbD_not, h i hi, decide_true, Bool.not_false,
    Bool.and_true, Bool.and_false, Bool.or_false]

end Sys2Proof

namespace Sys2Proof.Machine.State

open Sys2Proof Reg

section
variable {s u : State} {k : Fin 16} {l : List (Page × Nat)} {ps : List StatePart}

/-! ## What an accepted write finds -/

variable (s k) in
theorem touch_car : s.touch.silent.car k = s.car k :=
  car_of_cars k (s.touch_frame.same .cars (by decide))

variable (s) in
theorem touch_silent_rd (p : Page) (f : Fld) : s.touch.silent.rd p f = s.rd p f := s.touch_rd p f

variable (s) in
theorem touch_silent_bit (p : Page) (f : Fld) : s.touch.silent.bit p f = s.bit p f := s.touch_bit p f

/-- A receiver runs on by its acquisition state alone. -/
theorem rxRuns_of_rd (h : u.rd (.rxe k) RXE.RX_STATUS.ACQ_STATE = s.rd (.rxe k) RXE.RX_STATUS.ACQ_STATE) : u.rxRuns k = s.rxRuns k := by
  unfold rxRuns; rw [h]

/-- The equalizers that adapt, after a change elsewhere. -/
theorem eqLive_of (hstatus : u.word (.rxe k) 0x024 = s.word (.rxe k) 0x024) (hstate : u.word (.rxe k) 0x008 = s.word (.rxe k) 0x008)
    (hctrl : u.word (.rxe k) 0x044 = s.word (.rxe k) 0x044) (hzr : u.word (.lfe k) 0x044 = s.word (.lfe k) 0x044)
    (hcar : u.car k = s.car k) : u.eqLive k = s.eqLive k := by
  have hacq : u.rd (.rxe k) RXE.RX_STATUS.ACQ_STATE = s.rd (.rxe k) RXE.RX_STATUS.ACQ_STATE := rd_of_word hstatus
  have hfreeze : u.rd (.rxe k) RXE.EQ_CTRL.FREEZE = s.rd (.rxe k) RXE.EQ_CTRL.FREEZE := rd_of_word hctrl
  have hpst : u.pst (.rxe k) = s.pst (.rxe k) := rd_of_word (f := HDR.PAGE_STATE.STATE) hstate
  have hmode : u.zr k = s.zr k := bit_of_word hzr
  unfold eqLive rxOnMask
  rw [hacq, hfreeze, hpst, hmode, hcar]

/-! ## Equalizers (R104) -/

variable (s k) in
/-- The equalizers' words in place, as far as the memory's test goes. -/
theorem eqStore_frame (bits : Nat) (words : Nat → List (BitVec 16)) :
    Frame (s.updCar k fun c => { c with eqs := (List.range 8).map fun i => if bits.testBit i then words i else c.eqs.getD i [] })
      (s.eqStore k bits words) [(.rxe k, 0x018)] [.damage] :=
  Frame.refl.foldl _ fun _ _ h => Frame.ite (fun _ => h.protect (.head _) (.head _)) fun _ => h

theorem Frame.eqStore {bits : Nat} {words : Nat → List (BitVec 16)} (h : Frame s u l ps) (hl : (Page.rxe k, 0x018) ∈ l)
    (hc : StatePart.cars ∈ ps) (hd : StatePart.damage ∈ ps) : Frame s (u.eqStore k bits words) l ps :=
  (h.updCar hc).foldl _ fun _ _ hv => Frame.ite (fun _ => hv.protect hl hd) fun _ => hv

variable (s k) in
theorem eqStore_out (bits : Nat) (words : Nat → List (BitVec 16)) : (s.eqStore k bits words).out = s.out :=
  List.foldlRecOn (motive := fun v : State => v.out = s.out) _ _ (updCar_out s k _) fun v hv i _ => by
    split
    · rw [protect_out]; exact hv
    · exact hv

variable (s k) in
theorem eqStore_car (bits : Nat) (words : Nat → List (BitVec 16)) : (s.eqStore k bits words).car k = { s.car k with
    eqs := (List.range 8).map fun i => if bits.testBit i then words i else (s.car k).eqs.getD i [] } := by
  rw [car_of_cars k ((eqStore_frame s k bits words).same .cars (by decide)), car_updCar]

variable (s k) in
theorem eqStore_word (bits : Nat) (words : Nat → List (BitVec 16)) {i : Nat} (hi : i < 0x1000 ∧ i ≠ 0x018) :
    (s.eqStore k bits words).word (.rxe k) i = s.word (.rxe k) i :=
  (eqStore_frame s k bits words).reg _ _ hi.1 (.inl nofun) (by simpa using hi.2)

variable (s k) in
/-- A restart: the equalizers in a mask at the centre tap, with no soft values where there are blocks. -/
def eqCentred (bits : Nat) : State :=
  if (s.eqStore k bits fun _ => eqStart).rxRuns k then
    (s.eqStore k bits fun _ => eqStart).updCar k fun c => { c with eqRestart := c.eqRestart ||| bits }
  else s.eqStore k bits fun _ => eqStart

variable (s k) in
theorem eqCentred_word (bits : Nat) {i : Nat} (hi : i < 0x1000 ∧ i ≠ 0x018) : (s.eqCentred k bits).word (.rxe k) i = s.word (.rxe k) i := by
  unfold eqCentred
  split <;> exact eqStore_word s k _ _ hi

variable (s k) in
theorem eqCentred_out (bits : Nat) : (s.eqCentred k bits).out = s.out := by
  unfold eqCentred
  split <;> exact eqStore_out s k _ _

variable (s k) in
theorem eqCentred_eqs (bits : Nat) {i : Nat} (hi : i < 8) :
    ((s.eqCentred k bits).car k).eqs.getD i [] = if bits.testBit i then eqStart else (s.car k).eqs.getD i [] := by
  have hstored : ((s.eqStore k bits fun _ => eqStart).car k).eqs.getD i [] = if bits.testBit i then eqStart else (s.car k).eqs.getD i [] := by
    rw [eqStore_car]
    simp [List.getD, List.getElem?_map, List.getElem?_range hi]
  unfold eqCentred
  split
  · rw [car_updCar]; exact hstored
  · exact hstored

theorem Frame.eqCentred {bits : Nat} (h : Frame s u l ps) (hl : (Page.rxe k, 0x018) ∈ l) (hc : StatePart.cars ∈ ps)
    (hd : StatePart.damage ∈ ps) : Frame s (u.eqCentred k bits) l ps :=
  Frame.ite (fun _ => (h.eqStore hl hc hd).updCar hc) fun _ => h.eqStore hl hc hd

variable (s k) in
theorem effEqCtrl_none {v : Word} (h : RXE.EQ_CTRL.RESTART.get v = 0) :
    effEqCtrl k v s = s.wr (.rxe k) RXE.EQ_CTRL.FREEZE (RXE.EQ_CTRL.FREEZE.get v) := by
  unfold effEqCtrl; exact if_pos h

variable (s k) in
theorem effEqCtrl_restarts {v : Word} {n : Nat} (hv : RXE.EQ_CTRL.RESTART.get v = n) (h : n ≠ 0) :
    effEqCtrl k v s = ((s.wr (.rxe k) RXE.EQ_CTRL.FREEZE (RXE.EQ_CTRL.FREEZE.get v)).eqCentred k n).wr (.rxe k) RXE.EQ_CTRL.CONVERGED
      (((s.wr (.rxe k) RXE.EQ_CTRL.FREEZE (RXE.EQ_CTRL.FREEZE.get v)).eqCentred k n).rd (.rxe k) RXE.EQ_CTRL.CONVERGED &&& (0xFF ^^^ n)) := by
  subst hv
  unfold effEqCtrl; exact if_neg h

variable (s k) in
/-- The equalizers in a mask track again. -/
def eqTracking (bits : Nat) : State :=
  (s.updCar k fun c => { c with eqRestart := c.eqRestart &&& (0xFF ^^^ bits) }).wr (.rxe k) RXE.EQ_CTRL.CONVERGED
    (s.rd (.rxe k) RXE.EQ_CTRL.CONVERGED ||| (bits &&& s.rxOnMask k))

theorem eqTracking_converged {bits : Nat} (h : bits < 2 ^ 8) :
    (s.eqTracking k bits).rd (.rxe k) RXE.EQ_CTRL.CONVERGED = s.rd (.rxe k) RXE.EQ_CTRL.CONVERGED ||| (bits &&& s.rxOnMask k) := by
  have hor : s.rd (.rxe k) RXE.EQ_CTRL.CONVERGED ||| (bits &&& s.rxOnMask k) < 2 ^ 8 :=
    Nat.or_lt_two_pow (get_lt _ _) (Nat.and_le_left.trans_lt h)
  exact (rd_wr_same _ _ _ _ (by decide)).trans (Nat.mod_eq_of_lt hor)

/-! ## The view buffer (R106) -/

variable (s k) in
/-- The address of the view buffer as written. -/
def viewAddressed (v : Word) : State :=
  ((s.wr (.rxe k) RXE.EQ_VIEW_ADDR.SC (RXE.EQ_VIEW_ADDR.SC.get v)).wr (.rxe k) RXE.EQ_VIEW_ADDR.INDEX (RXE.EQ_VIEW_ADDR.INDEX.get v)).wr (.rxe k)
    RXE.EQ_VIEW_ADDR.AUTO_INC (RXE.EQ_VIEW_ADDR.AUTO_INC.get v)

variable (s k) in
/-- A capture begins. -/
def viewCaptures (sc : Nat) : State :=
  ((s.updCar k fun c => { c with view := if (s.eqLive k).testBit sc then [] else (s.car k).eqs.getD sc [] }).wb (.rxe k)
    RXE.EQ_VIEW_ADDR.CAPTURED false).wb (.rxe k) RXE.EQ_VIEW_ADDR.CAPTURING true

variable (s k) in
theorem viewAddressed_bit (v : Word) {f : Fld} (h : f.off = 0x048 ∧ 17 ≤ f.lo) : (s.viewAddressed k v).bit (.rxe k) f = s.bit (.rxe k) f := by
  obtain ⟨hoff, hlo⟩ := h
  have hother (g : Fld) (hg : g.off = 0x048 ∧ g.lo + g.w ≤ 17) :
      g.off < 0x1000 ∧ f.off < 0x1000 ∧ (f.off ≠ g.off ∨ g.lo + g.w ≤ f.lo ∨ f.lo + f.w ≤ g.lo) :=
    ⟨by omega, by omega, .inr (.inl (by omega))⟩
  unfold viewAddressed
  rw [bit_wr_other _ _ _ _ _ (hother _ (by decide)), bit_wr_other _ _ _ _ _ (hother _ (by decide)),
    bit_wr_other _ _ _ _ _ (hother _ (by decide))]

variable (s k) in
theorem viewAddressed_word (v : Word) {p : Page} {i : Nat} (hi : i < 0x1000) (h : p ≠ .rxe k ∨ i ≠ 0x048) :
    (s.viewAddressed k v).word p i = s.word p i := by
  unfold viewAddressed
  rw [word_wr_ne _ _ _ _ _ _ (by decide) hi h, word_wr_ne _ _ _ _ _ _ (by decide) hi h, word_wr_ne _ _ _ _ _ _ (by decide) hi h]

variable (s k) in
theorem viewAddressed_cars (v : Word) : (s.viewAddressed k v).cars = s.cars :=
  (wr_cars _ _ _ _).trans ((wr_cars _ _ _ _).trans (wr_cars s _ _ _))

variable (s k) in
theorem viewAddressed_eqLive (v : Word) : (s.viewAddressed k v).eqLive k = s.eqLive k :=
  have hrxe {i : Nat} (hi : i < 0x1000 ∧ i ≠ 0x048) : (s.viewAddressed k v).word (.rxe k) i = s.word (.rxe k) i :=
    viewAddressed_word s k v hi.1 (.inr hi.2)
  eqLive_of (hrxe (by decide)) (hrxe (by decide)) (hrxe (by decide)) (viewAddressed_word s k v (by decide) (.inl nofun))
    (car_of_cars k (viewAddressed_cars s k v))

theorem Frame.viewAddressed {v : Word} (h : Frame s u l ps) (hl : (Page.rxe k, 0x048) ∈ l) : Frame s (u.viewAddressed k v) l ps :=
  ((h.wr (by decide) hl).wr (by decide) hl).wr (by decide) hl

variable (s k) in
theorem effEqView_captures {v : Word} {sc : Nat} (hv : RXE.EQ_VIEW_ADDR.CAPTURE.get v ≠ 0)
    (hsc : RXE.EQ_VIEW_ADDR.SC.get v = sc) (h : s.bit (.rxe k) RXE.EQ_VIEW_ADDR.CAPTURING = false) :
    effEqView k v s = (s.viewAddressed k v).viewCaptures k sc := by
  have hidle : (s.viewAddressed k v).bit (.rxe k) RXE.EQ_VIEW_ADDR.CAPTURING = false := (viewAddressed_bit s k v (by decide)).trans h
  subst hsc
  unfold effEqView
  refine if_neg ?_
  rw [Bool.or_eq_true, decide_eq_true_eq]
  exact fun hno => hno.elim hv fun hbusy => absurd (hidle.symm.trans hbusy) (by decide)

variable (s k) in
theorem effEqView_busy {v : Word} (h : s.bit (.rxe k) RXE.EQ_VIEW_ADDR.CAPTURING = true) : effEqView k v s = s.viewAddressed k v := by
  have hbusy : (s.viewAddressed k v).bit (.rxe k) RXE.EQ_VIEW_ADDR.CAPTURING = true := (viewAddressed_bit s k v (by decide)).trans h
  unfold effEqView
  exact if_pos (by rw [Bool.or_eq_true]; exact .inr hbusy)

variable (s k) in
/-- The words of a capture in the view buffer. -/
def viewStored (words : List (BitVec 16)) : State :=
  (List.range 62).foldl (fun u i => u.protect (.rxe k) 4 i)
    (((s.updCar k fun c => { c with view := if c.view = [] then words.take 248 else c.view }).wb (.rxe k) RXE.EQ_VIEW_ADDR.CAPTURING
      false).wb (.rxe k) RXE.EQ_VIEW_ADDR.CAPTURED true)

variable (s k) in
theorem viewStored_frame (words : List (BitVec 16)) :
    Frame (((s.updCar k fun c => { c with view := if c.view = [] then words.take 248 else c.view }).wb (.rxe k) RXE.EQ_VIEW_ADDR.CAPTURING
      false).wb (.rxe k) RXE.EQ_VIEW_ADDR.CAPTURED true) (s.viewStored k words) [(.rxe k, 0x018)] [.damage] :=
  Frame.refl.foldl _ fun _ _ h => h.protect (.head _) (.head _)

variable (s k) in
theorem viewStored_out (words : List (BitVec 16)) : (s.viewStored k words).out = s.out :=
  List.foldlRecOn (motive := fun v : State => v.out = s.out) _ _
    ((wb_out _ _ _ _).trans ((wb_out _ _ _ _).trans (updCar_out s k _))) fun v hv _ _ => (protect_out v _ _ _).trans hv

variable (s k) in
theorem viewStored_word (words : List (BitVec 16)) : (s.viewStored k words).word (.rxe k) 0x048 =
    (((s.updCar k fun c => { c with view := if c.view = [] then words.take 248 else c.view }).wb (.rxe k) RXE.EQ_VIEW_ADDR.CAPTURING
      false).wb (.rxe k) RXE.EQ_VIEW_ADDR.CAPTURED true).word (.rxe k) 0x048 :=
  (viewStored_frame s k words).reg _ _ (by decide) (.inl nofun) (by simp)

theorem Frame.viewStored {words : List (BitVec 16)} (h : Frame s u l ps) (hflip : (Page.rxe k, 0x018) ∈ l) (hl : (Page.rxe k, 0x048) ∈ l)
    (hc : StatePart.cars ∈ ps) (hd : StatePart.damage ∈ ps) : Frame s (u.viewStored k words) l ps :=
  (((h.updCar hc).wb (by decide) hl).wb (by decide) hl).foldl _ fun _ _ hv => hv.protect hflip hd

/-! ## Background calibration (R99, R120) -/

variable (s k) in
theorem rxRead_adc : s.rxRead k 2 = if (s.useProt (.rxe k) 2 0).1 then
    ((s.useProt (.rxe k) 2 0).2.raise (.rxe k) 9).updCar k fun c => { c with adcUe := true } else (s.useProt (.rxe k) 2 0).2 := rfl

theorem Frame.rxUseAdc (h : Frame s u l ps) (hevent : (Page.rxe k, 0x00C) ∈ l) (hflip : (Page.rxe k, 0x018) ∈ l)
    (hlog : (Page.rxe k, 0x01C) ∈ l) (hp : StatePart.cars :: .cad :: eventParts ⊆ ps) : Frame s (u.rxUse k 2) l ps := by
  have hused := (h.protect (t := 2) (x := 0) hflip (hp (by decide))).useProt (t := 2) (x := 0) hlog (hp (by decide)) (hp (by decide))
  unfold State.rxUse
  rw [rxRead_adc]
  exact Frame.ite (fun _ => (hused.raise hevent (hp (by decide)) (hp (by decide)) (hp (by decide))).updCar (hp (by decide))) fun _ => hused

variable (s k) in
theorem rxUse_adc_cells : (s.rxUse k 2).cad.cells = s.cad.cells := by
  have hused : ((s.protect (.rxe k) 2 0).useProt (.rxe k) 2 0).2.cad.cells = s.cad.cells :=
    (useProt_cells _ _ _ _).trans (congrArg Cad.cells (protect_cad s _ _ _))
  unfold rxUse
  rw [rxRead_adc]
  split
  · rw [updCar_cad, raise_cad]; exact hused
  · exact hused

variable (s k) in
theorem rxUse_adc_calAt : ((s.rxUse k 2).car k).calAt = (s.car k).calAt := by
  have hused : ((s.protect (.rxe k) 2 0).useProt (.rxe k) 2 0).2.car k = s.car k :=
    car_of_cars k ((useProt_cars _ _ _ _).trans (protect_cars s _ _ _))
  unfold rxUse
  rw [rxRead_adc]
  split
  · rw [car_updCar, car_of_cars k (raise_cars _ _ _), hused]
  · rw [hused]

variable (s k) in
/-- A pass of background calibration, before the slices that gave way. -/
def adcPass : State :=
  ({ (s.updCar k fun c => { c with adcUe := false, calAt := s.time.toNat }) with
    damage := s.damage.set (fun _ => 0) (damageKey (.rxe k) 2 0) 0 } : State).rxUse k 2

variable (s k) in
/-- No pass is made: the receiver or the calibration is off, or there is no live light. -/
def adcIdle : Bool :=
  !s.enabled (.rxe k) || !s.bit (.rxe k) RXE.ADC_CAL.BG_EN || s.pst (.rxe k) = 5 || !s.bit (.rxe k) RXE.RX_STATUS.SIGNAL
    || s.rd (.rxe k) RXE.RX_STATUS.ACQ_STATE < 2 || 9 < s.rd (.rxe k) RXE.RX_STATUS.ACQ_STATE

theorem adcIdle_eq_false (hen : s.enabled (.rxe k) = true) (hbg : s.bit (.rxe k) RXE.ADC_CAL.BG_EN = true) (hpst : s.pst (.rxe k) ≠ 5)
    (hsig : s.bit (.rxe k) RXE.RX_STATUS.SIGNAL = true) (hlow : 2 ≤ s.rd (.rxe k) RXE.RX_STATUS.ACQ_STATE)
    (hhigh : s.rd (.rxe k) RXE.RX_STATUS.ACQ_STATE ≤ 9) : s.adcIdle k = false := by
  have hbelow : ¬s.rd (.rxe k) RXE.RX_STATUS.ACQ_STATE < 2 := by omega
  have habove : ¬9 < s.rd (.rxe k) RXE.RX_STATUS.ACQ_STATE := by omega
  simp [adcIdle, hen, hbg, hpst, hsig, hbelow, habove]

theorem adcIdle_eq_true (h : s.bit (.rxe k) RXE.ADC_CAL.BG_EN = false ∨ s.bit (.rxe k) RXE.RX_STATUS.SIGNAL = false
    ∨ s.rd (.rxe k) RXE.RX_STATUS.ACQ_STATE < 2 ∨ 9 < s.rd (.rxe k) RXE.RX_STATUS.ACQ_STATE) : s.adcIdle k = true := by
  rcases h with h | h | h | h <;> simp [adcIdle, h]

theorem Frame.adcPass (h : Frame s u l ps) (hevent : (Page.rxe k, 0x00C) ∈ l) (hflip : (Page.rxe k, 0x018) ∈ l)
    (hlog : (Page.rxe k, 0x01C) ∈ l) (hp : StatePart.cars :: .cad :: eventParts ⊆ ps) : Frame s (u.adcPass k) l ps :=
  ((h.updCar (hp (by decide))).with_damage (hp (by decide))).rxUseAdc hevent hflip hlog hp

variable (s k) in
theorem adcPass_cells : (s.adcPass k).cad.cells = s.cad.cells := rxUse_adc_cells _ k

variable (s k) in
theorem adcPass_calAt : ((s.adcPass k).car k).calAt = s.time.toNat := by
  refine (rxUse_adc_calAt _ k).trans ?_
  exact congrArg Carrier.calAt (car_updCar s k fun c => { c with adcUe := false, calAt := s.time.toNat })

/-! ## Settings (R119) -/

/-- The register of a settings write. -/
def rxOff : RxReg → Nat
  | .rxCtrl => 0x020 | .cdCfg => 0x02C | .rxPower => 0x028

/-- The bits that a write to it sets. -/
def rxMask : RxReg → Word
  | .rxCtrl => 0x1FF | .cdCfg => 0xF03FFFF | .rxPower => 0xFFFF0000

/-- A value with a field out of range. -/
def rxBad (v : Word) : RxReg → Prop
  | .rxCtrl => RXE.RX_CTRL.CD_MODE.get v = 3 ∨ RXE.RX_CTRL.TRACK_SPEED.get v = 3 ∨ RXE.RX_CTRL.TIMING_BW.get v = 3
  | .cdCfg => RXE.CD_CFG.CD_HINT.getI v < -50000 ∨ 50000 < RXE.CD_CFG.CD_HINT.getI v
  | .rxPower => RXE.RX_POWER.LOS_LEVEL.getI v < -3000 ∨ -1000 < RXE.RX_POWER.LOS_LEVEL.getI v

variable (s k) in
/-- A value taken. -/
def rxSet (r : RxReg) (v : Word) : State := (s.wb (.rxe k) RXE.RX_STATUS.CFG_REJECT false).plainWrite (.rxe k) (rxOff r) v

variable (s k) in
/-- A value taken, and LOS_LEVEL in force where no boundary comes. -/
def rxApplied (r : RxReg) (v : Word) : State := if (s.rxSet k r v).rxRuns k then s.rxSet k r v else (s.rxSet k r v).applyLos k

variable (s k) in
theorem effRx_refused {r : RxReg} {v : Word} (h : rxBad v r) : effRx k r v s = s.wb (.rxe k) RXE.RX_STATUS.CFG_REJECT true := by
  unfold effRx
  refine if_pos ?_
  cases r with
  | rxCtrl => simpa [rxBad, or_assoc] using h
  | cdCfg =>
    have hfar : 50000 < (RXE.CD_CFG.CD_HINT.getI v).natAbs := by unfold rxBad at h; omega
    exact decide_eq_true hfar
  | rxPower => simpa [rxBad] using h

variable (s k) in
theorem effRx_taken {r : RxReg} {v : Word} (h : ¬rxBad v r)
    (hinv : (s.rxApplied k r v).rd (.rxe k) RXE.RX_CTRL.SPEC_INV = s.rd (.rxe k) RXE.RX_CTRL.SPEC_INV) :
    effRx k r v s = s.rxApplied k r v := by
  have hinto : effRx k r v s = if (s.rxApplied k r v).rd (.rxe k) RXE.RX_CTRL.SPEC_INV = s.rd (.rxe k) RXE.RX_CTRL.SPEC_INV
      then s.rxApplied k r v else (s.rxApplied k r v).rxRestart k false := by
    unfold effRx
    refine if_neg ?_
    cases r with
    | rxCtrl => simpa [rxBad, or_assoc] using h
    | cdCfg =>
      have hnear : ¬ 50000 < (RXE.CD_CFG.CD_HINT.getI v).natAbs := by unfold rxBad at h; omega
      exact fun hfar => hnear (of_decide_eq_true hfar)
    | rxPower => simpa [rxBad] using h
  rw [hinto, if_pos hinv]

/-- A write to a register without bits that a 1 clears. -/
theorem plainWrite_of_rw {p : Page} {off : Nat} {r : RegRow} (v : Word) (h : regRow p.type off = some r) (hw : r.w1c = 0) :
    s.plainWrite p off v =
      s.setWord p off ((s.word p off &&& ~~~(BitVec.ofNat 32 r.rw)) ||| (v &&& BitVec.ofNat 32 r.rw)) := by
  rw [plainWrite_of_row _ _ h, hw, BitVec.and_zero, BitVec.not_zero, BitVec.and_allOnes]

variable (s k) in
theorem rxSet_eq (r : RxReg) (v : Word) : s.rxSet k r v = (s.wb (.rxe k) RXE.RX_STATUS.CFG_REJECT false).setWord (.rxe k) (rxOff r)
    ((s.word (.rxe k) (rxOff r) &&& ~~~rxMask r) ||| (v &&& rxMask r)) := by
  have hword : (s.wb (.rxe k) RXE.RX_STATUS.CFG_REJECT false).word (.rxe k) (rxOff r) = s.word (.rxe k) (rxOff r) :=
    word_wb_other _ _ _ _ (by cases r <;> decide)
  rw [← hword]
  unfold rxSet
  cases r with
  | rxCtrl => exact plainWrite_of_rw (r := ⟨0x020, 0x112, 0x1FF, 0x0⟩) v rfl rfl
  | cdCfg => exact plainWrite_of_rw (r := ⟨0x02C, 0x4000000, 0xF03FFFF, 0x0⟩) v rfl rfl
  | rxPower => exact plainWrite_of_rw (r := ⟨0x028, 0xF768F060, 0xFFFF0000, 0x0⟩) v rfl rfl

section
variable (s k) (r : RxReg) (v : Word)

theorem rxSet_word {i : Nat} (hi : i < 0x1000 ∧ i ≠ 0x024) (h : i ≠ rxOff r) : (s.rxSet k r v).word (.rxe k) i = s.word (.rxe k) i := by
  rw [rxSet_eq, word_setWord_ne _ _ _ _ _ _ (by cases r <;> decide) hi.1 (.inr h), word_wb_other _ _ _ _ ⟨by decide, hi⟩]

theorem rxSet_status : (s.rxSet k r v).word (.rxe k) 0x024 = (s.wb (.rxe k) RXE.RX_STATUS.CFG_REJECT false).word (.rxe k) 0x024 := by
  rw [rxSet_eq, word_setWord_ne _ _ _ _ _ _ (by cases r <;> decide) (by decide) (.inr (by cases r <;> decide))]

theorem rxSet_written {f : Fld} (hoff : f.off = rxOff r) (h : ∀ i < f.w, (rxMask r).getLsbD (f.lo + i) = true) :
    (s.rxSet k r v).rd (.rxe k) f = f.get v := by
  rw [rxSet_eq, ← hoff, rd_setWord_same]
  exact f.get_merge_written _ _ _ h

theorem rxSet_kept {f : Fld} (hoff : f.off = rxOff r) (h : ∀ i < f.w, f.lo + i < 32 ∧ (rxMask r).getLsbD (f.lo + i) = false) :
    (s.rxSet k r v).rd (.rxe k) f = s.rd (.rxe k) f := by
  rw [rxSet_eq, ← hoff, rd_setWord_same]
  exact f.get_merge_kept _ _ _ h

theorem rxSet_cars : (s.rxSet k r v).cars = s.cars := by
  rw [rxSet_eq, setWord_cars, wb_cars]

theorem rxSet_rxRuns : (s.rxSet k r v).rxRuns k = s.rxRuns k :=
  rxRuns_of_rd ((rd_of_word (rxSet_status s k r v)).trans (rd_wb_other _ _ _ _ _ (by decide)))

theorem applyLos_word (p : Page) (i : Nat) : (s.applyLos k).word p i = s.word p i := by
  unfold applyLos
  dsimp only
  split <;> rfl

theorem applyLos_los : ((s.applyLos k).car k).losNow = s.rdI (.rxe k) RXE.RX_POWER.LOS_LEVEL := by
  unfold applyLos
  dsimp only
  split
  · assumption
  · rw [car_updCar]

theorem rxApplied_word (i : Nat) : (s.rxApplied k r v).word (.rxe k) i = (s.rxSet k r v).word (.rxe k) i := by
  unfold rxApplied
  split
  · rfl
  · exact applyLos_word _ _ _ _

theorem rxApplied_written {f : Fld} (hoff : f.off = rxOff r) (h : ∀ i < f.w, (rxMask r).getLsbD (f.lo + i) = true) :
    (s.rxApplied k r v).rd (.rxe k) f = f.get v :=
  (rd_of_word (rxApplied_word s k r v _)).trans (rxSet_written s k r v hoff h)

theorem rxApplied_specInv (h : r = .rxCtrl → RXE.RX_CTRL.SPEC_INV.get v = s.rd (.rxe k) RXE.RX_CTRL.SPEC_INV) :
    (s.rxApplied k r v).rd (.rxe k) RXE.RX_CTRL.SPEC_INV = s.rd (.rxe k) RXE.RX_CTRL.SPEC_INV := by
  by_cases hr : r = .rxCtrl
  · subst hr
    exact (rxApplied_written s k .rxCtrl v rfl (by decide)).trans (h rfl)
  · refine rd_of_word ((rxApplied_word s k r v _).trans (rxSet_word s k r v (by decide) ?_))
    cases r with
    | rxCtrl => exact absurd rfl hr
    | cdCfg | rxPower => decide

theorem rxApplied_reject : (s.rxApplied k r v).bit (.rxe k) RXE.RX_STATUS.CFG_REJECT = false :=
  (bit_of_word ((rxApplied_word s k r v _).trans (rxSet_status s k r v))).trans (bit_wb_same _ _ _ _ (by decide) (by decide))

theorem rxApplied_out : (s.rxApplied k r v).out = s.out := by
  have hset : (s.rxSet k r v).out = s.out := by rw [rxSet_eq, setWord_out, wb_out]
  unfold rxApplied applyLos
  dsimp only
  split
  · exact hset
  · split
    · exact hset
    · rw [updCar_out]; exact hset

theorem rxApplied_los : ((s.rxApplied k .rxPower v).car k).losNow =
    if s.rxRuns k then (s.car k).losNow else RXE.RX_POWER.LOS_LEVEL.getI v := by
  have hlevel : (s.rxSet k .rxPower v).rdI (.rxe k) RXE.RX_POWER.LOS_LEVEL = RXE.RX_POWER.LOS_LEVEL.getI v :=
    congrArg (signed 16) (rxSet_written s k .rxPower v rfl (by decide))
  unfold rxApplied
  rw [rxSet_rxRuns]
  split
  · rw [car_of_cars k (rxSet_cars s k _ v)]
  · rw [applyLos_los, hlevel]

end

theorem Frame.rxApplied {r : RxReg} {v : Word} (h : Frame s u l ps) (hset : (Page.rxe k, rxOff r) ∈ l) (hstatus : (Page.rxe k, 0x024) ∈ l)
    (hc : StatePart.cars ∈ ps) : Frame s (u.rxApplied k r v) l ps := by
  have htaken : Frame s (u.rxSet k r v) l ps := by
    rw [rxSet_eq]
    exact (h.wb (by decide) hstatus).setWord (by cases r <;> decide) hset
  exact Frame.ite (fun _ => htaken) fun _ => Frame.ite (fun _ => htaken) fun _ => htaken.updCar hc

/-! ## RX_TEST (R122) -/

variable (s k) in
/-- A test mode taken. -/
def rxTested (v : Word) : State :=
  ((s.wr (.rxe k) RXE.RX_TEST.MODE (RXE.RX_TEST.MODE.get v)).wr (.rxe k) RXE.RX_TEST.SC (RXE.RX_TEST.SC.get v)).wb (.rxe k)
    RXE.RX_TEST.PRBS_LOCK false

variable (s k) in
theorem rxTested_mode (v : Word) : (s.rxTested k v).rd (.rxe k) RXE.RX_TEST.MODE = RXE.RX_TEST.MODE.get v := by
  rw [rxTested, rd_wb_other _ _ _ _ _ (by decide), rd_wr_other _ _ _ _ _ (by decide), rd_wr_same _ _ _ _ (by decide)]
  exact Nat.mod_eq_of_lt (get_lt _ _)

variable (s k) in
theorem rxTested_sc (v : Word) : (s.rxTested k v).rd (.rxe k) RXE.RX_TEST.SC = RXE.RX_TEST.SC.get v := by
  rw [rxTested, rd_wb_other _ _ _ _ _ (by decide), rd_wr_same _ _ _ _ (by decide)]
  exact Nat.mod_eq_of_lt (get_lt _ _)

variable (s k) in
theorem rxTested_prbs (v : Word) : (s.rxTested k v).bit (.rxe k) RXE.RX_TEST.PRBS_LOCK = false := by
  unfold rxTested
  exact bit_wb_same _ _ _ _ (by decide) (by decide)

variable (s k) in
theorem rxTested_out (v : Word) : (s.rxTested k v).out = s.out := by
  unfold rxTested
  rw [wb_out, wr_out, wr_out]

theorem Frame.rxTested {v : Word} (h : Frame s u l ps) (hl : (Page.rxe k, 0x054) ∈ l) : Frame s (u.rxTested k v) l ps :=
  ((h.wr (by decide) hl).wr (by decide) hl).wb (by decide) hl

variable (s k) in
theorem effRxTest_refused {v : Word} (h : RXE.RX_TEST.MODE.get v = 1 ∨ 4 ≤ RXE.RX_TEST.MODE.get v
    ∨ RXE.RX_TEST.MODE.get v ≠ 0 ∧ s.pst (.rxe k) ≠ 6) : effRxTest k v s = s := by
  unfold effRxTest
  exact if_pos (by simpa [or_assoc] using h)

variable (s k) in
theorem effRxTest_taken {v : Word} (h : RXE.RX_TEST.MODE.get v = 0
    ∨ (RXE.RX_TEST.MODE.get v = 2 ∨ RXE.RX_TEST.MODE.get v = 3) ∧ s.pst (.rxe k) = 6) : effRxTest k v s = s.rxTested k v := by
  unfold effRxTest
  refine if_neg ?_
  simp only [Bool.or_eq_true, Bool.and_eq_true, decide_eq_true_eq]
  omega

end

end Sys2Proof.Machine.State

namespace Sys2Proof.Machine

open Sys2Proof Reg

section
variable {s : State} {k : Fin 16} {r : RxReg} {v : Word} {bits : BitVec 8} {words : List (BitVec 16)} {n : Nat}

/-! ## What the commands do -/

variable (s k bits) in
theorem exec_eqRestart : exec (.eqRestart k bits) s = s.done fun t => t.gateReg (.rxe k) 0x044
    (RXE.EQ_CTRL.RESTART.put (s.word (.rxe k) 0x044) bits.toNat)
    (State.effEqCtrl k (RXE.EQ_CTRL.RESTART.put (s.word (.rxe k) 0x044) bits.toNat)) := rfl

variable (s k bits) in
theorem exec_eqRestartDone : exec (.eqRestartDone k bits) s = s.done fun t => if t.rxRuns k then t.eqTracking k bits.toNat else t := rfl

variable (s k) in
theorem exec_eqViewCapture : exec (.eqViewCapture k) s = s.done fun t => t.gateReg (.rxe k) 0x048
    (RXE.EQ_VIEW_ADDR.CAPTURE.put (s.word (.rxe k) 0x048) 1)
    (State.effEqView k (RXE.EQ_VIEW_ADDR.CAPTURE.put (s.word (.rxe k) 0x048) 1)) := rfl

variable (s k words) in
theorem exec_eqCaptureDone : exec (.eqCaptureDone k words) s =
    s.done fun t => if t.bit (.rxe k) RXE.EQ_VIEW_ADDR.CAPTURING then t.viewStored k words else t := rfl

variable (s k n) in
theorem exec_adcBackgroundCal : exec (.adcBackgroundCal k n) s =
    s.done fun t => if t.adcIdle k then t else (t.adcPass k).useReserves (.rxe k) 2 n := rfl

variable (s k v) in
theorem exec_rxTestWrite : exec (.rxTestWrite k v) s = s.done fun t => t.gateReg (.rxe k) 0x054 v (State.effRxTest k v) := rfl

variable (s k r v) in
theorem exec_rxCtrlWrite : exec (.rxCtrlWrite k r v) s = s.done fun t => t.gateReg (.rxe k) (State.rxOff r) v (State.effRx k r v) := by
  cases r <;> rfl

/-- A command that works under a condition, where it holds. -/
theorem answers_done_if {c : Instr} {P : State → Prop} {cond : State → Bool} {f g : State → State}
    (h : exec c s = s.done fun t => if cond t then f t else g t) (hc : cond s.silent = true) (hP : P (f s.silent)) : Answers c s P :=
  answers_done _ h (show P (if cond s.silent then _ else _) by rw [if_pos hc]; exact hP)

/-- The same where it does not. -/
theorem answers_done_else {c : Instr} {P : State → Prop} {cond : State → Bool} {f g : State → State}
    (h : exec c s = s.done fun t => if cond t then f t else g t) (hc : cond s.silent = false) (hP : P (g s.silent)) : Answers c s P :=
  answers_done _ h (show P (if cond s.silent then _ else _) by rw [hc]; exact hP)

/-! ## Each command -/

theorem answers_eqRestart (hacc : s.accepts (.rxe k) 0x044 = true) : Answers (.eqRestart k bits) s fun u =>
    u.rd (.rxe k) RXE.EQ_CTRL.CONVERGED = (if bits = 0 then s.rd (.rxe k) RXE.EQ_CTRL.CONVERGED
      else s.rd (.rxe k) RXE.EQ_CTRL.CONVERGED &&& (0xFF ^^^ bits.toNat))
    ∧ u.rd (.rxe k) RXE.EQ_CTRL.FREEZE = s.rd (.rxe k) RXE.EQ_CTRL.FREEZE
    ∧ (∀ i, i < 8 → (u.car k).eqs.getD i [] = if bits.getLsbD i then eqStart else (s.car k).eqs.getD i []) ∧ u.out = []
    ∧ s.touch.Frame u ((.rxe k, 0x044) :: [(.rxe k, 0x00C), (.rxe k, 0x018), (.rxe k, 0x01C)]) (.cars :: .cad :: State.eventParts) := by
  refine answers_write _ (exec_eqRestart s k bits) (by decide) (by decide) hacc ?_
  generalize hv : RXE.EQ_CTRL.RESTART.put (s.word (.rxe k) 0x044) bits.toNat = v
  have hrestart : RXE.EQ_CTRL.RESTART.get v = bits.toNat := by
    rw [← hv, Fld.get_put_same _ _ _ (by decide)]; exact Nat.mod_eq_of_lt bits.isLt
  have hfreeze : RXE.EQ_CTRL.FREEZE.get v = s.rd (.rxe k) RXE.EQ_CTRL.FREEZE := by
    rw [← hv]; exact Fld.get_put_ne _ _ _ _ (by decide)
  -- FREEZE as it was, in either case
  let t := s.touch.silent.wr (.rxe k) RXE.EQ_CTRL.FREEZE (RXE.EQ_CTRL.FREEZE.get v)
  have htfreeze : t.rd (.rxe k) RXE.EQ_CTRL.FREEZE = s.rd (.rxe k) RXE.EQ_CTRL.FREEZE := by
    rw [State.rd_wr_same _ _ _ _ (by decide), hfreeze]; exact Nat.mod_eq_of_lt (State.get_lt _ _)
  have htconv : t.rd (.rxe k) RXE.EQ_CTRL.CONVERGED = s.rd (.rxe k) RXE.EQ_CTRL.CONVERGED :=
    (State.rd_wr_other _ _ _ _ _ (by decide)).trans (s.touch_silent_rd _ _)
  have htcar : t.car k = s.car k := (State.car_of_cars k (State.wr_cars _ _ _ _)).trans (s.touch_car k)
  have htframe : s.touch.Frame t ((.rxe k, 0x044) :: [(.rxe k, 0x00C), (.rxe k, 0x018), (.rxe k, 0x01C)])
      (.cars :: .cad :: State.eventParts) := State.Frame.silent.wr (by decide) (.head _)
  by_cases hb : bits = 0
  · subst hb
    rw [State.effEqCtrl_none _ k hrestart]
    exact ⟨htconv, htfreeze, fun i _ => by rw [htcar]; simp, rfl, htframe⟩
  · have hbits : bits.toNat ≠ 0 := fun h => hb (BitVec.eq_of_toNat_eq h)
    rw [State.effEqCtrl_restarts _ k hrestart hbits, if_neg hb]
    have hword : (t.eqCentred k bits.toNat).word (.rxe k) 0x044 = t.word (.rxe k) 0x044 := State.eqCentred_word t k _ (by decide)
    refine ⟨?_, ?_, fun i hi => ?_, ?_, ?_⟩
    · rw [State.rd_wr_same _ _ _ _ (by decide), State.rd_of_word hword, htconv]
      exact Nat.mod_eq_of_lt (Nat.and_le_left.trans_lt (State.get_lt _ _))
    · rw [State.rd_wr_other _ _ _ _ _ (by decide), State.rd_of_word hword, htfreeze]
    · rw [State.car_of_cars k (State.wr_cars _ _ _ _), State.eqCentred_eqs t k _ hi, htcar, BitVec.testBit_toNat]
    · rw [State.wr_out, State.eqCentred_out]; rfl
    · exact (htframe.eqCentred (.tail _ (.tail _ (.head _))) (by decide) (by decide)).wr (by decide) (.head _)

theorem answers_eqViewCapture (hacc : s.accepts (.rxe k) 0x048 = true) (hidle : s.bit (.rxe k) RXE.EQ_VIEW_ADDR.CAPTURING = false) :
    Answers (.eqViewCapture k) s fun u =>
      let sc := s.rd (.rxe k) RXE.EQ_VIEW_ADDR.SC
      u.bit (.rxe k) RXE.EQ_VIEW_ADDR.CAPTURING = true ∧ u.bit (.rxe k) RXE.EQ_VIEW_ADDR.CAPTURED = false
      ∧ u.car k = { s.car k with view := if (s.eqLive k).testBit sc then [] else (s.car k).eqs.getD sc [] } ∧ u.out = []
      ∧ s.touch.Frame u [(.rxe k, 0x048)] [.cars] := by
  refine answers_write _ (exec_eqViewCapture s k) (by decide) (by decide) hacc ?_
  generalize hv : RXE.EQ_VIEW_ADDR.CAPTURE.put (s.word (.rxe k) 0x048) 1 = v
  have hcapture : RXE.EQ_VIEW_ADDR.CAPTURE.get v ≠ 0 := by
    rw [← hv, Fld.get_put_same _ _ _ (by decide)]; decide
  have hsc : RXE.EQ_VIEW_ADDR.SC.get v = s.rd (.rxe k) RXE.EQ_VIEW_ADDR.SC := by
    rw [← hv]; exact Fld.get_put_ne _ _ _ _ (by decide)
  have hcar : (s.touch.silent.viewAddressed k v).car k = s.car k :=
    (State.car_of_cars k (State.viewAddressed_cars _ k v)).trans (s.touch_car k)
  have hlive : (s.touch.silent.viewAddressed k v).eqLive k = s.eqLive k :=
    (State.viewAddressed_eqLive _ k v).trans (State.eqLive_of (s.touch_word _ _) (s.touch_word _ _) (s.touch_word _ _) (s.touch_word _ _)
      (s.touch_car k))
  rw [State.effEqView_captures _ k hcapture hsc ((s.touch_silent_bit _ _).trans hidle)]
  refine ⟨State.bit_wb_same _ _ _ _ (by decide) (by decide), ?_, ?_, rfl, ?_⟩
  · exact (State.bit_wb_other _ _ _ _ _ (by decide)).trans (State.bit_wb_same _ _ _ _ (by decide) (by decide))
  · refine (State.car_of_cars k ((State.wb_cars _ _ _ _).trans (State.wb_cars _ _ _ _))).trans ?_
    rw [State.car_updCar, hlive, hcar]
  · exact (((State.Frame.silent.viewAddressed (.head _)).updCar (.head _)).wb (by decide) (.head _)).wb (by decide) (.head _)

theorem answers_eqViewCapture_busy (hacc : s.accepts (.rxe k) 0x048 = true) (hbusy : s.bit (.rxe k) RXE.EQ_VIEW_ADDR.CAPTURING = true) :
    Answers (.eqViewCapture k) s fun u =>
      u.bit (.rxe k) RXE.EQ_VIEW_ADDR.CAPTURING = true
      ∧ u.bit (.rxe k) RXE.EQ_VIEW_ADDR.CAPTURED = s.bit (.rxe k) RXE.EQ_VIEW_ADDR.CAPTURED
      ∧ u.out = [] ∧ s.touch.Frame u [(.rxe k, 0x048)] [] := by
  refine answers_write _ (exec_eqViewCapture s k) (by decide) (by decide) hacc ?_
  rw [State.effEqView_busy _ k ((s.touch_silent_bit _ _).trans hbusy)]
  refine ⟨(State.viewAddressed_bit _ k _ (by decide)).trans ((s.touch_silent_bit _ _).trans hbusy),
    (State.viewAddressed_bit _ k _ (by decide)).trans (s.touch_silent_bit _ _), rfl, State.Frame.silent.viewAddressed (.head _)⟩

theorem answers_eqCaptureDone (hbusy : s.bit (.rxe k) RXE.EQ_VIEW_ADDR.CAPTURING = true) : Answers (.eqCaptureDone k words) s fun u =>
    u.bit (.rxe k) RXE.EQ_VIEW_ADDR.CAPTURING = false ∧ u.bit (.rxe k) RXE.EQ_VIEW_ADDR.CAPTURED = true
    ∧ u.car k = { s.car k with view := if (s.car k).view = [] then words.take 248 else (s.car k).view }
    ∧ u.out = [] ∧ s.Frame u [(.rxe k, 0x018), (.rxe k, 0x048)] [.cars, .damage] := by
  refine answers_done_if (cond := fun t => t.bit (.rxe k) RXE.EQ_VIEW_ADDR.CAPTURING) (exec_eqCaptureDone s k words) hbusy
    ⟨?_, ?_, ?_, State.viewStored_out _ k words, ?_⟩
  · rw [State.bit_of_word (State.viewStored_word s.silent k words), State.bit_wb_other _ _ _ _ _ (by decide)]
    exact State.bit_wb_same _ _ _ _ (by decide) (by decide)
  · rw [State.bit_of_word (State.viewStored_word s.silent k words)]
    exact State.bit_wb_same _ _ _ _ (by decide) (by decide)
  · refine (State.car_of_cars k ((State.viewStored_frame s.silent k words).same .cars (by decide))).trans ?_
    exact State.car_updCar s.silent k fun c => { c with view := if c.view = [] then words.take 248 else c.view }
  · exact State.Frame.silent.viewStored (.head _) (.tail _ (.head _)) (by decide) (by decide)

theorem answers_adcBackgroundCal (hpass : s.adcIdle k = false) : Answers (.adcBackgroundCal k n) s fun u =>
    u.word (.rxe k) 0x024 = s.word (.rxe k) 0x024 ∧ (u.car k).calAt = s.time.toNat
    ∧ (n = 0 → u.word (.rxe k) 0x008 = s.word (.rxe k) 0x008 ∧ u.cad.cells = s.cad.cells) ∧ u.cad.cells = s.cad.cells + n
    ∧ s.Frame u ([(.rxe k, 0x008), (.cad, 0x00C), (.cad, 0x018), (.cad, CAD.CAD_LAST.POOL.off)]
      ++ [(.rxe k, 0x00C), (.rxe k, 0x018), (.rxe k, 0x01C)]) [.cars, .cad, .fresh, .ctr, .logRing, .damage] := by
  have hadc : s.Frame (s.silent.adcPass k) [(.rxe k, 0x00C), (.rxe k, 0x018), (.rxe k, 0x01C)] (.cars :: .cad :: State.eventParts) :=
    State.Frame.silent.adcPass (.head _) (.tail _ (.head _)) (.tail _ (.tail _ (.head _))) (List.Subset.refl _)
  have hreserves : (s.silent.adcPass k).Frame ((s.silent.adcPass k).useReserves (.rxe k) 2 n)
      [(.rxe k, 0x008), (.cad, 0x018), (.cad, 0x054)] (.cad :: State.eventParts) :=
    State.Frame.refl.useReserves (.head _) (fun _ h => .tail _ h) (List.Subset.refl _)
  have hcells : ((s.silent.adcPass k).useReserves (.rxe k) 2 n).cad.cells = s.cad.cells + n := by
    rw [State.useReserves_cells, State.adcPass_cells]; rfl
  refine answers_done_else (cond := fun t => t.adcIdle k) (exec_adcBackgroundCal s k n) hpass ⟨?_, ?_, fun hn => ?_, hcells, ?_⟩
  · exact (hreserves.reg (.rxe k) 0x024 (by decide) (.inl nofun) (by simp)).trans
      (hadc.reg (.rxe k) 0x024 (by decide) (.inl nofun) (by simp))
  · rw [State.car_of_cars k (hreserves.same .cars (by decide)), State.adcPass_calAt]; rfl
  · subst hn
    exact ⟨hadc.reg _ _ (by decide) (.inl nofun) (by simp), hcells⟩
  · exact (hadc.mono (fun _ h => List.mem_append_right _ h) (by decide)).trans
      (hreserves.mono (by
        intro x hx
        simp only [List.mem_cons, List.not_mem_nil, or_false] at hx
        rcases hx with rfl | rfl | rfl <;> simp [CAD.CAD_LAST.POOL]) (by decide))

theorem answers_rxCtrlWrite {P : State → Prop} (hacc : s.accepts (.rxe k) (State.rxOff r) = true)
    (hP : P (State.effRx k r v s.touch.silent)) : Answers (.rxCtrlWrite k r v) s P :=
  answers_write _ (exec_rxCtrlWrite s k r v) (by cases r <;> decide) (by cases r <;> decide) hacc hP

theorem answers_setting_refused (hacc : s.accepts (.rxe k) (State.rxOff r) = true) (hbad : State.rxBad v r) :
    Answers (.rxCtrlWrite k r v) s fun u =>
      u.bit (.rxe k) RXE.RX_STATUS.CFG_REJECT = true ∧ u.out = [] ∧ s.touch.Frame u [(.rxe k, 0x024)] [] := by
  refine answers_rxCtrlWrite hacc ?_
  rw [State.effRx_refused _ k hbad]
  exact ⟨State.bit_wb_same _ _ _ _ (by decide) (by decide), rfl, State.Frame.silent.wb (by decide) (.head _)⟩

/-- A setting in range with the spectrum's sense as it was is taken as it stands. -/
theorem answers_setting_taken {P : State → Prop} (hacc : s.accepts (.rxe k) (State.rxOff r) = true) (hgood : ¬State.rxBad v r)
    (hinv : r = .rxCtrl → RXE.RX_CTRL.SPEC_INV.get v = s.rd (.rxe k) RXE.RX_CTRL.SPEC_INV) (hP : P (s.touch.silent.rxApplied k r v)) :
    Answers (.rxCtrlWrite k r v) s P := by
  have hsame : r = .rxCtrl → RXE.RX_CTRL.SPEC_INV.get v = s.touch.silent.rd (.rxe k) RXE.RX_CTRL.SPEC_INV :=
    fun h => (hinv h).trans (s.touch_silent_rd _ _).symm
  refine answers_rxCtrlWrite hacc ?_
  rw [State.effRx_taken _ k hgood (State.rxApplied_specInv _ k r v hsame)]
  exact hP

/-- What a setting taken leaves. -/
theorem setting_frame : s.touch.Frame (s.touch.silent.rxApplied k r v) [(.rxe k, State.rxOff r), (.rxe k, 0x024)] [.cars] :=
  State.Frame.silent.rxApplied (.head _) (.tail _ (.head _)) (.head _)

theorem setting_written {f : Fld} (hf : f.off = State.rxOff r) (hm : ∀ i < f.w, (State.rxMask r).getLsbD (f.lo + i) = true) :
    (s.touch.silent.rxApplied k r v).rd (.rxe k) f = f.get v := State.rxApplied_written _ k r v hf hm

/-- The measured power is not of the setting. -/
theorem setting_measured :
    (s.touch.silent.rxApplied k .rxPower v).rd (.rxe k) RXE.RX_POWER.MEASURED = s.rd (.rxe k) RXE.RX_POWER.MEASURED :=
  (State.rd_of_word (State.rxApplied_word _ k _ v _)).trans ((State.rxSet_kept _ k _ v rfl (by decide)).trans (s.touch_silent_rd _ _))

theorem setting_los : ((s.touch.silent.rxApplied k .rxPower v).car k).losNow =
    if s.rxRuns k then (s.car k).losNow else RXE.RX_POWER.LOS_LEVEL.getI v := by
  have hruns : s.touch.silent.rxRuns k = s.rxRuns k := State.rxRuns_of_rd (s.touch_silent_rd _ _)
  rw [State.rxApplied_los, hruns, s.touch_car k]

theorem answers_rxTest_taken (hacc : s.accepts (.rxe k) 0x054 = true) (h : RXE.RX_TEST.MODE.get v = 0
    ∨ (RXE.RX_TEST.MODE.get v = 2 ∨ RXE.RX_TEST.MODE.get v = 3) ∧ s.pst (.rxe k) = 6) : Answers (.rxTestWrite k v) s fun u =>
      u.rd (.rxe k) RXE.RX_TEST.MODE = RXE.RX_TEST.MODE.get v ∧ u.rd (.rxe k) RXE.RX_TEST.SC = RXE.RX_TEST.SC.get v
      ∧ u.bit (.rxe k) RXE.RX_TEST.PRBS_LOCK = false ∧ u.out = [] ∧ s.touch.Frame u [(.rxe k, 0x054)] [] := by
  have hmode : s.touch.silent.pst (.rxe k) = s.pst (.rxe k) := s.touch_silent_rd (.rxe k) HDR.PAGE_STATE.STATE
  refine answers_write _ (exec_rxTestWrite s k v) (by decide) (by decide) hacc ?_
  rw [State.effRxTest_taken _ k (by rw [hmode]; exact h)]
  exact ⟨State.rxTested_mode _ k v, State.rxTested_sc _ k v, State.rxTested_prbs _ k v, State.rxTested_out _ k v,
    State.Frame.silent.rxTested (.head _)⟩

theorem answers_rxTest_refused (hacc : s.accepts (.rxe k) 0x054 = true) (h : RXE.RX_TEST.MODE.get v = 1
    ∨ 4 ≤ RXE.RX_TEST.MODE.get v ∨ RXE.RX_TEST.MODE.get v ≠ 0 ∧ s.pst (.rxe k) ≠ 6) :
    Answers (.rxTestWrite k v) s fun u => u.out = [] ∧ s.touch.Frame u [] [] := by
  have hmode : s.touch.silent.pst (.rxe k) = s.pst (.rxe k) := s.touch_silent_rd (.rxe k) HDR.PAGE_STATE.STATE
  refine answers_write _ (exec_rxTestWrite s k v) (by decide) (by decide) hacc ?_
  rw [State.effRxTest_refused _ k (by rw [hmode]; exact h)]
  exact ⟨rfl, State.Frame.silent⟩

end

/-- Settles O28: each command by the lemma of its own; a refused capture, calibration or test changes nothing. -/
theorem receiverSettings : Obligations.receiverSettings := by
  unfold Obligations.receiverSettings
  intro s k r v bits words n p off bad mem m acq
  have hoff : off = State.rxOff r := by cases r <;> rfl
  have hbad : bad = State.rxBad v r := by cases r <;> rfl
  refine ⟨answers_eqRestart, fun hruns => ?_, answers_eqViewCapture, answers_eqViewCapture_busy, answers_eqCaptureDone, fun hidle => ?_,
    fun hen hbg hpst hsig hlow hhigh => answers_adcBackgroundCal (State.adcIdle_eq_false hen hbg hpst hsig hlow hhigh), fun hno => ?_,
    fun hacc h => ?_, fun hacc h hinv => ?_, answers_rxTest_taken, answers_rxTest_refused⟩
  · exact answers_done_if (cond := fun t => t.rxRuns k) (exec_eqRestartDone s k bits) hruns
      ⟨State.eqTracking_converged bits.isLt, (State.car_of_cars k (State.wr_cars _ _ _ _)).trans (State.car_updCar _ k _), rfl,
        (State.Frame.silent.updCar (.head _)).wr (by decide) (.head _)⟩
  · exact answers_done_else (cond := fun t => t.bit (.rxe k) RXE.EQ_VIEW_ADDR.CAPTURING) (exec_eqCaptureDone s k words) hidle
      ⟨rfl, State.Frame.silent⟩
  · exact answers_done_if (cond := fun t => t.adcIdle k) (exec_adcBackgroundCal s k n) (State.adcIdle_eq_true hno)
      ⟨rfl, State.Frame.silent⟩
  · rw [hoff] at hacc
    rw [hbad] at h
    exact answers_setting_refused hacc h
  · rw [hoff] at hacc ⊢
    rw [hbad] at h
    refine answers_setting_taken hacc h hinv
      ⟨State.rxApplied_reject _ k r v, ?_, State.rxApplied_out _ k r v, setting_frame⟩
    cases r with
    | rxCtrl => exact ⟨setting_written rfl (by decide), setting_written rfl (by decide), setting_written rfl (by decide),
        setting_written rfl (by decide), setting_written rfl (by decide)⟩
    | cdCfg => exact ⟨setting_written rfl (by decide), setting_written rfl (by decide)⟩
    | rxPower => exact ⟨setting_written rfl (by decide), setting_measured, setting_los⟩

end Sys2Proof.Machine
end

section
/-! PROOFS. Holdover, loss of lock and phase slips of a receiver (R109, R110, R115). Settles O27. -/
namespace Sys2Proof.Machine

/-! ## The soft values of erased quadratures (R110) -/

/-- A partial sum of the exponential series only grows, from an argument not below 0. -/
theorem expFold_le {x : ℚ} (hx : 0 ≤ x) (l : List Nat) (a : ℚ × ℚ) (ht : 0 ≤ a.2) :
    a.1 ≤ (l.foldl (fun (a : ℚ × ℚ) i => (a.1 + a.2, a.2 * x / (i + 1 : Nat))) a).1 := by
  induction l generalizing a with
  | nil => exact le_rfl
  | cons i l ih =>
    have hterm : 0 ≤ a.2 * x / ((i + 1 : Nat) : ℚ) := div_nonneg (mul_nonneg ht hx) (Nat.cast_nonneg _)
    exact (le_add_of_nonneg_right ht).trans (ih (a.1 + a.2, a.2 * x / ((i + 1 : Nat) : ℚ)) hterm)

theorem one_le_expSum {x : ℚ} (hx : 0 ≤ x) : 1 ≤ expSum x := by
  have hfirst : (0 : ℚ) ≤ 1 * x / ((0 + 1 : Nat) : ℚ) := by simpa using hx
  have hrest := expFold_le hx ((List.range 79).map Nat.succ) (0 + 1, 1 * x / ((0 + 1 : Nat) : ℚ)) hfirst
  unfold expSum
  rw [List.range_succ_eq_map, List.foldl_cons]
  exact (le_of_eq (zero_add 1).symm).trans hrest

/-- Equal likelihoods favour no value. -/
theorem softMag_self (p : Nat) : softMag p p = 0 := by
  unfold softMag
  by_cases hp : p = 0
  · simp [hp]
  · rw [if_neg hp, List.countP_eq_zero]
    intro n _
    have hexp : (1 : ℚ) ≤ expSum ((2 * n + 1 : Nat) / 4) := one_le_expSum (by positivity)
    have hscaled : (p : ℚ) ≤ expSum ((2 * n + 1 : Nat) / 4) * p := le_mul_of_one_le_left (Nat.cast_nonneg p) hexp
    simpa using hscaled

theorem softValue_self (p : Nat) : softValue p p = 0 := by
  unfold softValue
  rw [if_pos le_rfl, softMag_self]
  rfl

theorem softSign_none (ns : List Nat) (var : Nat) : softSign ns var none = 0 :=
  softValue_self (List.zipWith (fun n _ => n * 1) ns amplitudes).sum

theorem softOuter_none (var : Nat) : softOuter var none = 0 := by
  show (if Config.zrInner then softValue (1 + 1) (1 + 1) else softValue (1 + 1) (1 + 1)) = 0
  rw [softValue_self, ite_self]

/-- Where each quadrature from the last of the first block on is erased, every block gives zeros. -/
theorem softBlocks_erased (code var n : Nat) (l : List (Option Int)) (h : ∀ y ∈ l.drop (blockLen - 1), y = none) :
    ∀ x ∈ (softBlocks code var l n).1, x = 0 := by
  induction n generalizing l with
  | zero => exact fun _ hx => absurd hx List.not_mem_nil
  | succ n ih =>
    unfold softBlocks
    split
    · exact fun _ hx => absurd hx List.not_mem_nil
    next hlen =>
      have hlast : blockLen - 1 < l.length := by unfold blockLen at hlen ⊢; omega
      have hmem : l[blockLen - 1] ∈ l.take blockLen :=
        List.mem_take_iff_getElem.2 ⟨blockLen - 1, by unfold blockLen at hlen ⊢; omega, rfl⟩
      have hnone : l[blockLen - 1] = none := h _ (by rw [List.drop_eq_getElem_cons hlast]; exact .head _)
      have hgap : ¬(l.take blockLen).all Option.isSome = true := fun hall => by
        have hsome := List.all_eq_true.1 hall _ hmem
        rw [hnone] at hsome
        exact absurd hsome (by decide)
      have hrest : ∀ y ∈ (l.drop blockLen).drop (blockLen - 1), y = none := fun y hy => by
        rw [List.drop_drop] at hy
        refine h y ?_
        rw [show blockLen + (blockLen - 1) = (blockLen - 1) + blockLen from Nat.add_comm _ _, ← List.drop_drop] at hy
        exact List.mem_of_mem_drop hy
      intro x hx
      dsimp only at hx
      rw [if_neg hgap] at hx
      rcases List.mem_append.1 hx with hx | hx
      · exact List.eq_of_mem_replicate hx
      · exact ih _ hrest x hx

namespace State

open Sys2Proof Reg

/-! ## Blocks to the demapper (R109, R110) -/

/-- The quadratures of a block, none of them known where it is erased. -/
def blockValues (b : PhaseBlock) (erased : Bool) : List (Option Int) :=
  b.ys.flatMap fun y => [y.1, y.2.1, y.2.2.1, y.2.2.2].map fun v => if erased then none else some v

theorem blockValues_erased (b : PhaseBlock) : ∀ y ∈ blockValues b true, y = none := by
  intro y hy
  obtain ⟨z, -, hz⟩ := List.mem_flatMap.1 hy
  obtain ⟨v, -, rfl⟩ := List.mem_map.1 hz
  rfl

section
variable (s : State) (k : Fin 16) (sc : Fin 8)

/-- A demapped block of erased quadratures brings zeros alone, with the matcher block that began before it. -/
theorem demapBlock_zeros {ys : List (Option Int)} (hout : s.out = []) (hys : ∀ y ∈ ys, y = none) :
    ∀ o ∈ (s.demapBlock k sc ys).out, ∃ signs amps, o = .soft k sc signs amps ∧ (∀ x ∈ signs, x = 0)
      ∧ (((s.car k).demap.getD sc.val []).length < blockLen → ∀ x ∈ amps, x = 0) := by
  have hmap {f : Option Int → Int} (hf : f none = 0) : ∀ x ∈ ys.map f, x = 0 := fun x hx => by
    obtain ⟨y, hy, rfl⟩ := List.mem_map.1 hx
    rw [hys y hy]
    exact hf
  unfold demapBlock
  extract_lets c var code l
  intro o ho
  split at ho
  · obtain rfl : o = _ := by simpa [emit, hout] using ho
    exact ⟨_, _, rfl, hmap (softSign_none _ _), fun _ => hmap (softOuter_none _)⟩
  · split at ho
    · rw [hout] at ho
      exact absurd ho List.not_mem_nil
    · obtain rfl : o = _ := by simpa [emit, hout] using ho
      refine ⟨_, _, rfl, hmap (softSign_none _ _), fun hshort => softBlocks_erased _ _ _ _ fun y hy => ?_⟩
      by_cases hcode : code = 0
      · simp [l, hcode] at hy
      · have hl : l = (s.car k).demap.getD sc.val [] ++ ys := if_neg hcode
        rw [hl, List.drop_append, List.drop_eq_nil_of_le (by omega), List.nil_append] at hy
        exact hys y (List.mem_of_mem_drop hy)

theorem demapBlock_phase (ys : List (Option Int)) : ((s.demapBlock k sc ys).car k).phase = (s.car k).phase := by
  unfold demapBlock
  extract_lets c var code l
  split
  · rfl
  · split
    · rfl
    · show ((s.updCar k fun c => { c with demap := c.demap.set sc.val (softBlocks code var l (l.length / blockLen)).2 }).car k).phase = _
      rw [car_updCar]

variable {s k sc} in
theorem Frame.demapBlock {v : State} {l : List (Page × Nat)} {ps : List StatePart} {ys : List (Option Int)} (h : Frame v s l ps)
    (hc : StatePart.cars ∈ ps) : Frame v (s.demapBlock k sc ys) l ps :=
  Frame.ite (fun _ => h.emit) fun _ => Frame.ite (fun _ => h) fun _ => (h.updCar hc).emit

variable (b : PhaseBlock)

/-- How far off the closing pilot the tracked phase comes. -/
def phaseOffset : Int := (((s.car k).phase.getD sc.val none).getD b.opening + b.drift - b.closing + 512) % 1024 - 512

/-- The block is a slip. -/
def phaseSlips : Bool := s.bit (.rxe k) RXE.RX_STATUS.LOCKED && decide (256 ≤ (s.phaseOffset k sc b).natAbs)

/-- The phase anchored on the closing pilot, where the receiver tracks. -/
def phaseAnchored : State :=
  if s.bit (.rxe k) RXE.RX_STATUS.LOCKED then s.updCar k fun c => { c with phase := c.phase.set sc.val (some (b.closing % 1024)) } else s

/-- A slip counts. -/
def slipCounted : State := (s.count (.rxe k) 1 1).raiseFirst (.rxe k) 5

/-- A block's phase resolved, before its quadratures go on. -/
def phaseMarked : State := if s.phaseSlips k sc b then (s.phaseAnchored k sc b).slipCounted k else s.phaseAnchored k sc b

/-- The block's quadratures are erased. -/
def phaseErased : Bool :=
  s.phaseSlips k sc b || !(s.phaseMarked k sc b).bit (.rxe k) RXE.RX_STATUS.LOCKED || (s.car k).gap.testBit sc.val
    || (s.car k).eqRestart.testBit sc.val || (s.phaseMarked k sc b).mapIsLost k

/-- The gap of a receive slip ends with the block. -/
def gapEnds : State := s.updCar k fun c => { c with gap := putBit c.gap sc.val false }

theorem phaseBlock_eq (hruns : s.rxRuns k = true) (hon : (s.rxOnMask k).testBit sc.val = true) :
    s.phaseBlock k sc b = ((s.phaseMarked k sc b).gapEnds k sc).demapBlock k sc (blockValues b (s.phaseErased k sc b)) := by
  unfold phaseBlock
  refine if_neg ?_
  rw [hruns, hon]
  decide

theorem phaseBlock_none (h : s.rxRuns k = false ∨ (s.rxOnMask k).testBit sc.val = false) : s.phaseBlock k sc b = s := by
  unfold phaseBlock
  refine if_pos ?_
  rcases h with h | h <;> simp [h]

variable {s k sc b} in
theorem phaseAnchored_locked (h : s.bit (.rxe k) RXE.RX_STATUS.LOCKED = true) :
    s.phaseAnchored k sc b = s.updCar k fun c => { c with phase := c.phase.set sc.val (some (b.closing % 1024)) } := if_pos h

theorem gapEnds_car : (s.gapEnds k sc).car k = { s.car k with gap := putBit (s.car k).gap sc.val false } := car_updCar s k _

theorem raiseFirst_out (p : Page) (n : Nat) : (s.raiseFirst p n).out = s.out := by
  unfold raiseFirst
  split
  · rfl
  · exact raise_out _ _ _

theorem raiseFirst_cars (p : Page) (n : Nat) : (s.raiseFirst p n).cars = s.cars := by
  unfold raiseFirst
  split
  · rfl
  · exact raise_cars _ _ _

theorem raiseFirst_bit {p : Page} {n : Nat} (hp : p ≠ .log) (hn : n < 32) : ((s.raiseFirst p n).word p 0x00C).getLsbD n = true := by
  unfold raiseFirst
  split
  · assumption
  · exact raise_bit s hp hn

/-- No log entry counts outside of LOG's own counters. -/
theorem log_counter (kind sec pg code arg : Nat) {a : Nat} (h : 0x210 ≤ a) :
    (s.log kind sec pg code arg).ctr.get (fun _ => 0) a = s.ctr.get (fun _ => 0) a := by
  have hstore (v : State) (kind sec pg code arg : Nat) :
      (v.logStore kind sec pg code arg).2.ctr.get (fun _ => 0) a = v.ctr.get (fun _ => 0) a :=
    (logStore_ctr v kind sec pg code arg a (by omega)).trans (countAt_get_ne v 0x200 a 1 (by omega))
  rcases log_cases s kind sec pg code arg with e | ⟨n, e⟩ <;> rw [e]
  · exact hstore s _ _ _ _ _
  · unfold logEvent
    dsimp only
    split
    · rw [hstore, setWord_ctr, hstore]
    · rw [setWord_ctr, hstore]

theorem raiseFirst_counter (p : Page) (n : Nat) {a : Nat} (h : 0x210 ≤ a) :
    (s.raiseFirst p n).ctr.get (fun _ => 0) a = s.ctr.get (fun _ => 0) a := by
  unfold raiseFirst raise
  dsimp only
  split
  · rfl
  · split
    · rw [log_counter _ _ _ _ _ _ h, setWord_ctr]
    · rw [setWord_ctr]

theorem ctrBase_rxe : 0x210 ≤ ctrBase (.rxe k) + 8 := by
  unfold ctrBase
  show 0x210 ≤ 0x800 * (Page.rxe k).sec + 0x100 * (Page.rxe k).index + 8
  have hsec : 1 ≤ (Page.rxe k).sec := by revert k; decide
  omega

theorem slipCounted_slips : (s.slipCounted k).ctr.get (fun _ => 0) (ctrBase (.rxe k) + 8)
    = min (s.ctr.get (fun _ => 0) (ctrBase (.rxe k) + 8) + 1) (2 ^ 40 - 1) :=
  (raiseFirst_counter _ _ _ (ctrBase_rxe k)).trans (countAt_get_same s (ctrBase (.rxe k) + 8) 1)

theorem slipCounted_out : (s.slipCounted k).out = s.out := (raiseFirst_out _ _ _).trans (count_out s _ _ _)

theorem slipCounted_cars : (s.slipCounted k).cars = s.cars := (raiseFirst_cars _ _ _).trans (count_cars s _ _ _)

variable {s k} in
theorem Frame.slipCounted {v : State} {l : List (Page × Nat)} {ps : List StatePart} (h : Frame v s l ps) (hl : (Page.rxe k, 0x00C) ∈ l)
    (hp : eventParts ⊆ ps) : Frame v (s.slipCounted k) l ps :=
  Frame.ite (fun _ => h.count (hp (by decide))) fun _ =>
    (h.count (hp (by decide))).raise hl (hp (by decide)) (hp (by decide)) (hp (by decide))

/-! ### A block in each state of the receiver -/

section
variable {s k sc b}

theorem phaseBlock_slip (hruns : s.rxRuns k = true) (hon : (s.rxOnMask k).testBit sc.val = true)
    (hlocked : s.bit (.rxe k) RXE.RX_STATUS.LOCKED = true) (hoff : 256 ≤ (s.phaseOffset k sc b).natAbs) :
    s.phaseBlock k sc b = (((s.phaseAnchored k sc b).slipCounted k).gapEnds k sc).demapBlock k sc (blockValues b true) := by
  have hslip : s.phaseSlips k sc b = true := by simp [phaseSlips, hlocked, hoff]
  have hmarked : s.phaseMarked k sc b = (s.phaseAnchored k sc b).slipCounted k := if_pos hslip
  have herased : s.phaseErased k sc b = true := by simp [phaseErased, hslip]
  rw [phaseBlock_eq s k sc b hruns hon, hmarked, herased]

theorem phaseBlock_tracked (hruns : s.rxRuns k = true) (hon : (s.rxOnMask k).testBit sc.val = true)
    (hoff : (s.phaseOffset k sc b).natAbs < 256) :
    s.phaseBlock k sc b = ((s.phaseAnchored k sc b).gapEnds k sc).demapBlock k sc (blockValues b (s.phaseErased k sc b)) := by
  have hslip : s.phaseSlips k sc b = false := by simp [phaseSlips, hoff]
  have hmarked : s.phaseMarked k sc b = s.phaseAnchored k sc b := if_neg (by simp [hslip])
  rw [phaseBlock_eq s k sc b hruns hon, hmarked]

theorem phaseBlock_holdover (hruns : s.rxRuns k = true) (hon : (s.rxOnMask k).testBit sc.val = true)
    (hlocked : s.bit (.rxe k) RXE.RX_STATUS.LOCKED = false) :
    s.phaseBlock k sc b = (s.gapEnds k sc).demapBlock k sc (blockValues b true) := by
  have hslip : s.phaseSlips k sc b = false := by simp [phaseSlips, hlocked]
  have hanchored : s.phaseAnchored k sc b = s := if_neg (by simp [hlocked])
  have hmarked : s.phaseMarked k sc b = s := (if_neg (by simp [hslip])).trans hanchored
  have herased : s.phaseErased k sc b = true := by simp [phaseErased, hmarked, hlocked]
  rw [phaseBlock_eq s k sc b hruns hon, hmarked, herased]

end

end

/-! ## A receiver that loses its lock (R115) -/

section
variable (s : State) (k : Fin 16)

/-- The state at which acquisition begins: off, waiting for the laser, for light, or at GAIN. -/
def restartState : Nat :=
  if s.runs (.rxe k) then if s.bit (.txo k) TXO.TX_STATUS.LOCKED then if s.bit (.rxe k) RXE.RX_STATUS.SIGNAL then 2 else 1 else 10 else 0

theorem restartState_lt : s.restartState k < 16 := by
  unfold restartState
  split
  · split
    · split <;> decide
    · decide
  · decide

/-- The receiver at the beginning, its lock not yet dropped from the decoder. -/
def lockGone (fast : Bool) : State :=
  (((((((s.wr (.rxe k) RXE.RX_STATUS.ACQ_STATE (s.restartState k)).wb (.rxe k) RXE.RX_STATUS.LOCKED false).updCar k fun c =>
    { c with fast := fast && s.bit (.rxe k) RXE.RX_CTRL.REACQ_FAST, failRaised := false, eqRestart := 0, gap := 0 }).wr (.rxe k)
      RXE.RX_STATUS.SNR_VALID 0).setWord (.rxe k) 0x03C 0).setWord (.rxe k) 0x040 0).wr (.rxe k) RXE.EQ_CTRL.CONVERGED 0)

theorem rxRestart_of_holdover (fast : Bool) (h : s.rd (.rxe k) RXE.RX_STATUS.ACQ_STATE = 9) :
    s.rxRestart k fast = (s.lockGone k fast).dropCw k := by
  unfold rxRestart lockGone
  extract_lets p old n s1 lock re s2 s3
  have hold : old = 9 := h
  have hlock : lock = true := by simp [lock, hold]
  have hn : n = s.restartState k := by
    unfold n restartState
    cases s.runs (.rxe k) <;> cases s.bit (.txo k) TXO.TX_STATUS.LOCKED <;> rfl
  have hre : re = s.bit (.rxe k) RXE.RX_CTRL.REACQ_FAST := by
    unfold re s1
    rw [bit_wb_other _ _ _ _ _ (by decide), bit_wr_other _ _ _ _ _ (by decide)]
  rw [if_pos hlock]
  simp only [s3, s2, s1, p, hlock, hre, hn, Bool.not_true, Bool.and_false]

theorem dropCw_rxe {i : Nat} (hi : i < 0x1000) : (s.dropCw k).word (.rxe k) i = s.word (.rxe k) i := by
  unfold dropCw
  extract_lets s1 s2
  split
  · rfl
  · have h2 : s2.word (.rxe k) i = s.word (.rxe k) i :=
      word_wr_ne s1 (.lfe k) (.rxe k) LFE.FEC_STATUS.CW_LOCK i 0 (by decide) hi (.inl nofun)
    unfold raiseIf
    split
    · exact (raise_word s2 (.lfe k) (.rxe k) 11 i hi (.inl nofun) (.inl nofun)).trans h2
    · exact h2

theorem dropCw_car : (s.dropCw k).car k = { s.car k with cwGood := 0, cwBad := 0, outer := Outer.empty, ueBlocks := [] } := by
  have hcar := car_updCar s k fun c => { c with cwGood := 0, cwBad := 0, outer := Outer.empty, ueBlocks := [] }
  unfold dropCw
  dsimp only
  split
  · exact hcar
  · refine (car_of_cars k ?_).trans hcar
    rw [raiseIf_cars, count_cars, wb_cars]

theorem lockGone_acq (fast : Bool) : (s.lockGone k fast).rd (.rxe k) RXE.RX_STATUS.ACQ_STATE = s.restartState k := by
  unfold lockGone
  rw [rd_wr_other _ _ _ _ _ (by decide), rd_setWord_ne _ _ _ _ _ _ (by decide) (by decide) (.inr (by decide)),
    rd_setWord_ne _ _ _ _ _ _ (by decide) (by decide) (.inr (by decide)), rd_wr_other _ _ _ _ _ (by decide), updCar_rd,
    rd_wb_other _ _ _ _ _ (by decide), rd_wr_same _ _ _ _ (by decide)]
  exact Nat.mod_eq_of_lt (restartState_lt s k)

theorem lockGone_snr (fast : Bool) : (s.lockGone k fast).rd (.rxe k) RXE.RX_STATUS.SNR_VALID = 0 := by
  unfold lockGone
  rw [rd_wr_other _ _ _ _ _ (by decide), rd_setWord_ne _ _ _ _ _ _ (by decide) (by decide) (.inr (by decide)),
    rd_setWord_ne _ _ _ _ _ _ (by decide) (by decide) (.inr (by decide))]
  exact rd_wr_same _ _ _ _ (by decide)

theorem lockGone_converged (fast : Bool) : (s.lockGone k fast).rd (.rxe k) RXE.EQ_CTRL.CONVERGED = 0 := by
  unfold lockGone
  exact rd_wr_same _ _ _ _ (by decide)

theorem lockGone_car (fast : Bool) : (s.lockGone k fast).car k =
    { s.car k with fast := fast && s.bit (.rxe k) RXE.RX_CTRL.REACQ_FAST, failRaised := false, eqRestart := 0, gap := 0 } := by
  unfold lockGone
  rw [car_of_cars k (wr_cars _ _ _ _), car_of_cars k (setWord_cars _ _ _ _), car_of_cars k (setWord_cars _ _ _ _),
    car_of_cars k (wr_cars _ _ _ _), car_updCar, car_of_cars k (wb_cars _ _ _ _), car_of_cars k (wr_cars _ _ _ _)]

theorem rxRestart_event (fast : Bool) : (s.rxRestart k fast).word (.rxe k) 0x00C = s.word (.rxe k) 0x00C :=
  (Frame.refl.rxRestart (List.Subset.refl _) (List.Subset.refl _)).reg _ _ (by decide) (.inl nofun) (by simp [rxRegs])

/-- The loss of lock shown and counted. -/
def lossCounted : State := (s.raise (.rxe k) 4).count (.rxe k) 3 1

theorem lossCounted_word {p : Page} {i : Nat} (hi : i < 0x1000) (hp : p ≠ .log) (h : p ≠ .rxe k ∨ i ≠ 0x00C) :
    (s.lossCounted k).word p i = s.word p i := by
  unfold lossCounted
  rw [count_word]
  exact raise_word s _ _ _ _ hi h (.inl hp)

theorem lossCounted_restart : (s.lossCounted k).restartState k = s.restartState k := by
  have hruns : (s.lossCounted k).runs (.rxe k) = s.runs (.rxe k) := by
    have henabled : (s.lossCounted k).enabled (.rxe k) = s.enabled (.rxe k) :=
      bit_of_word (lossCounted_word s k (by decide) nofun (.inr (by decide)))
    have hstart : (s.lossCounted k).start = s.start := (count_start _ _ _ _).trans (raise_start s _ _)
    have hcad : (s.lossCounted k).cad = s.cad := (count_cad _ _ _ _).trans (raise_cad s _ _)
    unfold runs dieUp broken lostTiles
    rw [henabled, hstart, hcad]
  have hlaser : (s.lossCounted k).bit (.txo k) TXO.TX_STATUS.LOCKED = s.bit (.txo k) TXO.TX_STATUS.LOCKED :=
    bit_of_word (lossCounted_word s k (by decide) nofun (.inl nofun))
  have hsignal : (s.lossCounted k).bit (.rxe k) RXE.RX_STATUS.SIGNAL = s.bit (.rxe k) RXE.RX_STATUS.SIGNAL :=
    bit_of_word (lossCounted_word s k (by decide) nofun (.inr (by decide)))
  unfold restartState
  rw [hruns, hlaser, hsignal]

theorem lossCounted_event : ((s.lossCounted k).word (.rxe k) 0x00C).getLsbD 4 = true := by
  unfold lossCounted
  rw [count_word]
  exact raise_bit s nofun (by decide)

/-! ## Into HOLDOVER and out of it (R108, R115) -/

theorem rxHold_of_locked (h : s.rd (.rxe k) RXE.RX_STATUS.ACQ_STATE = 8) : s.rxHold k =
    ((s.wr (.rxe k) RXE.RX_STATUS.ACQ_STATE 9).wb (.rxe k) RXE.RX_STATUS.LOCKED false).count (.rxe k) 2 1 := if_neg (not_not.2 h)

theorem rxHold_acq (h : s.rd (.rxe k) RXE.RX_STATUS.ACQ_STATE = 8) : (s.rxHold k).rd (.rxe k) RXE.RX_STATUS.ACQ_STATE = 9 := by
  rw [rxHold_of_locked s k h, count_rd, rd_wb_other _ _ _ _ _ (by decide)]
  exact rd_wr_same _ _ _ _ (by decide)

theorem rxHold_locked (h : s.rd (.rxe k) RXE.RX_STATUS.ACQ_STATE = 8) : (s.rxHold k).bit (.rxe k) RXE.RX_STATUS.LOCKED = false := by
  rw [rxHold_of_locked s k h, count_bit]
  exact bit_wb_same _ _ _ _ (by decide) (by decide)

theorem rxHold_of_unlocked (h : s.rd (.rxe k) RXE.RX_STATUS.ACQ_STATE ≠ 8) : s.rxHold k = s := if_pos h

/-- HOLDOVER ends: frequency and phase are estimated anew. -/
def holdoverEnds : State :=
  (((({ s with fresh := s.fresh + 1 } : State).updCar k fun c => { c with phase := List.replicate 8 none }).wr (.rxe k)
    RXE.RX_STATUS.ACQ_STATE 8).wb (.rxe k) RXE.RX_STATUS.LOCKED true).wr (.rxe k) RXE.CARRIER_OFS.FREQ_OFS (Config.freqBack s.fresh).toNat

theorem holdoverEnds_acq : (s.holdoverEnds k).rd (.rxe k) RXE.RX_STATUS.ACQ_STATE = 8 := by
  unfold holdoverEnds
  rw [rd_wr_other _ _ _ _ _ (by decide), rd_wb_other _ _ _ _ _ (by decide)]
  exact rd_wr_same _ _ _ _ (by decide)

theorem holdoverEnds_locked : (s.holdoverEnds k).bit (.rxe k) RXE.RX_STATUS.LOCKED = true := by
  unfold holdoverEnds
  rw [bit_wr_other _ _ _ _ _ (by decide)]
  exact bit_wb_same _ _ _ _ (by decide) (by decide)

theorem holdoverEnds_clock : (s.holdoverEnds k).rd (.rxe k) RXE.CARRIER_OFS.CLOCK_OFS = s.rd (.rxe k) RXE.CARRIER_OFS.CLOCK_OFS := by
  unfold holdoverEnds
  rw [rd_wr_other _ _ _ _ _ (by decide), rd_wb_other _ _ _ _ _ (by decide), rd_wr_other _ _ _ _ _ (by decide), updCar_rd, with_fresh_rd]

theorem holdoverEnds_fresh : (s.holdoverEnds k).fresh = s.fresh + 1 := by
  unfold holdoverEnds
  rw [wr_fresh, wb_fresh, wr_fresh, updCar_fresh]

theorem holdoverEnds_out : (s.holdoverEnds k).out = s.out := by
  unfold holdoverEnds
  rw [wr_out, wb_out, wr_out, updCar_out, with_fresh_out]

theorem holdoverEnds_car : (s.holdoverEnds k).car k = { s.car k with phase := List.replicate 8 none } := by
  unfold holdoverEnds
  rw [car_of_cars k (wr_cars _ _ _ _), car_of_cars k (wb_cars _ _ _ _), car_of_cars k (wr_cars _ _ _ _), car_updCar,
    car_of_cars k (with_fresh_cars s _)]

variable {s k} in
theorem Frame.holdoverEnds {v : State} {l : List (Page × Nat)} {ps : List StatePart} (h : Frame v s l ps)
    (hstatus : (Page.rxe k, 0x024) ∈ l) (hofs : (Page.rxe k, 0x034) ∈ l) (hf : StatePart.fresh ∈ ps) (hc : StatePart.cars ∈ ps) :
    Frame v (s.holdoverEnds k) l ps :=
  ((((h.with_fresh hf).updCar hc).wr (by decide) hstatus).wb (by decide) hstatus).wr (by decide) hofs

end

end State

/-! ## The commands -/

open Sys2Proof Reg

section
variable {s : State} {k : Fin 16} {c : HoldoverCause} {sc : Fin 8} {b : PhaseBlock}

variable (s k c) in
theorem exec_holdoverEntry : exec (.holdoverEntry k c) s =
    s.done fun t => if c = .signal && t.bit (.rxe k) RXE.RX_STATUS.SIGNAL then t else t.rxHold k := rfl

variable (s k) in
theorem exec_holdoverExit : exec (.holdoverExit k) s =
    s.done fun t => if t.rd (.rxe k) RXE.RX_STATUS.ACQ_STATE = 9 then t.holdoverEnds k else t := rfl

variable (s k) in
theorem exec_lockLost : exec (.lockLost k) s =
    s.done fun t => if t.rd (.rxe k) RXE.RX_STATUS.ACQ_STATE = 9 then (t.lossCounted k).rxRestart k true else t := rfl

variable (s k sc b) in
theorem exec_phaseBlockResolved : exec (.phaseBlockResolved k sc b) s = s.done fun t => t.phaseBlock k sc b := rfl

/-- A command whose effect is none. -/
theorem answers_nothing {i : Instr} {f : State → State} (h : exec i s = s.done f) (hf : f s.silent = s.silent) :
    Answers i s fun u => u.out = [] ∧ s.Frame u [] [] := by
  refine answers_done _ h ?_
  rw [hf]
  exact ⟨rfl, State.Frame.silent⟩

theorem answers_holdoverEntry (hn : s.rd (.rxe k) RXE.RX_STATUS.ACQ_STATE = 8)
    (hc : (decide (c = .signal) && s.bit (.rxe k) RXE.RX_STATUS.SIGNAL) = false) : Answers (.holdoverEntry k c) s fun u =>
      u.rd (.rxe k) RXE.RX_STATUS.ACQ_STATE = 9 ∧ u.bit (.rxe k) RXE.RX_STATUS.LOCKED = false ∧ u.out = []
      ∧ s.Frame u [(.rxe k, 0x024)] [.ctr] := by
  refine answers_done_else (exec_holdoverEntry s k c) hc ?_
  exact ⟨State.rxHold_acq s.silent k hn, State.rxHold_locked s.silent k hn, State.rxHold_out s.silent k,
    State.Frame.silent.rxHold (.head _) (.head _)⟩

theorem answers_holdoverEntry_none (hn : s.rd (.rxe k) RXE.RX_STATUS.ACQ_STATE ≠ 8) : Answers (.holdoverEntry k c) s fun u =>
    u.out = [] ∧ s.Frame u [] [] := by
  refine answers_nothing (exec_holdoverEntry s k c) ?_
  rw [State.rxHold_of_unlocked s.silent k hn, ite_self]

theorem answers_holdoverExit (hn : s.rd (.rxe k) RXE.RX_STATUS.ACQ_STATE = 9) : Answers (.holdoverExit k) s fun u =>
    u.rd (.rxe k) RXE.RX_STATUS.ACQ_STATE = 8 ∧ u.bit (.rxe k) RXE.RX_STATUS.LOCKED = true
    ∧ u.rd (.rxe k) RXE.CARRIER_OFS.CLOCK_OFS = s.rd (.rxe k) RXE.CARRIER_OFS.CLOCK_OFS ∧ u.fresh = s.fresh + 1 ∧ u.out = []
    ∧ u.car k = { s.car k with phase := List.replicate 8 none }
    ∧ s.Frame u [(.rxe k, 0x024), (.rxe k, 0x034)] [.fresh, .cars] := by
  have heffect : (if s.silent.rd (.rxe k) RXE.RX_STATUS.ACQ_STATE = 9 then s.silent.holdoverEnds k else s.silent) = s.silent.holdoverEnds k :=
    if_pos hn
  refine answers_done _ (exec_holdoverExit s k) ?_
  rw [heffect]
  exact ⟨State.holdoverEnds_acq _ k, State.holdoverEnds_locked _ k, State.holdoverEnds_clock s.silent k, State.holdoverEnds_fresh s.silent k,
    State.holdoverEnds_out s.silent k, State.holdoverEnds_car s.silent k,
    State.Frame.silent.holdoverEnds (.head _) (.tail _ (.head _)) (.head _) (.tail _ (.head _))⟩

theorem answers_lockLost (hn : s.rd (.rxe k) RXE.RX_STATUS.ACQ_STATE = 9) : Answers (.lockLost k) s fun u =>
    u.rd (.rxe k) RXE.RX_STATUS.ACQ_STATE = s.restartState k
    ∧ (u.word (.rxe k) 0x00C).getLsbD 4 = true ∧ (u.car k).fast = s.bit (.rxe k) RXE.RX_CTRL.REACQ_FAST ∧ (u.car k).failRaised = false
    ∧ u.rd (.rxe k) RXE.RX_STATUS.SNR_VALID = 0 ∧ u.rd (.rxe k) RXE.EQ_CTRL.CONVERGED = 0
    ∧ s.Frame u ((.rxe k, 0x00C) :: State.engineRegs (.rxe k)) [.cars, .ctr, .logRing, .damage] := by
  have heffect : (if s.silent.rd (.rxe k) RXE.RX_STATUS.ACQ_STATE = 9 then (s.silent.lossCounted k).rxRestart k true else s.silent)
      = (s.silent.lossCounted k).rxRestart k true := if_pos hn
  have hstatus : (s.silent.lossCounted k).word (.rxe k) 0x024 = s.word (.rxe k) 0x024 :=
    State.lossCounted_word s.silent k (by decide) nofun (.inr (by decide))
  have hheld : (s.silent.lossCounted k).rd (.rxe k) RXE.RX_STATUS.ACQ_STATE = 9 := (State.rd_of_word hstatus).trans hn
  have hgone := State.rxRestart_of_holdover (s.silent.lossCounted k) k true hheld
  have hrd (f : Fld) (hf : f.off < 0x1000) : ((s.silent.lossCounted k).rxRestart k true).rd (.rxe k) f
      = ((s.silent.lossCounted k).lockGone k true).rd (.rxe k) f := by
    rw [hgone]
    exact State.rd_of_word (State.dropCw_rxe _ k hf)
  have hfast : (s.silent.lossCounted k).bit (.rxe k) RXE.RX_CTRL.REACQ_FAST = s.bit (.rxe k) RXE.RX_CTRL.REACQ_FAST :=
    State.bit_of_word (State.lossCounted_word s.silent k (by decide) nofun (.inr (by decide)))
  refine answers_done _ (exec_lockLost s k) ?_
  rw [heffect]
  refine ⟨?_, ?_, ?_, ?_, ?_, ?_, ?_⟩
  · rw [hrd _ (by decide), State.lockGone_acq, State.lossCounted_restart]
    rfl
  · rw [State.rxRestart_event]
    exact State.lossCounted_event _ k
  · rw [hgone, State.dropCw_car, State.lockGone_car, hfast]
    rfl
  · rw [hgone, State.dropCw_car, State.lockGone_car]
  · exact (hrd _ (by decide)).trans (State.lockGone_snr _ k _)
  · exact (hrd _ (by decide)).trans (State.lockGone_converged _ k _)
  · have hcounted : s.Frame (s.silent.lossCounted k) ((.rxe k, 0x00C) :: State.engineRegs (.rxe k)) [.cars, .ctr, .logRing, .damage] :=
      (State.Frame.silent.raise (.head _) (by decide) (by decide) (by decide)).count (by decide)
    exact hcounted.rxRestart (fun x hx => .tail _ (.tail _ hx)) (List.Subset.refl _)

theorem answers_slip (hruns : s.rxRuns k = true) (hon : (s.rxOnMask k).testBit sc.val = true)
    (hlocked : s.bit (.rxe k) RXE.RX_STATUS.LOCKED = true) (hoff : 256 ≤ (s.phaseOffset k sc b).natAbs) :
    Answers (.phaseBlockResolved k sc b) s fun u =>
      (u.word (.rxe k) 0x00C).getLsbD 5 = true
      ∧ u.ctr.get (fun _ => 0) (ctrBase (.rxe k) + 8) = min (s.ctr.get (fun _ => 0) (ctrBase (.rxe k) + 8) + 1) (2 ^ 40 - 1)
      ∧ (u.car k).phase = (s.car k).phase.set sc.val (some (b.closing % 1024))
      ∧ (∀ o ∈ u.out, ∃ signs amps, o = .soft k sc signs amps ∧ (∀ x ∈ signs, x = 0)
        ∧ (((s.car k).demap.getD sc.val []).length < blockLen → ∀ x ∈ amps, x = 0))
      ∧ s.Frame u [(.rxe k, 0x00C)] (.cars :: State.eventParts) := by
  let t := s.silent.phaseAnchored k sc b
  have ht : t = s.silent.updCar k fun c => { c with phase := c.phase.set sc.val (some (b.closing % 1024)) } :=
    State.phaseAnchored_locked hlocked
  have hcar : ((t.slipCounted k).gapEnds k sc).car k = { s.car k with
      phase := (s.car k).phase.set sc.val (some (b.closing % 1024)), gap := putBit (s.car k).gap sc.val false } := by
    rw [State.gapEnds_car, State.car_of_cars k (State.slipCounted_cars t k), ht, State.car_updCar]
    rfl
  have hout : ((t.slipCounted k).gapEnds k sc).out = [] := by
    unfold State.gapEnds
    rw [State.updCar_out, State.slipCounted_out, ht, State.updCar_out]
    rfl
  have hdemap : ((t.slipCounted k).gapEnds k sc).Frame (((t.slipCounted k).gapEnds k sc).demapBlock k sc (State.blockValues b true)) [] [.cars] :=
    State.Frame.refl.demapBlock (.head _)
  refine answers_done _ (exec_phaseBlockResolved s k sc b) ?_
  rw [State.phaseBlock_slip (s := s.silent) hruns hon hlocked hoff]
  refine ⟨?_, ?_, ?_, ?_, ?_⟩
  · rw [hdemap.reg (.rxe k) 0x00C (by decide) (.inl nofun) List.not_mem_nil]
    exact State.raiseFirst_bit _ nofun (by decide)
  · rw [hdemap.same .ctr (by decide)]
    refine (State.slipCounted_slips t k).trans ?_
    rw [ht, State.updCar_ctr]
    rfl
  · rw [State.demapBlock_phase, hcar]
  · have hzeros := State.demapBlock_zeros _ k sc hout (State.blockValues_erased b)
    rw [hcar] at hzeros
    exact hzeros
  · have hanchored : s.Frame t [(.rxe k, 0x00C)] (.cars :: State.eventParts) := by
      rw [ht]
      exact State.Frame.silent.updCar (.head _)
    exact ((hanchored.slipCounted (.head _) (List.subset_cons_self _ _)).updCar (.head _)).demapBlock (.head _)

theorem answers_tracked (hruns : s.rxRuns k = true) (hon : (s.rxOnMask k).testBit sc.val = true)
    (hlocked : s.bit (.rxe k) RXE.RX_STATUS.LOCKED = true) (hoff : (s.phaseOffset k sc b).natAbs < 256) :
    Answers (.phaseBlockResolved k sc b) s fun u =>
      (u.car k).phase = (s.car k).phase.set sc.val (some (b.closing % 1024)) ∧ s.Frame u [] [.cars] := by
  refine answers_done _ (exec_phaseBlockResolved s k sc b) ?_
  rw [State.phaseBlock_tracked (s := s.silent) hruns hon hoff, State.phaseAnchored_locked (s := s.silent) hlocked]
  refine ⟨?_, (((State.Frame.silent (s := s)).updCar (.head _)).updCar (.head _)).demapBlock (.head _)⟩
  rw [State.demapBlock_phase, State.gapEnds_car, State.car_updCar]
  rfl

theorem answers_holdoverBlock (hruns : s.rxRuns k = true) (hon : (s.rxOnMask k).testBit sc.val = true)
    (hlocked : s.bit (.rxe k) RXE.RX_STATUS.LOCKED = false) : Answers (.phaseBlockResolved k sc b) s fun u =>
      (u.car k).phase = (s.car k).phase
      ∧ (∀ o ∈ u.out, ∃ signs amps, o = .soft k sc signs amps ∧ (∀ x ∈ signs, x = 0)
        ∧ (((s.car k).demap.getD sc.val []).length < blockLen → ∀ x ∈ amps, x = 0))
      ∧ s.Frame u [] [.cars] := by
  have hcar : (s.silent.gapEnds k sc).car k = { s.car k with gap := putBit (s.car k).gap sc.val false } := State.gapEnds_car s.silent k sc
  refine answers_done _ (exec_phaseBlockResolved s k sc b) ?_
  rw [State.phaseBlock_holdover (s := s.silent) hruns hon hlocked]
  refine ⟨?_, ?_, ((State.Frame.silent (s := s)).updCar (.head _)).demapBlock (.head _)⟩
  · rw [State.demapBlock_phase, hcar]
  · have hzeros := State.demapBlock_zeros (s.silent.gapEnds k sc) k sc rfl (State.blockValues_erased b)
    rw [hcar] at hzeros
    exact hzeros

end

/-- Settles O27: each command by the lemma of its own; outside of their states they change nothing. -/
theorem holdoverAndSlips : Obligations.holdoverAndSlips := by
  unfold Obligations.holdoverAndSlips
  intro s k c sc b p n on offset zeros slips
  refine ⟨fun hn hc hsignal => answers_holdoverEntry hn (by rw [hsignal, Bool.and_false]),
    fun hn hc => answers_holdoverEntry hn (by rw [decide_eq_false hc, Bool.false_and]), answers_holdoverEntry_none, answers_holdoverExit,
    answers_lockLost, fun hn => ⟨answers_nothing (exec_holdoverExit s k) (if_neg hn), answers_nothing (exec_lockLost s k) (if_neg hn)⟩,
    answers_slip, answers_tracked, answers_holdoverBlock,
    fun h => answers_nothing (exec_phaseBlockResolved s k sc b) (State.phaseBlock_none s.silent k sc b h)⟩

end Sys2Proof.Machine
end

section
/-! PROOFS. What the operations of the load-map part do: the carriers' records, the fields of LM_STATUS, the messages that wait to be sent
(R131, R133, R136, R145). -/
namespace Sys2Proof.Machine.State

open Sys2Proof Reg

/-! ## The record of another carrier -/

section
variable {α : Type} (s : State) {k m : Fin 16} {f : Carrier → Carrier}

theorem car_updCar_other (h : k ≠ m) : (s.updCar m f).car k = s.car k :=
  SMap.get_set_ne s.cars (fun _ => Carrier.reset) m.val k.val _ (Fin.val_ne_of_ne h)

/-- What a change of one record does not touch stays in every record. -/
theorem car_updCar_kept (g : Carrier → α) (hg : ∀ c, g (f c) = g c) : g ((s.updCar m f).car k) = g (s.car k) := by
  by_cases h : k = m
  · subst h
    rw [car_updCar]
    exact hg _
  · rw [car_updCar_other s h]

end

/-! ## Engines that run, by what they are read from -/

section
variable {s u : State}

theorem enabled_of_word {p : Page} (h : u.word p 0x004 = s.word p 0x004) : u.enabled p = s.enabled p := bit_of_word h

theorem pst_of_word {p : Page} (h : u.word p 0x008 = s.word p 0x008) : u.pst p = s.pst p := rd_of_word h

end

/-! ## LM_STATUS -/

section
variable (s : State) (k : Fin 16)

theorem txState_setTxState {n : Nat} (h : n < 8) : (s.setTxState k n).txState k = n :=
  (rd_wr_same _ _ _ _ (by decide)).trans (Nat.mod_eq_of_lt h)

theorem rxState_setRxState {n : Nat} (h : n < 8) : (s.setRxState k n).rxState k = n :=
  (rd_wr_same _ _ _ _ (by decide)).trans (Nat.mod_eq_of_lt h)

theorem rxState_rxRest : (s.rxRest k).rxState k = if (s.car k).rxMap.id = 0 then 1 else 2 :=
  rxState_setRxState s k (by split <;> decide)

/-- The fields of LM_STATUS that do not show the maps in force, and the other registers, stay. -/
theorem lmSync_rd {g : Fld} (h : g.off < 0x1000 ∧ (g.off ≠ 0x024 ∨ g.lo + g.w ≤ 3 ∨ 4 ≤ g.lo ∧ g.lo + g.w ≤ 8
    ∨ 12 ≤ g.lo ∧ g.lo + g.w ≤ 16)) : (s.lmSync k).rd (.lfe k) g = s.rd (.lfe k) g := by
  obtain ⟨hoff, hfree⟩ := h
  unfold lmSync
  rw [rd_wb_other _ _ _ _ _ ⟨by decide, hoff, ?_⟩, rd_wr_other _ _ _ _ _ ⟨by decide, hoff, ?_⟩,
    rd_wr_other _ _ _ _ _ ⟨by decide, hoff, ?_⟩, rd_wr_other _ _ _ _ _ ⟨by decide, hoff, ?_⟩,
    rd_wr_other _ _ _ _ _ ⟨by decide, hoff, ?_⟩] <;>
  · dsimp only [LFE.LM_STATUS.HELD, LFE.LM_STATUS.RX_MAP_ID, LFE.LM_STATUS.TX_MAP_ID, LFE.LM_STATUS.RX_DENSITY, LFE.LM_STATUS.TX_DENSITY]
    omega

theorem lmSync_bit {g : Fld} (h : g.off < 0x1000 ∧ (g.off ≠ 0x024 ∨ g.lo + g.w ≤ 3 ∨ 4 ≤ g.lo ∧ g.lo + g.w ≤ 8
    ∨ 12 ≤ g.lo ∧ g.lo + g.w ≤ 16)) : (s.lmSync k).bit (.lfe k) g = s.bit (.lfe k) g := by
  unfold bit
  rw [lmSync_rd s k h]

theorem lmSync_cars : (s.lmSync k).cars = s.cars := by
  unfold lmSync
  rw [wb_cars, wr_cars, wr_cars, wr_cars, wr_cars]

theorem lmSync_out : (s.lmSync k).out = s.out := by
  unfold lmSync
  rw [wb_out, wr_out, wr_out, wr_out, wr_out]

theorem lmSync_word {i : Nat} (h : i < 0x1000 ∧ i ≠ 0x024) : (s.lmSync k).word (.lfe k) i = s.word (.lfe k) i := by
  obtain ⟨hi, hne⟩ := h
  unfold lmSync
  rw [word_wb_other _ _ _ _ ⟨by decide, hi, hne⟩, word_wr_other _ _ _ _ ⟨by decide, hi, hne⟩, word_wr_other _ _ _ _ ⟨by decide, hi, hne⟩,
    word_wr_other _ _ _ _ ⟨by decide, hi, hne⟩, word_wr_other _ _ _ _ ⟨by decide, hi, hne⟩]

/-- HELD shows a manual announcement that is held, or that waits while the engine is HELD. -/
theorem lmSync_held {map : LMap} {held : Bool} (h : (s.car k).waitManual = some (map, held)) :
    (s.lmSync k).bit (.lfe k) LFE.LM_STATUS.HELD = (held || s.pst (.lfe k) == 5) := by
  have hpst (t : State) (ht : t.word (.lfe k) 0x008 = s.word (.lfe k) 0x008) : t.pst (.lfe k) = s.pst (.lfe k) := pst_of_word ht
  unfold lmSync
  dsimp only
  rw [bit_wb_same _ _ _ _ (by decide) (by decide), h]
  dsimp only
  rw [hpst]
  rw [word_wr_other _ _ _ _ (by decide), word_wr_other _ _ _ _ (by decide), word_wr_other _ _ _ _ (by decide),
    word_wr_other _ _ _ _ (by decide)]

end

section
variable {s u : State} {k : Fin 16} {l : List (Page × Nat)} {ps : List StatePart} {n : Nat}

theorem Frame.setTxState (h : Frame s u l ps) (hl : (Page.lfe k, 0x024) ∈ l) : Frame s (u.setTxState k n) l ps := h.wr (by decide) hl

theorem Frame.setRxState (h : Frame s u l ps) (hl : (Page.lfe k, 0x024) ∈ l) : Frame s (u.setRxState k n) l ps := h.wr (by decide) hl

theorem Frame.rxRest (h : Frame s u l ps) (hl : (Page.lfe k, 0x024) ∈ l) : Frame s (u.rxRest k) l ps := h.setRxState hl

theorem Frame.lmSync (h : Frame s u l ps) (hl : (Page.lfe k, 0x024) ∈ l) : Frame s (u.lmSync k) l ps :=
  ((((h.wr (by decide) hl).wr (by decide) hl).wr (by decide) hl).wr (by decide) hl).wb (by decide) hl

end

/-! ## Messages that wait to be sent (R131, R133) -/

section
variable (s : State) (k m : Fin 16)

theorem sendImc_imc (type : Nat) (rest : List Nat) : ((s.sendImc m type rest).car m).imc
    = (s.car m).imc ++ [(pad64 ([type, 1, (s.car m).nextSeq] ++ rest), 8)] := congrArg Carrier.imc (car_updCar s m _)

theorem sendImcNow_imc (type : Nat) (rest : List Nat) : ((s.sendImcNow m type rest).car m).imc
    = (pad64 ([type, 1, (s.car m).nextSeq] ++ rest), 8) :: (s.car m).imc := congrArg Carrier.imc (car_updCar s m _)

variable {α : Type} in
/-- A message changes nothing of the records but what waits to be sent and the next SEQ. -/
theorem sendImc_kept (type : Nat) (rest : List Nat) (g : Carrier → α) (hg : ∀ c imc n, g { c with imc := imc, nextSeq := n } = g c) :
    g ((s.sendImc m type rest).car k) = g (s.car k) := car_updCar_kept s g fun c => hg c _ _

variable {α : Type} in
theorem sendImcNow_kept (type : Nat) (rest : List Nat) (g : Carrier → α) (hg : ∀ c imc n, g { c with imc := imc, nextSeq := n } = g c) :
    g ((s.sendImcNow m type rest).car k) = g (s.car k) := car_updCar_kept s g fun c => hg c _ _

end

end Sys2Proof.Machine.State
end

section
/-! PROOFS. The load-map messages that a carrier's receiver takes, one lemma for each message and each end it can have (R131-R134, R136, R139,
R484). Settles O29. -/
namespace Sys2Proof.Machine.State

open Sys2Proof Reg

/-! ## A sound message buffer (R41, R42) -/

section
variable (s : State) {p : Page} {t i : Nat}

/-- Without an armed test the word is stored sound. -/
theorem protect_sound (h : s.bit p HDR.FLIP_MASK.ARM = false) :
    s.protect p t i = { s with damage := s.damage.set (fun _ => 0) (damageKey p t i) 0 } := by
  unfold protect armed
  rw [h]
  rfl

theorem useProt_sound (h : s.damage.get (fun _ => 0) (damageKey p t i) = 0) : s.useProt p t i = (false, s) := by
  unfold useProt
  dsimp only
  rw [h]
  rfl

end

/-! ## The first copy of a message (R131) -/

section
variable (s : State) (k : Fin 16) (msg : List Byte)

/-- A message in a frame that stands in its place, by its type, the first of its SEQ, with a sound message buffer. -/
def FirstCopy (type : Nat) : Prop := msgByte msg 0 = type ∧ s.inFrame k = true ∧ s.bit (.lfe k) LFE.FEC_STATUS.CW_LOCK = true
  ∧ (s.car k).seen.getD (type - 0x10) none ≠ some (msgByte msg 2) ∧ s.bit (.lfe k) HDR.FLIP_MASK.ARM = false

/-- A message stands in the buffer. -/
def msgBuffered : State := { s with damage := s.damage.set (fun _ => 0) (damageKey (.lfe k) 1 0) 0 }

/-- Its SEQ is noted. -/
def msgSeen : State :=
  (s.msgBuffered k).updCar k fun c => { c with seen := c.seen.set (msgByte msg 0 - 0x10) (some (msgByte msg 2)) }

/-- What a first copy does, by its type: at the receiver itself or at the transmitter of the paired carrier. -/
def msgActs (m : Fin 16) (type : Nat) : State :=
  match type with
  | 0x10 => if s.runs (.lfe m) then s.takePropose m msg else s
  | 0x11 => if s.runs (.lfe k) && !s.zr k then s.takeAnnounce k msg else s
  | 0x12 => if s.runs (.lfe k) && !s.zr k then s.takeReject k msg else s
  | 0x13 => if s.runs (.lfe m) then s.takeShed m msg else s
  | 0x14 => if s.runs (.lfe m) then s.takeResync m msg else s
  | _ => s

variable {s k msg}

/-- The buffer is sound: whether the SEQ is known decides. -/
theorem takeMsg_sound (h : s.bit (.lfe k) HDR.FLIP_MASK.ARM = false) : s.takeMsg k msg =
    if (s.car k).seen.getD (msgByte msg 0 - 0x10) none = some (msgByte msg 2) then s.msgBuffered k
    else (s.msgSeen k msg).msgActs k msg (s.pair k) (msgByte msg 0) := by
  have hdamage : (s.msgBuffered k).damage.get (fun _ => 0) (damageKey (.lfe k) 1 0) = 0 :=
    SMap.get_set_same s.damage (fun _ => 0) (damageKey (.lfe k) 1 0) 0
  have huse : (s.protect (.lfe k) 1 0).useProt (.lfe k) 1 0 = (false, s.msgBuffered k) := by
    rw [protect_sound s h]
    exact useProt_sound _ hdamage
  unfold takeMsg
  extract_lets t m s1
  rw [huse]
  rfl

theorem message_first {type : Nat} (h : s.FirstCopy k msg type) :
    s.message k type msg = (s.msgSeen k msg).msgActs k msg (s.pair k) type := by
  obtain ⟨htype, hframe, hlock, hnew, harm⟩ := h
  subst htype
  have htaken : (s.inFrame k && s.bit (.lfe k) LFE.FEC_STATUS.CW_LOCK && msgByte msg 0 == msgByte msg 0) = true := by
    rw [hframe, hlock, beq_self_eq_true]; rfl
  unfold message
  rw [if_pos htaken, takeMsg_sound harm, if_neg hnew]

/-- A later copy, a message outside a frame, one without codeword lock. -/
theorem message_ignored (type : Nat)
    (h : (s.car k).seen.getD (msgByte msg 0 - 0x10) none = some (msgByte msg 2) ∧ s.bit (.lfe k) HDR.FLIP_MASK.ARM = false
      ∨ s.inFrame k = false ∨ s.bit (.lfe k) LFE.FEC_STATUS.CW_LOCK = false) :
    s.message k type msg = s ∨ s.message k type msg = s.msgBuffered k := by
  unfold message
  split
  case isFalse => exact .inl rfl
  case isTrue htaken =>
    simp only [Bool.and_eq_true] at htaken
    obtain ⟨⟨hframe, hlock⟩, -⟩ := htaken
    obtain ⟨hold, harm⟩ | hno | hno := h
    · exact .inr ((takeMsg_sound harm).trans (if_pos hold))
    · exact absurd (hframe.symm.trans hno) nofun
    · exact absurd (hlock.symm.trans hno) nofun

variable (s k msg)

/-- To note a SEQ changes nothing else of the records. -/
theorem msgSeen_car (m : Fin 16) : (s.msgSeen k msg).car m = { s.car m with seen := ((s.msgSeen k msg).car m).seen } :=
  car_updCar_kept (s.msgBuffered k) (f := fun c => { c with seen := c.seen.set (msgByte msg 0 - 0x10) (some (msgByte msg 2)) })
    (fun c => { c with seen := ((s.msgSeen k msg).car m).seen }) fun _ => rfl

theorem msgSeen_kept {α : Type} (m : Fin 16) (g : Carrier → α) (hg : ∀ c x, g { c with seen := x } = g c) :
    g ((s.msgSeen k msg).car m) = g (s.car m) := car_updCar_kept (s.msgBuffered k) g fun c => hg c _

theorem msgSeen_seen : ((s.msgSeen k msg).car k).seen = (s.car k).seen.set (msgByte msg 0 - 0x10) (some (msgByte msg 2)) :=
  congrArg Carrier.seen (car_updCar (s.msgBuffered k) k _)

variable {s k msg} {v : State} {l : List (Page × Nat)} {ps : List StatePart}

theorem Frame.msgBuffered (h : Frame v s l ps) (hd : StatePart.damage ∈ ps) : Frame v (s.msgBuffered k) l ps := h.with_damage hd

theorem Frame.msgSeen (h : Frame v s l ps) (hc : StatePart.cars ∈ ps) (hd : StatePart.damage ∈ ps) : Frame v (s.msgSeen k msg) l ps :=
  (h.msgBuffered hd).updCar hc

end

/-! ## PROPOSE (R134) -/

section
variable (s : State) (m : Fin 16) (msg : List Byte)

/-- The version and the codes of a message are valid. -/
def MsgOk : Prop := msgByte msg 1 = 1 ∧ (msgCodes msg).all codeOk = true

/-- A transmitter that takes no PROPOSE for what it has under way, or for another map in force. -/
def Busy : Prop := (s.txState m ≠ 1 ∧ s.txState m ≠ 2) ∨ (s.car m).waitProp.isSome = true ∨ (s.car m).waitShed.isSome = true
  ∨ (s.car m).waitBase = true ∨ msgByte msg 23 ≠ (s.car m).txMap.id

/-- The reason of the REJECT that answers a PROPOSE, the first that applies of 1, 4, 6, 2, 5, 3; 0 where none does. -/
def Reason (r : Nat) : Prop :=
  (r = 1 ∧ ¬(MsgOk msg ∧ msgByte msg 5 ≤ 2)) ∨ (MsgOk msg ∧ msgByte msg 5 ≤ 2 ∧ ((r = 4 ∧ s.zr m = true) ∨ (s.zr m = false
    ∧ ((r = 6 ∧ s.pst (.lfe m) = 5) ∨ (s.pst (.lfe m) ≠ 5 ∧ ((r = 2 ∧ s.lm m LFE.LM_CTRL.NEG_EN = 0) ∨ (s.lm m LFE.LM_CTRL.NEG_EN ≠ 0
      ∧ ((r = 5 ∧ (s.car m).waitManual ≠ none) ∨ ((s.car m).waitManual = none
        ∧ ((r = 3 ∧ s.Busy m msg) ∨ (r = 0 ∧ ¬s.Busy m msg)))))))))))

/-- An accepted PROPOSE waits for the next boundary. -/
def proposeWaits : State := s.updCar m fun c =>
  { c with waitProp := some ({ codes := msgCodes msg, dens := msgByte msg 5, id := 0 }, msgByte msg 4) }

theorem proposeWaits_waitProp : ((s.proposeWaits m msg).car m).waitProp
    = some ({ codes := msgCodes msg, dens := msgByte msg 5, id := 0 }, msgByte msg 4) := congrArg Carrier.waitProp (car_updCar s m _)

theorem proposeWaits_kept {α : Type} (k : Fin 16) (g : Carrier → α) (hg : ∀ c x, g { c with waitProp := x } = g c) :
    g ((s.proposeWaits m msg).car k) = g (s.car k) := car_updCar_kept s g fun c => hg c _

variable {s m msg}

theorem takePropose_of_reason {r : Nat} (h : s.Reason m msg r) :
    s.takePropose m msg = if r = 0 then s.proposeWaits m msg else s.reject m (msgByte msg 4) r := by
  have hok (h : MsgOk msg ∧ msgByte msg 5 ≤ 2) :
      ¬(msgByte msg 1 != 1 || decide (2 < msgByte msg 5) || !(msgCodes msg).all codeOk) = true := by
    simp [h.1.1, h.1.2, h.2]
  have hbusy : ((decide (s.txState m ≠ 1) && decide (s.txState m ≠ 2)) || (s.car m).waitProp.isSome || (s.car m).waitShed.isSome
      || (s.car m).waitBase || decide (msgByte msg 23 ≠ (s.car m).txMap.id)) = true ↔ s.Busy m msg := by
    unfold Busy
    simp only [Bool.or_eq_true, Bool.and_eq_true, decide_eq_true_eq, or_assoc]
  unfold takePropose
  dsimp only
  obtain ⟨rfl, hbad⟩ | ⟨hmsg, hdens, h⟩ := h
  · rw [if_pos, if_neg (by decide)]
    by_contra hgood
    simp only [Bool.or_eq_true, bne_iff_ne, decide_eq_true_eq, Bool.not_eq_true', not_or, not_not, not_lt, Bool.not_eq_false] at hgood
    exact hbad ⟨⟨hgood.1.1, hgood.2⟩, hgood.1.2⟩
  rw [if_neg (hok ⟨hmsg, hdens⟩)]
  obtain ⟨rfl, hzr⟩ | ⟨hzr, h⟩ := h
  · rw [if_pos hzr, if_neg (by decide)]
  rw [if_neg (by rw [hzr]; decide)]
  obtain ⟨rfl, hheld⟩ | ⟨hheld, h⟩ := h
  · rw [if_pos hheld, if_neg (by decide)]
  rw [if_neg hheld]
  obtain ⟨rfl, hneg⟩ | ⟨hneg, h⟩ := h
  · rw [if_pos hneg, if_neg (by decide)]
  rw [if_neg hneg]
  obtain ⟨rfl, hmanual⟩ | ⟨hmanual, h⟩ := h
  · rw [if_pos (Option.isSome_iff_ne_none.2 hmanual), if_neg (by decide)]
  rw [if_neg (by rw [hmanual]; decide)]
  obtain ⟨rfl, hb⟩ | ⟨rfl, hb⟩ := h
  · rw [if_pos (hbusy.2 hb), if_neg (by decide)]
  · rw [if_neg (mt hbusy.1 hb), if_pos rfl]
    rfl

/-- To note a SEQ decides nothing about a PROPOSE. -/
theorem Reason.msgSeen {k : Fin 16} {r : Nat} (h : s.Reason m msg r) : (s.msgSeen k msg).Reason m msg r := by
  unfold Reason Busy lm
  rw [msgSeen_car]
  exact h

end

/-! ## ANNOUNCE (R133, R136, R484) -/

section
variable (s : State) (k : Fin 16) (msg : List Byte)

/-- The map that a message announces. -/
def msgAnn : Ann :=
  { map := { codes := msgCodes msg, dens := msgByte msg 5, id := msgByte msg 4 }, kind := msgByte msg 15, answered := msgByte msg 14
    eff := natBE ((msg.drop 16).take 5) }

/-- A receiver holds an announcement; one that answers its proposal ends that. -/
def announced : State := s.updCar k fun c =>
  { c with rxAnn := some (msgAnn msg), proposed := c.proposed && !(msgByte msg 15 == 0 && msgByte msg 14 == c.propId) }

/-- It follows it, but where it has lost its map. -/
def announceTaken : State := if (s.announced k msg).rxState k = 6 then s.announced k msg else (s.announced k msg).setRxState k 4

variable {s k msg}

theorem takeAnnounce_lost (h : (s.car k).shedMf = true ∨ ¬MsgOk msg ∨ 2 < msgByte msg 5 ∨ 3 < msgByte msg 15) : s.takeAnnounce k msg = s := by
  unfold takeAnnounce
  refine if_pos ?_
  simp only [Bool.or_eq_true, bne_iff_ne, decide_eq_true_eq, Bool.not_eq_true']
  unfold MsgOk at h
  rw [not_and_or, Bool.not_eq_true] at h
  tauto

theorem takeAnnounce_held (hshed : (s.car k).shedMf = false) (hok : MsgOk msg) (hdens : msgByte msg 5 ≤ 2) (hkind : msgByte msg 15 ≤ 3) :
    s.takeAnnounce k msg = s.announceTaken k msg := by
  unfold takeAnnounce
  refine (if_neg ?_).trans rfl
  simp [hshed, hok.1, hok.2, hdens, hkind]

variable (s k msg)

theorem announced_rxState : (s.announced k msg).rxState k = s.rxState k := rfl

theorem announceTaken_car : (s.announceTaken k msg).car k = { s.car k with
    rxAnn := some (msgAnn msg)
    proposed := (s.car k).proposed && !(msgByte msg 15 == 0 && msgByte msg 14 == (s.car k).propId) } := by
  have hcar := car_updCar s k fun c =>
    { c with rxAnn := some (msgAnn msg), proposed := c.proposed && !(msgByte msg 15 == 0 && msgByte msg 14 == c.propId) }
  unfold announceTaken
  split
  · exact hcar
  · exact (car_of_cars k (wr_cars _ _ _ _)).trans hcar

theorem announceTaken_rxState : (s.announceTaken k msg).rxState k = if s.rxState k = 6 then 6 else 4 := by
  unfold announceTaken
  rw [announced_rxState]
  split
  · assumption
  · exact rxState_setRxState _ k (by decide)

theorem announceTaken_out : (s.announceTaken k msg).out = s.out := by
  unfold announceTaken
  split
  · exact updCar_out _ _ _
  · exact (wr_out _ _ _ _).trans (updCar_out _ _ _)

variable {s k msg} in
theorem Frame.announceTaken {v : State} {l : List (Page × Nat)} {ps : List StatePart} (h : Frame v s l ps) (hl : (Page.lfe k, 0x024) ∈ l)
    (hc : StatePart.cars ∈ ps) : Frame v (s.announceTaken k msg) l ps :=
  Frame.ite (fun _ => h.updCar hc) fun _ => (h.updCar hc).setRxState hl

end

/-! ## REJECT (R129, R133) -/

section
variable (s : State) (k : Fin 16)

/-- A proposal is refused. -/
def rejected : State := (s.updCar k fun c => { c with proposed := false }).raise (.lfe k) 4

/-- The receiver rests, where the proposal was all that was under way. -/
def rejectTaken : State := if s.rxState k = 3 then (s.rejected k).rxRest k else s.rejected k

theorem rejected_word {i : Nat} (h : i < 0x1000 ∧ i ≠ 0x00C) : (s.rejected k).word (.lfe k) i = s.word (.lfe k) i :=
  raise_word _ _ _ _ _ h.1 (.inr h.2) (.inl nofun)

theorem rejected_rxState : (s.rejected k).rxState k = s.rxState k := rd_of_word (rejected_word s k (by decide))

theorem rejected_car : (s.rejected k).car k = { s.car k with proposed := false } :=
  (car_of_cars k (raise_cars _ _ _)).trans (car_updCar s k _)

variable {s k} in
theorem takeReject_taken {msg : List Byte} (hversion : msgByte msg 1 = 1) (hproposed : (s.car k).proposed = true)
    (hid : msgByte msg 4 = (s.car k).propId) : s.takeReject k msg = s.rejectTaken k := by
  unfold rejectTaken
  rw [← rejected_rxState s k]
  unfold takeReject
  exact if_neg (by simp [hversion, hproposed, hid])

theorem rejectTaken_car : (s.rejectTaken k).car k = { s.car k with proposed := false } := by
  unfold rejectTaken
  split
  · exact (car_of_cars k (wr_cars _ _ _ _)).trans (rejected_car s k)
  · exact rejected_car s k

theorem rejectTaken_event : ((s.rejectTaken k).word (.lfe k) 0x00C).getLsbD 4 = true := by
  have hraised : ((s.rejected k).word (.lfe k) 0x00C).getLsbD 4 = true := raise_bit _ nofun (by decide)
  unfold rejectTaken
  split
  · exact (congrArg (BitVec.getLsbD · 4) (word_wr_other _ _ _ _ (by decide))).trans hraised
  · exact hraised

theorem rejectTaken_rxState : (s.rejectTaken k).rxState k
    = if s.rxState k = 3 then if (s.car k).rxMap.id = 0 then 1 else 2 else s.rxState k := by
  unfold rejectTaken
  split
  · rw [rxState_rxRest, rejected_car]
  · exact rejected_rxState s k

theorem rejectTaken_out : (s.rejectTaken k).out = s.out := by
  have hrejected : (s.rejected k).out = s.out := raise_out _ _ _
  unfold rejectTaken
  split
  · exact (wr_out _ _ _ _).trans hrejected
  · exact hrejected

variable {s k} in
theorem Frame.rejectTaken {v : State} {l : List (Page × Nat)} {ps : List StatePart} (h : Frame v s l ps) (hevent : (Page.lfe k, 0x00C) ∈ l)
    (hstatus : (Page.lfe k, 0x024) ∈ l) (hp : StatePart.cars :: eventParts ⊆ ps) : Frame v (s.rejectTaken k) l ps := by
  have hrejected : Frame v (s.rejected k) l ps :=
    (h.updCar (hp (by decide))).raise hevent (hp (by decide)) (hp (by decide)) (hp (by decide))
  exact Frame.ite (fun _ => hrejected.rxRest hstatus) fun _ => hrejected

end

/-! ## SHED and RESYNC (R136, R139) -/

section
variable (s : State) (m : Fin 16) (msg : List Byte)

/-- A countdown not yet at 1 is cancelled. -/
def cancels : Bool := (s.car m).txAnn.isSome && decide (1 < s.rd (.lfe m) LFE.LM_STATUS.COUNTDOWN)

/-- The posts that stay when a countdown is cancelled. -/
def postsKept (c : Carrier) : List (Nat × Nat) := if s.cancels m then c.posts.filter (fun x => x.1 = 0 || x.2 = 1) else c.posts

/-- COUNTDOWN where a countdown is cancelled. -/
def countdownShown (cancel : Bool) : State := if cancel then s.wr (.lfe m) LFE.LM_STATUS.COUNTDOWN 0 else s

/-- The codes of a SHED, merged with those that wait. -/
def shedMerged : List Nat := match (s.car m).waitShed with
  | some (w, _) => List.zipWith lowerCode w (msgCodes msg)
  | none => msgCodes msg

/-- A SHED waits for the next boundary. -/
def shedWaits : State := s.updCar m fun c => { c with
  waitShed := some (s.shedMerged m msg, msgByte msg 4), txAnn := if s.cancels m then none else c.txAnn, posts := s.postsKept m c }

/-- TX_STATE shows it, but where the base map is due. -/
def shedShown : State :=
  if ((s.shedWaits m msg).countdownShown m (s.cancels m)).txState m = 5 then (s.shedWaits m msg).countdownShown m (s.cancels m)
  else ((s.shedWaits m msg).countdownShown m (s.cancels m)).setTxState m 4

/-- It is an event, and counts. -/
def shedTaken : State := (((s.shedShown m msg).raise (.lfe m) 3).count (.lfe m) 10 1).lmSync m

/-- The base map waits for the next boundary. -/
def resyncWaits : State := s.updCar m fun c => { c with
  waitBase := true, waitShed := none, waitProp := none, txAnn := if s.cancels m then none else c.txAnn, posts := s.postsKept m c }

def resyncTaken : State := (((s.resyncWaits m).countdownShown m (s.cancels m)).setTxState m 5).lmSync m

variable {s m msg}

theorem takeShed_taken (hok : MsgOk msg) (hzr : s.zr m = false) :
    s.takeShed m msg = s.shedTaken m msg := by
  unfold takeShed
  refine (if_neg ?_).trans rfl
  simp [hok.1, hok.2, hzr]

theorem takeResync_taken (hversion : msgByte msg 1 = 1) (hzr : s.zr m = false) (hstate : s.txState m ≠ 5) :
    s.takeResync m msg = s.resyncTaken m := by
  unfold takeResync
  exact if_neg (by simp [hversion, hzr, hstate])

variable (s m msg)

theorem countdownShown_cars (b : Bool) : (s.countdownShown m b).cars = s.cars := by
  unfold countdownShown
  split
  · exact wr_cars _ _ _ _
  · rfl

theorem countdownShown_out (b : Bool) : (s.countdownShown m b).out = s.out := by
  unfold countdownShown
  split
  · exact wr_out _ _ _ _
  · rfl

theorem countdownShown_txState (b : Bool) : (s.countdownShown m b).txState m = s.txState m := by
  unfold countdownShown
  split
  · exact rd_wr_other _ _ _ _ _ (by decide)
  · rfl

theorem countdownShown_countdown (b : Bool) : (s.countdownShown m b).rd (.lfe m) LFE.LM_STATUS.COUNTDOWN
    = if b then 0 else s.rd (.lfe m) LFE.LM_STATUS.COUNTDOWN := by
  unfold countdownShown
  split
  · exact rd_wr_same _ _ _ _ (by decide)
  · rfl

theorem shedShown_txState : (s.shedShown m msg).txState m = if s.txState m = 5 then 5 else 4 := by
  unfold shedShown
  rw [countdownShown_txState]
  split
  · rename_i h
    rw [countdownShown_txState, if_pos (show s.txState m = 5 from h)]
    exact h
  · rename_i h
    rw [if_neg (show ¬s.txState m = 5 from h)]
    exact txState_setTxState _ m (by decide)

theorem shedShown_countdown : (s.shedShown m msg).rd (.lfe m) LFE.LM_STATUS.COUNTDOWN
    = if s.cancels m then 0 else s.rd (.lfe m) LFE.LM_STATUS.COUNTDOWN := by
  unfold shedShown
  split
  · exact countdownShown_countdown _ m _
  · exact (rd_wr_other _ _ _ _ _ (by decide)).trans (countdownShown_countdown _ m _)

theorem shedShown_cars : (s.shedShown m msg).cars = (s.shedWaits m msg).cars := by
  unfold shedShown
  split
  · exact countdownShown_cars _ _ _
  · exact (wr_cars _ _ _ _).trans (countdownShown_cars _ _ _)

theorem shedShown_out : (s.shedShown m msg).out = s.out := by
  have hwaits : (s.shedWaits m msg).out = s.out := updCar_out _ _ _
  unfold shedShown
  split
  · exact (countdownShown_out _ _ _).trans hwaits
  · exact ((wr_out _ _ _ _).trans (countdownShown_out _ _ _)).trans hwaits

theorem shedTaken_rd {f : Fld} (hoff : f.off = 0x024)
    (h : f.lo + f.w ≤ 3 ∨ 4 ≤ f.lo ∧ f.lo + f.w ≤ 8 ∨ 12 ≤ f.lo ∧ f.lo + f.w ≤ 16) :
    (s.shedTaken m msg).rd (.lfe m) f = (s.shedShown m msg).rd (.lfe m) f := by
  refine (lmSync_rd _ m ⟨by rw [hoff]; decide, .inr h⟩).trans (rd_of_word ((count_word _ _ _ _ _ _).trans ?_))
  rw [hoff]
  exact raise_word _ _ _ _ _ (by decide) (.inr (by decide)) (.inl nofun)

theorem shedTaken_txState : (s.shedTaken m msg).txState m = if s.txState m = 5 then 5 else 4 :=
  (shedTaken_rd s m msg rfl (by decide)).trans (shedShown_txState s m msg)

theorem shedTaken_countdown : (s.shedTaken m msg).rd (.lfe m) LFE.LM_STATUS.COUNTDOWN
    = if s.cancels m then 0 else s.rd (.lfe m) LFE.LM_STATUS.COUNTDOWN :=
  (shedTaken_rd s m msg rfl (by decide)).trans (shedShown_countdown s m msg)

theorem shedTaken_event : ((s.shedTaken m msg).word (.lfe m) 0x00C).getLsbD 3 = true := by
  unfold shedTaken
  rw [lmSync_word _ m (by decide), count_word]
  exact raise_bit _ nofun (by decide)

theorem shedTaken_car : (s.shedTaken m msg).car m = { s.car m with
    waitShed := some (s.shedMerged m msg, msgByte msg 4), txAnn := if s.cancels m then none else (s.car m).txAnn
    posts := s.postsKept m (s.car m) } := by
  unfold shedTaken
  rw [car_of_cars m (lmSync_cars _ m), car_of_cars m (count_cars _ _ _ _), car_of_cars m (raise_cars _ _ _),
    car_of_cars m (shedShown_cars s m msg)]
  exact car_updCar s m _

theorem shedTaken_out : (s.shedTaken m msg).out = s.out := by
  unfold shedTaken
  rw [lmSync_out, count_out, raise_out, shedShown_out]

theorem resyncTaken_txState : (s.resyncTaken m).txState m = 5 :=
  (lmSync_rd _ m (by decide)).trans (txState_setTxState _ m (by decide))

theorem resyncTaken_countdown : (s.resyncTaken m).rd (.lfe m) LFE.LM_STATUS.COUNTDOWN
    = if s.cancels m then 0 else s.rd (.lfe m) LFE.LM_STATUS.COUNTDOWN :=
  (lmSync_rd _ m (by decide)).trans ((rd_wr_other _ _ _ _ _ (by decide)).trans (countdownShown_countdown _ m _))

theorem resyncTaken_car : (s.resyncTaken m).car m = { s.car m with
    waitBase := true, waitShed := none, waitProp := none, txAnn := if s.cancels m then none else (s.car m).txAnn
    posts := s.postsKept m (s.car m) } := by
  unfold resyncTaken setTxState
  rw [car_of_cars m (lmSync_cars _ m), car_of_cars m (wr_cars _ _ _ _), car_of_cars m (countdownShown_cars _ m _)]
  exact car_updCar s m _

theorem resyncTaken_out : (s.resyncTaken m).out = s.out := by
  unfold resyncTaken setTxState
  rw [lmSync_out, wr_out, countdownShown_out]
  exact updCar_out _ _ _

variable {s m msg}

section
variable {v : State} {l : List (Page × Nat)} {ps : List StatePart}

theorem Frame.countdownShown {b : Bool} (h : Frame v s l ps) (hl : (Page.lfe m, 0x024) ∈ l) : Frame v (s.countdownShown m b) l ps :=
  Frame.ite (fun _ => h.wr (by decide) hl) fun _ => h

theorem Frame.shedTaken (h : Frame v s l ps) (hevent : (Page.lfe m, 0x00C) ∈ l) (hstatus : (Page.lfe m, 0x024) ∈ l)
    (hp : StatePart.cars :: eventParts ⊆ ps) : Frame v (s.shedTaken m msg) l ps := by
  have hwaits : Frame v ((s.shedWaits m msg).countdownShown m (s.cancels m)) l ps := (h.updCar (hp (by decide))).countdownShown hstatus
  have hshown : Frame v (s.shedShown m msg) l ps := Frame.ite (fun _ => hwaits) fun _ => hwaits.setTxState hstatus
  exact ((hshown.raise hevent (hp (by decide)) (hp (by decide)) (hp (by decide))).count (hp (by decide))).lmSync hstatus

theorem Frame.resyncTaken (h : Frame v s l ps) (hl : (Page.lfe m, 0x024) ∈ l) (hc : StatePart.cars ∈ ps) :
    Frame v (s.resyncTaken m) l ps := (((h.updCar hc).countdownShown hl).setTxState hl).lmSync hl

end

/-- To note a SEQ cancels nothing, -/
theorem cancels_msgSeen (k : Fin 16) : (s.msgSeen k msg).cancels m = s.cancels m := by
  unfold cancels
  rw [msgSeen_car]
  rfl

/-- and merges nothing. -/
theorem shedMerged_msgSeen (k : Fin 16) : (s.msgSeen k msg).shedMerged m msg = s.shedMerged m msg := by
  unfold shedMerged
  rw [msgSeen_car]

/-- A countdown at 2 or above is cancelled with its announcement, -/
theorem cancels_of_counting (hcount : 1 < s.rd (.lfe m) LFE.LM_STATUS.COUNTDOWN) (hann : (s.car m).txAnn ≠ none) : s.cancels m = true := by
  unfold cancels
  rw [Option.isSome_iff_ne_none.2 hann, decide_eq_true hcount]
  rfl

/-- and one at 1 completes. -/
theorem cancels_of_late (hcount : s.rd (.lfe m) LFE.LM_STATUS.COUNTDOWN ≤ 1) : s.cancels m = false := by
  unfold cancels
  rw [decide_eq_false (not_lt.2 hcount), Bool.and_false]

end

end Sys2Proof.Machine.State

namespace Sys2Proof.Machine

open Sys2Proof Reg

section
variable (s : State) (k : Fin 16) (msg : List Byte)

theorem exec_proposeReceived : exec (.proposeReceived k msg) s = s.done fun t => t.message k 0x10 msg := rfl
theorem exec_announceReceived : exec (.announceReceived k msg) s = s.done fun t => t.message k 0x11 msg := rfl
theorem exec_rejectReceived : exec (.rejectReceived k msg) s = s.done fun t => t.message k 0x12 msg := rfl
theorem exec_shedReceived : exec (.shedReceived k msg) s = s.done fun t => t.message k 0x13 msg := rfl
theorem exec_resyncReceived : exec (.resyncReceived k msg) s = s.done fun t => t.message k 0x14 msg := rfl

variable {s k msg} {i : Instr} {type : Nat} {P : State → Prop}

/-- A first copy acts on the state in which its SEQ is noted. -/
theorem answers_first (hexec : exec i s = s.done fun t => t.message k type msg) (h : s.FirstCopy k msg type)
    (hP : P ((s.silent.msgSeen k msg).msgActs k msg (s.pair k) type)) : Answers i s P := by
  refine answers_done _ hexec ?_
  rw [State.message_first (s := s.silent) h]
  exact hP

/-- A message that is ignored leaves at most its word in the buffer. -/
theorem answers_ignored (hexec : exec i s = s.done fun t => t.message k type msg)
    (h : (s.car k).seen.getD (msgByte msg 0 - 0x10) none = some (msgByte msg 2) ∧ s.bit (.lfe k) HDR.FLIP_MASK.ARM = false
      ∨ s.inFrame k = false ∨ s.bit (.lfe k) LFE.FEC_STATUS.CW_LOCK = false) :
    Answers i s fun u => u.out = [] ∧ s.Frame u [] [.damage] := by
  refine answers_done _ hexec ?_
  obtain e | e := State.message_ignored (s := s.silent) type h <;> rw [e]
  · exact ⟨rfl, State.Frame.silent⟩
  · exact ⟨rfl, State.Frame.silent.msgBuffered (.head _)⟩

/-! ## PROPOSE -/

theorem answers_propose_waits (h : s.FirstCopy k msg 0x10) (hruns : s.runs (.lfe (s.pair k)) = true) (hr : s.Reason (s.pair k) msg 0) :
    Answers (.proposeReceived k msg) s fun u =>
      (u.car (s.pair k)).waitProp = some ({ codes := msgCodes msg, dens := msgByte msg 5, id := 0 }, msgByte msg 4)
      ∧ (u.car (s.pair k)).imc = (s.car (s.pair k)).imc
      ∧ (u.car k).seen = (s.car k).seen.set 0 (some (msgByte msg 2)) ∧ u.out = [] ∧ s.Frame u [] [.cars, .damage] := by
  let v := s.silent.msgSeen k msg
  have hacts : v.msgActs k msg (s.pair k) 0x10 = v.proposeWaits (s.pair k) msg :=
    (if_pos hruns).trans (State.takePropose_of_reason (State.Reason.msgSeen (s := s.silent) hr))
  refine answers_first (exec_proposeReceived s k msg) h ?_
  rw [hacts]
  refine ⟨?_, ?_, ?_, rfl, (State.Frame.silent.msgSeen (.head _) (.tail _ (.head _))).updCar (.head _)⟩
  · exact v.proposeWaits_waitProp _ msg
  · exact (v.proposeWaits_kept _ msg _ Carrier.imc fun _ _ => rfl).trans (s.silent.msgSeen_kept k msg _ Carrier.imc fun _ _ => rfl)
  · refine (v.proposeWaits_kept _ msg k Carrier.seen fun _ _ => rfl).trans ((s.silent.msgSeen_seen k msg).trans ?_)
    rw [h.1]
    rfl

theorem answers_propose_refused {r : Nat} (hne : r ≠ 0) (h : s.FirstCopy k msg 0x10) (hruns : s.runs (.lfe (s.pair k)) = true)
    (hr : s.Reason (s.pair k) msg r) : Answers (.proposeReceived k msg) s fun u =>
      (u.car (s.pair k)).waitProp = (s.car (s.pair k)).waitProp
      ∧ (u.car (s.pair k)).imc
        = (s.car (s.pair k)).imc ++ [(pad64 [0x12, 1, (s.car (s.pair k)).nextSeq, 0, msgByte msg 4, r], 8)]
      ∧ (u.car k).seen = (s.car k).seen.set 0 (some (msgByte msg 2)) ∧ u.out = [] ∧ s.Frame u [] [.cars, .damage, .ctr] := by
  let v := s.silent.msgSeen k msg
  have hacts : v.msgActs k msg (s.pair k) 0x10 = v.reject (s.pair k) (msgByte msg 4) r :=
    (if_pos hruns).trans ((State.takePropose_of_reason (State.Reason.msgSeen (s := s.silent) hr)).trans (if_neg hne))
  have hcar (j : Fin 16) : (v.reject (s.pair k) (msgByte msg 4) r).car j = (v.sendImc (s.pair k) 0x12 [0, msgByte msg 4, r]).car j :=
    State.car_of_cars j (State.count_cars _ _ _ _)
  refine answers_first (exec_proposeReceived s k msg) h ?_
  rw [hacts]
  refine ⟨?_, ?_, ?_, rfl, ?_⟩
  · rw [hcar]
    exact (v.sendImc_kept _ _ _ _ Carrier.waitProp fun _ _ _ => rfl).trans (s.silent.msgSeen_kept k msg _ Carrier.waitProp fun _ _ => rfl)
  · rw [hcar, State.sendImc_imc, s.silent.msgSeen_kept k msg _ Carrier.imc fun _ _ => rfl,
      s.silent.msgSeen_kept k msg _ Carrier.nextSeq fun _ _ => rfl]
    rfl
  · rw [hcar]
    refine (v.sendImc_kept _ _ _ _ Carrier.seen fun _ _ _ => rfl).trans ((s.silent.msgSeen_seen k msg).trans ?_)
    rw [h.1]
    rfl
  · exact ((State.Frame.silent.msgSeen (.head _) (.tail _ (.head _))).updCar (.head _)).count (.tail _ (.tail _ (.head _)))

/-! ## ANNOUNCE and REJECT -/

section
variable (hruns : s.runs (.lfe k) = true) (hzr : s.zr k = false)
include hruns hzr

/-- The receiver takes load-map messages. -/
theorem receiver_takes : ((s.silent.msgSeen k msg).runs (.lfe k) && !(s.silent.msgSeen k msg).zr k) = true := by
  rw [show (s.silent.msgSeen k msg).runs (.lfe k) = true from hruns, show (s.silent.msgSeen k msg).zr k = false from hzr]
  rfl

theorem answers_announce_held (h : s.FirstCopy k msg 0x11) (hok : State.MsgOk msg) (hdens : msgByte msg 5 ≤ 2) (hkind : msgByte msg 15 ≤ 3)
    (hshed : (s.car k).shedMf = false) : Answers (.announceReceived k msg) s fun u =>
      (u.car k).rxAnn = some (State.msgAnn msg)
      ∧ (u.car k).proposed = ((s.car k).proposed && !(msgByte msg 15 == 0 && msgByte msg 14 == (s.car k).propId))
      ∧ u.rxState k = (if s.rxState k = 6 then 6 else 4) ∧ u.out = [] ∧ s.Frame u [(.lfe k, 0x024)] [.cars, .damage] := by
  let v := s.silent.msgSeen k msg
  have hseen := s.silent.msgSeen_car k msg k
  have hacts : v.msgActs k msg (s.pair k) 0x11 = v.announceTaken k msg :=
    (if_pos (receiver_takes hruns hzr)).trans (State.takeAnnounce_held
      ((s.silent.msgSeen_kept k msg k Carrier.shedMf fun _ _ => rfl).trans hshed) hok hdens hkind)
  refine answers_first (exec_announceReceived s k msg) h ?_
  rw [hacts]
  refine ⟨?_, ?_, State.announceTaken_rxState v k msg, State.announceTaken_out v k msg,
    (State.Frame.silent.msgSeen (.head _) (.tail _ (.head _))).announceTaken (.head _) (.head _)⟩
  · rw [State.announceTaken_car]
  · rw [State.announceTaken_car, hseen]
    rfl

theorem answers_announce_lost (h : s.FirstCopy k msg 0x11)
    (hlost : (s.car k).shedMf = true ∨ ¬State.MsgOk msg ∨ 2 < msgByte msg 5 ∨ 3 < msgByte msg 15) :
    Answers (.announceReceived k msg) s fun u =>
      (u.car k).rxAnn = (s.car k).rxAnn ∧ (u.car k).proposed = (s.car k).proposed ∧ u.out = [] ∧ s.Frame u [] [.cars, .damage] := by
  let v := s.silent.msgSeen k msg
  have hacts : v.msgActs k msg (s.pair k) 0x11 = v :=
    (if_pos (receiver_takes hruns hzr)).trans (State.takeAnnounce_lost
      (hlost.imp_left (s.silent.msgSeen_kept k msg k Carrier.shedMf fun _ _ => rfl).trans))
  refine answers_first (exec_announceReceived s k msg) h ?_
  rw [hacts]
  exact ⟨s.silent.msgSeen_kept k msg k Carrier.rxAnn fun _ _ => rfl, s.silent.msgSeen_kept k msg k Carrier.proposed fun _ _ => rfl,
    rfl, State.Frame.silent.msgSeen (.head _) (.tail _ (.head _))⟩

theorem answers_reject (h : s.FirstCopy k msg 0x12) (hversion : msgByte msg 1 = 1) (hproposed : (s.car k).proposed = true)
    (hid : msgByte msg 4 = (s.car k).propId) : Answers (.rejectReceived k msg) s fun u =>
      (u.car k).proposed = false ∧ (u.word (.lfe k) 0x00C).getLsbD 4 = true
      ∧ u.rxState k = (if s.rxState k = 3 then if (s.car k).rxMap.id = 0 then 1 else 2 else s.rxState k) ∧ u.out = []
      ∧ s.Frame u [(.lfe k, 0x00C), (.lfe k, 0x024)] (.cars :: State.eventParts) := by
  let v := s.silent.msgSeen k msg
  have hseen := s.silent.msgSeen_car k msg k
  have hacts : v.msgActs k msg (s.pair k) 0x12 = v.rejectTaken k :=
    (if_pos (receiver_takes hruns hzr)).trans (State.takeReject_taken hversion
      ((s.silent.msgSeen_kept k msg k Carrier.proposed fun _ _ => rfl).trans hproposed)
      (hid.trans (s.silent.msgSeen_kept k msg k Carrier.propId fun _ _ => rfl).symm))
  refine answers_first (exec_rejectReceived s k msg) h ?_
  rw [hacts]
  refine ⟨?_, State.rejectTaken_event v k, ?_, State.rejectTaken_out v k,
    (State.Frame.silent.msgSeen (.head _) (by decide)).rejectTaken (.head _) (.tail _ (.head _)) (List.Subset.refl _)⟩
  · rw [State.rejectTaken_car]
  · rw [State.rejectTaken_rxState, hseen]
    rfl

end

/-! ## SHED and RESYNC -/

section
variable (hruns : s.runs (.lfe (s.pair k)) = true) (hzr : s.zr (s.pair k) = false)
include hruns hzr

theorem answers_shed (h : s.FirstCopy k msg 0x13) (hok : State.MsgOk msg) : Answers (.shedReceived k msg) s fun u =>
      (u.car (s.pair k)).waitShed = some (s.shedMerged (s.pair k) msg, msgByte msg 4)
      ∧ (u.word (.lfe (s.pair k)) 0x00C).getLsbD 3 = true
      ∧ u.txState (s.pair k) = (if s.txState (s.pair k) = 5 then 5 else 4)
      ∧ (u.car (s.pair k)).txAnn = (if s.cancels (s.pair k) then none else (s.car (s.pair k)).txAnn)
      ∧ u.rd (.lfe (s.pair k)) LFE.LM_STATUS.COUNTDOWN
        = (if s.cancels (s.pair k) then 0 else s.rd (.lfe (s.pair k)) LFE.LM_STATUS.COUNTDOWN)
      ∧ u.out = [] ∧ s.Frame u [(.lfe (s.pair k), 0x00C), (.lfe (s.pair k), 0x024)] (.cars :: State.eventParts) := by
  let v := s.silent.msgSeen k msg
  have hacts : v.msgActs k msg (s.pair k) 0x13 = v.shedTaken (s.pair k) msg := (if_pos hruns).trans (State.takeShed_taken hok hzr)
  have hcancels : v.cancels (s.pair k) = s.cancels (s.pair k) := State.cancels_msgSeen (s := s.silent) k
  refine answers_first (exec_shedReceived s k msg) h ?_
  rw [hacts, State.shedTaken_car, State.shedTaken_txState, State.shedTaken_countdown, hcancels,
    State.shedMerged_msgSeen (s := s.silent) k, s.silent.msgSeen_kept k msg _ Carrier.txAnn fun _ _ => rfl]
  exact ⟨rfl, State.shedTaken_event v _ msg, rfl, rfl, rfl, State.shedTaken_out v _ msg,
    (State.Frame.silent.msgSeen (.head _) (by decide)).shedTaken (.head _) (.tail _ (.head _)) (List.Subset.refl _)⟩

theorem answers_resync (h : s.FirstCopy k msg 0x14) (hversion : msgByte msg 1 = 1) (hstate : s.txState (s.pair k) ≠ 5) :
    Answers (.resyncReceived k msg) s fun u =>
      (u.car (s.pair k)).waitBase = true ∧ (u.car (s.pair k)).waitShed = none ∧ (u.car (s.pair k)).waitProp = none
      ∧ u.txState (s.pair k) = 5
      ∧ (s.cancels (s.pair k) = true → (u.car (s.pair k)).txAnn = none ∧ u.rd (.lfe (s.pair k)) LFE.LM_STATUS.COUNTDOWN = 0)
      ∧ u.out = [] ∧ s.Frame u [(.lfe (s.pair k), 0x024)] [.cars, .damage] := by
  let v := s.silent.msgSeen k msg
  have hacts : v.msgActs k msg (s.pair k) 0x14 = v.resyncTaken (s.pair k) :=
    (if_pos hruns).trans (State.takeResync_taken hversion hzr hstate)
  have hcancels : v.cancels (s.pair k) = s.cancels (s.pair k) := State.cancels_msgSeen (s := s.silent) k
  refine answers_first (exec_resyncReceived s k msg) h ?_
  rw [hacts, State.resyncTaken_car, State.resyncTaken_txState, State.resyncTaken_countdown, hcancels]
  exact ⟨rfl, rfl, rfl, rfl, fun hcancel => ⟨if_pos hcancel, if_pos hcancel⟩, State.resyncTaken_out v _,
    (State.Frame.silent.msgSeen (.head _) (.tail _ (.head _))).resyncTaken (.head _) (.head _)⟩

end

end

/-- Settles O29: a first copy by the lemma of its message; one that does not count by what it leaves in the buffer. -/
theorem loadMapMessages : Obligations.loadMapMessages := by
  unfold Obligations.loadMapMessages
  intro s k msg m p q b ok first keep busy reason
  refine ⟨answers_propose_waits, fun r hne => answers_propose_refused hne,
    fun h hruns hzr hok hdens hkind hshed => answers_announce_held hruns hzr h hok hdens hkind hshed,
    fun h hruns hzr hlost => answers_announce_lost hruns hzr h hlost,
    fun h hruns hzr => answers_reject hruns hzr h, fun h hruns hok hzr => ?_, fun h hruns hversion hzr hstate => ?_,
    fun h => ⟨answers_ignored (exec_proposeReceived s k msg) h, answers_ignored (exec_announceReceived s k msg) h,
      answers_ignored (exec_rejectReceived s k msg) h, answers_ignored (exec_shedReceived s k msg) h,
      answers_ignored (exec_resyncReceived s k msg) h⟩⟩
  · refine State.answers_imp (answers_shed hruns hzr h hok) ?_
    rintro u ⟨hwait, hevent, hstate, hann, hcount, hout, hframe⟩
    refine ⟨hwait.trans ?_, hevent, hstate, fun hcounting hannounced => ?_, fun hlate => ?_, hout, hframe⟩
    · unfold State.shedMerged
      cases (s.car (s.pair k)).waitShed <;> rfl
    · have hcancels := State.cancels_of_counting hcounting hannounced
      exact ⟨hann.trans (if_pos hcancels), hcount.trans (if_pos hcancels)⟩
    · have hstays : ¬s.cancels m = true := by rw [State.cancels_of_late hlate]; decide
      exact ⟨hann.trans (if_neg hstays), hcount.trans (if_neg hstays)⟩
  · refine State.answers_imp (answers_resync hruns hzr h hversion hstate) ?_
    rintro u ⟨hbase, hshed, hprop, htx, hcancel, hout, hframe⟩
    exact ⟨hbase, hshed, hprop, htx, fun hcounting hannounced => hcancel (State.cancels_of_counting hcounting hannounced), hout, hframe⟩

end Sys2Proof.Machine
end

section
/-! PROOFS. The proposer of load maps: its codes, its refresh, the end of a proposal's 1 s, a shed and the end of its hold, the wait for a
PROPOSE (R129, R130, R138, R140, R142, R154). Settles O30. -/
namespace Sys2Proof.Machine

open Sys2Proof Reg

/-! ## The highest code that a SNR carries (R125, R129) -/

section
variable (cap margin x : Nat)

theorem bestCode_zero : bestCode 0 margin x = if reqSnr 0 + margin ≤ x then some 0 else none := by
  unfold bestCode
  by_cases h : reqSnr 0 + margin ≤ x <;> simp [h]

/-- The code at the cap, where it is carried, else one below it. -/
theorem bestCode_succ : bestCode (cap + 1) margin x = if reqSnr (cap + 1) + margin ≤ x then some (cap + 1) else bestCode cap margin x := by
  unfold bestCode
  rw [List.range_succ, List.filter_append]
  by_cases h : reqSnr (cap + 1) + margin ≤ x <;> simp [h]

theorem bestCode_eq_some_iff (y : Nat) : bestCode cap margin x = some y
    ↔ y ≤ cap ∧ reqSnr y + margin ≤ x ∧ ∀ z, y < z → z ≤ cap → x < reqSnr z + margin := by
  induction cap with
  | zero =>
    rw [bestCode_zero]
    split
    case isTrue h =>
      rw [Option.some_inj]
      constructor
      · rintro rfl
        exact ⟨le_rfl, h, fun z hz hz0 => absurd hz (not_lt.2 hz0)⟩
      · exact fun hy => (Nat.le_zero.1 hy.1).symm
    case isFalse h =>
      refine ⟨nofun, fun ⟨hy, hcarried, _⟩ => absurd ?_ h⟩
      rwa [Nat.le_zero.1 hy] at hcarried
  | succ cap ih =>
    rw [bestCode_succ]
    split
    case isTrue h =>
      rw [Option.some_inj]
      constructor
      · rintro rfl
        exact ⟨le_rfl, h, fun z hz hzcap => absurd hz (not_lt.2 hzcap)⟩
      · rintro ⟨hy, -, hbest⟩
        by_contra hne
        exact absurd (hbest (cap + 1) (lt_of_le_of_ne hy (Ne.symm hne)) le_rfl) (not_lt.2 h)
    case isFalse h =>
      rw [ih]
      constructor
      · rintro ⟨hy, hcarried, hbest⟩
        refine ⟨Nat.le_succ_of_le hy, hcarried, fun z hyz hz => ?_⟩
        obtain hz | rfl := Nat.le_succ_iff.1 hz
        · exact hbest z hyz hz
        · exact not_le.1 h
      · rintro ⟨hy, hcarried, hbest⟩
        obtain hy | rfl := Nat.le_succ_iff.1 hy
        · exact ⟨hy, hcarried, fun z hyz hz => hbest z hyz (Nat.le_succ_of_le hz)⟩
        · exact absurd hcarried h

end

/-! ## The lower of two codes (R138) -/

section
variable (a b : Nat)

theorem codeRank_lowerCode_le : codeRank (lowerCode a b) ≤ codeRank a := by
  unfold lowerCode
  split
  case isTrue h => exact h.le
  case isFalse => exact le_rfl

/-- Off is the lowest. -/
theorem lowerCode_off : lowerCode a 0x3F = 0x3F := by
  unfold lowerCode
  split
  case isTrue => rfl
  case isFalse h =>
    by_contra ha
    refine h ?_
    unfold codeRank
    split_ifs <;> omega

end

/-! ## A mask of subcarriers -/

section
variable (P : Nat → Prop) [DecidablePred P]

/-- The mask of the numbers below n that have a property. -/
def maskOf (n : Nat) : Nat := (List.range n).foldl (fun a i => if P i then a + 2 ^ i else a) 0

theorem maskOf_succ (n : Nat) : maskOf P (n + 1) = if P n then maskOf P n + 2 ^ n else maskOf P n := by
  unfold maskOf
  rw [List.range_succ, List.foldl_append]
  rfl

theorem maskOf_lt (n : Nat) : maskOf P n < 2 ^ n := by
  induction n with
  | zero => exact Nat.one_pos
  | succ n ih =>
    rw [maskOf_succ, Nat.pow_succ]
    split <;> omega

theorem testBit_maskOf {n i : Nat} (h : i < n) : (maskOf P n).testBit i = true ↔ P i := by
  induction n with
  | zero => exact absurd h (Nat.not_lt_zero i)
  | succ n ih =>
    rw [maskOf_succ]
    obtain hi | rfl := Nat.lt_succ_iff_lt_or_eq.1 h
    · rw [← ih hi]
      split
      · rw [Nat.add_comm, Nat.testBit_two_pow_add_gt hi]
      · rfl
    · have hfree : (maskOf P i).testBit i = false := Nat.testBit_lt_two_pow (maskOf_lt P i)
      split
      case isTrue hP =>
        rw [Nat.add_comm, Nat.testBit_two_pow_add_eq, hfree]
        exact iff_of_true rfl hP
      case isFalse hP =>
        rw [hfree]
        exact iff_of_false nofun hP

end

end Sys2Proof.Machine
namespace Sys2Proof.Machine.State

open Sys2Proof Reg

/-! ## The codes of a refresh and of a shed (R129, R130, R138) -/

section
variable (s : State) (k : Fin 16)

/-- A code that is loaded now: raised with a further 4 of margin, where raising is on and no shed holds the subcarrier, else kept or lowered. -/
theorem refreshCode_eq (i : Nat) (snr : Option Nat) (off : Bool) : s.refreshCode k i snr off =
    (let cur := (s.car k).rxMap.codes.getD i 0x3F
     let margin := s.lm k LFE.LM_CTRL.MARGIN
     let cap := s.lm k LFE.LM_CTRL.CODE_CAP
     let keep := snr.bind (bestCode cap (margin + s.penalty k))
     let up := snr.bind (bestCode cap (margin + s.penalty k + 4))
     if cur = 0x3F then if off = true ∧ s.lm k LFE.LM_CTRL.PROBE_EN ≠ 0 then 0x3E else 0x3F
     else if cur = 0x3E ∧ (s.car k).probeNew.testBit i = true then 0x3E
     else if keep = none then 0x3F
     else if cur = 0x3E then up.getD 0x3F
     else if s.lm k LFE.LM_CTRL.RAISE_EN ≠ 0 ∧ (∀ held ∈ (s.car k).shedHold, held.testBit i = false) ∧ up ≠ none ∧ cur < up.getD 0
     then up.getD 0
     else min (keep.getD 0) cur) := by
  have hmin (a b : Nat) : (if a < b then a else b) = min a b := by
    split
    case isTrue h => exact (min_eq_left h.le).symm
    case isFalse h => exact (min_eq_right (not_lt.1 h)).symm
  unfold refreshCode
  dsimp only
  generalize snr.bind (bestCode (s.lm k LFE.LM_CTRL.CODE_CAP) (s.lm k LFE.LM_CTRL.MARGIN + s.penalty k)) = keep
  generalize snr.bind (bestCode (s.lm k LFE.LM_CTRL.CODE_CAP) (s.lm k LFE.LM_CTRL.MARGIN + s.penalty k + 4)) = up
  refine if_congr Iff.rfl (if_congr (by simp) rfl rfl) (if_congr (by simp) rfl ?_)
  cases keep with
  | none => rfl
  | some kp =>
    refine Eq.trans (if_congr Iff.rfl rfl ?_) (if_neg nofun).symm
    cases up with
    | none => exact (hmin kp _).trans (if_neg fun h => h.2.2.1 rfl).symm
    | some u => exact if_congr (by simp [and_assoc]) rfl (hmin kp _)

variable {s k} {i snr : Nat}

/-- A subcarrier that is off or probed is left. -/
theorem shedCode_unloaded (h : 36 < (s.car k).rxMap.codes.getD i 0x3F) : s.shedCode k i snr = (s.car k).rxMap.codes.getD i 0x3F := if_pos h

/-- A loaded one is never raised. -/
theorem codeRank_shedCode_le (h : (s.car k).rxMap.codes.getD i 0x3F ≤ 36) :
    codeRank (s.shedCode k i snr) ≤ codeRank ((s.car k).rxMap.codes.getD i 0x3F) := by
  unfold shedCode
  dsimp only
  rw [if_neg (not_lt.2 h)]
  exact (codeRank_lowerCode_le _ _).trans (codeRank_lowerCode_le _ _)

/-- Without a valid SNR it is switched off. -/
theorem shedCode_invalid (h : (s.car k).rxMap.codes.getD i 0x3F ≤ 36) (hsnr : (s.rd (.rxe k) RXE.RX_STATUS.SNR_VALID).testBit i = false) :
    s.shedCode k i snr = 0x3F := by
  unfold shedCode
  dsimp only
  rw [if_neg (not_lt.2 h), if_neg (by rw [hsnr]; nofun), lowerCode_off]

end

/-! ## A refresh (R129, R146) -/

section
variable (s : State) (k : Fin 16) (off60 : BitVec 8)

theorem latchLm_car : (s.latchLm k).car k = { s.car k with lmNow := s.word (.lfe k) 0x020 } := car_updCar s k _

/-- The map that a refresh finds, with LM_CTRL as the register holds it. -/
def foundMap : LMap := (s.latchLm k).proposalMap k off60

theorem foundMap_eq : s.foundMap k off60 =
    { codes := (List.range 8).map fun i => (s.latchLm k).refreshCode k i (s.lowSnr k i) (off60.getLsbD i)
      dens := s.rd (.lfe k) LFE.LM_CTRL.DENSITY, id := 0 } := by
  unfold foundMap proposalMap lowSnr lm
  rw [latchLm_car]
  rfl

/-- LM_CTRL applies and a new interval begins. -/
def refreshed : State := (s.latchLm k).updCar k fun c => { c with probeNew := 0, snrMin := List.replicate 8 none }

theorem refreshed_car : (s.refreshed k).car k
    = { s.car k with lmNow := s.word (.lfe k) 0x020, probeNew := 0, snrMin := List.replicate 8 none } :=
  (car_updCar _ k _).trans (by rw [latchLm_car])

theorem refreshed_kept {α : Type} (m : Fin 16) (g : Carrier → α) (hg : ∀ c w n x, g { c with lmNow := w, probeNew := n, snrMin := x } = g c) :
    g ((s.refreshed k).car m) = g (s.car m) :=
  (car_updCar_kept (s.latchLm k) g fun c => hg c c.lmNow _ _).trans (car_updCar_kept s g fun c => hg c _ c.probeNew c.snrMin)

theorem refreshed_lm (f : Fld) : (s.refreshed k).lm k f = f.get (s.word (.lfe k) 0x020) := by
  unfold lm
  rw [refreshed_car]

/-- What keeps a refresh from proposing: the engine, a map like the one in force, a proposal or a change under way. -/
def holdsBack : Bool := s.pst (.lfe k) = 5 || s.rd (.lfe k) LFE.LM_CTRL.NEG_EN = 0 || s.zr k || !s.inFrame k
  || (s.foundMap k off60).same (s.car k).rxMap || (s.car k).proposed || s.rd (.fcr k) FCR.OH_VIEW.LM_CD ≠ 0

/-- The proposal's number, 1 to 255. -/
def nextPropId : Nat := if (s.car k).propId = 255 then 1 else (s.car k).propId + 1

/-- The proposal is noted. -/
def proposeNoted : State := (s.refreshed k).updCar k fun c =>
  { c with lastProp := some (s.foundMap k off60), propId := s.nextPropId k, proposed := true }

/-- What follows the version and the SEQ of PROPOSE. -/
def proposeBody : List Nat :=
  [0, s.nextPropId k, (s.foundMap k off60).dens] ++ (s.foundMap k off60).codes
    ++ ((List.range 8).map fun i => snrByte ((s.car k).rxMap.codes.getD i 0x3F) (s.lowSnr k i))
    ++ [s.rd (.lfe k) LFE.LM_CTRL.MARGIN, (s.car k).rxMap.id]

/-- PROPOSE waits to be sent on the paired transmitter. -/
def proposeSent : State := (s.proposeNoted k off60).sendImc (s.pair k) 0x10 (s.proposeBody k off60)

/-- The receiver has a proposal under way, but where it has lost its map. -/
def proposing : State :=
  let t := s.proposeSent k off60
  (if t.rxState k = 6 then t else t.setRxState k 3).count (.lfe k) 7 1

theorem proposeNoted_car : (s.proposeNoted k off60).car k = { s.car k with
    lmNow := s.word (.lfe k) 0x020, probeNew := 0, snrMin := List.replicate 8 none
    lastProp := some (s.foundMap k off60), propId := s.nextPropId k, proposed := true } :=
  (car_updCar _ k _).trans (by rw [refreshed_car])

theorem proposeNoted_margin : (s.proposeNoted k off60).lm k LFE.LM_CTRL.MARGIN = s.rd (.lfe k) LFE.LM_CTRL.MARGIN := by
  unfold lm
  rw [proposeNoted_car]
  rfl

theorem proposeNoted_pair : (s.proposeNoted k off60).pair k = s.pair k := by
  have hpair : (s.proposeNoted k off60).rd (.csc k) CSC.CSC_CTRL.PAIR = s.rd (.csc k) CSC.CSC_CTRL.PAIR := by
    unfold proposeNoted refreshed latchLm
    rw [updCar_rd, updCar_rd, updCar_rd]
  unfold pair
  rw [proposeNoted_car, hpair]

theorem refresh_eq (h : s.enabled (.lfe k) = true) :
    s.refresh k off60 = if s.holdsBack k off60 then s.refreshed k else s.proposing k off60 := by
  have hlow : (s.latchLm k).lowSnr k = s.lowSnr k := by
    unfold lowSnr
    rw [latchLm_car]
  unfold refresh
  extract_lets p t c map low u id bytes v w
  have hmap : map = s.foundMap k off60 := rfl
  have hc : c = { s.car k with lmNow := s.word (.lfe k) 0x020 } := s.latchLm_car k
  have hid : id = s.nextPropId k := by
    unfold id nextPropId
    rw [hc]
  have hu : u = s.refreshed k := rfl
  have hv : v = s.proposeNoted k off60 := by
    unfold v proposeNoted
    rw [hid, hu, hmap]
  have hw : w = s.proposeSent k off60 := by
    unfold w proposeSent proposeBody bytes
    rw [hv, hid, hmap, proposeNoted_margin]
    unfold low
    rw [hlow, hc, proposeNoted_pair]
  rw [if_neg (by rw [h]; decide), hw, hu]
  refine if_congr ?_ rfl rfl
  rw [refreshed_lm, hc, hmap]
  rfl

theorem proposing_car (j : Fin 16) : (s.proposing k off60).car j = (s.proposeSent k off60).car j := by
  unfold proposing
  refine (car_of_cars j (count_cars _ _ _ _)).trans ?_
  split
  · rfl
  · exact car_of_cars j (wr_cars _ _ _ _)

/-- The record of the receiver, but for what waits to be sent on its own transmitter. -/
theorem proposing_kept {α : Type} (g : Carrier → α) (hg : ∀ c imc n, g { c with imc := imc, nextSeq := n } = g c) :
    g ((s.proposing k off60).car k) = g { s.car k with
      lmNow := s.word (.lfe k) 0x020, probeNew := 0, snrMin := List.replicate 8 none
      lastProp := some (s.foundMap k off60), propId := s.nextPropId k, proposed := true } := by
  rw [proposing_car, ← proposeNoted_car]
  exact sendImc_kept _ k _ _ _ g hg

theorem proposeNoted_imc (m : Fin 16) : ((s.proposeNoted k off60).car m).imc = (s.car m).imc := by
  unfold proposeNoted
  refine (car_updCar_kept (s.refreshed k) Carrier.imc ?_).trans (s.refreshed_kept k m Carrier.imc fun _ _ _ _ => rfl)
  exact fun _ => rfl

theorem proposeNoted_nextSeq (m : Fin 16) : ((s.proposeNoted k off60).car m).nextSeq = (s.car m).nextSeq := by
  unfold proposeNoted
  refine (car_updCar_kept (s.refreshed k) Carrier.nextSeq ?_).trans (s.refreshed_kept k m Carrier.nextSeq fun _ _ _ _ => rfl)
  exact fun _ => rfl

theorem proposing_imc : ((s.proposing k off60).car (s.pair k)).imc = (s.car (s.pair k)).imc
    ++ [(pad64 ([0x10, 1, (s.car (s.pair k)).nextSeq] ++ s.proposeBody k off60), 8)] := by
  rw [proposing_car, ← proposeNoted_imc s k off60, ← proposeNoted_nextSeq s k off60]
  exact sendImc_imc _ _ _ _

theorem proposeSent_rxState : (s.proposeSent k off60).rxState k = s.rxState k := by
  unfold proposeSent proposeNoted refreshed latchLm sendImc rxState
  rw [updCar_rd, updCar_rd, updCar_rd, updCar_rd]

theorem proposing_rxState : (s.proposing k off60).rxState k = if s.rxState k = 6 then 6 else 3 := by
  unfold proposing
  refine (count_rd _ _ _ _ _ _).trans ?_
  rw [proposeSent_rxState]
  split
  case isTrue h => exact (proposeSent_rxState s k off60).trans h
  case isFalse => exact rxState_setRxState _ k (by decide)

theorem proposing_out : (s.proposing k off60).out = s.out := by
  unfold proposing proposeSent proposeNoted refreshed latchLm sendImc
  refine (count_out _ _ _ _).trans ?_
  split
  · rw [updCar_out, updCar_out, updCar_out, updCar_out]
  · exact (wr_out _ _ _ _).trans (by rw [updCar_out, updCar_out, updCar_out, updCar_out])

variable {s k off60} {v : State} {l : List (Page × Nat)} {ps : List StatePart}

theorem Frame.refreshed (h : Frame v s l ps) (hc : StatePart.cars ∈ ps) : Frame v (s.refreshed k) l ps := by
  unfold State.refreshed latchLm
  exact (h.updCar hc).updCar hc

theorem Frame.proposing (h : Frame v s l ps) (hl : (Page.lfe k, 0x024) ∈ l) (hc : StatePart.cars ∈ ps) (hctr : StatePart.ctr ∈ ps) :
    Frame v (s.proposing k off60) l ps := by
  have hsent : Frame v (s.proposeSent k off60) l ps := by
    unfold proposeSent proposeNoted sendImc
    exact ((h.refreshed hc).updCar hc).updCar hc
  exact Frame.count (Frame.ite (fun _ => hsent) fun _ => hsent.setRxState hl) hctr

/-- A refresh proposes where the engine is active, negotiates outside the 800ZR mode with frames in their places, has found another map, and
has neither a proposal nor a change under way. -/
theorem holdsBack_eq_false_iff : s.holdsBack k off60 = false ↔
    (s.pst (.lfe k) ≠ 5 ∧ s.bit (.lfe k) LFE.LM_CTRL.NEG_EN = true ∧ s.zr k = false ∧ s.inFrame k = true)
    ∧ (s.foundMap k off60).same (s.car k).rxMap = false ∧ (s.car k).proposed = false ∧ s.rd (.fcr k) FCR.OH_VIEW.LM_CD = 0 := by
  have hneg : s.bit (.lfe k) LFE.LM_CTRL.NEG_EN = true ↔ s.rd (.lfe k) LFE.LM_CTRL.NEG_EN ≠ 0 := decide_eq_true_iff
  rw [hneg]
  unfold holdsBack
  simp only [Bool.or_eq_false_iff, decide_eq_false_iff_not, Bool.not_eq_false', ne_eq, not_not, and_assoc]

end

/-! ## The end of a proposal's 1 s (R129) -/

section
variable (s : State) (k : Fin 16)

/-- A proposal that found no answer is given up. -/
def givenUp : State := (s.updCar k fun c => { c with proposed := false }).count (.lfe k) 8 1

theorem givenUp_car : (s.givenUp k).car k = { s.car k with proposed := false } :=
  (car_of_cars k (count_cars _ _ _ _)).trans (car_updCar s k _)

theorem givenUp_rxState : (s.givenUp k).rxState k = s.rxState k := count_rd _ _ _ _ _ _

/-- The receiver rests, where the proposal was all that was under way. -/
def proposalOver : State := if (s.givenUp k).rxState k = 3 then (s.givenUp k).rxRest k else s.givenUp k

theorem proposalOver_car : (s.proposalOver k).car k = { s.car k with proposed := false } := by
  unfold proposalOver
  split
  · exact (car_of_cars k (wr_cars _ _ _ _)).trans (givenUp_car s k)
  · exact givenUp_car s k

theorem proposalOver_rxState : (s.proposalOver k).rxState k
    = if s.rxState k = 3 then if (s.car k).rxMap.id = 0 then 1 else 2 else s.rxState k := by
  unfold proposalOver
  rw [givenUp_rxState]
  split
  · rw [rxState_rxRest, givenUp_car]
  · exact givenUp_rxState s k

theorem proposalOver_out : (s.proposalOver k).out = s.out := by
  unfold proposalOver
  split
  · exact wr_out _ _ _ _
  · rfl

variable {s k} in
theorem Frame.proposalOver {v : State} {l : List (Page × Nat)} {ps : List StatePart} (h : Frame v s l ps) (hl : (Page.lfe k, 0x024) ∈ l)
    (hc : StatePart.cars ∈ ps) (hctr : StatePart.ctr ∈ ps) : Frame v (s.proposalOver k) l ps := by
  have hgiven : Frame v (s.givenUp k) l ps := (h.updCar hc).count hctr
  exact Frame.ite (fun _ => hgiven.rxRest hl) fun _ => hgiven

end

/-! ## A shed (R138) -/

section
variable (s : State) (k : Fin 16) (fast : List Nat)

/-- A loaded subcarrier is below the SNR that its code requires, or has no valid SNR. -/
def ShedFails (i : Nat) : Prop := (s.car k).rxMap.codes.getD i 0x3F ≤ 36
  ∧ ((s.rd (.rxe k) RXE.RX_STATUS.SNR_VALID).testBit i = false
    ∨ fast.getD i 0 < reqSnr ((s.car k).rxMap.codes.getD i 0x3F) + s.penalty k)

/-- The codes that a shed asks for. -/
def shedAsked : List Nat := (List.range 8).map fun i => s.shedCode k i (fast.getD i 0)

/-- The subcarriers that it lowers. -/
def shedHeld : Nat := maskOf (fun i => codeRank ((s.shedAsked k fast).getD i 0) < codeRank ((s.car k).rxMap.codes.getD i 0x3F)) 8

/-- The shed's number, 1 to 255. -/
def nextShedId : Nat := if (s.car k).shedId = 255 then 1 else (s.car k).shedId + 1

/-- The shed is noted, its subcarriers are held. -/
def shedNoted : State := s.updCar k fun c => { c with
  shedId := s.nextShedId k, shedHold := c.shedHold ++ [s.shedHeld k fast], shedCodes := s.shedAsked k fast, shedMf := true }

/-- What follows the version and the SEQ of SHED. -/
def shedBody : List Nat := [0, s.nextShedId k, 0] ++ s.shedAsked k fast
  ++ ((List.range 8).map fun i => snrByte ((s.car k).rxMap.codes.getD i 0x3F) (some (min (fast.getD i 0) 255)))
  ++ [s.lm k LFE.LM_CTRL.MARGIN, (s.car k).rxMap.id]

/-- SHED is the next message of the paired transmitter. -/
def shedSent : State := (s.shedNoted k fast).sendImcNow (s.pair k) 0x13 (s.shedBody k fast)

/-- The receiver waits for the shed map, but where it has lost its map. -/
def shedAwaited : State := if s.rxState k = 6 then s.shedSent k fast else (s.shedSent k fast).setRxState k 5

def shedding : State := ((s.shedAwaited k fast).raise (.lfe k) 2).count (.lfe k) 9 1

theorem shedNoted_car : (s.shedNoted k fast).car k = { s.car k with
    shedId := s.nextShedId k, shedHold := (s.car k).shedHold ++ [s.shedHeld k fast], shedCodes := s.shedAsked k fast, shedMf := true } :=
  car_updCar s k _

theorem shedNoted_lm (f : Fld) : (s.shedNoted k fast).lm k f = s.lm k f := by
  unfold lm
  rw [shedNoted_car]

theorem shedNoted_pair : (s.shedNoted k fast).pair k = s.pair k := by
  have hpair : (s.shedNoted k fast).rd (.csc k) CSC.CSC_CTRL.PAIR = s.rd (.csc k) CSC.CSC_CTRL.PAIR := updCar_rd _ _ _ _ _
  unfold pair
  rw [shedNoted_car, hpair]

variable {s k fast}

theorem shedWindow_quiet (h : s.enabled (.lfe k) = false ∨ s.bit (.lfe k) LFE.LM_CTRL.SHED_EN = false ∨ s.zr k = true ∨ s.rxRuns k = false
    ∨ ∀ i, i < 8 → ¬s.ShedFails k fast i) : s.shedWindow k fast = s := by
  unfold shedWindow
  refine if_pos ?_
  unfold ShedFails at h
  simp only [Bool.or_eq_true, Bool.not_eq_true', List.any_eq_false, List.mem_range, Bool.and_eq_true, decide_eq_true_eq]
  tauto

theorem shedWindow_sheds (henabled : s.enabled (.lfe k) = true) (hshed : s.bit (.lfe k) LFE.LM_CTRL.SHED_EN = true) (hzr : s.zr k = false)
    (hruns : s.rxRuns k = true) {i : Nat} (hi : i < 8) (hfails : s.ShedFails k fast i) : s.shedWindow k fast = s.shedding k fast := by
  unfold shedWindow
  extract_lets p c n fails codes id held bytes v w
  have hany : (List.range 8).any fails = true := by
    refine List.any_eq_true.2 ⟨i, List.mem_range.2 hi, ?_⟩
    simpa [fails, ShedFails] using hfails
  have hv : v = s.shedNoted k fast := rfl
  have hw : w = s.shedSent k fast := by
    unfold w shedSent
    rw [hv, shedNoted_pair, shedNoted_lm]
    rfl
  rw [if_neg (by simp [p, henabled, hshed, hzr, hruns, hany]), hw]
  rfl

variable (s k fast)

theorem shedding_car (j : Fin 16) : (s.shedding k fast).car j = (s.shedSent k fast).car j := by
  have hawaited : (s.shedAwaited k fast).cars = (s.shedSent k fast).cars := by
    unfold shedAwaited
    split
    · rfl
    · exact wr_cars _ _ _ _
  refine car_of_cars j ?_
  unfold shedding
  rw [count_cars, raise_cars, hawaited]

/-- The record of the receiver, but for what waits to be sent on its own transmitter. -/
theorem shedding_kept {α : Type} (g : Carrier → α) (hg : ∀ c imc n, g { c with imc := imc, nextSeq := n } = g c) :
    g ((s.shedding k fast).car k) = g { s.car k with
      shedId := s.nextShedId k, shedHold := (s.car k).shedHold ++ [s.shedHeld k fast], shedCodes := s.shedAsked k fast, shedMf := true } := by
  rw [shedding_car, ← shedNoted_car]
  exact sendImcNow_kept _ k _ _ _ g hg

theorem shedNoted_kept {α : Type} (m : Fin 16) (g : Carrier → α)
    (hg : ∀ c i x y b, g { c with shedId := i, shedHold := x, shedCodes := y, shedMf := b } = g c) :
    g ((s.shedNoted k fast).car m) = g (s.car m) := car_updCar_kept s g fun c => hg c _ _ _ _

theorem shedding_imc : ((s.shedding k fast).car (s.pair k)).imc
    = (pad64 ([0x13, 1, (s.car (s.pair k)).nextSeq] ++ s.shedBody k fast), 8) :: (s.car (s.pair k)).imc := by
  rw [shedding_car, ← s.shedNoted_kept k fast _ Carrier.imc fun _ _ _ _ _ => rfl,
    ← s.shedNoted_kept k fast _ Carrier.nextSeq fun _ _ _ _ _ => rfl]
  exact sendImcNow_imc _ _ _ _

theorem shedSent_rxState : (s.shedSent k fast).rxState k = s.rxState k := by
  unfold shedSent shedNoted sendImcNow rxState
  rw [updCar_rd, updCar_rd]

theorem shedding_rxState : (s.shedding k fast).rxState k = if s.rxState k = 6 then 6 else 5 := by
  have hawaited : (s.shedding k fast).rxState k = (s.shedAwaited k fast).rxState k :=
    (count_rd _ _ _ _ _ _).trans (rd_of_word (raise_word _ _ _ _ _ (by decide) (.inr (by decide)) (.inl nofun)))
  rw [hawaited]
  unfold shedAwaited
  split
  case isTrue h => exact (shedSent_rxState s k fast).trans h
  case isFalse => exact rxState_setRxState _ k (by decide)

theorem shedding_event : ((s.shedding k fast).word (.lfe k) 0x00C).getLsbD 2 = true := by
  unfold shedding
  rw [count_word]
  exact raise_bit _ nofun (by decide)

theorem shedding_out : (s.shedding k fast).out = s.out := by
  have hsent : (s.shedSent k fast).out = s.out := by
    unfold shedSent shedNoted sendImcNow
    rw [updCar_out, updCar_out]
  unfold shedding shedAwaited
  rw [count_out, raise_out]
  split
  · exact hsent
  · exact (wr_out _ _ _ _).trans hsent

/-- A shed holds the subcarriers whose code it lowers. -/
theorem testBit_shedHeld {i : Nat} (h : i < 8) : (s.shedHeld k fast).testBit i = true
    ↔ codeRank (s.shedCode k i (fast.getD i 0)) < codeRank ((s.car k).rxMap.codes.getD i 0x3F) := by
  have hasked : (s.shedAsked k fast).getD i 0 = s.shedCode k i (fast.getD i 0) := by
    unfold shedAsked
    rw [List.getD_eq_getElem _ _ (by simpa using h), List.getElem_map, List.getElem_range]
  unfold shedHeld
  rw [testBit_maskOf _ h, hasked]

variable {s k fast} in
theorem Frame.shedding {v : State} {l : List (Page × Nat)} {ps : List StatePart} (h : Frame v s l ps) (hevent : (Page.lfe k, 0x00C) ∈ l)
    (hstatus : (Page.lfe k, 0x024) ∈ l) (hp : StatePart.cars :: eventParts ⊆ ps) : Frame v (s.shedding k fast) l ps := by
  have hsent : Frame v (s.shedSent k fast) l ps := by
    unfold shedSent shedNoted sendImcNow
    exact (h.updCar (hp (by decide))).updCar (hp (by decide))
  have hawaited : Frame v (s.shedAwaited k fast) l ps := Frame.ite (fun _ => hsent) fun _ => hsent.setRxState hstatus
  exact (hawaited.raise hevent (hp (by decide)) (hp (by decide)) (hp (by decide))).count (hp (by decide))

end

end Sys2Proof.Machine.State
namespace Sys2Proof.Machine

open Sys2Proof Reg

section
variable (s : State) (k : Fin 16) (switch60 probe60 : BitVec 8) (fast : List Nat)

theorem exec_lmRefresh : exec (.lmRefresh k switch60 probe60) s = s.done fun t => t.refresh k (switch60 &&& probe60) := rfl
theorem exec_proposalTimeout : exec (.proposalTimeout k) s
    = s.done fun t => if (t.car k).proposed then t.proposalOver k else t := rfl
theorem exec_shedWindowEnd : exec (.shedWindowEnd k fast) s = s.done fun t => t.shedWindow k fast := rfl
theorem exec_shedHoldExpiry : exec (.shedHoldExpiry k) s
    = s.done fun t => t.updCar k fun c => { c with shedHold := c.shedHold.drop 1 } := rfl
theorem exec_negTimeout : exec (.negTimeout k) s
    = s.done fun t => if t.txState k = 1 && t.inFrame k then t.raise (.lfe k) 6 else t := rfl

variable {s k switch60 probe60 fast}

/-! ## A refresh -/

theorem answers_refresh_proposes (henabled : s.enabled (.lfe k) = true) (h : s.holdsBack k (switch60 &&& probe60) = false) :
    Answers (.lmRefresh k switch60 probe60) s fun u =>
      (u.car k).proposed = true ∧ (u.car k).lastProp = some (s.foundMap k (switch60 &&& probe60)) ∧ (u.car k).propId = s.nextPropId k
      ∧ (u.car k).lmNow = s.word (.lfe k) 0x020 ∧ (u.car k).probeNew = 0 ∧ (u.car k).snrMin = List.replicate 8 none
      ∧ u.rxState k = (if s.rxState k = 6 then 6 else 3)
      ∧ (u.car (s.pair k)).imc = (s.car (s.pair k)).imc
        ++ [(pad64 ([0x10, 1, (s.car (s.pair k)).nextSeq] ++ s.proposeBody k (switch60 &&& probe60)), 8)]
      ∧ u.out = [] ∧ s.Frame u [(.lfe k, 0x024)] [.cars, .ctr] := by
  let off60 := switch60 &&& probe60
  have hacts : s.silent.refresh k off60 = s.silent.proposing k off60 :=
    (State.refresh_eq s.silent k off60 henabled).trans (if_neg (by rw [show s.silent.holdsBack k off60 = false from h]; decide))
  have hkept {α : Type} (g : Carrier → α) (hg : ∀ c imc n, g { c with imc := imc, nextSeq := n } = g c) :=
    s.silent.proposing_kept k off60 g hg
  refine answers_done _ (exec_lmRefresh s k switch60 probe60) ?_
  rw [hacts]
  exact ⟨hkept Carrier.proposed fun _ _ _ => rfl, hkept Carrier.lastProp fun _ _ _ => rfl, hkept Carrier.propId fun _ _ _ => rfl,
    hkept Carrier.lmNow fun _ _ _ => rfl, hkept Carrier.probeNew fun _ _ _ => rfl, hkept Carrier.snrMin fun _ _ _ => rfl,
    s.silent.proposing_rxState k off60, s.silent.proposing_imc k off60, s.silent.proposing_out k off60,
    State.Frame.silent.proposing (.head _) (.head _) (.tail _ (.head _))⟩

theorem answers_refresh_begins (henabled : s.enabled (.lfe k) = true) (h : s.holdsBack k (switch60 &&& probe60) = true) :
    Answers (.lmRefresh k switch60 probe60) s fun u =>
      u.car k = { s.car k with lmNow := s.word (.lfe k) 0x020, probeNew := 0, snrMin := List.replicate 8 none }
      ∧ (u.car (s.pair k)).imc = (s.car (s.pair k)).imc ∧ u.out = [] ∧ s.Frame u [] [.cars] := by
  have hacts : s.silent.refresh k (switch60 &&& probe60) = s.silent.refreshed k :=
    (State.refresh_eq s.silent k _ henabled).trans (if_pos h)
  refine answers_done _ (exec_lmRefresh s k switch60 probe60) ?_
  rw [hacts]
  exact ⟨s.silent.refreshed_car k, s.silent.refreshed_kept k _ Carrier.imc fun _ _ _ _ => rfl, rfl, State.Frame.silent.refreshed (.head _)⟩

theorem answers_refresh_off (h : s.enabled (.lfe k) = false) : Answers (.lmRefresh k switch60 probe60) s fun u =>
    u.out = [] ∧ s.Frame u [] [] := by
  refine answers_nothing (exec_lmRefresh s k switch60 probe60) ?_
  unfold State.refresh
  exact if_pos (by rw [show s.silent.enabled (.lfe k) = false from h]; rfl)

/-! ## The end of a proposal's 1 s -/

theorem answers_proposalTimeout (h : (s.car k).proposed = true) : Answers (.proposalTimeout k) s fun u =>
    u.car k = { s.car k with proposed := false }
    ∧ u.rxState k = (if s.rxState k = 3 then if (s.car k).rxMap.id = 0 then 1 else 2 else s.rxState k) ∧ u.out = []
    ∧ s.Frame u [(.lfe k, 0x024)] [.cars, .ctr] :=
  answers_done_if (cond := fun t => (t.car k).proposed) (exec_proposalTimeout s k) h
    ⟨s.silent.proposalOver_car k, s.silent.proposalOver_rxState k, s.silent.proposalOver_out k,
      State.Frame.silent.proposalOver (.head _) (.head _) (.tail _ (.head _))⟩

/-! ## A shed -/

theorem answers_shed_window (henabled : s.enabled (.lfe k) = true) (hshed : s.bit (.lfe k) LFE.LM_CTRL.SHED_EN = true) (hzr : s.zr k = false)
    (hruns : s.rxRuns k = true) {i : Nat} (hi : i < 8) (hfails : s.ShedFails k fast i) : Answers (.shedWindowEnd k fast) s fun u =>
      u.rxState k = (if s.rxState k = 6 then 6 else 5) ∧ (u.word (.lfe k) 0x00C).getLsbD 2 = true ∧ (u.car k).shedId = s.nextShedId k
      ∧ (u.car k).shedCodes = s.shedAsked k fast
      ∧ (u.car (s.pair k)).imc
        = (pad64 ([0x13, 1, (s.car (s.pair k)).nextSeq] ++ s.shedBody k fast), 8) :: (s.car (s.pair k)).imc
      ∧ (u.car k).shedHold = (s.car k).shedHold ++ [s.shedHeld k fast]
      ∧ u.out = [] ∧ s.Frame u [(.lfe k, 0x00C), (.lfe k, 0x024)] (.cars :: State.eventParts) := by
  have hacts : s.silent.shedWindow k fast = s.silent.shedding k fast :=
    State.shedWindow_sheds (s := s.silent) henabled hshed hzr hruns hi hfails
  have hkept {α : Type} (g : Carrier → α) (hg : ∀ c imc n, g { c with imc := imc, nextSeq := n } = g c) :=
    s.silent.shedding_kept k fast g hg
  refine answers_done _ (exec_shedWindowEnd s k fast) ?_
  rw [hacts]
  exact ⟨s.silent.shedding_rxState k fast, s.silent.shedding_event k fast, hkept Carrier.shedId fun _ _ _ => rfl,
    hkept Carrier.shedCodes fun _ _ _ => rfl, s.silent.shedding_imc k fast, hkept Carrier.shedHold fun _ _ _ => rfl,
    s.silent.shedding_out k fast, State.Frame.silent.shedding (.head _) (.tail _ (.head _)) (List.Subset.refl _)⟩

theorem answers_shedHoldExpiry : Answers (.shedHoldExpiry k) s fun u =>
    u.car k = { s.car k with shedHold := (s.car k).shedHold.drop 1 } ∧ u.out = [] ∧ s.Frame u [] [.cars] :=
  answers_done _ (exec_shedHoldExpiry s k) ⟨State.car_updCar _ k _, rfl, State.Frame.silent.updCar (.head _)⟩

/-! ## The wait for a PROPOSE -/

theorem answers_negTimeout (hstate : s.txState k = 1) (hframe : s.inFrame k = true) : Answers (.negTimeout k) s fun u =>
    (u.word (.lfe k) 0x00C).getLsbD 6 = true ∧ u.out = [] ∧ s.Frame u [(.lfe k, 0x00C)] State.eventParts :=
  answers_done_if (cond := fun t => t.txState k = 1 && t.inFrame k) (exec_negTimeout s k)
    ((Bool.and_eq_true _ _).mpr ⟨decide_eq_true hstate, hframe⟩)
    ⟨State.raise_bit _ nofun (by decide), State.raise_out _ _ _,
      State.Frame.silent.raise (.head _) (.head _) (.tail _ (.head _)) (.tail _ (.tail _ (.head _)))⟩

theorem answers_negTimeout_none (h : s.txState k ≠ 1 ∨ s.inFrame k = false) : Answers (.negTimeout k) s fun u =>
    u.out = [] ∧ s.Frame u [] [] := by
  refine answers_nothing (exec_negTimeout s k) (if_neg ?_)
  rw [Bool.and_eq_true, decide_eq_true_iff, not_and_or, Bool.not_eq_true]
  exact h

end

/-- Settles O30: the codes by the lemmas about them, each command by the lemma of its end. -/
theorem loadMapProposer : Obligations.loadMapProposer := by
  unfold Obligations.loadMapProposer
  intro s k switch60 probe60 fast q m c n margin cap off60 t map runs sends fails
  have hmap : map = s.foundMap k off60 := (s.foundMap_eq k off60).symm
  have hback : s.holdsBack k off60 = false
      ↔ (s.pst q ≠ 5 ∧ s.bit q LFE.LM_CTRL.NEG_EN = true ∧ s.zr k = false ∧ s.inFrame k = true) ∧ sends := by
    unfold sends
    rw [hmap]
    exact s.holdsBack_eq_false_iff
  refine ⟨fun cap margin x y => bestCode_eq_some_iff cap margin x y, fun i x off => s.refreshCode_eq k i x off,
    fun ⟨henabled, hactive⟩ hsends => ?_, fun henabled hno => ?_, answers_refresh_off, answers_proposalTimeout, fun h => ?_,
    fun henabled hshed hzr hruns ⟨i, hi, hfails⟩ => ?_, fun i h => State.shedCode_unloaded h,
    fun i h => ⟨State.codeRank_shedCode_le h, State.shedCode_invalid h⟩, fun h => ?_, answers_shedHoldExpiry, answers_negTimeout,
    answers_negTimeout_none⟩
  · refine State.answers_imp (answers_refresh_proposes henabled (hback.2 ⟨hactive, hsends⟩)) ?_
    rintro u ⟨hproposed, hlast, hid, hlm, hprobe, hsnr, hstate, himc, hout, hframe⟩
    refine ⟨hproposed, hlast.trans (by rw [hmap]), hid, hlm, hprobe, hsnr, hstate, himc.trans ?_, hout, hframe⟩
    rw [hid, hmap]
    rfl
  · refine answers_refresh_begins henabled ?_
    rw [← Bool.not_eq_false, hback]
    exact fun ⟨hactive, hsends⟩ => hno ⟨⟨henabled, hactive⟩, hsends⟩
  · exact answers_nothing (exec_proposalTimeout s k) (if_neg (by rw [show (s.silent.car k).proposed = false from h]; decide))
  · refine State.answers_imp (answers_shed_window henabled hshed hzr hruns hi hfails) ?_
    rintro u ⟨hstate, hevent, hid, hcodes, himc, hhold, hout, hframe⟩
    refine ⟨hstate, hevent, hid, hcodes, himc.trans ?_, ⟨_, hhold, fun j hj => s.testBit_shedHeld k fast hj⟩, hout, hframe⟩
    rw [hid, hcodes]
    rfl
  · exact answers_nothing (exec_shedWindowEnd s k fast) (State.shedWindow_quiet (s := s.silent) h)

end Sys2Proof.Machine
end

section
/-! PROOFS. The registers of the load-map part and of the FEC part that take settings: a manual announcement, the ceiling of iterations and the
800ZR mode (R137, R146, R152, R159). Settles O31. -/
namespace Sys2Proof.Machine.State

open Sys2Proof Reg

/-- What a state says, but for its sessions, a write finds as the state before had it. -/
theorem touch_silent_same {α : Type} (g : State → α) (hses : ∀ s x, g { s with ses := x } = g s) (hout : ∀ s, g s.silent = g s) (s : State) :
    g s.touch.silent = g s := by
  rw [hout]
  obtain h | h := touch_eq s <;> rw [h]
  exact hses s _

/-! ## A manual announcement (R137, R146) -/

section
variable (s : State) (k : Fin 16) (v : Word)

/-- The staged map, with the code and the density that the write brings. -/
def stagedBy : LMap :=
  { codes := (s.car k).staged.codes.set (LFE.LM_STAGE.SEL.get v) (LFE.LM_STAGE.CODE.get v), dens := LFE.LM_STAGE.DENSITY.get v, id := 0 }

/-- An announcement is refused. -/
def stageRefused : Bool := !codeOk (LFE.LM_STAGE.CODE.get v) || LFE.LM_STAGE.DENSITY.get v = 3 || (s.zr k || (s.stagedBy k v).same (s.car k).txMap)

theorem stageRefused_iff : s.stageRefused k v = true ↔ codeOk (LFE.LM_STAGE.CODE.get v) = false ∨ LFE.LM_STAGE.DENSITY.get v = 3
    ∨ s.zr k = true ∨ (s.stagedBy k v).same (s.car k).txMap = true := by
  unfold stageRefused
  simp only [Bool.or_eq_true, Bool.not_eq_true', decide_eq_true_eq, or_assoc]

/-- LM_STAGE takes the value. -/
def stageWritten : State := (s.wb (.lfe k) LFE.LM_STATUS.CFG_REJECT false).plainWrite (.lfe k) 0x030 (LFE.LM_STAGE.ANNOUNCE.put v 1)

/-- Where it waits: it is held in COUNTDOWN and in SHED_PENDING; in OFF there is nothing to announce to. -/
def manualWait (c : Carrier) : Option (LMap × Bool) :=
  if s.txState k = 0 then c.waitManual else some (s.stagedBy k v, s.txState k == 3 || s.txState k == 4)

/-- An announcement that is taken. -/
def announcedManually : State :=
  ((s.stageWritten k v).updCar k fun c => { c with staged := s.stagedBy k v, waitManual := s.manualWait k v c }).lmSync k

theorem stageWritten_eq : s.stageWritten k v = (s.wb (.lfe k) LFE.LM_STATUS.CFG_REJECT false).setWord (.lfe k) 0x030
    (((s.wb (.lfe k) LFE.LM_STATUS.CFG_REJECT false).word (.lfe k) 0x030 &&& ~~~(0x30033F07 : Word))
      ||| (LFE.LM_STAGE.ANNOUNCE.put v 1 &&& 0x30033F07)) :=
  plainWrite_of_rw (r := ⟨0x030, 0x10000, 0x30033F07, 0x0⟩) _ rfl rfl

theorem stageWritten_word {i : Nat} (h : i < 0x1000 ∧ i ≠ 0x030) :
    (s.stageWritten k v).word (.lfe k) i = (s.wb (.lfe k) LFE.LM_STATUS.CFG_REJECT false).word (.lfe k) i := by
  rw [stageWritten_eq, word_setWord_ne _ _ _ _ _ _ (by decide) h.1 (.inr h.2)]

theorem stageWritten_txState : (s.stageWritten k v).txState k = s.txState k :=
  (rd_of_word (stageWritten_word s k v (by decide))).trans (rd_wb_other _ _ _ _ _ (by decide))

theorem stageWritten_pst : (s.stageWritten k v).pst (.lfe k) = s.pst (.lfe k) :=
  pst_of_word ((stageWritten_word s k v (by decide)).trans (word_wb_other _ _ _ _ (by decide)))

theorem stageWritten_reject : (s.stageWritten k v).bit (.lfe k) LFE.LM_STATUS.CFG_REJECT = false :=
  (bit_of_word (stageWritten_word s k v (by decide))).trans (bit_wb_same _ _ _ _ (by decide) (by decide))

theorem stageWritten_cars : (s.stageWritten k v).cars = s.cars := by
  rw [stageWritten_eq, setWord_cars, wb_cars]

theorem stageWritten_out : (s.stageWritten k v).out = s.out := by
  rw [stageWritten_eq, setWord_out, wb_out]

theorem effLmStage_announce : effLmStage k (LFE.LM_STAGE.ANNOUNCE.put v 1) s
    = if s.stageRefused k v then s.wb (.lfe k) LFE.LM_STATUS.CFG_REJECT true else s.announcedManually k v := by
  have hfield {f : Fld} (h : f.lo + f.w ≤ 31) : f.get (LFE.LM_STAGE.ANNOUNCE.put v 1) = f.get v := Fld.get_put_ne _ _ _ _ (.inr h)
  unfold effLmStage
  extract_lets p c code dens ann staged t n u
  have hcode : code = LFE.LM_STAGE.CODE.get v := hfield (by decide)
  have hdens : dens = LFE.LM_STAGE.DENSITY.get v := hfield (by decide)
  have hstaged : staged = s.stagedBy k v := by
    unfold staged stagedBy
    rw [hcode, hdens, hfield (by decide)]
  have hann : ann = true := by
    unfold ann
    rw [Fld.get_put_same _ _ _ (by decide)]
    rfl
  have hn : n = s.txState k := s.stageWritten_txState k v
  have hu : u = (s.stageWritten k v).updCar k fun c => { c with staged := s.stagedBy k v, waitManual := s.manualWait k v c } := by
    unfold u manualWait
    simp only [hn, hann, hstaged, Bool.true_and, decide_eq_true_eq, ne_eq, ite_not]
    rfl
  rw [hcode, hdens, hstaged, hann, hu]
  rfl

theorem announcedManually_car : (s.announcedManually k v).car k
    = { s.car k with staged := s.stagedBy k v, waitManual := s.manualWait k v (s.car k) } := by
  unfold announcedManually
  rw [car_of_cars k (lmSync_cars _ k), car_updCar, car_of_cars k (stageWritten_cars s k v)]

theorem announcedManually_reject : (s.announcedManually k v).bit (.lfe k) LFE.LM_STATUS.CFG_REJECT = false :=
  (lmSync_bit _ k (by decide)).trans (stageWritten_reject s k v)

variable {s k v} in
/-- HELD shows an announcement that is held, or that waits while the engine is HELD. -/
theorem announcedManually_held (h : s.txState k ≠ 0) : (s.announcedManually k v).bit (.lfe k) LFE.LM_STATUS.HELD
    = ((s.txState k == 3 || s.txState k == 4) || s.pst (.lfe k) == 5) := by
  rw [← stageWritten_pst s k v]
  refine lmSync_held _ k (map := s.stagedBy k v) ?_
  rw [car_updCar]
  exact if_neg h

theorem announcedManually_out : (s.announcedManually k v).out = s.out := by
  unfold announcedManually
  rw [lmSync_out, updCar_out, stageWritten_out]

variable {s k v} in
theorem Frame.announcedManually {u : State} {l : List (Page × Nat)} {ps : List StatePart} (h : Frame u s l ps) (hstatus : (Page.lfe k, 0x024) ∈ l)
    (hstage : (Page.lfe k, 0x030) ∈ l) (hc : StatePart.cars ∈ ps) : Frame u (s.announcedManually k v) l ps := by
  have hwritten : Frame u (s.stageWritten k v) l ps := by
    rw [stageWritten_eq]
    exact (h.wb (by decide) hstatus).setWord (by decide) hstage
  exact (hwritten.updCar hc).lmSync hstatus

end
/-! ## What a restart of the receiver leaves on its FEC part (R113, R116) -/

section
variable (s : State) (k : Fin 16)

theorem dropCw_zr : (s.dropCw k).zr k = s.zr k := by
  unfold dropCw
  extract_lets s1 s2
  split
  · rfl
  · have hraised : (s2.raiseIf (s2.runs (.lfe k)) (.lfe k) 11).zr k = s2.zr k :=
      bit_of_word (raiseIf_word _ _ _ _ _ _ (by decide) (.inr (by decide)) (.inl nofun))
    rw [hraised]
    exact bit_wb_other s1 (.lfe k) _ _ false (by decide)

theorem dropCw_lfe {i : Nat} (h : i < 0x1000 ∧ i ≠ 0x044 ∧ i ≠ 0x00C) : (s.dropCw k).word (.lfe k) i = s.word (.lfe k) i := by
  refine (Frame.refl.dropCw (List.Subset.refl _) (List.Subset.refl _)).reg _ i h.1 (.inl nofun) ?_
  simp [rxRegs, h.2.1, h.2.2]

variable {s k} in
theorem dropCw_keeps {j : Nat} (h : (s.word (.lfe k) 0x00C).getLsbD j = true) : ((s.dropCw k).word (.lfe k) 0x00C).getLsbD j = true := by
  unfold dropCw
  extract_lets s1 s2
  split
  · exact h
  · have h2 : (s2.word (.lfe k) 0x00C).getLsbD j = true :=
      (congrArg (BitVec.getLsbD · j) (word_wb_other s1 (.lfe k) LFE.FEC_STATUS.CW_LOCK false (by decide))).trans h
    unfold raiseIf
    split
    · exact raise_keeps _ nofun h2
    · exact h2

/-- A restart changes registers of the receiver, and drops the codeword lock where there was a lock. -/
theorem rxRestart_cases (fast : Bool) : ∃ t : State, (s.rxRestart k fast = t ∨ s.rxRestart k fast = t.dropCw k)
    ∧ (∀ i < 0x1000, t.word (.lfe k) i = s.word (.lfe k) i)
    ∧ (t.car k).txMap = (s.car k).txMap ∧ (t.car k).rxMap = (s.car k).rxMap := by
  have hlfe {t : State} (h : s.Frame t [(.rxe k, 0x024), (.rxe k, 0x03C), (.rxe k, 0x040), (.rxe k, 0x044)] [.cars]) :
      ∀ i < 0x1000, t.word (.lfe k) i = s.word (.lfe k) i :=
    fun i hi => h.reg _ i hi (.inl nofun) (by simp)
  unfold rxRestart
  extract_lets p old n s1 lock re s2 s3
  have h0 : s.Frame s [(.rxe k, 0x024), (.rxe k, 0x03C), (.rxe k, 0x040), (.rxe k, 0x044)] [.cars] := Frame.refl
  have h2 : s.Frame s2 _ _ := ((h0.wr (by decide) (.head _)).wb (by decide) (.head _)).updCar (.head _)
  have hcars : s1.cars = s.cars := by rw [wb_cars, wr_cars]
  have hkept {α : Type} (g : Carrier → α) (hg : ∀ c x y i j, g { c with fast := x, failRaised := y, eqRestart := i, gap := j } = g c) :
      g (s2.car k) = g (s.car k) :=
    (car_updCar_kept s1 g fun c => hg c _ _ _ _).trans (congrArg g (car_of_cars k hcars))
  have htx : (s2.car k).txMap = (s.car k).txMap := hkept Carrier.txMap fun _ _ _ _ _ => rfl
  have hrx : (s2.car k).rxMap = (s.car k).rxMap := hkept Carrier.rxMap fun _ _ _ _ _ => rfl
  split
  · have hcar : (s3.wr p RXE.EQ_CTRL.CONVERGED 0).car k = s2.car k :=
      car_of_cars k (by rw [wr_cars, setWord_cars, setWord_cars, wr_cars])
    refine ⟨s3.wr p RXE.EQ_CTRL.CONVERGED 0, .inr rfl, hlfe ?_, by rw [hcar, htx], by rw [hcar, hrx]⟩
    exact (((h2.wr (by decide) (.head _)).setWord (by decide) (.tail _ (.head _))).setWord (by decide) (.tail _ (.tail _ (.head _)))).wr
      (by decide) (.tail _ (.tail _ (.tail _ (.head _))))
  · exact ⟨s2, .inl rfl, hlfe h2, htx, hrx⟩

theorem rxRestart_lfe (fast : Bool) {i : Nat} (h : i < 0x1000 ∧ i ≠ 0x044 ∧ i ≠ 0x00C) :
    (s.rxRestart k fast).word (.lfe k) i = s.word (.lfe k) i := by
  obtain ⟨t, ht | ht, hlfe, -⟩ := s.rxRestart_cases k fast <;> rw [ht]
  · exact hlfe i h.1
  · exact (dropCw_lfe t k h).trans (hlfe i h.1)

theorem rxRestart_zr (fast : Bool) : (s.rxRestart k fast).zr k = s.zr k := by
  obtain ⟨t, ht | ht, hlfe, -⟩ := s.rxRestart_cases k fast <;> rw [ht]
  · exact bit_of_word (hlfe _ (by decide))
  · exact (dropCw_zr t k).trans (bit_of_word (hlfe _ (by decide)))

variable {s k} in
theorem rxRestart_keeps {fast : Bool} {j : Nat} (h : (s.word (.lfe k) 0x00C).getLsbD j = true) :
    ((s.rxRestart k fast).word (.lfe k) 0x00C).getLsbD j = true := by
  obtain ⟨t, ht | ht, hlfe, -⟩ := s.rxRestart_cases k fast <;> rw [ht]
  · rwa [hlfe _ (by decide)]
  · exact dropCw_keeps (by rwa [hlfe _ (by decide)])

theorem rxRestart_maps (fast : Bool) : ((s.rxRestart k fast).car k).txMap = (s.car k).txMap
    ∧ ((s.rxRestart k fast).car k).rxMap = (s.car k).rxMap := by
  obtain ⟨t, ht | ht, -, htx, hrx⟩ := s.rxRestart_cases k fast <;> rw [ht]
  · exact ⟨htx, hrx⟩
  · rw [dropCw_car]
    exact ⟨htx, hrx⟩

end

/-! ## FEC_CTRL (R152, R159) -/

/-- An engine runs by its ENABLE, by the dies that are up and by the tiles that are lost. -/
theorem runs_of_enabled {s u : State} {p : Page} (h : u.enabled p = s.enabled p) (hstart : u.start = s.start) (hcad : u.cad = s.cad) :
    u.runs p = s.runs p := by
  unfold runs dieUp broken lostTiles
  rw [h, hstart, hcad]

section
variable (s : State) (k : Fin 16) (v : Word) (on : Bool)

/-- The write changes ZR_MODE. -/
def zrTurned : Bool := LFE.FEC_CTRL.ZR_MODE.get v != s.rd (.lfe k) LFE.FEC_CTRL.ZR_MODE

/-- A write is refused: a ceiling out of range, a change of ZR_MODE outside OFF and DRAINED, the 800ZR mode of a bonded carrier. -/
def fecRefused : Bool :=
  let i := LFE.FEC_CTRL.ITER_CEIL.get v
  let n := s.pst (.lfe k)
  i < 2 || 12 < i || (s.zrTurned k v && ((n != 0 && n != 6)
    || (LFE.FEC_CTRL.ZR_MODE.get v == 1 && (s.bondedTx k || s.bondedRx k))))

theorem zrTurned_iff : s.zrTurned k v = true ↔ LFE.FEC_CTRL.ZR_MODE.get v ≠ s.rd (.lfe k) LFE.FEC_CTRL.ZR_MODE := bne_iff_ne

theorem fecRefused_iff : s.fecRefused k v = true ↔ LFE.FEC_CTRL.ITER_CEIL.get v < 2 ∨ 12 < LFE.FEC_CTRL.ITER_CEIL.get v
    ∨ LFE.FEC_CTRL.ZR_MODE.get v ≠ s.rd (.lfe k) LFE.FEC_CTRL.ZR_MODE ∧ s.pst (.lfe k) ≠ 0 ∧ s.pst (.lfe k) ≠ 6
    ∨ LFE.FEC_CTRL.ZR_MODE.get v ≠ s.rd (.lfe k) LFE.FEC_CTRL.ZR_MODE ∧ LFE.FEC_CTRL.ZR_MODE.get v = 1
      ∧ (s.bondedTx k = true ∨ s.bondedRx k = true) := by
  unfold fecRefused
  simp only [Bool.or_eq_true, Bool.and_eq_true, decide_eq_true_eq, bne_iff_ne, beq_iff_eq, zrTurned_iff, or_assoc, and_or_left]

/-- FEC_CTRL takes the value. -/
def fecWritten : State := (s.wb (.lfe k) LFE.FEC_STATUS.CFG_REJECT false).plainWrite (.lfe k) 0x040 v

/-- A change waits for a transmit multiframe boundary. -/
def zrWaits : State := s.updCar k fun c => { c with zrWait := some on }

theorem effFecCtrl_eq : effFecCtrl k v s = if s.fecRefused k v then s.wb (.lfe k) LFE.FEC_STATUS.CFG_REJECT true
    else if !s.zrTurned k v then s.fecWritten k v
    else if !(s.fecWritten k v).runs (.fcr k) then (s.fecWritten k v).zrChange k (LFE.FEC_CTRL.ZR_MODE.get v == 1)
    else (s.fecWritten k v).zrWaits k (LFE.FEC_CTRL.ZR_MODE.get v == 1) := rfl

theorem fecWritten_eq : s.fecWritten k v = (s.wb (.lfe k) LFE.FEC_STATUS.CFG_REJECT false).setWord (.lfe k) 0x040
    (((s.wb (.lfe k) LFE.FEC_STATUS.CFG_REJECT false).word (.lfe k) 0x040 &&& ~~~(0x7F : Word)) ||| (v &&& 0x7F)) :=
  plainWrite_of_rw (r := ⟨0x040, 0x3C, 0x7F, 0x0⟩) _ rfl rfl

/-- A field of FEC_CTRL reads the value written. -/
theorem fecWritten_rd {f : Fld} (hoff : f.off = 0x040) (h : ∀ i < f.w, (0x7F : Word).getLsbD (f.lo + i) = true) :
    (s.fecWritten k v).rd (.lfe k) f = f.get v := by
  rw [fecWritten_eq, ← hoff, rd_setWord_same]
  exact f.get_merge_written _ _ _ h

theorem fecWritten_reject : (s.fecWritten k v).bit (.lfe k) LFE.FEC_STATUS.CFG_REJECT = false := by
  refine (bit_of_word ?_).trans (bit_wb_same s (.lfe k) LFE.FEC_STATUS.CFG_REJECT false (by decide) (by decide))
  rw [fecWritten_eq]
  exact word_setWord_ne _ _ _ _ _ _ (by decide) (by decide) (.inr (by decide))

theorem fecWritten_cars : (s.fecWritten k v).cars = s.cars := by
  rw [fecWritten_eq, setWord_cars, wb_cars]

theorem fecWritten_out : (s.fecWritten k v).out = s.out := by
  rw [fecWritten_eq, setWord_out, wb_out]

variable {s k v} in
theorem Frame.fecWritten {u : State} {l : List (Page × Nat)} {ps : List StatePart} (h : Frame u s l ps) (hctrl : (Page.lfe k, 0x040) ∈ l)
    (hstatus : (Page.lfe k, 0x044) ∈ l) : Frame u (s.fecWritten k v) l ps := by
  rw [fecWritten_eq]
  exact (h.wb (by decide) hstatus).setWord (by decide) hctrl

/-- FCR runs as before. -/
theorem fecWritten_runs : (s.fecWritten k v).runs (.fcr k) = s.runs (.fcr k) := by
  have hframe : s.Frame (s.fecWritten k v) [(.lfe k, 0x040), (.lfe k, 0x044)] [] := Frame.refl.fecWritten (.head _) (.tail _ (.head _))
  exact runs_of_enabled (enabled_of_word (hframe.reg (.fcr k) 0x004 (by decide) (.inl nofun) (by simp))) (hframe.same .start (by simp))
    (hframe.same .cad (by simp))

/-- The mode in force changes, both maps are the base map again. -/
def zrBegun : State := ((s.wb (.lfe k) LFE.FEC_STATUS.ZR_ACTIVE on).raise (.lfe k) 13).updCar k fun c =>
  { c with zrWait := none, cands := [], txMap := LMap.base, txAnn := none, waitProp := none, waitShed := none, waitBase := false
           waitManual := none, rxMap := LMap.base, rxAnn := none, proposed := false, txJ := 0, hold := none
           rxPart := none, offIn := 0, tag := none, client := [] }

theorem zrBegun_word {i : Nat} (h : i < 0x1000 ∧ i ≠ 0x00C) :
    (s.zrBegun k on).word (.lfe k) i = (s.wb (.lfe k) LFE.FEC_STATUS.ZR_ACTIVE on).word (.lfe k) i := by
  unfold zrBegun
  exact raise_word _ _ _ _ _ h.1 (.inr h.2) (.inl nofun)

/-- The load-map part shows that it begins anew. -/
def zrShown (n : Nat) : State :=
  (((((s.zrBegun k on).setTxState k n).setRxState k n).wr (.lfe k) LFE.LM_STATUS.COUNTDOWN 0).wb (.lfe k) LFE.LM_STATUS.ZR on).lmSync k

theorem zrChange_eq : s.zrChange k on
    = (s.zrShown k on (if on || !(s.zrBegun k on).enabled (.lfe k) then 0 else 1)).rxRestart k false := rfl

theorem zrShown_cars (n : Nat) : (s.zrShown k on n).cars = (s.zrBegun k on).cars := by
  unfold zrShown setTxState setRxState
  rw [lmSync_cars, wb_cars, wr_cars, wr_cars, wr_cars]

theorem zrShown_word (n : Nat) {i : Nat} (h : i < 0x1000 ∧ i ≠ 0x024) :
    (s.zrShown k on n).word (.lfe k) i = (s.zrBegun k on).word (.lfe k) i := by
  unfold zrShown setTxState setRxState
  rw [lmSync_word _ _ h, word_wb_other _ _ _ _ ⟨by decide, h⟩, word_wr_other _ _ _ _ ⟨by decide, h⟩, word_wr_other _ _ _ _ ⟨by decide, h⟩,
    word_wr_other _ _ _ _ ⟨by decide, h⟩]

theorem zrChange_zr : (s.zrChange k on).zr k = on := by
  rw [zrChange_eq, rxRestart_zr]
  refine (bit_of_word ((zrShown_word s k on _ (by decide)).trans (zrBegun_word s k on (by decide)))).trans ?_
  exact bit_wb_same _ _ _ _ (by decide) (by decide)

theorem zrChange_event : ((s.zrChange k on).word (.lfe k) 0x00C).getLsbD 13 = true := by
  rw [zrChange_eq]
  refine rxRestart_keeps ?_
  rw [zrShown_word _ _ _ _ (by decide)]
  exact raise_bit _ nofun (by decide)

theorem zrChange_status : (s.zrChange k on).bit (.lfe k) LFE.LM_STATUS.ZR = on := by
  rw [zrChange_eq]
  refine (bit_of_word (rxRestart_lfe _ k false (by decide))).trans ((lmSync_bit _ k (by decide)).trans ?_)
  exact bit_wb_same _ _ _ _ (by decide) (by decide)

theorem zrChange_ctrl : (s.zrChange k on).word (.lfe k) 0x040 = s.word (.lfe k) 0x040 := by
  rw [zrChange_eq, rxRestart_lfe _ k false (by decide), zrShown_word _ _ _ _ (by decide), zrBegun_word _ _ _ (by decide)]
  exact word_wb_other _ _ _ _ (by decide)

theorem zrChange_maps : ((s.zrChange k on).car k).txMap = LMap.base ∧ ((s.zrChange k on).car k).rxMap = LMap.base := by
  have hcar (n : Nat) : (s.zrShown k on n).car k = (s.zrBegun k on).car k := car_of_cars k (zrShown_cars s k on n)
  have hbegun := car_updCar ((s.wb (.lfe k) LFE.FEC_STATUS.ZR_ACTIVE on).raise (.lfe k) 13) k fun c =>
    { c with zrWait := none, cands := [], txMap := LMap.base, txAnn := none, waitProp := none, waitShed := none, waitBase := false
             waitManual := none, rxMap := LMap.base, rxAnn := none, proposed := false, txJ := 0, hold := none
             rxPart := none, offIn := 0, tag := none, client := [] }
  rw [zrChange_eq]
  refine ⟨(rxRestart_maps _ k false).1.trans ?_, (rxRestart_maps _ k false).2.trans ?_⟩ <;> rw [hcar]
  · exact congrArg Carrier.txMap hbegun
  · exact congrArg Carrier.rxMap hbegun

variable {s k on} in
theorem Frame.zrChange {u : State} {l : List (Page × Nat)} {ps : List StatePart} (h : Frame u s l ps)
    (hl : engineRegs (.lfe k) ++ engineRegs (.rxe k) ⊆ l) (hp : StatePart.cars :: eventParts ⊆ ps) : Frame u (s.zrChange k on) l ps := by
  have hlfe {i : Nat} (hi : i ∈ [0x008, 0x00C, 0x024, 0x044]) : (Page.lfe k, i) ∈ l :=
    hl (List.mem_append_left _ (List.mem_map_of_mem (f := (Page.lfe k, ·)) hi))
  have hrx : rxRegs k ⊆ l := fun x hx => hl (List.mem_append_right _ (.tail _ hx))
  have hbegun : Frame u (s.zrBegun k on) l ps :=
    ((h.wb (by decide) (hlfe (by decide))).raise (hlfe (by decide)) (hp (by decide)) (hp (by decide)) (hp (by decide))).updCar (hp (by decide))
  have hshown (n : Nat) : Frame u (s.zrShown k on n) l ps :=
    ((((hbegun.setTxState (hlfe (by decide))).setRxState (hlfe (by decide))).wr (by decide) (hlfe (by decide))).wb (by decide)
      (hlfe (by decide))).lmSync (hlfe (by decide))
  rw [zrChange_eq]
  exact (hshown _).rxRestart hrx hp

end
end Sys2Proof.Machine.State
namespace Sys2Proof.Machine

open Sys2Proof Reg

section
variable (s : State) (k : Fin 16) (v : Word)

theorem exec_manualAnnounce : exec (.manualAnnounce k v) s = s.done fun t =>
    t.gateReg (.lfe k) 0x030 (LFE.LM_STAGE.ANNOUNCE.put v 1) (State.effLmStage k (LFE.LM_STAGE.ANNOUNCE.put v 1)) := rfl
theorem exec_zrModeWrite : exec (.zrModeWrite k v) s = s.done fun t => t.gateReg (.lfe k) 0x040 v (State.effFecCtrl k v) := rfl

/-! ## What the write finds -/

theorem touch_stagedBy : s.touch.silent.stagedBy k v = s.stagedBy k v :=
  State.touch_silent_same (fun t => t.stagedBy k v) (fun _ _ => rfl) (fun _ => rfl) s

theorem touch_stageRefused : s.touch.silent.stageRefused k v = s.stageRefused k v :=
  State.touch_silent_same (fun t => t.stageRefused k v) (fun _ _ => rfl) (fun _ => rfl) s

theorem touch_manualWait (c : Carrier) : s.touch.silent.manualWait k v c = s.manualWait k v c :=
  State.touch_silent_same (fun t => t.manualWait k v c) (fun _ _ => rfl) (fun _ => rfl) s

theorem touch_zrTurned : s.touch.silent.zrTurned k v = s.zrTurned k v :=
  State.touch_silent_same (fun t => t.zrTurned k v) (fun _ _ => rfl) (fun _ => rfl) s

theorem touch_fecRefused : s.touch.silent.fecRefused k v = s.fecRefused k v :=
  State.touch_silent_same (fun t => t.fecRefused k v) (fun _ _ => rfl) (fun _ => rfl) s

theorem touch_runs (p : Page) : s.touch.silent.runs p = s.runs p :=
  State.touch_silent_same (fun t => t.runs p) (fun _ _ => rfl) (fun _ => rfl) s

variable {s k v}

/-! ## A manual announcement -/

section
variable (hacc : s.accepts (.lfe k) 0x030 = true)
include hacc

theorem answers_manual_refused (h : s.stageRefused k v = true) : Answers (.manualAnnounce k v) s fun u =>
    u.bit (.lfe k) LFE.LM_STATUS.CFG_REJECT = true ∧ u.car k = s.car k ∧ u.out = [] ∧ s.touch.Frame u [(.lfe k, 0x024)] [] := by
  refine answers_write _ (exec_manualAnnounce s k v) (by decide) (by decide) hacc ?_
  rw [State.effLmStage_announce, touch_stageRefused, if_pos h]
  exact ⟨State.bit_wb_same _ _ _ _ (by decide) (by decide), State.touch_car s k, rfl, State.Frame.silent.wb (by decide) (.head _)⟩

theorem answers_manual_waits (h : s.stageRefused k v = false) : Answers (.manualAnnounce k v) s fun u =>
    u.bit (.lfe k) LFE.LM_STATUS.CFG_REJECT = false
    ∧ u.car k = { s.car k with staged := s.stagedBy k v, waitManual := s.manualWait k v (s.car k) }
    ∧ (s.txState k ≠ 0 → u.bit (.lfe k) LFE.LM_STATUS.HELD = ((s.txState k == 3 || s.txState k == 4) || s.pst (.lfe k) == 5))
    ∧ u.out = [] ∧ s.touch.Frame u [(.lfe k, 0x024), (.lfe k, 0x030)] [.cars] := by
  have htx : s.touch.silent.txState k = s.txState k := State.touch_silent_rd s _ _
  have hpst : s.touch.silent.pst (.lfe k) = s.pst (.lfe k) := State.touch_silent_rd s _ _
  refine answers_write _ (exec_manualAnnounce s k v) (by decide) (by decide) hacc ?_
  rw [State.effLmStage_announce, touch_stageRefused, h]
  refine ⟨State.announcedManually_reject _ k v, ?_, fun hne => ?_, State.announcedManually_out _ k v,
    State.Frame.silent.announcedManually (.head _) (.tail _ (.head _)) (.head _)⟩
  · refine (State.announcedManually_car _ k v).trans ?_
    rw [touch_stagedBy, touch_manualWait, State.touch_car]
  · rw [← htx, ← hpst]
    exact State.announcedManually_held (by rwa [htx])

end

/-! ## FEC_CTRL -/

section
variable (hacc : s.accepts (.lfe k) 0x040 = true)
include hacc

theorem answers_fec_refused (h : s.fecRefused k v = true) : Answers (.zrModeWrite k v) s fun u =>
    u.bit (.lfe k) LFE.FEC_STATUS.CFG_REJECT = true ∧ u.out = [] ∧ s.touch.Frame u [(.lfe k, 0x044)] [] := by
  refine answers_write _ (exec_zrModeWrite s k v) (by decide) (by decide) hacc ?_
  rw [State.effFecCtrl_eq, touch_fecRefused, if_pos h]
  exact ⟨State.bit_wb_same _ _ _ _ (by decide) (by decide), rfl, State.Frame.silent.wb (by decide) (.head _)⟩

variable (hok : s.fecRefused k v = false)
include hok

theorem answers_fec_kept (h : s.zrTurned k v = false) : Answers (.zrModeWrite k v) s fun u => u.bit (.lfe k) LFE.FEC_STATUS.CFG_REJECT = false
    ∧ u.rd (.lfe k) LFE.FEC_CTRL.ITER_CEIL = LFE.FEC_CTRL.ITER_CEIL.get v ∧ u.rd (.lfe k) LFE.FEC_CTRL.ET_EN = LFE.FEC_CTRL.ET_EN.get v
    ∧ u.rd (.lfe k) LFE.FEC_CTRL.PENALTY_EN = LFE.FEC_CTRL.PENALTY_EN.get v ∧ u.out = []
    ∧ s.touch.Frame u [(.lfe k, 0x040), (.lfe k, 0x044)] [] := by
  refine answers_write _ (exec_zrModeWrite s k v) (by decide) (by decide) hacc ?_
  rw [State.effFecCtrl_eq, touch_fecRefused, hok, touch_zrTurned, h]
  exact ⟨State.fecWritten_reject _ k v, State.fecWritten_rd _ k v rfl (by decide), State.fecWritten_rd _ k v rfl (by decide),
    State.fecWritten_rd _ k v rfl (by decide), State.fecWritten_out _ k v, State.Frame.silent.fecWritten (.head _) (.tail _ (.head _))⟩

theorem answers_zr_waits (h : s.zrTurned k v = true) (hruns : s.runs (.fcr k) = true) : Answers (.zrModeWrite k v) s fun u =>
    u.rd (.lfe k) LFE.FEC_CTRL.ZR_MODE = LFE.FEC_CTRL.ZR_MODE.get v ∧ u.rd (.lfe k) LFE.FEC_CTRL.ITER_CEIL = LFE.FEC_CTRL.ITER_CEIL.get v
    ∧ u.bit (.lfe k) LFE.FEC_STATUS.CFG_REJECT = false ∧ u.car k = { s.car k with zrWait := some (LFE.FEC_CTRL.ZR_MODE.get v == 1) }
    ∧ u.out = [] ∧ s.touch.Frame u [(.lfe k, 0x040), (.lfe k, 0x044)] [.cars] := by
  have hacts : State.effFecCtrl k v s.touch.silent = (s.touch.silent.fecWritten k v).zrWaits k (LFE.FEC_CTRL.ZR_MODE.get v == 1) := by
    rw [State.effFecCtrl_eq, touch_fecRefused, hok, touch_zrTurned, h, State.fecWritten_runs, touch_runs, hruns]
    rfl
  refine answers_write _ (exec_zrModeWrite s k v) (by decide) (by decide) hacc ?_
  rw [hacts]
  refine ⟨State.fecWritten_rd _ k v rfl (by decide), State.fecWritten_rd _ k v rfl (by decide), State.fecWritten_reject _ k v, ?_,
    State.fecWritten_out _ k v, (State.Frame.silent.fecWritten (.head _) (.tail _ (.head _))).updCar (.head _)⟩
  refine (State.car_updCar _ k _).trans ?_
  rw [State.car_of_cars k (State.fecWritten_cars _ k v), State.touch_car]

theorem answers_zr_changes (h : s.zrTurned k v = true) (hruns : s.runs (.fcr k) = false) : Answers (.zrModeWrite k v) s fun u =>
    u.rd (.lfe k) LFE.FEC_CTRL.ZR_MODE = LFE.FEC_CTRL.ZR_MODE.get v ∧ u.zr k = (LFE.FEC_CTRL.ZR_MODE.get v == 1)
    ∧ (u.word (.lfe k) 0x00C).getLsbD 13 = true ∧ u.bit (.lfe k) LFE.LM_STATUS.ZR = (LFE.FEC_CTRL.ZR_MODE.get v == 1)
    ∧ (u.car k).txMap = LMap.base ∧ (u.car k).rxMap = LMap.base
    ∧ s.touch.Frame u ((.lfe k, 0x040) :: (State.engineRegs (.lfe k) ++ State.engineRegs (.rxe k))) [.cars, .ctr, .logRing, .damage] := by
  have hacts : State.effFecCtrl k v s.touch.silent = (s.touch.silent.fecWritten k v).zrChange k (LFE.FEC_CTRL.ZR_MODE.get v == 1) := by
    rw [State.effFecCtrl_eq, touch_fecRefused, hok, touch_zrTurned, h, State.fecWritten_runs, touch_runs, hruns]
    rfl
  refine answers_write _ (exec_zrModeWrite s k v) (by decide) (by decide) hacc ?_
  rw [hacts]
  refine ⟨?_, State.zrChange_zr _ k _, State.zrChange_event _ k _, State.zrChange_status _ k _, (State.zrChange_maps _ k _).1,
    (State.zrChange_maps _ k _).2, ?_⟩
  · exact (State.rd_of_word (State.zrChange_ctrl _ k _)).trans (State.fecWritten_rd _ k v rfl (by decide))
  · exact (State.Frame.silent.fecWritten (.head _) (.tail _ (List.mem_append_left _ (by simp [State.engineRegs])))).zrChange
      (fun _ hx => .tail _ hx) (List.Subset.refl _)

end

end

/-- Settles O31: each end of the two writes by its lemma. -/
theorem loadMapSettings : Obligations.loadMapSettings := by
  unfold Obligations.loadMapSettings
  intro s k v q c code dens staged i z change bonded
  have hstage : s.stageRefused k v = true ↔ codeOk code = false ∨ dens = 3 ∨ s.zr k = true ∨ staged.same c.txMap = true :=
    s.stageRefused_iff k v
  have hchange : s.zrTurned k v = true ↔ change := s.zrTurned_iff k v
  have hfec : s.fecRefused k v = true ↔ i < 2 ∨ 12 < i ∨ change ∧ s.pst q ≠ 0 ∧ s.pst q ≠ 6 ∨ change ∧ z = 1 ∧ bonded :=
    s.fecRefused_iff k v
  have hfecOk (hlo : 2 ≤ i) (hhi : i ≤ 12) (h : ¬change ∨ (s.pst q = 0 ∨ s.pst q = 6) ∧ (z = 0 ∨ ¬bonded)) :
      s.fecRefused k v = false := by
    have hz : z = 1 → z ≠ 0 := fun e => by rw [e]; decide
    rw [← Bool.not_eq_true, hfec]
    rintro (hi | hi | ⟨hc, hoff⟩ | ⟨hc, hone, hbond⟩)
    · exact absurd hlo (not_le.2 hi)
    · exact absurd hhi (not_le.2 hi)
    · obtain h | ⟨hstate, -⟩ := h
      · exact h hc
      · exact hstate.elim hoff.1 hoff.2
    · obtain h | ⟨-, hzero | hno⟩ := h
      · exact h hc
      · exact hz hone hzero
      · exact hno hbond
  refine ⟨fun hacc h => answers_manual_refused hacc (hstage.2 h), fun hacc hcode hdens hzr hsame => ?_,
    fun hacc h => answers_fec_refused hacc (hfec.2 h), fun hacc hlo hhi h => ?_, fun hacc hlo hhi h hoff hbond hruns => ?_,
    fun hacc hlo hhi h hoff hbond hruns => ?_⟩
  · have hok : s.stageRefused k v = false := by
      rw [← Bool.not_eq_true, hstage, hcode, hzr, hsame]
      simp [hdens]
    refine State.answers_imp (answers_manual_waits hacc hok) ?_
    rintro u ⟨hreject, hcar, hheld, hout, hframe⟩
    refine ⟨hreject, hcar, fun hne => (hheld hne).trans ?_, hout, hframe⟩
    simp only [Bool.decide_or, Bool.or_assoc]
    rfl
  · exact answers_fec_kept hacc (hfecOk hlo hhi (.inl h)) (by rw [← Bool.not_eq_true, hchange]; exact h)
  · exact answers_zr_waits hacc (hfecOk hlo hhi (.inr ⟨hoff, hbond⟩)) (hchange.2 h) hruns
  · exact answers_zr_changes hacc (hfecOk hlo hhi (.inr ⟨hoff, hbond⟩)) (hchange.2 h) hruns

end Sys2Proof.Machine
end

section
/-! PROOFS. What follows every command leaves EVENT.CW_LOCK_LOST of a carrier's FEC part as the command's effect made it (State.settle, stage by
stage; R61, R151). -/
namespace Sys2Proof.Machine.State

open Sys2Proof Reg

/-- CW_LOCK_LOST stands in EVENT of a carrier's LFE. -/
def lossShown (s : State) (k : Fin 16) : Bool := (s.word (.lfe k) 0x00C).getLsbD 11

/-- Two states show the same of it. -/
def SameLoss (k : Fin 16) (v u : State) : Prop := u.lossShown k = v.lossShown k

section
variable {v u w : State} {k m : Fin 16} {p : Page} {i j n b : Nat} {f : Fld}

/-! ## The state's operations -/

theorem SameLoss.refl : SameLoss k v v := rfl

theorem SameLoss.of_word (h : SameLoss k v u) (e : w.word (.lfe k) 0x00C = u.word (.lfe k) 0x00C) : SameLoss k v w := by
  unfold SameLoss lossShown
  rw [e]
  exact h

theorem SameLoss.ite {c : Prop} [Decidable c] {x y : State} (hx : SameLoss k v x) (hy : SameLoss k v y) :
    SameLoss k v (if c then x else y) := by
  split
  · exact hx
  · exact hy

theorem SameLoss.foldl {α : Type} {g : State → α → State} (l : List α) (h : SameLoss k v u)
    (hg : ∀ u a, SameLoss k v u → SameLoss k v (g u a)) : SameLoss k v (l.foldl g u) :=
  List.foldlRecOn l g h fun u hu a _ => hg u a hu

/-- A register beside EVENT. -/
theorem SameLoss.wr (h : SameLoss k v u) (hf : f.off < 0x1000 ∧ f.off ≠ 0x00C := by decide) : SameLoss k v (u.wr p f n) :=
  h.of_word (word_wr_ne u p _ f _ n hf.1 (by decide) (.inr hf.2.symm))

theorem SameLoss.setWord {x : Word} (h : SameLoss k v u) (hi : i < 0x1000 ∧ i ≠ 0x00C := by decide) : SameLoss k v (u.setWord p i x) :=
  h.of_word (word_setWord_ne u p _ i _ x hi.1 (by decide) (.inr hi.2.symm))

/-- An event of another page. -/
theorem SameLoss.raise (h : SameLoss k v u) (hp : Page.lfe k ≠ p := by nofun) : SameLoss k v (u.raise p b) :=
  h.of_word (raise_word u p _ b _ (by decide) (.inl hp) (.inl nofun))

/-- Another event of an FEC part. -/
theorem SameLoss.raiseLfe (h : SameLoss k v u) (hb : b ≠ 11) : SameLoss k v (u.raise (.lfe m) b) := by
  by_cases hm : m = k
  · subst hm
    unfold SameLoss lossShown
    rw [raise_own (p := .lfe m) u nofun, BitVec.getLsbD_or, BitVec.getLsbD_ofNat, Nat.testBit_two_pow_of_ne hb, Bool.and_false, Bool.or_false]
    exact h
  · exact h.raise fun e => hm (Page.lfe.inj e).symm

theorem SameLoss.raiseIf {c : Bool} (h : SameLoss k v u) (hp : Page.lfe k ≠ p := by nofun) : SameLoss k v (u.raiseIf c p b) :=
  SameLoss.ite (h.raise hp) h

theorem SameLoss.raiseIfLfe {c : Bool} (h : SameLoss k v u) (hb : b ≠ 11) : SameLoss k v (u.raiseIf c (.lfe m) b) :=
  SameLoss.ite (h.raiseLfe hb) h

theorem SameLoss.count (h : SameLoss k v u) : SameLoss k v (u.count p j n) := h
theorem SameLoss.countS (h : SameLoss k v u) : SameLoss k v (u.countS p j n) := h
theorem SameLoss.setCar {c : Carrier} (h : SameLoss k v u) : SameLoss k v (u.setCar m c) := h
theorem SameLoss.updCar {g : Carrier → Carrier} (h : SameLoss k v u) : SameLoss k v (u.updCar m g) := h
theorem SameLoss.updTm {g : Tm → Tm} (h : SameLoss k v u) : SameLoss k v (u.updTm g) := h
theorem SameLoss.updCad {g : Cad → Cad} (h : SameLoss k v u) : SameLoss k v (u.updCad g) := h
theorem SameLoss.setPortSt {d : Fin 2} {x : PortSt} (h : SameLoss k v u) : SameLoss k v (u.setPortSt d n x) := h
theorem SameLoss.emit {o : Output} (h : SameLoss k v u) : SameLoss k v (u.emit o) := h

/-! ## Carriers -/

theorem SameLoss.followRun {why : Bool} (h : SameLoss k v u) : SameLoss k v (u.followRun p why) :=
  SameLoss.ite (SameLoss.ite h h.wr) h

/-- The governor's limit raises other events of the FEC part. -/
theorem SameLoss.refec (h : SameLoss k v u) : SameLoss k v (u.refec m) := by
  unfold State.refec
  extract_lets p g i was lim s1 s2 s3
  have h1 : SameLoss k v s1 := SameLoss.ite h h.wr.count
  have h3 : SameLoss k v s3 := h1.wr.wr.wr
  exact (h3.raiseIfLfe (by decide)).raiseIfLfe (by decide)

theorem SameLoss.relight (h : SameLoss k v u) : SameLoss k v (u.relight m) :=
  SameLoss.ite h.setCar.wr (SameLoss.ite h.setCar.wr.wr h)

theorem SameLoss.recsc (h : SameLoss k v u) : SameLoss k v (u.recsc m) := by
  unfold State.recsc
  extract_lets s1 s2 s3 s4 s5 c s6 old new on off sFlags sLatched sRaised s7 s8 n o sPrev sTime s9
  have h1 : SameLoss k v s1 := h.refec.wr.wr
  have h2 : SameLoss k v s2 := by
    rw [show s2 = _ from restate_eq s1 m]
    exact h1.followRun.followRun.followRun.followRun
  have h3 : SameLoss k v s3 := h2.relight
  have h5 : SameLoss k v s5 := (SameLoss.ite h3 h3.wr : SameLoss k v s4).wr
  have h6 : SameLoss k v s6 := SameLoss.ite h5.setCar h5
  have hraised : SameLoss k v sRaised := h6.wr.setWord.raiseIf.raiseIf
  have h7 : SameLoss k v s7 := SameLoss.ite h6 (hraised.foldl _ fun _ _ hu => SameLoss.ite hu.count hu)
  have htime : SameLoss k v sTime := h7.wr.wr.wr.wr.wr
  have h9 : SameLoss k v s9 := SameLoss.ite h7.wr htime.count.raise
  exact h9.wr

theorem SameLoss.recarriers (h : SameLoss k v u) : SameLoss k v u.recarriers := h.foldl _ fun _ _ hu => hu.recsc

/-! ## Conduits and Remote Fault -/

theorem SameLoss.reshorts (h : SameLoss k v u) : SameLoss k v u.reshorts := by
  refine h.foldl _ fun w c hw => ?_
  unfold reshort
  exact SameLoss.ite hw (SameLoss.ite hw.updTm.count.raise hw.updTm)

theorem SameLoss.setRf {c : Nat} {b : Bool} (h : SameLoss k v u) : SameLoss k v (u.setRf c b) := by
  unfold State.setRf
  exact SameLoss.foldl _ (SameLoss.foldl _ h.updTm.updTm fun _ _ hw => hw.emit) fun _ _ hw => SameLoss.ite hw hw.wr.raise

theorem SameLoss.rerf (h : SameLoss k v u) : SameLoss k v u.rerf := h.foldl _ fun _ _ hw => SameLoss.ite hw.setRf hw

/-! ## Buffers and pause -/

theorem SameLoss.bufFlag {x : Bool} {ev : Option Nat} (h : SameLoss k v u) (hp : Page.lfe k ≠ p := by nofun)
    (hf : f.off < 0x1000 ∧ f.off ≠ 0x00C := by decide) : SameLoss k v (u.bufFlag f x p ev) := by
  have hflag : SameLoss k v (u.wb .bsc f x) := h.wr hf
  unfold State.bufFlag
  cases ev with
  | none => exact hflag
  | some n => exact hflag.raiseIf hp

theorem SameLoss.useFct {t x : Nat} (h : SameLoss k v u) : SameLoss k v (u.useFct t x) := by
  have huse : SameLoss k v (u.useProt .fct 0 (2 ^ 24 * t + x)).2 :=
    h.of_word ((Frame.refl.useProt (l := [(.fct, 0x01C)]) (ps := [.cad, .damage]) (.head _) (.head _) (.tail _ (.head _))).reg _ _
      (by decide) (.inl nofun) (by simp))
  unfold State.useFct useOnce
  dsimp only
  split
  · exact huse.raise
  · exact huse

theorem SameLoss.portSend {port : Nat} {o : Output} {frame : List Byte} (h : SameLoss k v u) : SameLoss k v (u.portSend port o frame) := by
  unfold State.portSend
  extract_lets d q s1 x
  obtain ⟨l, c⟩ := u.portCode port frame
  dsimp -zeta only
  extract_lets s2 driven s3
  have h2 : SameLoss k v s2 := h.countS.countS.setPortSt
  have h3 : SameLoss k v s3 := SameLoss.ite h2 h2.emit
  exact h3.foldl _ fun _ _ hw => hw.emit

theorem SameLoss.sendPfc {port on off : Nat} (h : SameLoss k v u) : SameLoss k v (u.sendPfc port on off) :=
  SameLoss.ite h h.portSend.count

theorem SameLoss.sendGp {port fuel : Nat} {es : List Nat} (h : SameLoss k v u) : SameLoss k v (u.sendGp port es fuel) := by
  induction fuel generalizing u es with
  | zero => exact h
  | succ n ih =>
    unfold State.sendGp
    exact SameLoss.ite h (ih h.updTm.portSend.count)

theorem SameLoss.repause {c : Nat} (h : SameLoss k v u) : SameLoss k v (u.repause c) := by
  unfold State.repause
  extract_lets s1 q on old s2 cause s3
  have h2 : SameLoss k v s2 := h.useFct.updTm
  have h3 : SameLoss k v s3 := h2.wr.wr.wr
  exact SameLoss.ite h2 (SameLoss.ite h3.count.raise h3.raise)

theorem SameLoss.rebuffer {s0 : State} (h : SameLoss k v u) : SameLoss k v (rebuffer s0 u) := by
  unfold State.rebuffer
  refine SameLoss.ite h ?_
  extract_lets eg inn s1 s2 s3 s4 want s5 free lim od s6 df dl dp s7 s8 s9 s10 s11 s12 nq s13 full s14 s15 s16 s17 s18 sUsed s19 s20 s21
  have h2 : SameLoss k v s2 := SameLoss.ite h.wr.wr h.wr
  have h4 : SameLoss k v s4 := SameLoss.ite h2.wr.wr h2.wr
  have h11 : SameLoss k v s11 := h4.updTm.bufFlag.bufFlag.bufFlag.bufFlag.bufFlag.bufFlag
  have h13 : SameLoss k v s13 := h11.wr.wr.wr
  have h16 : SameLoss k v s16 := (SameLoss.ite h13.count h13 : SameLoss k v s14).wr.wr
  have h17 : SameLoss k v s17 := SameLoss.ite h16.wr h16
  have h18 : SameLoss k v s18 := h17.foldl _ fun _ _ hw => hw.repause
  have hused : SameLoss k v sUsed := h18.foldl _ fun _ _ hw => hw.useFct
  have h19 : SameLoss k v s19 := SameLoss.ite h18 (hused.foldl _ fun _ _ hw => hw.sendPfc.sendGp)
  exact h19.wr.wr.wr

theorem SameLoss.retm (h : SameLoss k v u) : SameLoss k v u.retm := by
  rw [retm_eq]
  exact h.followRun.followRun.followRun.followRun

/-! ## The caddy -/

theorem SameLoss.procEnd {ok : Bool} (h : SameLoss k v u) : SameLoss k v (u.procEnd ok) := h.wr.raise.wr.updCad

theorem SameLoss.holdSpare {hold : Bool} (h : SameLoss k v u) : SameLoss k v (u.holdSpare m hold) :=
  h.wr.wr ⟨(by decide : 0x040 < 0x1000), (by decide : 0x040 ≠ 0x00C)⟩

theorem SameLoss.selectLaser {sel : Bool} (h : SameLoss k v u) : SameLoss k v (u.selectLaser m sel) := by
  unfold State.selectLaser
  extract_lets p inUse pend s1 s2 s3
  have h2 : SameLoss k v s2 := h.wr.wr.updCar
  have h3 : SameLoss k v s3 := h.wr.wr.updCar
  exact SameLoss.ite h (SameLoss.ite (SameLoss.ite (SameLoss.ite h2 h2.holdSpare) h.wr)
    (SameLoss.ite h.wr (SameLoss.ite h3.holdSpare h3)))

theorem SameLoss.procBegin {r : LaserReq} (h : SameLoss k v u) : SameLoss k v (u.procBegin r) := by
  unfold State.procBegin
  extract_lets d s1 s2
  have h2 : SameLoss k v s2 := h.wr.wr.updCad.count
  exact SameLoss.ite h.raise.count (SameLoss.ite h2.wr.wr.wr h2.selectLaser.wr)

theorem SameLoss.procStep (h : SameLoss k v u) (hw : u.procStep = some w) : SameLoss k v w := by
  unfold State.procStep at hw
  split at hw
  · split at hw
    · cases hw
    · cases hw; exact h.updCad.procBegin
  next r _ =>
    dsimp only at hw
    split at hw
    all_goals
      split at hw
      · cases hw
      split at hw
      · cases hw
        exact h.procEnd
    · cases hw
      exact h.wr
    · cases hw
      exact h.selectLaser.wr
    · split at hw
      · cases hw
        exact h.procEnd
      · split at hw
        · cases hw
          exact h.wr.wr.wr
        · cases hw
          exact h.procEnd
    · cases hw
      exact h.procEnd

theorem SameLoss.procRun {fuel : Nat} (h : SameLoss k v u) : SameLoss k v (u.procRun fuel) := by
  induction fuel generalizing u with
  | zero => exact h
  | succ n ih =>
    unfold State.procRun
    split
    · exact h
    next w hw => exact ih (h.procStep hw)

theorem SameLoss.substitute {pool reason unit : Nat} (h : SameLoss k v u) : SameLoss k v (u.substitute pool reason unit) := by
  unfold State.substitute
  extract_lets s1 s2 s3 i s4
  have h1 : SameLoss k v s1 := h.of_word (log_word _ _ _ _ _ _ _ _ (by decide) nofun)
  have h3 : SameLoss k v s3 := h1.wr.wr.wr.count
  exact SameLoss.ite (h3.updCad.of_word (protect_word _ _ _ _ _ _ (by decide) (.inl nofun))) h3

theorem SameLoss.replaceRows (h : SameLoss k v u) : SameLoss k v u.replaceRows :=
  SameLoss.ite h (SameLoss.foldl _ h.updCad fun _ _ hw => SameLoss.ite hw hw.updCad.substitute)

theorem SameLoss.cadSettle {s0 : State} (h : SameLoss k v u) : SameLoss k v (cadSettle s0 u) := by
  unfold State.cadSettle
  refine SameLoss.ite h ?_
  extract_lets s1 s2 moved gone s3 e s4 n
  have h1 : SameLoss k v s1 := SameLoss.ite h.procRun h
  have h4 : SameLoss k v s4 := h1.replaceRows.raiseIf.raiseIf.wr
  exact SameLoss.ite h4 h4.wr

/-! ## The level of service, the messages and the lines -/

theorem SameLoss.kept (h : SameLoss k v u) (hk : ServiceKept u w) : SameLoss k v w :=
  h.of_word (hk.frame.reg _ _ (by decide) (.inl nofun) (by simp))

end

/-- What follows a command neither raises CW_LOCK_LOST nor clears it. -/
theorem settle_lossShown (s0 v : State) (k : Fin 16) : (settle s0 v).lossShown k = v.lossShown k := by
  have hlevels : SameLoss k v (cadSettle s0 (rebuffer s0 v.recarriers.reshorts.rerf).retm).recarriers :=
    SameLoss.refl.recarriers.reshorts.rerf.rebuffer.retm.cadSettle.recarriers
  have hsettled : SameLoss k v (settled s0 v) := ((hlevels.kept (.relevel _)).kept (.messages _ _)).kept (.intLine _)
  rw [settle_eq]
  generalize settled s0 v = w at hsettled ⊢
  exact hsettled

end Sys2Proof.Machine.State
end

section
/-! PROOFS. A carrier whose FEC part has lost a cell of its encoder, and loses its codeword lock (R151, R426). Refutes O32. -/
namespace Sys2Proof.Machine

open Sys2Proof Reg

/-! ## The checks that a word without information bits leaves unsatisfied (R149) -/

/-- A block whose bits are all the same. -/
def uniform (b : Bool) : List Bool := List.replicate circ b

theorem addBits_uniform (a b : Bool) : addBits (uniform a) (uniform b) = uniform (a != b) := List.zipWith_replicate'

theorem addBlocks_uniform (l m : List Bool) :
    List.zipWith addBits (l.map uniform) (m.map uniform) = (List.zipWith (· != ·) l m).map uniform := by
  rw [List.zipWith_map, List.map_zipWith]
  simp only [addBits_uniform]

theorem turned_uniform (b : Bool) (n : Nat) : turned (uniform b) n = uniform b := by
  unfold turned uniform
  rw [List.drop_replicate, List.take_replicate, List.replicate_append_replicate]
  congr 1
  omega

theorem pieces_uniform (l : List Bool) : pieces circ l.length (l.map uniform).flatten = l.map uniform := by
  induction l with
  | nil => rfl
  | cons b l ih =>
    have hlen : (uniform b).length = circ := List.length_replicate
    rw [List.map_cons, List.flatten_cons, List.length_cons, pieces, List.take_left' hlen, List.drop_left' hlen, ih]

/-- The block rows of checks while no information bit has been added. -/
def zeroRows : List (List Bool) := List.replicate baseRows (uniform false)

/-- A circulant of zeros leaves them, in whichever row it stands. -/
theorem zeroRows_set (r n : Nat) : zeroRows.set r (addBits (zeroRows.getD r []) (turned (uniform false) n)) = zeroRows := by
  by_cases h : r < baseRows
  · rw [turned_uniform, zeroRows, List.getD_replicate _ h, addBits_uniform]
    exact List.set_replicate_self
  · exact List.set_eq_of_length_le (by simpa [zeroRows] using h)

/-- What a block column of the information part adds to the rows. -/
def addColumn (rows : List (List Bool)) (x : Nat × List Bool) : List (List Bool) :=
  (List.finRange 3).foldl (fun rows w =>
    rows.set (ldpcRow x.1 w) (addBits (rows.getD (ldpcRow x.1 w) []) (turned x.2 (Config.ldpcShift x.1 w).val))) rows

theorem infoChecks_eq (info : List Bool) :
    infoChecks info = (List.zip (List.range infoCols) (pieces circ infoCols info)).foldl addColumn zeroRows := rfl

theorem addColumn_zero (c : Nat) : addColumn zeroRows (c, uniform false) = zeroRows := by
  unfold addColumn
  rw [show List.finRange 3 = [0, 1, 2] from rfl]
  simp only [List.foldl_cons, List.foldl_nil, zeroRows_set]

theorem addColumns_zero (l : List (Nat × List Bool)) (h : ∀ x ∈ l, x.2 = uniform false) : l.foldl addColumn zeroRows = zeroRows := by
  induction l with
  | nil => rfl
  | cons x l ih =>
    rw [List.foldl_cons, show x = (x.1, uniform false) from Prod.ext rfl (h x (.head _)), addColumn_zero]
    exact ih fun y hy => h y (.tail _ hy)

/-- Information bits that are all 0, block column by block column. -/
def noInfo : List Bool := ((List.replicate infoCols false).map uniform).flatten

/-- They add nothing to the checks, wherever the circulants stand. -/
theorem infoChecks_noInfo : infoChecks noInfo = zeroRows := by
  have hpieces : pieces circ infoCols noInfo = List.replicate infoCols (uniform false) := by
    refine Eq.trans ?_ ((pieces_uniform (List.replicate infoCols false)).trans (List.map_replicate ..))
    rw [List.length_replicate]
    rfl
  rw [infoChecks_eq, hpieces]
  exact addColumns_zero _ fun x hx => List.eq_of_mem_replicate (List.of_mem_zip hx).2

/-- The bit of each parity block: 1 and 0 by turns. -/
def turns : List Bool := (List.range baseRows).map (· % 2 == 0)

/-- The word without information bits whose parity blocks alternate. -/
def alternating : List Bool := noInfo ++ (turns.map uniform).flatten

/-- Each block row ties a parity block to the one before: the word leaves every check unsatisfied. -/
theorem syndrome_alternating : syndrome alternating = ((List.replicate baseRows true).map uniform).flatten := by
  have hlen : noInfo.length = innerInfo := by
    simp [noInfo, uniform, innerInfo]
  have hrows : zeroRows = (List.replicate baseRows false).map uniform := (List.map_replicate ..).symm
  have hbits : List.zipWith (· != ·) (List.zipWith (· != ·) (List.replicate baseRows false) turns) (false :: turns)
      = List.replicate baseRows true := by decide
  have hblocks : List.replicate circ false :: turns.map uniform = (false :: turns).map uniform := rfl
  have hturns : pieces circ baseRows (turns.map uniform).flatten = turns.map uniform := pieces_uniform turns
  unfold syndrome alternating
  rw [List.take_left' hlen, List.drop_left' hlen, infoChecks_noInfo, hturns, hrows]
  dsimp only
  rw [addBlocks_uniform, hblocks, addBlocks_uniform, hbits]

theorem unsatisfied_alternating : unsatisfied alternating = 2880 := by
  unfold unsatisfied
  rw [syndrome_alternating, List.map_replicate, List.countP_flatten, List.map_replicate, List.sum_replicate, uniform, List.countP_replicate]
  rfl

/-- Soft values whose signs spell a word. -/
def softOf (l : List Bool) : List Int := l.map fun b => if b then -1 else 1

theorem softUnsat_softOf (l : List Bool) : softUnsat (softOf l) = unsatisfied l := by
  have hhard : (softOf l).map (fun x => decide (x < 0)) = l := by
    unfold softOf
    rw [List.map_map]
    exact (List.map_congr_left fun b _ => by cases b <;> rfl).trans (List.map_id l)
  unfold softUnsat
  rw [hhard]

theorem mostlyZero_softOf (l : List Bool) : mostlyZero (softOf l) = false := by
  have hzeros : (softOf l).countP (· == 0) = 0 := by
    refine List.countP_eq_zero.2 fun x hx => ?_
    obtain ⟨b, -, rfl⟩ := List.mem_map.1 hx
    cases b <;> decide
  unfold mostlyZero
  rw [hzeros]
  exact decide_eq_false (Nat.not_lt_zero _)

/-! ## The loss of the lock at an engine that does not run (R151) -/

namespace State

section
variable {s : State} {k : Fin 16}

variable (s k) in
/-- A memory of the FEC part is written, and stands sound. -/
def fecStored (t : Nat) : State := { s with damage := s.damage.set (fun _ => 0) (damageKey (.lfe k) t 0) 0 }

/-- Without an armed test it is sound as it is used. -/
theorem fecUse_sound (t : Nat) (h : s.bit (.lfe k) HDR.FLIP_MASK.ARM = false) : s.fecUse k t = (false, s.fecStored k t) := by
  have huse : (s.fecStored k t).useProt (.lfe k) t 0 = (false, s.fecStored k t) :=
    useProt_sound _ (SMap.get_set_same s.damage (fun _ => 0) (damageKey (.lfe k) t 0) 0)
  unfold fecUse
  extract_lets p s1
  rw [show s1 = s.fecStored k t from protect_sound s h, huse]
  rfl

/-- An engine that does not run raises no event with the lock it loses. -/
theorem dropCw_event_idle (h : s.runs (.lfe k) = false) : (s.dropCw k).word (.lfe k) 0x00C = s.word (.lfe k) 0x00C := by
  unfold dropCw
  extract_lets s1 s2
  have hruns : s2.runs (.lfe k) = false :=
    (runs_of_enabled (enabled_of_word (word_wb_other s1 (.lfe k) LFE.FEC_STATUS.CW_LOCK false (by decide)))
      (wb_start s1 _ _ _) (wb_cad s1 _ _ _)).trans h
  split
  · rfl
  · rw [hruns]
    exact word_wb_other s1 (.lfe k) LFE.FEC_STATUS.CW_LOCK false (by decide)

theorem cwPhase_event_idle {unsat : Nat} {zeros others : Bool} (h : s.runs (.lfe k) = false)
    (hlock : s.bit (.lfe k) LFE.FEC_STATUS.CW_LOCK = true) :
    (s.cwPhase k unsat zeros others).word (.lfe k) 0x00C = s.word (.lfe k) 0x00C := by
  unfold cwPhase
  extract_lets p c n s1
  split
  · rfl
  · split
    · exact dropCw_event_idle (s := s1) h
    · rfl

/-- To count a codeword changes no register. -/
theorem Frame.countCw {v : State} {l : List (Page × Nat)} {ps : List StatePart} {d : Decoded} (h : Frame v s l ps)
    (hc : StatePart.cars ∈ ps) (hctr : StatePart.ctr ∈ ps) : Frame v (s.countCw k d) l ps := by
  unfold State.countCw
  exact (((((((h.count hctr).count hctr).count hctr).count hctr).count hctr).countS hctr).countS hctr).updCar hc

theorem cwPhase_event_framed {t : State} {unsat : Nat} {zeros others : Bool} (hf : Frame s t [] [.cars, .ctr, .damage])
    (h : s.runs (.lfe k) = false) (hlock : s.bit (.lfe k) LFE.FEC_STATUS.CW_LOCK = true) :
    (t.cwPhase k unsat zeros others).word (.lfe k) 0x00C = s.word (.lfe k) 0x00C := by
  have hword {i : Nat} (hi : i < 0x1000) : t.word (.lfe k) i = s.word (.lfe k) i := hf.reg _ i hi (.inl nofun) List.not_mem_nil
  have hruns : t.runs (.lfe k) = s.runs (.lfe k) :=
    runs_of_enabled (enabled_of_word (hword (by decide))) (hf.same .start (by decide)) (hf.same .cad (by decide))
  exact (cwPhase_event_idle (hruns.trans h) ((bit_of_word (hword (by decide))).trans hlock)).trans (hword (by decide))

/-- A codeword raises no event at an engine that does not run. -/
theorem codeword_event_idle (x : CwIn) (h : s.runs (.lfe k) = false) (hlock : s.bit (.lfe k) LFE.FEC_STATUS.CW_LOCK = true)
    (harm : s.bit (.lfe k) HDR.FLIP_MASK.ARM = false) : (s.codeword k x).word (.lfe k) 0x00C = s.word (.lfe k) 0x00C := by
  have hword : s.fecUse k 2 = (false, s.fecStored k 2) := fecUse_sound 2 harm
  have hlost : (s.fecStored k 2).fecUse k 3 = (false, (s.fecStored k 2).fecStored k 3) := fecUse_sound 3 harm
  have hblock : ((s.fecStored k 2).fecStored k 3).fecUse k 4 = (false, ((s.fecStored k 2).fecStored k 3).fecStored k 4) :=
    fecUse_sound 4 harm
  have hdecoded (d : Decoded) : Frame s ((((s.fecStored k 2).fecStored k 3).fecStored k 4).countCw k d) [] [.cars, .ctr, .damage] :=
    (((Frame.refl.with_damage (by decide)).with_damage (by decide)).with_damage (by decide)).countCw (by decide) (by decide)
  unfold codeword
  simp only [hlock, hword, hlost, hblock, Bool.not_true, Bool.false_eq_true, if_false]
  split
  · rfl
  · exact cwPhase_event_framed (hdecoded _) h hlock

theorem decodeNative_soft (early odd : Bool) (ceiling lost : Nat) (o : Outer) (x : CwIn) :
    (decodeNative early ceiling lost odd o x).r.unsat = softUnsat x.soft
      ∧ (decodeNative early ceiling lost odd o x).r.mostlyZero = mostlyZero x.soft := by
  unfold decodeNative
  generalize innerDecode early (ceiling - lost) x.soft = d
  dsimp only
  exact ⟨rfl, rfl⟩

theorem decodeCw_native (x : CwIn) (h : s.zr k = false) : (s.decodeCw k false false x).r.unsat = softUnsat x.soft
    ∧ (s.decodeCw k false false x).r.mostlyZero = mostlyZero x.soft := by
  have hnative : s.decodeCw k false false x = decodeNative (s.bit (.lfe k) LFE.FEC_CTRL.ET_EN) (s.rd (.lfe k) LFE.FEC_STATUS.ITER_EFF)
      0 (s.car k).zeroOdd (s.car k).outer x := if_neg (by rw [h]; nofun)
  rw [hnative]
  exact decodeNative_soft _ _ _ _ _ x

end

end State

/-! ## The counterexample -/

theorem exec_codewordDecode (s : State) (k : Fin 16) (x : CwIn) :
    exec (.codewordDecode k x) s = .next (State.settle s (s.silent.codeword k x)) := rfl

/-- LFE of carrier 0 is enabled but reads FAULT, for a cell of its encoder is lost; its receiver is LOCKED, and 63 bad codewords in a row have
come under a codeword lock. -/
def encoderLost : State :=
  { attended with
    start := { attended.start with diesUp := 1, datapath := true }
    regs := [(Page.ses.base + 0x020, 3), ((Page.rxe 0).base + 0x004, 1), ((Page.rxe 0).base + 0x008, 2),
      ((Page.rxe 0).base + 0x024, RXE.RX_STATUS.LOCKED.put (RXE.RX_STATUS.ACQ_STATE.put 0 8) 1),
      ((Page.lfe 0).base + 0x004, 1), ((Page.lfe 0).base + 0x008, 4),
      ((Page.lfe 0).base + 0x044, LFE.FEC_STATUS.CW_LOCK.put (LFE.FEC_STATUS.ITER_EFF.put 0 12) 1)]
    cars := [(0, { Carrier.reset with cwBad := 63 })]
    cad := { State.reset.cad with losses := [((Page.lfe 0).base, .encoder)] } }

theorem encoderLost_state : encoderLost.enabled (.lfe 0) = true ∧ encoderLost.rxRuns 0 = true
    ∧ encoderLost.bit (.lfe 0) LFE.FEC_STATUS.CW_LOCK = true ∧ encoderLost.bit (.lfe 0) HDR.FLIP_MASK.ARM = false
    ∧ encoderLost.dieUp (.lfe 0) = true ∧ (encoderLost.car 0).cwBad = 63 ∧ encoderLost.zr 0 = false
    ∧ encoderLost.runs (.lfe 0) = false ∧ encoderLost.word (.lfe 0) 0x00C = 0 := by decide

/-- The 64th bad codeword. -/
def badCodeword : CwIn := { soft := softOf alternating, othersHigh := false }

/-- Refutes O32: with the 64th bad codeword in a row an enabled engine loses its lock, but raises CW_LOCK_LOST only where it runs, and one
that has lost a cell of its encoder does not (R426): the statement lacks the premise that no such tile is lost. -/
theorem not_codewords : ¬ Obligations.codewords := by
  unfold Obligations.codewords
  intro h
  obtain ⟨-, -, hlost, -⟩ := h encoderLost 0 badCodeword
  obtain ⟨henabled, hreceives, hlock, harm, hdie, hbad, hzr, hruns, hevent⟩ := encoderLost_state
  obtain ⟨hunsat, hzero⟩ := State.decodeCw_native badCodeword hzr
  have hunsat : (encoderLost.decodeCw 0 false false badCodeword).r.unsat = 2880 :=
    hunsat.trans ((softUnsat_softOf _).trans unsatisfied_alternating)
  obtain ⟨u, hsettle, -, hraised, -⟩ :=
    (hlost henabled hreceives hlock harm hdie (hzero.trans (mostlyZero_softOf _)) (by rw [hunsat]; decide) hbad).settle_eq
      (exec_codewordDecode encoderLost 0 badCodeword)
  have hshown : u.lossShown 0 = (encoderLost.silent.codeword 0 badCodeword).lossShown 0 := by
    rw [← State.settle_lossShown encoderLost u, hsettle, State.settle_lossShown]
  have hquiet : (encoderLost.silent.codeword 0 badCodeword).word (.lfe 0) 0x00C = 0 :=
    (State.codeword_event_idle (s := encoderLost.silent) badCodeword hruns hlock harm).trans hevent
  unfold State.lossShown at hshown
  rw [hraised, hquiet] at hshown
  exact absurd hshown (by decide)

end Sys2Proof.Machine
end

section
/-! PROOFS. The raw defects LOS and LOF, the receiver's map hypotheses, the drain that hardware sets on a bonded carrier, and Remote Fault toward
the host ports of a conduit (R177, R178, R182, R183, R186). Settles O33. -/
namespace Sys2Proof

/-- A key that reads another value than its default is listed. -/
theorem SMap.mem_keys_of_get_ne {α : Type} {m : SMap α} {d : Nat → α} {k : Nat} (h : SMap.get m d k ≠ d k) : k ∈ m.map (·.1) := by
  induction m with
  | nil => exact absurd rfl h
  | cons e r ih =>
    obtain ⟨a, v⟩ := e
    rw [SMap.get_cons] at h
    by_cases hak : a = k
    · exact hak ▸ .head _
    · rw [if_neg hak] at h
      exact .tail _ (ih h)

end Sys2Proof
namespace Sys2Proof.Machine.State

open Sys2Proof Reg

/-- An event leaves every field beside EVENT. -/
theorem rd_raise (s : State) (p : Page) (b : Nat) (q : Page) (f : Fld) (hq : q ≠ .log) (h : f.off < 0x1000 ∧ f.off ≠ 0x00C) :
    (s.raise p b).rd q f = s.rd q f := rd_of_word (raise_word s p q b _ h.1 (.inr h.2) (.inl hq))

theorem bit_raise (s : State) (p : Page) (b : Nat) (q : Page) (f : Fld) (hq : q ≠ .log) (h : f.off < 0x1000 ∧ f.off ≠ 0x00C) :
    (s.raise p b).bit q f = s.bit q f := by
  unfold bit
  rw [rd_raise s p b q f hq h]

/-! ## The next hypothesis, the map that is lost (R136, R177) -/

section
variable (s : State) (k : Fin 16)

theorem nextHyp_lt : s.nextHyp k < 2 ^ FCR.FR_STATUS.HYP.w := by
  have hann : (if (s.car k).rxAnn.isSome then 1 else 2) < 2 ^ FCR.FR_STATUS.HYP.w := by split <;> decide
  unfold nextHyp
  split
  · exact hann
  · decide
  · decide

theorem mapLost_rxState : (s.mapLost k).rxState k = 6 := by
  unfold mapLost
  split
  · assumption
  · exact (rd_raise _ _ _ (.lfe k) LFE.LM_STATUS.RX_STATE nofun (by decide)).trans (rd_wr_same s (.lfe k) LFE.LM_STATUS.RX_STATE 6 (by decide))

variable {s k} in
theorem mapLost_event (h : s.rxState k ≠ 6) : ((s.mapLost k).word (.lfe k) 0x00C).getLsbD 5 = true := by
  unfold mapLost
  rw [if_neg h, count_word]
  exact raise_bit _ nofun (by decide)

theorem mapLost_out : (s.mapLost k).out = s.out := by
  unfold mapLost
  split
  · rfl
  · exact raise_out _ _ _

variable {s k} in
theorem Frame.mapLost {v : State} {l : List (Page × Nat)} {ps : List StatePart} (h : Frame v s l ps) (hevent : (Page.lfe k, 0x00C) ∈ l)
    (hstatus : (Page.lfe k, 0x024) ∈ l) (hp : eventParts ⊆ ps) : Frame v (s.mapLost k) l ps := by
  unfold State.mapLost
  exact Frame.ite (fun _ => h) fun _ =>
    ((h.setRxState hstatus).raise hevent (hp (by decide)) (hp (by decide)) (hp (by decide))).count (hp (by decide))

end

/-! ## The drain that hardware sets (R182, R186) -/

section
variable (s : State) (k : Fin 16) (on : Bool)

/-- Hardware sets or ends the drain of a carrier. -/
def drainTurned : State := ((s.wb (.lfe k) HDR.PAGE_CTRL.DRAIN on).wb (.csc k) CSC.CSC_STATUS.AUTO_DRAINED on).raise (.csc k) 3

theorem drainTurned_drain : (s.drainTurned k on).bit (.lfe k) HDR.PAGE_CTRL.DRAIN = on := by
  have hshown := bit_wr_ne (s.wb (.lfe k) HDR.PAGE_CTRL.DRAIN on) (.csc k) (.lfe k) CSC.CSC_STATUS.AUTO_DRAINED HDR.PAGE_CTRL.DRAIN on.toNat
    (by decide) (by decide) (.inl nofun)
  unfold drainTurned
  rw [bit_raise _ _ _ (.lfe k) HDR.PAGE_CTRL.DRAIN nofun (by decide)]
  exact hshown.trans (bit_wb_same _ _ _ on (by decide) (by decide))

theorem drainTurned_shown : (s.drainTurned k on).bit (.csc k) CSC.CSC_STATUS.AUTO_DRAINED = on := by
  unfold drainTurned
  rw [bit_raise _ _ _ (.csc k) CSC.CSC_STATUS.AUTO_DRAINED nofun (by decide), bit_wb_same _ _ _ _ (by decide) (by decide)]

theorem drainTurned_event : ((s.drainTurned k on).word (.csc k) 0x00C).getLsbD 3 = true := raise_bit _ nofun (by decide)

theorem drainTurned_out : (s.drainTurned k on).out = s.out := by
  unfold drainTurned
  rw [raise_out, wb_out, wb_out]

theorem drainTurned_frame : s.Frame (s.silent.drainTurned k on) [(.lfe k, 0x004), (.csc k, 0x00C), (.csc k, 0x028)] eventParts :=
  ((Frame.silent.wb (by decide) (.head _)).wb (by decide) (.tail _ (.tail _ (.head _)))).raise (.tail _ (.head _)) (by decide) (by decide)
    (by decide)

end

/-! ## The ports that send Remote Fault (R183) -/

section
variable {s u : State} {c q : Nat}

/-- A port sends Remote Fault for the conduits that call for it and deliver to the port. -/
theorem portRf_iff : s.portRf q = true ↔ ∃ c, (s.rxCon c).rf = true ∧ (s.portsOf c).contains q = true := by
  unfold portRf
  rw [List.any_eq_true]
  refine exists_congr fun c => ?_
  rw [Bool.and_eq_true, and_iff_right_iff_imp]
  rintro ⟨hrf, -⟩
  refine SMap.mem_keys_of_get_ne (d := fun _ => RxCon.reset) fun hreset => ?_
  rw [rxCon, hreset] at hrf
  exact Bool.false_ne_true hrf

theorem rxCon_setRxCon (s : State) (c m : Nat) (r : RxCon) : (s.setRxCon c r).rxCon m = if m = c then r else s.rxCon m :=
  SMap.get_set s.tm.rx (fun _ => RxCon.reset) c m r

/-- Where a conduit does not call for Remote Fault, saying so again changes no port. -/
theorem portRf_cleared (h : (s.rxCon c).rf = false) : (s.setRxCon c { s.rxCon c with rf := false }).portRf q = s.portRf q := by
  have hrf (m : Nat) : ((s.setRxCon c { s.rxCon c with rf := false }).rxCon m).rf = (s.rxCon m).rf := by
    rw [rxCon_setRxCon]
    split
    · next hm => rw [hm, h]
    · rfl
  rw [Bool.eq_iff_iff, portRf_iff, portRf_iff]
  refine exists_congr fun m => ?_
  rw [hrf]
  rfl

theorem foldl_emit_out {α : Type} (xs : List α) (f : α → Output) (s : State) :
    (xs.foldl (fun t x => t.emit (f x)) s).out = s.out ++ xs.map f := by
  induction xs generalizing s with
  | nil => exact (List.append_nil _).symm
  | cons x xs ih => rw [List.foldl_cons, ih, emit, List.append_assoc]; rfl

theorem foldl_emit_tm {α : Type} (xs : List α) (f : α → Output) (s : State) : (xs.foldl (fun t x => t.emit (f x)) s).tm = s.tm :=
  List.foldlRecOn xs _ (motive := fun t : State => t.tm = s.tm) rfl fun _ ht _ _ => ht

theorem foldl_emit_word {α : Type} (xs : List α) (f : α → Output) (s : State) (p : Page) (i : Nat) :
    (xs.foldl (fun t x => t.emit (f x)) s).word p i = s.word p i :=
  List.foldlRecOn xs _ (motive := fun t : State => t.word p i = s.word p i) rfl fun _ ht _ _ => ht

end

/-! ## What the members of the conduit show (R185, R186) -/

section
variable (b : Bool) (s : State) (k : Fin 16)

/-- RF_ACTIVE of a member follows, with its event where it changes. -/
def memberRf : State :=
  if s.bit (.csc k) CSC.CSC_STATUS.RF_ACTIVE = b then s else (s.wb (.csc k) CSC.CSC_STATUS.RF_ACTIVE b).raise (.csc k) 4

theorem memberRf_cases : (memberRf b s k = s ∧ s.bit (.csc k) CSC.CSC_STATUS.RF_ACTIVE = b)
    ∨ memberRf b s k = (s.wb (.csc k) CSC.CSC_STATUS.RF_ACTIVE b).raise (.csc k) 4 := by
  unfold memberRf
  split
  · next h => exact .inl ⟨rfl, h⟩
  · exact .inr rfl

variable {s} in
theorem Frame.memberRf {v : State} {l : List (Page × Nat)} {ps : List StatePart} (h : Frame v s l ps)
    (hl : [(Page.csc k, 0x00C), (.csc k, 0x028)] ⊆ l) (hp : eventParts ⊆ ps) : Frame v (memberRf b s k) l ps := by
  unfold State.memberRf
  exact Frame.ite (fun _ => h) fun _ =>
    (h.wb (by decide) (hl (.tail _ (.head _)))).raise (hl (.head _)) (hp (by decide)) (hp (by decide)) (hp (by decide))

theorem memberRf_out : (memberRf b s k).out = s.out := by
  obtain ⟨h, -⟩ | h := memberRf_cases b s k <;> rw [h]
  rw [raise_out, wb_out]

theorem memberRf_tm : (memberRf b s k).tm = s.tm :=
  (Frame.refl.memberRf (l := [(.csc k, 0x00C), (.csc k, 0x028)]) b k (List.Subset.refl _) (List.Subset.refl _)).same .tm (by decide)

theorem memberRf_shows : (memberRf b s k).bit (.csc k) CSC.CSC_STATUS.RF_ACTIVE = b
    ∧ (s.bit (.csc k) CSC.CSC_STATUS.RF_ACTIVE ≠ b → ((memberRf b s k).word (.csc k) 0x00C).getLsbD 4 = true) := by
  obtain ⟨h, hbit⟩ | h := memberRf_cases b s k <;> rw [h]
  · exact ⟨hbit, fun hne => absurd hbit hne⟩
  · refine ⟨?_, fun _ => raise_bit _ nofun (by decide)⟩
    rw [bit_raise _ _ _ (.csc k) CSC.CSC_STATUS.RF_ACTIVE nofun (by decide), bit_wb_same _ _ _ _ (by decide) (by decide)]

/-- Another member's turn leaves what a member shows. -/
theorem memberRf_other {m : Fin 16} (h : k ≠ m) {i : Nat} (hi : i < 0x1000) :
    (memberRf b s m).word (.csc k) i = s.word (.csc k) i :=
  (Frame.refl.memberRf (l := [(.csc m, 0x00C), (.csc m, 0x028)]) b m (List.Subset.refl _) (List.Subset.refl _)).reg _ i hi (.inl nofun)
    (by simp [h])

variable {b s k} in
/-- What a member shows when it has had its turn stays in every other turn. -/
theorem memberRf_keeps (m : Fin 16) (hbit : s.bit (.csc k) CSC.CSC_STATUS.RF_ACTIVE = b) :
    (memberRf b s m).bit (.csc k) CSC.CSC_STATUS.RF_ACTIVE = b
    ∧ (memberRf b s m).word (.csc k) 0x00C = s.word (.csc k) 0x00C := by
  by_cases h : k = m
  · subst h
    have hsame : memberRf b s k = s := if_pos hbit
    rw [hsame]
    exact ⟨hbit, rfl⟩
  · exact ⟨(bit_of_word (memberRf_other b s k h (by decide))).trans hbit, memberRf_other b s k h (by decide)⟩

theorem membersRf_keep (ms : List (Fin 16)) (hbit : s.bit (.csc k) CSC.CSC_STATUS.RF_ACTIVE = b) :
    (ms.foldl (memberRf b) s).bit (.csc k) CSC.CSC_STATUS.RF_ACTIVE = b
    ∧ (ms.foldl (memberRf b) s).word (.csc k) 0x00C = s.word (.csc k) 0x00C := by
  refine List.foldlRecOn ms _ (motive := fun t : State => t.bit (.csc k) CSC.CSC_STATUS.RF_ACTIVE = b
    ∧ t.word (.csc k) 0x00C = s.word (.csc k) 0x00C) ⟨hbit, rfl⟩ fun t ⟨ht, hword⟩ m _ => ?_
  obtain ⟨hkept, hevent⟩ := memberRf_keeps m ht
  exact ⟨hkept, hevent.trans hword⟩

/-- Every member of a list shows the value when all have had their turns, with the event where its value was another. -/
theorem membersRf_show {ms : List (Fin 16)} (hk : k ∈ ms) : (ms.foldl (memberRf b) s).bit (.csc k) CSC.CSC_STATUS.RF_ACTIVE = b
    ∧ (s.bit (.csc k) CSC.CSC_STATUS.RF_ACTIVE ≠ b → ((ms.foldl (memberRf b) s).word (.csc k) 0x00C).getLsbD 4 = true) := by
  induction ms generalizing s with
  | nil => exact absurd hk List.not_mem_nil
  | cons m ms ih =>
    rw [List.foldl_cons]
    by_cases h : k = m
    · subst h
      obtain ⟨hbit, hevent⟩ := memberRf_shows b s k
      obtain ⟨hkept, hword⟩ := membersRf_keep b _ k ms hbit
      exact ⟨hkept, fun hne => by rw [hword]; exact hevent hne⟩
    · obtain ⟨hbit, hevent⟩ := ih (memberRf b s m) ((List.mem_cons.1 hk).resolve_left h)
      exact ⟨hbit, fun hne => hevent (by rwa [bit_of_word (memberRf_other b s k h (by decide))])⟩

end

/-! ## Remote Fault of a conduit starts (R183) -/

section
variable (s : State) (c : Nat) (b : Bool)

/-- The conduit calls for Remote Fault or no longer does, and the ports to which it alone delivers are told. -/
def portsToldRf : State :=
  let t := s.setRxCon c { s.rxCon c with rf := false }
  ((t.portsOf c).filter fun q => !t.portRf q).foldl (fun t q => t.emit (.remoteFault (Fin.ofNat 64 q) b))
    (t.setRxCon c { t.rxCon c with rf := b })

theorem setRf_eq : s.setRf c b = (membersOf ((s.portsToldRf c b).rxMembers c)).foldl (memberRf b) (s.portsToldRf c b) := rfl

theorem portsToldRf_tm : (s.portsToldRf c b).tm
    = ((s.setRxCon c { s.rxCon c with rf := false }).setRxCon c { (s.setRxCon c { s.rxCon c with rf := false }).rxCon c with rf := b }).tm :=
  foldl_emit_tm _ _ _

theorem portsToldRf_rf : ((s.portsToldRf c b).rxCon c).rf = b := by
  have hcon := congrArg (fun t : Tm => t.rx.get (fun _ => RxCon.reset) c) (s.portsToldRf_tm c b)
  refine (congrArg RxCon.rf (hcon.trans (rxCon_setRxCon _ c c _))).trans ?_
  rw [if_pos rfl]

theorem portsToldRf_members : (s.portsToldRf c b).rxMembers c = s.rxMembers c := by
  unfold rxMembers entry
  rw [portsToldRf_tm]
  rfl

theorem portsToldRf_word (p : Page) (i : Nat) : (s.portsToldRf c b).word p i = s.word p i := foldl_emit_word _ _ _ p i

variable {s c} in
theorem portsToldRf_out (h : (s.rxCon c).rf = false) : (s.portsToldRf c b).out
    = s.out ++ ((s.portsOf c).filter fun q => !s.portRf q).map fun q => .remoteFault (Fin.ofNat 64 q) b := by
  refine (foldl_emit_out _ _ _).trans ?_
  simp only [portRf_cleared h]
  rfl

theorem mem_membersOf {k : Fin 16} {n : Nat} : k ∈ membersOf n ↔ n.testBit k.val = true := by
  unfold membersOf carriers
  rw [List.mem_filter, and_iff_right (List.mem_finRange k)]

theorem setRf_rf : ((s.setRf c b).rxCon c).rf = b := by
  have htm : (s.setRf c b).tm = (s.portsToldRf c b).tm := by
    rw [setRf_eq]
    exact List.foldlRecOn _ _ (motive := fun t : State => t.tm = (s.portsToldRf c b).tm) rfl fun t ht m _ => (memberRf_tm b t m).trans ht
  unfold rxCon
  rw [htm]
  exact s.portsToldRf_rf c b

variable {s c} in
theorem setRf_shows {k : Fin 16} (hk : (s.rxMembers c).testBit k.val = true) :
    (s.setRf c b).bit (.csc k) CSC.CSC_STATUS.RF_ACTIVE = b
    ∧ (s.bit (.csc k) CSC.CSC_STATUS.RF_ACTIVE ≠ b → ((s.setRf c b).word (.csc k) 0x00C).getLsbD 4 = true) := by
  obtain ⟨hbit, hevent⟩ := membersRf_show b (s.portsToldRf c b) k (ms := membersOf ((s.portsToldRf c b).rxMembers c))
    (by rwa [mem_membersOf, portsToldRf_members])
  exact ⟨hbit, fun hne => hevent (by rwa [bit_of_word (s.portsToldRf_word c b _ _)])⟩

variable {s c} in
theorem setRf_out (h : (s.rxCon c).rf = false) : (s.setRf c b).out
    = s.out ++ ((s.portsOf c).filter fun q => !s.portRf q).map fun q => .remoteFault (Fin.ofNat 64 q) b := by
  rw [← portsToldRf_out b h, setRf_eq]
  exact List.foldlRecOn _ _ (motive := fun t : State => t.out = (s.portsToldRf c b).out) rfl fun t ht m _ => (memberRf_out b t m).trans ht

variable {s c b} in
theorem Frame.setRf {v : State} {l : List (Page × Nat)} {ps : List StatePart} (h : Frame v s l ps)
    (hl : ∀ k, [(Page.csc k, 0x00C), (.csc k, 0x028)] ⊆ l) (hp : StatePart.tm :: eventParts ⊆ ps) : Frame v (s.setRf c b) l ps := by
  have htm : StatePart.tm ∈ ps := hp (.head _)
  have htold : Frame v (s.portsToldRf c b) l ps := ((h.updTm htm).updTm htm).foldl _ fun _ _ hw => hw.emit
  rw [setRf_eq]
  exact htold.foldl _ fun _ m hw => hw.memberRf b m (hl m) fun _ hx => hp (.tail _ hx)

end
end Sys2Proof.Machine.State
namespace Sys2Proof.Machine

open Sys2Proof Reg

section
variable (s : State) (k : Fin 16) (c : Fin 64)

theorem exec_losDeclare : exec (.losDeclare k) s = s.done fun t =>
    if t.runs (.rxe k) && !t.bit (.rxe k) RXE.RX_STATUS.SIGNAL then t.updCar k fun c => { c with los := true } else t := rfl
theorem exec_losClear : exec (.losClear k) s = s.done fun t =>
    if t.bit (.rxe k) RXE.RX_STATUS.SIGNAL then t.updCar k fun c => { c with los := false } else t := rfl
theorem exec_lofDeclare : exec (.lofDeclare k) s = s.done fun t => if t.bit (.fcr k) FCR.FR_STATUS.OOF then
    (t.updCar k fun c => { c with lof := true }).wb (.fcr k) FCR.FR_STATUS.LOF true else t := rfl
theorem exec_lofClear : exec (.lofClear k) s = s.done fun t => if t.inFrame k then
    (t.updCar k fun c => { c with lof := false }).wb (.fcr k) FCR.FR_STATUS.LOF false else t := rfl
theorem exec_hypothesisChange : exec (.hypothesisChange k) s = s.done fun t =>
    if t.bit (.fcr k) FCR.FR_STATUS.OOF && t.bit (.fcr k) FCR.FR_CTRL.HYP_EN && !t.zr k then
      t.wr (.fcr k) FCR.FR_STATUS.HYP (t.nextHyp k) else t := rfl
theorem exec_lofMapLost : exec (.lofMapLost k) s = s.done fun t =>
    if (t.car k).lof && t.bit (.fcr k) FCR.FR_STATUS.OOF && t.runs (.lfe k) && !t.zr k then t.mapLost k else t := rfl
theorem exec_autoDrain : exec (.autoDrain k) s = s.done fun t =>
    if (t.defects k).testBit 3 && t.bit (.csc k) CSC.CSC_CTRL.RDI_DRAIN && t.bondedTx k && t.mateClear k
        && t.runs (.lfe k) && !t.bit (.lfe k) HDR.PAGE_CTRL.DRAIN then t.drainTurned k true else t := rfl
theorem exec_autoUndrain : exec (.autoUndrain k) s = s.done fun t =>
    if t.bit (.csc k) CSC.CSC_STATUS.AUTO_DRAINED && !(t.defects k).testBit 3 then t.drainTurned k false else t := rfl
theorem exec_remoteFaultStart : exec (.remoteFaultStart c) s = s.done fun t =>
    if !(t.rxCon c.val).rf && t.rfHolds c.val then t.setRf c.val true else t := rfl

variable {s k c}

/-- A command that works under a condition changes nothing where it does not hold. -/
theorem answers_idle {i : Instr} {cond : State → Bool} {f : State → State} (h : exec i s = s.done fun t => if cond t then f t else t)
    (hc : cond s.silent = false) : Answers i s fun u => u.out = [] ∧ s.Frame u [] [] :=
  answers_done_else h hc ⟨rfl, State.Frame.silent⟩

/-! ## LOS, LOF and the map hypotheses (R177, R178) -/

theorem answers_losDeclare (hruns : s.runs (.rxe k) = true) (hdark : s.bit (.rxe k) RXE.RX_STATUS.SIGNAL = false) :
    Answers (.losDeclare k) s fun u => u.car k = { s.car k with los := true } ∧ u.out = [] ∧ s.Frame u [] [.cars] :=
  answers_done_if (exec_losDeclare s k) (show (s.runs _ && !s.bit _ _) = true by rw [hruns, hdark]; rfl)
    ⟨State.car_updCar s.silent k _, rfl, State.Frame.silent.updCar (.head _)⟩

theorem answers_losClear (hlight : s.bit (.rxe k) RXE.RX_STATUS.SIGNAL = true) :
    Answers (.losClear k) s fun u => u.car k = { s.car k with los := false } ∧ u.out = [] ∧ s.Frame u [] [.cars] :=
  answers_done_if (exec_losClear s k) hlight ⟨State.car_updCar s.silent k _, rfl, State.Frame.silent.updCar (.head _)⟩

/-- LOF, raw, in the record and in FR_STATUS: entered or left. -/
theorem lof_taken (s : State) (k : Fin 16) (on : Bool) :
    let u := (s.silent.updCar k fun c => { c with lof := on }).wb (.fcr k) FCR.FR_STATUS.LOF on
    u.car k = { s.car k with lof := on } ∧ u.bit (.fcr k) FCR.FR_STATUS.LOF = on ∧ u.out = [] ∧ s.Frame u [(.fcr k, 0x024)] [.cars] :=
  ⟨State.car_updCar s.silent k fun c => { c with lof := on }, State.bit_wb_same _ _ _ _ (by decide) (by decide), rfl,
    (State.Frame.silent.updCar (.head _)).wb (by decide) (.head _)⟩

theorem answers_hypothesisChange (hoof : s.bit (.fcr k) FCR.FR_STATUS.OOF = true) (hen : s.bit (.fcr k) FCR.FR_CTRL.HYP_EN = true)
    (hzr : s.zr k = false) : Answers (.hypothesisChange k) s fun u =>
      u.rd (.fcr k) FCR.FR_STATUS.HYP = s.nextHyp k ∧ u.out = [] ∧ s.Frame u [(.fcr k, 0x024)] [] := by
  refine answers_done_if (exec_hypothesisChange s k) (show (s.bit _ _ && s.bit _ _ && !s.zr k) = true by rw [hoof, hen, hzr]; rfl)
    ⟨?_, rfl, State.Frame.silent.wr (by decide) (.head _)⟩
  exact (State.rd_wr_same _ _ _ _ (by decide)).trans (Nat.mod_eq_of_lt (s.nextHyp_lt k))

theorem answers_lofMapLost (hlof : (s.car k).lof = true) (hoof : s.bit (.fcr k) FCR.FR_STATUS.OOF = true) (hruns : s.runs (.lfe k) = true)
    (hzr : s.zr k = false) : Answers (.lofMapLost k) s fun u =>
      u.rxState k = 6 ∧ (s.rxState k ≠ 6 → (u.word (.lfe k) 0x00C).getLsbD 5 = true) ∧ u.out = []
      ∧ s.Frame u [(.lfe k, 0x00C), (.lfe k, 0x024)] State.eventParts :=
  answers_done_if (exec_lofMapLost s k)
    (show ((s.car k).lof && s.bit _ _ && s.runs _ && !s.zr k) = true by rw [hlof, hoof, hruns, hzr]; rfl)
    ⟨State.mapLost_rxState _ k, fun h => State.mapLost_event (s := s.silent) h, State.mapLost_out _ k,
      State.Frame.silent.mapLost (.head _) (.tail _ (.head _)) (List.Subset.refl _)⟩

/-! ## The drain of a bonded carrier (R182) -/

/-- What the drain's change leaves in the registers, set or ended. -/
theorem drain_turned (s : State) (k : Fin 16) (on : Bool) :
    let u := s.silent.drainTurned k on
    u.bit (.lfe k) HDR.PAGE_CTRL.DRAIN = on ∧ u.bit (.csc k) CSC.CSC_STATUS.AUTO_DRAINED = on ∧ (u.word (.csc k) 0x00C).getLsbD 3 = true
    ∧ u.out = [] ∧ s.Frame u [(.lfe k, 0x004), (.csc k, 0x00C), (.csc k, 0x028)] State.eventParts :=
  ⟨State.drainTurned_drain _ k on, State.drainTurned_shown _ k on, State.drainTurned_event _ k on, State.drainTurned_out _ k on,
    s.drainTurned_frame k on⟩

/-- The condition of AUTO_DRAIN fails with any of its parts. -/
theorem answers_autoDrain_none (h : (s.defects k).testBit 3 = false ∨ s.bit (.csc k) CSC.CSC_CTRL.RDI_DRAIN = false ∨ s.bondedTx k = false
    ∨ s.mateClear k = false ∨ s.bit (.lfe k) HDR.PAGE_CTRL.DRAIN = true) :
    Answers (.autoDrain k) s fun u => u.out = [] ∧ s.Frame u [] [] := by
  refine answers_idle (exec_autoDrain s k) (show ((s.defects k).testBit 3 && s.bit (.csc k) CSC.CSC_CTRL.RDI_DRAIN && s.bondedTx k
    && s.mateClear k && s.runs (.lfe k) && !s.bit (.lfe k) HDR.PAGE_CTRL.DRAIN) = false from ?_)
  rcases h with h | h | h | h | h <;> simp [h]

/-! ## Remote Fault (R183) -/

theorem answers_remoteFaultStart (hrf : (s.rxCon c.val).rf = false) (hholds : s.rfHolds c.val = true) :
    Answers (.remoteFaultStart c) s fun u => (u.rxCon c.val).rf = true
      ∧ (∀ m, (s.rxMembers c.val).testBit m.val = true → u.bit (.csc m) CSC.CSC_STATUS.RF_ACTIVE = true
        ∧ (s.bit (.csc m) CSC.CSC_STATUS.RF_ACTIVE = false → (u.word (.csc m) 0x00C).getLsbD 4 = true))
      ∧ u.out = ((s.portsOf c.val).filter fun q => !s.portRf q).map (fun q => .remoteFault (Fin.ofNat 64 q) true)
      ∧ s.Frame u ((List.finRange 16).flatMap fun m => [(.csc m, 0x00C), (.csc m, 0x028)]) (.tm :: State.eventParts) := by
  refine answers_done_if (exec_remoteFaultStart s c) (show (!(s.rxCon c.val).rf && s.rfHolds c.val) = true by rw [hrf, hholds]; rfl)
    ⟨State.setRf_rf _ _ _, fun m hm => ?_, State.setRf_out (s := s.silent) true hrf, ?_⟩
  · obtain ⟨hbit, hevent⟩ := State.setRf_shows (s := s.silent) true hm
    exact ⟨hbit, fun hoff => hevent (Bool.eq_false_iff.1 hoff)⟩
  · refine State.Frame.silent.setRf (fun m x hx => ?_) (List.Subset.refl _)
    exact List.mem_flatMap.2 ⟨m, List.mem_finRange m, hx⟩

end

/-- Settles O33: each end of the nine commands by its lemma. -/
theorem defectsAndActions : Obligations.defectsAndActions := by
  unfold Obligations.defectsAndActions
  constructor
  · intro s k r f q same
    refine ⟨answers_losDeclare, answers_losClear, fun h => answers_done_if (exec_lofDeclare s k) h (lof_taken s k true),
      fun h => answers_done_if (exec_lofClear s k) h (lof_taken s k false), fun hoof hen hzr => ?_, answers_lofMapLost,
      fun h => answers_idle (exec_losDeclare s k) (show (s.runs _ && !s.bit _ _) = false by rw [h, Bool.not_true, Bool.and_false]),
      answers_idle (exec_losClear s k), fun h => ⟨answers_idle (exec_lofDeclare s k) h, ?_, ?_⟩, answers_idle (exec_lofClear s k),
      fun h => ?_, fun h => ?_⟩
    · refine State.answers_imp (answers_hypothesisChange hoof hen hzr) ?_
      rintro u ⟨hhyp, hout, hframe⟩
      refine ⟨hhyp.trans ?_, hout, hframe⟩
      unfold State.nextHyp
      generalize s.rd (.fcr k) FCR.FR_STATUS.HYP = n
      match n with
      | 0 => cases (s.car k).rxAnn <;> rfl
      | 1 => rfl
      | _ + 2 => rfl
    · exact answers_idle (exec_hypothesisChange s k) (show (s.bit _ _ && s.bit _ _ && !s.zr k) = false by rw [h]; rfl)
    · exact answers_idle (exec_lofMapLost s k)
        (show ((s.car k).lof && s.bit _ _ && s.runs _ && !s.zr k) = false by rw [h, Bool.and_false]; rfl)
    · exact answers_idle (exec_hypothesisChange s k) (show (s.bit _ _ && s.bit _ _ && !s.zr k) = false by rw [h, Bool.and_false]; rfl)
    · exact answers_idle (exec_lofMapLost s k) (show ((s.car k).lof && s.bit _ _ && s.runs _ && !s.zr k) = false by rw [h]; rfl)
  · intro s k c q e rdi csc
    refine ⟨fun hrdi hen hbond hmate hruns hdrain => ?_, answers_autoDrain_none, fun hauto hrdi => ?_, fun h => ?_,
      answers_remoteFaultStart, fun h => ?_⟩
    · refine answers_done_if (exec_autoDrain s k) (show ((s.defects k).testBit 3 && s.bit (.csc k) CSC.CSC_CTRL.RDI_DRAIN && s.bondedTx k
        && s.mateClear k && s.runs (.lfe k) && !s.bit (.lfe k) HDR.PAGE_CTRL.DRAIN) = true from ?_) (drain_turned s k true)
      rw [show (s.defects k).testBit 3 = true from hrdi, hen, hbond, hmate, hruns, hdrain]
      rfl
    · refine answers_done_if (exec_autoUndrain s k)
        (show (s.bit (.csc k) CSC.CSC_STATUS.AUTO_DRAINED && !(s.defects k).testBit 3) = true from ?_) (drain_turned s k false)
      rw [hauto, show (s.defects k).testBit 3 = false from hrdi]
      rfl
    · refine answers_idle (exec_autoUndrain s k)
        (show (s.bit (.csc k) CSC.CSC_STATUS.AUTO_DRAINED && !(s.defects k).testBit 3) = false from ?_)
      rcases h with h | h
      · rw [h]; rfl
      · rw [show (s.defects k).testBit 3 = true from h, Bool.not_true, Bool.and_false]
    · refine answers_idle (exec_remoteFaultStart s c) (show (!(s.rxCon c.val).rf && s.rfHolds c.val) = false from ?_)
      rcases h with h | h
      · rw [h]; rfl
      · rw [h, Bool.and_false]

end Sys2Proof.Machine
end

section
/-! PROOFS. Line encryption: what zeroizing leaves of a carrier's key slots, CR_CTRL, the loading of keys and their ages (R195, R196, R199-R201).
Settles O34. -/
namespace Sys2Proof.Machine.State

open Sys2Proof Reg

/-! ## Key slots -/

section
variable (s : State) (k : Fin 16) (i : Nat)

theorem slot_of_car {s u : State} {k : Fin 16} (h : u.car k = s.car k) (i : Nat) : u.slot k i = s.slot k i := by
  unfold slot; rw [h]

/-- What a zeroized slot keeps: when a frame last verified under it (R195). -/
def zeroed (x : KeySlot) : KeySlot := { KeySlot.empty with lastOk := x.lastOk }

/-- A carrier's record without a slot's key. -/
def slotCleared (c : Carrier) (i : Nat) : Carrier :=
  { c with slots := c.slots.set i (zeroed (c.slots.getD i KeySlot.empty)), txKey := if c.txKey = some i then none else c.txKey
           waitKey := if c.waitKey = some i then none else c.waitKey }

/-- At most the warning of one direction goes. -/
theorem unwarn_eq : s.unwarn k i = s ∨ ∃ f, s.unwarn k i = s.wb (.fcr k) f false := by
  unfold unwarn
  extract_lets p
  split <;> split
  · exact .inr ⟨_, rfl⟩
  · exact .inl rfl
  · exact .inr ⟨_, rfl⟩
  · exact .inl rfl

theorem unwarn_cars : (s.unwarn k i).cars = s.cars := by
  obtain h | ⟨f, h⟩ := s.unwarn_eq k i <;> rw [h]
  exact wb_cars _ _ _ _

theorem unwarn_out : (s.unwarn k i).out = s.out := by
  obtain h | ⟨f, h⟩ := s.unwarn_eq k i <;> rw [h]
  exact wb_out _ _ _ _

variable {s k i} in
theorem Frame.unwarn {v : State} {l : List (Page × Nat)} {ps : List StatePart} (h : Frame v s l ps) (hl : (Page.fcr k, 0x044) ∈ l) :
    Frame v (s.unwarn k i) l ps :=
  Frame.ite (fun _ => Frame.ite (fun _ => h.wb (by decide) hl) fun _ => h)
    fun _ => Frame.ite (fun _ => h.wb (by decide) hl) fun _ => h

theorem zeroSlot_car : (s.zeroSlot k i).car k = slotCleared (s.car k) i := by
  unfold zeroSlot
  extract_lets blank set t u
  have ht : t.car k = { s.car k with slots := (s.car k).slots.set i (zeroed (s.slot k i)) } :=
    car_updCar s k fun c => { c with slots := c.slots.set i (zeroed (s.slot k i)) }
  have hu : u.car k = { t.car k with txKey := if (t.car k).txKey = some i then none else (t.car k).txKey
                                     waitKey := if (t.car k).waitKey = some i then none else (t.car k).waitKey } := car_updCar t k _
  rw [car_of_cars k (unwarn_cars u k i), hu, ht]
  rfl

theorem zeroSlot_out : (s.zeroSlot k i).out = s.out := unwarn_out _ k i

variable {s k i} in
theorem Frame.zeroSlot {v : State} {l : List (Page × Nat)} {ps : List StatePart} (h : Frame v s l ps) (hl : (Page.fcr k, 0x044) ∈ l)
    (hc : StatePart.cars ∈ ps) (hd : StatePart.damage ∈ ps) : Frame v (s.zeroSlot k i) l ps :=
  Frame.unwarn ((Frame.with_damage (h.updCar hc) hd).updCar hc) hl

theorem zeroSlot_slot_same : (s.zeroSlot k i).slot k i = zeroed (s.slot k i) := by
  unfold slot
  rw [zeroSlot_car]
  unfold slotCleared
  by_cases h : i < (s.car k).slots.length
  · simp [h]
  · simp [h, zeroed, KeySlot.empty]

theorem zeroSlot_slot_other {j : Nat} (h : j ≠ i) : (s.zeroSlot k i).slot k j = s.slot k j := by
  unfold slot
  rw [zeroSlot_car]
  unfold slotCleared
  simp [List.getElem?_set_ne h.symm]

end

/-- An event of FCR leaves its other registers. -/
theorem fcr_bit_raise (s : State) (k : Fin 16) (b : Nat) {f : Fld} (h : f.off < 0x1000 ∧ f.off ≠ 0x00C) :
    (s.raise (.fcr k) b).bit (.fcr k) f = s.bit (.fcr k) f := bit_raise s (.fcr k) b (.fcr k) f nofun h

/-! ## CR_CTRL (R195, R196, R199, R201) -/

section
variable (s : State) (k : Fin 16) (v : Word)

/-- The slot that a value of CR_CTRL selects. -/
def crSel (v : Word) : Nat := 2 * FCR.CR_CTRL.SEL_DIR.get v + FCR.CR_CTRL.SEL_SLOT.get v

/-- A SWITCH is refused: one is pending, FCR is HELD, or the other slot is empty (R199). -/
def noSwitch : Bool := (s.car k).switchWait || s.pst (.fcr k) == 5 || !(s.slot k (s.otherSlot k)).loaded

/-- A write is refused whole. -/
def crRefused : Bool :=
  (FCR.CR_CTRL.MODE.get v != s.rd (.fcr k) FCR.CR_CTRL.MODE && s.pst (.fcr k) != 0 && s.pst (.fcr k) != 6)
  || (FCR.CR_CTRL.SWITCH.get v == 1 && s.noSwitch k) || (FCR.CR_CTRL.ZEROIZE.get v == 1 && (s.car k).txKey == some (crSel v))

theorem noSwitch_iff : s.noSwitch k = true ↔ (s.car k).switchWait = true ∨ s.pst (.fcr k) = 5
    ∨ (s.slot k (1 - s.rd (.fcr k) FCR.CR_STATUS.TX_ACTIVE)).loaded = false := by
  unfold noSwitch otherSlot
  simp only [Bool.or_eq_true, beq_iff_eq, Bool.not_eq_true', or_assoc]

theorem crRefused_iff : s.crRefused k v = true ↔
    (FCR.CR_CTRL.MODE.get v ≠ s.rd (.fcr k) FCR.CR_CTRL.MODE ∧ s.pst (.fcr k) ≠ 0 ∧ s.pst (.fcr k) ≠ 6)
    ∨ (FCR.CR_CTRL.SWITCH.get v = 1 ∧ s.noSwitch k = true)
    ∨ (FCR.CR_CTRL.ZEROIZE.get v = 1 ∧ (s.car k).txKey = some (crSel v)) := by
  unfold crRefused
  simp only [Bool.or_eq_true, Bool.and_eq_true, bne_iff_ne, beq_iff_eq, or_assoc, and_assoc]

/-- CR_CTRL takes the value, and the key words entered are discarded. -/
def crWritten : State := ((s.plainWrite (.fcr k) 0x040 v).wb (.fcr k) FCR.CR_STATUS.CFG_REJECT false).wr (.fcr k) FCR.CR_STATUS.KEY_WORDS 0

/-- The record of a carrier whose CR_CTRL is written: with a switch that waits, or without. -/
def crRecord (sw : Bool) : State := (s.crWritten k v).updCar k fun c => { c with words := [], switchWait := c.switchWait || sw }

/-- The register and the record, and SWITCH_PENDING of a SWITCH. -/
def crTaken (sw : Bool) : State :=
  if sw then (s.crRecord k v sw).wb (.fcr k) FCR.CR_STATUS.SWITCH_PENDING true else s.crRecord k v sw

theorem effCrCtrl_eq : effCrCtrl k v s = if s.crRefused k v then s.crReject k
    else if FCR.CR_CTRL.ZEROIZE.get v == 1 then (s.crTaken k v (FCR.CR_CTRL.SWITCH.get v == 1)).zeroSlot k (crSel v)
    else s.crTaken k v (FCR.CR_CTRL.SWITCH.get v == 1) := rfl

section
variable {s k v} {sw : Bool} (h : s.crRefused k v = false) (hsw : (FCR.CR_CTRL.SWITCH.get v == 1) = sw)
include h hsw

theorem effCrCtrl_taken (hze : FCR.CR_CTRL.ZEROIZE.get v = 0) : effCrCtrl k v s = s.crTaken k v sw := by
  rw [effCrCtrl_eq, h, hsw, hze]
  rfl

theorem effCrCtrl_zeroizes (hze : FCR.CR_CTRL.ZEROIZE.get v = 1) : effCrCtrl k v s = (s.crTaken k v sw).zeroSlot k (crSel v) := by
  rw [effCrCtrl_eq, h, hsw, hze]
  rfl

end

theorem crWritten_eq : s.crWritten k v = ((s.setWord (.fcr k) 0x040
    ((s.word (.fcr k) 0x040 &&& ~~~(0x3F3 : Word)) ||| (v &&& 0x3F3))).wb (.fcr k) FCR.CR_STATUS.CFG_REJECT false).wr (.fcr k)
      FCR.CR_STATUS.KEY_WORDS 0 := by
  unfold crWritten
  rw [plainWrite_of_rw (r := ⟨0x040, 0x0, 0x3F3, 0x0⟩) v rfl rfl]
  rfl

/-- A field of CR_CTRL reads the value written. -/
theorem crWritten_rd {f : Fld} (hoff : f.off = 0x040) (h : ∀ i < f.w, (0x3F3 : Word).getLsbD (f.lo + i) = true) :
    (s.crWritten k v).rd (.fcr k) f = f.get v := by
  have hctrl : f.off < 0x1000 ∧ f.off ≠ 0x044 := by rw [hoff]; decide
  rw [crWritten_eq, rd_wr_other _ _ _ _ _ ⟨by decide, hctrl.1, .inl hctrl.2⟩, rd_wb_other _ _ _ _ _ ⟨by decide, hctrl.1, .inl hctrl.2⟩,
    ← hoff, rd_setWord_same]
  exact f.get_merge_written _ _ _ h

theorem crWritten_reject : (s.crWritten k v).bit (.fcr k) FCR.CR_STATUS.CFG_REJECT = false :=
  (bit_wr_other _ _ _ _ _ (by decide)).trans (bit_wb_same _ _ _ _ (by decide) (by decide))

theorem crWritten_keyWords : (s.crWritten k v).rd (.fcr k) FCR.CR_STATUS.KEY_WORDS = 0 := rd_wr_same _ _ _ _ (by decide)

theorem crWritten_cars : (s.crWritten k v).cars = s.cars := by
  rw [crWritten_eq, wr_cars, wb_cars, setWord_cars]

theorem crWritten_out : (s.crWritten k v).out = s.out := by
  rw [crWritten_eq, wr_out, wb_out, setWord_out]

variable (sw : Bool)

theorem crTaken_car : (s.crTaken k v sw).car k = { s.car k with words := [], switchWait := (s.car k).switchWait || sw } := by
  have hrecord : (s.crRecord k v sw).car k = { s.car k with words := [], switchWait := (s.car k).switchWait || sw } := by
    unfold crRecord
    rw [car_updCar, car_of_cars k (crWritten_cars s k v)]
  cases sw with
  | false => exact hrecord
  | true => exact (car_of_cars k (wb_cars _ _ _ _)).trans hrecord

/-- The registers of a write without SWITCH. -/
theorem crTaken_word (p : Page) (i : Nat) : (s.crTaken k v false).word p i = (s.crWritten k v).word p i := by
  unfold crTaken crRecord
  rw [if_neg Bool.false_ne_true, updCar_word]

theorem crTaken_out : (s.crTaken k v sw).out = s.out := by
  have hrecord : (s.crRecord k v sw).out = s.out := (updCar_out _ _ _).trans (crWritten_out s k v)
  cases sw with
  | false => exact hrecord
  | true => exact (wb_out _ _ _ _).trans hrecord

variable {s k v sw} in
theorem Frame.crTaken {u : State} {l : List (Page × Nat)} {ps : List StatePart} (h : Frame u s l ps) (hctrl : (Page.fcr k, 0x040) ∈ l)
    (hstatus : (Page.fcr k, 0x044) ∈ l) (hc : StatePart.cars ∈ ps) : Frame u (s.crTaken k v sw) l ps := by
  have hrecord : Frame u (s.crRecord k v sw) l ps := by
    unfold crRecord
    rw [crWritten_eq]
    exact (((h.setWord (by decide) hctrl).wb (by decide) hstatus).wr (by decide) hstatus).updCar hc
  exact Frame.ite (fun _ => hrecord.wb (by decide) hstatus) fun _ => hrecord

end

/-! ## A key's words and its salt (R195, R196) -/

section
variable (s : State) (k : Fin 16) (v : Word)

theorem effKeyPort_full (h : 8 ≤ (s.car k).words.length) : effKeyPort k v s = s := if_pos h

theorem effKeyPort_taken (h : (s.car k).words.length < 8) : effKeyPort k v s =
    (s.updCar k fun c => { c with words := (s.car k).words ++ [v] }).wr (.fcr k) FCR.CR_STATUS.KEY_WORDS ((s.car k).words.length + 1) :=
  if_neg (not_le.2 h)

/-- The slot that CR_CTRL selects. -/
def selected : Nat := 2 * s.rd (.fcr k) FCR.CR_CTRL.SEL_DIR + s.rd (.fcr k) FCR.CR_CTRL.SEL_SLOT

/-- A frame has verified under a slot within the last 1.049 ms. -/
def verifiedLately (i : Nat) : Bool :=
  match (s.slot k i).lastOk with
  | some t => decide (s.time.toNat - t ≤ 1049000)
  | none => false

/-- A load is refused. -/
def loadRefused : Bool :=
  (s.car k).words.length < 8 || (s.car k).txKey = some (s.selected k) || (decide (2 ≤ s.selected k) && s.verifiedLately k (s.selected k))
  || s.pst (.fcr k) = 5

/-- The key of the words entered, and the salt. -/
def keyLoaded : KeySlot :=
  { KeySlot.empty with
    loaded := true, salt := v, key := BitVec.ofNat 256 ((s.car k).words.foldl (fun a w => a * 0x100000000 + w.toNat) 0) }

/-- The slot holds the key; one loaded for a transmit direction without an active slot waits for the next boundary. -/
def slotLoaded : State :=
  let i := s.selected k
  ((s.setSlot k i (s.keyLoaded k v)).unwarn k i).updCar k fun c =>
    { c with words := [], waitKey := if i < 2 && c.txKey = none then some i else c.waitKey }

/-- A load completed. -/
def keyTaken : State :=
  (((s.slotLoaded k v).wr (.fcr k) FCR.CR_STATUS.KEY_WORDS 0).wb (.fcr k) FCR.CR_STATUS.CFG_REJECT false).protect (.fcr k) 2 (s.selected k)

theorem effKeySalt_eq : effKeySalt k v s =
    if s.loadRefused k then ((s.crReject k).raise (.fcr k) 15).count (.fcr k) 15 1 else s.keyTaken k v := rfl

theorem verifiedLately_iff (i : Nat) : s.verifiedLately k i = true ↔ ∃ t, (s.slot k i).lastOk = some t ∧ s.time.toNat - t ≤ 1049000 := by
  unfold verifiedLately
  cases (s.slot k i).lastOk with
  | none => simp
  | some t => simp

theorem loadRefused_iff : s.loadRefused k = true ↔ (s.car k).words.length < 8 ∨ (s.car k).txKey = some (s.selected k)
    ∨ (2 ≤ s.selected k ∧ s.verifiedLately k (s.selected k) = true) ∨ s.pst (.fcr k) = 5 := by
  unfold loadRefused
  simp only [Bool.or_eq_true, Bool.and_eq_true, decide_eq_true_eq, or_assoc]

theorem keyTaken_car : (s.keyTaken k v).car k =
    { s.car k with slots := (s.car k).slots.set (s.selected k) (s.keyLoaded k v), words := []
                   waitKey := if s.selected k < 2 ∧ (s.car k).txKey = none then some (s.selected k) else (s.car k).waitKey } := by
  have hset : ((s.setSlot k (s.selected k) (s.keyLoaded k v)).unwarn k (s.selected k)).car k
      = { s.car k with slots := (s.car k).slots.set (s.selected k) (s.keyLoaded k v) } :=
    (car_of_cars k (unwarn_cars _ k _)).trans (car_updCar s k _)
  unfold keyTaken slotLoaded
  rw [car_of_cars k ((protect_cars _ _ _ _).trans ((wb_cars _ _ _ _).trans (wr_cars _ _ _ _))), car_updCar, hset]
  simp only [Bool.and_eq_true, decide_eq_true_eq]

theorem keyTaken_keyWords : (s.keyTaken k v).rd (.fcr k) FCR.CR_STATUS.KEY_WORDS = 0 :=
  (rd_of_word (protect_word _ _ _ _ _ _ (by decide) (.inr (by decide)))).trans
    ((rd_wb_other _ _ _ _ _ (by decide)).trans (rd_wr_same _ _ _ _ (by decide)))

theorem keyTaken_reject : (s.keyTaken k v).bit (.fcr k) FCR.CR_STATUS.CFG_REJECT = false :=
  (bit_of_word (protect_word _ _ _ _ _ _ (by decide) (.inr (by decide)))).trans (bit_wb_same _ _ _ _ (by decide) (by decide))

theorem keyTaken_out : (s.keyTaken k v).out = s.out := by
  unfold keyTaken slotLoaded
  rw [protect_out, wb_out, wr_out, updCar_out, unwarn_out]
  exact updCar_out s k _

variable {s k v} in
theorem Frame.keyTaken {u : State} {l : List (Page × Nat)} {ps : List StatePart} (h : Frame u s l ps) (hflip : (Page.fcr k, 0x018) ∈ l)
    (hstatus : (Page.fcr k, 0x044) ∈ l) (hc : StatePart.cars ∈ ps) (hd : StatePart.damage ∈ ps) : Frame u (s.keyTaken k v) l ps :=
  ((((Frame.unwarn (h.updCar hc) hstatus).updCar hc).wr (by decide) hstatus).wb (by decide) hstatus).protect hflip hd

end

/-! ## Ages (R200) -/

section
variable (s : State) (k : Fin 16) (i : Nat)

/-- A slot that its direction uses. -/
def slotActive : Bool := if i < 2 then (s.car k).txKey == some i else s.rd (.fcr k) FCR.CR_STATUS.RX_ACTIVE == i - 2

/-- The warning of a slot's direction. -/
def warnFld : Fld := if i < 2 then FCR.CR_STATUS.TX_WARN else FCR.CR_STATUS.RX_WARN

/-- The warning is due. -/
def warnDue : Bool :=
  (s.slot k i).loaded && decide (2 ^ 34 ≤ s.slotAge k i) && s.slotActive k i && !s.bit (.fcr k) (warnFld i)

/-- The end of the key is due. -/
def retireDue : Bool := (s.slot k i).loaded && decide (2 ^ 36 ≤ s.slotAge k i)

theorem ageWarn_eq : s.ageWarn k i = if s.warnDue k i then (s.wb (.fcr k) (warnFld i) true).raise (.fcr k) 10 else s := by
  have hmodel : s.ageWarn k i = if !(s.slot k i).loaded || s.slotAge k i < 2 ^ 34 then s
      else if !s.slotActive k i || s.bit (.fcr k) (warnFld i) then s else (s.wb (.fcr k) (warnFld i) true).raise (.fcr k) 10 := rfl
  rw [hmodel, ← ite_or, ← ite_not]
  refine if_congr ?_ rfl rfl
  unfold warnDue
  simp [and_assoc]

/-- A key at its end: its slot is zeroized, a receive slot retired. -/
def keyEnded : State :=
  if i < 2 then s.zeroSlot k i else (s.zeroSlot k i).setSlot k i { (s.zeroSlot k i).slot k i with retired := true }

theorem ageRetire_eq : s.ageRetire k i = if s.retireDue k i then (s.keyEnded k i).raise (.fcr k) 11 else s := by
  have hmodel : s.ageRetire k i = if !(s.slot k i).loaded || s.slotAge k i < 2 ^ 36 then s else (s.keyEnded k i).raise (.fcr k) 11 := rfl
  rw [hmodel, ← ite_not]
  refine if_congr ?_ rfl rfl
  unfold retireDue
  simp

theorem warnDue_iff : s.warnDue k i = true ↔ (s.slot k i).loaded = true ∧ 2 ^ 34 ≤ s.slotAge k i ∧ s.slotActive k i = true
    ∧ s.bit (.fcr k) (warnFld i) = false := by
  unfold warnDue
  simp only [Bool.and_eq_true, decide_eq_true_eq, Bool.not_eq_true', and_assoc]

theorem retireDue_iff : s.retireDue k i = true ↔ (s.slot k i).loaded = true ∧ 2 ^ 36 ≤ s.slotAge k i := by
  unfold retireDue
  simp only [Bool.and_eq_true, decide_eq_true_eq]

theorem warnFld_shape : (warnFld i).off = 0x044 ∧ (warnFld i).lo + (warnFld i).w ≤ 32 ∧ 1 ≤ (warnFld i).w := by
  unfold warnFld
  split <;> decide

/-- A receive slot is marked as retired beside. -/
theorem keyEnded_car : (s.keyEnded k i).car k = { slotCleared (s.car k) i with
    slots := (s.car k).slots.set i { KeySlot.empty with retired := decide (2 ≤ i), lastOk := (s.slot k i).lastOk } } := by
  unfold keyEnded
  by_cases h : i < 2
  · rw [if_pos h, zeroSlot_car, decide_eq_false (not_le.2 h)]
    rfl
  · rw [if_neg h, zeroSlot_slot_same, decide_eq_true (not_lt.1 h)]
    refine (car_updCar _ k _).trans ?_
    rw [zeroSlot_car]
    unfold slotCleared
    rw [List.set_set]
    rfl

theorem keyEnded_out : (s.keyEnded k i).out = s.out := by
  unfold keyEnded
  split
  · exact zeroSlot_out s k i
  · exact (updCar_out _ k _).trans (zeroSlot_out s k i)

variable {s k i} in
theorem Frame.keyEnded {v : State} {l : List (Page × Nat)} {ps : List StatePart} (h : Frame v s l ps) (hl : (Page.fcr k, 0x044) ∈ l)
    (hc : StatePart.cars ∈ ps) (hd : StatePart.damage ∈ ps) : Frame v (s.keyEnded k i) l ps :=
  Frame.ite (fun _ => h.zeroSlot hl hc hd) fun _ => (h.zeroSlot hl hc hd).updCar hc

end

end Sys2Proof.Machine.State

namespace Sys2Proof.Machine

open Sys2Proof Reg

section
variable (s : State) (k : Fin 16) (v : Word) (rx slot : Bool)

theorem exec_crSelect : exec (.crSelect k v) s = s.done fun t => t.gateReg (.fcr k) 0x040 v (State.effCrCtrl k v) := rfl
theorem exec_keyPortWrite : exec (.keyPortWrite k v) s = s.done fun t => t.gateReg (.fcr k) 0x048 v (State.effKeyPort k v) := rfl
theorem exec_keySaltWrite : exec (.keySaltWrite k v) s = s.done fun t => t.gateReg (.fcr k) 0x04C v (State.effKeySalt k v) := rfl

/-- CR_CTRL written with SWITCH. -/
def switchWord : Word := FCR.CR_CTRL.SWITCH.put (s.word (.fcr k) 0x040) 1

/-- CR_CTRL written with ZEROIZE. -/
def zeroizeWord : Word := FCR.CR_CTRL.ZEROIZE.put (s.word (.fcr k) 0x040) 1

theorem exec_keySwitch : exec (.keySwitch k) s =
    s.done fun t => t.gateReg (.fcr k) 0x040 (switchWord s k) (State.effCrCtrl k (switchWord s k)) := rfl
theorem exec_keyZeroize : exec (.keyZeroize k) s =
    s.done fun t => t.gateReg (.fcr k) 0x040 (zeroizeWord s k) (State.effCrCtrl k (zeroizeWord s k)) := rfl

/-- The index of a direction's slot. -/
def slotIndex (rx slot : Bool) : Nat := 2 * rx.toNat + slot.toNat

theorem exec_keyAgeWarn : exec (.keyAgeWarn k rx slot) s = s.done fun t => if t.warnDue k (slotIndex rx slot)
    then (t.wb (.fcr k) (State.warnFld (slotIndex rx slot)) true).raise (.fcr k) 10 else t :=
  Eq.trans (b := s.done fun t => t.ageWarn k (slotIndex rx slot)) rfl (congrArg s.done (funext fun t => t.ageWarn_eq k _))

theorem exec_keyRetired : exec (.keyRetired k rx slot) s = s.done fun t => if t.retireDue k (slotIndex rx slot)
    then (t.keyEnded k (slotIndex rx slot)).raise (.fcr k) 11 else t :=
  Eq.trans (b := s.done fun t => t.ageRetire k (slotIndex rx slot)) rfl (congrArg s.done (funext fun t => t.ageRetire_eq k _))

/-! ## What a write finds -/

theorem touch_crRefused : s.touch.silent.crRefused k v = s.crRefused k v :=
  State.touch_silent_same (fun t => t.crRefused k v) (fun _ _ => rfl) (fun _ => rfl) s

theorem touch_slot (i : Nat) : s.touch.silent.slot k i = s.slot k i := State.slot_of_car (State.touch_car s k) i

theorem touch_selected : s.touch.silent.selected k = s.selected k :=
  State.touch_silent_same (fun t => t.selected k) (fun _ _ => rfl) (fun _ => rfl) s

theorem touch_time : s.touch.silent.time = s.time :=
  State.touch_silent_same (fun t => t.time) (fun _ _ => rfl) (fun _ => rfl) s

theorem touch_loadRefused : s.touch.silent.loadRefused k = s.loadRefused k := by
  have hpst : s.touch.silent.pst (.fcr k) = s.pst (.fcr k) := State.touch_silent_rd s _ _
  unfold State.loadRefused State.verifiedLately
  rw [touch_selected, State.touch_car, touch_slot, touch_time, hpst]

theorem touch_keyLoaded : s.touch.silent.keyLoaded k v = s.keyLoaded k v := by
  unfold State.keyLoaded
  rw [State.touch_car]

variable {s k v rx slot}

/-! ## CR_CTRL -/

/-- The fields beside SWITCH keep what they hold. -/
theorem get_switchWord {f : Fld} (h : f.lo + f.w ≤ 16 ∨ 17 ≤ f.lo) : f.get (switchWord s k) = f.get (s.word (.fcr k) 0x040) :=
  Fld.get_put_ne _ _ _ _ h.symm

/-- So do the fields below ZEROIZE. -/
theorem get_zeroizeWord {f : Fld} (h : f.lo + f.w ≤ 17) : f.get (zeroizeWord s k) = f.get (s.word (.fcr k) 0x040) :=
  Fld.get_put_ne _ _ _ _ (.inr h)

theorem switch_switchWord : FCR.CR_CTRL.SWITCH.get (switchWord s k) = 1 := Fld.get_put_same _ _ _ (by decide)

theorem zeroize_zeroizeWord : FCR.CR_CTRL.ZEROIZE.get (zeroizeWord s k) = 1 := Fld.get_put_same _ _ _ (by decide)

theorem crSel_zeroizeWord : State.crSel (zeroizeWord s k) = s.selected k := by
  unfold State.crSel
  rw [get_zeroizeWord (by decide), get_zeroizeWord (by decide)]
  rfl

theorem crRefused_switchWord (h : FCR.CR_CTRL.ZEROIZE.get (s.word (.fcr k) 0x040) = 0) :
    s.crRefused k (switchWord s k) = s.noSwitch k := by
  rw [Bool.eq_iff_iff, State.crRefused_iff, switch_switchWord, get_switchWord (f := FCR.CR_CTRL.MODE) (by decide),
    get_switchWord (f := FCR.CR_CTRL.ZEROIZE) (by decide), h]
  simp [State.rd, FCR.CR_CTRL.MODE]

theorem crRefused_zeroizeWord (h : FCR.CR_CTRL.SWITCH.get (s.word (.fcr k) 0x040) = 0) :
    s.crRefused k (zeroizeWord s k) = decide ((s.car k).txKey = some (s.selected k)) := by
  rw [Bool.eq_iff_iff, State.crRefused_iff, zeroize_zeroizeWord, get_zeroizeWord (f := FCR.CR_CTRL.MODE) (by decide),
    get_zeroizeWord (f := FCR.CR_CTRL.SWITCH) (by decide), h, crSel_zeroizeWord]
  simp [State.rd, FCR.CR_CTRL.MODE]

/-- A write that is refused. -/
theorem answers_cr_refused {c : Instr} (hc : exec c s = s.done fun t => t.gateReg (.fcr k) 0x040 v (State.effCrCtrl k v))
    (hacc : s.accepts (.fcr k) 0x040 = true) (h : s.crRefused k v = true) : Answers c s fun u =>
      u.bit (.fcr k) FCR.CR_STATUS.CFG_REJECT = true ∧ u.out = [] ∧ s.touch.Frame u [(.fcr k, 0x044)] [] := by
  refine answers_write _ hc (by decide) (by decide) hacc ?_
  rw [State.effCrCtrl_eq, touch_crRefused, if_pos h]
  exact ⟨State.bit_wb_same _ _ _ _ (by decide) (by decide), rfl, State.Frame.silent.wb (by decide) (.head _)⟩

section
variable (hacc : s.accepts (.fcr k) 0x040 = true)
include hacc

/-- One without SWITCH and ZEROIZE that is taken. -/
theorem answers_crSelect (h : s.crRefused k v = false) (hsw : FCR.CR_CTRL.SWITCH.get v = 0) (hze : FCR.CR_CTRL.ZEROIZE.get v = 0) :
    Answers (.crSelect k v) s fun u =>
      u.rd (.fcr k) FCR.CR_CTRL.MODE = FCR.CR_CTRL.MODE.get v ∧ u.rd (.fcr k) FCR.CR_CTRL.SEL_DIR = FCR.CR_CTRL.SEL_DIR.get v
      ∧ u.rd (.fcr k) FCR.CR_CTRL.SEL_SLOT = FCR.CR_CTRL.SEL_SLOT.get v ∧ u.bit (.fcr k) FCR.CR_STATUS.CFG_REJECT = false
      ∧ u.rd (.fcr k) FCR.CR_STATUS.KEY_WORDS = 0 ∧ u.car k = { s.car k with words := [] } ∧ u.out = []
      ∧ s.touch.Frame u [(.fcr k, 0x040), (.fcr k, 0x044)] [.cars] := by
  refine answers_write _ (exec_crSelect s k v) (by decide) (by decide) hacc ?_
  rw [State.effCrCtrl_taken ((touch_crRefused s k v).trans h) (sw := false) (by rw [hsw]; rfl) hze]
  have hrd {f : Fld} : (s.touch.silent.crTaken k v false).rd (.fcr k) f = (s.touch.silent.crWritten k v).rd (.fcr k) f :=
    State.rd_of_word (State.crTaken_word _ k v _ _)
  refine ⟨hrd.trans (State.crWritten_rd _ k v rfl (by decide)), hrd.trans (State.crWritten_rd _ k v rfl (by decide)),
    hrd.trans (State.crWritten_rd _ k v rfl (by decide)), (State.bit_of_word (State.crTaken_word _ k v _ _)).trans (State.crWritten_reject _ k v),
    hrd.trans (State.crWritten_keyWords _ k v), (State.crTaken_car _ k v false).trans ?_, State.crTaken_out _ k v false,
    State.Frame.silent.crTaken (sw := false) (.head _) (.tail _ (.head _)) (.head _)⟩
  rw [State.touch_car, Bool.or_false]

theorem answers_keySwitch (h : s.noSwitch k = false) (hze : FCR.CR_CTRL.ZEROIZE.get (s.word (.fcr k) 0x040) = 0) :
    Answers (.keySwitch k) s fun u => u.bit (.fcr k) FCR.CR_STATUS.SWITCH_PENDING = true
      ∧ u.car k = { s.car k with words := [], switchWait := true } ∧ u.out = []
      ∧ s.touch.Frame u [(.fcr k, 0x040), (.fcr k, 0x044)] [.cars] := by
  refine answers_write _ (exec_keySwitch s k) (by decide) (by decide) hacc ?_
  rw [State.effCrCtrl_taken ((touch_crRefused s k _).trans ((crRefused_switchWord hze).trans h)) (sw := true)
    (by rw [switch_switchWord]; rfl) ((get_switchWord (by decide)).trans hze)]
  refine ⟨State.bit_wb_same _ _ _ _ (by decide) (by decide), (State.crTaken_car _ k _ true).trans ?_, State.crTaken_out _ k _ true,
    State.Frame.silent.crTaken (sw := true) (.head _) (.tail _ (.head _)) (.head _)⟩
  rw [State.touch_car, Bool.or_true]

theorem answers_keyZeroize (h : (s.car k).txKey ≠ some (s.selected k)) (hsw : FCR.CR_CTRL.SWITCH.get (s.word (.fcr k) 0x040) = 0) :
    Answers (.keyZeroize k) s fun u => u.slot k (s.selected k) = State.zeroed (s.slot k (s.selected k))
      ∧ (∀ j, j ≠ s.selected k → u.slot k j = s.slot k j) ∧ (u.car k).txKey = (s.car k).txKey ∧ u.out = []
      ∧ s.touch.Frame u [(.fcr k, 0x040), (.fcr k, 0x044)] [.cars, .damage] := by
  refine answers_write _ (exec_keyZeroize s k) (by decide) (by decide) hacc ?_
  have hok : s.crRefused k (zeroizeWord s k) = false := (crRefused_zeroizeWord hsw).trans (decide_eq_false h)
  rw [State.effCrCtrl_zeroizes ((touch_crRefused s k _).trans hok) (sw := false)
    (by rw [get_zeroizeWord (by decide), hsw]; rfl) zeroize_zeroizeWord, crSel_zeroizeWord]
  let t := s.touch.silent.crTaken k (zeroizeWord s k) false
  have hcar : t.car k = { s.car k with words := [] } := by
    rw [State.crTaken_car, State.touch_car, Bool.or_false]
  have hslot (j : Nat) : t.slot k j = s.slot k j := by
    unfold State.slot
    rw [hcar]
  refine ⟨(State.zeroSlot_slot_same t k _).trans (congrArg State.zeroed (hslot _)),
    fun j hj => (State.zeroSlot_slot_other t k _ hj).trans (hslot j), ?_,
    (State.zeroSlot_out t k _).trans (State.crTaken_out _ k _ false),
    (State.Frame.silent.crTaken (sw := false) (.head _) (.tail _ (.head _)) (.head _)).zeroSlot (.tail _ (.head _)) (.head _)
      (.tail _ (.head _))⟩
  show ((t.zeroSlot k (s.selected k)).car k).txKey = _
  rw [State.zeroSlot_car, hcar]
  exact if_neg h

end

/-! ## A key's words and its salt -/

theorem answers_keyPort (hacc : s.accepts (.fcr k) 0x048 = true) (h : (s.car k).words.length < 8) :
    Answers (.keyPortWrite k v) s fun u =>
      u.car k = { s.car k with words := (s.car k).words ++ [v] } ∧ u.rd (.fcr k) FCR.CR_STATUS.KEY_WORDS = (s.car k).words.length + 1
      ∧ u.out = [] ∧ s.touch.Frame u [(.fcr k, 0x044)] [.cars] := by
  refine answers_write _ (exec_keyPortWrite s k v) (by decide) (by decide) hacc ?_
  have hcar : s.touch.silent.car k = s.car k := State.touch_car s k
  rw [State.effKeyPort_taken _ k v (by rwa [hcar]), hcar]
  refine ⟨?_, ?_, rfl, (State.Frame.silent.updCar (.head _)).wr (by decide) (.head _)⟩
  · rw [State.car_of_cars k (State.wr_cars _ _ _ _), State.car_updCar, hcar]
  · rw [State.rd_wr_same _ _ _ _ (by decide)]
    exact Nat.mod_eq_of_lt (show _ < 16 by omega)

theorem answers_keyPort_full (hacc : s.accepts (.fcr k) 0x048 = true) (h : 8 ≤ (s.car k).words.length) :
    Answers (.keyPortWrite k v) s fun u => u.out = [] ∧ s.touch.Frame u [] [] := by
  refine answers_write _ (exec_keyPortWrite s k v) (by decide) (by decide) hacc ?_
  rw [State.effKeyPort_full _ k v (by rwa [State.touch_car])]
  exact ⟨rfl, State.Frame.silent⟩

theorem answers_keySalt_refused (hacc : s.accepts (.fcr k) 0x04C = true) (h : s.loadRefused k = true) :
    Answers (.keySaltWrite k v) s fun u => u.bit (.fcr k) FCR.CR_STATUS.CFG_REJECT = true ∧ (u.word (.fcr k) 0x00C).getLsbD 15 = true
      ∧ u.cars = s.cars ∧ u.out = [] ∧ s.touch.Frame u [(.fcr k, 0x00C), (.fcr k, 0x044)] State.eventParts := by
  refine answers_write _ (exec_keySaltWrite s k v) (by decide) (by decide) hacc ?_
  rw [State.effKeySalt_eq, touch_loadRefused, if_pos h]
  refine ⟨?_, ?_, ?_, ?_, ?_⟩
  · rw [State.count_bit, State.fcr_bit_raise _ _ _ (by decide)]
    exact State.bit_wb_same _ _ _ _ (by decide) (by decide)
  · rw [State.count_word]
    exact State.raise_bit _ nofun (by decide)
  · rw [State.count_cars, State.raise_cars]
    exact (State.touch_frame s).same .cars (by decide)
  · rw [State.count_out, State.raise_out]
    rfl
  · exact ((State.Frame.silent.wb (by decide) (.tail _ (.head _))).raise (.head _) (by decide) (by decide) (by decide)).count (by decide)

theorem answers_keySalt (hacc : s.accepts (.fcr k) 0x04C = true) (h : s.loadRefused k = false) : Answers (.keySaltWrite k v) s fun u =>
    u.car k = { s.car k with
      slots := (s.car k).slots.set (s.selected k) (s.keyLoaded k v), words := []
      waitKey := if s.selected k < 2 ∧ (s.car k).txKey = none then some (s.selected k) else (s.car k).waitKey }
    ∧ u.rd (.fcr k) FCR.CR_STATUS.KEY_WORDS = 0 ∧ u.bit (.fcr k) FCR.CR_STATUS.CFG_REJECT = false ∧ u.out = []
    ∧ s.touch.Frame u [(.fcr k, 0x018), (.fcr k, 0x044)] [.cars, .damage] := by
  refine answers_write _ (exec_keySaltWrite s k v) (by decide) (by decide) hacc ?_
  rw [State.effKeySalt_eq, touch_loadRefused, h, if_neg Bool.false_ne_true]
  refine ⟨(State.keyTaken_car _ k v).trans ?_, State.keyTaken_keyWords _ k v, State.keyTaken_reject _ k v, State.keyTaken_out _ k v,
    State.Frame.silent.keyTaken (.head _) (.tail _ (.head _)) (.head _) (.tail _ (.head _))⟩
  rw [touch_selected, touch_keyLoaded, State.touch_car]

/-! ## Ages -/

theorem slotActive_iff : s.slotActive k (slotIndex rx slot) = true ↔
    if rx then s.rd (.fcr k) FCR.CR_STATUS.RX_ACTIVE = slot.toNat else (s.car k).txKey = some (slotIndex rx slot) := by
  cases rx with
  | true => cases slot <;> exact beq_iff_eq
  | false => cases slot <;> exact beq_iff_eq

theorem warnFld_slotIndex : State.warnFld (slotIndex rx slot) = if rx then FCR.CR_STATUS.RX_WARN else FCR.CR_STATUS.TX_WARN := by
  cases rx with
  | true => cases slot <;> rfl
  | false => cases slot <;> rfl

theorem two_le_slotIndex : decide (2 ≤ slotIndex rx slot) = rx := by
  cases rx with
  | true => cases slot <;> rfl
  | false => cases slot <;> rfl

theorem answers_keyAgeWarn (h : s.warnDue k (slotIndex rx slot) = true) : Answers (.keyAgeWarn k rx slot) s fun u =>
    u.bit (.fcr k) (State.warnFld (slotIndex rx slot)) = true ∧ (u.word (.fcr k) 0x00C).getLsbD 10 = true ∧ u.out = []
    ∧ s.Frame u [(.fcr k, 0x00C), (.fcr k, 0x044)] State.eventParts := by
  obtain ⟨hoff, hlo, hw⟩ := State.warnFld_shape (slotIndex rx slot)
  have hlt : (State.warnFld (slotIndex rx slot)).off < 0x1000 := by rw [hoff]; decide
  refine answers_done_if (exec_keyAgeWarn s k rx slot) h ⟨?_, State.raise_bit _ nofun (by decide), ?_, ?_⟩
  · rw [State.fcr_bit_raise _ _ _ ⟨hlt, by rw [hoff]; decide⟩]
    exact State.bit_wb_same _ _ _ _ hlo hw
  · rw [State.raise_out]
    rfl
  · exact (State.Frame.silent.wb hlt (by rw [hoff]; exact .tail _ (.head _))).raise (.head _) (by decide) (by decide) (by decide)

theorem answers_keyRetired (h : s.retireDue k (slotIndex rx slot) = true) : Answers (.keyRetired k rx slot) s fun u =>
    (u.car k).slots = (s.car k).slots.set (slotIndex rx slot)
      { KeySlot.empty with retired := rx, lastOk := (s.slot k (slotIndex rx slot)).lastOk }
    ∧ (u.car k).txKey = (if (s.car k).txKey = some (slotIndex rx slot) then none else (s.car k).txKey)
    ∧ (u.word (.fcr k) 0x00C).getLsbD 11 = true ∧ u.out = []
    ∧ s.Frame u [(.fcr k, 0x00C), (.fcr k, 0x044)] (.cars :: State.eventParts) := by
  have hcar : ((s.silent.keyEnded k (slotIndex rx slot)).raise (.fcr k) 11).car k = { State.slotCleared (s.car k) (slotIndex rx slot) with
      slots := (s.car k).slots.set (slotIndex rx slot)
        { KeySlot.empty with retired := rx, lastOk := (s.slot k (slotIndex rx slot)).lastOk } } := by
    rw [State.car_of_cars k (State.raise_cars _ _ _), State.keyEnded_car, two_le_slotIndex]
    rfl
  refine answers_done_if (exec_keyRetired s k rx slot) h ⟨by rw [hcar], by rw [hcar]; rfl, State.raise_bit _ nofun (by decide), ?_, ?_⟩
  · rw [State.raise_out, State.keyEnded_out]
    rfl
  · exact (State.Frame.silent.keyEnded (.tail _ (.head _)) (.head _) (by decide)).raise (.head _) (by decide) (by decide) (by decide)

end

/-- Settles O34: each end of the writes and of the looks at an age by its lemma. -/
theorem keys : Obligations.keys := by
  unfold Obligations.keys
  refine ⟨?_, ?_⟩
  · intro s k v p c w sel noSwitch refused rejects i recent noLoad
    have hswitch : s.noSwitch k = true ↔ noSwitch := s.noSwitch_iff k
    have hrefused : s.crRefused k v = true ↔ refused v := by rw [State.crRefused_iff, hswitch]; rfl
    have hload : s.loadRefused k = true ↔ noLoad := by rw [State.loadRefused_iff, State.verifiedLately_iff]; rfl
    refine ⟨fun hacc h => answers_cr_refused (exec_crSelect s k v) hacc (hrefused.2 h),
      fun hacc h => answers_crSelect hacc (Bool.eq_false_iff.2 (mt hrefused.1 h)),
      fun hacc h => ?_, fun hacc h => answers_keySwitch hacc (Bool.eq_false_iff.2 (mt hswitch.1 h)),
      fun hacc h => ?_, answers_keyZeroize, answers_keyPort, answers_keyPort_full,
      fun hacc h => answers_keySalt_refused hacc (hload.2 h),
      fun hacc h => answers_keySalt hacc (Bool.eq_false_iff.2 (mt hload.1 h))⟩
    · exact answers_cr_refused (exec_keySwitch s k) hacc ((State.crRefused_iff s k _).2 (.inr (.inl ⟨switch_switchWord, hswitch.2 h⟩)))
    · refine answers_cr_refused (exec_keyZeroize s k) hacc ((State.crRefused_iff s k _).2 (.inr (.inr ⟨zeroize_zeroizeWord, ?_⟩)))
      rw [crSel_zeroizeWord]
      exact h
  · intro s k rx slot p c i x active warn
    have hwarn : s.warnDue k i = true ↔ x.loaded = true ∧ 2 ^ 34 ≤ s.slotAge k i ∧ active ∧ s.bit p warn = false := by
      rw [State.warnDue_iff, show i = slotIndex rx slot from rfl, slotActive_iff, warnFld_slotIndex]
      rfl
    have hretire : s.retireDue k i = true ↔ x.loaded = true ∧ 2 ^ 36 ≤ s.slotAge k i := s.retireDue_iff k i
    refine ⟨fun hload hage hact hbit => ?_, fun h => ?_, fun hload hage => answers_keyRetired (hretire.2 ⟨hload, hage⟩), fun h => ?_⟩
    · have hanswers := answers_keyAgeWarn (hwarn.2 ⟨hload, hage, hact, hbit⟩)
      rwa [warnFld_slotIndex] at hanswers
    · refine answers_idle (exec_keyAgeWarn s k rx slot) (Bool.eq_false_iff.2 fun hdue => ?_)
      obtain ⟨hload, hage, hact, hbit⟩ := hwarn.1 hdue
      rcases h with h | h | h | h
      · exact Bool.false_ne_true (h.symm.trans hload)
      · exact not_lt.2 hage h
      · exact h hact
      · exact Bool.false_ne_true (hbit.symm.trans h)
    · refine answers_idle (exec_keyRetired s k rx slot) (Bool.eq_false_iff.2 fun hdue => ?_)
      obtain ⟨hload, hage⟩ := hretire.1 hdue
      rcases h with h | h
      · exact Bool.false_ne_true (h.symm.trans hload)
      · exact not_lt.2 hage h

end Sys2Proof.Machine
end

section
/-! PROOFS. Statements on queues and scheduling that the model contradicts: an engine that has initialised while its domain coasts (O2), tests of
DDR5's return buffer that a read of a context spends (O37, O39), entries that prove uncorrectable as a command reads them (O42, O43). Refutes O2,
O37, O39, O42 and O43. -/
namespace Sys2Proof.Machine

open Sys2Proof Reg

/-! ## An engine that has initialised while its domain coasts (R329, R501) -/

/-- HD0 reads STARTING with its time over, while D32, which clocks it, coasts. -/
def coastingStart : State :=
  { State.reset with
    start := { State.reset.start with starting := [((Page.hsc 0).base, 0)] }
    regs := [((Page.hsc 0).base + 0x008, 1), (Page.tim.base + (TIM.DOMn.COAST.nth 32).off, (TIM.DOMn.COAST.nth 32).put 0 1)] }

/-- What the nanosecond makes of it. -/
def coastingStarted : State := State.endStarts { coastingStart.tick with out := [] }

theorem coastingStart_due : coastingStart.tick.due = [.hsc 0] ∧ coastingStart.tick.mem.lock = none ∧ coastingStart.tick.dueFlows = []
    ∧ coastingStart.pst (.hsc 0) = 1 ∧ coastingStart.runState (.hsc 0) = 2
    ∧ coastingStart.bit (.hsc 0) HDR.PAGE_CTRL.HOLD = false ∧ coastingStart.bit (.hsc 0) HDR.PAGE_CTRL.DRAIN = false := by decide

/-- The engine reads FAULT. -/
theorem coastingStarted_pst : coastingStarted.pst (.hsc 0) = 4 := by decide

theorem step_coastingStart : step coastingStart = .next (State.settle coastingStart.tick coastingStarted) := rfl

/-- PAGE_STATE of a host die's section page follows no loss after a command. -/
theorem settle_hsc_pst (s0 v : State) (d : Fin 2) : (State.settle s0 v).pst (.hsc d) = v.pst (.hsc d) := by
  have hfixed : ∀ d : Fin 2, (Page.hsc d, 0x008) ∉ State.carriers.flatMap State.carrierRegs ++ State.sharedRegs := by decide
  have hother : ∀ d : Fin 2, Page.hsc d ∉ State.followers := by decide
  refine congrArg HDR.PAGE_STATE.STATE.get (State.settle_word s0 v (by decide) (by simp) fun hmem => ?_)
  refine (List.mem_append.1 hmem).elim (hfixed d) fun hrun => ?_
  obtain ⟨p, hp, heq⟩ := List.mem_map.1 hrun
  have hpage : p = .hsc d := congrArg Prod.fst heq
  exact hother d (hpage ▸ (List.mem_filter.1 hp).1)

/-- Refutes O2: an engine that has initialised while a domain that clocks it coasts reads FAULT, with no loss of its own. -/
theorem not_emptyQueueTicks : ¬ Obligations.emptyQueueTicks := by
  unfold Obligations.emptyQueueTicks
  intro h
  obtain ⟨hdue, hlock, hflows, hstarting, hrun, hhold, hdrain⟩ := coastingStart_due
  obtain ⟨-, -, -, -, hends, -⟩ := h coastingStart rfl
  obtain ⟨u, hstep, hpst, -⟩ := hends (by simp [hdue]) hlock hflows (by simp [hdue, hhold, hdrain])
  have hready : u.pst (.hsc 0) = 2 := by
    rw [hpst _ (by simp [hdue]), if_pos hstarting, hrun]
  have hsettle : State.settle coastingStart.tick u = State.settle coastingStart.tick coastingStarted :=
    Host.Outcome.next.inj (hstep.symm.trans step_coastingStart)
  have hclash : u.pst (.hsc 0) = coastingStarted.pst (.hsc 0) := by
    rw [← settle_hsc_pst coastingStart.tick u, hsettle, settle_hsc_pst]
  exact absurd (hready.symm.trans (hclash.trans coastingStarted_pst)) (by decide)

/-! ## An armed test of DDR5's return buffer, at an admission (R41, R228, R291) -/

/-- Port 0 is up and takes untagged frames for queue 0, which is disabled and whose context lies in DDR5; a test of the return buffer is
armed. -/
def armedAdmission : State :=
  { State.reset with
    start := { State.reset.start with diesUp := 0x20 }
    regs := [((Page.hsc 0).base + 0x004, 1), (Page.qsc.base + 0x004, 1), (Page.bsc.base + 0x004, 1),
      (Page.msc.base + 0x018, HDR.FLIP_MASK.ARM.put (HDR.FLIP_MASK.TARGET.put 0 1) 1),
      (Page.msc.base + 0x028, MSC.MEM_STATUS.DDR_SVC.put 0 1)]
    lanes := { State.reset.lanes with
      groups := [(0, { LaneGroup.reset with
        ports := [(0, { PortSt.reset with ctrl := HLG.PORT_CTRL.ENABLE.put 0 1, status := HLG.PORT_STATUS.LINK_UP.put 0 1 })] })] }
    tm := { State.reset.tm with tabs := [(0x3000000, 0)] } }

/-- A frame of 64 zero bytes but for its check. -/
def plainFrame : List Byte := List.replicate 60 0 ++ ethFcs (List.replicate 60 0)

/-- What the frame makes of it. -/
def armedAdmissionDone : State := armedAdmission.silent.hostFrame 0 plainFrame

set_option maxRecDepth 40000 in
/-- The read of the context goes through the buffer, which spends the test. -/
theorem armedAdmissionDone_flip : armedAdmissionDone.word .msc 0x018 ≠ armedAdmission.word .msc 0x018 := by decide

theorem exec_armedAdmission : exec (.hostFrameReceived 0 plainFrame) armedAdmission = .next (State.settle armedAdmission armedAdmissionDone) := rfl

/-- The port's lanes are in no loopback. -/
theorem armedAdmission_port : armedAdmission.portLive 0 = true
    ∧ (∀ ln ∈ armedAdmission.portLanes 0 0, HLG.LANE_TEST.LOOPBACK.get (armedAdmission.laneSt 0 ln).test = 0)
    ∧ armedAdmission.bit (.hlg 0 0) HDR.FLIP_MASK.ARM = false ∧ armedAdmission.isSteer 0 0 plainFrame = false
    ∧ State.ebits (armedAdmission.entry 0 3 (0 : Fin 64).val) 0 20 1 ≠ 1 := by decide

/-- A frame closed with its check passes it. -/
theorem fcsOk_append (b : List Byte) : fcsOk (b ++ ethFcs b) = true := by
  have hfour : (b ++ ethFcs b).length - 4 = b.length := by simp [ethFcs]
  rw [fcsOk, hfour, List.take_left, List.drop_left, beq_self_eq_true]

theorem plainFrame_ok : fcsOk plainFrame = true := fcsOk_append (List.replicate 60 0)

theorem plainFrame_plain : plainFrame.length = 64 ∧ State.pauseOp plainFrame = none
    ∧ beAt plainFrame 12 2 ≠ armedAdmission.rd .qsc QSC.TAG_CFG.ETYPE := by decide

/-- No test of the memories that the statement names is armed. -/
theorem armedAdmission_sound : armedAdmission.bit .bsc HDR.FLIP_MASK.ARM = false ∧ armedAdmission.bit .qsc HDR.FLIP_MASK.ARM = false := by
  decide

/-- The queue's context comes from DDR5, where it is sound. -/
theorem armedAdmission_cold : armedAdmission.tm.cache.length < armedAdmission.cacheRoom
    ∧ armedAdmission.ctxLost (State.ebits (armedAdmission.entry 0 3 (0 : Fin 64).val) 0 0 20) = false
    ∧ ∀ c : Fin 17, (armedAdmission.chan c).stored = [] ∧ armedAdmission.bit (.mch c) HDR.FLIP_MASK.ARM = false := by decide

/-- The queue is disabled. -/
theorem armedAdmission_refused : armedAdmission.refusal (State.ebits (armedAdmission.entry 0 3 (0 : Fin 64).val) 0 0 20)
    (State.ebits (armedAdmission.entry 0 3 (0 : Fin 64).val) 0 22 2) (ceilDiv 64 256) ≠ 0 := by decide

/-- Refutes O37: a frame whose queue's context is read in DDR5 goes through the buffers of MSC, and an armed test of FLIP_MASK is spent by
that. -/
theorem not_hostFrames : ¬ Obligations.hostFrames := by
  unfold Obligations.hostFrames
  intro h
  obtain ⟨-, -, -, -, -, -, -, -, -, hdrop, -⟩ := h armedAdmission 0 plainFrame
  obtain ⟨hlive, hopen, htest, hsteer, htag⟩ := armedAdmission_port
  obtain ⟨hlength, hpause, hother⟩ := plainFrame_plain
  obtain ⟨hbsc, hqsc⟩ := armedAdmission_sound
  simp only [if_neg hother] at hdrop
  obtain ⟨u, hsettle, -, -, -, -, -, -, -, hframe⟩ :=
    (hdrop ⟨⟨⟨hlive, hopen⟩, by omega, by omega, plainFrame_ok, htest⟩, hpause, hsteer⟩ rfl rfl rfl
      ⟨rfl, rfl, rfl, rfl, hbsc, hqsc, rfl, .inr armedAdmission_cold⟩ (.inr ⟨hother, .inl htag⟩) (by rw [hlength]; decide)
      (.inr rfl) (by rw [hlength]; exact armedAdmission_refused)).settle_eq exec_armedAdmission
  have hkept : u.word .msc 0x018 = armedAdmission.word .msc 0x018 :=
    hframe.reg .msc 0x018 (by decide) (.inl (by decide)) (by decide)
  have hspent := State.word_eq_of_settle_eq hsettle (q := .msc) (i := 0x018) (by decide) (by decide) (by decide) (by decide)
  exact armedAdmissionDone_flip (hspent.symm.trans hkept)

/-! ## An armed test of DDR5's return buffer, at a frame decision (R41, R228, R291) -/

/-- Queue 0 of group 0 holds a frame and its context lies in DDR5; conduit 0 has capacity; a test of the return buffer is armed. -/
def armedReturn : State :=
  { State.reset with
    regs := [(Page.sch.base + 0x004, 1), (Page.sch.base + 0x008, 2), (Page.qsc.base + 0x004, 1), (Page.bsc.base + 0x004, 1),
      (Page.msc.base + 0x018, HDR.FLIP_MASK.ARM.put (HDR.FLIP_MASK.TARGET.put 0 1) 1),
      (Page.msc.base + 0x028, MSC.MEM_STATUS.DDR_SVC.put 0 1)]
    cars := [(0, { Carrier.reset with cap := 1000 })]
    tm := { State.reset.tm with
      tabs := [(0x10000000, State.words4 0x40 0 0 (16384 + 64 * 0x40000))]
      qs := [(0, { QState.reset with frames := [{ bytes := [], lenAdj := 0, bad := 0, steep := 0 }] })] } }

/-- What a frame decision makes of it. -/
def armedReturnServed : State := armedReturn.silent.decision 0

set_option maxRecDepth 20000 in
/-- The read of the context goes through the buffer, which spends the test. -/
theorem armedReturnServed_flip : armedReturnServed.word .msc 0x018 ≠ armedReturn.word .msc 0x018 := by decide

theorem armedReturn_works : armedReturn.enabled .sch = true ∧ armedReturn.pst .sch ≠ 0 ∧ armedReturn.pst .sch ≠ 4
   ∧ armedReturn.enabled .qsc = true ∧ armedReturn.enabled .bsc = true := by decide

theorem exec_armedReturn : exec (.scheduleDecision 0) armedReturn = .next (State.settle armedReturn armedReturnServed) := rfl

/-- Refutes O39: a decision that reads a context in DDR5 goes through the buffers of MSC, and an armed test of FLIP_MASK is spent by that. -/
theorem not_frameDecision : ¬ Obligations.frameDecision := by
  unfold Obligations.frameDecision
  intro h
  obtain ⟨-, hworks, -⟩ := h armedReturn 0
  obtain ⟨u, hsettle, hframe⟩ := (hworks armedReturn_works).settle_eq exec_armedReturn
  have hkept : u.word .msc 0x018 = armedReturn.word .msc 0x018 :=
    hframe.reg .msc 0x018 (by decide) (.inl (by decide)) (by decide)
  have hspent := State.word_eq_of_settle_eq hsettle (q := .msc) (i := 0x018) (by decide) (by decide) (by decide) (by decide)
  exact armedReturnServed_flip (hspent.symm.trans hkept)

/-! ## A READ of an entry that proves uncorrectable (R232, R270) -/

/-- A READ of the flow control entry of conduit 0 is under way, and the entry holds an uncorrectable error. -/
def spoiltRead : State :=
  { State.reset with
    tm := { State.reset.tm with fct := { busy := some { op := 0, table := 0, index := 0, data := 0 }, cap := none } }
    damage := [(State.damageKey .fct 0 0, 2)] }

/-- What the end of the command makes of it. -/
def spoiltReadDone : State := spoiltRead.silent.indDone 2

/-- The entry reads 0 with RESULT 7. -/
theorem spoiltReadDone_result : getBits (spoiltReadDone.word .fct 0x034) 12 4 = 7 := by decide

theorem exec_spoiltRead : exec (.indCommandDone .fct) spoiltRead = .next (State.settle spoiltRead spoiltReadDone) := rfl

/-- Refutes O42: a READ whose entry proves uncorrectable ends with RESULT 7, also where the entry holds no statistics. -/
theorem not_indirectCommands : ¬ Obligations.indirectCommands := by
  unfold Obligations.indirectCommands
  intro h
  obtain ⟨-, -, -, -, -, -, -, hread, -⟩ := h spoiltRead .fct
  obtain ⟨u, hsettle, ⟨-, hresult, -⟩, -⟩ :=
    (hread _ 64 [0, 1] rfl rfl (by decide) (by decide) rfl (by decide)).settle_eq exec_spoiltRead
  have hword := State.word_eq_of_settle_eq hsettle (q := .fct) (i := 0x034) (by decide) (by decide) (by decide) (by decide)
  exact absurd (hresult.symm.trans ((congrArg (getBits · 12 4) hword).trans spoiltReadDone_result)) (by decide)

/-! ## A WRITE that merges into an entry with an uncorrectable error (R229, R238, R278) -/

/-- A WRITE of the entry of host port 0 is under way, and the entry holds an uncorrectable error. -/
def spoiltWrite : State :=
  { State.reset with
    tm := { State.reset.tm with qsc := { busy := some { op := 1, table := 3, index := 0, data := 0 }, cap := none } }
    damage := [(State.damageKey .qsc 1 0, 2)] }

/-- What the end of the command makes of it. -/
def spoiltWriteDone : State := spoiltWrite.silent.indDone 0

/-- The read of the merge finds the error: it raises EVENT bit 5 of QSC. -/
theorem spoiltWriteDone_event : spoiltWriteDone.word .qsc 0x00C ≠ spoiltWrite.word .qsc 0x00C := by decide

theorem exec_spoiltWrite : exec (.indCommandDone .qsc) spoiltWrite = .next (State.settle spoiltWrite spoiltWriteDone) := rfl

/-- Refutes O43: the merge of a host port's entry reads the word first, and an error found there is an event of QSC. -/
theorem not_tableWrites : ¬ Obligations.tableWrites := by
  unfold Obligations.tableWrites
  intro h
  obtain ⟨-, ⟨-, hport⟩, -⟩ := h spoiltWrite .qsc { op := 1, table := 3, index := 0, data := 0 } 0 false
  obtain ⟨u, hsettle, -, -, -, hframe⟩ := (hport ⟨⟨⟨rfl, rfl, by decide⟩, rfl, rfl⟩, by decide⟩).settle_eq exec_spoiltWrite
  have hkept : u.word .qsc 0x00C = spoiltWrite.word .qsc 0x00C := hframe.reg .qsc 0x00C (by decide) (.inl (by decide)) (by decide)
  have hraised := State.word_eq_of_settle_eq hsettle (q := .qsc) (i := 0x00C) (by decide) (by decide) (by decide) (by decide)
  exact spoiltWriteDone_event (hraised.symm.trans hkept)

end Sys2Proof.Machine
end

section
/-! PROOFS. Reassembly of received cells: what taking a cell may change, what a lossless step leaves of a conduit, and the cells that go to
their host ports, wait, come late or are given up (R219, R221, R223-R227, R238, R261, R264). Settles O41. -/
namespace Sys2Proof.Machine.State

open Sys2Proof Reg

/-! ## What taking a cell may change -/

/-- The registers that the reassembly of received cells may write: page states, events, armed tests, error counts, SCH_LAST and DROP_LAST. -/
def cellRegs : List (Page × Nat) :=
  [(.sch, 0x008), (.sch, 0x00C), (.sch, 0x018), (.sch, 0x01C), (.sch, 0x04C), (.bsc, 0x008), (.bsc, 0x00C), (.bsc, 0x018), (.bsc, 0x01C),
   (.bsc, 0x03C), (.fct, 0x008), (.fct, 0x00C), (.fct, 0x01C), (.qsc, 0x008), (.stp, 0x00C)]

/-- The parts of the state that it may change. -/
def cellParts : List StatePart := .tm :: .cad :: eventParts

/-- A state that follows another by taking cells: beside those registers and parts only the receive conduits and the delivery queues have
changed, nothing is sent, and no event of SCH is cleared. -/
structure Receipt (s u : State) : Prop where
  frame : s.Frame u cellRegs cellParts
  out : u.out = s.out
  events : ∀ b, (s.word .sch 0x00C).getLsbD b = true → (u.word .sch 0x00C).getLsbD b = true
  tm : u.tm = { s.tm with rx := u.tm.rx, dq := u.tm.dq }

section
variable {s u v : State} {p : Page} {f : Fld} {t i n c : Nat} {b : Bool}

theorem rowUse_out (p : Page) (t i : Nat) (b : Bool) : (s.rowUse p t i b).out = s.out := by
  unfold rowUse
  extract_lets key now near
  split
  · rfl
  · split <;> rfl

theorem rowUse_tm (p : Page) (t i : Nat) (b : Bool) : (s.rowUse p t i b).tm = s.tm := by
  unfold rowUse
  extract_lets key now near
  split
  · rfl
  · split <;> rfl

theorem Receipt.refl : Receipt s s := ⟨Frame.refl, rfl, fun _ h => h, rfl⟩

theorem Receipt.trans (h : Receipt s u) (g : Receipt u v) : Receipt s v :=
  ⟨h.frame.trans g.frame, g.out.trans h.out, fun b hb => g.events b (h.events b hb),
    g.tm.trans (congrArg (fun m : Tm => { m with rx := v.tm.rx, dq := v.tm.dq }) h.tm)⟩

/-- A step that leaves the traffic manager and the events of SCH. -/
theorem Receipt.step (h : Receipt s u) (hframe : s.Frame v cellRegs cellParts) (hout : v.out = u.out)
    (hword : v.word .sch 0x00C = u.word .sch 0x00C) (htm : v.tm = u.tm) : Receipt s v :=
  ⟨hframe, hout.trans h.out, fun b hb => hword ▸ h.events b hb, htm ▸ h.tm⟩

theorem Receipt.ite {cond : Prop} [Decidable cond] (h : cond → Receipt s u) (g : ¬cond → Receipt s v) :
    Receipt s (if cond then u else v) := by
  split
  · exact h ‹_›
  · exact g ‹_›

theorem Receipt.count (h : Receipt s u) : Receipt s (u.count p i n) := h.step (h.frame.count (by decide)) rfl rfl rfl
theorem Receipt.countS (h : Receipt s u) : Receipt s (u.countS p i n) := h.step (h.frame.countS (by decide)) rfl rfl rfl
theorem Receipt.countRx (h : Receipt s u) : Receipt s (u.countRx c i n) := h.step (h.frame.countRx (by decide)) rfl rfl rfl

theorem Receipt.with_damage {m : SMap Nat} (h : Receipt s u) : Receipt s { u with damage := m } :=
  h.step (h.frame.with_damage (by decide)) rfl rfl rfl

theorem Receipt.wr (h : Receipt s u) (hm : (p, f.off) ∈ cellRegs) (hf : f.off < 0x1000 ∧ f.off ≠ 0x00C) : Receipt s (u.wr p f n) :=
  h.step (h.frame.wr hf.1 hm) (wr_out u p f n) (word_wr_ne u p .sch f 0x00C n hf.1 (by decide) (.inr hf.2.symm)) (wr_tm u p f n)

theorem Receipt.raise (h : Receipt s u) (hm : (p, 0x00C) ∈ cellRegs) : Receipt s (u.raise p n) :=
  ⟨h.frame.raise hm (by decide) (by decide) (by decide), (raise_out u p n).trans h.out, fun b hb => raise_keeps u nofun (h.events b hb),
    (raise_tm u p n).symm ▸ h.tm⟩

theorem Receipt.raiseIf (h : Receipt s u) (hm : (p, 0x00C) ∈ cellRegs) : Receipt s (u.raiseIf b p n) :=
  Receipt.ite (fun _ => h.raise hm) fun _ => h

theorem Receipt.rowUse (h : Receipt s u) : Receipt s (u.rowUse p t i b) :=
  h.step (h.frame.rowUse (by decide)) (rowUse_out p t i b) (rowUse_word u p .sch t i 0x00C b) (rowUse_tm p t i b)

theorem Receipt.ce (h : Receipt s u) (hm : (p, 0x01C) ∈ cellRegs) : Receipt s (u.ce p t) :=
  Receipt.wr (f := HDR.ECC_LOG.LAST_MEM) (Receipt.wr (f := HDR.ECC_LOG.CE_COUNT) h hm (by decide)) hm (by decide)

theorem Receipt.ue (h : Receipt s u) (hm : (p, 0x01C) ∈ cellRegs) : Receipt s (u.ue p t) :=
  Receipt.wr (f := HDR.ECC_LOG.LAST_MEM) (Receipt.wr (f := HDR.ECC_LOG.UE_COUNT) h hm (by decide)) hm (by decide)

theorem Receipt.useProt (h : Receipt s u) (hm : (p, 0x01C) ∈ cellRegs) : Receipt s (u.useProt p t i).2 := by
  unfold State.useProt
  dsimp only
  split
  · exact h
  · exact (h.ce hm).rowUse.with_damage
  · exact (h.ue hm).rowUse.with_damage
  · exact h

theorem Receipt.useOnce {ev : Nat} {ctr : Option Nat} (h : Receipt s u) (hecc : (p, 0x01C) ∈ cellRegs) (hevent : (p, 0x00C) ∈ cellRegs) :
    Receipt s (u.useOnce p t i ev ctr).2 := by
  unfold State.useOnce
  dsimp only
  split
  · split
    · exact ((h.useProt hecc).raise hevent).count
    · exact (h.useProt hecc).raise hevent
  · exact h.useProt hecc

theorem Receipt.useSch (h : Receipt s u) : Receipt s (u.useSch t i).2 := h.useOnce (by decide) (by decide)
theorem Receipt.useFct (h : Receipt s u) : Receipt s (u.useFct t i) := h.useOnce (by decide) (by decide)

theorem Receipt.armed (h : Receipt s u) (hm : (p, 0x018) ∈ cellRegs) : Receipt s (u.armed p t).2 :=
  h.step (h.frame.armed hm) (armed_out u p t) (armed_word u p .sch t 0x00C (by decide) (.inr (by decide))) (armed_tm u p t)

theorem Receipt.protect (h : Receipt s u) (hm : (p, 0x018) ∈ cellRegs) : Receipt s (u.protect p t i) := (h.armed hm).with_damage

theorem Receipt.setRxCon {r : RxCon} (h : Receipt s u) : Receipt s (u.setRxCon c r) :=
  ⟨h.frame.updTm (by decide), h.out, h.events, congrArg (fun m : Tm => { m with rx := u.tm.rx.set (fun _ => RxCon.reset) c r }) h.tm⟩

theorem Receipt.setDelivery {l : List QFrame} (h : Receipt s u) : Receipt s (u.setDelivery t i l) :=
  ⟨h.frame.updTm (by decide), h.out, h.events, congrArg (fun m : Tm => { m with dq := u.tm.dq.set (fun _ => []) (t * 8 + i) l }) h.tm⟩

/-! ## Drops, losses and deliveries -/

variable {reason port prio : Nat}

theorem Receipt.dropLast (h : Receipt s u) : Receipt s (((u.wr .bsc BSC.DROP_LAST.WHERE t).wr .bsc BSC.DROP_LAST.REASON n).raise .bsc 2) :=
  ((h.wr (by decide) (by decide)).wr (by decide) (by decide)).raise (by decide)

theorem Receipt.drop (h : Receipt s u) : Receipt s (u.drop reason t n) := h.count.countS.dropLast
theorem Receipt.dropOff (h : Receipt s u) : Receipt s (u.dropOff t n) := h.countS.dropLast
theorem Receipt.dropIn (h : Receipt s u) : Receipt s (u.dropIn reason t n) := h.drop.raise (by decide)
theorem Receipt.mapDrop (h : Receipt s u) : Receipt s u.mapDrop := h.count.raise (by decide)

theorem Receipt.schLast (h : Receipt s u) : Receipt s (u.schLast t c n) :=
  ((h.wr (by decide) (by decide)).wr (by decide) (by decide)).wr (by decide) (by decide)

theorem Receipt.enqueueIn {l : List Byte} (h : Receipt s u) : Receipt s (u.enqueueIn port prio l) :=
  Receipt.ite (fun _ => h.useFct.dropIn) fun _ => Receipt.ite (fun _ => h.useFct.dropIn) fun _ => h.useFct.setDelivery

theorem Receipt.dropPart (h : Receipt s u) : Receipt s (u.dropPart c) := by
  unfold State.dropPart
  dsimp only
  split
  · exact h
  · exact h.setRxCon.countRx

theorem Receipt.lose (h : Receipt s u) : Receipt s (u.lose c reason) := by
  unfold State.lose
  dsimp only
  split
  · exact h
  · refine Receipt.raise ?_ (by decide)
    have hpassed : Receipt s (if (reason ≠ 0 && (u.rxCon c).part.isSome) = true then
        u.dropIn reason (64 * c + u.partPort c) (partBytes (u.rxCon c)) else u) := Receipt.ite (fun _ => h.dropIn) fun _ => h
    split
    · exact hpassed.dropPart.setRxCon.countRx.schLast.countS
    · exact hpassed.dropPart.setRxCon.countRx.schLast

theorem Receipt.foldl {α : Type} {g : State → α → State} (xs : List α) (h : Receipt s u) (hg : ∀ v x, Receipt s v → Receipt s (g v x)) :
    Receipt s (xs.foldl g u) := List.foldlRecOn xs g h fun v hv x _ => hg v x hv

theorem Receipt.deliver {label : Nat} {l : List RxCell} (h : Receipt s u) : Receipt s (u.deliver c label l) := by
  unfold State.deliver
  dsimp only
  have hread := Receipt.foldl (g := fun (s : State) (x : RxCell) => if x.bad = 1 then s.ce .bsc 1 else if x.bad = 2 then
    (s.ue .bsc 1).rowUse .bsc 1 c true else s) l (h.useSch (t := 3) (i := 256 * c + label)) fun v x hv =>
      Receipt.ite (fun _ => hv.ce (by decide)) fun _ => Receipt.ite (fun _ => (hv.ue (by decide)).rowUse) fun _ => hv
  exact Receipt.ite (fun _ => ((hread.raise (by decide)).dropIn.raise (by decide)).countRx) fun _ =>
    Receipt.ite (fun _ => hread.dropOff) fun _ => Receipt.ite (fun _ => hread.mapDrop) fun _ => hread.countRx.countRx.enqueueIn

/-! ## Cells in and out of the reorder store -/

theorem Receipt.takeCell {x : RxCell} (h : Receipt s u) : Receipt s (u.takeCell c x) := by
  unfold State.takeCell
  extract_lets r s1 isOpen s2 s3 cells s4
  have h1 : Receipt s s1 := h.setRxCon
  refine Receipt.ite (fun _ => (Receipt.ite (fun _ => h1.dropIn) fun _ => h1).dropPart) fun _ => Receipt.ite (fun _ => ?_) fun _ => ?_
  · have h3 : Receipt s s3 := Receipt.ite (fun _ => h1.dropPart) fun _ => h1
    exact Receipt.ite (fun _ => h3.setRxCon.deliver) fun _ => h3.setRxCon
  · split
    · exact Receipt.ite (fun _ => h1.setRxCon.deliver) fun _ => h1.setRxCon
    · exact Receipt.ite (fun _ => h1.dropPart.setRxCon) fun _ => h1.dropPart
    · exact Receipt.ite (fun _ => h1.setRxCon) fun _ => h1

theorem Receipt.advance (h : Receipt s u) : Receipt s (u.advance c n) := by
  induction n generalizing u with
  | zero => exact h
  | succ n ih =>
    unfold State.advance
    dsimp only
    split
    · exact h
    · split
      · exact ih h.setRxCon.takeCell
      · exact Receipt.ite (fun _ => ih h.lose) fun _ => h

theorem Receipt.flow (h : Receipt s u) : Receipt s (u.flow c) := h.advance

theorem Receipt.trim (h : Receipt s u) : Receipt s (u.trim c n) := by
  induction n generalizing u with
  | zero => exact h
  | succ n ih => exact Receipt.ite (fun _ => ih h.lose.flow) fun _ => h

theorem Receipt.collect (h : Receipt s u) : Receipt s (u.collect c) := by
  unfold State.collect
  dsimp only
  split
  · exact h.dropPart.setRxCon
  · exact h.setRxCon

theorem Receipt.mark {k : Fin 16} (h : Receipt s u) : Receipt s (u.mark c k n) := h.setRxCon

theorem Receipt.measure {k : Fin 16} (h : Receipt s u) : Receipt s (u.measure c k n) := (h.raiseIf (by decide)).setRxCon

theorem Receipt.store {cell : LineCell} (h : Receipt s u) : Receipt s (u.store c cell) :=
  Receipt.ite (fun _ => h.count.countRx.schLast.raise (by decide)) fun _ =>
    Receipt.ite (fun _ => h.armed (by decide)) fun _ => (h.armed (by decide)).setRxCon

theorem Receipt.useReasm (h : Receipt s u) : Receipt s (u.useReasm c) := by
  have hused := h.useOnce (t := 4) (i := c) (ev := 6) (ctr := some 7) (p := .sch) (by decide) (by decide)
  exact Receipt.ite (fun _ => (Receipt.ite (fun _ => hused.with_damage) fun _ => hused).collect) fun _ =>
    Receipt.ite (fun _ => hused.with_damage) fun _ => hused

theorem Receipt.memberCell {k : Fin 16} {cell : LineCell} (h : Receipt s u) : Receipt s (u.memberCell c k cell) := by
  unfold State.memberCell
  extract_lets s1 s2 s3 s4 s5 s6 s7
  have h2 : Receipt s s2 := Receipt.ite (fun _ => h.useReasm.countS) fun _ => h.useReasm
  have h4 : Receipt s s4 := h2.useFct.mark.measure
  have h5 : Receipt s s5 := Receipt.ite (fun _ => h4.store) fun _ => h4
  exact h5.flow.trim.protect (by decide)

theorem Receipt.cellIn {k : Fin 16} {cell : LineCell} (h : Receipt s u) : Receipt s (u.cellIn k cell) := by
  unfold State.cellIn
  extract_lets con s1 con2
  have h1 : Receipt s s1 := by
    clear_value con
    cases con with
    | some c => exact h.useSch
    | none => exact h
  clear_value s1 con2
  refine Receipt.ite (fun _ => h) fun _ => Receipt.ite (fun _ => h1.count.schLast) fun _ => Receipt.ite (fun _ => h1.count) fun _ => ?_
  cases con2 with
  | some c => exact h1.memberCell
  | none => exact Receipt.ite (fun _ => h1.count.raise (by decide)) fun _ => h1

end

end Sys2Proof.Machine.State
end

section
/-! PROOFS. What a conduit, its port map and its ports read once cells are taken, and protected words that stay sound (R223, R227, R238,
R259, R270). -/
namespace Sys2Proof

/-! ## Sums over the listed pairs -/

section
variable {α : Type} (f : α → Nat)

/-- What the listed pairs amount to. -/
def SMap.total (m : SMap α) : Nat := m.foldl (fun a e => a + f e.2) 0

theorem SMap.foldl_amount (m : SMap α) (n : Nat) : List.foldl (fun a e => a + f e.2) n m = n + SMap.total f m := by
  induction m generalizing n with
  | nil => rfl
  | cons e r ih =>
    unfold total
    rw [List.foldl_cons, List.foldl_cons, ih, ih]
    omega

theorem SMap.total_cons (e : Nat × α) (r : SMap α) : SMap.total f (e :: r) = f e.2 + SMap.total f r := by
  unfold total
  rw [List.foldl_cons, foldl_amount, Nat.zero_add]
  rfl

theorem SMap.total_insert (m : SMap α) (k : Nat) (v : α) : SMap.total f (SMap.insert m k v) = f v + SMap.total f m := by
  induction m with
  | nil => exact total_cons f (k, v) []
  | cons e r ih =>
    unfold insert
    split
    · exact total_cons f (k, v) _
    · rw [total_cons, total_cons, ih]
      exact Nat.add_left_comm _ _ _

theorem SMap.total_erase_le (m : SMap α) (d : Nat → α) (k : Nat) (hd : f (d k) = 0) :
    f (SMap.get m d k) + SMap.total f (SMap.erase m k) ≤ SMap.total f m := by
  induction m with
  | nil => exact (Nat.add_comm _ _).trans_le (le_of_eq (congrArg (SMap.total f [] + ·) hd))
  | cons e r ih =>
    obtain ⟨a, v⟩ := e
    unfold get erase
    rw [total_cons]
    split
    · dsimp only; omega
    · rw [total_cons]; dsimp only; omega

/-- A pair replaced by one that amounts to no more raises no total. -/
theorem SMap.total_set_le [DecidableEq α] (m : SMap α) (d : Nat → α) (k : Nat) (v : α) (hd : f (d k) = 0) (hv : f v ≤ f (SMap.get m d k)) :
    SMap.total f (SMap.set m d k v) ≤ SMap.total f m := by
  have herase := total_erase_le f m d k hd
  unfold set
  split
  · omega
  · rw [total_insert]; omega

end

end Sys2Proof

namespace Sys2Proof.Machine.State

open Sys2Proof Reg

/-! ## What a receipt leaves -/

section
variable {s u : State} (h : Receipt s u)
include h

theorem Receipt.word {p : Page} {i : Nat} (hp : p ≠ .log) (hi : i < 0x1000 ∧ (p, i) ∉ cellRegs) : u.word p i = s.word p i :=
  h.frame.reg p i hi.1 (.inl hp) hi.2

theorem Receipt.bit {p : Page} {f : Fld} (hp : p ≠ .log) (hi : f.off < 0x1000 ∧ (p, f.off) ∉ cellRegs) : u.bit p f = s.bit p f :=
  bit_of_word (h.word hp hi)

theorem Receipt.enabled {p : Page} (hp : p ≠ .log) : u.enabled p = s.enabled p := h.bit hp ⟨by decide, by simp [cellRegs, HDR.PAGE_CTRL.ENABLE]⟩

theorem Receipt.time : u.time = s.time := h.frame.same .time (by decide)
theorem Receipt.cars : u.cars = s.cars := h.frame.same .cars (by decide)
theorem Receipt.start : u.start = s.start := h.frame.same .start (by decide)
theorem Receipt.lanes : u.lanes = s.lanes := h.frame.same .lanes (by decide)

theorem Receipt.entry (page table i : Nat) : u.entry page table i = s.entry page table i := by unfold State.entry; rw [h.tm]
theorem Receipt.wdogBits (port : Nat) : u.wdogBits port = s.wdogBits port := by unfold State.wdogBits; rw [h.tm]
theorem Receipt.inSize : u.inSize = s.inSize := by unfold State.inSize; rw [h.tm]

theorem Receipt.rxMembers (c : Nat) : u.rxMembers c = s.rxMembers c := by unfold State.rxMembers; rw [h.entry]
theorem Receipt.portOfLabel (c label : Nat) : u.portOfLabel c label = s.portOfLabel c label := by unfold State.portOfLabel; rw [h.entry]
theorem Receipt.window (c : Nat) : u.window c = s.window c := by unfold State.window; rw [h.entry]

/-- No register of a carrier's engines and of a host die is written. -/
theorem Receipt.engineBit {p : Page} {f : Fld} (hp : p ≠ .log) (hi : f.off < 0x1000 ∧ p ∉ cellRegs.map (·.1)) : u.bit p f = s.bit p f :=
  h.bit hp ⟨hi.1, fun hm => hi.2 (List.mem_map_of_mem (f := (·.1)) hm)⟩

theorem Receipt.defects (k : Fin 16) : u.defects k = s.defects k := by
  have hbit (f : Fld) (hf : f.off < 0x1000) : u.bit (.fcr k) f = s.bit (.fcr k) f := h.engineBit nofun ⟨hf, by simp [cellRegs]⟩
  have hzr : u.zr k = s.zr k := h.engineBit nofun ⟨by decide, by simp [cellRegs]⟩
  unfold State.defects
  rw [car_of_cars k h.cars, hbit _ (by decide), hbit _ (by decide), hbit _ (by decide), hzr]

theorem Receipt.contributes (k : Fin 16) : u.contributes k = s.contributes k := by
  unfold State.contributes
  rw [h.enabled (p := .rxe k) nofun, h.enabled (p := .lfe k) nofun, h.enabled (p := .fcr k) nofun, h.defects]

theorem Receipt.contributors (c : Nat) : u.contributors c = s.contributors c := by
  unfold State.contributors
  rw [h.rxMembers, funext h.contributes]

theorem Receipt.portLive (port : Nat) : u.portLive port = s.portLive port := by
  have hmode (d : Fin 2) : u.portsPerGroup d = s.portsPerGroup d := by
    have hbit : u.bit (.hsc d) HSC.HOST_CTRL.PORT_MODE = s.bit (.hsc d) HSC.HOST_CTRL.PORT_MODE :=
      h.engineBit nofun ⟨by decide, by simp [cellRegs]⟩
    unfold State.portsPerGroup
    rw [hbit]
  have hport (d : Fin 2) (p : Nat) : u.portSt d p = s.portSt d p := by
    unfold State.portSt State.hgrp State.portGroup
    rw [hmode, h.lanes]
  unfold State.portLive State.hostDieOn State.dieUp State.portEnabled State.portUp
  dsimp only
  rw [h.enabled (p := .hsc (Fin.ofNat 2 (port / 32))) nofun, h.start, hmode, hport]

end

/-! ## Words that stay sound -/

/-- Every protected word beside those of the log is sound. -/
def Undamaged (s : State) : Prop := ∀ p t i, p = .sch ∨ p = .fct → t < 16 → i < 2 ^ 32 → s.damage.get (fun _ => 0) (damageKey p t i) = 0

section
variable {s : State}

theorem undamaged_of_nil (h : s.damage = []) : s.Undamaged := by
  intro p t i _ _ _
  rw [h]
  rfl

/-- The key of a log entry is that of no word of SCH or FCT. -/
theorem damageKey_ne_log {p : Page} {t i j : Nat} (hp : p = .sch ∨ p = .fct) (hi : i < 2 ^ 32) (hj : j < 2 ^ 32) :
    damageKey p t i ≠ damageKey .log 0 j := by
  obtain rfl | rfl := hp <;> simp only [damageKey, Page.base, Page.sec, Page.index] <;> omega

theorem protect_damage (p : Page) (t i : Nat) :
    (s.protect p t i).damage = s.damage.set (fun _ => 0) (damageKey p t i) (s.armed p t).1 :=
  congrArg (SMap.set · (fun _ => 0) (damageKey p t i) (s.armed p t).1) (armed_damage s p t)

theorem Undamaged.logStore (h : s.Undamaged) (kind sec pg code arg : Nat) : (s.logStore kind sec pg code arg).2.Undamaged := by
  intro p t i hp ht hi
  have hkey (ring : SMap (BitVec 128)) (j : Nat) :
      SMap.get (({ s with logRing := ring } : State).protect .log 0 (j % 4096)).damage (fun _ => 0) (damageKey p t i) = 0 := by
    rw [protect_damage, SMap.get_set_ne _ _ _ _ _ (damageKey_ne_log hp hi ((Nat.mod_lt j (by decide)).trans (by decide)))]
    exact h p t i hp ht hi
  unfold State.logStore State.sat
  dsimp only
  split <;> simp only [count_damage, wr_damage] <;> exact hkey _ _

theorem Undamaged.log (h : s.Undamaged) (kind sec pg code arg : Nat) : (s.log kind sec pg code arg).Undamaged := by
  have hstored := h.logStore kind sec pg code arg
  rcases log_cases s kind sec pg code arg with e | ⟨b, e⟩
  · rw [e]; exact hstored
  · rw [e]
    unfold State.logEvent
    dsimp only
    split
    · exact Undamaged.logStore (s := State.setWord _ _ _ _) hstored _ _ _ _ _
    · exact hstored

/-- An event may write the log, but no other protected word. -/
theorem Undamaged.raise (h : s.Undamaged) (p : Page) (b : Nat) : (s.raise p b).Undamaged := by
  unfold State.raise
  dsimp only
  split
  · exact Undamaged.log (s := State.setWord _ _ _ _) h _ _ _ _ _
  · exact h

theorem Undamaged.raiseIf (h : s.Undamaged) (c : Bool) (p : Page) (b : Nat) : (s.raiseIf c p b).Undamaged := by
  unfold State.raiseIf
  split
  · exact h.raise p b
  · exact h

theorem Undamaged.useOnce (h : s.Undamaged) {p : Page} {t i : Nat} (hp : p = .sch ∨ p = .fct) (ht : t < 16) (hi : i < 2 ^ 32) (ev : Nat)
    (ctr : Option Nat) : s.useOnce p t i ev ctr = (false, s) := by
  unfold State.useOnce
  rw [useProt_sound s (h p t i hp ht hi)]
  rfl

theorem Undamaged.useSch (h : s.Undamaged) {t i : Nat} (ht : t < 16) (hi : i < 2 ^ 32) : s.useSch t i = (false, s) :=
  h.useOnce (.inl rfl) ht hi 6 (some 7)

theorem Undamaged.useFct (h : s.Undamaged) {table i : Nat} (hi : 2 ^ 24 * table + i < 2 ^ 32) : s.useFct table i = s :=
  congrArg Prod.snd (h.useOnce (.inr rfl) (by decide) hi 6 none)

theorem Undamaged.useReasm (h : s.Undamaged) {c : Nat} (hc : c < 64) : s.useReasm c = s := by
  unfold State.useReasm
  rw [h.useOnce (.inl rfl) (by decide) (by omega)]
  rfl

theorem Undamaged.fctEntry (h : s.Undamaged) {table i : Nat} (hi : 2 ^ 24 * table + i < 2 ^ 32) : s.fctEntry table i = s.entry 2 table i := by
  unfold State.fctEntry
  rw [h .fct 0 _ (.inr rfl) (by decide) hi]
  rfl

end

/-! ## What a receipt leaves of the flow control entries (R264, R270) -/

section
variable {s u : State} (h : Receipt s u) (hs : s.Undamaged) (hu : u.Undamaged)
include h hs hu

theorem Receipt.fctEntry {table i : Nat} (hi : 2 ^ 24 * table + i < 2 ^ 32) : u.fctEntry table i = s.fctEntry table i := by
  rw [hs.fctEntry hi, hu.fctEntry hi, h.entry]

theorem Receipt.reorderMax {c : Nat} (hc : c < 64) : u.reorderMax c = s.reorderMax c := by
  have hcar (k : Fin 16) : u.car k = s.car k := car_of_cars k h.cars
  unfold State.reorderMax
  rw [h.fctEntry hs hu (by omega), h.rxMembers, h.window]
  simp only [hcar]

end

end Sys2Proof.Machine.State
end

section
/-! PROOFS. The operations of a receive conduit: SEQ in order, marks, what is due, what is lost, cells and frames that find sound memories
(R219, R223-R227, R261, R264). -/
namespace Sys2Proof.Machine

open Sys2Proof Reg

/-! ## The order of SEQ (R223) -/

theorem cellSeq_lt (cell : LineCell) : cellSeq cell < 2 ^ 24 := BitVec.isLt _

theorem seqAfter_next {q : Nat} (h : q < 2 ^ 24) : seqAfter q ((q + 1) % 2 ^ 24) = false := by
  simp [seqAfter]
  omega

theorem seqAfter_asymm {q v : Nat} (hq : q < 2 ^ 24) (h : seqAfter q v = true) : seqAfter v q = false := by
  simp [seqAfter] at h ⊢
  omega

theorem seqAfter_ne {q v : Nat} (h : seqAfter q v = true) : q ≠ v := by
  rintro rfl
  simp [seqAfter] at h

namespace State

variable {s : State} {c : Nat}

theorem rxCon_setRxCon_same (s : State) (c : Nat) (r : RxCon) : (s.setRxCon c r).rxCon c = r := SMap.get_set_same s.tm.rx (fun _ => RxCon.reset) c r

theorem rxCon_of_tm {u : State} (h : u.tm = s.tm) (c : Nat) : u.rxCon c = s.rxCon c := by unfold rxCon; rw [h]

theorem setRxCon_tm {u : State} (h : u.tm = { s.tm with rx := u.tm.rx }) (r : RxCon) :
    (u.setRxCon c r).tm = { s.tm with rx := (u.setRxCon c r).tm.rx } :=
  congrArg (fun m : Tm => { m with rx := u.tm.rx.set (fun _ => RxCon.reset) c r }) h

theorem Frame.setRxCon {u : State} {l : List (Page × Nat)} {ps : List StatePart} {r : RxCon} (h : Frame s u l ps) (htm : StatePart.tm ∈ ps) :
    Frame s (u.setRxCon c r) l ps := h.updTm htm

/-! ## What is due (R223) -/

/-- A SEQ is still out: some contributing member has not passed it, or none contributes. -/
def Waits (s : State) (c v : Nat) : Prop :=
  s.contributors c = [] ∨ ∃ m ∈ s.contributors c, ∀ x, (s.rxCon c).marks.getD m.val none = some x → seqAfter x v = false

theorem Waits.allPast {v : Nat} (h : s.Waits c v) : s.allPast c v = false := by
  unfold State.allPast
  obtain hnone | ⟨m, hm, hmark⟩ := h
  · simp [hnone]
  · refine Bool.and_eq_false_imp.2 fun _ => Bool.eq_false_iff.2 fun hall => ?_
    have hpast := List.all_eq_true.1 hall m hm
    cases hx : (s.rxCon c).marks.getD m.val none with
    | none => rw [hx] at hpast; exact Bool.false_ne_true hpast
    | some x => rw [hx] at hpast; exact Bool.false_ne_true ((hmark x hx).symm.trans hpast)

/-- Nothing is due while the awaited SEQ is neither held nor passed. -/
theorem flowDue_false {e : Nat} (he : (s.rxCon c).expected = some e) (hstore : ∀ x ∈ (s.rxCon c).store, x.seq ≠ e) (hout : s.Waits c e) :
    s.flowDue c = false := by
  unfold flowDue
  rw [he]
  dsimp only
  rw [hout.allPast, Bool.or_false]
  simpa using hstore

theorem advance_idle (h : s.flowDue c = false) (n : Nat) : s.advance c n = s := by
  cases n with
  | zero => rfl
  | succ n =>
    unfold flowDue at h
    unfold advance
    dsimp only
    cases he : (s.rxCon c).expected with
    | none => rfl
    | some e =>
      rw [he] at h
      obtain ⟨hstore, hpast⟩ := Bool.or_eq_false_iff.1 h
      have hfind : (s.rxCon c).store.find? (fun x => x.seq == e) = none := by simpa using hstore
      dsimp only
      rw [hfind]
      exact if_neg (by rw [hpast]; decide)

theorem flow_idle (h : s.flowDue c = false) : s.flow c = s := advance_idle h _

/-- The store gives up nothing while it holds no more than it may. -/
theorem trim_idle (h : rxHeld (s.rxCon c) ≤ s.reorderMax c) (n : Nat) : s.trim c n = s := by
  cases n with
  | zero => rfl
  | succ n => exact if_neg (by simp [Nat.not_lt.2 h])

/-! ## SCH_LAST -/

section
variable {seq kind : Nat}

theorem schLast_seq (s : State) (c kind : Nat) (h : seq < 2 ^ 24) : (s.schLast seq c kind).rd .sch SCH.SCH_LAST.SEQ = seq := by
  unfold schLast
  rw [rd_wr_other _ _ _ _ _ (by decide), rd_wr_other _ _ _ _ _ (by decide), rd_wr_same _ _ _ _ (by decide)]
  exact Nat.mod_eq_of_lt h

theorem schLast_conduit (s : State) (seq kind : Nat) (h : c < 64) : (s.schLast seq c kind).rd .sch SCH.SCH_LAST.CONDUIT = c := by
  unfold schLast
  rw [rd_wr_other _ _ _ _ _ (by decide), rd_wr_same _ _ _ _ (by decide)]
  exact Nat.mod_eq_of_lt h

theorem schLast_kind (s : State) (seq c : Nat) (h : kind < 4) : (s.schLast seq c kind).rd .sch SCH.SCH_LAST.KIND = kind := by
  unfold schLast
  rw [rd_wr_same _ _ _ _ (by decide)]
  exact Nat.mod_eq_of_lt h

theorem schLast_out (s : State) (seq c kind : Nat) : (s.schLast seq c kind).out = s.out := by
  unfold schLast
  rw [wr_out, wr_out, wr_out]

theorem schLast_tm (s : State) (seq c kind : Nat) : (s.schLast seq c kind).tm = s.tm := by
  unfold schLast
  rw [wr_tm, wr_tm, wr_tm]

theorem Frame.schLast {u : State} {l : List (Page × Nat)} {ps : List StatePart} (h : Frame s u l ps) (hl : ((.sch : Page), 0x04C) ∈ l) :
    Frame s (u.schLast seq c kind) l ps := ((h.wr (by decide) hl).wr (by decide) hl).wr (by decide) hl

end

/-! ## A SEQ that is given up (R223, R224) -/

theorem dropPart_rxCon (s : State) (c : Nat) : (s.dropPart c).rxCon c = { s.rxCon c with part := none } := by
  unfold dropPart
  dsimp only
  split
  · next h => rw [← h]
  · exact rxCon_setRxCon_same s c _

theorem dropPart_out (s : State) (c : Nat) : (s.dropPart c).out = s.out := by
  unfold dropPart
  dsimp only
  split <;> rfl

theorem dropPart_tm (s : State) (c : Nat) : (s.dropPart c).tm = { s.tm with rx := (s.dropPart c).tm.rx } := by
  unfold dropPart
  dsimp only
  split <;> rfl

theorem Frame.dropPart {u : State} {l : List (Page × Nat)} {ps : List StatePart} (h : Frame s u l ps) (htm : StatePart.tm ∈ ps)
    (hctr : StatePart.ctr ∈ ps) : Frame s (u.dropPart c) l ps := by
  unfold State.dropPart
  dsimp only
  split
  · exact h
  · exact (h.setRxCon htm).countRx hctr

/-- The awaited SEQ passed over, and the frame being rebuilt with it. -/
def passedOver (s : State) (c e : Nat) : State :=
  (s.dropPart c).setRxCon c { (s.dropPart c).rxCon c with expected := some ((e + 1) % 2 ^ 24) }

/-- A loss without a reason is the SEQ passed over, counts, SCH_LAST and the event. -/
theorem lose_eq {e : Nat} (h : (s.rxCon c).expected = some e) :
    ∃ ctr, s.lose c 0 = ({ (s.passedOver c e).schLast e c 1 with ctr := ctr } : State).raise .sch 1 := by
  unfold lose
  dsimp only
  rw [h]
  dsimp only
  split
  · exact ⟨_, rfl⟩
  · exact ⟨_, rfl⟩

theorem lose_tm {e : Nat} (h : (s.rxCon c).expected = some e) : (s.lose c 0).tm = (s.passedOver c e).tm := by
  obtain ⟨ctr, hlose⟩ := lose_eq h
  rw [hlose, raise_tm]
  exact (with_ctr_tm _ _).trans (schLast_tm (s.passedOver c e) e c 1)

theorem lose_rxCon {e : Nat} (h : (s.rxCon c).expected = some e) :
    (s.lose c 0).rxCon c = { s.rxCon c with expected := some ((e + 1) % 2 ^ 24), part := none } := by
  rw [rxCon_of_tm (lose_tm h)]
  unfold passedOver
  rw [rxCon_setRxCon_same, dropPart_rxCon]

/-! ## Marks and the measurement of a cell (R223, R226) -/

/-- The marks of a conduit once a member has brought a SEQ. -/
def marked (s : State) (c : Nat) (k : Fin 16) (q : Nat) : List (Option Nat) := ((s.mark c k q).rxCon c).marks

theorem mark_rxCon (s : State) (c : Nat) (k : Fin 16) (q : Nat) : (s.mark c k q).rxCon c = { s.rxCon c with marks := s.marked c k q } := by
  unfold marked mark
  dsimp only
  rw [rxCon_setRxCon_same]

/-- The mark of the member that brought the cell lies at its SEQ, unless it lay beyond. -/
theorem marked_own {k : Fin 16} {q : Nat} (hk : s.contributes k = true) (hlen : k.val < (s.rxCon c).marks.length)
    (hmark : ∀ x, (s.rxCon c).marks.getD k.val none = some x → seqAfter q x = true ∨ x = q) :
    (s.marked c k q).getD k.val none = some q := by
  unfold marked mark
  dsimp only
  rw [rxCon_setRxCon_same]
  have hget : ∀ up : Option Nat, ((setAt (s.rxCon c).marks k.val up).mapIdx fun i m =>
      if s.contributes (Fin.ofNat 16 i) then m else none).getD k.val none = up := by
    intro up
    simp [setAt, List.getD_eq_getElem?_getD, hlen, hk]
  dsimp only
  rw [hget]
  split
  · next m hm =>
    obtain hafter | rfl := hmark m hm
    · rw [if_pos hafter]
    · exact congrArg some (ite_self m)
  · rfl

/-- Every other contributing member keeps its mark. -/
theorem marked_other {k m : Fin 16} {q : Nat} (hm : s.contributes m = true) (hne : m ≠ k) :
    (s.marked c k q).getD m.val none = (s.rxCon c).marks.getD m.val none := by
  have hval : k.val ≠ m.val := fun e => hne (Fin.ext e.symm)
  unfold marked mark
  dsimp only
  rw [rxCon_setRxCon_same]
  simp [setAt, List.getD_eq_getElem?_getD, hm, List.getElem?_set_ne hval]

/-! ## Cells that find room (R261) -/

theorem inUsed_setRxCon_le {r : RxCon} (hr : rxHeld r ≤ rxHeld (s.rxCon c)) : (s.setRxCon c r).inUsed ≤ s.inUsed :=
  Nat.add_le_add_right (SMap.total_set_le rxHeld s.tm.rx (fun _ => RxCon.reset) c r rfl hr) _

theorem inUsed_of_tm {u : State} (h : u.tm = s.tm) : u.inUsed = s.inUsed := by unfold inUsed; rw [h]

/-- A state in which a cell of a member has been marked and measured. -/
structure CellMeasured (s u : State) (c : Nat) (k : Fin 16) (q : Nat) : Prop where
  receipt : Receipt s u
  expected : (u.rxCon c).expected = (s.rxCon c).expected
  store : (u.rxCon c).store = (s.rxCon c).store
  part : (u.rxCon c).part = (s.rxCon c).part
  marks : (u.rxCon c).marks = s.marked c k q
  dq : u.tm.dq = s.tm.dq
  inUsed : u.inUsed ≤ s.inUsed
  undamaged : s.Undamaged → u.Undamaged
  flip : u.bit .bsc HDR.FLIP_MASK.ARM = s.bit .bsc HDR.FLIP_MASK.ARM

theorem cellMeasured (s : State) (c : Nat) (k : Fin 16) (q : Nat) : CellMeasured s ((s.mark c k q).measure c k q) c k q := by
  have hreceipt : Receipt s ((s.mark c k q).measure c k q) := Receipt.refl.mark.measure
  have hmarked : (s.mark c k q).inUsed ≤ s.inUsed := inUsed_setRxCon_le (Nat.le_refl _)
  unfold measure at hreceipt ⊢
  dsimp only at hreceipt ⊢
  generalize decide ((s.mark c k q).window c * 1000 < (s.mark c k q).skewOf c k q) = skewed at hreceipt ⊢
  have htm : ((s.mark c k q).raiseIf skewed .sch 3).tm = (s.mark c k q).tm := raiseIf_tm _ _ _ _
  have hsound (h : s.Undamaged) : ((s.mark c k q).raiseIf skewed .sch 3).Undamaged :=
    Undamaged.raiseIf (s := s.mark c k q) h skewed .sch 3
  have hword : ((s.mark c k q).raiseIf skewed .sch 3).word .bsc 0x018 = (s.mark c k q).word .bsc 0x018 :=
    raiseIf_word (s.mark c k q) skewed .sch .bsc 3 0x018 (by decide) (.inl nofun) (.inl nofun)
  generalize (s.mark c k q).raiseIf skewed .sch 3 = v at *
  have hcon : v.rxCon c = { s.rxCon c with marks := s.marked c k q } := (rxCon_of_tm htm c).trans (mark_rxCon s c k q)
  refine ⟨hreceipt, ?_, ?_, ?_, ?_, ?_, ?_, hsound, bit_of_word hword⟩
  · rw [rxCon_setRxCon_same, hcon]
  · rw [rxCon_setRxCon_same, hcon]
  · rw [rxCon_setRxCon_same, hcon]
  · rw [rxCon_setRxCon_same, hcon]
  · have hdq : v.tm.dq = (s.mark c k q).tm.dq := congrArg Tm.dq htm
    exact hdq
  · refine (inUsed_setRxCon_le ?_).trans ((inUsed_of_tm htm).trans_le hmarked)
    exact Nat.le_refl (rxHeld (v.rxCon c))

/-! ## The reorder store (R223, R264) -/

section
variable {cell : LineCell} {v : Nat}

/-- A cell as the reorder store holds it. -/
def heldCell (s : State) (cell : LineCell) : RxCell := { seq := cellSeq cell, cell := cell, arrived := s.time.toNat, bad := 0 }

theorem store_kept (he : (s.rxCon c).expected = some v) (hlate : seqAfter v (cellSeq cell) = false)
    (hnew : ∀ x ∈ (s.rxCon c).store, x.seq ≠ cellSeq cell) (hroom : s.inUsed < s.inSize) (harm : s.bit .bsc HDR.FLIP_MASK.ARM = false) :
    s.store c cell = s.setRxCon c { s.rxCon c with store := (s.rxCon c).store ++ [s.heldCell cell] } := by
  have hany : ((s.rxCon c).store.any fun x => x.seq == cellSeq cell) = false := by simpa using hnew
  have harmed : s.armed .bsc 1 = (0, s) := by unfold armed; rw [harm]; rfl
  unfold store
  simp only [he, hlate, hany, Bool.or_self, Bool.false_eq_true, if_false, harmed, Option.isNone_some, Bool.false_and,
    if_neg (Nat.not_le.2 hroom)]
  rfl

theorem store_late_event (he : (s.rxCon c).expected = some v) (hlate : seqAfter v (cellSeq cell) = true) :
    ((s.store c cell).word .sch 0x00C).getLsbD 2 = true := by
  unfold store
  simp only [he, hlate, Bool.true_or, if_true]
  exact raise_bit _ nofun (by decide)

end

/-! ## A frame in one cell (R219, R224, R227, R261) -/

section
variable {x : RxCell} {label : Nat}

/-- The conduit once the next cell is a frame by itself. -/
def wholeTaken (s : State) (c : Nat) (x : RxCell) : State :=
  let s := s.setRxCon c { s.rxCon c with expected := some ((x.seq + 1) % 2 ^ 24) }
  s.setRxCon c { s.rxCon c with part := some [] }

theorem wholeTaken_rxCon (s : State) (c : Nat) (x : RxCell) :
    (s.wholeTaken c x).rxCon c = { s.rxCon c with expected := some ((x.seq + 1) % 2 ^ 24), part := some [] } := by
  unfold wholeTaken
  dsimp only
  rw [rxCon_setRxCon_same, rxCon_setRxCon_same]

theorem Receipt.wholeTaken {u : State} (h : Receipt s u) : Receipt s (u.wholeTaken c x) := h.setRxCon.setRxCon

/-- A cell that begins and ends a frame is delivered as it is taken. -/
theorem takeCell_whole (hpart : (s.rxCon c).part = some []) (hbad : x.bad = 0) (hsof : cellSof x.cell = true) (heof : cellEof x.cell = true) :
    s.takeCell c x = (s.wholeTaken c x).deliver c (cellLabel x.cell) [x] := by
  unfold takeCell
  extract_lets r s1 isOpen s2 s3 con
  have hclosed : isOpen = false := by simp [isOpen, r, hpart]
  have h3 : s3 = s1 := if_neg (by rw [hclosed]; decide)
  have hcon : con = s1.rxCon c := congrArg (rxCon · c) h3
  rw [if_neg (by rw [hbad]; decide), if_pos hsof, if_pos heof, hcon, h3]
  rfl

theorem advance_held (he : (s.rxCon c).expected = some x.seq) (hfind : (s.rxCon c).store.find? (fun y => y.seq == x.seq) = some x)
    (n : Nat) : s.advance c (n + 1) =
      ((s.setRxCon c { s.rxCon c with store := (s.rxCon c).store.filter fun y => y.seq != x.seq }).takeCell c x).advance c n := by
  rw [advance]
  dsimp only
  split
  · next h => exact absurd (h.symm.trans he) nofun
  · next e h =>
    obtain rfl : e = x.seq := Option.some.inj (h.symm.trans he)
    rw [hfind]

theorem portOfLabel_lt (s : State) (c label : Nat) : s.portOfLabel c label < 64 := by
  have hdie : ebits (s.entry 1 5 (256 * c + label)) 0 1 1 < 2 ^ 1 := BitVec.isLt _
  have hport : ebits (s.entry 1 5 (256 * c + label)) 0 2 5 < 2 ^ 5 := BitVec.isLt _
  unfold portOfLabel
  dsimp only
  omega

/-- A frame that a conduit brings under a label goes to its port: the label is valid, the port is live and has room for the frame. -/
def Goes (s : State) (c label : Nat) (bytes : List Byte) : Prop :=
  s.enabled .bsc = true ∧ ebits (s.entry 1 5 (256 * c + label)) 0 0 1 = 1 ∧ s.portLive (s.portOfLabel c label) = true
    ∧ (s.wdogBits (s.portOfLabel c label)).testBit (ebits (s.entry 1 5 (256 * c + label)) 0 8 3) = false
    ∧ s.portCells (s.portOfLabel c label) + ceilDiv bytes.length 256 ≤ ebits (s.fctEntry 3 (s.portOfLabel c label)) 0 0 18

theorem Goes.of_receipt {u : State} {label : Nat} {bytes : List Byte} (h : Receipt s u) (hs : s.Undamaged)
    (hu : u.Undamaged) (hdq : u.tm.dq = s.tm.dq) (hgoes : s.Goes c label bytes) : u.Goes c label bytes := by
  have hport := portOfLabel_lt s c label
  have hcells : u.portCells (s.portOfLabel c label) = s.portCells (s.portOfLabel c label) := by
    unfold portCells delivery
    rw [hdq]
  unfold Goes
  rw [h.enabled (p := .bsc) nofun, h.entry, h.portOfLabel, h.portLive, h.wdogBits, hcells, h.fctEntry hs hu (by omega)]
  exact hgoes

/-- A frame joins the delivery queue of its label. -/
def delivered (s : State) (c label : Nat) (bytes : List Byte) : State :=
  s.setDelivery (s.portOfLabel c label) (ebits (s.entry 1 5 (256 * c + label)) 0 8 3)
    (s.delivery (s.portOfLabel c label) (ebits (s.entry 1 5 (256 * c + label)) 0 8 3)
      ++ [{ bytes := bytes, lenAdj := 0, bad := 0, steep := 0 }])

theorem delivered_rxCon (s : State) (c label : Nat) (bytes : List Byte) (m : Nat) : (s.delivered c label bytes).rxCon m = s.rxCon m := rfl

theorem delivered_delivery (s : State) (c label : Nat) (bytes : List Byte) :
    (s.delivered c label bytes).delivery (s.portOfLabel c label) (ebits (s.entry 1 5 (256 * c + label)) 0 8 3)
      = s.delivery (s.portOfLabel c label) (ebits (s.entry 1 5 (256 * c + label)) 0 8 3)
        ++ [{ bytes := bytes, lenAdj := 0, bad := 0, steep := 0 }] := SMap.get_set_same s.tm.dq (fun _ => []) _ _

/-- A frame of one sound cell that may go is counted and joins its delivery queue. -/
theorem deliver_sound (h : s.Undamaged) (hidx : 256 * c + label < 2 ^ 32) (hbad : x.bad = 0) (hgoes : s.Goes c label (frameBytes [x])) :
    s.deliver c label [x] = ((s.countRx c 0 1).countRx c 1 (frameBytes [x]).length).delivered c label (frameBytes [x]) := by
  obtain ⟨hon, hvalid, hlive, hdog, hroom⟩ := hgoes
  have hport := portOfLabel_lt s c label
  unfold deliver
  rw [h.useSch (by decide) hidx]
  have hcounted : ((s.countRx c 0 1).countRx c 1 (frameBytes [x]).length).Undamaged := h
  have hfct := hcounted.useFct (table := 3) (i := s.portOfLabel c label) (by omega)
  have hread : ([x].any fun y => y.bad == 2) = false := by simp [hbad]
  have hgoes : (false || decide (ebits (s.entry 1 5 (256 * c + label)) 0 0 1 = 0) || !s.portLive (s.portOfLabel c label)) = false := by
    rw [hvalid, hlive]
    decide
  dsimp only
  rw [List.foldl_cons, List.foldl_nil, if_neg (by rw [hbad]; decide : ¬x.bad = 1), if_neg (by rw [hbad]; decide : ¬x.bad = 2), hread, hon,
    hgoes, if_neg Bool.false_ne_true, if_neg (by decide : ¬(!true) = true), if_neg Bool.false_ne_true]
  unfold enqueueIn
  rw [hfct]
  dsimp only
  have hdog' : ¬((((s.countRx c 0 1).countRx c 1 (frameBytes [x]).length).wdogBits (s.portOfLabel c label)).testBit
    (ebits (s.entry 1 5 (256 * c + label)) 0 8 3)) = true := Bool.eq_false_iff.1 hdog
  rw [if_neg hdog']
  exact if_neg (Nat.not_lt.2 hroom)

/-- The conduit once the only cell held, the one awaited and a frame by itself, has left the store and been delivered. -/
def wholeDelivered (s : State) (c : Nat) (x : RxCell) : State :=
  ((s.setRxCon c { s.rxCon c with store := [] }).wholeTaken c x).deliver c (cellLabel x.cell) [x]

theorem Receipt.wholeDelivered {u : State} (h : Receipt s u) : Receipt s (u.wholeDelivered c x) := h.setRxCon.wholeTaken.deliver

theorem flow_whole (he : (s.rxCon c).expected = some x.seq) (hstore : (s.rxCon c).store = [x]) (hpart : (s.rxCon c).part = some [])
    (hbad : x.bad = 0) (hsof : cellSof x.cell = true) (heof : cellEof x.cell = true) (hafter : (s.wholeDelivered c x).flowDue c = false) :
    s.flow c = s.wholeDelivered c x := by
  have hreach : ∃ n, s.reach c = n + 1 := by
    unfold reach
    dsimp only
    rw [he]
    exact ⟨_, Nat.add_right_comm _ 1 _⟩
  obtain ⟨n, hn⟩ := hreach
  have hleft : (s.rxCon c).store.filter (fun y => y.seq != x.seq) = [] := by rw [hstore]; simp
  unfold flow
  rw [hn, advance_held he (by rw [hstore]; simp) n, hleft, takeCell_whole (by rw [rxCon_setRxCon_same]; exact hpart) hbad hsof heof]
  exact advance_idle hafter n

section
variable (h : s.Undamaged) (hidx : 256 * c + cellLabel x.cell < 2 ^ 32) (hbad : x.bad = 0)
  (hgoes : s.Goes c (cellLabel x.cell) (frameBytes [x]))
include h hidx hbad hgoes

theorem wholeDelivered_eq : s.wholeDelivered c x =
    ((((s.setRxCon c { s.rxCon c with store := [] }).wholeTaken c x).countRx c 0 1).countRx c 1 (frameBytes [x]).length).delivered c
      (cellLabel x.cell) (frameBytes [x]) := by
  have hsound : ((s.setRxCon c { s.rxCon c with store := [] }).wholeTaken c x).Undamaged := h
  have hreceipt : Receipt s ((s.setRxCon c { s.rxCon c with store := [] }).wholeTaken c x) := Receipt.refl.setRxCon.wholeTaken
  have hdq : ((s.setRxCon c { s.rxCon c with store := [] }).wholeTaken c x).tm.dq = s.tm.dq := rfl
  exact deliver_sound hsound hidx hbad (hgoes.of_receipt hreceipt h hsound hdq)

theorem wholeDelivered_rxCon : (s.wholeDelivered c x).rxCon c
    = { s.rxCon c with store := [], expected := some ((x.seq + 1) % 2 ^ 24), part := some [] } := by
  have htaken := wholeTaken_rxCon (s.setRxCon c { s.rxCon c with store := [] }) c x
  rw [rxCon_setRxCon_same] at htaken
  rw [wholeDelivered_eq h hidx hbad hgoes, delivered_rxCon, rxCon_of_tm (countRx_tm _ _ _ _), rxCon_of_tm (countRx_tm _ _ _ _)]
  exact htaken

theorem wholeDelivered_delivery :
    let port := s.portOfLabel c (cellLabel x.cell)
    let prio := ebits (s.entry 1 5 (256 * c + cellLabel x.cell)) 0 8 3
    (s.wholeDelivered c x).delivery port prio = s.delivery port prio ++ [{ bytes := frameBytes [x], lenAdj := 0, bad := 0, steep := 0 }] := by
  rw [wholeDelivered_eq h hidx hbad hgoes]
  have hcounted : Receipt s
      ((((s.setRxCon c { s.rxCon c with store := [] }).wholeTaken c x).countRx c 0 1).countRx c 1 (frameBytes [x]).length) :=
    Receipt.refl.setRxCon.wholeTaken.countRx.countRx
  have hdq : ((((s.setRxCon c { s.rxCon c with store := [] }).wholeTaken c x).countRx c 0 1).countRx c 1 (frameBytes [x]).length).tm.dq
    = s.tm.dq := rfl
  generalize (((s.setRxCon c { s.rxCon c with store := [] }).wholeTaken c x).countRx c 0 1).countRx c 1 (frameBytes [x]).length = u at *
  have hjoined := delivered_delivery u c (cellLabel x.cell) (frameBytes [x])
  have hqueue (port prio : Nat) : u.delivery port prio = s.delivery port prio := by unfold delivery; rw [hdq]
  rw [hcounted.portOfLabel, hcounted.entry, hqueue] at hjoined
  exact hjoined

end

end

end State

end Sys2Proof.Machine
end

section
/-! PROOFS. A cell of a member that finds sound memories: the frame that goes to its port, the cell that waits, the late cell (R219, R221,
R223, R227, R261). -/
namespace Sys2Proof.Machine.State

open Sys2Proof Reg

/-! ## What a receiver makes of a cell (R151, R218, R219, R221) -/

section
variable {s : State} {k : Fin 16} {cell : LineCell} {c : Nat}

/-- The carrier is in frame, with codeword lock, and the scheduler takes its cells. -/
def Listens (s : State) (k : Fin 16) : Prop :=
  s.enabled .sch = true ∧ s.enabled (.fcr k) = true ∧ s.enabled (.rxe k) = true ∧ s.ldUp k = true ∧ s.zr k = false
    ∧ s.inFrame k = true ∧ s.bit (.lfe k) LFE.FEC_STATUS.CW_LOCK = true

/-- What a cell does once the conduit of its carrier is known. -/
def heardCell (s : State) (con : Option Nat) (k : Fin 16) (cell : LineCell) : State :=
  if !(cellOk cell) then (s.count .sch 0 1).schLast (cellSeq cell) (con.getD 0) 3
  else if 2 ≤ (cellKind cell) then s.count .sch 1 1
  else match con with
    | some c => s.memberCell c k cell
    | none => if cellKind cell = 1 then (s.count .sch 4 1).raise .sch 5 else s

theorem rxConduit_lt (h : s.rxConduit k = some c) : c < 64 := List.mem_range.1 (List.mem_of_find?_eq_some h)

theorem mem_contributors (h : s.rxConduit k = some c) (hk : s.contributes k = true) : k ∈ s.contributors c := by
  have hfound := List.find?_some h
  have hbit : (s.rxMembers c).testBit k.val = true := (Bool.and_eq_true_iff.1 hfound).2
  exact List.mem_filter.2 ⟨List.mem_filter.2 ⟨List.mem_finRange k, hbit⟩, hk⟩

theorem cellIn_deaf (h : ¬s.Listens k) : s.cellIn k cell = s := by
  unfold cellIn
  refine if_pos (Classical.byContradiction fun hheard => h ?_)
  unfold Listens
  simpa [and_assoc] using hheard

theorem cellIn_heard (h : s.Listens k) (hsound : s.Undamaged) : s.cellIn k cell = s.heardCell (s.rxConduit k) k cell := by
  obtain ⟨hsch, hfcr, hrxe, hup, hzr, hframe, hlock⟩ := h
  unfold cellIn
  rw [hsch, hfcr, hrxe, hup, hzr, hframe, hlock, if_neg (by decide)]
  dsimp only
  cases hcon : s.rxConduit k with
  | none => dsimp only; rw [hcon]; rfl
  | some c =>
    have hc := rxConduit_lt hcon
    dsimp only
    rw [hsound.useSch (by decide) (by omega), hcon]
    rfl

theorem heardCell_bad (h : cellOk cell = false) (con : Option Nat) :
    s.heardCell con k cell = (s.count .sch 0 1).schLast (cellSeq cell) (con.getD 0) 3 := if_pos (by rw [h]; rfl)

theorem heardCell_unknown (h : cellOk cell = true) (hkind : 2 ≤ cellKind cell) (con : Option Nat) : s.heardCell con k cell = s.count .sch 1 1 :=
  (if_neg (by rw [h]; decide)).trans (if_pos hkind)

theorem heardCell_stray (h : cellOk cell = true) (hkind : cellKind cell = 1) : s.heardCell none k cell = (s.count .sch 4 1).raise .sch 5 :=
  (if_neg (by rw [h]; decide)).trans ((if_neg (by rw [hkind]; decide)).trans (if_pos hkind))

theorem heardCell_member (h : cellOk cell = true) (hkind : cellKind cell = 1) : s.heardCell (some c) k cell = s.memberCell c k cell :=
  (if_neg (by rw [h]; decide)).trans (if_neg (by rw [hkind]; decide))

end

/-! ## A data cell of a contributing member (R221, R223) -/

/-- A data cell of a contributing member that finds sound memories and room in the ingress part. -/
structure Brought (s : State) (c : Nat) (k : Fin 16) (cell : LineCell) : Prop where
  listens : s.Listens k
  sound : s.Undamaged
  flip : s.bit .bsc HDR.FLIP_MASK.ARM = false
  ok : cellOk cell = true
  kind : cellKind cell = 1
  conduit : s.rxConduit k = some c
  room : s.inUsed < s.inSize
  contributes : s.contributes k = true
  marks : 16 ≤ (s.rxCon c).marks.length

/-- The conduit once the cell has been counted, marked, measured and put into the reorder store. -/
def cellStored (s : State) (c : Nat) (k : Fin 16) (cell : LineCell) : State :=
  (((s.countS (.csc k) 2 1).mark c k (cellSeq cell)).measure c k (cellSeq cell)).store c cell

/-- A state in which that cell has joined the reorder store. -/
structure CellHeld (s t : State) (c : Nat) (k : Fin 16) (cell : LineCell) : Prop where
  receipt : Receipt s t
  sound : t.Undamaged
  expected : (t.rxCon c).expected = (s.rxCon c).expected
  store : (t.rxCon c).store = (s.rxCon c).store ++ [s.heldCell cell]
  part : (t.rxCon c).part = (s.rxCon c).part
  marks : (t.rxCon c).marks = s.marked c k (cellSeq cell)
  dq : t.tm.dq = s.tm.dq

section
variable {s : State} {k : Fin 16} {cell : LineCell} {c v : Nat} (h : Brought s c k cell)
include h

theorem Brought.silent : Brought s.silent c k cell :=
  ⟨h.listens, h.sound, h.flip, h.ok, h.kind, h.conduit, h.room, h.contributes, h.marks⟩

theorem Brought.cellIn_eq : s.cellIn k cell =
    (((s.cellStored c k cell).flow c).trim c (((s.cellStored c k cell).flow c).reach c)).protect .sch 4 c := by
  have hc := rxConduit_lt h.conduit
  have hcounted : (s.countS (.csc k) 2 1).Undamaged := h.sound
  rw [cellIn_heard h.listens h.sound, h.conduit, heardCell_member h.ok h.kind]
  unfold memberCell cellStored
  rw [h.sound.useReasm hc]
  dsimp only
  rw [if_pos h.kind, if_pos h.kind, hcounted.useFct (by omega)]

theorem Brought.mem : k ∈ s.contributors c := mem_contributors h.conduit h.contributes

/-- A cell that is neither late nor held already joins the store. -/
theorem Brought.held (he : (s.rxCon c).expected = some v) (hlate : seqAfter v (cellSeq cell) = false)
    (hnew : ∀ x ∈ (s.rxCon c).store, x.seq ≠ cellSeq cell) : CellHeld s (s.cellStored c k cell) c k cell := by
  have hm := cellMeasured (s.countS (.csc k) 2 1) c k (cellSeq cell)
  unfold cellStored
  generalize ((s.countS (.csc k) 2 1).mark c k (cellSeq cell)).measure c k (cellSeq cell) = u at hm ⊢
  have hstore : (u.rxCon c).store = (s.rxCon c).store := hm.store
  have hroom : u.inUsed < u.inSize := hm.inUsed.trans_lt (h.room.trans_eq hm.receipt.inSize.symm)
  have hheld : u.heldCell cell = s.heldCell cell := by
    unfold heldCell
    rw [hm.receipt.time]
    rfl
  have hcon := rxCon_setRxCon_same u c { u.rxCon c with store := (u.rxCon c).store ++ [u.heldCell cell] }
  rw [store_kept (hm.expected.trans he) hlate (by rwa [hstore]) hroom (hm.flip.trans h.flip)]
  refine ⟨(Receipt.refl.countS.trans hm.receipt).setRxCon, hm.undamaged h.sound, ?_, ?_, ?_, ?_, hm.dq⟩
  · rw [hcon]; exact hm.expected
  · rw [hcon, hstore, hheld]
  · rw [hcon]; exact hm.part
  · rw [hcon]; exact hm.marks

/-! ## A late cell (R223) -/

/-- What a late cell reports stays reported. -/
theorem Brought.late (he : (s.rxCon c).expected = some v) (hlate : seqAfter v (cellSeq cell) = true) :
    ((s.cellIn k cell).word .sch 0x00C).getLsbD 2 = true := by
  have hm := cellMeasured (s.countS (.csc k) 2 1) c k (cellSeq cell)
  have hreported : ((s.cellStored c k cell).word .sch 0x00C).getLsbD 2 = true := store_late_event (hm.expected.trans he) hlate
  have hrest : Receipt (s.cellStored c k cell) (s.cellIn k cell) := by
    rw [h.cellIn_eq]
    exact Receipt.refl.flow.trim.protect (by decide)
  exact hrest.events 2 hreported

/-! ## A cell ahead of the awaited one (R223) -/

/-- It waits while another contributing member may still bring the awaited one. -/
theorem Brought.ahead {m : Fin 16} (he : (s.rxCon c).expected = some v) (hahead : seqAfter (cellSeq cell) v = true)
    (hnew : ∀ x ∈ (s.rxCon c).store, x.seq ≠ v ∧ x.seq ≠ cellSeq cell) (hm : m ∈ s.contributors c) (hne : m ≠ k)
    (hmark : ∀ x, (s.rxCon c).marks.getD m.val none = some x → seqAfter x v = false) (hroom : rxHeld (s.rxCon c) < s.reorderMax c) :
    ((s.cellIn k cell).rxCon c).expected = some v ∧ ((s.cellIn k cell).rxCon c).store = (s.rxCon c).store ++ [s.heldCell cell]
      ∧ (s.cellIn k cell).tm.dq = s.tm.dq := by
  have hheld := h.held he (seqAfter_asymm (cellSeq_lt cell) hahead) fun x hx => (hnew x hx).2
  have hexpected := hheld.expected.trans he
  have hwaits : (s.cellStored c k cell).Waits c v := by
    refine .inr ⟨m, (hheld.receipt.contributors c).symm ▸ hm, fun x hx => hmark x ?_⟩
    rwa [hheld.marks, marked_other (List.mem_filter.1 hm).2 hne] at hx
  have hout : ∀ x ∈ ((s.cellStored c k cell).rxCon c).store, x.seq ≠ v := by
    rw [hheld.store]
    intro x hx
    obtain hx | hx := List.mem_append.1 hx
    · exact (hnew x hx).1
    · obtain rfl := List.mem_singleton.1 hx
      exact seqAfter_ne hahead
  have hcells : rxHeld ((s.cellStored c k cell).rxCon c) = rxHeld (s.rxCon c) + 1 := by
    unfold rxHeld
    rw [hheld.store, hheld.part, List.countP_append]
    exact Nat.add_right_comm _ 1 _
  have hmax : (s.cellStored c k cell).reorderMax c = s.reorderMax c :=
    hheld.receipt.reorderMax h.sound hheld.sound (rxConduit_lt h.conduit)
  rw [h.cellIn_eq, flow_idle (flowDue_false hexpected hout hwaits), trim_idle (by omega), rxCon_of_tm (protect_tm _ _ _ _), protect_tm]
  exact ⟨hexpected, hheld.store, hheld.dq⟩

/-! ## A frame in the awaited cell (R224, R227, R261) -/

theorem Brought.whole (he : (s.rxCon c).expected = some (cellSeq cell)) (hstore : (s.rxCon c).store = [])
    (hpart : (s.rxCon c).part = some []) (hsof : cellSof cell = true) (heof : cellEof cell = true)
    (hmark : ∀ x, (s.rxCon c).marks.getD k.val none = some x → seqAfter (cellSeq cell) x = true ∨ x = cellSeq cell)
    (hgoes : s.Goes c (cellLabel cell) (cell.body.take (cellValid cell + 1))) :
    let port := s.portOfLabel c (cellLabel cell)
    let prio := ebits (s.entry 1 5 (256 * c + cellLabel cell)) 0 8 3
    (s.cellIn k cell).delivery port prio
        = s.delivery port prio ++ [{ bytes := cell.body.take (cellValid cell + 1), lenAdj := 0, bad := 0, steep := 0 }]
      ∧ ((s.cellIn k cell).rxCon c).expected = some ((cellSeq cell + 1) % 2 ^ 24) ∧ ((s.cellIn k cell).rxCon c).store = []
      ∧ ((s.cellIn k cell).rxCon c).part = some [] := by
  intro port prio
  have hheld := h.held he (Bool.eq_false_iff.2 fun hself => seqAfter_ne hself rfl) (by rw [hstore]; exact fun x hx => absurd hx List.not_mem_nil)
  have hreceipt := hheld.receipt
  have hlabel : cellLabel cell < 256 := BitVec.isLt _
  have hidx : 256 * c + cellLabel cell < 2 ^ 32 := by have := rxConduit_lt h.conduit; omega
  have hframe : frameBytes [s.heldCell cell] = cell.body.take (cellValid cell + 1) := by
    unfold frameBytes heldCell
    rw [List.flatMap_singleton, if_pos heof]
  rw [h.cellIn_eq]
  generalize s.cellStored c k cell = t at hheld hreceipt ⊢
  have hone : (t.rxCon c).store = [s.heldCell cell] := by rw [hheld.store, hstore]; rfl
  have hgoes' : t.Goes c (cellLabel (s.heldCell cell).cell) (frameBytes [s.heldCell cell]) :=
    Goes.of_receipt hreceipt h.sound hheld.sound hheld.dq (hframe ▸ hgoes)
  have hcon := wholeDelivered_rxCon (x := s.heldCell cell) hheld.sound hidx rfl hgoes'
  have hjoined := wholeDelivered_delivery (x := s.heldCell cell) hheld.sound hidx rfl hgoes'
  have hafter : (t.wholeDelivered c (s.heldCell cell)).flowDue c = false := by
    refine flowDue_false (congrArg RxCon.expected hcon) ?_ (.inr ⟨k, ?_, fun x hx => ?_⟩)
    · rw [hcon]
      exact fun x hx => absurd hx List.not_mem_nil
    · rw [hreceipt.wholeDelivered.contributors]
      exact h.mem
    · rw [hcon, hheld.marks, marked_own h.contributes (k.isLt.trans_le h.marks) hmark] at hx
      obtain rfl := Option.some.inj hx
      exact seqAfter_next (cellSeq_lt cell)
  have hheldNone : rxHeld ((t.wholeDelivered c (s.heldCell cell)).rxCon c) = 0 := by
    rw [hcon]
    rfl
  rw [flow_whole (hheld.expected.trans he) hone (hheld.part.trans hpart) rfl hsof heof hafter, trim_idle (by omega),
    rxCon_of_tm (protect_tm _ _ _ _), hcon]
  refine ⟨?_, rfl, rfl, rfl⟩
  have hqueue (u : State) : (u.protect .sch 4 c).delivery port prio = u.delivery port prio := by unfold delivery; rw [protect_tm]
  have hport : t.portOfLabel c (cellLabel cell) = port := hreceipt.portOfLabel c _
  have hprio : ebits (t.entry 1 5 (256 * c + cellLabel cell)) 0 8 3 = prio := by rw [hreceipt.entry]
  have hbefore : t.delivery port prio = s.delivery port prio := by unfold delivery; rw [hheld.dq]
  have hafterwards : (t.wholeDelivered c (s.heldCell cell)).delivery port prio
      = t.delivery port prio ++ [{ bytes := frameBytes [s.heldCell cell], lenAdj := 0, bad := 0, steep := 0 }] := hport ▸ hprio ▸ hjoined
  rw [hqueue, hafterwards, hbefore, hframe]

end

end Sys2Proof.Machine.State
end

section
/-! PROOFS. The commands of reassembly: a received cell, a SEQ that timed out, resynchronisation, the skew report, the loss of all members
(R219, R221, R223-R227, R261). Settles O41. -/
namespace Sys2Proof.Machine.State

open Sys2Proof Reg

section
variable {s : State} {c v : Nat}

/-! ## A SEQ awaited too long (R223) -/

theorem passedOver_frame (s : State) (c e : Nat) : s.Frame (s.passedOver c e) [(.sch, 0x00C), (.sch, 0x04C)] (.tm :: eventParts) := by
  have hdropped : s.Frame (s.dropPart c) [(.sch, 0x00C), (.sch, 0x04C)] (.tm :: eventParts) := Frame.refl.dropPart (by decide) (by decide)
  exact hdropped.setRxCon (by decide)

/-- What a loss reports, and what it leaves. -/
theorem lose_reports (he : (s.rxCon c).expected = some v) (hv : v < 2 ^ 24) (hc : c < 64) :
    ((s.lose c 0).word .sch 0x00C).getLsbD 1 = true ∧ (s.lose c 0).rd .sch SCH.SCH_LAST.SEQ = v
      ∧ (s.lose c 0).rd .sch SCH.SCH_LAST.CONDUIT = c ∧ (s.lose c 0).rd .sch SCH.SCH_LAST.KIND = 1
      ∧ s.Frame (s.lose c 0) [(.sch, 0x00C), (.sch, 0x04C)] (.tm :: eventParts) := by
  obtain ⟨ctr, hlose⟩ := lose_eq he
  have hlast (f : Fld) (hf : f.off < 0x1000 ∧ f.off ≠ 0x00C) : (s.lose c 0).rd .sch f = ((s.passedOver c v).schLast v c 1).rd .sch f := by
    rw [hlose, rd_raise _ .sch 1 .sch f nofun hf, with_ctr_rd]
  rw [hlast _ (by decide), hlast _ (by decide), hlast _ (by decide), hlose]
  exact ⟨raise_bit _ nofun (by decide), schLast_seq _ c 1 hv, schLast_conduit _ v 1 hc, schLast_kind _ v c (by decide),
    (((passedOver_frame s c v).schLast (by decide)).with_ctr (by decide)).raise (by decide) (by decide) (by decide) (by decide)⟩

/-- The next SEQ is still out once one has been given up: nothing follows. -/
theorem flow_lose (he : (s.rxCon c).expected = some v) (hout : ∀ x ∈ (s.rxCon c).store, x.seq ≠ (v + 1) % 2 ^ 24)
    (hwaits : s.Waits c ((v + 1) % 2 ^ 24)) : (s.lose c 0).flow c = s.lose c 0 := by
  have hcon := lose_rxCon he
  refine flow_idle (flowDue_false (congrArg RxCon.expected hcon) (by rw [hcon]; exact hout) ?_)
  unfold Waits
  rw [Receipt.refl.lose.contributors, hcon]
  exact hwaits

theorem timeout_given (he : (s.rxCon c).expected = some v) (hnew : ∀ x ∈ (s.rxCon c).store, x.seq ≠ v ∧ x.seq ≠ (v + 1) % 2 ^ 24)
    (hlater : ∃ x ∈ (s.rxCon c).store, seqAfter x.seq v = true) (hwaits : s.Waits c ((v + 1) % 2 ^ 24)) :
    s.timeout c v = s.lose c 0 := by
  have hmissing : ((s.rxCon c).store.any fun x => x.seq == v) = false := by simpa using fun x hx => (hnew x hx).1
  have hseen : ((s.rxCon c).store.any fun x => seqAfter x.seq v) = true := List.any_eq_true.2 hlater
  unfold timeout
  dsimp only
  rw [he]
  dsimp only
  rw [hmissing, hseen, Nat.add_sub_cancel_left, Nat.mod_self, if_pos (by simp)]
  unfold passTo
  rw [he]
  dsimp only
  rw [if_pos (by simp), flow_lose he (fun x hx => (hnew x hx).2) hwaits]
  rfl

theorem timeout_idle {w : Nat} (h : (s.rxCon c).expected = none ∨ (∃ v, (s.rxCon c).expected = some v ∧ w ≠ v ∧ seqAfter w v = false)
    ∨ ∃ x ∈ (s.rxCon c).store, x.seq = w) : s.timeout c w = s := by
  unfold timeout
  dsimp only
  cases he : (s.rxCon c).expected with
  | none => rfl
  | some e =>
    refine if_neg fun hgiven => ?_
    obtain ⟨hawaited, -⟩ := Bool.and_eq_true_iff.1 hgiven
    obtain ⟨hreached, hmissing⟩ := Bool.and_eq_true_iff.1 hawaited
    obtain hnone | ⟨v, hv, hne, hafter⟩ | hheld := h
    · exact absurd (he.symm.trans hnone) nofun
    · obtain rfl := Option.some.inj (he.symm.trans hv)
      rw [hafter, Bool.or_false, beq_iff_eq] at hreached
      exact hne hreached.symm
    · have hany : ((s.rxCon c).store.any fun x => x.seq == w) = true := by simpa using hheld
      rw [hany] at hmissing
      exact absurd hmissing (by decide)

/-! ## Resynchronisation (R225) -/

/-- The conduit that adopts the lowest SEQ it has collected. -/
def adopted (s : State) (c v : Nat) : State :=
  ((s.setRxCon c { s.rxCon c with expected := some v, since := none, part := some [] }).count .sch 3 1).raise .sch 4

theorem resync_adopts (hon : s.rxOn c = true) (he : (s.rxCon c).expected = none) (hv : lowest (s.rxCon c).store = some v) :
    s.resync c = (s.adopted c v).flow c := by
  unfold resync
  dsimp only
  rw [if_neg (by rw [hon, he]; decide), hv]
  rfl

theorem adopted_flow_event (s : State) (c v : Nat) : (((s.adopted c v).flow c).word .sch 0x00C).getLsbD 4 = true :=
  Receipt.refl.flow.events 4 (raise_bit _ nofun (by decide))

theorem Receipt.adopted {u : State} (h : Receipt s u) : Receipt s (u.adopted c v) := h.setRxCon.count.raise (by decide)

theorem resync_idle (h : s.rxOn c = false ∨ (s.rxCon c).expected ≠ none ∨ (s.rxCon c).store = []) : s.resync c = s := by
  unfold resync
  dsimp only
  obtain hoff | hexpected | hempty := h
  · exact if_pos (by rw [hoff]; rfl)
  · exact if_pos (by rw [Option.isSome_iff_ne_none.2 hexpected, Bool.or_true])
  · rw [hempty]
    exact ite_self s

/-- A conduit that begins to collect keeps its skew and its Remote Fault. -/
theorem collect_rxCon (s : State) (c : Nat) : (s.collect c).rxCon c = { s.rxCon c with
    expected := none, store := [], marks := List.replicate 16 none, part := some [], since := some s.time.toNat, hist := [] } := by
  unfold collect
  dsimp only
  split
  · rw [rxCon_setRxCon_same, dropPart_rxCon, Receipt.refl.dropPart.time]
  · rw [rxCon_setRxCon_same]

theorem collect_frame (s : State) (c : Nat) : (s.collect c).tm = { s.tm with rx := (s.collect c).tm.rx } ∧ (s.collect c).out = s.out
    ∧ s.Frame (s.collect c) [] [.tm, .ctr] := by
  unfold collect
  dsimp only
  split
  · exact ⟨setRxCon_tm (dropPart_tm s c) _, dropPart_out s c,
      Frame.setRxCon (Frame.dropPart Frame.refl (by decide) (by decide)) (by decide)⟩
  · exact ⟨rfl, rfl, Frame.setRxCon Frame.refl (by decide)⟩

end

end Sys2Proof.Machine.State

namespace Sys2Proof.Machine

open Sys2Proof Reg

section
variable (s : State) (k : Fin 16) (cell : LineCell) (c : Fin 64) (w : BitVec 24)

theorem exec_lineCellReceived : exec (.lineCellReceived k cell) s = s.done fun t => t.cellIn k cell := rfl
theorem exec_reorderTimeout : exec (.reorderTimeout c w) s = s.done fun t => t.timeout c.val w.toNat := rfl
theorem exec_reassemblyResync : exec (.reassemblyResync c) s = s.done fun t => t.resync c.val := rfl
theorem exec_skewReport : exec (.skewReport c) s = s.done fun t =>
    t.setRxCon c.val { t.rxCon c.val with skew := min 255 ((t.rxCon c.val).skewNow / 1000), skewNow := 0 } := rfl
theorem exec_reassemblySyncLost : exec (.reassemblySyncLost c) s = s.done fun t =>
    if t.rxOn c.val && t.contributors c.val == [] && (t.rxCon c.val).expected.isSome then t.collect c.val else t := rfl

end

section
variable {s : State} {k : Fin 16} {cell : LineCell} {c : Fin 64} {v : Nat} {w : BitVec 24}

/-! ## A received cell -/

theorem answers_cell_deaf (h : ¬s.Listens k) : Answers (.lineCellReceived k cell) s fun u => u.out = [] ∧ s.Frame u [] [] := by
  refine answers_done _ (exec_lineCellReceived s k cell) ?_
  have hdeaf : s.silent.cellIn k cell = s.silent := State.cellIn_deaf h
  rw [hdeaf]
  exact ⟨rfl, State.Frame.silent⟩

theorem answers_cell_heard : Answers (.lineCellReceived k cell) s fun u => u.out = [] ∧ s.Frame u State.cellRegs State.cellParts := by
  have hreceipt : State.Receipt s.silent (s.silent.cellIn k cell) := State.Receipt.refl.cellIn
  exact answers_done _ (exec_lineCellReceived s k cell) ⟨hreceipt.out, State.Frame.silent.trans hreceipt.frame⟩

theorem answers_cell_bad (h : s.Listens k) (hsound : s.Undamaged) (hbad : cellOk cell = false) :
    Answers (.lineCellReceived k cell) s fun u => u.rd .sch SCH.SCH_LAST.SEQ = cellSeq cell ∧ u.rd .sch SCH.SCH_LAST.KIND = 3
      ∧ u.tm = s.tm ∧ u.out = [] ∧ s.Frame u [(.sch, 0x04C)] [.ctr] := by
  refine answers_done _ (exec_lineCellReceived s k cell) ?_
  have hheard : s.silent.cellIn k cell = s.silent.heardCell (s.silent.rxConduit k) k cell := State.cellIn_heard h hsound
  rw [hheard, State.heardCell_bad hbad]
  exact ⟨State.schLast_seq _ _ 3 (cellSeq_lt cell), State.schLast_kind _ _ _ (by decide), State.schLast_tm _ _ _ _, State.schLast_out _ _ _ _,
    (State.Frame.silent.count (by decide)).schLast (by decide)⟩

theorem answers_cell_unknown (h : s.Listens k) (hsound : s.Undamaged) (hok : cellOk cell = true) (hkind : 2 ≤ cellKind cell) :
    Answers (.lineCellReceived k cell) s fun u => u.out = [] ∧ s.Frame u [] [.ctr] := by
  refine answers_done _ (exec_lineCellReceived s k cell) ?_
  have hheard : s.silent.cellIn k cell = s.silent.heardCell (s.silent.rxConduit k) k cell := State.cellIn_heard h hsound
  rw [hheard, State.heardCell_unknown hok hkind]
  exact ⟨rfl, State.Frame.silent.count (by decide)⟩

theorem answers_cell_stray (h : s.Listens k) (hsound : s.Undamaged) (hok : cellOk cell = true) (hkind : cellKind cell = 1)
    (hcon : s.rxConduit k = none) : Answers (.lineCellReceived k cell) s fun u => (u.word .sch 0x00C).getLsbD 5 = true ∧ u.tm = s.tm
      ∧ u.out = [] ∧ s.Frame u [(.sch, 0x00C)] State.eventParts := by
  refine answers_done _ (exec_lineCellReceived s k cell) ?_
  have hheard : s.silent.cellIn k cell = s.silent.heardCell none k cell := hcon ▸ State.cellIn_heard (s := s.silent) h hsound
  rw [hheard, State.heardCell_stray hok hkind]
  exact ⟨State.raise_bit _ nofun (by decide), State.raise_tm _ _ _, State.raise_out _ _ _,
    (State.Frame.silent.count (by decide)).raise (by decide) (by decide) (by decide) (by decide)⟩

section
variable (h : State.Brought s c.val k cell)
include h

theorem answers_cell_whole (hgoes : s.Goes c.val (cellLabel cell) (cell.body.take (cellValid cell + 1)))
    (he : (s.rxCon c.val).expected = some (cellSeq cell)) (hstore : (s.rxCon c.val).store = []) (hpart : (s.rxCon c.val).part = some [])
    (hsof : cellSof cell = true) (heof : cellEof cell = true)
    (hmark : ∀ x, (s.rxCon c.val).marks.getD k.val none = some x → seqAfter (cellSeq cell) x = true ∨ x = cellSeq cell) :
    let port := s.portOfLabel c.val (cellLabel cell)
    let prio := State.ebits (s.entry 1 5 (256 * c.val + cellLabel cell)) 0 8 3
    Answers (.lineCellReceived k cell) s fun u =>
      u.delivery port prio = s.delivery port prio ++ [{ bytes := cell.body.take (cellValid cell + 1), lenAdj := 0, bad := 0, steep := 0 }]
      ∧ (u.rxCon c.val).expected = some ((cellSeq cell + 1) % 2 ^ 24) ∧ (u.rxCon c.val).store = [] ∧ (u.rxCon c.val).part = some []
      ∧ u.out = [] := by
  have hreceipt : State.Receipt s.silent (s.silent.cellIn k cell) := State.Receipt.refl.cellIn
  obtain ⟨hdelivery, hexpected, hempty, hbuilt⟩ := h.silent.whole he hstore hpart hsof heof hmark hgoes
  exact answers_done _ (exec_lineCellReceived s k cell) ⟨hdelivery, hexpected, hempty, hbuilt, hreceipt.out⟩

theorem answers_cell_ahead {m : Fin 16} (he : (s.rxCon c.val).expected = some v) (hahead : seqAfter (cellSeq cell) v = true)
    (hnew : ∀ x ∈ (s.rxCon c.val).store, x.seq ≠ v ∧ x.seq ≠ cellSeq cell) (hm : m ∈ s.contributors c.val) (hne : m ≠ k)
    (hmark : ∀ x, (s.rxCon c.val).marks.getD m.val none = some x → seqAfter x v = false)
    (hroom : State.rxHeld (s.rxCon c.val) < s.reorderMax c.val) : Answers (.lineCellReceived k cell) s fun u =>
      (u.rxCon c.val).expected = some v
      ∧ (u.rxCon c.val).store = (s.rxCon c.val).store ++ [{ seq := cellSeq cell, cell := cell, arrived := s.time.toNat, bad := 0 }]
      ∧ u.tm.dq = s.tm.dq ∧ u.out = [] := by
  have hreceipt : State.Receipt s.silent (s.silent.cellIn k cell) := State.Receipt.refl.cellIn
  obtain ⟨hexpected, hstore, hdq⟩ := h.silent.ahead he hahead hnew hm hne hmark hroom
  exact answers_done _ (exec_lineCellReceived s k cell) ⟨hexpected, hstore, hdq, hreceipt.out⟩

theorem answers_cell_late (he : (s.rxCon c.val).expected = some v) (hlate : seqAfter v (cellSeq cell) = true) :
    Answers (.lineCellReceived k cell) s fun u => (u.word .sch 0x00C).getLsbD 2 = true ∧ u.out = [] := by
  have hreceipt : State.Receipt s.silent (s.silent.cellIn k cell) := State.Receipt.refl.cellIn
  exact answers_done _ (exec_lineCellReceived s k cell) ⟨h.silent.late he hlate, hreceipt.out⟩

end

/-! ## The other commands -/

theorem answers_timeout_given (he : (s.rxCon c.val).expected = some v) (hw : w.toNat = v)
    (hnew : ∀ x ∈ (s.rxCon c.val).store, x.seq ≠ v ∧ x.seq ≠ (v + 1) % 2 ^ 24)
    (hlater : ∃ x ∈ (s.rxCon c.val).store, seqAfter x.seq v = true)
    (hwaits : s.Waits c.val ((v + 1) % 2 ^ 24)) : Answers (.reorderTimeout c w) s fun u =>
      (u.word .sch 0x00C).getLsbD 1 = true ∧ u.rd .sch SCH.SCH_LAST.SEQ = v ∧ u.rd .sch SCH.SCH_LAST.CONDUIT = c.val
      ∧ u.rd .sch SCH.SCH_LAST.KIND = 1 ∧ u.rxCon c.val = { s.rxCon c.val with expected := some ((v + 1) % 2 ^ 24), part := none }
      ∧ u.out = [] ∧ s.Frame u [(.sch, 0x00C), (.sch, 0x04C)] (.tm :: State.eventParts) := by
  subst hw
  refine answers_done _ (exec_reorderTimeout s c w) ?_
  have hgiven : s.silent.timeout c.val w.toNat = s.silent.lose c.val 0 := State.timeout_given he hnew hlater hwaits
  have hreceipt : State.Receipt s.silent (s.silent.lose c.val 0) := State.Receipt.refl.lose
  obtain ⟨hevent, hseq, hconduit, hkind, hframe⟩ := State.lose_reports (s := s.silent) he w.isLt c.isLt
  rw [hgiven]
  exact ⟨hevent, hseq, hconduit, hkind, State.lose_rxCon (s := s.silent) he, hreceipt.out, State.Frame.silent.trans hframe⟩

theorem answers_timeout_idle (h : (s.rxCon c.val).expected = none
    ∨ (∃ v, (s.rxCon c.val).expected = some v ∧ w.toNat ≠ v ∧ seqAfter w.toNat v = false)
    ∨ ∃ x ∈ (s.rxCon c.val).store, x.seq = w.toNat) : Answers (.reorderTimeout c w) s fun u => u.out = [] ∧ s.Frame u [] [] := by
  refine answers_done _ (exec_reorderTimeout s c w) ?_
  have hidle : s.silent.timeout c.val w.toNat = s.silent := State.timeout_idle h
  rw [hidle]
  exact ⟨rfl, State.Frame.silent⟩

theorem answers_reassemblyResync (hon : s.rxOn c.val = true) (he : (s.rxCon c.val).expected = none)
    (hv : State.lowest (s.rxCon c.val).store = some v) : Answers (.reassemblyResync c) s fun u =>
      u = (s.silent.adopted c.val v).flow c.val ∧ (u.word .sch 0x00C).getLsbD 4 = true ∧ u.out = [] := by
  have hadopts : s.silent.resync c.val = (s.silent.adopted c.val v).flow c.val := State.resync_adopts hon he hv
  have hreceipt : State.Receipt s.silent ((s.silent.adopted c.val v).flow c.val) := State.Receipt.refl.adopted.flow
  refine answers_done _ (exec_reassemblyResync s c) ⟨hadopts, ?_⟩
  rw [hadopts]
  exact ⟨State.adopted_flow_event _ _ _, hreceipt.out⟩

theorem answers_reassemblyResync_idle (h : s.rxOn c.val = false ∨ (s.rxCon c.val).expected ≠ none ∨ (s.rxCon c.val).store = []) :
    Answers (.reassemblyResync c) s fun u => u.out = [] ∧ s.Frame u [] [] := by
  refine answers_done _ (exec_reassemblyResync s c) ?_
  have hidle : s.silent.resync c.val = s.silent := State.resync_idle h
  rw [hidle]
  exact ⟨rfl, State.Frame.silent⟩

theorem answers_skewReport : Answers (.skewReport c) s fun u =>
    u.rxCon c.val = { s.rxCon c.val with skew := min 255 ((s.rxCon c.val).skewNow / 1000), skewNow := 0 }
      ∧ u.tm = { s.tm with rx := u.tm.rx } ∧ u.out = [] ∧ s.Frame u [] [.tm] :=
  answers_done _ (exec_skewReport s c) ⟨State.rxCon_setRxCon_same s.silent c.val _, rfl, rfl, State.Frame.silent.setRxCon (by decide)⟩

theorem answers_syncLost (hon : s.rxOn c.val = true) (hnone : s.contributors c.val = []) (he : (s.rxCon c.val).expected ≠ none) :
    Answers (.reassemblySyncLost c) s fun u =>
      u.rxCon c.val = { s.rxCon c.val with
        expected := none, store := [], marks := List.replicate 16 none, part := some [], since := some s.time.toNat, hist := [] }
      ∧ u.tm = { s.tm with rx := u.tm.rx } ∧ u.out = [] ∧ s.Frame u [] [.tm, .ctr] := by
  have hlost : (s.rxOn c.val && s.contributors c.val == [] && (s.rxCon c.val).expected.isSome) = true := by
    rw [hon, hnone, Option.isSome_iff_ne_none.2 he]
    rfl
  obtain ⟨htm, hout, hframe⟩ := State.collect_frame s.silent c.val
  exact answers_done_if (exec_reassemblySyncLost s c) hlost
    ⟨State.collect_rxCon s.silent c.val, htm, hout, State.Frame.silent.trans hframe⟩

theorem answers_syncLost_idle (h : s.rxOn c.val = false ∨ s.contributors c.val ≠ [] ∨ (s.rxCon c.val).expected = none) :
    Answers (.reassemblySyncLost c) s fun u => u.out = [] ∧ s.Frame u [] [] := by
  refine answers_idle (exec_reassemblySyncLost s c) ?_
  show (s.rxOn c.val && s.contributors c.val == [] && (s.rxCon c.val).expected.isSome) = false
  obtain hoff | hmembers | hnone := h
  · rw [hoff]; rfl
  · rw [beq_false_of_ne hmembers, Bool.and_false]; rfl
  · rw [hnone]; exact Bool.and_false _

end

/-- Settles O41. What every received cell may change is one relation, `Receipt`, that each step of reassembly keeps; the cells that find sound
memories are followed to the store or to their port, and what is not due does not move. -/
theorem reassembly : Obligations.reassembly := by
  unfold Obligations.reassembly
  intro s k cell con w c r q listens sound data regs label e port prio bytes goes waits
  have hbrought : ∀ h : data, State.Brought s con.val k cell := by
    rintro ⟨⟨hlistens, hnil, -, hflip⟩, hok, hkind, hcon, hroom, hcontributes, hmarks⟩
    exact ⟨hlistens, State.undamaged_of_nil hnil, hflip, hok, hkind, hcon, hroom, hcontributes, hmarks⟩
  have hsound : sound → s.Undamaged := fun ⟨_, hnil, _⟩ => State.undamaged_of_nil hnil
  refine ⟨answers_cell_deaf, fun _ => answers_cell_heard, fun h => answers_cell_bad h.1 (hsound h), fun h => answers_cell_unknown h.1 (hsound h),
    fun h => answers_cell_stray h.1 (hsound h), fun h => answers_cell_whole (hbrought h), fun v m h he hahead hnew hm hne hmark hroom =>
      answers_cell_ahead (hbrought h) he hahead hnew hm hne hmark hroom, fun v h => answers_cell_late (hbrought h),
    fun v => answers_timeout_given, answers_timeout_idle, fun v => answers_reassemblyResync, answers_reassemblyResync_idle, answers_skewReport,
    answers_syncLost, answers_syncLost_idle⟩

end Sys2Proof.Machine
end
